-- ==== Sys2Proof/Word.lean ====
section
/-! DEFINITION. The types every other file is written in: words, bytes, records of bytes, bit fields, and sparse
tables with one canonical form. Their operations stand in Machine/Bits.lean and Machine/Tab.lean. -/

namespace Sys2Proof

/-- A 32-bit word: a register, a descriptor word, a binary32. -/
abbrev Word := BitVec 32

/-- One byte of host memory or of a retained area. -/
abbrev Byte := BitVec 8

/-- A record of `n` bytes as the manual lays it out, little-endian (R25): bit `8 * k + j` is bit `j` of byte `k`. -/
abbrev Rec (n : Nat) := BitVec (8 * n)

/-- A bit field of a record: its lowest bit, counted from bit 0 of byte 0, and its width. -/
structure Fld where
  lo : Nat
  w  : Nat
  deriving DecidableEq, Repr

/-- A bit field of a BAR0 register: the register's offset in the window, the lowest bit, the width. -/
structure RFld where
  off : Nat
  lo  : Nat
  w   : Nat
  deriving DecidableEq, Repr

/-- A sparse table: pairs of key and value. In its canonical form the keys rise strictly and no value equals what an
unlisted key reads as, so that equal tables are equal lists. -/
abbrev Tab (α : Type) := List (Nat × α)

/-- An instant or a span of time in units of 2^-32 s (the fraction unit of watch time, R16). -/
abbrev Time := Nat

end Sys2Proof
end

