-- ==== Sys2Proof/Syntax.lean ====
section
/-! DEFINITION. The commands that the module takes: one constructor for each row of the opcode table. The first operand of
each is the instant `t` at which it happens, in units of 2^-32 s since power-on; the others are what comes from outside the
module: what a host writes, a frame received, what an analogue circuit reads. -/

namespace Sys2Proof

/-- What a host command brings: its command ring, its 64-byte descriptor (R500), the contents of its input buffer as
one little-endian number (R540), and whether the buffer's transfer ends with a DMA error. -/
structure Cmd where
  ring : Nat
  desc : Rec 64
  inp : Nat
  dmaErr : Bool
  deriving DecidableEq, Repr

/-- An Apast frame (R392): the header fields and the payload. BUDGET and BUDGET_FRAC are one count of 6.25 ns (R415).
The payload holds the field at byte offset `o`, bit `b` of a table at bit `8 * o + b` (log entry 16). -/
structure Frame where
  dst : Nat
  src : Nat
  cls : Nat
  ptype : Nat
  seq : Nat
  twin : Bool
  late : Bool
  bcast : Bool
  dual : Bool
  ccw : Bool
  budget : Nat
  hops : Nat
  len : Nat
  payload : Nat
  /-- Bits [15:0] of HCRC and the FCS, as they came or went. -/
  hcrc : Nat := 0
  fcs : Nat := 0
  deriving DecidableEq, Repr

/-- The end of an UP port (R391): the port and what ended it: 0 loss of block lock, 1 eight uncorrectable codewords within 1 µs, 2 no
valid link word for 8 µs. -/
structure LinkDown where
  port : Nat
  cause : Nat
  deriving DecidableEq, Repr

/-- A watch that has run out (R625, R700): the instant now and that of the last refresh. -/
structure Lapse where
  now : Nat
  last : Nat
  deriving DecidableEq, Repr

/-- What faults have changed at the outputs (R624; AO n: n, DIO n: 16 + n) with the bits changed: held complements, and the next command
word on its way to an output. -/
structure TwinUpsets where
  held : List (Nat × Nat)
  transit : List (Nat × Nat)
  deriving DecidableEq, Repr

/-- A PTP message (R426; layout of IEEE 1588-2019): type (0 Sync, 1 Delay_Req, 8 Follow_Up, 9 Delay_Resp, 11 Announce), domain,
sequence, source port identity, two-step flag, the timestamp it carries in 48-bit seconds and nanoseconds, the correction
in 2^-16 ns, the requesting port identity of a Delay_Resp, and what an Announce holds: the order of its data set by the default
BMCA (a lower number is better), currentUtcOffset and whether it is valid, leap61, leap59. -/
structure PtpMsg where
  typ : Nat
  domain : Nat
  seq : Nat
  src : Nat
  twoStep : Bool
  sec : Nat
  ns : Nat
  corr : Int
  req : Nat
  rank : Nat
  utcOfs : Int
  utcValid : Bool
  leap61 : Bool
  leap59 : Bool
  deriving DecidableEq, Repr

/-- An element of a sampled-value dataset (R424): INT32 value, validity "invalid", overflow or out-of-range. -/
structure SvElem where
  value : Nat
  invalid : Bool
  above : Bool
  deriving DecidableEq, Repr

/-- A sampled-value ASDU (R424): CRC-32C of its svID, confRev, smpCnt, samples per second, smpSynch, its elements. -/
structure Asdu where
  svid : Nat
  confRev : Nat
  smpCnt : Nat
  rate : Nat
  synch : Nat
  elems : List SvElem
  deriving DecidableEq, Repr

/-- What an Ethernet frame carries (R422). Byte `k` of a UDP payload is byte `k` of the number. -/
inductive EthBody where
  /-- EtherType 0x88F7. -/
  | ptpL2 (m : PtpMsg)
  /-- EtherType 0x88BA: APPID and ASDUs. -/
  | sv (appid : Nat) (asdus : List Asdu)
  /-- An ARP request, an ICMPv6 Neighbour Solicitation: the address asked for. -/
  | arp (target : Nat)
  | ns (target : Nat)
  /-- UDP over IPv4 (`v6` false) or IPv6: destination address and port, whether the IP header and the checksums pass R422, the
  payload and its length, and the PTP message that it is, if it is one. -/
  | udp (v6 : Bool) (dst port : Nat) (ok : Bool) (payload len : Nat) (ptp : Option PtpMsg)
  | other
  deriving DecidableEq, Repr

/-- A frame on an Ethernet-mode port (R421): length, FCS, destination MAC, VLAN ID if it is tagged (0: priority-tagged). -/
structure EthFrame where
  len : Nat
  fcsOk : Bool
  dst : Nat
  vid : Option Nat
  body : EthBody
  deriving DecidableEq, Repr

/-- The commands that the module takes, with the rule that gives each. -/
inductive Instr where
  /-- NOP (R546). -/
  | nop (t : Nat) (c : Cmd)
  /-- RING_CREATE (R494). -/
  | ringCreate (t : Nat) (c : Cmd)
  /-- RING_DELETE (R495). -/
  | ringDelete (t : Nat) (c : Cmd)
  /-- RING_TUNE (R546). -/
  | ringTune (t : Nat) (c : Cmd)
  /-- RING_QUERY (R546). -/
  | ringQuery (t : Nat) (c : Cmd)
  /-- SYS_STATUS (R546). -/
  | sysStatus (t : Nat) (c : Cmd)
  /-- CFG_COMMIT (R766). -/
  | cfgCommit (t : Nat) (c : Cmd)
  /-- CFG_FACTORY (R770). -/
  | cfgFactory (t : Nat) (c : Cmd)
  /-- CFG_CONFIRM (R772). -/
  | cfgConfirm (t : Nat) (c : Cmd)
  /-- PNT_CONFIG (R549). -/
  | pntConfig (t : Nat) (c : Cmd)
  /-- PNT_CONFIG_EXPERT (R548). -/
  | pntConfigExpert (t : Nat) (c : Cmd)
  /-- PNT_DELETE (R550). -/
  | pntDelete (t : Nat) (c : Cmd)
  /-- PNT_READ (R550). -/
  | pntRead (t : Nat) (c : Cmd)
  /-- PNT_FORCE (R55). -/
  | pntForce (t : Nat) (c : Cmd)
  /-- PNT_UNFORCE (R55). -/
  | pntUnforce (t : Nat) (c : Cmd)
  /-- PNT_SIM_START (R56). -/
  | pntSimStart (t : Nat) (c : Cmd)
  /-- PNT_SIM_VALUE (R56). -/
  | pntSimValue (t : Nat) (c : Cmd)
  /-- PNT_SIM_END (R56). -/
  | pntSimEnd (t : Nat) (c : Cmd)
  /-- PNT_OUTPUT (R50). -/
  | pntOutput (t : Nat) (c : Cmd)
  /-- PNT_RESET (R550). -/
  | pntReset (t : Nat) (c : Cmd)
  /-- PNT_VOTE_BIND (R66). -/
  | pntVoteBind (t : Nat) (c : Cmd)
  /-- PNT_PROFILE_WRITE (R84). -/
  | pntProfileWrite (t : Nat) (c : Cmd)
  /-- PNT_PROFILE_READ (R550). -/
  | pntProfileRead (t : Nat) (c : Cmd)
  /-- ALM_ACK (R111). -/
  | almAck (t : Nat) (c : Cmd)
  /-- ALM_SHELVE (R117). -/
  | almShelve (t : Nat) (c : Cmd)
  /-- ALM_UNSHELVE (R114). -/
  | almUnshelve (t : Nat) (c : Cmd)
  /-- ALM_OOS (R114). -/
  | almOos (t : Nat) (c : Cmd)
  /-- ALM_RETURN (R116). -/
  | almReturn (t : Nat) (c : Cmd)
  /-- ALM_COND_READ (R552). -/
  | almCondRead (t : Nat) (c : Cmd)
  /-- ALM_ADAPT_HOLD (R552). -/
  | almAdaptHold (t : Nat) (c : Cmd)
  /-- SEC_CONFIG (R555). -/
  | secConfig (t : Nat) (c : Cmd)
  /-- SEC_READ (R555). -/
  | secRead (t : Nat) (c : Cmd)
  /-- SEC_FO_RESET (R155). -/
  | secFoReset (t : Nat) (c : Cmd)
  /-- SEC_CAUSE_SET (R163). -/
  | secCauseSet (t : Nat) (c : Cmd)
  /-- SEC_CAUSE_DELETE (R163). -/
  | secCauseDelete (t : Nat) (c : Cmd)
  /-- SEC_CAUSE_READ (R555). -/
  | secCauseRead (t : Nat) (c : Cmd)
  /-- SEC_MIRROR_BIND (R167). -/
  | secMirrorBind (t : Nat) (c : Cmd)
  /-- CMW_CHANNEL (R556). -/
  | cmwChannel (t : Nat) (c : Cmd)
  /-- CMW_BAND (R205). -/
  | cmwBand (t : Nat) (c : Cmd)
  /-- CMW_SPEED_REF (R197). -/
  | cmwSpeedRef (t : Nat) (c : Cmd)
  /-- CMW_BIND (R208). -/
  | cmwBind (t : Nat) (c : Cmd)
  /-- CMW_BASELINE (R556). -/
  | cmwBaseline (t : Nat) (c : Cmd)
  /-- CMW_CAPTURE_DEF (R217). -/
  | cmwCaptureDef (t : Nat) (c : Cmd)
  /-- CMW_CAPTURE_TRIG (R556). -/
  | cmwCaptureTrig (t : Nat) (c : Cmd)
  /-- CMW_CAPTURE_STOP (R220). -/
  | cmwCaptureStop (t : Nat) (c : Cmd)
  /-- CMW_READ (R556). -/
  | cmwRead (t : Nat) (c : Cmd)
  /-- CTL_LOOP_CONFIG (R231). -/
  | ctlLoopConfig (t : Nat) (c : Cmd)
  /-- CTL_SUP_CONFIG (R275). -/
  | ctlSupConfig (t : Nat) (c : Cmd)
  /-- CTL_MODE (R256). -/
  | ctlMode (t : Nat) (c : Cmd)
  /-- CTL_MAN_OUT (R256). -/
  | ctlManOut (t : Nat) (c : Cmd)
  /-- CTL_SETPOINT (R558). -/
  | ctlSetpoint (t : Nat) (c : Cmd)
  /-- CTL_COMP_TABLE (R558). -/
  | ctlCompTable (t : Nat) (c : Cmd)
  /-- CTL_SUP_RESET (R289). -/
  | ctlSupReset (t : Nat) (c : Cmd)
  /-- CTL_TUNE_START (R292). -/
  | ctlTuneStart (t : Nat) (c : Cmd)
  /-- CTL_TUNE_STOP (R297). -/
  | ctlTuneStop (t : Nat) (c : Cmd)
  /-- CTL_TUNE_READ (R296). -/
  | ctlTuneRead (t : Nat) (c : Cmd)
  /-- CTL_LOOP_READ (R558). -/
  | ctlLoopRead (t : Nat) (c : Cmd)
  /-- CTL_LOOP_DELETE (R558). -/
  | ctlLoopDelete (t : Nat) (c : Cmd)
  /-- BCN_TABLE_WRITE (R559). -/
  | bcnTableWrite (t : Nat) (c : Cmd)
  /-- BCN_TABLE_READ (R559). -/
  | bcnTableRead (t : Nat) (c : Cmd)
  /-- BCN_ACCEPT (R312). -/
  | bcnAccept (t : Nat) (c : Cmd)
  /-- BCN_DM (R318). -/
  | bcnDm (t : Nat) (c : Cmd)
  /-- BCN_UMS (R303). -/
  | bcnUms (t : Nat) (c : Cmd)
  /-- BCN_HOST_CALL (R304). -/
  | bcnHostCall (t : Nat) (c : Cmd)
  /-- LDG_BINSET (R334). -/
  | ldgBinset (t : Nat) (c : Cmd)
  /-- LDG_VIEW (R348). -/
  | ldgView (t : Nat) (c : Cmd)
  /-- LDG_FLUSH (R354). -/
  | ldgFlush (t : Nat) (c : Cmd)
  /-- LDG_SNAPSHOT (R561). -/
  | ldgSnapshot (t : Nat) (c : Cmd)
  /-- LDG_TRIP_ARM (R360). -/
  | ldgTripArm (t : Nat) (c : Cmd)
  /-- LDG_TRIP_STOP (R360). -/
  | ldgTripStop (t : Nat) (c : Cmd)
  /-- LDG_TRIP_TRIGGER (R561). -/
  | ldgTripTrigger (t : Nat) (c : Cmd)
  /-- LDG_TRIP_READ (R561). -/
  | ldgTripRead (t : Nat) (c : Cmd)
  /-- HST_VOL_CREATE (R364). -/
  | hstVolCreate (t : Nat) (c : Cmd)
  /-- HST_VOL_ERASE (R369). -/
  | hstVolErase (t : Nat) (c : Cmd)
  /-- HST_VOL_DELETE (R369). -/
  | hstVolDelete (t : Nat) (c : Cmd)
  /-- HST_REMOUNT (R368). -/
  | hstRemount (t : Nat) (c : Cmd)
  /-- HST_LEG_REPLACE (R371). -/
  | hstLegReplace (t : Nat) (c : Cmd)
  /-- HST_READ (R561). -/
  | hstRead (t : Nat) (c : Cmd)
  /-- LTN_TILE (R646). -/
  | ltnTile (t : Nat) (c : Cmd)
  /-- LTN_FRAME_WRITE (R652). -/
  | ltnFrameWrite (t : Nat) (c : Cmd)
  /-- LTN_SHOW (R652). -/
  | ltnShow (t : Nat) (c : Cmd)
  /-- FAB_ROUTE_WRITE (R445). -/
  | fabRouteWrite (t : Nat) (c : Cmd)
  /-- FAB_ROUTE_READ (R563). -/
  | fabRouteRead (t : Nat) (c : Cmd)
  /-- FAB_ROUTE_COMMIT (R474). -/
  | fabRouteCommit (t : Nat) (c : Cmd)
  /-- FAB_EPOCH (R474). -/
  | fabEpoch (t : Nat) (c : Cmd)
  /-- FAB_QUENCH (R478). -/
  | fabQuench (t : Nat) (c : Cmd)
  /-- FAB_LEAVE (R477). -/
  | fabLeave (t : Nat) (c : Cmd)
  /-- FAB_HANDBACK (R465). -/
  | fabHandback (t : Nat) (c : Cmd)
  /-- FAB_PORT_CTRL (R563). -/
  | fabPortCtrl (t : Nat) (c : Cmd)
  /-- FAB_SV (R440). -/
  | fabSv (t : Nat) (c : Cmd)
  /-- UPDATE_BEGIN (R718). -/
  | updateBegin (t : Nat) (c : Cmd)
  /-- UPDATE_DATA (R564). -/
  | updateData (t : Nat) (c : Cmd)
  /-- UPDATE_END (R716). -/
  | updateEnd (t : Nat) (c : Cmd)
  /-- UPDATE_ACTIVATE (R718). -/
  | updateActivate (t : Nat) (c : Cmd)
  /-- LOG_READ (R714). -/
  | logRead (t : Nat) (c : Cmd)
  /-- SENSOR_READ (R730). -/
  | sensorRead (t : Nat) (c : Cmd)
  /-- UPDATE_CANCEL (R718). -/
  | updateCancel (t : Nat) (c : Cmd)
  /-- MGMT_HELLO (R722). -/
  | mgmtHello (t p conn : Nat)
  /-- MGMT_AUTH (R722). -/
  | mgmtAuth (t p conn cred sig : Nat)
  /-- MGMT_MAILBOX (R722). -/
  | mgmtMailbox (t p conn sub bank arg n data : Nat)
  /-- MGMT_CLOSE (R722). -/
  | mgmtClose (t p conn : Nat)
  /-- MGMT_SESSION_IDLE (R722). -/
  | mgmtSessionIdle (t p : Nat)
  /-- MGMT_LOCKOUT_END (R722). -/
  | mgmtLockoutEnd (t p : Nat)
  /-- DEBUG_HALT (R726). -/
  | debugHalt (t : Nat)
  /-- DEBUG_RUN (R726). -/
  | debugRun (t : Nat) (step : Bool)
  /-- DEBUG_SESSION_EXPIRE (R724). -/
  | debugSessionExpire (t : Nat)
  /-- DOORBELL_COUNT_WRITE (R496). -/
  | doorbellCountWrite (t fn off size v : Nat)
  /-- DOORBELL_ARM_WRITE (R523). -/
  | doorbellArmWrite (t fn off size v : Nat)
  /-- DESCRIPTOR_FETCH (R504). -/
  | descriptorFetch (t : Nat) (desc : Rec 64)
  /-- COMPLETION_WRITE (R504). -/
  | completionWrite (t r : Nat)
  /-- EVENT_BACKLOG_DRAIN (R517). -/
  | eventBacklogDrain (t r : Nat)
  /-- VECTOR_COALESCE_EXPIRE (R523). -/
  | vectorCoalesceExpire (t r : Nat)
  /-- MSIX_UNMASK (R488). -/
  | msixUnmask (t fn vec : Nat)
  /-- DATA_IN_SEND (R518). -/
  | dataInSend (t ring data : Nat) (dmaErr : Bool)
  /-- DATA_OUT_WRITEBACK (R522). -/
  | dataOutWriteback (t r : Nat)
  /-- DMA_ERROR (R530). -/
  | dmaError (t r status : Nat)
  /-- FUNCTION_LEVEL_RESET (R529). -/
  | functionLevelReset (t kind req fn : Nat)
  /-- FN_QUENCH_WRITE (R528). -/
  | fnQuenchWrite (t req fn : Nat) (v : Bool)
  /-- ADM_EN_WRITE (R535). -/
  | admEnWrite (t req fn : Nat) (v : Bool)
  /-- HIF_QUENCH_WRITE (R528). -/
  | hifQuenchWrite (t req v : Nat)
  /-- TWIN_WRITE_OPEN (R588). -/
  | twinWriteOpen (t req off v : Nat)
  /-- TWIN_WRITE_CLOSE (R588). -/
  | twinWriteClose (t req off v : Nat)
  /-- TWIN_WRITE_TIMEOUT (R588). -/
  | twinWriteTimeout (t req : Nat)
  /-- WLD_LOCK_SET (R583). -/
  | wldLockSet (t req v : Nat)
  /-- WLD_WORLD_CHANGE (R582). -/
  | wldWorldChange (t req k v : Nat)
  /-- WLD_HREG_APPLY (R577). -/
  | wldHregApply (t req n v : Nat)
  /-- REGISTER_WRITE (R790). -/
  | registerWrite (t req off size v : Nat)
  /-- RC_FIELD_READ (R789). -/
  | rcFieldRead (t req off size : Nat) (quiet : Bool)
  /-- ALM_SEQ_LO_READ (R139). -/
  | almSeqLoRead (t req : Nat) (quiet : Bool)
  /-- ALM_SPILL_EXIT_WRITE (R109). -/
  | almSpillExitWrite (t req v : Nat)
  /-- SUPP_EN_CHANGE (R164). -/
  | suppEnChange (t req v : Nat)
  /-- FLOOD_EN_CLEAR (R171). -/
  | floodEnClear (t req : Nat) (w : Option Nat) (v : Nat)
  /-- HOLD_ALL_SET (R258). -/
  | holdAllSet (t req v : Nat)
  /-- PANEL_EN_WRITE (R655). -/
  | panelEnWrite (t req v : Nat)
  /-- RETAIN_WRITE (R655). -/
  | retainWrite (t req v : Nat)
  /-- HART_TX_WRITE (R617). -/
  | hartTxWrite (t req n v : Nat)
  /-- HART_RX_READ (R617). -/
  | hartRxRead (t req n : Nat) (quiet : Bool)
  /-- KPR_RESTART (R699). -/
  | kprRestart (t req v : Nat)
  /-- FAN_RESTART (R710). -/
  | fanRestart (t req n v : Nat)
  /-- RTC_CAPTURE (R740). -/
  | rtcCapture (t req v : Nat)
  /-- RTC_SET (R742). -/
  | rtcSet (t req v : Nat)
  /-- RTC_SHIFT (R743). -/
  | rtcShift (t req v : Nat)
  /-- PWRON_RELEASE (R754). -/
  | pwronRelease (t req v : Nat)
  /-- POINT_UPDATE_APPLY (R61). -/
  | pointUpdateApply (t tile : Nat) (upset : List (Nat × Nat)) (img : Bool)
  /-- SCAN_TICK (R60). -/
  | scanTick (t : Nat)
  /-- DELAY_TIMER_EXPIRE (R105). -/
  | delayTimerExpire (t tile : Nat)
  /-- COARSE_SLOT_SERVE (R108). -/
  | coarseSlotServe (t : Nat)
  /-- SHELVE_SWEEP (R117). -/
  | shelveSweep (t tile : Nat)
  /-- ADAPT_SWEEP (R130). -/
  | adaptSweep (t tile : Nat)
  /-- SUPPRESSION_INPUT (R114). -/
  | suppressionInput (t : Nat)
  /-- POINT_RECORD_SCRUB (R37). -/
  | pointRecordScrub (t p flips : Nat) (img : Bool)
  /-- HELD_TWIN_SCRUB (R590). -/
  | heldTwinScrub (t : Nat) (upset : List (Nat × Nat × Nat)) (img : Bool)
  /-- SECTOR_CHANGE_PROCESS (R175). -/
  | sectorChangeProcess (t : Nat)
  /-- SETTLE_TIMER_EXPIRE (R163). -/
  | settleTimerExpire (t : Nat)
  /-- RELEASE_TIMER_EXPIRE (R163). -/
  | releaseTimerExpire (t : Nat)
  /-- FLOOD_RECOUNT (R171). -/
  | floodRecount (t : Nat)
  /-- FLOOD_RELEASE_DONE (R173). -/
  | floodReleaseDone (t : Nat)
  /-- SECTOR_AUDIT (R177). -/
  | sectorAudit (t : Nat) (flips supp : List (Nat × Nat))
  /-- EDGE_COMPACTION_DONE (R161). -/
  | edgeCompactionDone (t : Nat)
  /-- MIRROR_TIMEOUT (R168). -/
  | mirrorTimeout (t e : Nat)
  /-- MIRROR_HOLD_EXPIRE (R168). -/
  | mirrorHoldExpire (t e : Nat)
  /-- MIRROR_REFRESH_SEND (R167). -/
  | mirrorRefreshSend (t n : Nat)
  /-- MIRROR_ACK_TIMEOUT (R553). -/
  | mirrorAckTimeout (t : Nat)
  /-- CMW_BLOCK (R193). -/
  | cmwBlock (t : Nat)
  /-- FRAME_FEATURES (R209). -/
  | frameFeatures (t : Nat)
  /-- TACH_PULSE (R622). -/
  | tachPulse (t dio : Nat)
  /-- SPEED_STOPPED (R199). -/
  | speedStopped (t ch : Nat)
  /-- CAPTURE_END (R220). -/
  | captureEnd (t d : Nat)
  /-- BASELINE_CHECKPOINT (R215). -/
  | baselineCheckpoint (t : Nat)
  /-- LOOP_EVALUATE (R247). -/
  | loopEvaluate (t l upset : Nat)
  /-- LOOP_FRAME_DEPART (R264). -/
  | loopFrameDepart (t port : Nat)
  /-- STAGE_TIMER_EXPIRE (R312). -/
  | stageTimerExpire (t key : Nat)
  /-- ATTEND_TIMER_EXPIRE (R312). -/
  | attendTimerExpire (t key : Nat)
  /-- DEADMAN_TIMER_EXPIRE (R318). -/
  | deadmanTimerExpire (t u : Nat)
  /-- STATION_LOST_TIMEOUT (R306). -/
  | stationLostTimeout (t n : Nat)
  /-- BCN_CALL_REPEAT (R405). -/
  | bcnCallRepeat (t station key : Nat)
  /-- BCN_STATUS (R306). -/
  | bcnStatus (t node : Nat) (fault : Bool)
  /-- BCN_STATION_EVT (R405). -/
  | bcnStationEvt (t node evt key evtSeq : Nat)
  /-- HIST_BOUNDARY (R338). -/
  | histBoundary (t : Nat)
  /-- LEDGER_AGE_FLUSH (R354). -/
  | ledgerAgeFlush (t : Nat)
  /-- LSHIP_LEDGER_PASS (R356). -/
  | lshipLedgerPass (t : Nat)
  /-- SPOOL_REPLAY (R358). -/
  | spoolReplay (t : Nat)
  /-- NVME_COMPLETION (R361). -/
  | nvmeCompletion (t k : Nat) (ok : Bool) (seg : Nat)
  /-- NVME_TIMEOUT (R363). -/
  | nvmeTimeout (t k : Nat) (resetBad : Bool)
  /-- CONTROLLER_ARRIVAL (R362). -/
  | controllerArrival (t serial port bdf : Nat) (vwc : Bool) (ns : List (Nat × Nat × Bool))
  /-- VOLUME_MOUNT (R368). -/
  | volumeMount (t v : Nat) (segs : List (Option Nat × Option Nat))
  /-- DEALLOCATION_COMPLETE (R369). -/
  | deallocationComplete (t v : Nat)
  /-- LEG_SYNC_COMPLETE (R371). -/
  | legSyncComplete (t v : Nat)
  /-- FRAME_RECEIVE (R394). -/
  | frameReceive (t port kind lseq plen : Nat) (f : Frame) (hcrc fcs : Nat)
  /-- EGRESS_SEND (R419). -/
  | egressSend (t port : Nat)
  /-- PAIR_WAIT_EXPIRE (R458). -/
  | pairWaitExpire (t : Nat)
  /-- REROUTE_WAIT_EXPIRE (R447). -/
  | rerouteWaitExpire (t : Nat)
  /-- CREDIT (R407). -/
  | credit (t port word crc : Nat)
  /-- RETRY_TIMER_EXPIRE (R411). -/
  | retryTimerExpire (t port : Nat)
  /-- CREDIT_SEND (R389). -/
  | creditSend (t port : Nat)
  /-- DREQ (R389). -/
  | dreq (t port word crc : Nat)
  /-- DREQ_SEND (R389). -/
  | dreqSend (t port : Nat)
  /-- DRESP (R428). -/
  | dresp (t port word crc : Nat)
  /-- INIT (R390). -/
  | init (t port word crc : Nat)
  /-- INIT_SEND (R390). -/
  | initSend (t port : Nat)
  /-- INIT_TIMEOUT (R390). -/
  | initTimeout (t port : Nat)
  /-- LINK_TRAINED (R390). -/
  | linkTrained (t port : Nat)
  /-- PORT_LINK_DOWN (R391). -/
  | portLinkDown (t : Nat) (down : LinkDown)
  /-- CONTACT_LOSS (R465). -/
  | contactLoss (t k : Nat)
  /-- TAKEOVER (R466). -/
  | takeover (t k : Nat)
  /-- HANDBACK_TIMEOUT (R465). -/
  | handbackTimeout (t k : Nat)
  /-- HEARTBEAT_SEND (R464). -/
  | heartbeatSend (t : Nat)
  /-- ALIAS_LEARN_TIMEOUT (R467). -/
  | aliasLearnTimeout (t : Nat)
  /-- REPL_FRAME_SEND (R463). -/
  | replFrameSend (t : Nat)
  /-- EPOCH_SWITCH (R474). -/
  | epochSwitch (t : Nat)
  /-- QUENCH_LAPSE (R478). -/
  | quenchLapse (t k : Nat)
  /-- TIME_SYNC_SEND (R427). -/
  | timeSyncSend (t : Nat)
  /-- TIME_HOLDOVER (R431). -/
  | timeHoldover (t : Nat)
  /-- ROOT_RTC_COMPARE (R752). -/
  | rootRtcCompare (t : Nat)
  /-- ETH_FRAME_RECEIVE (R422). -/
  | ethFrameReceive (t port : Nat) (f : EthFrame)
  /-- PTP_MASTER_SEND (R426). -/
  | ptpMasterSend (t port : Nat)
  /-- AI_CONVERSION (R601). -/
  | aiConversion (t n : Nat) (num : Int) (den : Nat) (cj : Option Nat)
  /-- LEAD_PHASE (R607). -/
  | leadPhase (t n : Nat) (pair : Option Nat)
  /-- AI_OVERVOLTAGE (R611). -/
  | aiOvervoltage (t n : Nat) (on : Bool)
  /-- DIO_EDGE_ACCEPT (R620). -/
  | dioEdgeAccept (t : Nat) (edges : List (Nat × Bool))
  /-- DO_OVERLOAD (R623). -/
  | doOverload (t ch : Nat)
  /-- DO_OVERLOAD_RETRY (R623). -/
  | doOverloadRetry (t ch : Nat) (gone : Bool)
  /-- DO_READBACK_MISMATCH (R623). -/
  | doReadbackMismatch (t ch : Nat)
  /-- AO_SUPERVISION (R614, R615): loop current in µA, terminal voltage in mV, stage temperature in °C. -/
  | aoSupervision (t n iUa vTerm : Nat) (temp : Int) (den : Nat)
  /-- HART_TRANSMIT_START (R617). -/
  | hartTransmitStart (t n : Nat)
  /-- HART_BYTE_RECEIVE (R617). -/
  | hartByteReceive (t n byte : Nat) (bad : Bool)
  /-- OUTPUT_TWIN_CHECK (R624). -/
  | outputTwinCheck (t : Nat) (upsets : TwinUpsets)
  /-- LIO_SAFE_ENTER (R625); `last`: instant of the last watchdog refresh. -/
  | lioSafeEnter (w : Lapse)
  /-- LIO_SAFE_EXIT (R627). -/
  | lioSafeExit (t : Nat)
  /-- PULSE_END (R630). -/
  | pulseEnd (t k : Nat)
  /-- LIO_PULSE_DROP (R631). -/
  | lioPulseDrop (t k : Nat)
  /-- DEMAG_END (R632). -/
  | demagEnd (t ch : Nat)
  /-- TILE_COMPOSE_DONE (R650). -/
  | tileComposeDone (t : Nat)
  /-- LIGHT_PHASE_EDGE (R648). -/
  | lightPhaseEdge (t : Nat)
  /-- PANEL_SWEEP_CHECK (R645). -/
  | panelSweepCheck (t : Nat) (flips : List (Nat × Nat))
  /-- PANEL_START_DONE (R656). -/
  | panelStartDone (t : Nat)
  /-- PANEL_STOP_DONE (R657). -/
  | panelStopDone (t : Nat)
  /-- LTN_BIAS_FAULT (R659). -/
  | ltnBiasFault (t mv : Nat)
  /-- CHARGE_PUMP_RESTART (R659). -/
  | chargePumpRestart (t : Nat)
  /-- FRAME_COPY_WRITE (R654). -/
  | frameCopyWrite (t : Nat)
  /-- PWR_FAIL_WARN (R681). -/
  | pwrFailWarn (t cause mv store : Nat)
  /-- PWR_MAIN_RETURN (R689). -/
  | pwrMainReturn (t mv store : Nat)
  /-- EMER_CHANGE (R668). -/
  | emerChange (t : Nat) (valid : Bool) (mv store : Nat)
  /-- FIELD_CHANGE (R669). -/
  | fieldChange (t : Nat) (valid : Bool) (mv : Nat)
  /-- PWR_SCAP_LOW (R672). -/
  | pwrScapLow (t mv : Nat)
  /-- PWR_LSHIP_FAIL (R673). -/
  | pwrLshipFail (t mv : Nat)
  /-- LIGHTSHIP_STOP (R673). -/
  | lightshipStop (t : Nat)
  /-- SCAP_FULL (R670). -/
  | scapFull (t : Nat)
  /-- LREF_LOSS (R676). -/
  | lrefLoss (t : Nat)
  /-- LSHIP_HANDBACK (R690). -/
  | lshipHandback (t : Nat)
  /-- LOGIC_SIDE_RETURN (R691). -/
  | logicSideReturn (t : Nat)
  /-- LSHIP_EVALUATE (R686). -/
  | lshipEvaluate (t : Nat)
  /-- THERMAL_TRIP (R708). -/
  | thermalTrip (t n value mv : Nat)
  /-- THERMAL_CLEAR (R708). -/
  | thermalClear (t n value : Nat)
  /-- KEEPER_RESET (R699). -/
  | keeperReset (t : Nat)
  /-- KEEPER_WATCHDOG (R700). -/
  | keeperWatchdog (w : Lapse)
  /-- LOCKSTEP_FAULT (R698). -/
  | lockstepFault (t pc : Nat)
  /-- ECC_ERROR (R699). -/
  | eccError (t : Nat)
  /-- MASK_ROM_BOOT (R719). -/
  | maskRomBoot (t corrupt : Nat)
  /-- TRIAL_END (R719). -/
  | trialEnd (t : Nat)
  /-- UPDATE_IDLE_TIMEOUT (R718). -/
  | updateIdleTimeout (t : Nat)
  /-- NOR_WINDOW_EXPIRE (R721). -/
  | norWindowExpire (t what : Nat)
  /-- SENSOR_LIMIT (R706). -/
  | sensorLimit (t n value : Nat) (fault : Bool)
  /-- FAN_START_JUDGE (R710). -/
  | fanStartJudge (t n rpm ma : Nat)
  /-- FAN_RETRY_WAIT_END (R710). -/
  | fanRetryWaitEnd (t n : Nat)
  /-- FAN_STALL_DETECT (R710). -/
  | fanStallDetect (t n rpm ma : Nat)
  /-- FAN_TACH_RECOVER (R710). -/
  | fanTachRecover (t n rpm ma : Nat)
  /-- FAN_CURVE_UPDATE (R709). -/
  | fanCurveUpdate (t : Nat)
  /-- KEEPER_LOG_WRITE (R713). -/
  | keeperLogWrite (t : Nat)
  /-- STORE_BLOCK_RETIRE (R704). -/
  | storeBlockRetire (t off : Nat) (items : List Nat) (pct : Nat)
  /-- BACKUP_SWITCHOVER (R734). -/
  | backupSwitchover (t : Nat)
  /-- VBAK_MEASURE (R735). -/
  | vbakMeasure (t mv : Nat)
  /-- BACKUP_POR (R736). -/
  | backupPor (t : Nat)
  /-- CRYSTAL_FAIL (R751). -/
  | crystalFail (t : Nat)
  /-- TRIM_WINDOW_END (R748). -/
  | trimWindowEnd (t : Nat) (watch : Bool) (n : Nat) (segs : List Nat) (cut : Bool)
  /-- CALENDAR_ALARM (R755). -/
  | calendarAlarm (t : Nat)
  /-- PWRON_PULSE_END (R754). -/
  | pwronPulseEnd (t : Nat)
  /-- PWRON_HOLDOFF_END (R754). -/
  | pwronHoldoffEnd (t : Nat)
  /-- LSHIP_POWER_GOOD (R781). -/
  | lshipPowerGood (t corrupt src store : Nat)
  /-- RESTORE_DONE (R771). -/
  | restoreDone (t : Nat) (bad : List Nat)
  /-- AUTO_COMMIT (R768). -/
  | autoCommit (t : Nat)
  /-- CHECKPOINT_WRITE (R775). -/
  | checkpointWrite (t b : Nat)
  /-- LOOP_BLOCK_WRITE (R774). -/
  | loopBlockWrite (t : Nat)
  /-- LOOP_CONFIG_SCRUB (R265). -/
  | loopConfigScrub (t l flips flipsSup : Nat) (img : Bool)
  /-- RESYNC_COMPLETE (R465). -/
  | resyncComplete (t k : Nat)
  /-- CONTROLLER_PATH_LINK_DOWN (R363). -/
  | controllerPathLinkDown (t n : Nat)
  /-- UTC_DAY_END_LEAP (R434). -/
  | utcDayEndLeap (t : Nat)
  /-- LREF_RETURN (R676). -/
  | lrefReturn (t : Nat)
  /-- CRYSTAL_RETURN (R751). -/
  | crystalReturn (t : Nat)
  /-- SCAP_CHARGE_RESTART (R670). -/
  | scapChargeRestart (t mv : Nat)
  /-- COMMIT_COMPLETE (R766). -/
  | commitComplete (t : Nat)
  /-- KEEPER_READY (R699). -/
  | keeperReady (t : Nat) (bad : List Nat)
  /-- HOST_LINK_TRAINED (R532). -/
  | hostLinkTrained (t gen width : Nat) (flit : Bool)
  /-- PANEL_TEMPERATURE_CHANGE (R658). -/
  | panelTemperatureChange (t ohm den : Nat)
  /-- PANEL_LINE_SENT (R642). -/
  | panelLineSent (t : Nat)
  /-- HART_RX_GAP (R617). -/
  | hartRxGap (t n : Nat)
  /-- HART_TRANSMIT_END (R617). -/
  | hartTransmitEnd (t n : Nat)
  /-- MGMT_ARP_ICMP_ECHO (R722). -/
  | mgmtArpIcmpEcho (t p kind n data : Nat)
  /-- SOUNDER_FOLDBACK (R831). -/
  | sounderFoldback (t : Nat)
  /-- SOUNDER_FOLDBACK_END (R831). -/
  | sounderFoldbackEnd (t : Nat)
  /-- FFT_UNIT_GATE (R677). -/
  | fftUnitGate (t : Nat)
  /-- UNCLEAN_STOP (R683). -/
  | uncleanStop (t step : Nat)
  deriving DecidableEq, Repr

end Sys2Proof
end

