-- ==== Sys2Proof/Config.lean ====
section
/-! DEFINITION. What the manual leaves open as a VALUE: constants without a body, so that no proof can see what they are.
Each is named in a log entry. -/

namespace Sys2Proof

/-- A value the manual does not give, fresh for each number (State.free counts them). Log entry 3. -/
opaque Config.freeValue : Nat → Nat

/-- By how much Lightship watch time differs from watch time in a 1 ms step while it is steered to it (R675): the rule bounds
it only. Log entry 38. -/
opaque Config.lwtSkew : Nat → Nat

/-- The Lantern's built-in font (R649): the 8 × 16 pixels of a character, bit 8 r + x for row r. Log entry 24. -/
opaque Config.glyph : Nat → Nat

/-- The low-pass filter before resampling (R198), of which the manual gives the edge 0.4 × R only: sample `i` as binary32 of time
samples at a rate in 0.01 S/s, `dt` = 1 / R in watch time. Log entry 25. -/
opaque Config.lowPass : (rate dt : Nat) → (samples : List Nat) → (i : Nat) → Nat

/-- The layout of a tuning run's 64-byte header (R296), which the manual does not give, applied to what it holds: the
parameters of R292, the period, CFG_GEN, TUNE_STAT, the samples captured, the commit time of sample 0. Log entry 34. -/
opaque Config.tuneHeader : (held : List Nat) → Nat

/-- The integer that a quotient which is not a number gives, by its operands (R243, R248, R253). Log entry 35. -/
opaque Config.nanFraction : (v lo hi : Nat) → Nat

/-- The IEC 60584 reference functions of the thermocouple types (R609), which the manual names and does not print: the
electromotive force in pV at a temperature (binary32 in °C), the temperature (binary32) at a force in volts given as a ratio,
and the ends of the type's range (binary32). Log entry 46. -/
opaque Config.tcEmf : (typ temp : Nat) → Int
opaque Config.tcTemp : (typ : Nat) → (num : Int) → (den : Nat) → Nat
opaque Config.tcLow : (typ : Nat) → Nat
opaque Config.tcHigh : (typ : Nat) → Nat

/-- The public keys in the OTP fuses (R702): 0 image, 1 policy, 2 service; and whether an ECDSA P-384 signature (r then s) over a
SHA-384 digest verifies with a key (x then y). The manual gives neither the keys nor the byte order of the numbers. Log entry 51. -/
opaque Config.otpKey : Nat → Nat
opaque Config.verify : (key digest sig : Nat) → Bool

end Sys2Proof
end

