-- ==== Sys2Proof/Machine/Bits.lean ====
section
/-! DEFINITION. Bit fields of records and words, sign extension, the twin-word check (R15), byte order (R25) and the
CRC-32C of stored structures. -/

namespace Sys2Proof.Machine

/-- The value of field `f` of a record. -/
def fget {n : Nat} (f : Fld) (r : BitVec n) : Nat :=
  (r.toNat >>> f.lo) % 2 ^ f.w

/-- The record with field `f` set to `v` (its low `f.w` bits). -/
def fput {n : Nat} (f : Fld) (v : Nat) (r : BitVec n) : BitVec n :=
  (r &&& ~~~ (BitVec.ofNat n ((2 ^ f.w - 1) <<< f.lo))) ||| BitVec.ofNat n ((v % 2 ^ f.w) <<< f.lo)

/-- A flag field: true when the field is not zero. -/
def fbit {n : Nat} (f : Fld) (r : BitVec n) : Bool := fget f r != 0

/-- The number a Bool stands for in a one-bit field. -/
def b2n (b : Bool) : Nat := if b then 1 else 0

/-- `v`, a `w`-bit two's-complement number, as an integer. -/
def sext (w v : Nat) : Int := if v % 2 ^ w < 2 ^ (w - 1) then ((v % 2 ^ w : Nat) : Int) else ((v % 2 ^ w : Nat) : Int) - ((2 ^ w : Nat) : Int)

/-- The low `w` bits of the two's-complement form of `x`. -/
def ofInt (w : Nat) (x : Int) : Nat := (x % ((2 ^ w : Nat) : Int)).toNat

/-- A signed field of a record. -/
def fgetS {n : Nat} (f : Fld) (r : BitVec n) : Int := sext f.w (fget f r)

/-- The record with a signed field set. -/
def fputS {n : Nat} (f : Fld) (v : Int) (r : BitVec n) : BitVec n := fput f (ofInt f.w v) r

/-- `x` limited to the range from `lo` to `hi`. -/
def clampI (x lo hi : Int) : Int := if x < lo then lo else if hi < x then hi else x

/-- `x` limited to the range from `lo` to `hi`. -/
def clampN (x lo hi : Nat) : Nat := if x < lo then lo else if hi < x then hi else x

/-- R15: a twin pair is intact when V XOR ~V is all ones. -/
def twinOk (v n : Nat) : Bool := (v ^^^ n) == 0xFFFFFFFF

/-- The complement word that makes a pair with `v` intact. -/
def twinOf (v : Nat) : Nat := 0xFFFFFFFF - v % 2 ^ 32

/-- A pair of `w`-bit fields that hold a value and its ones-complement. -/
def pairOk (w v n : Nat) : Bool := (v ^^^ n) == 2 ^ w - 1

/-- The ones-complement of a `w`-bit value. -/
def compl (w v : Nat) : Nat := 2 ^ w - 1 - v % 2 ^ w

/-- Byte `k` of a little-endian number. -/
def byteAt (v k : Nat) : Byte := BitVec.ofNat 8 (v >>> (8 * k))

/-- The first `n` bytes of a number, least significant first (R25). -/
def bytesLE (n v : Nat) : List Byte := (List.range n).map (byteAt v)

/-- The number a list of bytes spells, least significant first. -/
def ofBytesLE : List Byte → Nat
  | [] => 0
  | b :: bs => b.toNat + 256 * ofBytesLE bs

/-- The number a list of 32-bit words spells, least significant first. -/
def ofWordsLE : List Word → Nat
  | [] => 0
  | w :: ws => w.toNat + 2 ^ 32 * ofWordsLE ws

/-- The first `n` 32-bit words of a number. -/
def wordsLE (n v : Nat) : List Word := (List.range n).map fun k => BitVec.ofNat 32 (v >>> (32 * k))

/-- One bit of a CRC-32C in its reflected form. -/
def crcBit (c : Nat) : Nat := if c % 2 == 1 then (c / 2) ^^^ 0x82F63B78 else c / 2

/-- One byte into a CRC-32C. -/
def crcByte (c b : Nat) : Nat := (List.range 8).foldl (fun c _ => crcBit c) (c ^^^ b)

/-- CRC-32C (Castagnoli) over the bytes from `a` to `b - 1` of a number laid out little-endian: the check of stored
structures (00, Notation; PRESUMED: the usual reflected form with all-ones start and final complement, log entry 5). -/
def crc32c (a b v : Nat) : Nat :=
  ((List.range (b - a)).foldl (fun c k => crcByte c ((v >>> (8 * (a + k))) % 256)) 0xFFFFFFFF) ^^^ 0xFFFFFFFF

end Sys2Proof.Machine
end

