-- ==== Sys2Proof/Machine/Events.lean ====
section
/-! DEFINITION. The event sources by the manual's names (R514, R634, R662, R693, R728, R758) and those whose factory
FLUSH is 1. -/

namespace Sys2Proof.Machine

def Ev.SYS_READY : Nat := 520
def Ev.WLD_DENIED : Nat := 528
def Ev.TWIN_MISMATCH : Nat := 529
def Ev.PNT_CFG_CORRUPT : Nat := 536
def Ev.PNT_VOTE_OUTLIER : Nat := 537
def Ev.PNT_VOTE_DEGRADED : Nat := 538
def Ev.PNT_READBACK : Nat := 539
def Ev.PNT_PROFILE_REJECT : Nat := 540
def Ev.ALM_SPILL : Nat := 544
def Ev.ALM_QUAL_HOLD : Nat := 545
def Ev.ALM_ADAPT : Nat := 546
def Ev.SEC_FIRST_OUT : Nat := 552
def Ev.SEC_FLOOD_START : Nat := 553
def Ev.SEC_FLOOD_END : Nat := 554
def Ev.SEC_MIRROR_LOST : Nat := 555
def Ev.SEC_AUDIT : Nat := 556
def Ev.CMW_GAP : Nat := 560
def Ev.CMW_STOPPED : Nat := 561
def Ev.CMW_BIN_READY : Nat := 562
def Ev.CMW_CAP_SKIP : Nat := 563
def Ev.CMW_CAP_END : Nat := 564
def Ev.CTL_MODE_CHANGE : Nat := 568
def Ev.CTL_CAS_OPEN : Nat := 569
def Ev.CTL_SUP_FAULT : Nat := 570
def Ev.CTL_SUP_RECLOSE : Nat := 571
def Ev.CTL_MODEL_EXPIRE : Nat := 572
def Ev.CTL_TUNE_END : Nat := 573
def Ev.BCN_CALL_START : Nat := 576
def Ev.BCN_STAGE : Nat := 577
def Ev.BCN_ATTEND : Nat := 578
def Ev.BCN_CALL_END : Nat := 579
def Ev.BCN_OVERFLOW : Nat := 580
def Ev.BCN_NO_TARGET : Nat := 581
def Ev.BCN_STATION_LOST : Nat := 582
def Ev.BCN_DM_PREWARN : Nat := 583
def Ev.BCN_DM_ALARM : Nat := 584
def Ev.LDG_DROP : Nat := 592
def Ev.LDG_NO_VOLUME : Nat := 593
def Ev.LDG_ROTATE : Nat := 594
def Ev.LDG_TRIP : Nat := 595
def Ev.LDG_TRIP_FULL : Nat := 596
def Ev.HST_VOL_READY : Nat := 600
def Ev.HST_VOL_FULL : Nat := 601
def Ev.HST_VOL_FAILED : Nat := 602
def Ev.HST_LEG_LOST : Nat := 603
def Ev.HST_LEG_DISAGREE : Nat := 604
def Ev.FAB_PORT_UP : Nat := 608
def Ev.FAB_PORT_DOWN : Nat := 609
def Ev.FAB_PORT_SELF : Nat := 610
def Ev.FAB_PORT_MISMATCH : Nat := 611
def Ev.FAB_RETRY_FAIL : Nat := 612
def Ev.FAB_HOP_DROP : Nat := 613
def Ev.FAB_ROUTE_MISS : Nat := 614
def Ev.FAB_ALIAS_FULL : Nat := 615
def Ev.FAB_LATE : Nat := 616
def Ev.FAB_RING_WRAP : Nat := 617
def Ev.FAB_RING_UNWRAP : Nat := 618
def Ev.FAB_COPY_DISAGREE : Nat := 619
def Ev.FAB_REPL_REJECT : Nat := 620
def Ev.FAB_REPL_GAP : Nat := 621
def Ev.FAB_TAKEOVER : Nat := 622
def Ev.FAB_HANDBACK_FAIL : Nat := 623
def Ev.FAB_OWN_LOST : Nat := 624
def Ev.FAB_EPOCH : Nat := 625
def Ev.FAB_EPOCH_MISS : Nat := 626
def Ev.FAB_QUENCH : Nat := 627
def Ev.FAB_TIME_STEP : Nat := 628
def Ev.FAB_TIME_STATE : Nat := 629
def Ev.HIF_RING_FAULT : Nat := 632
def Ev.HIF_EV_LOSS : Nat := 633
def Ev.HIF_DB_STRAY : Nat := 634
def Ev.HIF_FN_RESET : Nat := 635
def Ev.LIO_AI_OVC : Nat := 640
def Ev.LIO_AI_BURNOUT : Nat := 641
def Ev.LIO_AI_LEAD : Nat := 642
def Ev.LIO_CJ_FAULT : Nat := 643
def Ev.LIO_AO_FAULT : Nat := 648
def Ev.LIO_HART_ERR : Nat := 649
def Ev.LIO_DO_OVL : Nat := 656
def Ev.LIO_RB_MISMATCH : Nat := 657
def Ev.LIO_DEMAG_LONG : Nat := 658
def Ev.LIO_GRP_REFUSE : Nat := 659
def Ev.LIO_PULSE_DROP : Nat := 660
def Ev.LIO_SAFE_ENTER : Nat := 664
def Ev.LIO_SAFE_EXIT : Nat := 665
def Ev.LIO_LOGIC_SRC : Nat := 666
def Ev.LTN_CRC_MISMATCH : Nat := 704
def Ev.LTN_BIAS_FAULT : Nat := 705
def Ev.LTN_PTEMP_FAULT : Nat := 706
def Ev.LTN_MODE : Nat := 707
def Ev.LTN_UNCLEAN : Nat := 708
def Ev.PWR_FAIL_WARN : Nat := 736
def Ev.PWR_MAIN_STOP : Nat := 737
def Ev.PWR_MAIN_RETURN : Nat := 738
def Ev.PWR_EMER_LOST : Nat := 739
def Ev.PWR_FEED : Nat := 740
def Ev.PWR_SCAP_LOW : Nat := 741
def Ev.PWR_LSHIP_FAIL : Nat := 742
def Ev.PWR_FIELD_LOW : Nat := 743
def Ev.PWR_LSHIP_START : Nat := 744
def Ev.PWR_LSHIP_END : Nat := 745
def Ev.PWR_UNCLEAN : Nat := 746
def Ev.PWR_CLK_FAULT : Nat := 747
def Ev.KPR_BOOT : Nat := 768
def Ev.KPR_BOOT_FALLBACK : Nat := 769
def Ev.KPR_RECOVERY : Nat := 770
def Ev.KPR_WDOG : Nat := 771
def Ev.KPR_LOCKSTEP : Nat := 772
def Ev.KPR_UPD_BEGIN : Nat := 776
def Ev.KPR_UPD_END : Nat := 777
def Ev.KPR_UPD_ACTIVATE : Nat := 778
def Ev.KPR_TRIAL_END : Nat := 779
def Ev.KPR_POLICY_STORED : Nat := 780
def Ev.KPR_SENS_LIMIT : Nat := 784
def Ev.KPR_THERM_TRIP : Nat := 785
def Ev.KPR_THERM_CLEAR : Nat := 786
def Ev.KPR_FAN_STALL : Nat := 792
def Ev.KPR_TACH_LOST : Nat := 793
def Ev.KPR_FAN_OK : Nat := 794
def Ev.KPR_FAN_CURRENT : Nat := 795
def Ev.KPR_DBG_AUTH : Nat := 800
def Ev.KPR_DBG_HALT : Nat := 801
def Ev.KPR_SEQ_ABORT : Nat := 802
def Ev.KPR_MGMT_SESSION : Nat := 808
def Ev.KPR_STORE_ERR : Nat := 812
def Ev.BKP_OSC_STOP : Nat := 832
def Ev.BKP_VBAK_LOW : Nat := 833
def Ev.BKP_SWITCHOVER : Nat := 834
def Ev.BKP_POR : Nat := 835
def Ev.BKP_TRIM : Nat := 836
def Ev.BKP_TRIM_REJECT : Nat := 837
def Ev.BKP_SHIFT : Nat := 838
def Ev.BKP_SET : Nat := 839
def Ev.BKP_ALARM : Nat := 840
def Ev.BKP_PWRON : Nat := 841

/-- The codes whose LDG_CODE[n].FLUSH has the factory value 1. -/
def flushCodes : List Nat := [528, 529, 536, 544, 553, 570, 572, 580, 584, 592, 595, 602, 609, 612, 619, 622, 624, 632, 635, 641, 643, 648, 656, 657, 664, 666, 705, 736, 737, 739, 741, 742, 743, 744, 746, 747, 769, 770, 771, 772, 780, 785, 792, 793, 800, 801, 802, 812, 832, 833, 835]

/-- The module event sources in use. -/
def eventCodes : List Nat := [520, 528, 529, 536, 537, 538, 539, 540, 544, 545, 546, 552, 553, 554, 555, 556, 560, 561, 562, 563, 564, 568, 569, 570, 571, 572, 573, 576, 577, 578, 579, 580, 581, 582, 583, 584, 592, 593, 594, 595, 596, 600, 601, 602, 603, 604, 608, 609, 610, 611, 612, 613, 614, 615, 616, 617, 618, 619, 620, 621, 622, 623, 624, 625, 626, 627, 628, 629, 632, 633, 634, 635, 640, 641, 642, 643, 648, 649, 656, 657, 658, 659, 660, 664, 665, 666, 704, 705, 706, 707, 708, 736, 737, 738, 739, 740, 741, 742, 743, 744, 745, 746, 747, 768, 769, 770, 771, 772, 776, 777, 778, 779, 780, 784, 785, 786, 792, 793, 794, 795, 800, 801, 802, 808, 812, 832, 833, 834, 835, 836, 837, 838, 839, 840, 841]

end Sys2Proof.Machine
end

