-- ==== Sys2Proof/Machine/Float.lean ====
section
/-! DEFINITION. Binary32 and binary64 arithmetic, round to nearest even, computed exactly and narrowed once (R41, R838).
A NaN result is the quiet pattern; the points stage never stores one (R41). -/

namespace Sys2Proof.Machine

/-- A format: significand bits with the hidden bit, exponent bits. -/
structure FFmt where
  prec : Nat
  ebits : Nat
  deriving DecidableEq, Repr

def f32 : FFmt := ⟨24, 8⟩
def f64 : FFmt := ⟨53, 11⟩

/-- A decoded number: ±m × 2^e, an infinity, or NaN. -/
inductive FVal where
  | nan
  | inf (neg : Bool)
  | fin (neg : Bool) (m : Nat) (e : Int)
  deriving DecidableEq, Repr

def ffBias (k : FFmt) : Int := ((2 ^ (k.ebits - 1) : Nat) : Int) - 1
/-- The weight of the last bit of a subnormal. -/
def ffEmin (k : FFmt) : Int := 1 - ffBias k - ((k.prec - 1 : Nat) : Int)
def ffInf (k : FFmt) : Nat := (2 ^ k.ebits - 1) <<< (k.prec - 1)
def ffSign (k : FFmt) (neg : Bool) : Nat := if neg then 1 <<< (k.prec - 1 + k.ebits) else 0
def ffNan (k : FFmt) : Nat := ffInf k + 2 ^ (k.prec - 2)

/-- What the bits stand for. -/
def fdec (k : FFmt) (b : Nat) : FVal :=
  let neg := (b >>> (k.prec - 1 + k.ebits)) % 2 == 1
  let e := (b >>> (k.prec - 1)) % 2 ^ k.ebits
  let f := b % 2 ^ (k.prec - 1)
  if e == 2 ^ k.ebits - 1 then (if f == 0 then .inf neg else .nan)
  else if e == 0 then .fin neg f (ffEmin k)
  else .fin neg (f + 2 ^ (k.prec - 1)) (ffEmin k + ((e - 1 : Nat) : Int))

/-- ±m × 2^e, a little more when `sticky`, narrowed to the format by round to nearest even. -/
def fround (k : FFmt) (neg : Bool) (m : Nat) (e : Int) (sticky : Bool) : Nat :=
  if m == 0 then ffSign k neg
  else
    let t : Int := max (e + ((Nat.log2 m + 1 : Nat) : Int) - (k.prec : Int)) (ffEmin k)
    let q :=
      if t ≤ e then m <<< (e - t).toNat
      else
        let sh := (t - e).toNat
        let q := m >>> sh
        let r := m % 2 ^ sh
        let half := 2 ^ (sh - 1)
        if half < r || (r == half && (sticky || q % 2 == 1)) then q + 1 else q
    let bits := ((t - ffEmin k).toNat <<< (k.prec - 1)) + q
    ffSign k neg + (if ffInf k ≤ bits then ffInf k else bits)

/-- An exact signed dyadic number narrowed to the format; an exact zero is positive. -/
def froundI (k : FFmt) (m : Int) (e : Int) : Nat := fround k (decide (m < 0)) m.natAbs e false

/-- The signed significand of a finite number. -/
def sgnd (neg : Bool) (m : Nat) : Int := if neg then -(m : Int) else (m : Int)

/-- `m` at exponent `e`, brought to the lower exponent `t`. -/
def alignTo (t : Int) (m : Int) (e : Int) : Int := m * ((2 ^ (e - t).toNat : Nat) : Int)

def fneg (k : FFmt) (a : Nat) : Nat := a ^^^ (1 <<< (k.prec - 1 + k.ebits))
def fabs (k : FFmt) (a : Nat) : Nat := a % 2 ^ (k.prec - 1 + k.ebits)

def fadd (k : FFmt) (a b : Nat) : Nat :=
  match fdec k a, fdec k b with
  | .nan, _ => ffNan k
  | _, .nan => ffNan k
  | .inf x, .inf y => if x == y then a else ffNan k
  | .inf _, _ => a
  | _, .inf _ => b
  | .fin s m e, .fin s' m' e' =>
    if m == 0 && m' == 0 then ffSign k (s && s')
    else
      let t := min e e'
      froundI k (alignTo t (sgnd s m) e + alignTo t (sgnd s' m') e') t

def fsub (k : FFmt) (a b : Nat) : Nat := fadd k a (fneg k b)

def fmul (k : FFmt) (a b : Nat) : Nat :=
  match fdec k a, fdec k b with
  | .nan, _ => ffNan k
  | _, .nan => ffNan k
  | .inf x, .inf y => ffSign k (x != y) + ffInf k
  | .inf x, .fin y m _ => if m == 0 then ffNan k else ffSign k (x != y) + ffInf k
  | .fin x m _, .inf y => if m == 0 then ffNan k else ffSign k (x != y) + ffInf k
  | .fin s m e, .fin s' m' e' => fround k (s != s') (m * m') (e + e') false

/-- a × b + c with one rounding. -/
def ffma (k : FFmt) (a b c : Nat) : Nat :=
  match fdec k a, fdec k b, fdec k c with
  | .fin s m e, .fin s' m' e', .fin s'' m'' e'' =>
    let p := m * m'
    if p == 0 && m'' == 0 then ffSign k ((s != s') && s'')
    else
      let t := min (e + e') e''
      froundI k (alignTo t (sgnd (s != s') p) (e + e') + alignTo t (sgnd s'' m'') e'') t
  | _, _, _ => fadd k (fmul k a b) c

def fdiv (k : FFmt) (a b : Nat) : Nat :=
  match fdec k a, fdec k b with
  | .nan, _ => ffNan k
  | _, .nan => ffNan k
  | .inf _, .inf _ => ffNan k
  | .inf x, .fin y _ _ => ffSign k (x != y) + ffInf k
  | .fin x _ _, .inf y => ffSign k (x != y)
  | .fin s m e, .fin s' m' e' =>
    if m' == 0 then (if m == 0 then ffNan k else ffSign k (s != s') + ffInf k)
    else
      let sh := k.prec + 4 + Nat.log2 m'
      let n := m <<< sh
      fround k (s != s') (n / m') (e - e' - (sh : Int)) (n % m' != 0)

/-- The integer square root, one bit a step from bit `k - 1` down. -/
def isqrtGo : Nat → Nat → Nat → Nat
  | 0, _, r => r
  | k + 1, n, r => isqrtGo k n (if (r + 2 ^ k) * (r + 2 ^ k) ≤ n then r + 2 ^ k else r)

def isqrt (n : Nat) : Nat := isqrtGo (Nat.log2 n / 2 + 1) n 0

def fsqrt (k : FFmt) (a : Nat) : Nat :=
  match fdec k a with
  | .nan => ffNan k
  | .inf neg => if neg then ffNan k else a
  | .fin s m e =>
    if m == 0 then a
    else if s then ffNan k
    else
      let sh := 2 * k.prec + 4 + (if (e - ((2 * k.prec + 4 : Nat) : Int)) % 2 == 0 then 0 else 1)
      let n := m <<< sh
      let r := isqrt n
      fround k false r ((e - (sh : Int)) / 2) (r * r != n)

/-- Finite (neither infinity nor NaN). -/
def ffinite (k : FFmt) (a : Nat) : Bool := (a >>> (k.prec - 1)) % 2 ^ k.ebits != 2 ^ k.ebits - 1

/-- The order of two finite numbers, as real numbers; with an infinity, as extended reals; false with a NaN. -/
def flt (k : FFmt) (a b : Nat) : Bool :=
  match fdec k a, fdec k b with
  | .nan, _ => false
  | _, .nan => false
  | .inf x, .inf y => x && !y
  | .inf x, .fin _ _ _ => x
  | .fin _ _ _, .inf y => !y
  | .fin s m e, .fin s' m' e' =>
    let t := min e e'
    decide (alignTo t (sgnd s m) e < alignTo t (sgnd s' m') e')

def feq (k : FFmt) (a b : Nat) : Bool :=
  match fdec k a, fdec k b with
  | .nan, _ => false
  | _, .nan => false
  | _, _ => !(flt k a b) && !(flt k b a)

def fle (k : FFmt) (a b : Nat) : Bool := flt k a b || feq k a b

/-- A ratio of integers narrowed to the format. -/
def fofRat (k : FFmt) (num : Int) (den : Nat) : Nat :=
  if den == 0 then ffNan k
  else
    let sh := k.prec + 4 + Nat.log2 den
    let n := num.natAbs <<< sh
    fround k (decide (num < 0)) (n / den) (-(sh : Int)) (n % den != 0)

/-- An integer as a number of the format. -/
def fofInt (k : FFmt) (x : Int) : Nat := froundI k x 0

/-- m × 2^e rounded to the nearest integer, ties to even. -/
def reDy (m : Int) (e : Int) : Int :=
  if 0 ≤ e then m * ((2 ^ e.toNat : Nat) : Int)
  else
    let d : Int := ((2 ^ (-e).toNat : Nat) : Int)
    let q := m / d
    let r := m % d
    if 2 * r > d || (2 * r == d && q % 2 == 1) then q + 1 else q

/-- roundeven of a finite number; zero for the others, which callers exclude. -/
def froundeven (k : FFmt) (a : Nat) : Int :=
  match fdec k a with
  | .fin s m e => reDy (sgnd s m) e
  | _ => 0

/-- The integer part toward minus infinity. -/
def ffloor (k : FFmt) (a : Nat) : Int :=
  match fdec k a with
  | .fin s m e => if 0 ≤ e then sgnd s m * ((2 ^ e.toNat : Nat) : Int) else sgnd s m / ((2 ^ (-e).toNat : Nat) : Int)
  | _ => 0

/-- A number of one format in another. -/
def fconv (k k' : FFmt) (a : Nat) : Nat :=
  match fdec k a with
  | .nan => ffNan k'
  | .inf s => ffSign k' s + ffInf k'
  | .fin s m e => fround k' s m e false

/-- R41: a subnormal is stored as zero with its sign kept. -/
def fflush32 (a : Nat) : Nat := if (a >>> 23) % 256 == 0 then ffSign f32 ((a >>> 31) % 2 == 1) else a

/-- A finite number as an exact ratio: numerator and a power-of-two denominator. -/
def fratio (k : FFmt) (a : Nat) : Int × Nat :=
  match fdec k a with
  | .fin s m e => if 0 ≤ e then (sgnd s m * ((2 ^ e.toNat : Nat) : Int), 1) else (sgnd s m, 2 ^ (-e).toNat)
  | _ => (0, 1)

/-- The order of two exact ratios. -/
def ratLt (x y : Int × Nat) : Bool := decide (x.1 * (y.2 : Int) < y.1 * (x.2 : Int))
def ratLe (x y : Int × Nat) : Bool := decide (x.1 * (y.2 : Int) ≤ y.1 * (x.2 : Int))
def ratAdd (x y : Int × Nat) : Int × Nat := (x.1 * (y.2 : Int) + y.1 * (x.2 : Int), x.2 * y.2)
def ratSub (x y : Int × Nat) : Int × Nat := (x.1 * (y.2 : Int) - y.1 * (x.2 : Int), x.2 * y.2)

/-- The larger and smaller of two finite numbers. -/
def fmax (k : FFmt) (a b : Nat) : Nat := if flt k a b then b else a
def fmin (k : FFmt) (a b : Nat) : Nat := if flt k b a then b else a

end Sys2Proof.Machine
end

