-- ==== Sys2Proof/Machine/RegTable.lean ====
section
/-! DEFINITION. The register tables of the manual as data: for each register word its place, and for each field its
bits, access code (R27), restored code (R28) and factory value. Factory values that a rule gives per element stand in
Machine/Factory.lean. -/

namespace Sys2Proof.Machine

/-- R27: the access codes. -/
inductive Acc where
  | rw | ro | wo | w1c | rc | tw
  deriving DecidableEq, Repr

/-- R28: whether a field is restored at start-up. -/
inductive Restored where
  | yes | no | twin
  deriving DecidableEq, Repr

/-- One field of a register word. -/
structure FieldDef where
  lo : Nat
  w : Nat
  acc : Acc
  lk : Bool
  rest : Restored
  fac : Nat
  deriving DecidableEq, Repr

/-- A run of register words of one layout: the first word's offset in BAR0, the stride, the number of elements. -/
structure RegDef where
  off : Nat
  stride : Nat
  count : Nat
  fields : List FieldDef
  deriving DecidableEq, Repr

def regSYS : List RegDef := [
  ⟨0x0, 4, 1, [⟨0, 17, .ro, false, .no, 0⟩]⟩,
  ⟨0x4, 4, 1, [⟨0, 2, .ro, false, .no, 0⟩, ⟨2, 1, .ro, false, .no, 0⟩, ⟨3, 1, .ro, false, .no, 0⟩, ⟨4, 1, .w1c, false, .no, 0⟩, ⟨5, 1, .w1c, false, .no, 0⟩, ⟨6, 1, .ro, false, .no, 0⟩, ⟨7, 1, .ro, false, .no, 0⟩]⟩,
  ⟨0x8, 4, 1, [⟨0, 32, .ro, false, .no, 0⟩]⟩,
  ⟨0xC, 4, 1, [⟨0, 12, .rw, true, .yes, 60⟩, ⟨16, 8, .rw, true, .yes, 60⟩]⟩,
  ⟨0x10, 4, 1, [⟨0, 1, .ro, false, .no, 0⟩, ⟨1, 1, .ro, false, .no, 0⟩, ⟨2, 1, .ro, false, .no, 0⟩, ⟨3, 1, .ro, false, .no, 0⟩]⟩,
  ⟨0x14, 4, 1, [⟨0, 32, .ro, false, .no, 0⟩]⟩,
  ⟨0x18, 4, 1, [⟨0, 23, .ro, false, .no, 0⟩]⟩,
  ⟨0x20, 4, 1, [⟨0, 32, .rc, false, .no, 0⟩]⟩,
  ⟨0x24, 4, 1, [⟨0, 32, .rc, false, .no, 0⟩]⟩,
  ⟨0x28, 4, 1, [⟨0, 32, .rc, false, .no, 0⟩]⟩,
  ⟨0x2C, 4, 1, [⟨0, 32, .rc, false, .no, 0⟩]⟩,
  ⟨0x30, 4, 1, [⟨0, 32, .ro, false, .no, 0⟩]⟩,
  ⟨0x34, 4, 1, [⟨0, 32, .ro, false, .no, 0⟩]⟩,
  ⟨0x40, 4, 4, [⟨0, 32, .ro, false, .no, 0⟩]⟩]

def regPNT : List RegDef := [
  ⟨0x10000, 4, 1, [⟨0, 16, .rw, true, .yes, 24⟩]⟩,
  ⟨0x10010, 4, 1, [⟨0, 32, .rc, false, .no, 0⟩]⟩,
  ⟨0x10014, 4, 1, [⟨0, 32, .rc, false, .no, 0⟩]⟩,
  ⟨0x10018, 4, 1, [⟨0, 32, .rc, false, .no, 0⟩]⟩,
  ⟨0x1001C, 4, 1, [⟨0, 32, .rc, false, .no, 0⟩]⟩,
  ⟨0x10020, 4, 1, [⟨0, 32, .rc, false, .no, 0⟩]⟩,
  ⟨0x10024, 4, 1, [⟨0, 32, .rc, false, .no, 0⟩]⟩,
  ⟨0x10028, 4, 1, [⟨0, 32, .rc, false, .no, 0⟩]⟩,
  ⟨0x1002C, 4, 1, [⟨0, 32, .rc, false, .no, 0⟩]⟩,
  ⟨0x10030, 4, 1, [⟨0, 32, .rc, false, .no, 0⟩]⟩,
  ⟨0x10034, 4, 1, [⟨0, 32, .rc, false, .no, 0⟩]⟩,
  ⟨0x10038, 4, 1, [⟨0, 32, .rc, false, .no, 0⟩]⟩,
  ⟨0x1003C, 4, 1, [⟨0, 32, .rc, false, .no, 0⟩]⟩,
  ⟨0x11000, 16, 64, [⟨0, 4, .ro, false, .no, 0⟩, ⟨4, 4, .ro, false, .no, 0⟩, ⟨8, 8, .ro, false, .no, 0⟩, ⟨16, 8, .ro, false, .no, 0⟩, ⟨24, 8, .ro, false, .no, 0⟩]⟩,
  ⟨0x11400, 16, 64, [⟨0, 4, .tw, true, .twin, 0⟩, ⟨4, 4, .tw, true, .twin, 0⟩, ⟨8, 8, .tw, true, .twin, 0⟩, ⟨16, 8, .tw, true, .twin, 0⟩, ⟨24, 8, .tw, true, .twin, 0⟩]⟩,
  ⟨0x11004, 16, 64, [⟨0, 16, .ro, false, .no, 0⟩, ⟨16, 16, .ro, false, .no, 0⟩]⟩,
  ⟨0x11404, 16, 64, [⟨0, 16, .tw, true, .twin, 0⟩, ⟨16, 16, .tw, true, .twin, 0⟩]⟩,
  ⟨0x11008, 16, 64, [⟨0, 16, .ro, false, .no, 0⟩]⟩,
  ⟨0x11408, 16, 64, [⟨0, 16, .tw, true, .twin, 0⟩]⟩,
  ⟨0x1100C, 16, 64, [⟨0, 3, .ro, false, .no, 0⟩, ⟨3, 3, .ro, false, .no, 0⟩, ⟨6, 3, .ro, false, .no, 0⟩, ⟨9, 3, .ro, false, .no, 0⟩, ⟨12, 3, .ro, false, .no, 0⟩, ⟨15, 3, .ro, false, .no, 0⟩, ⟨18, 3, .ro, false, .no, 0⟩]⟩,
  ⟨0x1140C, 16, 64, [⟨0, 3, .tw, true, .twin, 0⟩, ⟨3, 3, .tw, true, .twin, 0⟩, ⟨6, 3, .tw, true, .twin, 0⟩, ⟨9, 3, .tw, true, .twin, 0⟩, ⟨12, 3, .tw, true, .twin, 0⟩, ⟨15, 3, .tw, true, .twin, 0⟩, ⟨18, 3, .tw, true, .twin, 0⟩]⟩]

def regALM : List RegDef := [
  ⟨0x20000, 4, 1, [⟨0, 1, .rw, false, .yes, 0⟩, ⟨1, 1, .rw, true, .yes, 0⟩]⟩,
  ⟨0x20004, 4, 1, [⟨0, 17, .rw, true, .yes, 0x7080⟩]⟩,
  ⟨0x20008, 4, 1, [⟨0, 21, .rw, false, .yes, 0xe0000⟩]⟩,
  ⟨0x20010, 4, 1, [⟨0, 21, .ro, false, .no, 0⟩]⟩,
  ⟨0x20014, 4, 1, [⟨0, 32, .ro, false, .no, 0⟩]⟩,
  ⟨0x20018, 4, 1, [⟨0, 21, .rc, false, .no, 0⟩]⟩,
  ⟨0x2001C, 4, 1, [⟨0, 1, .ro, false, .no, 0⟩, ⟨1, 1, .w1c, false, .no, 0⟩]⟩,
  ⟨0x20020, 4, 1, [⟨0, 32, .rc, false, .no, 0⟩]⟩,
  ⟨0x20024, 4, 1, [⟨0, 32, .rc, false, .no, 0⟩]⟩,
  ⟨0x20028, 4, 1, [⟨0, 32, .rc, false, .no, 0⟩]⟩,
  ⟨0x2002C, 4, 1, [⟨0, 32, .rc, false, .no, 0⟩]⟩,
  ⟨0x20030, 4, 1, [⟨0, 32, .rc, false, .no, 0⟩]⟩,
  ⟨0x20034, 4, 1, [⟨0, 32, .rc, false, .no, 0⟩]⟩,
  ⟨0x20038, 4, 1, [⟨0, 32, .rc, false, .no, 0⟩]⟩,
  ⟨0x2003C, 4, 1, [⟨0, 26, .ro, false, .no, 0⟩]⟩,
  ⟨0x20040, 4, 1, [⟨0, 26, .ro, false, .no, 0⟩]⟩,
  ⟨0x20048, 4, 1, [⟨0, 32, .ro, false, .no, 0⟩]⟩,
  ⟨0x2004C, 4, 1, [⟨0, 32, .ro, false, .no, 0⟩]⟩,
  ⟨0x20100, 4, 64, [⟨0, 21, .ro, false, .no, 0x100000⟩]⟩]

def regSEC : List RegDef := [
  ⟨0x30000, 4, 1, [⟨0, 1, .rw, true, .yes, 1⟩, ⟨1, 1, .rw, true, .yes, 1⟩]⟩,
  ⟨0x30004, 4, 1, [⟨0, 14, .rw, false, .yes, 500⟩]⟩,
  ⟨0x30008, 4, 1, [⟨0, 12, .rw, false, .yes, 10⟩]⟩,
  ⟨0x30010, 4, 1, [⟨0, 25, .ro, false, .no, 0⟩]⟩,
  ⟨0x30014, 4, 1, [⟨0, 25, .ro, false, .no, 0x1000000⟩]⟩,
  ⟨0x30018, 4, 1, [⟨0, 21, .ro, false, .no, 0⟩]⟩,
  ⟨0x3001C, 4, 1, [⟨0, 26, .ro, false, .no, 0⟩]⟩,
  ⟨0x30020, 4, 1, [⟨0, 26, .ro, false, .no, 0⟩]⟩,
  ⟨0x30024, 4, 1, [⟨0, 1, .ro, false, .no, 0⟩]⟩,
  ⟨0x30028, 4, 1, [⟨0, 32, .rc, false, .no, 0⟩]⟩,
  ⟨0x3002C, 4, 1, [⟨0, 32, .rc, false, .no, 0⟩]⟩,
  ⟨0x30030, 4, 1, [⟨0, 32, .rc, false, .no, 0⟩]⟩,
  ⟨0x30034, 4, 1, [⟨0, 32, .rc, false, .no, 0⟩]⟩,
  ⟨0x30038, 4, 1, [⟨0, 32, .rc, false, .no, 0⟩]⟩,
  ⟨0x3003C, 4, 1, [⟨0, 32, .rc, false, .no, 0⟩]⟩,
  ⟨0x30100, 4, 8, [⟨0, 32, .ro, false, .no, 0⟩]⟩,
  ⟨0x31000, 16, 256, [⟨0, 10, .rw, false, .yes, 10⟩, ⟨10, 10, .rw, false, .yes, 5⟩, ⟨20, 1, .rw, false, .yes, 1⟩]⟩,
  ⟨0x31004, 16, 256, [⟨0, 12, .rw, false, .yes, 600⟩]⟩,
  ⟨0x31008, 16, 256, [⟨0, 10, .ro, false, .no, 0⟩, ⟨10, 1, .ro, false, .no, 0⟩]⟩,
  ⟨0x3100C, 16, 256, [⟨0, 8, .ro, false, .no, 0⟩, ⟨8, 8, .ro, false, .no, 0⟩, ⟨16, 8, .ro, false, .no, 0⟩, ⟨24, 8, .ro, false, .no, 0⟩]⟩]

def regCMW : List RegDef := [
  ⟨0x40000, 4, 1, [⟨0, 1, .rw, false, .yes, 0⟩, ⟨1, 1, .rw, true, .yes, 1⟩, ⟨8, 8, .rw, false, .yes, 10⟩]⟩,
  ⟨0x40004, 4, 1, [⟨0, 32, .ro, false, .no, 0⟩]⟩,
  ⟨0x40008, 4, 1, [⟨0, 32, .ro, false, .no, 0⟩]⟩,
  ⟨0x4000C, 4, 1, [⟨0, 17, .ro, false, .no, 0x18000⟩]⟩,
  ⟨0x40010, 4, 1, [⟨0, 17, .ro, false, .no, 0x18000⟩]⟩,
  ⟨0x40014, 4, 1, [⟨0, 9, .ro, false, .no, 0⟩]⟩,
  ⟨0x40020, 4, 1, [⟨0, 32, .rc, false, .no, 0⟩]⟩,
  ⟨0x40024, 4, 1, [⟨0, 32, .rc, false, .no, 0⟩]⟩,
  ⟨0x40028, 4, 1, [⟨0, 32, .rc, false, .no, 0⟩]⟩,
  ⟨0x4002C, 4, 1, [⟨0, 32, .rc, false, .no, 0⟩]⟩,
  ⟨0x40030, 4, 1, [⟨0, 32, .rc, false, .no, 0⟩]⟩,
  ⟨0x40034, 4, 1, [⟨0, 32, .rc, false, .no, 0⟩]⟩,
  ⟨0x40038, 4, 1, [⟨0, 32, .rc, false, .no, 0⟩]⟩,
  ⟨0x4003C, 4, 1, [⟨0, 32, .rc, false, .no, 0⟩]⟩]

def regCTL : List RegDef := [
  ⟨0x50000, 4, 1, [⟨0, 1, .tw, true, .no, 0⟩]⟩,
  ⟨0x50004, 4, 1, [⟨0, 13, .ro, false, .no, 0⟩]⟩,
  ⟨0x50008, 4, 1, [⟨0, 16, .ro, false, .no, 0xffff⟩]⟩,
  ⟨0x50010, 4, 1, [⟨0, 32, .rc, false, .no, 0⟩]⟩,
  ⟨0x50014, 4, 1, [⟨0, 32, .rc, false, .no, 0⟩]⟩,
  ⟨0x50018, 4, 1, [⟨0, 32, .rc, false, .no, 0⟩]⟩,
  ⟨0x5001C, 4, 1, [⟨0, 32, .rc, false, .no, 0⟩]⟩,
  ⟨0x50020, 4, 1, [⟨0, 32, .rc, false, .no, 0⟩]⟩,
  ⟨0x50024, 4, 1, [⟨0, 32, .rc, false, .no, 0⟩]⟩,
  ⟨0x50028, 4, 1, [⟨0, 8, .rc, false, .no, 0⟩]⟩,
  ⟨0x50030, 4, 1, [⟨0, 1, .rw, true, .yes, 1⟩, ⟨1, 1, .rw, false, .yes, 0⟩]⟩,
  ⟨0x50034, 4, 1, [⟨0, 32, .rc, false, .no, 0⟩]⟩,
  ⟨0x50038, 4, 1, [⟨0, 32, .rc, false, .no, 0⟩]⟩,
  ⟨0x5003C, 4, 1, [⟨0, 32, .rc, false, .no, 0⟩]⟩,
  ⟨0x50040, 4, 1, [⟨0, 32, .rc, false, .no, 0⟩]⟩,
  ⟨0x50044, 4, 1, [⟨0, 32, .rc, false, .no, 0⟩]⟩,
  ⟨0x50048, 4, 1, [⟨0, 32, .rc, false, .no, 0⟩]⟩,
  ⟨0x5004C, 4, 1, [⟨0, 13, .ro, false, .no, 0⟩]⟩,
  ⟨0x50050, 4, 1, [⟨0, 13, .ro, false, .no, 0⟩]⟩,
  ⟨0x50054, 4, 1, [⟨0, 32, .rc, false, .no, 0⟩]⟩,
  ⟨0x50100, 4, 16, [⟨0, 9, .ro, false, .no, 0⟩]⟩]

def regBCN0 : List RegDef := [
  ⟨0x60000, 4, 1, [⟨0, 1, .tw, true, .twin, 1⟩, ⟨1, 6, .tw, true, .twin, 0⟩, ⟨7, 1, .tw, true, .twin, 0⟩, ⟨8, 8, .tw, true, .twin, 128⟩]⟩,
  ⟨0x60004, 4, 1, [⟨0, 16, .rw, true, .yes, 0⟩]⟩,
  ⟨0x60008, 4, 1, [⟨0, 9, .ro, false, .no, 0⟩, ⟨16, 11, .ro, false, .no, 0⟩]⟩,
  ⟨0x60010, 4, 1, [⟨0, 32, .ro, false, .no, 0xffffffff⟩]⟩,
  ⟨0x60014, 4, 1, [⟨0, 32, .ro, false, .no, 0xffffffff⟩]⟩,
  ⟨0x60020, 4, 1, [⟨0, 32, .rc, false, .no, 0⟩]⟩,
  ⟨0x60024, 4, 1, [⟨0, 32, .rc, false, .no, 0⟩]⟩,
  ⟨0x60028, 4, 1, [⟨0, 32, .rc, false, .no, 0⟩]⟩,
  ⟨0x6002C, 4, 1, [⟨0, 32, .rc, false, .no, 0⟩]⟩,
  ⟨0x60030, 4, 1, [⟨0, 32, .rc, false, .no, 0⟩]⟩,
  ⟨0x60034, 4, 1, [⟨0, 32, .rc, false, .no, 0⟩]⟩,
  ⟨0x60038, 4, 1, [⟨0, 32, .rc, false, .no, 0⟩]⟩,
  ⟨0x6003C, 4, 1, [⟨0, 32, .rc, false, .no, 0⟩]⟩,
  ⟨0x60040, 4, 1, [⟨0, 32, .rc, false, .no, 0⟩]⟩,
  ⟨0x60080, 4, 8, [⟨0, 1, .rw, false, .yes, 0⟩, ⟨8, 1, .ro, false, .no, 0⟩]⟩,
  ⟨0x60100, 4, 32, [⟨0, 6, .tw, true, .twin, 0⟩, ⟨6, 1, .tw, true, .twin, 0⟩, ⟨8, 8, .tw, true, .twin, 0⟩]⟩,
  ⟨0x60200, 4, 168, [⟨0, 5, .tw, true, .twin, 0⟩, ⟨5, 1, .tw, true, .twin, 0⟩, ⟨8, 5, .tw, true, .twin, 0⟩, ⟨13, 1, .tw, true, .twin, 0⟩]⟩,
  ⟨0x60800, 8, 64, [⟨0, 24, .tw, true, .twin, 0⟩, ⟨24, 2, .tw, true, .twin, 0⟩, ⟨26, 1, .tw, true, .twin, 0⟩]⟩,
  ⟨0x60804, 8, 64, [⟨0, 3, .tw, true, .twin, 0⟩]⟩,
  ⟨0x60A00, 16, 8, [⟨0, 12, .tw, true, .twin, 1800⟩, ⟨12, 10, .tw, true, .twin, 180⟩, ⟨22, 5, .tw, true, .twin, 0⟩, ⟨27, 1, .tw, true, .twin, 0⟩]⟩,
  ⟨0x60A04, 16, 8, [⟨0, 8, .tw, true, .twin, 0⟩, ⟨8, 6, .tw, true, .twin, 0⟩, ⟨14, 1, .tw, true, .twin, 0⟩]⟩,
  ⟨0x60A08, 16, 8, [⟨0, 2, .ro, false, .no, 0⟩]⟩,
  ⟨0x60A0C, 16, 8, [⟨0, 12, .ro, false, .no, 0⟩]⟩,
  ⟨0x61000, 8, 256, [⟨0, 5, .tw, true, .twin, 0⟩, ⟨5, 1, .tw, true, .twin, 0⟩, ⟨8, 5, .tw, true, .twin, 0⟩, ⟨13, 1, .tw, true, .twin, 0⟩, ⟨16, 5, .tw, true, .twin, 0⟩, ⟨21, 1, .tw, true, .twin, 0⟩, ⟨24, 5, .tw, true, .twin, 0⟩, ⟨29, 1, .tw, true, .twin, 0⟩]⟩,
  ⟨0x61004, 8, 256, [⟨0, 5, .tw, true, .twin, 0⟩, ⟨5, 1, .tw, true, .twin, 0⟩, ⟨6, 1, .tw, true, .twin, 0⟩, ⟨7, 1, .rw, false, .yes, 0⟩, ⟨8, 1, .tw, true, .twin, 0⟩]⟩]

def regBCN1 : List RegDef := [
  ⟨0x62000, 128, 32, [⟨0, 3, .tw, true, .twin, 0⟩, ⟨3, 2, .tw, true, .twin, 0⟩, ⟨5, 1, .tw, true, .twin, 0⟩, ⟨16, 12, .tw, true, .twin, 300⟩]⟩,
  ⟨0x62010, 128, 32, [⟨0, 12, .tw, true, .twin, 60⟩, ⟨12, 1, .tw, true, .twin, 0⟩, ⟨13, 1, .tw, true, .twin, 0⟩, ⟨16, 8, .tw, true, .twin, 0⟩, ⟨24, 8, .tw, true, .twin, 0⟩]⟩,
  ⟨0x62014, 128, 32, [⟨0, 8, .tw, true, .twin, 0⟩]⟩,
  ⟨0x62018, 128, 32, [⟨0, 32, .tw, true, .twin, 0⟩]⟩,
  ⟨0x6201C, 128, 32, [⟨0, 32, .tw, true, .twin, 0⟩]⟩,
  ⟨0x62020, 128, 32, [⟨0, 12, .tw, true, .twin, 60⟩, ⟨12, 1, .tw, true, .twin, 0⟩, ⟨13, 1, .tw, true, .twin, 0⟩, ⟨16, 8, .tw, true, .twin, 0⟩, ⟨24, 8, .tw, true, .twin, 0⟩]⟩,
  ⟨0x62024, 128, 32, [⟨0, 8, .tw, true, .twin, 0⟩]⟩,
  ⟨0x62028, 128, 32, [⟨0, 32, .tw, true, .twin, 0⟩]⟩,
  ⟨0x6202C, 128, 32, [⟨0, 32, .tw, true, .twin, 0⟩]⟩,
  ⟨0x62030, 128, 32, [⟨0, 12, .tw, true, .twin, 60⟩, ⟨12, 1, .tw, true, .twin, 0⟩, ⟨13, 1, .tw, true, .twin, 0⟩, ⟨16, 8, .tw, true, .twin, 0⟩, ⟨24, 8, .tw, true, .twin, 0⟩]⟩,
  ⟨0x62034, 128, 32, [⟨0, 8, .tw, true, .twin, 0⟩]⟩,
  ⟨0x62038, 128, 32, [⟨0, 32, .tw, true, .twin, 0⟩]⟩,
  ⟨0x6203C, 128, 32, [⟨0, 32, .tw, true, .twin, 0⟩]⟩,
  ⟨0x62040, 128, 32, [⟨0, 12, .tw, true, .twin, 60⟩, ⟨12, 1, .tw, true, .twin, 0⟩, ⟨13, 1, .tw, true, .twin, 0⟩, ⟨16, 8, .tw, true, .twin, 0⟩, ⟨24, 8, .tw, true, .twin, 0⟩]⟩,
  ⟨0x62044, 128, 32, [⟨0, 8, .tw, true, .twin, 0⟩]⟩,
  ⟨0x62048, 128, 32, [⟨0, 32, .tw, true, .twin, 0⟩]⟩,
  ⟨0x6204C, 128, 32, [⟨0, 32, .tw, true, .twin, 0⟩]⟩]

def regLDG : List RegDef := [
  ⟨0x70000, 4, 1, [⟨0, 1, .rw, true, .yes, 0⟩]⟩,
  ⟨0x70004, 4, 1, [⟨0, 12, .rw, false, .yes, 2048⟩]⟩,
  ⟨0x70008, 4, 1, [⟨0, 14, .rw, false, .yes, 1000⟩]⟩,
  ⟨0x7000C, 4, 1, [⟨0, 10, .rw, true, .yes, 0⟩, ⟨10, 1, .rw, true, .yes, 0⟩]⟩,
  ⟨0x70010, 4, 1, [⟨0, 23, .ro, false, .no, 0⟩]⟩,
  ⟨0x70014, 4, 1, [⟨0, 20, .ro, false, .no, 0⟩]⟩,
  ⟨0x70018, 4, 1, [⟨0, 1, .ro, false, .no, 0⟩, ⟨1, 1, .ro, false, .no, 0⟩, ⟨2, 1, .ro, false, .no, 0⟩, ⟨3, 1, .ro, false, .no, 0⟩]⟩,
  ⟨0x7001C, 4, 1, [⟨0, 3, .ro, false, .no, 0⟩, ⟨8, 9, .ro, false, .no, 0⟩]⟩,
  ⟨0x70020, 4, 1, [⟨0, 32, .rc, false, .no, 0⟩]⟩,
  ⟨0x70024, 4, 1, [⟨0, 32, .rc, false, .no, 0⟩]⟩,
  ⟨0x70028, 4, 1, [⟨0, 32, .rc, false, .no, 0⟩]⟩,
  ⟨0x7002C, 4, 1, [⟨0, 32, .rc, false, .no, 0⟩]⟩,
  ⟨0x70030, 4, 1, [⟨0, 32, .rc, false, .no, 0⟩]⟩,
  ⟨0x70034, 4, 1, [⟨0, 32, .rc, false, .no, 0⟩]⟩,
  ⟨0x70038, 4, 1, [⟨0, 32, .rc, false, .no, 0⟩]⟩,
  ⟨0x7003C, 4, 1, [⟨0, 32, .rc, false, .no, 0⟩]⟩,
  ⟨0x70100, 4, 16, [⟨0, 10, .rw, true, .yes, 0⟩, ⟨10, 1, .rw, true, .yes, 0⟩]⟩,
  ⟨0x71000, 4, 1024, [⟨0, 16, .rw, true, .yes, 10⟩, ⟨16, 14, .rw, true, .yes, 50⟩, ⟨30, 1, .rw, true, .yes, 0⟩, ⟨31, 1, .rw, true, .yes, 1⟩]⟩]

def regHST : List RegDef := [
  ⟨0x80000, 4, 1, [⟨0, 1, .rw, true, .yes, 1⟩]⟩,
  ⟨0x80004, 4, 1, [⟨0, 8, .ro, false, .no, 0⟩]⟩,
  ⟨0x80008, 4, 1, [⟨0, 11, .ro, false, .no, 0⟩]⟩,
  ⟨0x8000C, 4, 1, [⟨0, 32, .ro, false, .no, 0⟩]⟩,
  ⟨0x80010, 4, 1, [⟨0, 1, .ro, false, .no, 0⟩]⟩,
  ⟨0x80014, 4, 1, [⟨0, 32, .rc, false, .no, 0⟩]⟩,
  ⟨0x80018, 4, 1, [⟨0, 32, .rc, false, .no, 0⟩]⟩,
  ⟨0x8001C, 4, 1, [⟨0, 32, .rc, false, .no, 0⟩]⟩,
  ⟨0x80020, 4, 1, [⟨0, 32, .rc, false, .no, 0⟩]⟩,
  ⟨0x80024, 4, 1, [⟨0, 32, .rc, false, .no, 0⟩]⟩,
  ⟨0x80028, 4, 1, [⟨0, 32, .rc, false, .no, 0⟩]⟩,
  ⟨0x80100, 4, 128, [⟨0, 1, .ro, false, .no, 0⟩, ⟨1, 1, .ro, false, .no, 0⟩, ⟨2, 1, .ro, false, .no, 0⟩, ⟨3, 1, .ro, false, .no, 0⟩, ⟨16, 16, .ro, false, .no, 0⟩]⟩,
  ⟨0x81000, 16, 1024, [⟨0, 3, .ro, false, .no, 0⟩, ⟨3, 1, .ro, false, .no, 0⟩, ⟨4, 1, .ro, false, .no, 0⟩, ⟨5, 1, .ro, false, .no, 0⟩, ⟨6, 1, .ro, false, .no, 0⟩, ⟨7, 1, .ro, false, .no, 0⟩]⟩,
  ⟨0x81004, 16, 1024, [⟨0, 32, .ro, false, .no, 0⟩]⟩,
  ⟨0x81008, 16, 1024, [⟨0, 32, .ro, false, .no, 0⟩]⟩,
  ⟨0x8100C, 16, 1024, [⟨0, 32, .ro, false, .no, 0⟩]⟩]

def regFAB0 : List RegDef := [
  ⟨0x90000, 4, 1, [⟨0, 24, .rw, true, .yes, 0⟩]⟩,
  ⟨0x90004, 4, 1, [⟨0, 8, .rw, false, .yes, 16⟩]⟩,
  ⟨0x90008, 4, 1, [⟨0, 22, .ro, false, .no, 0x114000⟩]⟩,
  ⟨0x90010, 4, 1, [⟨0, 1, .rw, true, .yes, 0⟩, ⟨1, 1, .rw, true, .yes, 0⟩, ⟨2, 7, .rw, true, .yes, 0⟩, ⟨9, 3, .rw, false, .yes, 4⟩]⟩,
  ⟨0x90014, 4, 1, [⟨0, 32, .rw, false, .yes, 1000⟩]⟩,
  ⟨0x90018, 4, 1, [⟨0, 2, .ro, false, .no, 0⟩, ⟨2, 1, .ro, false, .no, 0⟩, ⟨8, 8, .ro, false, .no, 0⟩]⟩,
  ⟨0x9001C, 4, 1, [⟨0, 32, .ro, false, .no, 0⟩]⟩,
  ⟨0x90020, 4, 1, [⟨0, 24, .ro, false, .no, 0⟩]⟩,
  ⟨0x90024, 4, 1, [⟨0, 16, .rw, true, .yes, 37⟩, ⟨16, 1, .rw, true, .yes, 0⟩, ⟨17, 1, .rw, true, .no, 0⟩, ⟨18, 1, .rw, true, .no, 0⟩]⟩,
  ⟨0x90040, 4, 1, [⟨0, 32, .rc, false, .no, 0⟩]⟩,
  ⟨0x90044, 4, 1, [⟨0, 32, .rc, false, .no, 0⟩]⟩,
  ⟨0x90048, 4, 1, [⟨0, 32, .rc, false, .no, 0⟩]⟩,
  ⟨0x9004C, 4, 1, [⟨0, 32, .rc, false, .no, 0⟩]⟩,
  ⟨0x90050, 4, 1, [⟨0, 32, .rc, false, .no, 0⟩]⟩,
  ⟨0x90054, 4, 1, [⟨0, 32, .rc, false, .no, 0⟩]⟩,
  ⟨0x90058, 4, 1, [⟨0, 32, .rc, false, .no, 0⟩]⟩,
  ⟨0x9005C, 4, 1, [⟨0, 32, .rc, false, .no, 0⟩]⟩,
  ⟨0x90060, 4, 1, [⟨0, 32, .rc, false, .no, 0⟩]⟩,
  ⟨0x90064, 4, 1, [⟨0, 32, .rc, false, .no, 0⟩]⟩,
  ⟨0x90100, 4, 8, [⟨0, 2, .rw, false, .yes, 0⟩, ⟨12, 20, .rw, false, .yes, 0⟩]⟩,
  ⟨0x90200, 4, 1, [⟨0, 8, .rw, true, .yes, 7⟩, ⟨8, 12, .rw, false, .yes, 5⟩]⟩,
  ⟨0x90204, 4, 1, [⟨0, 24, .rw, true, .yes, 0⟩, ⟨24, 1, .rw, false, .yes, 0⟩]⟩,
  ⟨0x90208, 4, 1, [⟨0, 7, .rw, false, .yes, 30⟩, ⟨8, 4, .rw, false, .yes, 10⟩, ⟨16, 7, .rw, false, .yes, 10⟩]⟩,
  ⟨0x9020C, 4, 1, [⟨0, 3, .ro, false, .no, 0⟩]⟩,
  ⟨0x90210, 4, 1, [⟨0, 32, .ro, false, .yes, 0⟩]⟩]

def regFAB1 : List RegDef := [
  ⟨0x90214, 4, 1, [⟨0, 32, .ro, false, .no, 0⟩]⟩,
  ⟨0x90218, 4, 1, [⟨0, 1, .ro, false, .no, 1⟩]⟩,
  ⟨0x90230, 4, 1, [⟨0, 32, .rc, false, .no, 0⟩]⟩,
  ⟨0x90234, 4, 1, [⟨0, 32, .rc, false, .no, 0⟩]⟩,
  ⟨0x90238, 4, 1, [⟨0, 32, .rc, false, .no, 0⟩]⟩,
  ⟨0x9023C, 4, 1, [⟨0, 32, .rc, false, .no, 0⟩]⟩,
  ⟨0x90240, 4, 1, [⟨0, 32, .rc, false, .no, 0⟩]⟩,
  ⟨0x90244, 4, 1, [⟨0, 32, .rc, false, .no, 0⟩]⟩,
  ⟨0x90248, 4, 1, [⟨0, 32, .rc, false, .no, 0⟩]⟩,
  ⟨0x9024C, 4, 1, [⟨0, 32, .rc, false, .no, 0⟩]⟩,
  ⟨0x90250, 4, 1, [⟨0, 32, .rc, false, .no, 0⟩]⟩,
  ⟨0x90254, 4, 1, [⟨0, 32, .rc, false, .no, 0⟩]⟩,
  ⟨0x90258, 4, 1, [⟨0, 32, .rc, false, .no, 0⟩]⟩,
  ⟨0x9025C, 4, 1, [⟨0, 32, .rc, false, .no, 0⟩]⟩,
  ⟨0x90260, 4, 1, [⟨0, 32, .rc, false, .no, 0⟩]⟩,
  ⟨0x90264, 4, 1, [⟨0, 32, .rc, false, .no, 0⟩]⟩,
  ⟨0x90268, 4, 1, [⟨0, 32, .rc, false, .no, 0⟩]⟩,
  ⟨0x9026C, 4, 1, [⟨0, 32, .rc, false, .no, 0⟩]⟩,
  ⟨0x90270, 4, 1, [⟨0, 32, .rc, false, .no, 0⟩]⟩,
  ⟨0x90300, 8, 16, [⟨0, 7, .rw, false, .yes, 0⟩, ⟨8, 7, .rw, false, .yes, 0⟩, ⟨15, 1, .rw, false, .yes, 0⟩, ⟨16, 1, .ro, false, .no, 0⟩, ⟨17, 1, .ro, false, .no, 0⟩]⟩,
  ⟨0x90380, 4, 4, [⟨0, 24, .ro, false, .no, 0⟩, ⟨24, 3, .ro, false, .no, 0⟩, ⟨27, 1, .ro, false, .no, 0⟩, ⟨28, 1, .ro, false, .no, 0⟩]⟩,
  ⟨0x90400, 16, 16, [⟨0, 24, .ro, false, .no, 0⟩, ⟨24, 8, .ro, false, .no, 0⟩]⟩,
  ⟨0x90404, 16, 16, [⟨0, 24, .ro, false, .no, 0⟩, ⟨31, 1, .ro, false, .no, 0⟩]⟩,
  ⟨0x90408, 16, 16, [⟨0, 16, .ro, false, .no, 0⟩]⟩,
  ⟨0x9040C, 16, 16, [⟨0, 16, .ro, false, .no, 0⟩]⟩]

def regFAB2 : List RegDef := [
  ⟨0x91000, 64, 128, [⟨0, 1, .rw, false, .yes, 0⟩, ⟨1, 2, .rw, false, .yes, 1⟩, ⟨3, 1, .rw, false, .yes, 0⟩, ⟨4, 1, .rw, false, .yes, 0⟩, ⟨5, 1, .rw, false, .yes, 0⟩, ⟨6, 1, .rw, false, .yes, 0⟩, ⟨7, 1, .rw, false, .yes, 0⟩, ⟨16, 16, .rw, false, .yes, 0⟩]⟩,
  ⟨0x91004, 64, 128, [⟨0, 3, .ro, false, .no, 0⟩, ⟨3, 1, .ro, false, .no, 0⟩, ⟨4, 1, .ro, false, .no, 0⟩, ⟨8, 24, .ro, false, .no, 0⟩]⟩,
  ⟨0x91008, 64, 128, [⟨0, 7, .ro, false, .no, 0⟩]⟩,
  ⟨0x9100C, 64, 128, [⟨0, 32, .ro, false, .no, 0⟩]⟩,
  ⟨0x91010, 64, 128, [⟨0, 16, .rw, false, .yes, 512⟩, ⟨16, 16, .rw, false, .yes, 1024⟩]⟩,
  ⟨0x91014, 64, 128, [⟨0, 16, .rw, false, .yes, 1024⟩, ⟨16, 16, .rw, false, .yes, 256⟩]⟩,
  ⟨0x91018, 64, 128, [⟨0, 16, .rw, false, .yes, 8192⟩, ⟨16, 16, .rw, false, .yes, 8192⟩]⟩,
  ⟨0x9101C, 64, 128, [⟨0, 16, .rw, false, .yes, 2048⟩, ⟨16, 16, .rw, false, .yes, 2048⟩]⟩,
  ⟨0x91020, 64, 128, [⟨0, 8, .rw, false, .yes, 1⟩, ⟨8, 8, .rw, false, .yes, 1⟩, ⟨16, 8, .rw, false, .yes, 1⟩, ⟨24, 8, .rw, false, .yes, 1⟩]⟩,
  ⟨0x91024, 64, 128, [⟨0, 8, .rw, false, .yes, 1⟩, ⟨8, 8, .rw, false, .yes, 1⟩, ⟨16, 8, .rw, false, .yes, 1⟩, ⟨24, 8, .rw, false, .yes, 1⟩]⟩,
  ⟨0x91028, 64, 128, [⟨0, 8, .rw, false, .yes, 1⟩, ⟨8, 8, .rw, false, .yes, 1⟩, ⟨16, 8, .rw, false, .yes, 1⟩, ⟨24, 8, .rw, false, .yes, 1⟩]⟩,
  ⟨0x9102C, 64, 128, [⟨0, 8, .rw, false, .yes, 1⟩, ⟨8, 8, .rw, false, .yes, 1⟩, ⟨16, 8, .rw, false, .yes, 1⟩, ⟨24, 8, .rw, false, .yes, 1⟩]⟩,
  ⟨0x91030, 64, 128, [⟨0, 8, .rw, false, .yes, 1⟩, ⟨8, 8, .rw, false, .yes, 1⟩, ⟨16, 8, .rw, false, .yes, 1⟩, ⟨24, 8, .rw, false, .yes, 1⟩]⟩,
  ⟨0x91034, 64, 128, [⟨0, 8, .rw, false, .yes, 1⟩, ⟨8, 8, .rw, false, .yes, 1⟩, ⟨16, 8, .rw, false, .yes, 1⟩, ⟨24, 8, .rw, false, .yes, 1⟩]⟩,
  ⟨0x91038, 64, 128, [⟨0, 32, .rc, false, .no, 0⟩]⟩,
  ⟨0x9103C, 64, 128, [⟨0, 32, .rc, false, .no, 0⟩]⟩,
  ⟨0x93000, 16, 144, [⟨0, 8, .rw, false, .yes, 1⟩, ⟨8, 8, .rw, false, .yes, 1⟩, ⟨16, 8, .rw, false, .yes, 1⟩, ⟨24, 8, .rw, false, .yes, 1⟩]⟩,
  ⟨0x93004, 16, 144, [⟨0, 8, .rw, false, .yes, 1⟩, ⟨8, 8, .rw, false, .yes, 1⟩, ⟨16, 8, .rw, false, .yes, 1⟩, ⟨24, 8, .rw, false, .yes, 1⟩]⟩,
  ⟨0x93008, 16, 144, [⟨0, 4, .rw, false, .yes, 0⟩]⟩,
  ⟨0x94000, 64, 128, [⟨0, 32, .rw, false, .yes, 0⟩]⟩,
  ⟨0x94004, 64, 128, [⟨0, 16, .rw, false, .yes, 0⟩]⟩,
  ⟨0x94008, 64, 128, [⟨0, 32, .rw, false, .yes, 0⟩]⟩,
  ⟨0x9400C, 64, 128, [⟨0, 32, .rw, false, .yes, 0⟩]⟩,
  ⟨0x94010, 64, 128, [⟨0, 32, .rw, false, .yes, 0⟩]⟩,
  ⟨0x94014, 64, 128, [⟨0, 32, .rw, false, .yes, 0⟩]⟩]

def regFAB3 : List RegDef := [
  ⟨0x94018, 64, 128, [⟨0, 32, .rw, false, .yes, 0⟩]⟩,
  ⟨0x9401C, 64, 128, [⟨0, 16, .rw, false, .yes, 0xb8a0⟩, ⟨16, 2, .rw, false, .yes, 0⟩, ⟨18, 8, .rw, false, .yes, 0⟩, ⟨26, 1, .rw, false, .yes, 0⟩, ⟨27, 1, .rw, false, .yes, 0⟩]⟩,
  ⟨0x94020, 64, 128, [⟨0, 12, .rw, false, .yes, 0⟩]⟩,
  ⟨0x96000, 32, 64, [⟨0, 1, .rw, false, .yes, 0⟩, ⟨1, 1, .rw, false, .yes, 0⟩, ⟨2, 2, .rw, false, .yes, 0⟩, ⟨4, 2, .rw, false, .yes, 0⟩, ⟨6, 1, .rw, false, .yes, 0⟩, ⟨7, 1, .rw, false, .yes, 0⟩, ⟨16, 16, .rw, false, .yes, 0⟩]⟩,
  ⟨0x96004, 32, 64, [⟨0, 16, .rw, false, .yes, 0⟩, ⟨16, 16, .rw, false, .yes, 0⟩]⟩,
  ⟨0x96008, 32, 64, [⟨0, 23, .rw, false, .yes, 0⟩]⟩,
  ⟨0x9600C, 32, 64, [⟨0, 16, .rw, false, .yes, 0⟩, ⟨16, 16, .rw, false, .yes, 0⟩]⟩,
  ⟨0x96010, 32, 64, [⟨0, 16, .rw, false, .yes, 0⟩, ⟨16, 16, .rw, false, .yes, 0⟩]⟩,
  ⟨0x96014, 32, 64, [⟨0, 8, .rw, false, .yes, 0⟩, ⟨8, 1, .rw, false, .yes, 0⟩]⟩,
  ⟨0x97000, 32, 256, [⟨0, 16, .rw, false, .yes, 0⟩, ⟨16, 5, .rw, false, .yes, 0⟩, ⟨21, 1, .rw, false, .yes, 0⟩, ⟨22, 1, .rw, false, .yes, 0⟩]⟩,
  ⟨0x97004, 32, 256, [⟨0, 32, .rw, false, .yes, 0⟩]⟩,
  ⟨0x97008, 32, 256, [⟨0, 23, .rw, false, .yes, 0⟩]⟩,
  ⟨0x9700C, 32, 256, [⟨0, 32, .rw, false, .yes, 0⟩]⟩,
  ⟨0x97010, 32, 256, [⟨0, 32, .rw, false, .yes, 0⟩]⟩]

def regWLD : List RegDef := [
  ⟨0xA0000, 4, 1, [⟨0, 1, .tw, false, .no, 0⟩]⟩,
  ⟨0xA0004, 4, 1, [⟨0, 2, .ro, false, .no, 0⟩, ⟨16, 16, .ro, false, .no, 0⟩]⟩,
  ⟨0xA0008, 4, 1, [⟨0, 32, .tw, true, .no, 0⟩]⟩,
  ⟨0xA000C, 4, 1, [⟨0, 16, .tw, true, .no, 0⟩]⟩,
  ⟨0xA0010, 4, 1, [⟨0, 32, .ro, false, .no, 0⟩]⟩,
  ⟨0xA0014, 4, 1, [⟨0, 16, .ro, false, .no, 0⟩]⟩,
  ⟨0xA0018, 4, 1, [⟨0, 32, .tw, true, .no, 0⟩]⟩,
  ⟨0xA001C, 4, 1, [⟨0, 32, .tw, true, .no, 0⟩]⟩,
  ⟨0xA0020, 4, 1, [⟨0, 32, .ro, false, .no, 0⟩]⟩,
  ⟨0xA0024, 4, 1, [⟨0, 32, .ro, false, .no, 0⟩]⟩,
  ⟨0xA0040, 4, 1, [⟨0, 32, .rc, false, .no, 0⟩]⟩,
  ⟨0xA0044, 4, 1, [⟨0, 32, .rc, false, .no, 0⟩]⟩,
  ⟨0xA0048, 4, 1, [⟨0, 32, .rc, false, .no, 0⟩]⟩,
  ⟨0xA004C, 4, 1, [⟨0, 32, .rc, false, .no, 0⟩]⟩,
  ⟨0xA0050, 4, 1, [⟨0, 32, .rc, false, .no, 0⟩]⟩,
  ⟨0xA0054, 4, 1, [⟨0, 32, .rc, false, .no, 0⟩]⟩,
  ⟨0xA0060, 4, 1, [⟨0, 7, .ro, false, .no, 0⟩, ⟨8, 2, .ro, false, .no, 0⟩, ⟨16, 6, .ro, false, .no, 0⟩]⟩,
  ⟨0xA1000, 16, 256, [⟨0, 1, .tw, true, .no, 0⟩, ⟨1, 1, .tw, true, .no, 0⟩, ⟨12, 20, .tw, true, .no, 0⟩]⟩,
  ⟨0xA1004, 16, 256, [⟨0, 32, .tw, true, .no, 0⟩]⟩,
  ⟨0xA1008, 16, 256, [⟨12, 20, .tw, true, .no, 0⟩]⟩,
  ⟨0xA100C, 16, 256, [⟨0, 32, .tw, true, .no, 0⟩]⟩]

def regLIO0 : List RegDef := [
  ⟨0xB0000, 4, 1, [⟨0, 10, .rw, true, .yes, 100⟩]⟩,
  ⟨0xB0004, 4, 1, [⟨0, 1, .ro, false, .no, 0⟩, ⟨1, 1, .ro, false, .no, 0⟩, ⟨2, 1, .ro, false, .no, 0⟩]⟩,
  ⟨0xB0008, 4, 1, [⟨0, 5, .rw, false, .no, 0⟩, ⟨5, 1, .rw, false, .no, 0⟩]⟩,
  ⟨0xB0010, 4, 4, [⟨0, 32, .ro, false, .no, 0⟩]⟩,
  ⟨0xB0040, 4, 1, [⟨0, 32, .rc, false, .no, 0⟩]⟩,
  ⟨0xB0044, 4, 1, [⟨0, 32, .rc, false, .no, 0⟩]⟩,
  ⟨0xB0048, 4, 1, [⟨0, 32, .rc, false, .no, 0⟩]⟩,
  ⟨0xB004C, 4, 1, [⟨0, 32, .rc, false, .no, 0⟩]⟩,
  ⟨0xB0050, 4, 1, [⟨0, 32, .rc, false, .no, 0⟩]⟩,
  ⟨0xB0054, 4, 1, [⟨0, 32, .rc, false, .no, 0⟩]⟩,
  ⟨0xB0058, 4, 1, [⟨0, 32, .rc, false, .no, 0⟩]⟩,
  ⟨0xB005C, 4, 1, [⟨0, 32, .rc, false, .no, 0⟩]⟩,
  ⟨0xB0060, 4, 1, [⟨0, 32, .rc, false, .no, 0⟩]⟩,
  ⟨0xB0064, 4, 1, [⟨0, 32, .rc, false, .no, 0⟩]⟩,
  ⟨0xB0068, 4, 1, [⟨0, 32, .rc, false, .no, 0⟩]⟩,
  ⟨0xB006C, 4, 1, [⟨0, 32, .rc, false, .no, 0⟩]⟩,
  ⟨0xB0070, 4, 1, [⟨0, 32, .rc, false, .no, 0⟩]⟩,
  ⟨0xB0074, 4, 1, [⟨0, 32, .rc, false, .no, 0⟩]⟩,
  ⟨0xB0100, 32, 32, [⟨0, 3, .rw, false, .yes, 0⟩, ⟨3, 2, .rw, false, .yes, 0⟩, ⟨5, 1, .rw, false, .yes, 0⟩, ⟨6, 2, .rw, false, .yes, 0⟩, ⟨8, 2, .rw, false, .yes, 0⟩, ⟨10, 1, .rw, false, .yes, 0⟩, ⟨11, 1, .rw, false, .yes, 0⟩, ⟨12, 3, .rw, false, .yes, 7⟩, ⟨15, 2, .rw, false, .yes, 0⟩, ⟨17, 1, .rw, false, .yes, 0⟩, ⟨18, 1, .rw, false, .yes, 0⟩, ⟨19, 1, .rw, false, .yes, 0⟩, ⟨20, 3, .rw, false, .yes, 3⟩]⟩,
  ⟨0xB0104, 32, 32, [⟨0, 32, .rw, false, .yes, 0x42c80000⟩]⟩,
  ⟨0xB0108, 32, 32, [⟨0, 16, .rw, false, .yes, 0⟩, ⟨16, 12, .rw, false, .yes, 0⟩]⟩,
  ⟨0xB010C, 32, 32, [⟨0, 2, .rw, false, .yes, 0⟩, ⟨2, 23, .rw, false, .yes, 0⟩]⟩,
  ⟨0xB0110, 32, 32, [⟨0, 32, .rw, false, .yes, 0x41c80000⟩]⟩,
  ⟨0xB0114, 32, 32, [⟨0, 1, .w1c, false, .no, 0⟩, ⟨1, 1, .ro, false, .no, 0⟩, ⟨2, 1, .ro, false, .no, 0⟩, ⟨3, 1, .ro, false, .no, 0⟩, ⟨4, 1, .ro, false, .no, 0⟩, ⟨16, 16, .ro, false, .no, 0⟩]⟩,
  ⟨0xB0118, 32, 32, [⟨0, 24, .ro, false, .no, 0⟩]⟩]

def regLIO1 : List RegDef := [
  ⟨0xB011C, 32, 32, [⟨0, 32, .ro, false, .no, 0⟩]⟩,
  ⟨0xB0500, 32, 16, [⟨0, 1, .tw, true, .twin, 0⟩, ⟨1, 1, .tw, true, .twin, 0⟩, ⟨2, 1, .tw, true, .twin, 0⟩, ⟨3, 1, .tw, true, .twin, 0⟩, ⟨4, 2, .tw, true, .twin, 0⟩, ⟨6, 1, .tw, true, .twin, 0⟩]⟩,
  ⟨0xB0504, 32, 16, [⟨0, 15, .tw, true, .twin, 3600⟩]⟩,
  ⟨0xB0508, 32, 16, [⟨0, 15, .tw, true, .twin, 3800⟩, ⟨16, 15, .tw, true, .twin, 0x5014⟩]⟩,
  ⟨0xB050C, 32, 16, [⟨0, 1, .ro, false, .no, 0⟩, ⟨1, 1, .ro, false, .no, 0⟩, ⟨2, 1, .ro, false, .no, 0⟩, ⟨3, 1, .ro, false, .no, 0⟩, ⟨4, 1, .ro, false, .no, 0⟩, ⟨5, 1, .ro, false, .no, 0⟩]⟩,
  ⟨0xB0510, 32, 16, [⟨0, 15, .ro, false, .no, 0⟩]⟩,
  ⟨0xB0514, 32, 16, [⟨0, 15, .ro, false, .no, 0⟩]⟩,
  ⟨0xB0518, 32, 16, [⟨0, 15, .ro, false, .no, 0⟩]⟩,
  ⟨0xB0700, 16, 16, [⟨0, 8, .wo, false, .no, 0⟩, ⟨8, 1, .wo, false, .no, 0⟩]⟩,
  ⟨0xB0704, 16, 16, [⟨0, 8, .rc, false, .no, 0⟩, ⟨8, 1, .rc, false, .no, 0⟩, ⟨9, 1, .rc, false, .no, 0⟩, ⟨10, 1, .rc, false, .no, 0⟩]⟩,
  ⟨0xB0708, 16, 16, [⟨0, 9, .ro, false, .no, 256⟩, ⟨16, 9, .ro, false, .no, 0⟩, ⟨25, 1, .ro, false, .no, 0⟩]⟩,
  ⟨0xB0800, 16, 48, [⟨0, 2, .tw, true, .twin, 0⟩, ⟨2, 13, .tw, true, .twin, 100⟩, ⟨15, 1, .tw, true, .twin, 0⟩, ⟨16, 2, .tw, true, .twin, 0⟩, ⟨18, 10, .tw, true, .twin, 0⟩]⟩,
  ⟨0xB0804, 16, 48, [⟨0, 1, .ro, false, .no, 0⟩, ⟨1, 1, .ro, false, .no, 0⟩, ⟨2, 1, .ro, false, .no, 0⟩, ⟨3, 1, .ro, false, .no, 0⟩, ⟨4, 1, .ro, false, .no, 0⟩, ⟨5, 1, .ro, false, .no, 0⟩, ⟨6, 1, .ro, false, .no, 0⟩]⟩,
  ⟨0xB0808, 16, 48, [⟨0, 10, .rw, false, .yes, 2⟩]⟩,
  ⟨0xB0B00, 16, 16, [⟨0, 10, .tw, true, .twin, 50⟩, ⟨10, 14, .tw, true, .twin, 200⟩, ⟨24, 1, .tw, true, .twin, 0⟩]⟩,
  ⟨0xB0B04, 16, 16, [⟨0, 10, .tw, true, .twin, 10⟩]⟩,
  ⟨0xB0B08, 16, 16, [⟨0, 20, .tw, true, .twin, 0xea60⟩]⟩,
  ⟨0xB0B0C, 16, 16, [⟨0, 16, .ro, false, .no, 0⟩, ⟨16, 16, .ro, false, .no, 0⟩]⟩,
  ⟨0xB0C00, 8, 4, [⟨0, 1, .tw, true, .twin, 0⟩, ⟨1, 1, .tw, true, .twin, 0⟩, ⟨2, 11, .tw, true, .twin, 1000⟩]⟩,
  ⟨0xB0C04, 8, 4, [⟨0, 1, .ro, false, .no, 0⟩]⟩]

def regLTN : List RegDef := [
  ⟨0xC0000, 4, 1, [⟨0, 1, .rw, true, .yes, 1⟩, ⟨1, 1, .rw, false, .no, 0⟩, ⟨2, 1, .rw, true, .yes, 1⟩, ⟨3, 1, .rw, true, .yes, 0⟩, ⟨4, 6, .rw, true, .yes, 60⟩]⟩,
  ⟨0xC0004, 4, 1, [⟨0, 11, .rw, true, .yes, 1280⟩, ⟨16, 10, .rw, true, .yes, 800⟩]⟩,
  ⟨0xC0008, 4, 1, [⟨0, 8, .rw, false, .yes, 200⟩, ⟨8, 8, .rw, false, .yes, 64⟩]⟩,
  ⟨0xC0010, 4, 1, [⟨0, 3, .ro, false, .no, 0⟩, ⟨3, 1, .ro, false, .yes, 1⟩, ⟨4, 1, .ro, false, .no, 0⟩, ⟨5, 1, .ro, false, .no, 0⟩, ⟨6, 1, .ro, false, .no, 0⟩, ⟨7, 1, .ro, false, .no, 0⟩, ⟨8, 1, .ro, false, .no, 0⟩, ⟨16, 6, .ro, false, .no, 0⟩]⟩,
  ⟨0xC0014, 4, 1, [⟨0, 32, .ro, false, .no, 0⟩]⟩,
  ⟨0xC0018, 4, 1, [⟨0, 32, .ro, false, .no, 0⟩]⟩,
  ⟨0xC001C, 4, 1, [⟨0, 32, .ro, false, .no, 0⟩]⟩,
  ⟨0xC0020, 4, 1, [⟨0, 3, .rw, false, .yes, 1⟩, ⟨3, 3, .rw, false, .yes, 5⟩, ⟨6, 3, .rw, false, .yes, 3⟩, ⟨9, 3, .rw, false, .yes, 6⟩, ⟨12, 3, .rw, false, .yes, 7⟩, ⟨15, 3, .rw, false, .yes, 4⟩]⟩,
  ⟨0xC0030, 4, 1, [⟨0, 32, .rc, false, .no, 0⟩]⟩,
  ⟨0xC0034, 4, 1, [⟨0, 32, .rc, false, .no, 0⟩]⟩,
  ⟨0xC0038, 4, 1, [⟨0, 32, .rc, false, .no, 0⟩]⟩,
  ⟨0xC003C, 4, 1, [⟨0, 32, .rc, false, .no, 0⟩]⟩,
  ⟨0xC0040, 4, 6, [⟨0, 3, .rw, false, .yes, 0⟩]⟩,
  ⟨0xC1000, 16, 256, [⟨0, 16, .ro, false, .yes, 0⟩, ⟨16, 1, .ro, false, .yes, 0⟩, ⟨17, 3, .ro, false, .no, 5⟩, ⟨20, 1, .ro, false, .no, 0⟩, ⟨21, 1, .ro, false, .no, 0⟩]⟩,
  ⟨0xC1004, 16, 256, [⟨0, 11, .ro, false, .yes, 0⟩, ⟨16, 10, .ro, false, .yes, 0⟩]⟩,
  ⟨0xC1008, 16, 256, [⟨0, 11, .ro, false, .yes, 0⟩, ⟨16, 10, .ro, false, .yes, 0⟩]⟩]

def regPWR : List RegDef := [
  ⟨0xD0000, 4, 1, [⟨0, 1, .ro, false, .no, 0⟩, ⟨1, 1, .ro, false, .no, 0⟩, ⟨2, 1, .ro, false, .no, 0⟩, ⟨3, 1, .ro, false, .no, 0⟩, ⟨4, 2, .ro, false, .no, 0⟩, ⟨6, 3, .ro, false, .no, 0⟩, ⟨9, 1, .w1c, false, .no, 0⟩, ⟨10, 1, .ro, false, .no, 0⟩]⟩,
  ⟨0xD0004, 4, 1, [⟨0, 17, .ro, false, .no, 0⟩]⟩,
  ⟨0xD0008, 4, 1, [⟨0, 16, .ro, false, .no, 0⟩]⟩,
  ⟨0xD000C, 4, 1, [⟨0, 16, .ro, false, .no, 0⟩]⟩,
  ⟨0xD0010, 4, 1, [⟨0, 16, .ro, false, .no, 0⟩]⟩,
  ⟨0xD0014, 4, 1, [⟨0, 10, .ro, false, .no, 0⟩, ⟨16, 16, .ro, false, .no, 0⟩]⟩,
  ⟨0xD0020, 4, 1, [⟨0, 5, .rw, true, .yes, 30⟩, ⟨16, 14, .rw, true, .yes, 500⟩]⟩,
  ⟨0xD0024, 4, 1, [⟨0, 1, .rw, false, .yes, 1⟩, ⟨1, 1, .rw, false, .yes, 1⟩, ⟨2, 1, .rw, false, .yes, 1⟩, ⟨3, 1, .rw, false, .yes, 1⟩, ⟨4, 1, .rw, false, .yes, 1⟩]⟩,
  ⟨0xD0028, 4, 1, [⟨0, 1, .rw, true, .yes, 0⟩]⟩,
  ⟨0xD002C, 4, 1, [⟨0, 1, .ro, false, .no, 0⟩, ⟨1, 1, .ro, false, .no, 0⟩, ⟨2, 1, .ro, false, .no, 0⟩, ⟨3, 1, .ro, false, .no, 0⟩]⟩,
  ⟨0xD0030, 4, 1, [⟨0, 32, .ro, false, .no, 0xffffffff⟩]⟩,
  ⟨0xD0034, 4, 1, [⟨0, 32, .ro, false, .no, 0xffffffff⟩]⟩,
  ⟨0xD0038, 4, 1, [⟨0, 9, .ro, false, .no, 0⟩]⟩,
  ⟨0xD003C, 4, 1, [⟨0, 16, .ro, false, .no, 0⟩]⟩,
  ⟨0xD0040, 4, 1, [⟨0, 1, .ro, false, .no, 0⟩, ⟨8, 8, .ro, false, .no, 0⟩, ⟨16, 6, .ro, false, .no, 0⟩]⟩,
  ⟨0xD0050, 4, 1, [⟨0, 32, .rc, false, .no, 0⟩]⟩,
  ⟨0xD0054, 4, 1, [⟨0, 32, .rc, false, .no, 0⟩]⟩,
  ⟨0xD0058, 4, 1, [⟨0, 32, .rc, false, .no, 0⟩]⟩,
  ⟨0xD005C, 4, 1, [⟨0, 32, .rc, false, .no, 0⟩]⟩,
  ⟨0xD0060, 4, 1, [⟨0, 32, .rc, false, .no, 0⟩]⟩,
  ⟨0xD0064, 4, 1, [⟨0, 32, .rc, false, .no, 0⟩]⟩,
  ⟨0xD0100, 16, 32, [⟨0, 23, .tw, true, .twin, 0⟩, ⟨23, 4, .tw, true, .twin, 0⟩, ⟨27, 1, .tw, true, .twin, 0⟩, ⟨28, 1, .tw, true, .twin, 0⟩]⟩,
  ⟨0xD0104, 16, 32, [⟨0, 6, .tw, true, .twin, 0⟩]⟩,
  ⟨0xD0108, 16, 32, [⟨0, 16, .tw, true, .twin, 0⟩, ⟨16, 16, .tw, true, .twin, 0⟩]⟩]

def regKPR0 : List RegDef := [
  ⟨0xE0000, 4, 1, [⟨0, 2, .ro, false, .no, 0⟩, ⟨2, 1, .ro, false, .no, 0⟩, ⟨3, 1, .ro, false, .no, 0⟩, ⟨4, 1, .ro, false, .no, 0⟩, ⟨5, 3, .ro, false, .no, 0⟩, ⟨8, 7, .ro, false, .no, 0⟩]⟩,
  ⟨0xE0004, 4, 1, [⟨0, 32, .ro, false, .no, 0⟩]⟩,
  ⟨0xE0008, 4, 1, [⟨0, 14, .rw, true, .yes, 1000⟩]⟩,
  ⟨0xE000C, 4, 1, [⟨0, 1, .rw, true, .yes, 1⟩, ⟨1, 1, .rw, true, .yes, 1⟩, ⟨16, 16, .rw, true, .yes, 0xc7ce⟩]⟩,
  ⟨0xE0010, 4, 2, [⟨0, 32, .rw, true, .yes, 0⟩]⟩,
  ⟨0xE0018, 4, 1, [⟨0, 32, .ro, false, .no, 0⟩]⟩,
  ⟨0xE0020, 4, 1, [⟨0, 32, .rc, false, .no, 0⟩]⟩,
  ⟨0xE0024, 4, 1, [⟨0, 32, .rc, false, .no, 0⟩]⟩,
  ⟨0xE0028, 4, 1, [⟨0, 32, .rc, false, .no, 0⟩]⟩,
  ⟨0xE002C, 4, 1, [⟨0, 32, .rc, false, .no, 0⟩]⟩,
  ⟨0xE0030, 4, 1, [⟨0, 8, .ro, false, .no, 100⟩]⟩,
  ⟨0xE0034, 4, 1, [⟨0, 32, .rc, false, .no, 0⟩]⟩,
  ⟨0xE0100, 4, 1, [⟨0, 1, .tw, true, .no, 0⟩, ⟨8, 8, .tw, true, .twin, 128⟩]⟩,
  ⟨0xE0104, 4, 1, [⟨0, 1, .ro, false, .no, 0⟩, ⟨1, 1, .ro, false, .no, 0⟩, ⟨2, 1, .ro, false, .no, 0⟩, ⟨4, 2, .ro, false, .no, 0⟩, ⟨6, 1, .ro, false, .no, 0⟩, ⟨7, 1, .ro, false, .no, 0⟩]⟩,
  ⟨0xE0108, 4, 1, [⟨0, 24, .ro, false, .no, 0⟩]⟩,
  ⟨0xE010C, 4, 2, [⟨0, 32, .ro, false, .no, 0⟩]⟩,
  ⟨0xE0200, 4, 1, [⟨0, 8, .rw, false, .yes, 30⟩, ⟨8, 8, .rw, false, .yes, 60⟩, ⟨16, 7, .rw, false, .yes, 23⟩]⟩,
  ⟨0xE0204, 4, 1, [⟨0, 1, .ro, false, .no, 0⟩]⟩,
  ⟨0xE0208, 4, 1, [⟨0, 32, .rc, false, .no, 0⟩]⟩,
  ⟨0xE0300, 4, 1, [⟨0, 1, .rw, false, .no, 0⟩, ⟨1, 1, .rw, true, .yes, 1⟩]⟩,
  ⟨0xE0304, 4, 1, [⟨0, 1, .ro, false, .no, 0⟩, ⟨1, 1, .ro, false, .no, 0⟩, ⟨2, 1, .ro, false, .no, 0⟩]⟩,
  ⟨0xE0308, 4, 1, [⟨0, 1, .rw, false, .no, 0⟩, ⟨1, 1, .rw, false, .no, 1⟩]⟩,
  ⟨0xE030C, 4, 1, [⟨0, 17, .ro, false, .no, 0⟩, ⟨31, 1, .ro, false, .no, 0⟩]⟩,
  ⟨0xE0310, 4, 1, [⟨0, 32, .rc, false, .no, 0⟩]⟩,
  ⟨0xE1000, 16, 85, [⟨0, 32, .ro, false, .no, 0⟩]⟩]

def regKPR1 : List RegDef := [
  ⟨0xE1004, 16, 85, [⟨0, 32, .rw, false, .yes, 0⟩]⟩,
  ⟨0xE1008, 16, 85, [⟨0, 32, .rw, false, .yes, 0⟩]⟩,
  ⟨0xE100C, 16, 85, [⟨0, 1, .ro, false, .no, 0⟩, ⟨1, 1, .ro, false, .no, 0⟩, ⟨2, 1, .ro, false, .no, 0⟩]⟩,
  ⟨0xE2000, 16, 4, [⟨0, 1, .rw, false, .yes, 1⟩, ⟨1, 1, .rw, false, .yes, 0⟩, ⟨2, 1, .wo, false, .no, 0⟩, ⟨3, 2, .rw, false, .yes, 1⟩, ⟨8, 7, .rw, false, .yes, 30⟩, ⟨16, 7, .rw, false, .yes, 100⟩, ⟨24, 7, .rw, false, .yes, 100⟩]⟩,
  ⟨0xE2004, 16, 4, [⟨0, 16, .rw, false, .yes, 500⟩]⟩,
  ⟨0xE2008, 16, 4, [⟨0, 12, .rw, false, .yes, 50⟩, ⟨16, 12, .rw, false, .yes, 2000⟩]⟩,
  ⟨0xE200C, 16, 4, [⟨0, 3, .ro, false, .no, 0⟩, ⟨3, 2, .ro, false, .no, 0⟩, ⟨5, 1, .ro, false, .no, 0⟩, ⟨8, 7, .ro, false, .no, 0⟩, ⟨16, 16, .ro, false, .no, 0⟩]⟩]

def regBKP0 : List RegDef := [
  ⟨0xF0000, 4, 1, [⟨0, 1, .w1c, false, .no, 1⟩, ⟨1, 1, .ro, false, .no, 0⟩, ⟨2, 1, .w1c, false, .no, 0⟩, ⟨3, 1, .ro, false, .no, 0⟩, ⟨4, 1, .ro, false, .no, 0⟩, ⟨5, 1, .w1c, false, .no, 1⟩, ⟨6, 1, .ro, false, .no, 0⟩, ⟨7, 1, .ro, false, .no, 0⟩, ⟨8, 1, .ro, false, .no, 0⟩, ⟨9, 1, .ro, false, .no, 0⟩]⟩,
  ⟨0xF0004, 4, 1, [⟨0, 12, .ro, false, .no, 0⟩]⟩,
  ⟨0xF0008, 4, 1, [⟨0, 1, .wo, false, .no, 0⟩, ⟨1, 1, .ro, false, .no, 0⟩]⟩,
  ⟨0xF0010, 4, 1, [⟨0, 15, .ro, false, .no, 0⟩]⟩,
  ⟨0xF0014, 4, 1, [⟨0, 32, .ro, false, .no, 0⟩]⟩,
  ⟨0xF0018, 4, 1, [⟨0, 16, .ro, false, .no, 0⟩]⟩,
  ⟨0xF0020, 4, 1, [⟨0, 32, .ro, false, .no, 0⟩]⟩,
  ⟨0xF0024, 4, 1, [⟨0, 32, .ro, false, .no, 0⟩]⟩,
  ⟨0xF0028, 4, 1, [⟨0, 6, .ro, false, .no, 23⟩, ⟨6, 6, .ro, false, .no, 59⟩, ⟨12, 5, .ro, false, .no, 23⟩, ⟨17, 5, .ro, false, .no, 31⟩, ⟨22, 4, .ro, false, .no, 12⟩, ⟨26, 3, .ro, false, .no, 4⟩]⟩,
  ⟨0xF002C, 4, 1, [⟨0, 16, .ro, false, .no, 1999⟩]⟩,
  ⟨0xF0030, 4, 1, [⟨0, 15, .rw, false, .no, 0⟩]⟩,
  ⟨0xF0034, 4, 1, [⟨0, 32, .rw, false, .no, 0⟩]⟩,
  ⟨0xF0038, 4, 1, [⟨0, 16, .rw, false, .no, 0⟩]⟩,
  ⟨0xF003C, 4, 1, [⟨0, 1, .tw, false, .no, 0⟩]⟩,
  ⟨0xF0040, 4, 1, [⟨0, 17, .tw, false, .no, 0⟩]⟩,
  ⟨0xF0048, 4, 1, [⟨0, 17, .tw, true, .no, 0⟩]⟩,
  ⟨0xF004C, 4, 1, [⟨0, 2, .rw, true, .no, 3⟩, ⟨2, 1, .rw, true, .no, 0⟩, ⟨3, 1, .rw, true, .no, 1⟩, ⟨8, 12, .rw, true, .no, 100⟩, ⟨20, 8, .rw, true, .no, 5⟩]⟩,
  ⟨0xF0050, 4, 1, [⟨0, 17, .ro, false, .no, 0⟩, ⟨17, 2, .ro, false, .no, 0⟩, ⟨20, 3, .ro, false, .no, 4⟩]⟩,
  ⟨0xF0054, 4, 1, [⟨0, 20, .ro, false, .no, 0⟩]⟩,
  ⟨0xF0058, 4, 1, [⟨0, 15, .ro, false, .no, 0⟩]⟩,
  ⟨0xF005C, 4, 1, [⟨0, 32, .ro, false, .no, 0⟩]⟩,
  ⟨0xF0060, 4, 1, [⟨0, 16, .ro, false, .no, 0⟩]⟩,
  ⟨0xF0064, 4, 1, [⟨0, 32, .rc, false, .no, 0⟩]⟩,
  ⟨0xF0068, 4, 1, [⟨0, 16, .ro, false, .no, 37⟩, ⟨16, 1, .ro, false, .no, 0⟩]⟩,
  ⟨0xF0078, 4, 1, [⟨0, 32, .rw, false, .no, 0⟩]⟩]

def regBKP1 : List RegDef := [
  ⟨0xF007C, 4, 1, [⟨0, 16, .rw, false, .no, 0⟩]⟩,
  ⟨0xF0080, 4, 1, [⟨0, 20, .rw, false, .no, 0⟩]⟩,
  ⟨0xF0088, 4, 1, [⟨0, 1, .tw, true, .no, 0⟩, ⟨1, 1, .tw, true, .no, 1⟩, ⟨2, 1, .tw, true, .no, 1⟩, ⟨3, 1, .tw, true, .no, 0⟩, ⟨8, 8, .tw, true, .no, 50⟩, ⟨16, 8, .tw, true, .no, 60⟩]⟩,
  ⟨0xF008C, 4, 1, [⟨0, 1, .ro, false, .no, 0⟩, ⟨1, 1, .w1c, false, .no, 0⟩, ⟨2, 1, .w1c, false, .no, 0⟩, ⟨3, 1, .w1c, false, .no, 0⟩, ⟨4, 1, .ro, false, .no, 0⟩, ⟨5, 1, .wo, false, .no, 0⟩]⟩,
  ⟨0xF0090, 4, 1, [⟨0, 32, .rc, false, .no, 0⟩]⟩,
  ⟨0xF0094, 4, 1, [⟨0, 32, .rc, false, .no, 0⟩]⟩,
  ⟨0xF1000, 4, 128, [⟨0, 32, .ro, false, .no, 0⟩]⟩,
  ⟨0xF1200, 4, 896, [⟨0, 32, .rw, false, .no, 0⟩]⟩]

def regHIF0 : List RegDef := [
  ⟨0x180000, 4, 1, [⟨0, 8, .rw, true, .yes, 16⟩, ⟨8, 1, .rw, true, .yes, 0⟩]⟩,
  ⟨0x180004, 4, 1, [⟨0, 1, .rw, false, .no, 0⟩, ⟨1, 1, .rw, false, .no, 0⟩, ⟨16, 16, .rw, false, .no, 0⟩]⟩,
  ⟨0x180008, 4, 1, [⟨0, 3, .ro, false, .no, 0⟩, ⟨3, 5, .ro, false, .no, 0⟩, ⟨8, 1, .ro, false, .no, 0⟩]⟩,
  ⟨0x18000C, 4, 1, [⟨0, 15, .ro, false, .no, 0⟩]⟩,
  ⟨0x180010, 4, 1, [⟨0, 12, .ro, false, .no, 0⟩]⟩,
  ⟨0x180014, 4, 1, [⟨0, 26, .ro, false, .no, 0⟩]⟩,
  ⟨0x180020, 4, 1, [⟨0, 32, .rc, false, .no, 0⟩]⟩,
  ⟨0x180024, 4, 1, [⟨0, 32, .rc, false, .no, 0⟩]⟩,
  ⟨0x180028, 4, 1, [⟨0, 32, .rc, false, .no, 0⟩]⟩,
  ⟨0x18002C, 4, 1, [⟨0, 32, .rc, false, .no, 0⟩]⟩,
  ⟨0x180030, 4, 1, [⟨0, 32, .rc, false, .no, 0⟩]⟩,
  ⟨0x180034, 4, 1, [⟨0, 32, .rc, false, .no, 0⟩]⟩,
  ⟨0x182000, 8, 1024, [⟨0, 16, .rw, true, .no, 0⟩, ⟨16, 1, .rw, true, .no, 0⟩]⟩,
  ⟨0x182004, 8, 1024, [⟨0, 16, .rw, true, .no, 0⟩, ⟨16, 1, .rw, true, .no, 0⟩]⟩,
  ⟨0x190000, 4096, 65, [⟨0, 1, .rw, false, .no, 0⟩, ⟨1, 1, .rw, false, .no, 0⟩, ⟨2, 1, .wo, false, .no, 0⟩]⟩,
  ⟨0x190004, 4096, 65, [⟨0, 1, .ro, false, .no, 0⟩, ⟨1, 1, .ro, false, .no, 0⟩, ⟨2, 1, .ro, false, .no, 0⟩]⟩,
  ⟨0x190008, 4096, 65, [⟨0, 32, .rw, false, .no, 0⟩]⟩,
  ⟨0x19000C, 4096, 65, [⟨0, 32, .rw, false, .no, 0⟩]⟩,
  ⟨0x190010, 4096, 65, [⟨0, 32, .rw, false, .no, 0⟩]⟩,
  ⟨0x190014, 4096, 65, [⟨0, 32, .rw, false, .no, 0⟩]⟩,
  ⟨0x190018, 4096, 65, [⟨0, 5, .rw, false, .no, 6⟩, ⟨8, 5, .rw, false, .no, 6⟩, ⟨16, 11, .rw, false, .no, 0⟩, ⟨27, 1, .rw, false, .no, 0⟩]⟩,
  ⟨0x19001C, 4096, 65, [⟨0, 12, .rw, true, .yes, 0⟩]⟩,
  ⟨0x190020, 4096, 65, [⟨0, 8, .rw, true, .yes, 1⟩]⟩,
  ⟨0x190024, 4096, 65, [⟨0, 17, .ro, false, .no, 0⟩]⟩,
  ⟨0x190028, 4096, 65, [⟨0, 15, .ro, false, .no, 0⟩]⟩]

def regHIF1 : List RegDef := [
  ⟨0x19002C, 4096, 65, [⟨0, 32, .rc, false, .no, 0⟩]⟩]

/-- The register words of the block whose window holds a BAR0 offset (R785). -/
def regsOf (off : Nat) : List RegDef :=
  match off >>> 16 with
  | 0 => regSYS
  | 1 => regPNT
  | 2 => regALM
  | 3 => regSEC
  | 4 => regCMW
  | 5 => regCTL
  | 6 => regBCN0 ++ regBCN1
  | 7 => regLDG
  | 8 => regHST
  | 9 => regFAB0 ++ regFAB1 ++ regFAB2 ++ regFAB3
  | 10 => regWLD
  | 11 => regLIO0 ++ regLIO1
  | 12 => regLTN
  | 13 => regPWR
  | 14 => regKPR0 ++ regKPR1
  | 15 => regBKP0 ++ regBKP1
  | n => if 0x18 ≤ n && n < 0x20 then regHIF0 ++ regHIF1 else []

/-- The register word at a BAR0 offset. -/
def findReg (off : Nat) : Option RegDef :=
  (regsOf off).find? fun r => decide (r.off ≤ off) && (off - r.off) % r.stride == 0 && decide ((off - r.off) / r.stride < r.count)

end Sys2Proof.Machine
end

