-- ==== Sys2Proof/Machine/Factory.lean ====
section
/-! DEFINITION. The factory value of every register word: the Factory columns of the register tables, and the values
that a rule gives per element (R77 to R79, R83, R378, R395, R436, R437, R485, R488, R569, R579, R647, R705, R826). -/

namespace Sys2Proof.Machine

/-- One family of R77: scan class, STALE_N, HYST in 0.1 %, ON_BASE and OFF_BASE in ms, ON_MAX in 100 ms, CHATTER, outer
and inner priority. -/
structure Family where
  scan : Nat
  stale : Nat
  hyst : Nat
  onBase : Nat
  offBase : Nat
  onMax : Nat
  chatter : Nat
  outer : Nat
  inner : Nat
  deriving DecidableEq, Repr

/-- R77: the sixteen families. Priorities: 0 CRITICAL, 1 HIGH, 2 MEDIUM, 3 LOW, 4 JOURNAL. -/
def families : List Family := [
  ⟨9, 3, 10, 2000, 2000, 600, 6, 1, 2⟩,
  ⟨8, 3, 5, 1000, 1000, 300, 6, 0, 1⟩,
  ⟨7, 3, 10, 2000, 2000, 200, 6, 1, 2⟩,
  ⟨6, 3, 10, 1000, 2000, 100, 6, 0, 1⟩,
  ⟨7, 3, 10, 3000, 3000, 300, 6, 1, 2⟩,
  ⟨6, 3, 5, 2000, 2000, 200, 4, 0, 1⟩,
  ⟨10, 3, 20, 10000, 10000, 1200, 4, 1, 2⟩,
  ⟨7, 3, 20, 5000, 5000, 600, 6, 2, 3⟩,
  ⟨4, 5, 5, 100, 1000, 20, 10, 0, 1⟩,
  ⟨4, 5, 5, 500, 1000, 50, 10, 1, 2⟩,
  ⟨5, 4, 10, 1000, 1000, 100, 10, 1, 2⟩,
  ⟨8, 3, 20, 5000, 10000, 600, 4, 1, 2⟩,
  ⟨7, 3, 5, 1000, 5000, 50, 2, 0, 1⟩,
  ⟨6, 3, 10, 2000, 2000, 200, 6, 2, 3⟩,
  ⟨11, 3, 20, 30000, 30000, 3000, 4, 2, 3⟩,
  ⟨6, 3, 0, 500, 500, 100, 10, 4, 4⟩]

def familyOf (n : Nat) : Family := families.getD (n / 4) ⟨0, 0, 0, 0, 0, 0, 0, 0, 0⟩

/-- R78, R79: PROF_PRIO of factory profile `n`. -/
def profilePrio (n : Nat) : Nat :=
  let f := familyOf n
  let v := n % 4
  let w (hh h l ll roc dev disc : Nat) : Nat :=
    hh + h * 2 ^ 3 + l * 2 ^ 6 + ll * 2 ^ 9 + roc * 2 ^ 12 + dev * 2 ^ 15 + disc * 2 ^ 18
  if n / 4 == 15 then w 4 4 4 4 4 4 (if v == 3 then 4 else v)
  else match v with
    | 0 => w f.outer f.inner 4 4 f.inner f.inner 4
    | 1 => w 4 4 f.inner f.outer f.inner f.inner 4
    | 2 => w f.outer f.inner f.inner f.outer f.inner f.inner 4
    | _ => w 4 4 4 4 4 4 4

/-- R77, R83: word `k` of PNT_PROFILE[n]; a user profile starts as a copy of profile n − 64. -/
def profileWord (n k : Nat) : Nat :=
  let m := n % 64
  let f := familyOf m
  match k with
  | 0 => f.scan + f.stale * 2 ^ 4 + f.hyst * 2 ^ 8 + f.chatter * 2 ^ 16 + (4 * f.hyst) * 2 ^ 24
  | 1 => f.onBase + f.offBase * 2 ^ 16
  | 2 => f.onMax
  | _ => profilePrio m

/-- R569: the blocks that the factory policy makes secure, and those it fixes. -/
def factorySecure : List Nat :=
  [0, 2, 4, 5, 8, 9, 13, 18, 19, 20, 22, 24, 25, 27, 28, 30, 31, 32, 33, 34, 36, 37, 39, 40, 41, 42, 43, 44, 45, 46, 47]
def factoryFixed : List Nat := [0, 5, 43, 45]

/-- The number with the listed bits set. -/
def bitSet (l : List Nat) : Nat := l.foldl (fun a b => a ||| 2 ^ b) 0

/-- R826: nominal rail voltages V0 to V39 in mV, and the ratings of I0 to I11 in mA. -/
def railMv : List Nat := [750, 750, 750, 750, 850, 850, 1200, 1200, 1100, 1100, 1100, 1100, 400, 400, 400, 400, 1800,
  1800, 1800, 1800, 900, 900, 900, 900, 3300, 3300, 3300, 3300, 900, 12000, 12000, 12000, 800, 3300, 1800, 5000, 3300,
  5000, 24000, 3000]
def railMa : List Nat := [150000, 150000, 150000, 150000, 60000, 100000, 25000, 65000, 8000, 2000, 2500, 12000]

/-- R705: the factory limits of sensor `n` as binary32; zero where the table says not used. -/
def sensLimits (n : Nat) : Nat × Nat :=
  let i (a b : Int) : Nat × Nat := (fofInt f32 a, fofInt f32 b)
  if n < 8 then i (-45) 100
  else if n < 12 then i (-45) 95
  else if n < 16 then i (-45) 80
  else if n < 20 then i (-45) 110
  else if n == 20 then i (-45) 100
  else if n == 21 then i (-45) 85
  else if n == 22 then i (-45) 70
  else if n == 23 then i (-40) 85
  else if n < 64 then
    let v := railMv.getD (n - 24) 0
    (fofRat f32 ((v * 95 : Nat) : Int) 100, fofRat f32 ((v * 105 : Nat) : Int) 100)
  else if n < 76 then i 0 (railMa.getD (n - 64) 0)
  else if n == 84 then i (-40) 60
  else (0, 0)

/-- R395: LEVEL and BUDGET (100 ns units) of class `c`. -/
def classFac (c : Nat) : Nat :=
  [0, 1, 1, 1, 2, 2, 2, 3].getD c 0 + [0xFFFFF, 10000, 200, 1000, 10000, 100000, 0xFFFFF, 0xFFFFF].getD c 0 * 2 ^ 12

/-- The factory value that a rule gives for one element, where it is not a constant of the table. -/
def facSpecial (off : Nat) : Option Nat :=
  if 0x11000 ≤ off && off < 0x11800 then some (profileWord ((off - 0x11000) / 16) (off % 16 / 4))
  else if 0x71000 ≤ off && off < 0x72000 then
    let n := (off - 0x71000) / 4
    some (10 + 50 * 2 ^ 16 + (if flushCodes.contains n then 2 ^ 30 else 0) + 2 ^ 31)
  else if 0x90100 ≤ off && off < 0x90120 then some (classFac ((off - 0x90100) / 4))
  else if 0x91000 ≤ off && off < 0x93000 && off % 64 == 0 then some (2 + (if (off - 0x91000) / 64 % 2 == 0 then 1 else 0))
  else if 0x93000 ≤ off && off < 0x93900 && off % 16 == 8 then
    let n := (off - 0x93000) / 16
    some (if n < 128 then n / 8 else 15)
  else if off == 0xA0008 then some (bitSet factorySecure % 2 ^ 32)
  else if off == 0xA000C then some (bitSet factorySecure >>> 32)
  else if off == 0xA0010 then some (bitSet factoryFixed % 2 ^ 32)
  else if off == 0xA0014 then some (bitSet factoryFixed >>> 32)
  else if 0xC0040 ≤ off && off < 0xC0058 then some ([3, 1, 4, 0, 2, 0].getD ((off - 0xC0040) / 4) 0)
  else if 0xE1000 ≤ off && off < 0xE1550 && off % 16 == 4 then some (sensLimits ((off - 0xE1000) / 16)).1
  else if 0xE1000 ≤ off && off < 0xE1550 && off % 16 == 8 then some (sensLimits ((off - 0xE1000) / 16)).2
  else if 0x190000 ≤ off && off < 0x1D1000 && off % 0x1000 == 4 then some (if off == 0x190004 then 4 else 0)
  else if 0x190000 ≤ off && off < 0x1D1000 && off % 0x1000 == 0x1C then some (if off < 0x192000 then 512 else 16)
  else none

/-- The word that a table's factory values make. -/
def facFields (fs : List FieldDef) : Nat := fs.foldl (fun a f => a ||| (f.fac % 2 ^ f.w) <<< f.lo) 0

/-- The factory value of the register word at a BAR0 offset; a reserved offset reads zero (R786). -/
def facWord (off : Nat) : Word :=
  BitVec.ofNat 32 (match facSpecial off with
    | some v => v
    | none => match findReg off with
      | some r => facFields r.fields
      | none => 0)

end Sys2Proof.Machine
end

