-- ==== Sys2Proof/Machine/Layout.lean ====
section
/-! DEFINITION. The record layouts of the manual: for each field its lowest bit, counted from byte 0 of the record, and
its width. The prefix names the record, the rest is the manual's field name; the rule stands above each group. -/

namespace Sys2Proof.Machine

/-! R33: Pt. -/
def Pt.CTRL : Fld := ⟨0, 32⟩
def Pt.CTRL_N : Fld := ⟨32, 32⟩
def Pt.PRI_SECTOR : Fld := ⟨64, 16⟩
def Pt.SEC_SECTOR1 : Fld := ⟨80, 16⟩
def Pt.SEC_SECTOR2 : Fld := ⟨96, 16⟩
def Pt.SEC_SECTOR3 : Fld := ⟨112, 16⟩
def Pt.COND_MASK : Fld := ⟨128, 16⟩
def Pt.LDG_BINSET : Fld := ⟨144, 16⟩
def Pt.COND_BASE : Fld := ⟨160, 26⟩
def Pt.EU_LO : Fld := ⟨192, 32⟩
def Pt.EU_HI : Fld := ⟨224, 32⟩
def Pt.PEER_NODE : Fld := ⟨384, 24⟩
def Pt.PEER_EN : Fld := ⟨408, 1⟩
def Pt.SHADOW : Fld := ⟨409, 1⟩
def Pt.VOTE_IDX : Fld := ⟨416, 23⟩
def Pt.VOTE_EN : Fld := ⟨439, 1⟩
def Pt.CFG_GEN : Fld := ⟨448, 32⟩
def Pt.CFG_CRC : Fld := ⟨480, 32⟩

/-! R38: Pt. -/
def Pt.VALUE : Fld := ⟨512, 32⟩
def Pt.VALUE_N : Fld := ⟨544, 32⟩
def Pt.QUALITY : Fld := ⟨576, 8⟩
def Pt.STALE_AGE : Fld := ⟨584, 8⟩
def Pt.ACTIVE : Fld := ⟨608, 16⟩
def Pt.UNACK : Fld := ⟨624, 16⟩
def Pt.T_RX : Fld := ⟨640, 64⟩
def Pt.T_SRC : Fld := ⟨704, 64⟩
def Pt.PREV_VALUE : Fld := ⟨768, 32⟩
def Pt.AUX : Fld := ⟨800, 32⟩
def Pt.FORCE_VALUE : Fld := ⟨832, 32⟩
def Pt.FORCE_VALUE_N : Fld := ⟨864, 32⟩
def Pt.LAST_SEQ : Fld := ⟨896, 64⟩
def Pt.UPD_COUNT : Fld := ⟨960, 32⟩
def Pt.SRC_NODE : Fld := ⟨992, 24⟩

/-! R89: Cond. -/
def Cond.CCTRL : Fld := ⟨0, 32⟩
def Cond.CCTRL_N : Fld := ⟨32, 32⟩
def Cond.LIMIT : Fld := ⟨64, 32⟩
def Cond.LIMIT_N : Fld := ⟨96, 32⟩
def Cond.HYST : Fld := ⟨128, 32⟩
def Cond.HYST_N : Fld := ⟨160, 32⟩
def Cond.ON_DELAY : Fld := ⟨192, 22⟩
def Cond.ON_DELAY_N : Fld := ⟨224, 32⟩
def Cond.OFF_DELAY : Fld := ⟨256, 22⟩
def Cond.OFF_DELAY_N : Fld := ⟨288, 32⟩
def Cond.CSTATE : Fld := ⟨320, 32⟩
def Cond.CSTATE_N : Fld := ⟨352, 32⟩
def Cond.REF_IDX : Fld := ⟨384, 23⟩
def Cond.TIMER_ID : Fld := ⟨416, 21⟩
def Cond.RUN : Fld := ⟨437, 1⟩
def Cond.COARSE : Fld := ⟨438, 1⟩
def Cond.TKIND : Fld := ⟨439, 1⟩
def Cond.T_CHANGE : Fld := ⟨448, 64⟩

/-! R92: Ext. -/
def Ext.BKT0toBKT3 : Fld := ⟨0, 32⟩
def Ext.BKT4toBKT7 : Fld := ⟨32, 32⟩
def Ext.BKT_IDX : Fld := ⟨80, 4⟩
def Ext.K_ON : Fld := ⟨84, 5⟩
def Ext.K_HYST : Fld := ⟨89, 4⟩
def Ext.QUIET_MIN : Fld := ⟨96, 11⟩
def Ext.SHELVE_S : Fld := ⟨108, 20⟩

/-! R145: Link. -/
def Link.CAUSE_REF : Fld := ⟨0, 21⟩
def Link.SUPP_CNT : Fld := ⟨21, 8⟩
def Link.HELD : Fld := ⟨29, 1⟩

/-! R148: Sect. -/
def Sect.FO_EN : Fld := ⟨0, 1⟩
def Sect.EVT_EN : Fld := ⟨1, 1⟩
def Sect.TOP_PRIO : Fld := ⟨32, 3⟩
def Sect.UNACK_PRIO : Fld := ⟨35, 3⟩
def Sect.ANY_UNACK : Fld := ⟨38, 1⟩
def Sect.ANY_RTNUN : Fld := ⟨39, 1⟩
def Sect.ANY_SHELVED : Fld := ⟨40, 1⟩
def Sect.ANY_SUPPR : Fld := ⟨41, 1⟩
def Sect.ANY_OOS : Fld := ⟨42, 1⟩
def Sect.ANY_UNCONF : Fld := ⟨43, 1⟩
def Sect.ANY_HELD : Fld := ⟨44, 1⟩
def Sect.WHOLLY_NORMAL : Fld := ⟨45, 1⟩
def Sect.FO_LATCHED : Fld := ⟨46, 1⟩
def Sect.FO_ARMED : Fld := ⟨47, 1⟩
def Sect.FLOOD : Fld := ⟨48, 1⟩
def Sect.CNT_ACT03 : Fld := ⟨64, 128⟩
def Sect.CNT_UNACK03 : Fld := ⟨192, 128⟩
def Sect.CNT_RTNUN : Fld := ⟨320, 32⟩
def Sect.CNT_SHELVED : Fld := ⟨352, 32⟩
def Sect.CNT_SUPPR : Fld := ⟨384, 32⟩
def Sect.CNT_OOS : Fld := ⟨416, 32⟩
def Sect.CNT_UNCONF : Fld := ⟨448, 32⟩
def Sect.CNT_HELD : Fld := ⟨480, 32⟩
def Sect.FO_TAG : Fld := ⟨512, 64⟩
def Sect.FO_SLOT : Fld := ⟨576, 4⟩
def Sect.FO_SRC : Fld := ⟨580, 1⟩
def Sect.FO_PRIO : Fld := ⟨581, 3⟩
def Sect.FO_COND : Fld := ⟨608, 26⟩
def Sect.FO_SEQ : Fld := ⟨640, 64⟩
def Sect.FO_TIME : Fld := ⟨704, 64⟩
def Sect.WATCH_MASK : Fld := ⟨768, 256⟩

/-! R158: Cause. -/
def Cause.CAUSE : Fld := ⟨0, 26⟩
def Cause.MIRROR : Fld := ⟨26, 1⟩
def Cause.VALID : Fld := ⟨27, 1⟩
def Cause.CSTATE : Fld := ⟨28, 2⟩
def Cause.EXPERT : Fld := ⟨30, 1⟩
def Cause.SETTLE_MS : Fld := ⟨32, 16⟩
def Cause.RELEASE_MS : Fld := ⟨48, 16⟩
def Cause.EDGE_BASE : Fld := ⟨64, 25⟩
def Cause.EDGE_COUNT : Fld := ⟨96, 25⟩
def Cause.TIMER_ID : Fld := ⟨128, 21⟩
def Cause.COARSE : Fld := ⟨149, 1⟩
def Cause.T_STATE : Fld := ⟨192, 64⟩

/-! R167: Mir. -/
def Mir.TAG : Fld := ⟨0, 64⟩
def Mir.SLOT : Fld := ⟨64, 4⟩
def Mir.PRIO : Fld := ⟨68, 3⟩
def Mir.STATE : Fld := ⟨71, 4⟩
def Mir.ACTIVE : Fld := ⟨75, 1⟩
def Mir.VALID : Fld := ⟨76, 1⟩
def Mir.LOST : Fld := ⟨77, 1⟩
def Mir.HELD : Fld := ⟨78, 1⟩
def Mir.SECTOR : Fld := ⟨96, 16⟩
def Mir.CAUSE_REF : Fld := ⟨128, 21⟩
def Mir.T_RX : Fld := ⟨192, 64⟩

/-! R188: Chan. -/
def Chan.EN : Fld := ⟨0, 1⟩
def Chan.EXPERT : Fld := ⟨1, 1⟩
def Chan.PROFILE : Fld := ⟨2, 3⟩
def Chan.FMT : Fld := ⟨5, 2⟩
def Chan.ORDER_EN : Fld := ⟨7, 1⟩
def Chan.ENV_EN : Fld := ⟨8, 1⟩
def Chan.SRC_LOCAL : Fld := ⟨9, 1⟩
def Chan.AI_CH : Fld := ⟨10, 5⟩
def Chan.SPEED_REF : Fld := ⟨16, 12⟩
def Chan.RATE_CHZ : Fld := ⟨32, 32⟩
def Chan.LOG2N : Fld := ⟨64, 4⟩
def Chan.WINDOW : Fld := ⟨68, 2⟩
def Chan.OVERLAP : Fld := ⟨70, 2⟩
def Chan.SPR_LOG2 : Fld := ⟨72, 4⟩
def Chan.NBANDS : Fld := ⟨76, 7⟩
def Chan.BAND_RMS : Fld := ⟨83, 1⟩
def Chan.SCALE : Fld := ⟨96, 32⟩
def Chan.ENV_LO : Fld := ⟨128, 32⟩
def Chan.ENV_HI : Fld := ⟨160, 32⟩
def Chan.RING_BASE : Fld := ⟨192, 17⟩
def Chan.RING_GRAN : Fld := ⟨224, 17⟩
def Chan.SRC_NODE : Fld := ⟨256, 24⟩
def Chan.SRC_CHK : Fld := ⟨280, 1⟩
def Chan.DESC_CRC : Fld := ⟨288, 32⟩
def Chan.T_NEXT : Fld := ⟨320, 64⟩
def Chan.SEQ_NEXT : Fld := ⟨384, 32⟩
def Chan.CHQUAL : Fld := ⟨416, 8⟩
def Chan.OVERSPEED : Fld := ⟨424, 1⟩
def Chan.STOPPED : Fld := ⟨425, 1⟩
def Chan.FRAMES : Fld := ⟨448, 32⟩
def Chan.GAPS : Fld := ⟨480, 32⟩

/-! R191: Blk. -/
def Blk.CHANNEL : Fld := ⟨16, 16⟩
def Blk.FMT : Fld := ⟨14, 2⟩
def Blk.DISCONT : Fld := ⟨13, 1⟩
def Blk.NSAMP : Fld := ⟨0, 13⟩
def Blk.BLOCK_SEQ : Fld := ⟨32, 32⟩
def Blk.T_FIRST : Fld := ⟨64, 64⟩
def Blk.RATE_CHZ : Fld := ⟨128, 32⟩
def Blk.SRC_QUAL : Fld := ⟨160, 8⟩

/-! R197: Spd. -/
def Spd.SRC : Fld := ⟨0, 2⟩
def Spd.DIO_CH : Fld := ⟨2, 6⟩
def Spd.PPR : Fld := ⟨8, 11⟩
def Spd.SPEED_IDX : Fld := ⟨32, 23⟩
def Spd.MIN_RPM : Fld := ⟨64, 32⟩
def Spd.MAX_RPM : Fld := ⟨96, 32⟩

/-! R205: Band. -/
def Band.LO : Fld := ⟨0, 32⟩
def Band.HI : Fld := ⟨32, 32⟩
def Band.ENV : Fld := ⟨64, 1⟩

/-! R207: Bnd. -/
def Bnd.CHANNEL : Fld := ⟨0, 16⟩
def Bnd.FEATURE : Fld := ⟨16, 7⟩
def Bnd.DEV : Fld := ⟨23, 1⟩
def Bnd.VALID : Fld := ⟨24, 1⟩
def Bnd.POINT : Fld := ⟨32, 23⟩
def Bnd.BSET : Fld := ⟨64, 19⟩

/-! R211: Base. -/
def Base.EXPERT : Fld := ⟨0, 1⟩
def Base.DEV_KIND : Fld := ⟨1, 2⟩
def Base.LEARN_HOLD : Fld := ⟨3, 1⟩
def Base.SPD_IDX : Fld := ⟨32, 23⟩
def Base.LOAD_IDX : Fld := ⟨64, 23⟩
def Base.READY_N : Fld := ⟨224, 16⟩
def Base.LEARN_N : Fld := ⟨256, 24⟩
def Base.FLOOR : Fld := ⟨288, 32⟩

/-! R217: Cap. -/
def Cap.VALID : Fld := ⟨0, 1⟩
def Cap.RETRIG : Fld := ⟨1, 1⟩
def Cap.TRIG_KIND : Fld := ⟨2, 2⟩
def Cap.NCH : Fld := ⟨8, 7⟩
def Cap.TRIG : Fld := ⟨32, 26⟩
def Cap.PRE_MS : Fld := ⟨64, 16⟩
def Cap.POST_MS : Fld := ⟨96, 32⟩
def Cap.VOLUME : Fld := ⟨128, 10⟩
def Cap.CAP_COUNT : Fld := ⟨160, 32⟩
def Cap.T_TRIG : Fld := ⟨192, 64⟩

/-! R227: Loop. -/
def Loop.LCTRL : Fld := ⟨0, 32⟩
def Loop.LCTRL_N : Fld := ⟨32, 32⟩
def Loop.PERIOD : Fld := ⟨64, 20⟩
def Loop.PHASE : Fld := ⟨84, 8⟩
def Loop.PV_IDX : Fld := ⟨96, 23⟩
def Loop.SP_IDX : Fld := ⟨128, 23⟩
def Loop.OUT_IDX : Fld := ⟨160, 23⟩
def Loop.TRK_IDX : Fld := ⟨192, 23⟩
def Loop.POS_IDX : Fld := ⟨224, 23⟩
def Loop.CAS_OUTER : Fld := ⟨256, 12⟩
def Loop.IN_LO : Fld := ⟨288, 32⟩
def Loop.IN_HI : Fld := ⟨320, 32⟩
def Loop.OUT_EU_LO : Fld := ⟨352, 32⟩
def Loop.OUT_EU_HI : Fld := ⟨384, 32⟩
def Loop.OUT_LO : Fld := ⟨416, 16⟩
def Loop.OUT_HI : Fld := ⟨432, 16⟩
def Loop.DU_MAX : Fld := ⟨448, 16⟩
def Loop.SAFE_RATE : Fld := ⟨464, 16⟩
def Loop.SAFE_OUT : Fld := ⟨480, 16⟩
def Loop.DIR_BAND : Fld := ⟨496, 16⟩
def Loop.POS_LO : Fld := ⟨512, 32⟩
def Loop.POS_HI : Fld := ⟨544, 32⟩
def Loop.KP : Fld := ⟨576, 32⟩
def Loop.TI : Fld := ⟨608, 32⟩
def Loop.TD : Fld := ⟨640, 32⟩
def Loop.TF : Fld := ⟨672, 32⟩
def Loop.CFG_GEN : Fld := ⟨1792, 32⟩
def Loop.CFG_CRC : Fld := ⟨1824, 32⟩

/-! R229: Lsec. -/

/-! R230: Loop. -/
def Loop.MODE : Fld := ⟨2048, 3⟩
def Loop.MODE_N : Fld := ⟨2080, 32⟩
def Loop.SP : Fld := ⟨2112, 32⟩
def Loop.SP_N : Fld := ⟨2144, 32⟩
def Loop.MAN_OUT : Fld := ⟨2176, 16⟩
def Loop.MAN_OUT_N : Fld := ⟨2208, 32⟩
def Loop.U_LAST : Fld := ⟨2240, 16⟩
def Loop.C_LAST : Fld := ⟨2256, 16⟩
def Loop.X_LAST : Fld := ⟨2272, 16⟩
def Loop.DIR : Fld := ⟨2288, 1⟩
def Loop.CAS_OPEN : Fld := ⟨2289, 1⟩
def Loop.TRANSFER : Fld := ⟨2290, 1⟩
def Loop.SAT : Fld := ⟨2291, 1⟩
def Loop.LIMITED : Fld := ⟨2292, 1⟩
def Loop.SP_HELD : Fld := ⟨2293, 1⟩
def Loop.COMP_HELD : Fld := ⟨2294, 1⟩
def Loop.PHASE_SHIFT : Fld := ⟨2296, 8⟩
def Loop.T_COMMIT : Fld := ⟨2304, 64⟩
def Loop.EVALS : Fld := ⟨2368, 32⟩
def Loop.POS_LAST : Fld := ⟨2400, 16⟩

/-! R271: Sup. -/
def Sup.SUP_EN : Fld := ⟨0, 1⟩
def Sup.SUP_EXPERT : Fld := ⟨1, 1⟩
def Sup.ACTION : Fld := ⟨2, 2⟩
def Sup.AUTO_RECLOSE : Fld := ⟨4, 1⟩
def Sup.MODEL_VALID : Fld := ⟨5, 1⟩
def Sup.RLIM_HOLD : Fld := ⟨6, 1⟩
def Sup.STALE_P : Fld := ⟨8, 8⟩
def Sup.MODEL_T : Fld := ⟨16, 16⟩
def Sup.SCTRL_N : Fld := ⟨32, 32⟩
def Sup.K : Fld := ⟨64, 32⟩
def Sup.TAU : Fld := ⟨96, 32⟩
def Sup.THETA : Fld := ⟨128, 32⟩
def Sup.FRZ_BAND : Fld := ⟨160, 16⟩
def Sup.FRZ_N : Fld := ⟨176, 8⟩
def Sup.IMP_M : Fld := ⟨184, 8⟩
def Sup.RLIM : Fld := ⟨192, 16⟩
def Sup.BIAS_T : Fld := ⟨224, 32⟩
def Sup.SUP_CRC : Fld := ⟨480, 32⟩

/-! R272: Sup. -/
def Sup.Z : Fld := ⟨3456, 32⟩
def Sup.BIAS : Fld := ⟨3488, 32⟩
def Sup.YHAT : Fld := ⟨3520, 32⟩
def Sup.RESID : Fld := ⟨3552, 32⟩
def Sup.E2 : Fld := ⟨3584, 32⟩
def Sup.RLIM_NOW : Fld := ⟨3616, 16⟩
def Sup.D : Fld := ⟨3632, 8⟩
def Sup.A : Fld := ⟨3648, 32⟩
def Sup.FRZ_CNT : Fld := ⟨3680, 8⟩
def Sup.IMP_CNT : Fld := ⟨3688, 8⟩
def Sup.GOOD_CNT : Fld := ⟨3696, 5⟩
def Sup.PRESENT : Fld := ⟨3712, 4⟩
def Sup.LATCH : Fld := ⟨3716, 4⟩
def Sup.ON_MODEL : Fld := ⟨3720, 1⟩
def Sup.RECLOSE_ARMED : Fld := ⟨3721, 1⟩
def Sup.PRE_MODE : Fld := ⟨3722, 3⟩
def Sup.TUNING : Fld := ⟨3725, 1⟩
def Sup.PV_REF : Fld := ⟨3744, 32⟩
def Sup.Z_REF : Fld := ⟨3776, 32⟩
def Sup.BETA : Fld := ⟨3808, 32⟩
def Sup.T_FAULT : Fld := ⟨3840, 64⟩
def Sup.T_MODEL_END : Fld := ⟨3904, 64⟩
def Sup.TUNE_CNT : Fld := ⟨3968, 17⟩
def Sup.TUNE_STAT : Fld := ⟨3985, 3⟩
def Sup.TUNE_LFSR : Fld := ⟨4000, 15⟩
def Sup.TUNE_PHASE : Fld := ⟨4032, 32⟩

/-! R296: Tune. -/
def Tune.PV : Fld := ⟨0, 32⟩
def Tune.SP_E : Fld := ⟨32, 32⟩
def Tune.U : Fld := ⟨64, 16⟩
def Tune.SIG : Fld := ⟨80, 16⟩
def Tune.X0 : Fld := ⟨96, 16⟩
def Tune.NOT_GOOD : Fld := ⟨112, 1⟩
def Tune.LIMITED : Fld := ⟨113, 1⟩
def Tune.SAT : Fld := ⟨114, 1⟩
def Tune.ON_MODEL : Fld := ⟨115, 1⟩
def Tune.FAULT : Fld := ⟨116, 1⟩
def Tune.PHASE_SHIFT : Fld := ⟨120, 8⟩

/-! R332: Bin. -/
def Bin.VALID : Fld := ⟨0, 1⟩
def Bin.REL : Fld := ⟨1, 1⟩
def Bin.TIER_MASK : Fld := ⟨2, 3⟩

/-! R339: Slot. -/
def Slot.SSEQ_FRONT : Fld := ⟨0, 32⟩
def Slot.TYPE : Fld := ⟨32, 8⟩
def Slot.LEN64 : Fld := ⟨40, 14⟩
def Slot.LSHIP : Fld := ⟨62, 1⟩
def Slot.REPLAY : Fld := ⟨63, 1⟩

/-! R340: Hist. -/
def Hist.INDEX : Fld := ⟨64, 23⟩
def Hist.TIER : Fld := ⟨96, 2⟩
def Hist.KIND : Fld := ⟨98, 3⟩
def Hist.ORDER : Fld := ⟨101, 1⟩
def Hist.QUAL_OR : Fld := ⟨104, 8⟩
def Hist.BINSET : Fld := ⟨112, 16⟩
def Hist.T_START : Fld := ⟨128, 64⟩
def Hist.N : Fld := ⟨192, 32⟩
def Hist.N_BAD : Fld := ⟨224, 32⟩
def Hist.TOTAL : Fld := ⟨256, 32⟩
def Hist.MIN : Fld := ⟨800, 32⟩
def Hist.MAX : Fld := ⟨832, 32⟩
def Hist.T_MIN_OFS : Fld := ⟨864, 32⟩
def Hist.T_MAX_OFS : Fld := ⟨896, 32⟩

/-! R341: ChgRec. -/
def ChgRec.INDEX : Fld := ⟨64, 23⟩
def ChgRec.SLOT : Fld := ⟨87, 4⟩
def ChgRec.PRIO : Fld := ⟨91, 3⟩
def ChgRec.HELD : Fld := ⟨94, 1⟩
def ChgRec.FLEET : Fld := ⟨95, 1⟩
def ChgRec.COND : Fld := ⟨96, 26⟩
def ChgRec.ORDER : Fld := ⟨122, 1⟩
def ChgRec.NOSTART : Fld := ⟨123, 1⟩
def ChgRec.OLD_STATE : Fld := ⟨128, 4⟩
def ChgRec.NEW_STATE : Fld := ⟨132, 4⟩
def ChgRec.BASE : Fld := ⟨136, 2⟩
def ChgRec.ACTIVE : Fld := ⟨138, 1⟩
def ChgRec.QUAL : Fld := ⟨144, 8⟩
def ChgRec.SEQ : Fld := ⟨192, 64⟩
def ChgRec.T_CHANGE : Fld := ⟨256, 64⟩
def ChgRec.DUR : Fld := ⟨320, 64⟩

/-! R365: Seg. -/

/-! R400: Upd. -/

/-! R429: TSync. -/
def TSync.ORIGIN : Fld := ⟨0, 64⟩
def TSync.CORR : Fld := ⟨64, 64⟩
def TSync.ROOT : Fld := ⟨136, 24⟩
def TSync.STEPS : Fld := ⟨128, 8⟩
def TSync.SYNC_SEQ : Fld := ⟨176, 16⟩
def TSync.LEAP61 : Fld := ⟨160, 1⟩
def TSync.LEAP59 : Fld := ⟨161, 1⟩
def TSync.UTC_VALID : Fld := ⟨162, 1⟩
def TSync.ROOT_SRC : Fld := ⟨163, 2⟩
def TSync.UTC_OFS : Fld := ⟨192, 16⟩

/-! R444: Route. -/
def Route.PREFIX : Fld := ⟨0, 24⟩
def Route.PLEN : Fld := ⟨24, 5⟩
def Route.KIND : Fld := ⟨29, 2⟩
def Route.VALID : Fld := ⟨31, 1⟩
def Route.PORT : Fld := ⟨32, 7⟩
def Route.ALT : Fld := ⟨40, 7⟩
def Route.ALT_EN : Fld := ⟨47, 1⟩
def Route.RING : Fld := ⟨48, 4⟩
def Route.DIR : Fld := ⟨52, 1⟩

/-! R493: Ring. -/
def Ring.TYPE : Fld := ⟨0, 3⟩
def Ring.VALID : Fld := ⟨3, 1⟩
def Ring.PIN : Fld := ⟨4, 1⟩
def Ring.QUENCHED : Fld := ⟨5, 1⟩
def Ring.FAULT : Fld := ⟨6, 1⟩
def Ring.WORLD : Fld := ⟨7, 1⟩
def Ring.FUNC : Fld := ⟨8, 7⟩
def Ring.LOG2N : Fld := ⟨16, 5⟩
def Ring.WEIGHT : Fld := ⟨24, 8⟩
def Ring.CPL_RING : Fld := ⟨32, 16⟩
def Ring.VECTOR : Fld := ⟨48, 11⟩
def Ring.VEC_EN : Fld := ⟨59, 1⟩
def Ring.BASE : Fld := ⟨64, 64⟩
def Ring.PROD : Fld := ⟨128, 32⟩
def Ring.CONS : Fld := ⟨160, 32⟩
def Ring.COAL_N : Fld := ⟨192, 16⟩
def Ring.COAL_US : Fld := ⟨208, 16⟩
def Ring.INFLIGHT : Fld := ⟨224, 9⟩
def Ring.ARMED : Fld := ⟨240, 1⟩
def Ring.BACKLOG_MAX : Fld := ⟨256, 21⟩
def Ring.LOST : Fld := ⟨288, 32⟩
def Ring.DEST_NODE : Fld := ⟨320, 24⟩
def Ring.DCLASS : Fld := ⟨344, 3⟩
def Ring.SRC : Fld := ⟨348, 2⟩
def Ring.DEST_RING : Fld := ⟨352, 16⟩
def Ring.CAP_DEF : Fld := ⟨368, 10⟩

/-! R501: Cpl. -/
def Cpl.RING : Fld := ⟨0, 16⟩
def Cpl.TAG : Fld := ⟨16, 16⟩
def Cpl.STATUS : Fld := ⟨32, 8⟩
def Cpl.DETAIL : Fld := ⟨48, 16⟩
def Cpl.CMD_HEAD : Fld := ⟨224, 16⟩
def Cpl.PHASE : Fld := ⟨255, 1⟩

/-! R509: Chg. -/
def Chg.TAG : Fld := ⟨0, 64⟩
def Chg.SEQ : Fld := ⟨64, 64⟩
def Chg.T_CHANGE : Fld := ⟨128, 64⟩
def Chg.COND : Fld := ⟨192, 26⟩
def Chg.SLOT : Fld := ⟨218, 4⟩
def Chg.HELD : Fld := ⟨222, 1⟩
def Chg.FLEET : Fld := ⟨223, 1⟩
def Chg.OLD_STATE : Fld := ⟨224, 4⟩
def Chg.NEW_STATE : Fld := ⟨228, 4⟩
def Chg.BASE : Fld := ⟨232, 2⟩
def Chg.ACTIVE : Fld := ⟨234, 1⟩
def Chg.PRIO : Fld := ⟨235, 3⟩
def Chg.QUAL : Fld := ⟨238, 8⟩
def Chg.MIRROR : Fld := ⟨246, 1⟩
def Chg.ETYPE : Fld := ⟨248, 4⟩
def Chg.PHASE : Fld := ⟨255, 1⟩

/-! R521: DOut. -/
def DOut.USED : Fld := ⟨128, 21⟩
def DOut.DROPPED : Fld := ⟨160, 32⟩
def DOut.ITEMS : Fld := ⟨192, 16⟩
def DOut.PHASE : Fld := ⟨255, 1⟩

/-! R547: PCfg. -/
def PCfg.TAG : Fld := ⟨0, 64⟩
def PCfg.CTRL : Fld := ⟨64, 32⟩
def PCfg.CTRL_N : Fld := ⟨96, 32⟩
def PCfg.PRI_SECTOR : Fld := ⟨128, 16⟩
def PCfg.SEC_SECTOR1 : Fld := ⟨144, 16⟩
def PCfg.SEC_SECTOR2 : Fld := ⟨160, 16⟩
def PCfg.SEC_SECTOR3 : Fld := ⟨176, 16⟩
def PCfg.PEER_NODE : Fld := ⟨384, 24⟩
def PCfg.PEER_EN : Fld := ⟨408, 1⟩
def PCfg.LDG_BINSET : Fld := ⟨416, 16⟩
def PCfg.ROC_DIR : Fld := ⟨432, 2⟩
def PCfg.COND_MASK : Fld := ⟨448, 16⟩
def PCfg.LATCH_MASK : Fld := ⟨464, 16⟩
def PCfg.REF_IDX : Fld := ⟨480, 23⟩

/-! R580: Pol. -/
def Pol.PMAGIC : Fld := ⟨0, 32⟩
def Pol.VERSION : Fld := ⟨32, 16⟩
def Pol.NODE : Fld := ⟨64, 24⟩
def Pol.S_CLASSED : Fld := ⟨96, 1⟩
def Pol.LK_SECURE : Fld := ⟨97, 1⟩

/-! R712: KLog. -/
def KLog.RECNO : Fld := ⟨0, 32⟩
def KLog.CODE : Fld := ⟨32, 10⟩
def KLog.PINNED : Fld := ⟨42, 1⟩
def KLog.START : Fld := ⟨48, 16⟩
def KLog.T : Fld := ⟨64, 64⟩
def KLog.CRC : Fld := ⟨448, 32⟩
def KLog.VMARK : Fld := ⟨480, 32⟩

/-! R715: Img. -/
def Img.IMAGIC : Fld := ⟨0, 32⟩
def Img.TYPE : Fld := ⟨32, 8⟩
def Img.VERSION : Fld := ⟨64, 32⟩
def Img.SVN : Fld := ⟨96, 7⟩
def Img.BODY_LEN : Fld := ⟨128, 32⟩
def Img.ENTRY : Fld := ⟨160, 32⟩
def Img.NODE : Fld := ⟨192, 24⟩

/-! R723: Cred. -/
def Cred.CMAGIC : Fld := ⟨0, 32⟩
def Cred.KIND : Fld := ⟨32, 1⟩
def Cred.WORLD : Fld := ⟨33, 1⟩
def Cred.NODE : Fld := ⟨64, 24⟩
def Cred.NOT_AFTER : Fld := ⟨128, 64⟩

/-! R763: CImg. -/
def CImg.IMAGIC : Fld := ⟨0, 32⟩
def CImg.FORMAT : Fld := ⟨32, 16⟩
def CImg.GEN : Fld := ⟨64, 32⟩
def CImg.NSECT : Fld := ⟨96, 6⟩
def CImg.T_COMMIT : Fld := ⟨128, 64⟩
def CImg.NODE : Fld := ⟨192, 24⟩
def CImg.HCRC : Fld := ⟨32736, 32⟩

/-! R765: CRec. -/
def CRec.CSEQ_FRONT : Fld := ⟨0, 32⟩
def CRec.KIND : Fld := ⟨32, 2⟩
def CRec.SLOT : Fld := ⟨36, 1⟩
def CRec.ISSUER : Fld := ⟨40, 2⟩
def CRec.GEN : Fld := ⟨64, 32⟩
def CRec.IMAGE_CRC : Fld := ⟨96, 32⟩
def CRec.T_REC : Fld := ⟨128, 64⟩
def CRec.CRC : Fld := ⟨416, 32⟩
def CRec.CSEQ_BACK : Fld := ⟨448, 32⟩
def CRec.VMARK : Fld := ⟨480, 32⟩

/-! R773: Ckpt. -/
def Ckpt.BSEQ_FRONT : Fld := ⟨0, 32⟩
def Ckpt.GEN : Fld := ⟨32, 32⟩
def Ckpt.FIRST : Fld := ⟨64, 23⟩
def Ckpt.NCOND : Fld := ⟨96, 18⟩
def Ckpt.T_CKPT : Fld := ⟨128, 64⟩
def Ckpt.LAST_SEQ : Fld := ⟨192, 64⟩
def Ckpt.CRC : Fld := ⟨416, 32⟩
def Ckpt.BSEQ_BACK : Fld := ⟨448, 32⟩
def Ckpt.VMARK : Fld := ⟨480, 32⟩

/-! R392: Hdr. -/
def Hdr.DEST_NODE : Fld := ⟨0, 24⟩
def Hdr.SRC_NODE : Fld := ⟨24, 24⟩
def Hdr.CLASS : Fld := ⟨53, 3⟩
def Hdr.TWIN : Fld := ⟨52, 1⟩
def Hdr.LATE : Fld := ⟨51, 1⟩
def Hdr.BCAST : Fld := ⟨50, 1⟩
def Hdr.DUAL : Fld := ⟨49, 1⟩
def Hdr.CCW : Fld := ⟨48, 1⟩
def Hdr.PTYPE : Fld := ⟨56, 8⟩
def Hdr.SEQ : Fld := ⟨64, 32⟩
def Hdr.BUDGET : Fld := ⟨108, 20⟩
def Hdr.BUDGET_FRAC : Fld := ⟨104, 4⟩
def Hdr.HOPS : Fld := ⟨96, 8⟩
def Hdr.LEN : Fld := ⟨146, 14⟩
def Hdr.HCRC : Fld := ⟨176, 16⟩


end Sys2Proof.Machine
end

