-- ==== Sys2Proof/Machine/RegNames.lean ====
section
/-! DEFINITION. The fields of the register tables (R82, R83, R139, R140, R179, R180, R181, R221, R267, R268, R298, R324, R325, R376, R377, R378, R380, R381, R382, R433, R434, R435, R436, R437, R438, R439, R440, R480, R481, R482, R483, R533, R534, R535, R592, R593, R635, R636, R637, R638, R663, R664, R665, R694, R695, R729, R730, R731, R759, R760, R783), by the manual's names: offset in the
BAR0 window (block base of R785 plus the register's offset), lowest bit, width. An element of an array takes its index. -/

namespace Sys2Proof.Machine

def Reg.SYS_READY.READY : RFld := ⟨0x0, 0, 17⟩
def Reg.SYS_RESTORE.SOURCE : RFld := ⟨0x4, 0, 2⟩
def Reg.SYS_RESTORE.SLOT : RFld := ⟨0x4, 2, 1⟩
def Reg.SYS_RESTORE.RETAIN_DISAGREE : RFld := ⟨0x4, 3, 1⟩
def Reg.SYS_RESTORE.COMMIT_LOST : RFld := ⟨0x4, 4, 1⟩
def Reg.SYS_RESTORE.SECT_RETRY : RFld := ⟨0x4, 5, 1⟩
def Reg.SYS_RESTORE.RT_UNUSABLE : RFld := ⟨0x4, 6, 1⟩
def Reg.SYS_RESTORE.FACTORY_PENDING : RFld := ⟨0x4, 7, 1⟩
def Reg.SYS_RESTORE_GEN.GEN : RFld := ⟨0x8, 0, 32⟩
def Reg.SYS_CFG.AUTO_S : RFld := ⟨0xC, 0, 12⟩
def Reg.SYS_CFG.CKPT_S : RFld := ⟨0xC, 16, 8⟩
def Reg.SYS_COMMIT_STAT.BUSY : RFld := ⟨0x10, 0, 1⟩
def Reg.SYS_COMMIT_STAT.DIRTY_HOST : RFld := ⟨0x10, 1, 1⟩
def Reg.SYS_COMMIT_STAT.DIRTY_MOD : RFld := ⟨0x10, 2, 1⟩
def Reg.SYS_COMMIT_STAT.TARGET : RFld := ⟨0x10, 3, 1⟩
def Reg.SYS_COMMIT_GEN.GEN : RFld := ⟨0x14, 0, 32⟩
def Reg.SYS_UNCONF_PTS.COUNT : RFld := ⟨0x18, 0, 23⟩
def Reg.SYS_COMMIT_CNT.COUNT : RFld := ⟨0x20, 0, 32⟩
def Reg.SYS_CKPT_CNT.COUNT : RFld := ⟨0x24, 0, 32⟩
def Reg.SYS_SECT_ERR_CNT.COUNT : RFld := ⟨0x28, 0, 32⟩
def Reg.SYS_RANGE_REJECT_CNT.COUNT : RFld := ⟨0x2C, 0, 32⟩
def Reg.SYS_SEQ_MARK_LO.MARK : RFld := ⟨0x30, 0, 32⟩
def Reg.SYS_SEQ_MARK_HI.MARK : RFld := ⟨0x34, 0, 32⟩
def Reg.SYS_PORT_READY.UP (n : Nat) : RFld := ⟨0x40 + 4 * n, 0, 32⟩
def Reg.PNT_RETAIN_VALID.RETAIN_H : RFld := ⟨0x10000, 0, 16⟩
def Reg.PNT_UNCONF_DROP_CNT.COUNT : RFld := ⟨0x10010, 0, 32⟩
def Reg.PNT_DISC_MASK_CNT.COUNT : RFld := ⟨0x10014, 0, 32⟩
def Reg.PNT_NONFINITE_CNT.COUNT : RFld := ⟨0x10018, 0, 32⟩
def Reg.PNT_CNT_RESET_CNT.COUNT : RFld := ⟨0x1001C, 0, 32⟩
def Reg.PNT_VOTE_OUTLIER_CNT.COUNT : RFld := ⟨0x10020, 0, 32⟩
def Reg.PNT_VOTE_DEGRADED_CNT.COUNT : RFld := ⟨0x10024, 0, 32⟩
def Reg.PNT_READBACK_CNT.COUNT : RFld := ⟨0x10028, 0, 32⟩
def Reg.PNT_SRC_ORDER_CNT.COUNT : RFld := ⟨0x1002C, 0, 32⟩
def Reg.PNT_TWIN_CNT.COUNT : RFld := ⟨0x10030, 0, 32⟩
def Reg.PNT_CFG_CRC_CNT.COUNT : RFld := ⟨0x10034, 0, 32⟩
def Reg.PNT_TILE_BUSY_CNT.COUNT : RFld := ⟨0x10038, 0, 32⟩
def Reg.PNT_DERIVED_DROP_CNT.COUNT : RFld := ⟨0x1003C, 0, 32⟩
def Reg.PNT_PROFILE.SCAN_CLASS (n : Nat) : RFld := ⟨0x11000 + 16 * n, 0, 4⟩
def Reg.PNT_PROFILE.STALE_N (n : Nat) : RFld := ⟨0x11000 + 16 * n, 4, 4⟩
def Reg.PNT_PROFILE.HYST (n : Nat) : RFld := ⟨0x11000 + 16 * n, 8, 8⟩
def Reg.PNT_PROFILE.CHATTER (n : Nat) : RFld := ⟨0x11000 + 16 * n, 16, 8⟩
def Reg.PNT_PROFILE.HYST_MAX (n : Nat) : RFld := ⟨0x11000 + 16 * n, 24, 8⟩
def Reg.PNT_PROFILE.ON_BASE (n : Nat) : RFld := ⟨0x11004 + 16 * n, 0, 16⟩
def Reg.PNT_PROFILE.OFF_BASE (n : Nat) : RFld := ⟨0x11004 + 16 * n, 16, 16⟩
def Reg.PNT_PROFILE.ON_MAX (n : Nat) : RFld := ⟨0x11008 + 16 * n, 0, 16⟩
def Reg.PNT_PROFILE.PRIO_HH (n : Nat) : RFld := ⟨0x1100C + 16 * n, 0, 3⟩
def Reg.PNT_PROFILE.PRIO_H (n : Nat) : RFld := ⟨0x1100C + 16 * n, 3, 3⟩
def Reg.PNT_PROFILE.PRIO_L (n : Nat) : RFld := ⟨0x1100C + 16 * n, 6, 3⟩
def Reg.PNT_PROFILE.PRIO_LL (n : Nat) : RFld := ⟨0x1100C + 16 * n, 9, 3⟩
def Reg.PNT_PROFILE.PRIO_ROC (n : Nat) : RFld := ⟨0x1100C + 16 * n, 12, 3⟩
def Reg.PNT_PROFILE.PRIO_DEV (n : Nat) : RFld := ⟨0x1100C + 16 * n, 15, 3⟩
def Reg.PNT_PROFILE.PRIO_DISC (n : Nat) : RFld := ⟨0x1100C + 16 * n, 18, 3⟩
def Reg.ALM_CTRL.ADAPT_FREEZE : RFld := ⟨0x20000, 0, 1⟩
def Reg.ALM_CTRL.SHELVE_CRIT_EN : RFld := ⟨0x20000, 1, 1⟩
def Reg.ALM_SHELVE_MAX.SHELVE_MAX_S : RFld := ⟨0x20004, 0, 17⟩
def Reg.ALM_SPILL_EXIT.EXIT_LEVEL : RFld := ⟨0x20008, 0, 21⟩
def Reg.ALM_TIMER_USED.FINE_USED : RFld := ⟨0x20010, 0, 21⟩
def Reg.ALM_COARSE_USED.COARSE_USED : RFld := ⟨0x20014, 0, 32⟩
def Reg.ALM_TIMER_PEAK.PEAK : RFld := ⟨0x20018, 0, 21⟩
def Reg.ALM_SPILL_STAT.SPILL_ACTIVE : RFld := ⟨0x2001C, 0, 1⟩
def Reg.ALM_SPILL_STAT.SPILL_SEEN : RFld := ⟨0x2001C, 1, 1⟩
def Reg.ALM_SPILL_CNT.COUNT : RFld := ⟨0x20020, 0, 32⟩
def Reg.ALM_FLEETING_CNT.COUNT : RFld := ⟨0x20024, 0, 32⟩
def Reg.ALM_DELAY_CANCEL_CNT.COUNT : RFld := ⟨0x20028, 0, 32⟩
def Reg.ALM_TWIN_CNT.COUNT : RFld := ⟨0x2002C, 0, 32⟩
def Reg.ALM_RANGE_REJECT_CNT.COUNT : RFld := ⟨0x20030, 0, 32⟩
def Reg.ALM_ADAPT_UP_CNT.COUNT : RFld := ⟨0x20034, 0, 32⟩
def Reg.ALM_ADAPT_DOWN_CNT.COUNT : RFld := ⟨0x20038, 0, 32⟩
def Reg.ALM_UNCONF_NOW.COUNT : RFld := ⟨0x2003C, 0, 26⟩
def Reg.ALM_QHOLD_NOW.COUNT : RFld := ⟨0x20040, 0, 26⟩
def Reg.ALM_SEQ_LO.SEQ_LO : RFld := ⟨0x20048, 0, 32⟩
def Reg.ALM_SEQ_HI.SEQ_HI : RFld := ⟨0x2004C, 0, 32⟩
def Reg.ALM_COND_FREE.FREE (n : Nat) : RFld := ⟨0x20100 + 4 * n, 0, 21⟩
def Reg.SEC_CTRL.SUPP_EN : RFld := ⟨0x30000, 0, 1⟩
def Reg.SEC_CTRL.FLOOD_EN : RFld := ⟨0x30000, 1, 1⟩
def Reg.SEC_MIRROR_TMO.TMO_MS : RFld := ⟨0x30004, 0, 14⟩
def Reg.SEC_MIRROR_HOLD.HOLD_S : RFld := ⟨0x30008, 0, 12⟩
def Reg.SEC_EDGE_USED.USED : RFld := ⟨0x30010, 0, 25⟩
def Reg.SEC_EDGE_LARGEST.RUN : RFld := ⟨0x30014, 0, 25⟩
def Reg.SEC_CAUSE_USED.USED : RFld := ⟨0x30018, 0, 21⟩
def Reg.SEC_SUPPR_NOW.COUNT : RFld := ⟨0x3001C, 0, 26⟩
def Reg.SEC_HELD_NOW.COUNT : RFld := ⟨0x30020, 0, 26⟩
def Reg.SEC_COMPACT_STAT.COMPACTING : RFld := ⟨0x30024, 0, 1⟩
def Reg.SEC_AUDIT_CNT.COUNT : RFld := ⟨0x30028, 0, 32⟩
def Reg.SEC_EARLY_EFFECT_CNT.COUNT : RFld := ⟨0x3002C, 0, 32⟩
def Reg.SEC_FLOOD_CNT.COUNT : RFld := ⟨0x30030, 0, 32⟩
def Reg.SEC_MIRROR_LOST_CNT.COUNT : RFld := ⟨0x30034, 0, 32⟩
def Reg.SEC_BACKPRESS_CNT.COUNT : RFld := ⟨0x30038, 0, 32⟩
def Reg.SEC_RANGE_REJECT_CNT.COUNT : RFld := ⟨0x3003C, 0, 32⟩
def Reg.SEC_FLOOD_STAT.FLOOD (n : Nat) : RFld := ⟨0x30100 + 4 * n, 0, 32⟩
def Reg.SEC_WATCH.FLOOD_N (n : Nat) : RFld := ⟨0x31000 + 16 * n, 0, 10⟩
def Reg.SEC_WATCH.FLOOD_EXIT (n : Nat) : RFld := ⟨0x31000 + 16 * n, 10, 10⟩
def Reg.SEC_WATCH.FLOOD_EN (n : Nat) : RFld := ⟨0x31000 + 16 * n, 20, 1⟩
def Reg.SEC_WATCH.FLOOD_W (n : Nat) : RFld := ⟨0x31004 + 16 * n, 0, 12⟩
def Reg.SEC_WATCH.WSTAT (n : Nat) : RFld := ⟨0x31008 + 16 * n, 0, 10⟩
def Reg.SEC_WATCH.FLOOD (n : Nat) : RFld := ⟨0x31008 + 16 * n, 10, 1⟩
def Reg.SEC_WATCH.PASSED (n : Nat) : RFld := ⟨0x3100C + 16 * n, 0, 8⟩
def Reg.SEC_WATCH.HELD_MED (n : Nat) : RFld := ⟨0x3100C + 16 * n, 8, 8⟩
def Reg.SEC_WATCH.HELD_LOW (n : Nat) : RFld := ⟨0x3100C + 16 * n, 16, 8⟩
def Reg.SEC_WATCH.RELEASED (n : Nat) : RFld := ⟨0x3100C + 16 * n, 24, 8⟩
def Reg.CMW_CTRL.LEARN_FREEZE : RFld := ⟨0x40000, 0, 1⟩
def Reg.CMW_CTRL.CAPTURE_EN : RFld := ⟨0x40000, 1, 1⟩
def Reg.CMW_CTRL.CKPT_MIN : RFld := ⟨0x40000, 8, 8⟩
def Reg.CMW_INGEST_CFG.RATE_KS : RFld := ⟨0x40004, 0, 32⟩
def Reg.CMW_FFT_CFG.LOAD_MPT : RFld := ⟨0x40008, 0, 32⟩
def Reg.CMW_RING_FREE.FREE : RFld := ⟨0x4000C, 0, 17⟩
def Reg.CMW_RING_LARGEST.RUN : RFld := ⟨0x40010, 0, 17⟩
def Reg.CMW_CAP_RUNNING.COUNT : RFld := ⟨0x40014, 0, 9⟩
def Reg.CMW_BLOCK_DROP_CNT.COUNT : RFld := ⟨0x40020, 0, 32⟩
def Reg.CMW_DUP_CNT.COUNT : RFld := ⟨0x40024, 0, 32⟩
def Reg.CMW_GAP_CNT.COUNT : RFld := ⟨0x40028, 0, 32⟩
def Reg.CMW_RESYNC_CNT.COUNT : RFld := ⟨0x4002C, 0, 32⟩
def Reg.CMW_OVERSPEED_CNT.COUNT : RFld := ⟨0x40030, 0, 32⟩
def Reg.CMW_CAP_SKIP_CNT.COUNT : RFld := ⟨0x40034, 0, 32⟩
def Reg.CMW_CAP_OVERRUN_CNT.COUNT : RFld := ⟨0x40038, 0, 32⟩
def Reg.CMW_RETRIG_IGN_CNT.COUNT : RFld := ⟨0x4003C, 0, 32⟩
def Reg.CTL_HOLD_ALL.HOLD_ALL : RFld := ⟨0x50000, 0, 1⟩
def Reg.CTL_LOOPS_EN.COUNT : RFld := ⟨0x50004, 0, 13⟩
def Reg.CTL_PROC_GATED.GATED : RFld := ⟨0x50008, 0, 16⟩
def Reg.CTL_TWIN_CNT.COUNT : RFld := ⟨0x50010, 0, 32⟩
def Reg.CTL_CFG_CRC_CNT.COUNT : RFld := ⟨0x50014, 0, 32⟩
def Reg.CTL_SAT_CNT.COUNT : RFld := ⟨0x50018, 0, 32⟩
def Reg.CTL_PHASE_SHIFT_CNT.COUNT : RFld := ⟨0x5001C, 0, 32⟩
def Reg.CTL_DEPART_SHIFT_CNT.COUNT : RFld := ⟨0x50020, 0, 32⟩
def Reg.CTL_TIME_STEP_CNT.COUNT : RFld := ⟨0x50024, 0, 32⟩
def Reg.CTL_PHASE_SHIFT_MAX.MAX : RFld := ⟨0x50028, 0, 8⟩
def Reg.CTL_SUP_CTRL.ACT_EN : RFld := ⟨0x50030, 0, 1⟩
def Reg.CTL_SUP_CTRL.RLIM_FREEZE : RFld := ⟨0x50030, 1, 1⟩
def Reg.CTL_SUP_STALE_CNT.COUNT : RFld := ⟨0x50034, 0, 32⟩
def Reg.CTL_SUP_FROZEN_CNT.COUNT : RFld := ⟨0x50038, 0, 32⟩
def Reg.CTL_SUP_IMPL_CNT.COUNT : RFld := ⟨0x5003C, 0, 32⟩
def Reg.CTL_SUP_DISP_CNT.COUNT : RFld := ⟨0x50040, 0, 32⟩
def Reg.CTL_SUP_RECLOSE_CNT.COUNT : RFld := ⟨0x50044, 0, 32⟩
def Reg.CTL_MODEL_EXPIRE_CNT.COUNT : RFld := ⟨0x50048, 0, 32⟩
def Reg.CTL_SUP_FAULT_NOW.COUNT : RFld := ⟨0x5004C, 0, 13⟩
def Reg.CTL_TUNE_RUNNING.COUNT : RFld := ⟨0x50050, 0, 13⟩
def Reg.CTL_TUNE_ABORT_CNT.COUNT : RFld := ⟨0x50054, 0, 32⟩
def Reg.CTL_PROC_LOAD.LOOPS (n : Nat) : RFld := ⟨0x50100 + 4 * n, 0, 9⟩
def Reg.BCN_CTRL.EN : RFld := ⟨0x60000, 0, 1⟩
def Reg.BCN_CTRL.ACC_DIO : RFld := ⟨0x60000, 1, 6⟩
def Reg.BCN_CTRL.ACC_DIO_EN : RFld := ⟨0x60000, 7, 1⟩
def Reg.BCN_CTRL.OVF_RELAYS : RFld := ⟨0x60000, 8, 8⟩
def Reg.BCN_ZONE.ZONE_MIN : RFld := ⟨0x60004, 0, 16⟩
def Reg.BCN_SEQ_STAT.RUN : RFld := ⟨0x60008, 0, 9⟩
def Reg.BCN_SEQ_STAT.PEND : RFld := ⟨0x60008, 16, 11⟩
def Reg.BCN_STATION_LOST_LO.LOST : RFld := ⟨0x60010, 0, 32⟩
def Reg.BCN_STATION_LOST_HI.LOST : RFld := ⟨0x60014, 0, 32⟩
def Reg.BCN_CALL_CNT.COUNT : RFld := ⟨0x60020, 0, 32⟩
def Reg.BCN_JOIN_CNT.COUNT : RFld := ⟨0x60024, 0, 32⟩
def Reg.BCN_PREEMPT_CNT.COUNT : RFld := ⟨0x60028, 0, 32⟩
def Reg.BCN_OVF_CNT.COUNT : RFld := ⟨0x6002C, 0, 32⟩
def Reg.BCN_ATTEND_EXP_CNT.COUNT : RFld := ⟨0x60030, 0, 32⟩
def Reg.BCN_DM_ALARM_CNT.COUNT : RFld := ⟨0x60034, 0, 32⟩
def Reg.BCN_NO_TARGET_CNT.COUNT : RFld := ⟨0x60038, 0, 32⟩
def Reg.BCN_STATION_LOST_CNT.COUNT : RFld := ⟨0x6003C, 0, 32⟩
def Reg.BCN_RANGE_REJECT_CNT.COUNT : RFld := ⟨0x60040, 0, 32⟩
def Reg.BCN_RELAY.PATTERN (n : Nat) : RFld := ⟨0x60080 + 4 * n, 0, 1⟩
def Reg.BCN_RELAY.ACTIVE (n : Nat) : RFld := ⟨0x60080 + 4 * n, 8, 1⟩
def Reg.BCN_ENG.CABIN (n : Nat) : RFld := ⟨0x60100 + 4 * n, 0, 6⟩
def Reg.BCN_ENG.VALID (n : Nat) : RFld := ⟨0x60100 + 4 * n, 6, 1⟩
def Reg.BCN_ENG.GROUPS (n : Nat) : RFld := ⟨0x60100 + 4 * n, 8, 8⟩
def Reg.BCN_DUTY.DUTY (n : Nat) : RFld := ⟨0x60200 + 4 * n, 0, 5⟩
def Reg.BCN_DUTY.DUTY_EN (n : Nat) : RFld := ⟨0x60200 + 4 * n, 5, 1⟩
def Reg.BCN_DUTY.BACKUP (n : Nat) : RFld := ⟨0x60200 + 4 * n, 8, 5⟩
def Reg.BCN_DUTY.BACKUP_EN (n : Nat) : RFld := ⟨0x60200 + 4 * n, 13, 1⟩
def Reg.BCN_STATION.NODE (n : Nat) : RFld := ⟨0x60800 + 8 * n, 0, 24⟩
def Reg.BCN_STATION.TYPE (n : Nat) : RFld := ⟨0x60800 + 8 * n, 24, 2⟩
def Reg.BCN_STATION.VALID (n : Nat) : RFld := ⟨0x60800 + 8 * n, 26, 1⟩
def Reg.BCN_STATION.DM_UNIT (n : Nat) : RFld := ⟨0x60804 + 8 * n, 0, 3⟩
def Reg.BCN_DM.PERIOD_S (n : Nat) : RFld := ⟨0x60A00 + 16 * n, 0, 12⟩
def Reg.BCN_DM.PREWARN_S (n : Nat) : RFld := ⟨0x60A00 + 16 * n, 12, 10⟩
def Reg.BCN_DM.TEMPLATE (n : Nat) : RFld := ⟨0x60A00 + 16 * n, 22, 5⟩
def Reg.BCN_DM.RESET_ON_ACCEPT (n : Nat) : RFld := ⟨0x60A00 + 16 * n, 27, 1⟩
def Reg.BCN_DM.PW_RELAYS (n : Nat) : RFld := ⟨0x60A04 + 16 * n, 0, 8⟩
def Reg.BCN_DM.RESET_DIO (n : Nat) : RFld := ⟨0x60A04 + 16 * n, 8, 6⟩
def Reg.BCN_DM.RESET_DIO_EN (n : Nat) : RFld := ⟨0x60A04 + 16 * n, 14, 1⟩
def Reg.BCN_DM.STATE (n : Nat) : RFld := ⟨0x60A08 + 16 * n, 0, 2⟩
def Reg.BCN_DM.REMAIN_S (n : Nat) : RFld := ⟨0x60A0C + 16 * n, 0, 12⟩
def Reg.BCN_RULE.T_CRIT (n : Nat) : RFld := ⟨0x61000 + 8 * n, 0, 5⟩
def Reg.BCN_RULE.EN_CRIT (n : Nat) : RFld := ⟨0x61000 + 8 * n, 5, 1⟩
def Reg.BCN_RULE.T_HIGH (n : Nat) : RFld := ⟨0x61000 + 8 * n, 8, 5⟩
def Reg.BCN_RULE.EN_HIGH (n : Nat) : RFld := ⟨0x61000 + 8 * n, 13, 1⟩
def Reg.BCN_RULE.T_MED (n : Nat) : RFld := ⟨0x61000 + 8 * n, 16, 5⟩
def Reg.BCN_RULE.EN_MED (n : Nat) : RFld := ⟨0x61000 + 8 * n, 21, 1⟩
def Reg.BCN_RULE.T_LOW (n : Nat) : RFld := ⟨0x61000 + 8 * n, 24, 5⟩
def Reg.BCN_RULE.EN_LOW (n : Nat) : RFld := ⟨0x61000 + 8 * n, 29, 1⟩
def Reg.BCN_RULE.T_DIG (n : Nat) : RFld := ⟨0x61004 + 8 * n, 0, 5⟩
def Reg.BCN_RULE.EN_DIG (n : Nat) : RFld := ⟨0x61004 + 8 * n, 5, 1⟩
def Reg.BCN_RULE.MIRROR (n : Nat) : RFld := ⟨0x61004 + 8 * n, 6, 1⟩
def Reg.BCN_RULE.UMS (n : Nat) : RFld := ⟨0x61004 + 8 * n, 7, 1⟩
def Reg.BCN_RULE.UMS_ONLY (n : Nat) : RFld := ⟨0x61004 + 8 * n, 8, 1⟩
def Reg.BCN_TEMPLATE.RANK (n : Nat) : RFld := ⟨0x62000 + 128 * n, 0, 3⟩
def Reg.BCN_TEMPLATE.NSTAGE (n : Nat) : RFld := ⟨0x62000 + 128 * n, 3, 2⟩
def Reg.BCN_TEMPLATE.PWRON (n : Nat) : RFld := ⟨0x62000 + 128 * n, 5, 1⟩
def Reg.BCN_TEMPLATE.ATTEND_S (n : Nat) : RFld := ⟨0x62000 + 128 * n, 16, 12⟩
def Reg.BCN_TEMPLATE.DURATION_S0 (n : Nat) : RFld := ⟨0x62010 + 128 * n, 0, 12⟩
def Reg.BCN_TEMPLATE.DUTY0 (n : Nat) : RFld := ⟨0x62010 + 128 * n, 12, 1⟩
def Reg.BCN_TEMPLATE.BACKUP0 (n : Nat) : RFld := ⟨0x62010 + 128 * n, 13, 1⟩
def Reg.BCN_TEMPLATE.GROUPS0 (n : Nat) : RFld := ⟨0x62010 + 128 * n, 16, 8⟩
def Reg.BCN_TEMPLATE.RELAYS0 (n : Nat) : RFld := ⟨0x62010 + 128 * n, 24, 8⟩
def Reg.BCN_TEMPLATE.FB_RELAYS0 (n : Nat) : RFld := ⟨0x62014 + 128 * n, 0, 8⟩
def Reg.BCN_TEMPLATE.PUB_LO0 (n : Nat) : RFld := ⟨0x62018 + 128 * n, 0, 32⟩
def Reg.BCN_TEMPLATE.PUB_HI0 (n : Nat) : RFld := ⟨0x6201C + 128 * n, 0, 32⟩
def Reg.BCN_TEMPLATE.DURATION_S1 (n : Nat) : RFld := ⟨0x62020 + 128 * n, 0, 12⟩
def Reg.BCN_TEMPLATE.DUTY1 (n : Nat) : RFld := ⟨0x62020 + 128 * n, 12, 1⟩
def Reg.BCN_TEMPLATE.BACKUP1 (n : Nat) : RFld := ⟨0x62020 + 128 * n, 13, 1⟩
def Reg.BCN_TEMPLATE.GROUPS1 (n : Nat) : RFld := ⟨0x62020 + 128 * n, 16, 8⟩
def Reg.BCN_TEMPLATE.RELAYS1 (n : Nat) : RFld := ⟨0x62020 + 128 * n, 24, 8⟩
def Reg.BCN_TEMPLATE.FB_RELAYS1 (n : Nat) : RFld := ⟨0x62024 + 128 * n, 0, 8⟩
def Reg.BCN_TEMPLATE.PUB_LO1 (n : Nat) : RFld := ⟨0x62028 + 128 * n, 0, 32⟩
def Reg.BCN_TEMPLATE.PUB_HI1 (n : Nat) : RFld := ⟨0x6202C + 128 * n, 0, 32⟩
def Reg.BCN_TEMPLATE.DURATION_S2 (n : Nat) : RFld := ⟨0x62030 + 128 * n, 0, 12⟩
def Reg.BCN_TEMPLATE.DUTY2 (n : Nat) : RFld := ⟨0x62030 + 128 * n, 12, 1⟩
def Reg.BCN_TEMPLATE.BACKUP2 (n : Nat) : RFld := ⟨0x62030 + 128 * n, 13, 1⟩
def Reg.BCN_TEMPLATE.GROUPS2 (n : Nat) : RFld := ⟨0x62030 + 128 * n, 16, 8⟩
def Reg.BCN_TEMPLATE.RELAYS2 (n : Nat) : RFld := ⟨0x62030 + 128 * n, 24, 8⟩
def Reg.BCN_TEMPLATE.FB_RELAYS2 (n : Nat) : RFld := ⟨0x62034 + 128 * n, 0, 8⟩
def Reg.BCN_TEMPLATE.PUB_LO2 (n : Nat) : RFld := ⟨0x62038 + 128 * n, 0, 32⟩
def Reg.BCN_TEMPLATE.PUB_HI2 (n : Nat) : RFld := ⟨0x6203C + 128 * n, 0, 32⟩
def Reg.BCN_TEMPLATE.DURATION_S3 (n : Nat) : RFld := ⟨0x62040 + 128 * n, 0, 12⟩
def Reg.BCN_TEMPLATE.DUTY3 (n : Nat) : RFld := ⟨0x62040 + 128 * n, 12, 1⟩
def Reg.BCN_TEMPLATE.BACKUP3 (n : Nat) : RFld := ⟨0x62040 + 128 * n, 13, 1⟩
def Reg.BCN_TEMPLATE.GROUPS3 (n : Nat) : RFld := ⟨0x62040 + 128 * n, 16, 8⟩
def Reg.BCN_TEMPLATE.RELAYS3 (n : Nat) : RFld := ⟨0x62040 + 128 * n, 24, 8⟩
def Reg.BCN_TEMPLATE.FB_RELAYS3 (n : Nat) : RFld := ⟨0x62044 + 128 * n, 0, 8⟩
def Reg.BCN_TEMPLATE.PUB_LO3 (n : Nat) : RFld := ⟨0x62048 + 128 * n, 0, 32⟩
def Reg.BCN_TEMPLATE.PUB_HI3 (n : Nat) : RFld := ⟨0x6204C + 128 * n, 0, 32⟩
def Reg.LDG_CTRL.ROT_EXPERT : RFld := ⟨0x70000, 0, 1⟩
def Reg.LDG_FLUSH_WM.WM_KIB : RFld := ⟨0x70004, 0, 12⟩
def Reg.LDG_FLUSH_AGE.AGE_MS : RFld := ⟨0x70008, 0, 14⟩
def Reg.LDG_CUR.VOLUME : RFld := ⟨0x7000C, 0, 10⟩
def Reg.LDG_CUR.VALID : RFld := ⟨0x7000C, 10, 1⟩
def Reg.LDG_BUF_USED.BYTES : RFld := ⟨0x70010, 0, 23⟩
def Reg.LDG_SPOOL_USED.KIB : RFld := ⟨0x70014, 0, 20⟩
def Reg.LDG_STAT.SPOOLING : RFld := ⟨0x70018, 0, 1⟩
def Reg.LDG_STAT.REPLAYING : RFld := ⟨0x70018, 1, 1⟩
def Reg.LDG_STAT.DROPPING : RFld := ⟨0x70018, 2, 1⟩
def Reg.LDG_STAT.NO_VOLUME : RFld := ⟨0x70018, 3, 1⟩
def Reg.LDG_TRIP_STAT.STATE : RFld := ⟨0x7001C, 0, 3⟩
def Reg.LDG_TRIP_STAT.USED_MIB : RFld := ⟨0x7001C, 8, 9⟩
def Reg.LDG_DROP_HIST_CNT.COUNT : RFld := ⟨0x70020, 0, 32⟩
def Reg.LDG_DROP_CHG_CNT.COUNT : RFld := ⟨0x70024, 0, 32⟩
def Reg.LDG_DROP_EVT_CNT.COUNT : RFld := ⟨0x70028, 0, 32⟩
def Reg.LDG_RATE_SKIP_CNT.COUNT : RFld := ⟨0x7002C, 0, 32⟩
def Reg.LDG_ORDER_CNT.COUNT : RFld := ⟨0x70030, 0, 32⟩
def Reg.LDG_FLUSH_CNT.COUNT : RFld := ⟨0x70034, 0, 32⟩
def Reg.LDG_SLOT_BAD_CNT.COUNT : RFld := ⟨0x70038, 0, 32⟩
def Reg.LDG_RANGE_REJECT_CNT.COUNT : RFld := ⟨0x7003C, 0, 32⟩
def Reg.LDG_ROT.VOLUME (n : Nat) : RFld := ⟨0x70100 + 4 * n, 0, 10⟩
def Reg.LDG_ROT.VALID (n : Nat) : RFld := ⟨0x70100 + 4 * n, 10, 1⟩
def Reg.LDG_CODE.RATE (n : Nat) : RFld := ⟨0x71000 + 4 * n, 0, 16⟩
def Reg.LDG_CODE.BURST (n : Nat) : RFld := ⟨0x71000 + 4 * n, 16, 14⟩
def Reg.LDG_CODE.FLUSH (n : Nat) : RFld := ⟨0x71000 + 4 * n, 30, 1⟩
def Reg.LDG_CODE.REC_EN (n : Nat) : RFld := ⟨0x71000 + 4 * n, 31, 1⟩
def Reg.HST_CTRL.EN : RFld := ⟨0x80000, 0, 1⟩
def Reg.HST_CTRLR_NOW.COUNT : RFld := ⟨0x80004, 0, 8⟩
def Reg.HST_VOL_USED.COUNT : RFld := ⟨0x80008, 0, 11⟩
def Reg.HST_MANAGED_LO.MIB : RFld := ⟨0x8000C, 0, 32⟩
def Reg.HST_MANAGED_HI.MIB : RFld := ⟨0x80010, 0, 1⟩
def Reg.HST_IO_ERR_CNT.COUNT : RFld := ⟨0x80014, 0, 32⟩
def Reg.HST_TIMEOUT_CNT.COUNT : RFld := ⟨0x80018, 0, 32⟩
def Reg.HST_LEG_LOST_CNT.COUNT : RFld := ⟨0x8001C, 0, 32⟩
def Reg.HST_LEG_DISAGREE_CNT.COUNT : RFld := ⟨0x80020, 0, 32⟩
def Reg.HST_SEAL_CNT.COUNT : RFld := ⟨0x80024, 0, 32⟩
def Reg.HST_NS_REJECT_CNT.COUNT : RFld := ⟨0x80028, 0, 32⟩
def Reg.HST_CTRLR.PRESENT (n : Nat) : RFld := ⟨0x80100 + 4 * n, 0, 1⟩
def Reg.HST_CTRLR.PORT (n : Nat) : RFld := ⟨0x80100 + 4 * n, 1, 1⟩
def Reg.HST_CTRLR.VWC (n : Nat) : RFld := ⟨0x80100 + 4 * n, 2, 1⟩
def Reg.HST_CTRLR.FAILED (n : Nat) : RFld := ⟨0x80100 + 4 * n, 3, 1⟩
def Reg.HST_CTRLR.BDF (n : Nat) : RFld := ⟨0x80100 + 4 * n, 16, 16⟩
def Reg.HST_VOL.STATE (n : Nat) : RFld := ⟨0x81000 + 16 * n, 0, 3⟩
def Reg.HST_VOL.MIRROR (n : Nat) : RFld := ⟨0x81000 + 16 * n, 3, 1⟩
def Reg.HST_VOL.LEDGER (n : Nat) : RFld := ⟨0x81000 + 16 * n, 4, 1⟩
def Reg.HST_VOL.CAPTURE (n : Nat) : RFld := ⟨0x81000 + 16 * n, 5, 1⟩
def Reg.HST_VOL.DEGRADED (n : Nat) : RFld := ⟨0x81000 + 16 * n, 6, 1⟩
def Reg.HST_VOL.SYNCING (n : Nat) : RFld := ⟨0x81000 + 16 * n, 7, 1⟩
def Reg.HST_VOL.SEG_COUNT (n : Nat) : RFld := ⟨0x81004 + 16 * n, 0, 32⟩
def Reg.HST_VOL.WRITE_PTR (n : Nat) : RFld := ⟨0x81008 + 16 * n, 0, 32⟩
def Reg.HST_VOL.VOL_GEN (n : Nat) : RFld := ⟨0x8100C + 16 * n, 0, 32⟩
def Reg.FAB_NODE_ID.NODE : RFld := ⟨0x90000, 0, 24⟩
def Reg.FAB_ARB.UNIT64 : RFld := ⟨0x90004, 0, 8⟩
def Reg.FAB_COIN_FREE.COINS : RFld := ⟨0x90008, 0, 22⟩
def Reg.FAB_TIME_CTRL.ROOT : RFld := ⟨0x90010, 0, 1⟩
def Reg.FAB_TIME_CTRL.ROOT_SRC : RFld := ⟨0x90010, 1, 1⟩
def Reg.FAB_TIME_CTRL.PTP_PORT : RFld := ⟨0x90010, 2, 7⟩
def Reg.FAB_TIME_CTRL.SYNC_LOG : RFld := ⟨0x90010, 9, 3⟩
def Reg.FAB_TIME_STEP.STEP_NS : RFld := ⟨0x90014, 0, 32⟩
def Reg.FAB_TIME_STAT.STATE : RFld := ⟨0x90018, 0, 2⟩
def Reg.FAB_TIME_STAT.UP2 : RFld := ⟨0x90018, 2, 1⟩
def Reg.FAB_TIME_STAT.STEPS : RFld := ⟨0x90018, 8, 8⟩
def Reg.FAB_TIME_OFS.OFS_PS : RFld := ⟨0x9001C, 0, 32⟩
def Reg.FAB_TIME_ROOT.ROOT : RFld := ⟨0x90020, 0, 24⟩
def Reg.FAB_TIME_UTC.UTC_OFS : RFld := ⟨0x90024, 0, 16⟩
def Reg.FAB_TIME_UTC.UTC_VALID : RFld := ⟨0x90024, 16, 1⟩
def Reg.FAB_TIME_UTC.LEAP61 : RFld := ⟨0x90024, 17, 1⟩
def Reg.FAB_TIME_UTC.LEAP59 : RFld := ⟨0x90024, 18, 1⟩
def Reg.FAB_HDR_ERR_CNT.COUNT : RFld := ⟨0x90040, 0, 32⟩
def Reg.FAB_FCS_ERR_CNT.COUNT : RFld := ⟨0x90044, 0, 32⟩
def Reg.FAB_STOMP_CNT.COUNT : RFld := ⟨0x90048, 0, 32⟩
def Reg.FAB_HOP_DROP_CNT.COUNT : RFld := ⟨0x9004C, 0, 32⟩
def Reg.FAB_PTYPE_BAD_CNT.COUNT : RFld := ⟨0x90050, 0, 32⟩
def Reg.FAB_TAG_BAD_CNT.COUNT : RFld := ⟨0x90054, 0, 32⟩
def Reg.FAB_ETH_DROP_CNT.COUNT : RFld := ⟨0x90058, 0, 32⟩
def Reg.FAB_STATION_REJ_CNT.COUNT : RFld := ⟨0x9005C, 0, 32⟩
def Reg.FAB_TIME_STEP_CNT.COUNT : RFld := ⟨0x90060, 0, 32⟩
def Reg.FAB_RANGE_REJECT_CNT.COUNT : RFld := ⟨0x90064, 0, 32⟩
def Reg.FAB_CLASS.LEVEL (n : Nat) : RFld := ⟨0x90100 + 4 * n, 0, 2⟩
def Reg.FAB_CLASS.BUDGET (n : Nat) : RFld := ⟨0x90100 + 4 * n, 12, 20⟩
def Reg.FAB_RING_CTRL.DUP_MASK : RFld := ⟨0x90200, 0, 8⟩
def Reg.FAB_RING_CTRL.PAIR_WAIT_US : RFld := ⟨0x90200, 8, 12⟩
def Reg.FAB_OWN_CTRL.STANDBY : RFld := ⟨0x90204, 0, 24⟩
def Reg.FAB_OWN_CTRL.AUTO_BACK : RFld := ⟨0x90204, 24, 1⟩
def Reg.FAB_OWN_TIMING.LOSS_MS : RFld := ⟨0x90208, 0, 7⟩
def Reg.FAB_OWN_TIMING.HB_MS : RFld := ⟨0x90208, 8, 4⟩
def Reg.FAB_OWN_TIMING.RESYNC_GBPS : RFld := ⟨0x90208, 16, 7⟩
def Reg.FAB_OWN_STAT.HOME_STATE : RFld := ⟨0x9020C, 0, 3⟩
def Reg.FAB_EPOCH_CUR.EPOCH : RFld := ⟨0x90210, 0, 32⟩
def Reg.FAB_EPOCH_STAT.SHADOW_TAG : RFld := ⟨0x90214, 0, 32⟩
def Reg.FAB_EPOCH_STAT2.JOINING : RFld := ⟨0x90218, 0, 1⟩
def Reg.FAB_ROUTE_MISS_CNT.COUNT : RFld := ⟨0x90230, 0, 32⟩
def Reg.FAB_ROUTE_DOWN_CNT.COUNT : RFld := ⟨0x90234, 0, 32⟩
def Reg.FAB_LATE_CNT.COUNT : RFld := ⟨0x90238, 0, 32⟩
def Reg.FAB_LATE_DROP_CNT.COUNT : RFld := ⟨0x9023C, 0, 32⟩
def Reg.FAB_DUP_CNT.COUNT : RFld := ⟨0x90240, 0, 32⟩
def Reg.FAB_DUP_OLD_CNT.COUNT : RFld := ⟨0x90244, 0, 32⟩
def Reg.FAB_SEQ_GAP_CNT.COUNT : RFld := ⟨0x90248, 0, 32⟩
def Reg.FAB_COPY_DISAGREE_CNT.COUNT : RFld := ⟨0x9024C, 0, 32⟩
def Reg.FAB_PAIR_TMO_CNT.COUNT : RFld := ⟨0x90250, 0, 32⟩
def Reg.FAB_WRAP_CNT.COUNT : RFld := ⟨0x90254, 0, 32⟩
def Reg.FAB_TAKEOVER_CNT.COUNT : RFld := ⟨0x90258, 0, 32⟩
def Reg.FAB_REPL_REJ_CNT.COUNT : RFld := ⟨0x9025C, 0, 32⟩
def Reg.FAB_ALIAS_DISCARD_CNT.COUNT : RFld := ⟨0x90260, 0, 32⟩
def Reg.FAB_QUENCH_DROP_CNT.COUNT : RFld := ⟨0x90264, 0, 32⟩
def Reg.FAB_QUENCH_OVF_CNT.COUNT : RFld := ⟨0x90268, 0, 32⟩
def Reg.FAB_EPOCH_MISS_CNT.COUNT : RFld := ⟨0x9026C, 0, 32⟩
def Reg.FAB_EPOCH_LATE_CNT.COUNT : RFld := ⟨0x90270, 0, 32⟩
def Reg.FAB_RING.PORT_CW (n : Nat) : RFld := ⟨0x90300 + 8 * n, 0, 7⟩
def Reg.FAB_RING.PORT_CCW (n : Nat) : RFld := ⟨0x90300 + 8 * n, 8, 7⟩
def Reg.FAB_RING.EN (n : Nat) : RFld := ⟨0x90300 + 8 * n, 15, 1⟩
def Reg.FAB_RING.WRAP_CW (n : Nat) : RFld := ⟨0x90300 + 8 * n, 16, 1⟩
def Reg.FAB_RING.WRAP_CCW (n : Nat) : RFld := ⟨0x90300 + 8 * n, 17, 1⟩
def Reg.FAB_SHADOW.HOME (n : Nat) : RFld := ⟨0x90380 + 4 * n, 0, 24⟩
def Reg.FAB_SHADOW.SB_STATE (n : Nat) : RFld := ⟨0x90380 + 4 * n, 24, 3⟩
def Reg.FAB_SHADOW.GAP (n : Nat) : RFld := ⟨0x90380 + 4 * n, 27, 1⟩
def Reg.FAB_SHADOW.VALID (n : Nat) : RFld := ⟨0x90380 + 4 * n, 28, 1⟩
def Reg.FAB_QUENCH_STAT.TARGET (n : Nat) : RFld := ⟨0x90400 + 16 * n, 0, 24⟩
def Reg.FAB_QUENCH_STAT.CLASS_MASK (n : Nat) : RFld := ⟨0x90400 + 16 * n, 24, 8⟩
def Reg.FAB_QUENCH_STAT.ISSUER (n : Nat) : RFld := ⟨0x90404 + 16 * n, 0, 24⟩
def Reg.FAB_QUENCH_STAT.VALID (n : Nat) : RFld := ⟨0x90404 + 16 * n, 31, 1⟩
def Reg.FAB_QUENCH_STAT.QUENCH_ID (n : Nat) : RFld := ⟨0x90408 + 16 * n, 0, 16⟩
def Reg.FAB_QUENCH_STAT.REMAIN_MS (n : Nat) : RFld := ⟨0x9040C + 16 * n, 0, 16⟩
def Reg.FAB_PORT.EN (n : Nat) : RFld := ⟨0x91000 + 64 * n, 0, 1⟩
def Reg.FAB_PORT.WIDTH (n : Nat) : RFld := ⟨0x91000 + 64 * n, 1, 2⟩
def Reg.FAB_PORT.MODE (n : Nat) : RFld := ⟨0x91000 + 64 * n, 3, 1⟩
def Reg.FAB_PORT.ARB_EXPERT (n : Nat) : RFld := ⟨0x91000 + 64 * n, 4, 1⟩
def Reg.FAB_PORT.TIME_UP (n : Nat) : RFld := ⟨0x91000 + 64 * n, 5, 1⟩
def Reg.FAB_PORT.TIME_DOWN (n : Nat) : RFld := ⟨0x91000 + 64 * n, 6, 1⟩
def Reg.FAB_PORT.TIME_UP2 (n : Nat) : RFld := ⟨0x91000 + 64 * n, 7, 1⟩
def Reg.FAB_PORT.ASYM (n : Nat) : RFld := ⟨0x91000 + 64 * n, 16, 16⟩
def Reg.FAB_PORT.STATE (n : Nat) : RFld := ⟨0x91004 + 64 * n, 0, 3⟩
def Reg.FAB_PORT.PEER_SELF (n : Nat) : RFld := ⟨0x91004 + 64 * n, 3, 1⟩
def Reg.FAB_PORT.MISMATCH (n : Nat) : RFld := ⟨0x91004 + 64 * n, 4, 1⟩
def Reg.FAB_PORT.PEER_NODE (n : Nat) : RFld := ⟨0x91004 + 64 * n, 8, 24⟩
def Reg.FAB_PORT.PEER_PORT (n : Nat) : RFld := ⟨0x91008 + 64 * n, 0, 7⟩
def Reg.FAB_PORT.LINK_DELAY (n : Nat) : RFld := ⟨0x9100C + 64 * n, 0, 32⟩
def Reg.FAB_PORT.COINS0 (n : Nat) : RFld := ⟨0x91010 + 64 * n, 0, 16⟩
def Reg.FAB_PORT.COINS1 (n : Nat) : RFld := ⟨0x91010 + 64 * n, 16, 16⟩
def Reg.FAB_PORT.COINS2 (n : Nat) : RFld := ⟨0x91014 + 64 * n, 0, 16⟩
def Reg.FAB_PORT.COINS3 (n : Nat) : RFld := ⟨0x91014 + 64 * n, 16, 16⟩
def Reg.FAB_PORT.COINS4 (n : Nat) : RFld := ⟨0x91018 + 64 * n, 0, 16⟩
def Reg.FAB_PORT.COINS5 (n : Nat) : RFld := ⟨0x91018 + 64 * n, 16, 16⟩
def Reg.FAB_PORT.COINS6 (n : Nat) : RFld := ⟨0x9101C + 64 * n, 0, 16⟩
def Reg.FAB_PORT.COINS7 (n : Nat) : RFld := ⟨0x9101C + 64 * n, 16, 16⟩
def Reg.FAB_PORT.CQ0 (n : Nat) : RFld := ⟨0x91020 + 64 * n, 0, 8⟩
def Reg.FAB_PORT.CQ1 (n : Nat) : RFld := ⟨0x91020 + 64 * n, 8, 8⟩
def Reg.FAB_PORT.CQ2 (n : Nat) : RFld := ⟨0x91020 + 64 * n, 16, 8⟩
def Reg.FAB_PORT.CQ3 (n : Nat) : RFld := ⟨0x91020 + 64 * n, 24, 8⟩
def Reg.FAB_PORT.CQ4 (n : Nat) : RFld := ⟨0x91024 + 64 * n, 0, 8⟩
def Reg.FAB_PORT.CQ5 (n : Nat) : RFld := ⟨0x91024 + 64 * n, 8, 8⟩
def Reg.FAB_PORT.CQ6 (n : Nat) : RFld := ⟨0x91024 + 64 * n, 16, 8⟩
def Reg.FAB_PORT.CQ7 (n : Nat) : RFld := ⟨0x91024 + 64 * n, 24, 8⟩
def Reg.FAB_PORT.GQ0 (n : Nat) : RFld := ⟨0x91028 + 64 * n, 0, 8⟩
def Reg.FAB_PORT.GQ1 (n : Nat) : RFld := ⟨0x91028 + 64 * n, 8, 8⟩
def Reg.FAB_PORT.GQ2 (n : Nat) : RFld := ⟨0x91028 + 64 * n, 16, 8⟩
def Reg.FAB_PORT.GQ3 (n : Nat) : RFld := ⟨0x91028 + 64 * n, 24, 8⟩
def Reg.FAB_PORT.GQ4 (n : Nat) : RFld := ⟨0x9102C + 64 * n, 0, 8⟩
def Reg.FAB_PORT.GQ5 (n : Nat) : RFld := ⟨0x9102C + 64 * n, 8, 8⟩
def Reg.FAB_PORT.GQ6 (n : Nat) : RFld := ⟨0x9102C + 64 * n, 16, 8⟩
def Reg.FAB_PORT.GQ7 (n : Nat) : RFld := ⟨0x9102C + 64 * n, 24, 8⟩
def Reg.FAB_PORT.GQ8 (n : Nat) : RFld := ⟨0x91030 + 64 * n, 0, 8⟩
def Reg.FAB_PORT.GQ9 (n : Nat) : RFld := ⟨0x91030 + 64 * n, 8, 8⟩
def Reg.FAB_PORT.GQ10 (n : Nat) : RFld := ⟨0x91030 + 64 * n, 16, 8⟩
def Reg.FAB_PORT.GQ11 (n : Nat) : RFld := ⟨0x91030 + 64 * n, 24, 8⟩
def Reg.FAB_PORT.GQ12 (n : Nat) : RFld := ⟨0x91034 + 64 * n, 0, 8⟩
def Reg.FAB_PORT.GQ13 (n : Nat) : RFld := ⟨0x91034 + 64 * n, 8, 8⟩
def Reg.FAB_PORT.GQ14 (n : Nat) : RFld := ⟨0x91034 + 64 * n, 16, 8⟩
def Reg.FAB_PORT.GQ15 (n : Nat) : RFld := ⟨0x91034 + 64 * n, 24, 8⟩
def Reg.FAB_PORT.PCNT_CRC (n : Nat) : RFld := ⟨0x91038 + 64 * n, 0, 32⟩
def Reg.FAB_PORT.PCNT_RETRY (n : Nat) : RFld := ⟨0x9103C + 64 * n, 0, 32⟩
def Reg.FAB_SRC.W0 (n : Nat) : RFld := ⟨0x93000 + 16 * n, 0, 8⟩
def Reg.FAB_SRC.W1 (n : Nat) : RFld := ⟨0x93000 + 16 * n, 8, 8⟩
def Reg.FAB_SRC.W2 (n : Nat) : RFld := ⟨0x93000 + 16 * n, 16, 8⟩
def Reg.FAB_SRC.W3 (n : Nat) : RFld := ⟨0x93000 + 16 * n, 24, 8⟩
def Reg.FAB_SRC.W4 (n : Nat) : RFld := ⟨0x93004 + 16 * n, 0, 8⟩
def Reg.FAB_SRC.W5 (n : Nat) : RFld := ⟨0x93004 + 16 * n, 8, 8⟩
def Reg.FAB_SRC.W6 (n : Nat) : RFld := ⟨0x93004 + 16 * n, 16, 8⟩
def Reg.FAB_SRC.W7 (n : Nat) : RFld := ⟨0x93004 + 16 * n, 24, 8⟩
def Reg.FAB_SRC.GROUP (n : Nat) : RFld := ⟨0x93008 + 16 * n, 0, 4⟩
def Reg.FAB_ETH.MAC_LO (n : Nat) : RFld := ⟨0x94000 + 64 * n, 0, 32⟩
def Reg.FAB_ETH.MAC_HI (n : Nat) : RFld := ⟨0x94004 + 64 * n, 0, 16⟩
def Reg.FAB_ETH.IPV4 (n : Nat) : RFld := ⟨0x94008 + 64 * n, 0, 32⟩
def Reg.FAB_ETH.IPV6_0 (n : Nat) : RFld := ⟨0x9400C + 64 * n, 0, 32⟩
def Reg.FAB_ETH.IPV6_1 (n : Nat) : RFld := ⟨0x94010 + 64 * n, 0, 32⟩
def Reg.FAB_ETH.IPV6_2 (n : Nat) : RFld := ⟨0x94014 + 64 * n, 0, 32⟩
def Reg.FAB_ETH.IPV6_3 (n : Nat) : RFld := ⟨0x94018 + 64 * n, 0, 32⟩
def Reg.FAB_ETH.UPD_PORT (n : Nat) : RFld := ⟨0x9401C + 64 * n, 0, 16⟩
def Reg.FAB_ETH.PTP_ROLE (n : Nat) : RFld := ⟨0x9401C + 64 * n, 16, 2⟩
def Reg.FAB_ETH.PTP_DOMAIN (n : Nat) : RFld := ⟨0x9401C + 64 * n, 18, 8⟩
def Reg.FAB_ETH.PTP_L2 (n : Nat) : RFld := ⟨0x9401C + 64 * n, 26, 1⟩
def Reg.FAB_ETH.VLAN_EN (n : Nat) : RFld := ⟨0x9401C + 64 * n, 27, 1⟩
def Reg.FAB_ETH.VID (n : Nat) : RFld := ⟨0x94020 + 64 * n, 0, 12⟩
def Reg.FAB_PARSE.EN (n : Nat) : RFld := ⟨0x96000 + 32 * n, 0, 1⟩
def Reg.FAB_PARSE.BIG_END (n : Nat) : RFld := ⟨0x96000 + 32 * n, 1, 1⟩
def Reg.FAB_PARSE.VFMT (n : Nat) : RFld := ⟨0x96000 + 32 * n, 2, 2⟩
def Reg.FAB_PARSE.TSFMT (n : Nat) : RFld := ⟨0x96000 + 32 * n, 4, 2⟩
def Reg.FAB_PARSE.TS_PER_REC (n : Nat) : RFld := ⟨0x96000 + 32 * n, 6, 1⟩
def Reg.FAB_PARSE.IDX32 (n : Nat) : RFld := ⟨0x96000 + 32 * n, 7, 1⟩
def Reg.FAB_PARSE.UDP_PORT (n : Nat) : RFld := ⟨0x96000 + 32 * n, 16, 16⟩
def Reg.FAB_PARSE.HDR_SKIP (n : Nat) : RFld := ⟨0x96004 + 32 * n, 0, 16⟩
def Reg.FAB_PARSE.REC_LEN (n : Nat) : RFld := ⟨0x96004 + 32 * n, 16, 16⟩
def Reg.FAB_PARSE.BASE_IDX (n : Nat) : RFld := ⟨0x96008 + 32 * n, 0, 23⟩
def Reg.FAB_PARSE.IDX_OFS (n : Nat) : RFld := ⟨0x9600C + 32 * n, 0, 16⟩
def Reg.FAB_PARSE.VAL_OFS (n : Nat) : RFld := ⟨0x9600C + 32 * n, 16, 16⟩
def Reg.FAB_PARSE.TS_OFS (n : Nat) : RFld := ⟨0x96010 + 32 * n, 0, 16⟩
def Reg.FAB_PARSE.QUAL_OFS (n : Nat) : RFld := ⟨0x96010 + 32 * n, 16, 16⟩
def Reg.FAB_PARSE.QUAL_BAD_MASK (n : Nat) : RFld := ⟨0x96014 + 32 * n, 0, 8⟩
def Reg.FAB_PARSE.QUAL_EN (n : Nat) : RFld := ⟨0x96014 + 32 * n, 8, 1⟩
def Reg.FAB_SV.APPID (n : Nat) : RFld := ⟨0x97000 + 32 * n, 0, 16⟩
def Reg.FAB_SV.ELEM (n : Nat) : RFld := ⟨0x97000 + 32 * n, 16, 5⟩
def Reg.FAB_SV.TGT (n : Nat) : RFld := ⟨0x97000 + 32 * n, 21, 1⟩
def Reg.FAB_SV.VALID (n : Nat) : RFld := ⟨0x97000 + 32 * n, 22, 1⟩
def Reg.FAB_SV.SVID_CRC (n : Nat) : RFld := ⟨0x97004 + 32 * n, 0, 32⟩
def Reg.FAB_SV.TARGET (n : Nat) : RFld := ⟨0x97008 + 32 * n, 0, 23⟩
def Reg.FAB_SV.SCALE (n : Nat) : RFld := ⟨0x9700C + 32 * n, 0, 32⟩
def Reg.FAB_SV.CONFREV (n : Nat) : RFld := ⟨0x97010 + 32 * n, 0, 32⟩
def Reg.WLD_LOCK.LOCK : RFld := ⟨0xA0000, 0, 1⟩
def Reg.WLD_POLICY_STAT.SOURCE : RFld := ⟨0xA0004, 0, 2⟩
def Reg.WLD_POLICY_STAT.VERSION : RFld := ⟨0xA0004, 16, 16⟩
def Reg.WLD_BLOCK_LO.SECURE : RFld := ⟨0xA0008, 0, 32⟩
def Reg.WLD_BLOCK_HI.SECURE : RFld := ⟨0xA000C, 0, 16⟩
def Reg.WLD_FIXED_LO.FIXED : RFld := ⟨0xA0010, 0, 32⟩
def Reg.WLD_FIXED_HI.FIXED : RFld := ⟨0xA0014, 0, 16⟩
def Reg.WLD_HBM_LO.SECURE : RFld := ⟨0xA0018, 0, 32⟩
def Reg.WLD_HBM_HI.SECURE : RFld := ⟨0xA001C, 0, 32⟩
def Reg.WLD_HBM_FIXED_LO.FIXED : RFld := ⟨0xA0020, 0, 32⟩
def Reg.WLD_HBM_FIXED_HI.FIXED : RFld := ⟨0xA0024, 0, 32⟩
def Reg.WLD_DENIED_CNT.COUNT : RFld := ⟨0xA0040, 0, 32⟩
def Reg.WLD_TWIN_CNT.COUNT : RFld := ⟨0xA0044, 0, 32⟩
def Reg.WLD_TW_REG_CNT.COUNT : RFld := ⟨0xA0048, 0, 32⟩
def Reg.WLD_TW_TMO_CNT.COUNT : RFld := ⟨0xA004C, 0, 32⟩
def Reg.WLD_HELD_TWIN_CNT.COUNT : RFld := ⟨0xA0050, 0, 32⟩
def Reg.WLD_RANGE_REJECT_CNT.COUNT : RFld := ⟨0xA0054, 0, 32⟩
def Reg.WLD_LAST_DENIED.FUNC : RFld := ⟨0xA0060, 0, 7⟩
def Reg.WLD_LAST_DENIED.PATH : RFld := ⟨0xA0060, 8, 2⟩
def Reg.WLD_LAST_DENIED.BLOCK : RFld := ⟨0xA0060, 16, 6⟩
def Reg.WLD_HREG.EN (n : Nat) : RFld := ⟨0xA1000 + 16 * n, 0, 1⟩
def Reg.WLD_HREG.WORLD (n : Nat) : RFld := ⟨0xA1000 + 16 * n, 1, 1⟩
def Reg.WLD_HREG.BASE_LO (n : Nat) : RFld := ⟨0xA1000 + 16 * n, 12, 20⟩
def Reg.WLD_HREG.BASE_HI (n : Nat) : RFld := ⟨0xA1004 + 16 * n, 0, 32⟩
def Reg.WLD_HREG.LIMIT_LO (n : Nat) : RFld := ⟨0xA1008 + 16 * n, 12, 20⟩
def Reg.WLD_HREG.LIMIT_HI (n : Nat) : RFld := ⟨0xA100C + 16 * n, 0, 32⟩
def Reg.LIO_SAFE_CTRL.TMO_MS : RFld := ⟨0xB0000, 0, 10⟩
def Reg.LIO_STAT.SAFE_ACTIVE : RFld := ⟨0xB0004, 0, 1⟩
def Reg.LIO_STAT.LOGIC_SRC : RFld := ⟨0xB0004, 1, 1⟩
def Reg.LIO_STAT.LOGIC_SILENT : RFld := ⟨0xB0004, 2, 1⟩
def Reg.LIO_AMON.CH : RFld := ⟨0xB0008, 0, 5⟩
def Reg.LIO_AMON.EN : RFld := ⟨0xB0008, 5, 1⟩
def Reg.LIO_CJ.T_CJ (n : Nat) : RFld := ⟨0xB0010 + 4 * n, 0, 32⟩
def Reg.LIO_OVC_CNT.COUNT : RFld := ⟨0xB0040, 0, 32⟩
def Reg.LIO_BURNOUT_CNT.COUNT : RFld := ⟨0xB0044, 0, 32⟩
def Reg.LIO_AO_FAULT_CNT.COUNT : RFld := ⟨0xB0048, 0, 32⟩
def Reg.LIO_HART_ERR_CNT.COUNT : RFld := ⟨0xB004C, 0, 32⟩
def Reg.LIO_DO_OVL_CNT.COUNT : RFld := ⟨0xB0050, 0, 32⟩
def Reg.LIO_RB_CNT.COUNT : RFld := ⟨0xB0054, 0, 32⟩
def Reg.LIO_PULSE_TRUNC_CNT.COUNT : RFld := ⟨0xB0058, 0, 32⟩
def Reg.LIO_PULSE_DROP_CNT.COUNT : RFld := ⟨0xB005C, 0, 32⟩
def Reg.LIO_GRP_WAIT_CNT.COUNT : RFld := ⟨0xB0060, 0, 32⟩
def Reg.LIO_GRP_REFUSE_CNT.COUNT : RFld := ⟨0xB0064, 0, 32⟩
def Reg.LIO_DEMAG_LONG_CNT.COUNT : RFld := ⟨0xB0068, 0, 32⟩
def Reg.LIO_SAFE_CNT.COUNT : RFld := ⟨0xB006C, 0, 32⟩
def Reg.LIO_TWIN_CNT.COUNT : RFld := ⟨0xB0070, 0, 32⟩
def Reg.LIO_RANGE_REJECT_CNT.COUNT : RFld := ⟨0xB0074, 0, 32⟩
def Reg.LIO_AI.TYPE (n : Nat) : RFld := ⟨0xB0100 + 32 * n, 0, 3⟩
def Reg.LIO_AI.WIRES (n : Nat) : RFld := ⟨0xB0100 + 32 * n, 3, 2⟩
def Reg.LIO_AI.EXC (n : Nat) : RFld := ⟨0xB0100 + 32 * n, 5, 1⟩
def Reg.LIO_AI.RF (n : Nat) : RFld := ⟨0xB0100 + 32 * n, 6, 2⟩
def Reg.LIO_AI.GAIN (n : Nat) : RFld := ⟨0xB0100 + 32 * n, 8, 2⟩
def Reg.LIO_AI.VDIV (n : Nat) : RFld := ⟨0xB0100 + 32 * n, 10, 1⟩
def Reg.LIO_AI.RREF (n : Nat) : RFld := ⟨0xB0100 + 32 * n, 11, 1⟩
def Reg.LIO_AI.ODR (n : Nat) : RFld := ⟨0xB0100 + 32 * n, 12, 3⟩
def Reg.LIO_AI.BURN (n : Nat) : RFld := ⟨0xB0100 + 32 * n, 15, 2⟩
def Reg.LIO_AI.PNT_EN (n : Nat) : RFld := ⟨0xB0100 + 32 * n, 17, 1⟩
def Reg.LIO_AI.CMW_EN (n : Nat) : RFld := ⟨0xB0100 + 32 * n, 18, 1⟩
def Reg.LIO_AI.EXPERT (n : Nat) : RFld := ⟨0xB0100 + 32 * n, 19, 1⟩
def Reg.LIO_AI.TC_TYPE (n : Nat) : RFld := ⟨0xB0100 + 32 * n, 20, 3⟩
def Reg.LIO_AI.R0 (n : Nat) : RFld := ⟨0xB0104 + 32 * n, 0, 32⟩
def Reg.LIO_AI.LEAD_MOHM (n : Nat) : RFld := ⟨0xB0108 + 32 * n, 0, 16⟩
def Reg.LIO_AI.LEAD_S (n : Nat) : RFld := ⟨0xB0108 + 32 * n, 16, 12⟩
def Reg.LIO_AI.CJ_SRC (n : Nat) : RFld := ⟨0xB010C + 32 * n, 0, 2⟩
def Reg.LIO_AI.CJ_IDX (n : Nat) : RFld := ⟨0xB010C + 32 * n, 2, 23⟩
def Reg.LIO_AI.CJ_FIXED (n : Nat) : RFld := ⟨0xB0110 + 32 * n, 0, 32⟩
def Reg.LIO_AI.OVC (n : Nat) : RFld := ⟨0xB0114 + 32 * n, 0, 1⟩
def Reg.LIO_AI.BURNOUT (n : Nat) : RFld := ⟨0xB0114 + 32 * n, 1, 1⟩
def Reg.LIO_AI.LEAD_FAULT (n : Nat) : RFld := ⟨0xB0114 + 32 * n, 2, 1⟩
def Reg.LIO_AI.CJ_FAULT (n : Nat) : RFld := ⟨0xB0114 + 32 * n, 3, 1⟩
def Reg.LIO_AI.OVERRANGE (n : Nat) : RFld := ⟨0xB0114 + 32 * n, 4, 1⟩
def Reg.LIO_AI.R_LEAD_MOHM (n : Nat) : RFld := ⟨0xB0114 + 32 * n, 16, 16⟩
def Reg.LIO_AI.CODE (n : Nat) : RFld := ⟨0xB0118 + 32 * n, 0, 24⟩
def Reg.LIO_AI.NATIVE (n : Nat) : RFld := ⟨0xB011C + 32 * n, 0, 32⟩
def Reg.LIO_AO.EN (n : Nat) : RFld := ⟨0xB0500 + 32 * n, 0, 1⟩
def Reg.LIO_AO.SINK (n : Nat) : RFld := ⟨0xB0500 + 32 * n, 1, 1⟩
def Reg.LIO_AO.HART_EN (n : Nat) : RFld := ⟨0xB0500 + 32 * n, 2, 1⟩
def Reg.LIO_AO.MULTIDROP (n : Nat) : RFld := ⟨0xB0500 + 32 * n, 3, 1⟩
def Reg.LIO_AO.LSHIP_ACT (n : Nat) : RFld := ⟨0xB0500 + 32 * n, 4, 2⟩
def Reg.LIO_AO.SAFE_HOLD (n : Nat) : RFld := ⟨0xB0500 + 32 * n, 6, 1⟩
def Reg.LIO_AO.SAFE_UA (n : Nat) : RFld := ⟨0xB0504 + 32 * n, 0, 15⟩
def Reg.LIO_AO.LIM_LO_UA (n : Nat) : RFld := ⟨0xB0508 + 32 * n, 0, 15⟩
def Reg.LIO_AO.LIM_HI_UA (n : Nat) : RFld := ⟨0xB0508 + 32 * n, 16, 15⟩
def Reg.LIO_AO.OPEN (n : Nat) : RFld := ⟨0xB050C + 32 * n, 0, 1⟩
def Reg.LIO_AO.COMPL (n : Nat) : RFld := ⟨0xB050C + 32 * n, 1, 1⟩
def Reg.LIO_AO.THERM (n : Nat) : RFld := ⟨0xB050C + 32 * n, 2, 1⟩
def Reg.LIO_AO.SAFE (n : Nat) : RFld := ⟨0xB050C + 32 * n, 3, 1⟩
def Reg.LIO_AO.PARKED (n : Nat) : RFld := ⟨0xB050C + 32 * n, 4, 1⟩
def Reg.LIO_AO.CD (n : Nat) : RFld := ⟨0xB050C + 32 * n, 5, 1⟩
def Reg.LIO_AO.I_MEAS_UA (n : Nat) : RFld := ⟨0xB0510 + 32 * n, 0, 15⟩
def Reg.LIO_AO.V_SUP_MV (n : Nat) : RFld := ⟨0xB0514 + 32 * n, 0, 15⟩
def Reg.LIO_AO.V_TERM_MV (n : Nat) : RFld := ⟨0xB0518 + 32 * n, 0, 15⟩
def Reg.LIO_HART.TX_DATA (n : Nat) : RFld := ⟨0xB0700 + 16 * n, 0, 8⟩
def Reg.LIO_HART.TX_EOM (n : Nat) : RFld := ⟨0xB0700 + 16 * n, 8, 1⟩
def Reg.LIO_HART.RX_DATA (n : Nat) : RFld := ⟨0xB0704 + 16 * n, 0, 8⟩
def Reg.LIO_HART.RX_VALID (n : Nat) : RFld := ⟨0xB0704 + 16 * n, 8, 1⟩
def Reg.LIO_HART.RX_PERR (n : Nat) : RFld := ⟨0xB0704 + 16 * n, 9, 1⟩
def Reg.LIO_HART.RX_EOM (n : Nat) : RFld := ⟨0xB0704 + 16 * n, 10, 1⟩
def Reg.LIO_HART.TX_FREE (n : Nat) : RFld := ⟨0xB0708 + 16 * n, 0, 9⟩
def Reg.LIO_HART.RX_USED (n : Nat) : RFld := ⟨0xB0708 + 16 * n, 16, 9⟩
def Reg.LIO_HART.TX_BUSY (n : Nat) : RFld := ⟨0xB0708 + 16 * n, 25, 1⟩
def Reg.LIO_DIO.MODE (n : Nat) : RFld := ⟨0xB0800 + 16 * n, 0, 2⟩
def Reg.LIO_DIO.DEB (n : Nat) : RFld := ⟨0xB0800 + 16 * n, 2, 13⟩
def Reg.LIO_DIO.SAFE_ON (n : Nat) : RFld := ⟨0xB0800 + 16 * n, 15, 1⟩
def Reg.LIO_DIO.LSHIP_ACT (n : Nat) : RFld := ⟨0xB0800 + 16 * n, 16, 2⟩
def Reg.LIO_DIO.COIL_MA (n : Nat) : RFld := ⟨0xB0800 + 16 * n, 18, 10⟩
def Reg.LIO_DIO.LEVEL (n : Nat) : RFld := ⟨0xB0804 + 16 * n, 0, 1⟩
def Reg.LIO_DIO.CMD (n : Nat) : RFld := ⟨0xB0804 + 16 * n, 1, 1⟩
def Reg.LIO_DIO.OVL (n : Nat) : RFld := ⟨0xB0804 + 16 * n, 2, 1⟩
def Reg.LIO_DIO.RB_MISMATCH (n : Nat) : RFld := ⟨0xB0804 + 16 * n, 3, 1⟩
def Reg.LIO_DIO.SAFE (n : Nat) : RFld := ⟨0xB0804 + 16 * n, 4, 1⟩
def Reg.LIO_DIO.DEMAG (n : Nat) : RFld := ⟨0xB0804 + 16 * n, 5, 1⟩
def Reg.LIO_DIO.WAITING (n : Nat) : RFld := ⟨0xB0804 + 16 * n, 6, 1⟩
def Reg.LIO_DIO.RB_MS (n : Nat) : RFld := ⟨0xB0808 + 16 * n, 0, 10⟩
def Reg.LIO_PULSE.MIN_MS (n : Nat) : RFld := ⟨0xB0B00 + 16 * n, 0, 10⟩
def Reg.LIO_PULSE.DEAD_MS (n : Nat) : RFld := ⟨0xB0B00 + 16 * n, 10, 14⟩
def Reg.LIO_PULSE.PMODE (n : Nat) : RFld := ⟨0xB0B00 + 16 * n, 24, 1⟩
def Reg.LIO_PULSE.HOLD_S (n : Nat) : RFld := ⟨0xB0B04 + 16 * n, 0, 10⟩
def Reg.LIO_PULSE.STROKE_MS (n : Nat) : RFld := ⟨0xB0B08 + 16 * n, 0, 20⟩
def Reg.LIO_PULSE.CARRY_R (n : Nat) : RFld := ⟨0xB0B0C + 16 * n, 0, 16⟩
def Reg.LIO_PULSE.CARRY_L (n : Nat) : RFld := ⟨0xB0B0C + 16 * n, 16, 16⟩
def Reg.LIO_GROUP.EN (n : Nat) : RFld := ⟨0xB0C00 + 8 * n, 0, 1⟩
def Reg.LIO_GROUP.POLICY (n : Nat) : RFld := ⟨0xB0C00 + 8 * n, 1, 1⟩
def Reg.LIO_GROUP.LIMIT_MA (n : Nat) : RFld := ⟨0xB0C00 + 8 * n, 2, 11⟩
def Reg.LIO_GROUP.FEED (n : Nat) : RFld := ⟨0xB0C04 + 8 * n, 0, 1⟩
def Reg.LTN_PANEL_CTRL.PANEL_EN : RFld := ⟨0xC0000, 0, 1⟩
def Reg.LTN_PANEL_CTRL.RETAIN : RFld := ⟨0xC0000, 1, 1⟩
def Reg.LTN_PANEL_CTRL.FALLBACK_TILE : RFld := ⟨0xC0000, 2, 1⟩
def Reg.LTN_PANEL_CTRL.VCOM_EXPERT : RFld := ⟨0xC0000, 3, 1⟩
def Reg.LTN_PANEL_CTRL.VCOM_HZ : RFld := ⟨0xC0000, 4, 6⟩
def Reg.LTN_GEOM.WIDTH : RFld := ⟨0xC0004, 0, 11⟩
def Reg.LTN_GEOM.HEIGHT : RFld := ⟨0xC0004, 16, 10⟩
def Reg.LTN_LIGHT.LEVEL : RFld := ⟨0xC0008, 0, 8⟩
def Reg.LTN_LIGHT.LSHIP_LEVEL : RFld := ⟨0xC0008, 8, 8⟩
def Reg.LTN_STAT.PSTATE : RFld := ⟨0xC0010, 0, 3⟩
def Reg.LTN_STAT.MODE : RFld := ⟨0xC0010, 3, 1⟩
def Reg.LTN_STAT.FB_SHOWN : RFld := ⟨0xC0010, 4, 1⟩
def Reg.LTN_STAT.SRC : RFld := ⟨0xC0010, 5, 1⟩
def Reg.LTN_STAT.BIAS_FAULT : RFld := ⟨0xC0010, 6, 1⟩
def Reg.LTN_STAT.PTEMP_FAULT : RFld := ⟨0xC0010, 7, 1⟩
def Reg.LTN_STAT.UNCLEAN : RFld := ⟨0xC0010, 8, 1⟩
def Reg.LTN_STAT.VCOM_NOW : RFld := ⟨0xC0010, 16, 6⟩
def Reg.LTN_PTEMP.TEMP : RFld := ⟨0xC0014, 0, 32⟩
def Reg.LTN_CRC0.CRC : RFld := ⟨0xC0018, 0, 32⟩
def Reg.LTN_CRC1.CRC : RFld := ⟨0xC001C, 0, 32⟩
def Reg.LTN_PRIO_COLOUR.CRIT : RFld := ⟨0xC0020, 0, 3⟩
def Reg.LTN_PRIO_COLOUR.HIGH : RFld := ⟨0xC0020, 3, 3⟩
def Reg.LTN_PRIO_COLOUR.MED : RFld := ⟨0xC0020, 6, 3⟩
def Reg.LTN_PRIO_COLOUR.LOW : RFld := ⟨0xC0020, 9, 3⟩
def Reg.LTN_PRIO_COLOUR.NORMAL : RFld := ⟨0xC0020, 12, 3⟩
def Reg.LTN_PRIO_COLOUR.DISABLED : RFld := ⟨0xC0020, 15, 3⟩
def Reg.LTN_CRC_CNT.COUNT : RFld := ⟨0xC0030, 0, 32⟩
def Reg.LTN_PASS_CNT.COUNT : RFld := ⟨0xC0034, 0, 32⟩
def Reg.LTN_BIAS_FAULT_CNT.COUNT : RFld := ⟨0xC0038, 0, 32⟩
def Reg.LTN_RANGE_REJECT_CNT.COUNT : RFld := ⟨0xC003C, 0, 32⟩
def Reg.LTN_STYLE.CHAR (n : Nat) : RFld := ⟨0xC0040 + 4 * n, 0, 3⟩
def Reg.LTN_TILE.SECTOR (n : Nat) : RFld := ⟨0xC1000 + 16 * n, 0, 16⟩
def Reg.LTN_TILE.VALID (n : Nat) : RFld := ⟨0xC1000 + 16 * n, 16, 1⟩
def Reg.LTN_TILE.COND (n : Nat) : RFld := ⟨0xC1000 + 16 * n, 17, 3⟩
def Reg.LTN_TILE.LIT (n : Nat) : RFld := ⟨0xC1000 + 16 * n, 20, 1⟩
def Reg.LTN_TILE.HATCH (n : Nat) : RFld := ⟨0xC1000 + 16 * n, 21, 1⟩
def Reg.LTN_TILE.X (n : Nat) : RFld := ⟨0xC1004 + 16 * n, 0, 11⟩
def Reg.LTN_TILE.Y (n : Nat) : RFld := ⟨0xC1004 + 16 * n, 16, 10⟩
def Reg.LTN_TILE.W (n : Nat) : RFld := ⟨0xC1008 + 16 * n, 0, 11⟩
def Reg.LTN_TILE.H (n : Nat) : RFld := ⟨0xC1008 + 16 * n, 16, 10⟩
def Reg.PWR_SUPPLY_STAT.MAIN_OK : RFld := ⟨0xD0000, 0, 1⟩
def Reg.PWR_SUPPLY_STAT.EMER_OK : RFld := ⟨0xD0000, 1, 1⟩
def Reg.PWR_SUPPLY_STAT.FIELD_OK : RFld := ⟨0xD0000, 2, 1⟩
def Reg.PWR_SUPPLY_STAT.FIELD_LOW : RFld := ⟨0xD0000, 3, 1⟩
def Reg.PWR_SUPPLY_STAT.LSHIP_SRC : RFld := ⟨0xD0000, 4, 2⟩
def Reg.PWR_SUPPLY_STAT.MAIN_STATE : RFld := ⟨0xD0000, 6, 3⟩
def Reg.PWR_SUPPLY_STAT.MAIN_UNCLEAN : RFld := ⟨0xD0000, 9, 1⟩
def Reg.PWR_SUPPLY_STAT.SCAP_LOW : RFld := ⟨0xD0000, 10, 1⟩
def Reg.PWR_MAIN_MV.MV : RFld := ⟨0xD0004, 0, 17⟩
def Reg.PWR_EMER_MV.MV : RFld := ⟨0xD0008, 0, 16⟩
def Reg.PWR_FIELD_MV.MV : RFld := ⟨0xD000C, 0, 16⟩
def Reg.PWR_SCAP_MV.MV : RFld := ⟨0xD0010, 0, 16⟩
def Reg.PWR_LOAD.MAIN_W : RFld := ⟨0xD0014, 0, 10⟩
def Reg.PWR_LOAD.LSHIP_CW : RFld := ⟨0xD0014, 16, 16⟩
def Reg.PWR_CTRL.SCAP_CHG_W : RFld := ⟨0xD0020, 0, 5⟩
def Reg.PWR_CTRL.RESTART_MS : RFld := ⟨0xD0020, 16, 14⟩
def Reg.PWR_GATE_CTRL.TILE_STOP_EN : RFld := ⟨0xD0024, 0, 1⟩
def Reg.PWR_GATE_CTRL.TILE_GATE_EN : RFld := ⟨0xD0024, 1, 1⟩
def Reg.PWR_GATE_CTRL.FFT_GATE_EN : RFld := ⟨0xD0024, 2, 1⟩
def Reg.PWR_GATE_CTRL.LP_GATE_EN : RFld := ⟨0xD0024, 3, 1⟩
def Reg.PWR_GATE_CTRL.OE_GATE_EN : RFld := ⟨0xD0024, 4, 1⟩
def Reg.PWR_CLK_CTRL.PCIE_SRIS : RFld := ⟨0xD0028, 0, 1⟩
def Reg.PWR_CLK_STAT.FREF_OK : RFld := ⟨0xD002C, 0, 1⟩
def Reg.PWR_CLK_STAT.CORE_LOCK : RFld := ⟨0xD002C, 1, 1⟩
def Reg.PWR_CLK_STAT.LREF_OK : RFld := ⟨0xD002C, 2, 1⟩
def Reg.PWR_CLK_STAT.LREF_FALLBACK : RFld := ⟨0xD002C, 3, 1⟩
def Reg.PWR_TILE_GATED_LO.GATED : RFld := ⟨0xD0030, 0, 32⟩
def Reg.PWR_TILE_GATED_HI.GATED : RFld := ⟨0xD0034, 0, 32⟩
def Reg.PWR_FFT_AWAKE.COUNT : RFld := ⟨0xD0038, 0, 9⟩
def Reg.PWR_OE_ON.ON : RFld := ⟨0xD003C, 0, 16⟩
def Reg.PWR_LSHIP_STAT.LSHIP_OP : RFld := ⟨0xD0040, 0, 1⟩
def Reg.PWR_LSHIP_STAT.LPOINTS : RFld := ⟨0xD0040, 8, 8⟩
def Reg.PWR_LSHIP_STAT.LRULES : RFld := ⟨0xD0040, 16, 6⟩
def Reg.PWR_FAIL_CNT.COUNT : RFld := ⟨0xD0050, 0, 32⟩
def Reg.PWR_UNCLEAN_CNT.COUNT : RFld := ⟨0xD0054, 0, 32⟩
def Reg.PWR_SCAP_LOW_CNT.COUNT : RFld := ⟨0xD0058, 0, 32⟩
def Reg.PWR_LSHIP_FAIL_CNT.COUNT : RFld := ⟨0xD005C, 0, 32⟩
def Reg.PWR_FIELD_LOW_CNT.COUNT : RFld := ⟨0xD0060, 0, 32⟩
def Reg.PWR_RANGE_REJECT_CNT.COUNT : RFld := ⟨0xD0064, 0, 32⟩
def Reg.PWR_LRULE.IDX (n : Nat) : RFld := ⟨0xD0100 + 16 * n, 0, 23⟩
def Reg.PWR_LRULE.SLOT (n : Nat) : RFld := ⟨0xD0100 + 16 * n, 23, 4⟩
def Reg.PWR_LRULE.VALID (n : Nat) : RFld := ⟨0xD0100 + 16 * n, 27, 1⟩
def Reg.PWR_LRULE.KIND (n : Nat) : RFld := ⟨0xD0100 + 16 * n, 28, 1⟩
def Reg.PWR_LRULE.CH (n : Nat) : RFld := ⟨0xD0104 + 16 * n, 0, 6⟩
def Reg.PWR_LRULE.VAL_ACTIVE (n : Nat) : RFld := ⟨0xD0108 + 16 * n, 0, 16⟩
def Reg.PWR_LRULE.VAL_IDLE (n : Nat) : RFld := ⟨0xD0108 + 16 * n, 16, 16⟩
def Reg.KPR_STAT.STATE : RFld := ⟨0xE0000, 0, 2⟩
def Reg.KPR_STAT.RUN_BANK : RFld := ⟨0xE0000, 2, 1⟩
def Reg.KPR_STAT.ACTIVE_BANK : RFld := ⟨0xE0000, 3, 1⟩
def Reg.KPR_STAT.TRIAL : RFld := ⟨0xE0000, 4, 1⟩
def Reg.KPR_STAT.BOOT_CAUSE : RFld := ⟨0xE0000, 5, 3⟩
def Reg.KPR_STAT.SVN_CNT : RFld := ⟨0xE0000, 8, 7⟩
def Reg.KPR_FW_VER.VERSION : RFld := ⟨0xE0004, 0, 32⟩
def Reg.KPR_WDOG.TIMEOUT_MS : RFld := ⟨0xE0008, 0, 14⟩
def Reg.KPR_MGMT_CTRL.EN0 : RFld := ⟨0xE000C, 0, 1⟩
def Reg.KPR_MGMT_CTRL.EN1 : RFld := ⟨0xE000C, 1, 1⟩
def Reg.KPR_MGMT_CTRL.TCP_PORT : RFld := ⟨0xE000C, 16, 16⟩
def Reg.KPR_MGMT_IPV4.IPV4 (n : Nat) : RFld := ⟨0xE0010 + 4 * n, 0, 32⟩
def Reg.KPR_LOG_NEXT.RECNO : RFld := ⟨0xE0018, 0, 32⟩
def Reg.KPR_WDOG_CNT.COUNT : RFld := ⟨0xE0020, 0, 32⟩
def Reg.KPR_LOCKSTEP_CNT.COUNT : RFld := ⟨0xE0024, 0, 32⟩
def Reg.KPR_AUTH_FAIL_CNT.COUNT : RFld := ⟨0xE0028, 0, 32⟩
def Reg.KPR_STORE_ERR_CNT.COUNT : RFld := ⟨0xE002C, 0, 32⟩
def Reg.KPR_STORE_SPARE.PCT : RFld := ⟨0xE0030, 0, 8⟩
def Reg.KPR_RANGE_REJECT_CNT.COUNT : RFld := ⟨0xE0034, 0, 32⟩
def Reg.KPR_CTRL.RESTART : RFld := ⟨0xE0100, 0, 1⟩
def Reg.KPR_CTRL.RECOVERY_RELAYS : RFld := ⟨0xE0100, 8, 8⟩
def Reg.KPR_UPD_STAT.OPEN : RFld := ⟨0xE0104, 0, 1⟩
def Reg.KPR_UPD_STAT.SOURCE : RFld := ⟨0xE0104, 1, 1⟩
def Reg.KPR_UPD_STAT.BANK : RFld := ⟨0xE0104, 2, 1⟩
def Reg.KPR_UPD_STAT.LAST_REASON : RFld := ⟨0xE0104, 4, 2⟩
def Reg.KPR_UPD_STAT.BANK0_OK : RFld := ⟨0xE0104, 6, 1⟩
def Reg.KPR_UPD_STAT.BANK1_OK : RFld := ⟨0xE0104, 7, 1⟩
def Reg.KPR_UPD_BYTES.BYTES : RFld := ⟨0xE0108, 0, 24⟩
def Reg.KPR_BANK_VER.VERSION (n : Nat) : RFld := ⟨0xE010C + 4 * n, 0, 32⟩
def Reg.KPR_FAN_CURVE.T_LO : RFld := ⟨0xE0200, 0, 8⟩
def Reg.KPR_FAN_CURVE.T_HI : RFld := ⟨0xE0200, 8, 8⟩
def Reg.KPR_FAN_CURVE.CURVE_SRC : RFld := ⟨0xE0200, 16, 7⟩
def Reg.KPR_THERM.TRIP : RFld := ⟨0xE0204, 0, 1⟩
def Reg.KPR_THERM_TRIP_CNT.COUNT : RFld := ⟨0xE0208, 0, 32⟩
def Reg.KPR_DBG_CTRL.DBG_WDOG_PAUSE : RFld := ⟨0xE0300, 0, 1⟩
def Reg.KPR_DBG_CTRL.DBG_EN : RFld := ⟨0xE0300, 1, 1⟩
def Reg.KPR_DBG_STAT.AUTH : RFld := ⟨0xE0304, 0, 1⟩
def Reg.KPR_DBG_STAT.WORLD : RFld := ⟨0xE0304, 1, 1⟩
def Reg.KPR_DBG_STAT.HALTED : RFld := ⟨0xE0304, 2, 1⟩
def Reg.KPR_TRACE_CTRL.EN : RFld := ⟨0xE0308, 0, 1⟩
def Reg.KPR_TRACE_CTRL.WRAP : RFld := ⟨0xE0308, 1, 1⟩
def Reg.KPR_TRACE_PTR.OFFSET : RFld := ⟨0xE030C, 0, 17⟩
def Reg.KPR_TRACE_PTR.WRAPPED : RFld := ⟨0xE030C, 31, 1⟩
def Reg.KPR_SEQ_ABORT_CNT.COUNT : RFld := ⟨0xE0310, 0, 32⟩
def Reg.KPR_SENS.VALUE (n : Nat) : RFld := ⟨0xE1000 + 16 * n, 0, 32⟩
def Reg.KPR_SENS.LIMIT_LO (n : Nat) : RFld := ⟨0xE1004 + 16 * n, 0, 32⟩
def Reg.KPR_SENS.LIMIT_HI (n : Nat) : RFld := ⟨0xE1008 + 16 * n, 0, 32⟩
def Reg.KPR_SENS.LOW (n : Nat) : RFld := ⟨0xE100C + 16 * n, 0, 1⟩
def Reg.KPR_SENS.HIGH (n : Nat) : RFld := ⟨0xE100C + 16 * n, 1, 1⟩
def Reg.KPR_SENS.FAULT (n : Nat) : RFld := ⟨0xE100C + 16 * n, 2, 1⟩
def Reg.KPR_FAN.EN (n : Nat) : RFld := ⟨0xE2000 + 16 * n, 0, 1⟩
def Reg.KPR_FAN.EXPERT (n : Nat) : RFld := ⟨0xE2000 + 16 * n, 1, 1⟩
def Reg.KPR_FAN.RESTART (n : Nat) : RFld := ⟨0xE2000 + 16 * n, 2, 1⟩
def Reg.KPR_FAN.PPR (n : Nat) : RFld := ⟨0xE2000 + 16 * n, 3, 2⟩
def Reg.KPR_FAN.DRIVE_MIN (n : Nat) : RFld := ⟨0xE2000 + 16 * n, 8, 7⟩
def Reg.KPR_FAN.DRIVE_MAX (n : Nat) : RFld := ⟨0xE2000 + 16 * n, 16, 7⟩
def Reg.KPR_FAN.DRIVE_EXP (n : Nat) : RFld := ⟨0xE2000 + 16 * n, 24, 7⟩
def Reg.KPR_FAN.STALL_RPM (n : Nat) : RFld := ⟨0xE2004 + 16 * n, 0, 16⟩
def Reg.KPR_FAN.I_MIN_MA (n : Nat) : RFld := ⟨0xE2008 + 16 * n, 0, 12⟩
def Reg.KPR_FAN.I_MAX_MA (n : Nat) : RFld := ⟨0xE2008 + 16 * n, 16, 12⟩
def Reg.KPR_FAN.STATE (n : Nat) : RFld := ⟨0xE200C + 16 * n, 0, 3⟩
def Reg.KPR_FAN.ATTEMPT (n : Nat) : RFld := ⟨0xE200C + 16 * n, 3, 2⟩
def Reg.KPR_FAN.CUR_WARN (n : Nat) : RFld := ⟨0xE200C + 16 * n, 5, 1⟩
def Reg.KPR_FAN.DRIVE (n : Nat) : RFld := ⟨0xE200C + 16 * n, 8, 7⟩
def Reg.KPR_FAN.RPM (n : Nat) : RFld := ⟨0xE200C + 16 * n, 16, 16⟩
def Reg.BKP_STAT.OSC_STOP : RFld := ⟨0xF0000, 0, 1⟩
def Reg.BKP_STAT.OSC_FAIL : RFld := ⟨0xF0000, 1, 1⟩
def Reg.BKP_STAT.SWO : RFld := ⟨0xF0000, 2, 1⟩
def Reg.BKP_STAT.ON_VBAK : RFld := ⟨0xF0000, 3, 1⟩
def Reg.BKP_STAT.VBAK_LOW : RFld := ⟨0xF0000, 4, 1⟩
def Reg.BKP_STAT.POR : RFld := ⟨0xF0000, 5, 1⟩
def Reg.BKP_STAT.CAP_BUSY : RFld := ⟨0xF0000, 6, 1⟩
def Reg.BKP_STAT.SHIFT_BUSY : RFld := ⟨0xF0000, 7, 1⟩
def Reg.BKP_STAT.SET_BUSY : RFld := ⟨0xF0000, 8, 1⟩
def Reg.BKP_STAT.TRIM_VALID : RFld := ⟨0xF0000, 9, 1⟩
def Reg.BKP_VBAK_MV.MV : RFld := ⟨0xF0004, 0, 12⟩
def Reg.BKP_CAP_CTRL.CAPTURE : RFld := ⟨0xF0008, 0, 1⟩
def Reg.BKP_CAP_CTRL.CAP_WT_SRC : RFld := ⟨0xF0008, 1, 1⟩
def Reg.BKP_CAP_SUB.SUB : RFld := ⟨0xF0010, 0, 15⟩
def Reg.BKP_CAP_SEC_LO.SEC : RFld := ⟨0xF0014, 0, 32⟩
def Reg.BKP_CAP_SEC_HI.SEC : RFld := ⟨0xF0018, 0, 16⟩
def Reg.BKP_CAP_WT_LO.WT : RFld := ⟨0xF0020, 0, 32⟩
def Reg.BKP_CAP_WT_HI.WT : RFld := ⟨0xF0024, 0, 32⟩
def Reg.BKP_CAP_CAL0.SECOND : RFld := ⟨0xF0028, 0, 6⟩
def Reg.BKP_CAP_CAL0.MINUTE : RFld := ⟨0xF0028, 6, 6⟩
def Reg.BKP_CAP_CAL0.HOUR : RFld := ⟨0xF0028, 12, 5⟩
def Reg.BKP_CAP_CAL0.DAY : RFld := ⟨0xF0028, 17, 5⟩
def Reg.BKP_CAP_CAL0.MONTH : RFld := ⟨0xF0028, 22, 4⟩
def Reg.BKP_CAP_CAL0.WDAY : RFld := ⟨0xF0028, 26, 3⟩
def Reg.BKP_CAP_CAL1.YEAR : RFld := ⟨0xF002C, 0, 16⟩
def Reg.BKP_SET_SUB.SUB : RFld := ⟨0xF0030, 0, 15⟩
def Reg.BKP_SET_SEC_LO.SEC : RFld := ⟨0xF0034, 0, 32⟩
def Reg.BKP_SET_SEC_HI.SEC : RFld := ⟨0xF0038, 0, 16⟩
def Reg.BKP_SET_CTRL.GO : RFld := ⟨0xF003C, 0, 1⟩
def Reg.BKP_SHIFT.S : RFld := ⟨0xF0040, 0, 17⟩
def Reg.BKP_TRIM.TRIM : RFld := ⟨0xF0048, 0, 17⟩
def Reg.BKP_TRIM_CTRL.TRIM_SRC : RFld := ⟨0xF004C, 0, 2⟩
def Reg.BKP_TRIM_CTRL.MAINS_HZ : RFld := ⟨0xF004C, 2, 1⟩
def Reg.BKP_TRIM_CTRL.AUTO_SYNC : RFld := ⟨0xF004C, 3, 1⟩
def Reg.BKP_TRIM_CTRL.STAB_PPM : RFld := ⟨0xF004C, 8, 12⟩
def Reg.BKP_TRIM_CTRL.MAX_STEP_PPM : RFld := ⟨0xF004C, 20, 8⟩
def Reg.BKP_TRIM_MEAS.M : RFld := ⟨0xF0050, 0, 17⟩
def Reg.BKP_TRIM_MEAS.SRC : RFld := ⟨0xF0050, 17, 2⟩
def Reg.BKP_TRIM_MEAS.REASON : RFld := ⟨0xF0050, 20, 3⟩
def Reg.BKP_TRIM_SPREAD.SPREAD : RFld := ⟨0xF0054, 0, 20⟩
def Reg.BKP_SWO_SUB.SUB : RFld := ⟨0xF0058, 0, 15⟩
def Reg.BKP_SWO_SEC_LO.SEC : RFld := ⟨0xF005C, 0, 32⟩
def Reg.BKP_SWO_SEC_HI.SEC : RFld := ⟨0xF0060, 0, 16⟩
def Reg.BKP_SWO_CNT.COUNT : RFld := ⟨0xF0064, 0, 32⟩
def Reg.BKP_UTC_OFS.UTC_OFS : RFld := ⟨0xF0068, 0, 16⟩
def Reg.BKP_UTC_OFS.UTC_VALID : RFld := ⟨0xF0068, 16, 1⟩
def Reg.BKP_ALARM_SEC_LO.ALARM_SEC : RFld := ⟨0xF0078, 0, 32⟩
def Reg.BKP_ALARM_SEC_HI.ALARM_SEC : RFld := ⟨0xF007C, 0, 16⟩
def Reg.BKP_ALARM_REPEAT.REPEAT : RFld := ⟨0xF0080, 0, 20⟩
def Reg.BKP_PWRON_CTRL.ALARM_EN : RFld := ⟨0xF0088, 0, 1⟩
def Reg.BKP_PWRON_CTRL.MAIN_EN : RFld := ⟨0xF0088, 1, 1⟩
def Reg.BKP_PWRON_CTRL.BCN_EN : RFld := ⟨0xF0088, 2, 1⟩
def Reg.BKP_PWRON_CTRL.MODE : RFld := ⟨0xF0088, 3, 1⟩
def Reg.BKP_PWRON_CTRL.PULSE : RFld := ⟨0xF0088, 8, 8⟩
def Reg.BKP_PWRON_CTRL.HOLDOFF_S : RFld := ⟨0xF0088, 16, 8⟩
def Reg.BKP_PWRON_STAT.ACTIVE : RFld := ⟨0xF008C, 0, 1⟩
def Reg.BKP_PWRON_STAT.ALARM : RFld := ⟨0xF008C, 1, 1⟩
def Reg.BKP_PWRON_STAT.MAIN : RFld := ⟨0xF008C, 2, 1⟩
def Reg.BKP_PWRON_STAT.BCN : RFld := ⟨0xF008C, 3, 1⟩
def Reg.BKP_PWRON_STAT.PENDING : RFld := ⟨0xF008C, 4, 1⟩
def Reg.BKP_PWRON_STAT.RELEASE : RFld := ⟨0xF008C, 5, 1⟩
def Reg.BKP_PWRON_CNT.COUNT : RFld := ⟨0xF0090, 0, 32⟩
def Reg.BKP_RANGE_REJECT_CNT.COUNT : RFld := ⟨0xF0094, 0, 32⟩
def Reg.BKP_REG.WORD (n : Nat) : RFld := ⟨0xF1000 + 4 * n, 0, 32⟩
def Reg.HIF_ARB.UNIT64 : RFld := ⟨0x180000, 0, 8⟩
def Reg.HIF_ARB.EXPERT : RFld := ⟨0x180000, 8, 1⟩
def Reg.HIF_QUENCH.EVT_ALL : RFld := ⟨0x180004, 0, 1⟩
def Reg.HIF_QUENCH.RING_EN : RFld := ⟨0x180004, 1, 1⟩
def Reg.HIF_QUENCH.RING : RFld := ⟨0x180004, 16, 16⟩
def Reg.HIF_LINK_STAT.GEN : RFld := ⟨0x180008, 0, 3⟩
def Reg.HIF_LINK_STAT.WIDTH : RFld := ⟨0x180008, 3, 5⟩
def Reg.HIF_LINK_STAT.FLIT : RFld := ⟨0x180008, 8, 1⟩
def Reg.HIF_INFLIGHT.COUNT : RFld := ⟨0x18000C, 0, 15⟩
def Reg.HIF_PIN_USED.COUNT : RFld := ⟨0x180010, 0, 12⟩
def Reg.HIF_BACKLOG_USED.COUNT : RFld := ⟨0x180014, 0, 26⟩
def Reg.HIF_CTX_MISS_CNT.COUNT : RFld := ⟨0x180020, 0, 32⟩
def Reg.HIF_DB_BAD_CNT.COUNT : RFld := ⟨0x180024, 0, 32⟩
def Reg.HIF_DB_STRAY_CNT.COUNT : RFld := ⟨0x180028, 0, 32⟩
def Reg.HIF_EV_DROP_CNT.COUNT : RFld := ⟨0x18002C, 0, 32⟩
def Reg.HIF_DMA_ERR_CNT.COUNT : RFld := ⟨0x180030, 0, 32⟩
def Reg.HIF_RANGE_REJECT_CNT.COUNT : RFld := ⟨0x180034, 0, 32⟩
def Reg.HIF_EVMAP.RING (n : Nat) : RFld := ⟨0x182000 + 8 * n, 0, 16⟩
def Reg.HIF_EVMAP.EN (n : Nat) : RFld := ⟨0x182000 + 8 * n, 16, 1⟩
def Reg.HIF_EVMAP.RING2 (n : Nat) : RFld := ⟨0x182004 + 8 * n, 0, 16⟩
def Reg.HIF_EVMAP.EN2 (n : Nat) : RFld := ⟨0x182004 + 8 * n, 16, 1⟩
def Reg.HIF_FN.ADM_EN (n : Nat) : RFld := ⟨0x190000 + 4096 * n, 0, 1⟩
def Reg.HIF_FN.FN_QUENCH (n : Nat) : RFld := ⟨0x190000 + 4096 * n, 1, 1⟩
def Reg.HIF_FN.FN_RESET (n : Nat) : RFld := ⟨0x190000 + 4096 * n, 2, 1⟩
def Reg.HIF_FN.READY (n : Nat) : RFld := ⟨0x190004 + 4096 * n, 0, 1⟩
def Reg.HIF_FN.FN_RESETTING (n : Nat) : RFld := ⟨0x190004 + 4096 * n, 1, 1⟩
def Reg.HIF_FN.WORLD (n : Nat) : RFld := ⟨0x190004 + 4096 * n, 2, 1⟩
def Reg.HIF_FN.ADM_CMD_BASE_LO (n : Nat) : RFld := ⟨0x190008 + 4096 * n, 0, 32⟩
def Reg.HIF_FN.ADM_CMD_BASE_HI (n : Nat) : RFld := ⟨0x19000C + 4096 * n, 0, 32⟩
def Reg.HIF_FN.ADM_CPL_BASE_LO (n : Nat) : RFld := ⟨0x190010 + 4096 * n, 0, 32⟩
def Reg.HIF_FN.ADM_CPL_BASE_HI (n : Nat) : RFld := ⟨0x190014 + 4096 * n, 0, 32⟩
def Reg.HIF_FN.CMD_LOG2N (n : Nat) : RFld := ⟨0x190018 + 4096 * n, 0, 5⟩
def Reg.HIF_FN.CPL_LOG2N (n : Nat) : RFld := ⟨0x190018 + 4096 * n, 8, 5⟩
def Reg.HIF_FN.VECTOR (n : Nat) : RFld := ⟨0x190018 + 4096 * n, 16, 11⟩
def Reg.HIF_FN.VEC_EN (n : Nat) : RFld := ⟨0x190018 + 4096 * n, 27, 1⟩
def Reg.HIF_FN.NVEC (n : Nat) : RFld := ⟨0x19001C + 4096 * n, 0, 12⟩
def Reg.HIF_FN.FQ (n : Nat) : RFld := ⟨0x190020 + 4096 * n, 0, 8⟩
def Reg.HIF_FN.FN_RINGS (n : Nat) : RFld := ⟨0x190024 + 4096 * n, 0, 17⟩
def Reg.HIF_FN.FN_INFLIGHT (n : Nat) : RFld := ⟨0x190028 + 4096 * n, 0, 15⟩
def Reg.HIF_FN.FN_RESET_CNT (n : Nat) : RFld := ⟨0x19002C + 4096 * n, 0, 32⟩

end Sys2Proof.Machine
end

