-- ==== Sys2Proof/Machine/Tab.lean ====
section
/-! DEFINITION. Operations on sparse tables. `d` is what an unlisted key reads as; a write of `d` removes the entry, so
the canonical form is kept. -/

namespace Sys2Proof.Machine

/-- What key `k` holds. -/
def tget {α : Type} (d : α) : Tab α → Nat → α
  | [], _ => d
  | (i, v) :: t, k => if i == k then v else tget d t k

/-- The table without key `k`. -/
def tdel {α : Type} : Tab α → Nat → Tab α
  | [], _ => []
  | (i, v) :: t, k => if i == k then t else (i, v) :: tdel t k

/-- The table with key `k` holding `v`, in its place by key. -/
def tins {α : Type} (v : α) : Tab α → Nat → Tab α
  | [], k => [(k, v)]
  | (i, w) :: t, k => if k < i then (k, v) :: (i, w) :: t else if i == k then (k, v) :: t else (i, w) :: tins v t k

/-- The table with key `k` set to `v`. -/
def tset {α : Type} [DecidableEq α] (d : α) (t : Tab α) (k : Nat) (v : α) : Tab α :=
  if v = d then tdel t k else tins v t k

/-- The table with key `k` changed by `f`. -/
def tmod {α : Type} [DecidableEq α] (d : α) (t : Tab α) (k : Nat) (f : α → α) : Tab α :=
  tset d t k (f (tget d t k))

/-- The table with every entry changed by `f`; `d` is what an unlisted key of the result reads as. -/
def tmap {α β : Type} [DecidableEq β] (d : β) (f : Nat → α → β) : Tab α → Tab β
  | [] => []
  | (i, v) :: t => if f i v = d then tmap d f t else (i, f i v) :: tmap d f t

/-- The keys listed. -/
def tkeys {α : Type} (t : Tab α) : List Nat := t.map Prod.fst

/-- The canonical form: keys strictly rising from `lo` on, no entry equal to what its key reads as unlisted. -/
def twfFrom {α : Type} [DecidableEq α] (d : Nat → α) : Nat → Tab α → Bool
  | _, [] => true
  | lo, (i, v) :: t => decide (lo ≤ i) && decide (v ≠ d i) && twfFrom d (i + 1) t

/-- The canonical form of a table whose unlisted key `k` reads as `d k`. -/
def twf {α : Type} [DecidableEq α] (d : Nat → α) (t : Tab α) : Bool := twfFrom d 0 t

/-- An association list kept in order of arrival: the entry of key `k`, if any. -/
def afind {α : Type} (t : List (Nat × α)) (k : Nat) : Option α := (t.find? fun e => e.1 == k).map Prod.snd

end Sys2Proof.Machine
end

