-- ==== Sys2Proof/Machine/State.lean ====
section
/-! DEFINITION. The state of the module as plain data: one group of fields for each part of the manual. Registers of
BAR0 live in `regs`, whatever their block; the groups hold the tables, queues, timers and stores that the registers do
not show. Records keep the manual's byte layout (Machine/Layout.lean). -/

namespace Sys2Proof.Machine

/-- The ways the module could stop. No command of the table stops it, so the type has no constructor: every command has
an effect or is without effect. -/
inductive Fault
  deriving DecidableEq, Repr

/-- A command without a meaning. -/
inductive Refusal where
  /-- Raised by the dispatcher for a command whose meaning is not written. Safe: nothing is claimed of it. -/
  | notModelled (mnemonic : String)
  deriving DecidableEq, Repr

/-- A leaf of an arbiter (R419): key, deficit in bytes, fresh mark. -/
structure ALeaf where
  key : Nat
  d : Nat
  fresh : Bool
  deriving DecidableEq, Repr

/-- A group of an arbiter with its round of leaves, head first. -/
structure AGroup where
  key : Nat
  d : Nat
  fresh : Bool
  leaves : List ALeaf
  deriving DecidableEq, Repr

/-- A class of an arbiter with its round of groups, head first. -/
structure AClass where
  key : Nat
  d : Nat
  fresh : Bool
  groups : List AGroup
  deriving DecidableEq, Repr

/-- R504: an entry of a CMD or DATA_IN ring between its fetch and its completion: the descriptor as read (a DATA_IN
entry has 32 bytes), CONS of the ring after the fetch (CMD_HEAD), and whether it has been dispatched and waits in its
block for its end (R506). -/
structure Infl where
  ring : Nat
  desc : Rec 64
  data : Bool
  head : Nat
  disp : Bool
  deriving DecidableEq, Repr

/-- R588: a requester's twin-write sequencer. -/
structure TwSeq where
  open_ : Bool
  off : Nat
  v : Nat
  t : Nat
  deriving DecidableEq, Repr

/-- R521, R522: the posted buffer that a DATA_OUT ring is filling. -/
structure OutBuf where
  /-- Ring slot count of the entry. -/
  slot : Nat
  addr : Nat
  len : Nat
  used : Nat
  items : Nat
  /-- Instant of the first item. -/
  since : Nat
  deriving DecidableEq, Repr

/-- The host interface (rings, doorbells, completions, event output). -/
structure Hif where
  /-- Ring contexts (R493) by ring number. -/
  rings : Tab (Rec 64)
  inflight : List Infl
  /-- Completions owed to a quenched CPL ring: the ring, the entry without PHASE. -/
  held : List (Nat × Nat)
  /-- The event backlog (R517): ring, and the entries that stay together. -/
  backlog : List (Nat × List Nat)
  /-- Lowest and highest SEQ of the dropped CHANGE entries of a ring (R512). -/
  lostSeq : Tab (Nat × Nat)
  /-- R674: the host link runs on the module's own PCIe reference: PCIE_SRIS at its last training. -/
  ownRef : Bool
  /-- Host memory as the module has written it. -/
  mem : Tab Byte
  /-- Instant at which COAL_US of an armed ring with pending entries runs out, plus one; 0: not running (R523). -/
  coalAt : Tab Nat
  /-- Entries of a DATA_OUT ring written back since it was armed (R523). -/
  outPend : Tab Nat
  /-- Posted DATA_OUT buffers not yet in use: ring, slot count, address, length. -/
  posted : List (Nat × Nat × Nat × Nat)
  /-- The DATA_OUT buffer being filled. -/
  outBuf : Tab (Option OutBuf)
  /-- MSI-X: functions whose MSI-X is enabled, unmasked vectors, pending bits, by function × 2,048 + vector (R488). -/
  msixEn : Tab Nat
  vecOpen : Tab Nat
  vecPend : Tab Nat
  /-- MSI-X messages sent so far, by function × 2,048 + vector. -/
  vecSent : Tab Nat
  /-- Instant of the last HIF_DB_STRAY event, plus one (R498). -/
  strayAt : Nat
  /-- Rings in the context cache, most recently used first (R527). -/
  cache : List Nat
  /-- The fetch arbiter's rounds (R525): functions as groups, rings as leaves, in one class. -/
  fetchArb : List AClass
  /-- RING_DELETE commands waiting for a ring's last entry in flight (R495): ring, command ring, tag. -/
  deleting : List (Nat × Nat × Nat)
  /-- What the last register read of each requester returned (R789): 65 the Keeper, 66 and 67 the debug port. -/
  readOut : Tab Nat
  deriving DecidableEq, Repr

/-- Worlds and twin-word state. -/
structure Wld where
  /-- The policy flags of R572. -/
  sClassed : Bool
  lkSecure : Bool
  /-- Highest policy version applied (R581), held in the retained store. -/
  highest : Nat
  /-- The stored policy image, if any, and whether its signature verifies. -/
  image : Option (Nat × Bool)
  /-- Staged words of WLD_HREG (R577) by BAR0 offset, each plus 1; 0: nothing staged. -/
  staged : Tab Nat
  /-- Twin-write sequencers of PF0, PF1, the Keeper and the debug port (R588). -/
  seqPF0 : TwSeq
  seqPF1 : TwSeq
  seqKpr : TwSeq
  seqDbg : TwSeq
  /-- Instant of the last EV528 of a function × 4 + path, plus one (R586). -/
  deniedAt : Tab Nat
  deriving DecidableEq, Repr

/-- A record of the Ledger before it is framed as a slot: TYPE, body bytes from 0x08 on as a little-endian number,
L / 64, the LSHIP and REPLAY marks, the record's time (R365) and, of a CHANGE record, its SEQ; and the watch time at
which it entered the buffer (R354). -/
structure LRec where
  typ : Nat
  body : Nat
  len64 : Nat
  lship : Bool
  replay : Bool
  t : Nat
  seq : Nat
  tIn : Nat
  deriving DecidableEq, Repr

/-- R343: a code tally. -/
structure Tally where
  count : Nat
  skipped : Nat
  tFirst : Nat
  tLast : Nat
  deriving DecidableEq, Repr

/-- R336, R337: an open accumulator of a point and tier. -/
structure Acc1 where
  tStart : Nat
  n : Nat
  nBad : Nat
  total : Nat
  qualOr : Nat
  order : Bool
  /-- The sixteen bins; for a DISCRETE point, time in state in watch-time units. -/
  bins : List Nat
  minV : Nat
  maxV : Nat
  /-- Source times of the minimum and maximum, plus one; 0: none yet. -/
  tMin : Nat
  tMax : Nat
  /-- DISCRETE: the present state and its start time (R352). -/
  dState : Nat
  dStart : Nat
  deriving DecidableEq, Repr

/-- The Ledger: tallies, rate limiting, histograms, durations, buffers, trip ledger (R327 to R360). -/
structure Ldg where
  tally : Tab Tally
  /-- Thousandths of tokens missing from a code's full bucket (R344). -/
  spent : Tab Nat
  /-- Watch-time ms tick at which all buckets were last credited. -/
  credited : Nat
  /-- Occurrences of a code not recorded since its previous EVENT record (R342). -/
  skipRec : Tab Nat
  /-- The 4 MiB buffer, oldest first; records handed to drives and not yet written, with the number of their flush. -/
  buf : List LRec
  writing : List (Nat × LRec)
  /-- Number of the next flush, and slots written to the Ledger stream so far (R345). -/
  flushNo : Nat
  pos : Nat
  /-- The Lightship part's buffer (R356), the spool (R355), the power-fail area (R357). -/
  lbuf : List LRec
  spool : List LRec
  pfArea : List LRec
  pfValid : Bool
  /-- Position of the next slot in the spool stream and in the trip ledger's stream (R345). -/
  spoolPos : Nat
  tripPos : Nat
  /-- A FLUSH event asked for a flush; watch time of the last such flush, plus one (R354). -/
  flushDue : Bool
  lastFlush : Nat
  /-- In-flight LDG_FLUSH commands waiting for the slots of a flush to be written: flush, ring, tag. -/
  flushCmds : List (Nat × Nat × Nat)
  /-- Bin-edge sets by number (R332) and open accumulators by point × 3 + tier (R331). A change takes effect at the next
  boundary of each tier (R335): up to that watch time `binOld` holds a set's former contents by set × 3 + tier, `setOld` a
  point's former set by point × 3 + tier. -/
  binSets : Tab (Rec 64)
  binOld : Tab (Option (Rec 64 × Nat))
  setOld : Tab (Option (Nat × Nat))
  acc : Tab (Option Acc1)
  /-- Start, plus one, of the interval of a tier whose boundary was served last. -/
  tierAt : Tab Nat
  /-- Activation time of a condition, plus one (R350). -/
  actTime : Tab Nat
  /-- The Ledger view (R348): function, address, pinned points. -/
  view : Option (Nat × Nat × List Nat)
  /-- Generation of each live block and tally summary block, by slot in the view (R346). -/
  viewGen : Tab Nat
  /-- Watch-time ms at which a live block was last rewritten, plus one. -/
  viewAt : Tab Nat
  /-- Pinned points whose live block is still to be rewritten for an update (R346). -/
  viewDue : List Nat
  /-- The trip ledger (R359, R360): trigger kind, mask, tag, slot or sector, trigger time, records. -/
  tripKind : Nat
  tripMask : Nat
  tripTag : Nat
  tripSlot : Nat
  tripT : Nat
  tripRecs : List LRec
  /-- Instant of the last pass of the Lightship part (R356). -/
  passAt : Nat
  deriving DecidableEq, Repr

/-- A leg of a volume (R364). -/
structure Leg where
  ctrlr : Nat
  nsid : Nat
  slba : Nat
  /-- 1: lost (R363, R369). -/
  lost : Bool
  deriving DecidableEq, Repr

/-- What the historian keeps of a volume beside its HST_VOL words. -/
structure Vol where
  leg0 : Leg
  leg1 : Leg
  /-- The segment being filled, or the next to open; whether it has its header; whether its last slot ended the volume. -/
  seg : Nat
  segOpen : Bool
  closing : Bool
  /-- Watch time of opening, the segment's bytes so far, where the next slot goes, the end of the last slot, slots. -/
  tOpen : Nat
  body : Nat
  fill : Nat
  bodyEnd : Nat
  slots : Nat
  /-- T_FIRST and T_LAST of its records; lowest and highest SEQ of its CHANGE records. -/
  tFirst : Nat
  tLast : Nat
  seqFirst : Nat
  seqLast : Nat
  /-- Captures that write the volume (R369). -/
  capUse : Nat
  mounted : Bool
  /-- The leg being copied (R371), plus one; 0: none. -/
  syncLeg : Nat
  /-- R371: the next segment to copy, and the first one after the copy. -/
  syncNext : Nat
  syncEnd : Nat
  deriving DecidableEq, Repr

/-- What an NVMe command is for (R361, R366, R369, R371, HST_READ). -/
inductive NvKind where
  | write | flush | trailer | read | dealloc | copyRead | copyWrite | abort
  deriving DecidableEq, Repr

/-- R361: an admin command; the others go to the I/O queue pairs. -/
def NvKind.admin (k : NvKind) : Bool := k == .abort

/-- Commands of a leg that keep their order (log entry 11). -/
def NvKind.ordered (k : NvKind) : Bool := k != .read && k != .abort

/-- An NVMe command on a controller, the oldest of a leg outstanding and the others waiting their turn. -/
structure NvCmd where
  kind : NvKind
  ctrlr : Nat
  nsid : Nat
  vol : Nat
  leg : Nat
  seg : Nat
  /-- First block, number of blocks, and the bytes written. -/
  blk : Nat
  nblk : Nat
  data : Nat
  /-- The Ledger flush it belongs to, plus one; 0: none. -/
  flush : Nat
  /-- The host command it answers: ring, tag. -/
  ring : Nat
  tag : Nat
  /-- Instant of issue. -/
  t : Nat
  deriving DecidableEq, Repr

/-- The historian (R361 to R373). -/
structure Hst where
  vols : Tab (Option Vol)
  /-- NVMe commands not yet completed, oldest first. -/
  nv : List NvCmd
  /-- Controller numbers bound to serial numbers, in retained state (R362): number, serial. -/
  bound : List (Nat × Nat)
  /-- Blocks of a namespace by controller × 2^32 + NSID. -/
  nsBlocks : Tab Nat
  /-- Instants of failed commands of a controller (R363): controller, instant. -/
  failedAt : List (Nat × Nat)
  /-- WRITE_PTR in retained state, by volume. -/
  ptrs : Tab Nat
  /-- HST_VOL_ERASE commands waiting for their volume to open: volume, ring, tag. -/
  erases : List (Nat × Nat × Nat)
  /-- The running HST_REMOUNT command: volumes still to mount, volumes mounted, ring, tag. -/
  remount : Option (List Nat × Nat × Nat × Nat)
  deriving DecidableEq, Repr

/-- A point update on its way to its point (R61): index, VALUE, its complement and whether that is checked (R64), source
quality, source time, source node, and arrival; and what a dual-ring pair says of it (R460): 0 nothing, 1 the copies
agree, 2 they differ; 3: the waveform engine's own update (R209); 4: a loop's commit (R261); 5: a local input's (R40, R42). -/
structure Upd where
  idx : Nat
  v : Nat
  vn : Nat
  twin : Bool
  qual : Nat
  tSrc : Nat
  src : Nat
  tRx : Nat
  pair : Nat
  deriving DecidableEq, Repr

/-- A frame waiting at an egress port (R418): its leaf's source, the instant of ingress or hand-over, the ingress link's
delay in ps (R415); the DATA_IN entry it came from (ring plus one, tag); a copy whose FCS failed at its ingress (R412);
whether its coins are still to be freed. -/
structure QFr where
  f : Frame
  src : Nat
  tIn : Nat
  delay : Nat
  ring : Nat := 0
  tag : Nat := 0
  bad : Bool := false
  coin : Bool := true
  deriving DecidableEq, Repr

/-- The link side of a port (R387 to R391, R406 to R411). -/
structure PortQ where
  /-- Frames waiting, in order of arrival. -/
  queue : List QFr
  /-- R409: unacknowledged retried frames with their LSEQ; those to be replayed; the next LSEQ. -/
  unack : List (Nat × QFr)
  replay : List (Nat × QFr)
  lseq : Nat
  /-- R411: replays since the last progress, and the instant of the last progress or replay. -/
  replays : Nat
  progress : Nat
  /-- R410: the expected LSEQ, and whether a NAK for it is outstanding. -/
  expect : Nat
  nak : Bool
  /-- R406, R407: by class, coins taken, the peer's ALLOT, the peer's COIN_CUM, our COIN_CUM. -/
  taken : List Nat
  allot : List Nat
  cumIn : List Nat
  cumOut : List Nat
  /-- The end of the transmission under way. -/
  busy : Nat
  /-- The arbitration rounds of levels 0 to 3 (R417, R419). -/
  arb : List (List AClass)
  /-- R263, R264: loop frames held behind another: start and end of the departure, the frame. -/
  reserved : List (Nat × Nat × QFr)
  /-- R428: DSEQ, the DREQ not yet answered (DSEQ, t1), the last 16 delays in ps. -/
  dseq : Nat
  asked : List (Nat × Nat)
  delays : List Int
  /-- Instants: entry of INIT or its last valid INIT; the last CREDIT, DREQ and INIT sent; the last valid link word. -/
  initAt : Nat
  creditAt : Nat
  dreqAt : Nat
  initSent : Nat
  heard : Nat
  /-- What left the port last: a frame with its LSEQ, and whether it was stomped (R412); a link word (R388). -/
  txFrame : Option (Nat × Frame)
  txBad : Bool
  txWord : Option Nat
  deriving DecidableEq, Repr

/-- A port that has not been UP. -/
def PortQ.idle : PortQ :=
  { queue := [], unack := [], replay := [], lseq := 0, replays := 0, progress := 0, expect := 0, nak := false
    taken := List.replicate 8 0, allot := List.replicate 8 0, cumIn := List.replicate 8 0, cumOut := List.replicate 8 0
    busy := 0, arb := [[], [], [], []], reserved := [], dseq := 0, asked := [], delays := [], initAt := 0, creditAt := 0
    dreqAt := 0, initSent := 0, heard := 0, txFrame := none, txBad := false, txWord := none }

/-- R455: a sequence window: highest SEQ seen and the SEQ values delivered within it. -/
structure SeqWin where
  node : Nat
  cls : Nat
  high : Nat
  seen : List Nat
  deriving DecidableEq, Repr

/-- R458: a SEQ whose dual-ring copies are not both in. -/
structure Pair where
  f : Frame
  /-- Instant of arrival of the copy held or delivered, and ingress delay. -/
  at_ : Nat
  port : Nat
  /-- 0: clockwise copy delivered; 1: counter-clockwise copy waits; 2: counter-clockwise copy delivered. -/
  st : Nat
  deriving DecidableEq, Repr

/-- R465: what a standby keeps of a home beside its FAB_SHADOW register. -/
structure Shadow where
  contact : Nat
  entered : Nat
  /-- FINAL_SEQ waited for, and the SEQ of the last REPL_STATE stored, each plus one; 0: none. -/
  final : Nat
  stored : Nat
  /-- RESYNC_REQ received and not yet finished, and the instant at which it may finish; RESYNC_DONE sent. -/
  resync : Bool
  resyncAt : Nat
  resyncDone : Bool
  /-- Updates held (R465, R466). -/
  held : List Upd
  /-- The FAB_HANDBACK command waiting: ring plus one, tag. -/
  ring : Nat
  tag : Nat
  deriving DecidableEq, Repr

/-- R471: a subscription at the home: condition point and slot, the subscriber's node and mirror entry, the instant of
the last frame sent for it. -/
structure Sub where
  idx : Nat
  slot : Nat
  node : Nat
  entry : Nat
  sent : Nat
  deriving DecidableEq, Repr

/-- A frame that the module originates, before it is numbered: leaf source (R418), class, PTYPE, destination (none: broadcast), payload
and its length; the one port that it goes out of, where it is not routed. `ring`, `tag` name a DATA_IN entry. -/
structure Orig where
  src : Nat
  cls : Nat
  ptype : Nat
  dst : Option Nat
  twin : Bool := false
  payload : Nat
  len : Nat
  ring : Nat := 0
  tag : Nat := 0
  out : Option Nat := none
  deriving DecidableEq, Repr

/-- The fabric. -/
structure Fab where
  ports : Tab PortQ
  /-- R444: the active and the shadow route bank. -/
  active : Tab (Rec 8)
  shadow : Tab (Rec 8)
  /-- R468: aliases installed: home, answering node. -/
  alias_ : List (Nat × Nat)
  /-- Next SEQ by class (R392). -/
  seqOut : Tab Nat
  /-- Sequence windows, most recently used first (R455), and dual-ring pairs (R458). -/
  wins : List SeqWin
  pairs : List Pair
  /-- R447: retried frames that found no UP egress, and the instant at which their wait ends. -/
  waiting : List (QFr × Nat)
  /-- R478: instant at which a held quench lapses, by FAB_QUENCH_STAT number. -/
  quenchEnd : Tab Nat
  /-- R465 by FAB_SHADOW number. -/
  shadows : Tab (Option Shadow)
  /-- R467 at the home: instant of entry of the state, FINAL_SEQ waited for plus one, updates held, instant of the first
  Apast port UP plus one, whether the choice of R467 at start has been made, the last heartbeat sent. -/
  homeAt : Nat
  homeFinal : Nat
  homeHeld : List Upd
  firstUp : Nat
  homeSet : Bool
  beatAt : Nat
  /-- SEQ of the last REPL_STATE received from the standby, plus one. -/
  homeStored : Nat
  /-- R463: REPL_STATE entries waiting (destination, bytes, length), the instant of the first; SEQ of the last frame sent. -/
  repl : List (Nat × Nat × Nat)
  replAt : Nat
  replSeq : Nat
  /-- R474: epochs announced and not yet switched: epoch, T_SWITCH, issuer. -/
  epochs : List (Nat × Nat × Nat)
  /-- R471. -/
  subs : List Sub
  /-- Watch time of the last event of a kind raised at most once per second, plus one: 0 ROUTE_MISS, 1 HOP_DROP, 2 LATE. -/
  lastEv : Tab Nat
  /-- R427 to R431: instant of the last TIME_SYNC on TIME_UP and on TIME_UP2, the next SYNC_SEQ, the instant of the last
  one sent, consecutive offsets below 50 ns, the rate trim in force (a free value, log entry 17). -/
  syncAt : Nat
  sync2At : Nat
  syncSeq : Nat
  syncSent : Nat
  good : Nat
  /-- R752: instant of the last comparison of a root with the RTC. -/
  rtcAt : Nat
  /-- R426: instants of the last Announce and Sync sent, by port, and their sequence number; the last Ethernet frame sent of
  each kind, plus one, by port × 8 + kind: 1 ARP reply, 2 Neighbour Advertisement (the address), 3 Announce (clockClass), 4 Sync,
  5 Follow_Up (the time it carries), 6 Delay_Resp (likewise), 7 Delay_Req (its sequence number). -/
  announceAt : Tab Nat
  ptpSyncAt : Tab Nat
  ptpSeq : Nat
  ethSent : Tab Nat
  /-- R426, the slave port: the master selected (source, rank, instant of its last Announce); the last Sync (sequence, T1 as watch
  time, T2) awaiting its Follow_Up; T2 − T1 of the last Sync; the Delay_Req outstanding (sequence, T3); the path delay measured. -/
  ptpBest : Option (Nat × Nat × Nat)
  ptpSync : Option (Nat × Nat)
  ptpDiff : Int
  ptpReq : Option (Nat × Nat)
  ptpDelay : Option Int
  /-- R408: frames whose blocks wait for coins of the internal pool. -/
  poolWait : List Orig
  /-- R426, R429: ROOT_SRC of the last TIME_SYNC taken. -/
  rootSrc : Nat
  deriving DecidableEq, Repr

/-- A run of contiguous samples in a channel's ring (R186): watch time of the first, how many, the samples as received
(two or four bytes each, the first in the lowest bytes), whether it fills a gap (R193), source quality, whether the samples
are scaled already (R194). -/
structure Seg where
  t : Nat
  n : Nat
  data : Nat
  gap : Bool
  qual : Nat
  scaled : Bool
  deriving DecidableEq, Repr

/-- A waveform block on its way to its channel (R191, R194). `seq`: none where the engine counts itself. -/
structure CBlk where
  ch : Nat
  fmt : Nat
  discont : Bool
  n : Nat
  seq : Option Nat
  t : Nat
  rate : Nat
  qual : Nat
  src : Nat
  data : Nat
  scaled : Bool
  deriving DecidableEq, Repr

/-- What the engine keeps of a channel beside its descriptor. -/
structure ChX where
  /-- The ring, oldest first, and the number (since the timeline restarted) of its first sample. -/
  ring : List Seg
  first : Nat
  /-- The timeline runs. -/
  started : Bool
  /-- Sample number at which the frame in progress starts. -/
  fStart : Nat
  /-- Order domain: resampling instants of the frame in progress, each as four times its watch time, plus two where the speed
  is above MAX_RPM, plus one where it has been since the instant before; last pulse or update (its time plus one, its speed as
  binary32); revolutions since the last resampling instant in units of 2^-64, and whether the speed has been above since. -/
  inst : List Nat
  lastT : Nat
  lastV : Nat
  angle : Nat
  overMax : Bool
  /-- Watch time of the last gap event, plus one (R193). -/
  gapAt : Nat
  deriving DecidableEq, Repr

def ChX.zero : ChX :=
  { ring := [], first := 0, started := false, fStart := 0, inst := [], lastT := 0, lastV := 0, angle := 0, overMax := false, gapAt := 0 }

/-- A complete frame (R200): channel, the scaled time samples that span it, their first time, the watch time of the last;
of an order frame the resampling instants, the samples that interpolation needs and the first time of these; source
quality. -/
structure CFrame where
  ch : Nat
  xs : List Nat
  t0 : Nat
  tLast : Nat
  inst : List Nat
  ws : List Nat
  tw : Nat
  qual : Nat
  deriving DecidableEq, Repr

/-- A running capture (R218 to R220, R374). -/
structure Capt where
  def_ : Nat
  tTrig : Nat
  tBegin : Nat
  /-- End of the window, none until the stop command. -/
  tEnd : Option Nat
  short : Bool
  /-- Gaps: start and samples. -/
  gaps : List (Nat × Nat)
  tLast : Nat
  /-- By channel the number of its next sample to copy (R219); samples were overwritten before copy. -/
  pos : Tab Nat
  lost : Bool
  deriving DecidableEq, Repr

/-- The waveform engine. -/
structure Cmw where
  /-- Channel descriptors (R188), band entries (R205) by channel × 64 + number, speed references (R197), feature bindings
  (R207), capture definitions (R217), baseline sets (R211). -/
  chan : Tab (Rec 64)
  band : Tab (Rec 16)
  spd : Tab (Rec 16)
  bnd : Tab (Rec 16)
  defs : Tab (Rec 256)
  base : Tab (Rec 4096)
  /-- Bins that have become ready once, by set × 128 + bin (R213). -/
  binSeen : Tab Nat
  ext : Tab ChX
  /-- Blocks that have arrived, frames that are complete, captures that run. -/
  inq : List CBlk
  frames : List CFrame
  caps : List Capt
  /-- Last tach pulse of a digital input, plus one (R622). -/
  pulseAt : Tab Nat
  /-- Position of the next slot in a volume's capture stream (R345). -/
  capPos : Tab Nat
  /-- Checkpointed baseline sets (R215) and the watch time of the last checkpoint. -/
  ckpt : Tab (Rec 4096)
  ckptAt : Nat
  deriving DecidableEq, Repr

/-- What a composition draws of one tile (R649): number, rectangle, fill and frame colour, frame width, label and its
colour, hatching; and the tile's condition and LIT. -/
structure TileDraw where
  tile : Nat
  x : Nat
  y : Nat
  w : Nat
  h : Nat
  fill : Nat
  frame : Nat
  thick : Nat
  label : Nat
  ink : Nat
  hatch : Bool
  cond : Nat
  lit : Bool
  deriving DecidableEq, Repr

/-- The Lantern. -/
structure Ltn where
  /-- Lines of the two frame buffers (R640), 3 bits a pixel from bit 0. -/
  fb0 : Tab Nat
  fb1 : Tab Nat
  /-- Labels of tiles (R562). -/
  labels : Tab Nat
  /-- The composition under way (R650), and whether inputs have arrived since it started. -/
  drawing : Option (List TileDraw)
  again : Bool
  /-- A swap is requested (R643), and the tiles of the frame that it will show. -/
  swap : Bool
  marks : List TileDraw
  /-- Next line of the sweep, dirty lines, whether the frame check of this sweep is done (R642, R644). -/
  line : Nat
  dirty : List Nat
  checked : Bool
  /-- R645: row taken last, plus one, and sweeps since. -/
  recRow : Nat
  recSweeps : Nat
  /-- The retained copy: lines and CRC (R654); the copy to be written and the instant of its LTN_SHOW, plus one. -/
  copy : Option (Tab Nat × Nat)
  copyDue : Nat
  /-- Retained tile conditions and LIT (R654): condition + 8 × LIT + 16 × colour, plus one. -/
  retTiles : Tab Nat
  /-- States that the Keeper gives (R660): SSTATE plus one, by sector; and whether tiles show retained conditions. -/
  keeperSt : Tab Nat
  retained : Bool
  /-- Instants plus one: start of the power-on and off sequences, of the pump's restart; the last phase edge (watch ms). -/
  startAt : Nat
  stopAt : Nat
  biasAt : Nat
  phaseAt : Nat
  /-- Front light level, VDD, VDDH and white lines still to send (R655 to R657). -/
  light : Nat
  vdd : Bool
  vddh : Bool
  /-- Band of R658 in force. -/
  tempBand : Nat
  /-- Starts so far, for EV708. -/
  starts : Nat
  /-- The geometry applied (R666). -/
  width : Nat
  height : Nat
  /-- The bits of the line sent last, in the order in which they go out on SI, from bit 0 (R641). -/
  sent : Nat
  deriving DecidableEq, Repr

/-- A target of an active stage (R309): stage, kind (0 DUTY, 1 BACKUP, 2 GROUPS, 3 PUB), engineer or station plus one; 0
where the slot field is disabled. -/
structure BTgt where
  stage : Nat
  kind : Nat
  who : Nat
  deriving DecidableEq, Repr

/-- A call sequence (R312). -/
structure BSeq where
  key : Nat
  tmpl : Nat
  /-- Values of the template at the start (R326): rank, last stage, attend time. -/
  rank : Nat
  last : Nat
  attend : Nat
  alarms : Nat
  /-- Order of the first request, and of the last start of running. -/
  req : Nat
  run : Nat
  tStart : Nat
  pend : Bool
  /-- PENDING at STAGE 0 with its timer not yet started. -/
  unstarted : Bool
  stage : Nat
  att : Bool
  /-- Clock at which the timer expires; while PENDING the time that remained. -/
  due : Nat
  tgts : List BTgt
  relays : Nat
  /-- DURATION_S of the present stage as read at its start. -/
  dur : Nat
  /-- Fallback relays by stage. -/
  fb : List (Nat × Nat)
  deriving DecidableEq, Repr

/-- A call as shown at a station (R405): station, key, the last BCN_CALL payload, the instant it was last sent, ENDED
frames still to send. -/
structure BCall where
  station : Nat
  key : Nat
  payload : Nat
  sent : Nat
  left : Option Nat
  deriving DecidableEq, Repr

/-- The Beacon. -/
structure Bcn where
  seqs : List BSeq
  nextReq : Nat
  calls : List BCall
  /-- Instant of the last status frame of a station, plus one; the EVT_SEQ values applied (R405), the latest first. -/
  heard : Tab Nat
  evtSeq : Tab (List Nat)
  /-- Clock at which a dead-man unit's timer expires (R318). -/
  dmDue : Tab Nat
  /-- An overflow episode runs (R316). -/
  ovf : Bool
  deriving DecidableEq, Repr

/-- R292: the parameters of a tuning run, with CFG_GEN and the period at its start and the watch time of the commit of
sample 0 (R296). -/
structure TuneRun where
  sig : Nat
  inj : Nat
  prbsN : Nat
  holdP : Nat
  amp : Nat
  len : Nat
  pre : Nat
  f0 : Nat
  f1 : Nat
  gen : Nat
  period : Nat
  t0 : Nat
  deriving DecidableEq, Repr

/-- What a loop command brings to the evaluation that applies it (R237, R557). -/
inductive LAct where
  /-- A configuration half, with all that the module derives (R239 to R242). -/
  | config (half : Rec 256)
  | sup (r : Rec 64)
  /-- A mode, and q(v) where MAN comes with a value. -/
  | mode (m : Nat) (man : Option Nat)
  | manOut (q : Nat)
  | setpoint (v : Nat)
  | comp (t : Rec 512)
  | supReset
  | tuneStart (r : TuneRun)
  | tuneStop
  | delete
  deriving DecidableEq, Repr

/-- A loop command that has completed: the instant from which a sample applies it. -/
structure LCmd where
  ready : Nat
  act : LAct
  deriving DecidableEq, Repr

/-- What a loop processor keeps of a loop beside its records. -/
structure LoopX where
  /-- Commands that wait, in order of arrival; how many of the first take effect at the planned evaluation by R238. -/
  cmds : List LCmd
  forced : Nat
  /-- Nominal sample cycle of the next evaluation, and nominal commit cycle of the last, each plus one; 0: none (R234). -/
  next : Nat
  last : Nat
  /-- U_LAST before the last commit; last usable value of SP_IDX (R243). -/
  uPrev : Nat
  spUse : Nat
  /-- The model is to be initialised (R276); rises found at step 6 and not yet reported (R284, R285). -/
  init : Bool
  report : Nat
  /-- The configuration half, or the supervision record, is lost (R265, R271). -/
  lost : Bool
  supLost : Bool
  /-- The current or last tuning run. -/
  tune : Option TuneRun
  deriving DecidableEq, Repr

def LoopX.zero : LoopX :=
  { cmds := [], forced := 0, next := 0, last := 0, uPrev := 0, spUse := 0, init := false, report := 0, lost := false, supLost := false
    tune := none }

/-- The control engine. -/
structure Ctl where
  /-- Loop records (R226), compensation tables, supervision records (R271), output histories (R270) by loop. -/
  rec_ : Tab (Rec 512)
  comp : Tab (Rec 512)
  sup : Tab (Rec 64)
  hist : Tab (Rec 512)
  ext : Tab LoopX
  /-- The cycle at which a loop processor last started an evaluation, plus one (R235). -/
  started : Tab Nat
  /-- Samples of tuning runs by loop × 2^16 + number (R296). -/
  smp : Tab (Rec 16)
  /-- The loop that owns an OUTPUT point, plus one (R232). -/
  owner : Tab Nat
  /-- Instant of a loop's last scrub, plus one (R265, R271). -/
  scrubAt : Tab Nat
  deriving DecidableEq, Repr

/-- Time: the instant of the latest command since power-on, watch time and Lightship watch time (R16, R675). -/
structure Tim where
  now : Nat
  /-- Watch time at instant `wtAt`, and its rate in units of 2^-32 (R431: the trim of the servo is a free value, log entry 17). -/
  wtBase : Nat
  wtAt : Nat
  rate : Nat
  lwtBase : Nat
  lwtAt : Nat
  deriving DecidableEq, Repr

/-- The backup domain. -/
structure Bkp where
  /-- R738: the RTC count in ticks (SEC × 32,768 + SUB) at instant `rtcAt`, and the accumulator of R739. -/
  rtc : Nat
  rtcAt : Nat
  acc : Int
  /-- The tick at which a capture, a shift, a set takes effect (R740, R742, R743). -/
  capTick : Nat
  shiftTick : Nat
  setTick : Nat
  /-- R755: the SEC from which ALARM_SEC is awaited. -/
  alarmFrom : Nat
  /-- R735: the next VBAK measurement; consecutive ones below 2.2 V and at or above 2.3 V. -/
  vbakNext : Nat
  vbakLow : Nat
  vbakHigh : Nat
  /-- R748: the trim window under way is interrupted; as a watch-time window it has ceased to qualify (R747). -/
  winBad : Bool
  wtBad : Bool
  /-- R745: the reference of that window is watch time, not the mains. -/
  winWatch : Bool
  /-- R758: events waiting for the Lightship domain: code, OBJ, arguments, the stamp as watch time plus one. -/
  latched : List (Nat × Nat × List Nat × Nat)
  /-- SYS_PWRON: instant at which the pulse ends and the holdoff ends, each plus one; 0: none (R754). -/
  pulseEnd : Nat
  holdEnd : Nat
  deriving DecidableEq, Repr

/-- A record of the Keeper log (R712). -/
structure KRec where
  recno : Nat
  code : Nat
  pinned : Bool
  start : Nat
  t : Nat
  payload : Nat
  deriving DecidableEq, Repr

/-- A bank of the NOR flash (R697, R715, R716): the bytes written since its erase, and, while it holds a FIRMWARE image that
verified, that it is usable, with the image's VERSION and SVN. -/
structure Bank where
  data : Nat
  usable : Bool
  version : Nat
  svn : Nat
  deriving DecidableEq, Repr

/-- The boot record (R718); RECOVERY_RELAYS. -/
structure Boot where
  active : Nat
  prev : Nat
  trial : Bool
  relays : Nat
  deriving DecidableEq, Repr

/-- A bank without an image; the bank and boot record that a module leaves its manufacture with (log entry 49). -/
def Bank.none_ : Bank := { data := 0, usable := false, version := 0, svn := 0 }
def Bank.first : Bank := { data := 0, usable := true, version := 1, svn := 0 }
def Boot.first : Boot := { active := 0, prev := 0, trial := false, relays := 128 }

/-- An open update (R718): source, bank, LEN, bytes written, instant of its last UPDATE_DATA. -/
structure Update where
  src : Nat
  bank : Nat
  len : Nat
  done : Nat
  at_ : Nat
  deriving DecidableEq, Repr

/-- A session on a management port (0, 1) or the debug port (2) (R722, R724): its connection, the nonce sent, whether a credential has been
accepted, its world and NOT_AFTER, the instant of the last message. -/
structure Session where
  conn : Nat
  nonce : Nat
  auth : Bool
  secure : Bool
  notAfter : Nat
  at_ : Nat
  deriving DecidableEq, Repr

/-- What a management port sent last (R722): the message's header bytes 0x04 to 0x13 as STATUS, RESULT words, and its data. -/
structure Sent where
  op : Nat
  st : Nat
  res0 : Nat
  res1 : Nat
  len : Nat
  data : Nat
  deriving DecidableEq, Repr

/-- A program or erase in service while the Keeper is halted (R565, R721): the source of its command, the command's ring and
tag, or the management port; subop, bank, OFFSET or LEN, bytes and data. -/
structure NorOp where
  src : Nat
  ring : Nat
  tag : Nat
  sub : Nat
  bank : Nat
  arg : Nat
  n : Nat
  data : Nat
  deriving DecidableEq, Repr

/-- The Keeper. -/
structure Kpr where
  /-- Keeper log records not yet written (R713), oldest first: code, watch time, payload bytes. -/
  logPend : List (Nat × Nat × Nat)
  /-- The Keeper log in the retained store, oldest first; records pinned by this start. -/
  log : List KRec
  pins : Nat
  /-- Keeper start count (R701). -/
  starts : Nat
  bank0 : Bank
  bank1 : Bank
  boot : Option Boot
  /-- R702: the rollback counter of the OTP fuses. -/
  svn : Nat
  /-- The mask ROM has chosen (R719) since the last reset; the event owed after the restart (R698, R700): code, argument. -/
  chosen : Bool
  owed : Option (Nat × Nat)
  /-- Instant at which the Keeper reported ready. -/
  readyAt : Nat
  update : Option Update
  nor : Option NorOp
  /-- Sessions, failed authentications and the instant up to which a port refuses, by port (R722). -/
  sessions : Tab (Option Session)
  failedAuth : List (Nat × Nat)
  refuse : Tab Nat
  sent : Tab (Option Sent)
  /-- R706: instant of the last EV784 of a sensor, plus one. -/
  sensAt : Tab Nat
  /-- R710: instant of a fan's entry into its state or of its attempt. -/
  fanAt : Tab Nat
  /-- R710: the drive held in TACH_LOST. -/
  fanHeld : Tab Nat
  /-- R727: trace packets written whose contents the manual gives: code and fields. -/
  trace : List (Nat × Nat × Nat)
  /-- R831: the sounder rail is folded back; the instant since which it is, plus one. -/
  foldAt : Nat
  deriving DecidableEq, Repr

/-- What a tile keeps of a point beside its record (R29 to R72). -/
structure PtX where
  /-- Home node of a record held for another node (R462); 0: this node is the home. -/
  home : Nat
  /-- R60: watch time of the point's start plus one, until its first update; then 0. -/
  start : Nat
  /-- R43: a COUNTER point has an earlier count. -/
  counted : Bool
  /-- The point's own STALE, FORCED and SIMULATED bits, at their places in the quality byte. -/
  own : Nat
  /-- Quality bits that the source of the last update, or the operands of the last result, give (R48, R54). -/
  srcQ : Nat
  /-- Causes that hold SENSOR_FAULT: 1 the value (R41, R43), 2 the form (R47), 4 readback (R51). -/
  faults : Nat
  /-- Causes that hold DISPUTED: 1 the vote set (R68, R69), 2 a dual-ring pair (R460). -/
  disputed : Nat
  /-- Causes that hold UNCONFIRMED beside the conditions: 1 lost configuration (R37), 2 RETAIN_DISAGREE (R772). -/
  unconf : Nat
  /-- R96: evaluated quantity and source time of the latest applied value and of the one before; how many there are. -/
  x1 : Nat
  t1 : Nat
  x0 : Nat
  t0 : Nat
  samples : Nat
  /-- R51: consecutive ticks outside and within the band. -/
  rbBad : Nat
  rbGood : Nat
  /-- R68, R70, R69 of a vote point: the single outlier plus one, one-member operation, the two usable members. -/
  outlier : Nat
  degraded : Bool
  pair : Option (Nat × Nat)
  /-- R47: form 20 has an A of an earlier tick (in AUX). -/
  hasPrev : Bool
  deriving DecidableEq, Repr

def PtX.zero : PtX :=
  { home := 0, start := 0, counted := false, own := 0, srcQ := 0, faults := 0, disputed := 0, unconf := 0, x1 := 0, t1 := 0, x0 := 0
    t0 := 0, samples := 0, rbBad := 0, rbGood := 0, outlier := 0, degraded := false, pair := none, hasPrev := false }

/-- The point table and its tiles. -/
structure Pts where
  /-- Point records (R32) by index; an unlisted index holds the factory record. -/
  rec_ : Tab (Rec 128)
  ext : Tab PtX
  /-- Tile input queues (R31) by tile, at most 4,096 updates each; updates held before a full queue, at their ingress port or in
  the block that made them. -/
  queues : Tab (List Upd)
  waiting : Tab (List Upd)
  /-- R59: number of the last millisecond tick done, plus one. -/
  scanAt : Nat
  /-- Instant since which some tile queue is full, plus one (R31), and coins withheld from ingress ports for it: port, coins,
  the full tiles that the frame feeds. -/
  fullAt : Nat
  owed : List (Nat × Nat × List Nat)
  /-- Instant of a point's last scrub, plus one (R37). -/
  scrubAt : Tab Nat
  deriving DecidableEq, Repr

/-- A change on its way to the sector stage (R121): of a condition, or of a mirror entry, whose number stands in `cond`. -/
structure Chg where
  mirror : Bool
  idx : Nat
  tag : Nat
  slot : Nat
  cond : Nat
  old : Nat
  new : Nat
  base : Nat
  active : Bool
  prio : Nat
  qual : Nat
  fleet : Bool
  seq : Nat
  t : Nat
  deriving DecidableEq, Repr

/-- Conditions and their timers. -/
structure Alm where
  /-- Condition records (R89) and extension records (R92) by condition index. -/
  cond : Tab (Rec 64)
  ext : Tab (Rec 16)
  /-- The point that owns a condition record, plus one. -/
  owner : Tab Nat
  /-- Delay timers (R105, R107, R108) by owner number (a cause entry's is 2^26 and its number): due watch time plus one,
  and the watch time of the tick that serves it. -/
  due : Tab (Nat × Nat)
  /-- R108: the coarse spill wheel: link entries by owner number and slot heads by slot. -/
  wlink : Tab (Rec 8)
  whead : Tab Nat
  /-- Fine timer numbers in use. -/
  ids : List Nat
  /-- Timers spilled so far, for the status SPILLED (R109). -/
  spills : Nat
  /-- The next sequence number (R17, R119). -/
  seq : Nat
  /-- R113, R166: evaluation tick (ms) and sequence number of a condition's last activation, each plus one. -/
  actTick : Tab Nat
  actSeq : Tab Nat
  /-- R96: 1 where the next update yields no rate, 2 where the last one yielded none. -/
  noRate : Tab Nat
  /-- R124: 1 where the first applied value is awaited with retained state usable, 2 where it is not usable. -/
  firstVal : Tab Nat
  /-- R93: odd where the configuration is lost and the condition is not evaluated until it is rewritten; R94: 2 more while the
  update is applied at whose read the state was lost. -/
  dead : Tab Nat
  /-- R117: change time of the shelve command that last set SHELVE_S, plus one. -/
  shelvedAt : Tab Nat
  /-- R463: 1 where a condition changed since its point's last REPL_STATE entry. -/
  changed : Tab Nat
  /-- Seconds and minutes of watch time swept, plus one, by tile (R117, R129). -/
  secAt : Tab Nat
  minAt : Tab Nat
  deriving DecidableEq, Repr

/-- What the sector stage counts of a member (R149): displayed state, priority, ACTIVE, and its sectors. -/
structure Member where
  state : Nat
  prio : Nat
  active : Bool
  sects : List Nat
  deriving DecidableEq, Repr

/-- R173, R182: a flood of a watch: the change time that began it, its unsaturated counts, and, once it has ended, the
end time and the members still to be released. -/
structure Flood where
  watch : Nat
  start : Nat
  passed : Nat
  med : Nat
  low : Nat
  released : Nat
  ended : Option Nat
  members : List Nat
  deriving DecidableEq, Repr

/-- The sector stage. -/
structure Sec where
  /-- Input queue (R176), and the suppression inputs on their way to the tiles (R164): condition, on, the first sequence
  number later than the change that started the fan-out (R166). -/
  queue : List Chg
  supIn : List (Nat × Bool × Nat)
  /-- Sector records (R148), link words (R145), cause entries (R158), mirror entries (R167), edges (R159). -/
  sect : Tab (Rec 128)
  link : Tab (Rec 4)
  cause : Tab (Rec 32)
  mir : Tab (Rec 32)
  edge : Tab (Rec 4)
  /-- Members as counted, by condition index, or 2^26 and the mirror entry's number. -/
  shown : Tab (Option Member)
  /-- Flood rings (R170): change times, the latest first, by watch. -/
  rings : Tab (List Nat)
  floods : List Flood
  /-- R183: values written while a watch is in flood wait for the recount: WCFG and WWIN in force until then, by watch. -/
  inForce : Tab (Option (Nat × Nat × Nat))
  /-- R152: highest sequence number of a local change taken in. -/
  maxSeq : Nat
  /-- R471: the standby at which a mirror entry has subscribed as well. -/
  mirStand : Tab Nat
  /-- R168: instant at which a mirror entry set LOST, plus one; 0 once its hold has ended. -/
  lostAt : Tab Nat
  /-- R553: acknowledgements waiting for the home: entry, command ring, tag, instant. -/
  acks : List (Nat × Nat × Nat × Nat)
  /-- Watch seconds recounted (R171) and the instant of the last audit (R177), each plus one. -/
  recountAt : Nat
  auditAt : Nat
  /-- Instant since which the queue is full, plus one (R176). -/
  fullAt : Nat
  deriving DecidableEq, Repr

/-- A raise/lower pulse pair (R629 to R631). Times in units of 10 us where they are spans. -/
structure Pulse where
  /-- 0: none, 1: raise, 2: lower; `on` once it has started. -/
  dir : Nat
  on : Bool
  start : Nat
  stop : Nat
  len : Nat
  /-- Instants at which the last raise and the last lower pulse ended, plus one. -/
  endR : Nat
  endL : Nat
  carR : Nat
  carL : Nat
  carryAt : Nat
  /-- f of the previous update as an exact ratio. -/
  fPrev : Option (Int × Nat)
  deriving DecidableEq, Repr

def Pulse.none_ : Pulse :=
  { dir := 0, on := false, start := 0, stop := 0, len := 0, endR := 0, endL := 0, carR := 0, carL := 0, carryAt := 0
    fPrev := none }

/-- What a sensor input keeps beside its registers (R607, R610, R611). -/
structure AiX where
  /-- Conversions since the last tick: the sum of their native values in units of 2^-149, their number, the watch time at the
  end of the last, and the faults seen. -/
  sum : Int
  n : Nat
  tLast : Nat
  qual : Nat
  /-- Conversions still to be discarded while the filter settles, and after an over-voltage; the instant up to which a lead
  phase discards them. -/
  settle : Nat
  ovc : Nat
  until_ : Nat
  /-- The clamp conducts. -/
  clamp : Bool
  /-- Consecutive conversions at or above 0.99 and below 0.98 of full scale (R611). -/
  high : Nat
  low : Nat
  /-- Instant of the last lead phase, plus one. -/
  leadAt : Nat
  deriving DecidableEq, Repr

def AiX.none_ : AiX :=
  { sum := 0, n := 0, tLast := 0, qual := 0, settle := 0, ovc := 0, until_ := 0, clamp := false, high := 0, low := 0, leadAt := 0 }

/-- The HART FIFOs of a current output (R617): bytes with EOM in bit 8 (transmit), with PERR in bit 9 and EOM in bit 10
(receive); the instant at which the running transmission started, plus one, and its bytes already taken from the FIFO; the
instants of the last received byte and of the last carrier, plus one. -/
structure HartX where
  tx : List Nat
  rx : List Nat
  started : Nat
  sent : Nat
  rxAt : Nat
  carrierAt : Nat
  deriving DecidableEq, Repr

def HartX.none_ : HartX := { tx := [], rx := [], started := 0, sent := 0, rxAt := 0, carrierAt := 0 }

/-- Local field I/O. -/
structure Lio where
  ai : Tab AiX
  hart : Tab HartX
  /-- Instants, plus one, since which a digital output's read level differs from its commanded level; of its overload or
  last retry (R623); of the start of its demagnetisation (R632). -/
  diffAt : Tab Nat
  ovlAt : Tab Nat
  demagAt : Tab Nat
  /-- DAC code that a current output applies (R613) and switch state of a digital output. -/
  aoCode : Tab Nat
  sw : Tab Nat
  pulses : Tab Pulse
  /-- R633: members of shared-feed groups whose turn-on waits, in the order of their requests. -/
  grpWait : List Nat
  /-- R624: bits that a fault has changed in the complement of the next command word of an output (AO n: n, DIO n: 16 + n). -/
  cmdUpset : Tab Nat
  /-- Instant of the last event of a code and channel (R634), plus one, by code × 256 + channel. -/
  evAt : Tab Nat
  deriving DecidableEq, Repr

/-- The supplies, the domains and Lightship operation. -/
structure Pwr where
  /-- Instant of the power-fail warning whose sequence runs, and the step of R681 reached. -/
  failAt : Nat
  step : Nat
  /-- SYS_READY at that warning: what went on working until step 7 (R680, R780). -/
  was : Nat
  /-- Records that an unclean stop lost (R683). -/
  lost : Nat
  /-- The Keeper evaluates a local point (R686): set within its evaluation only. -/
  keeping : Bool
  /-- The Keeper's next sequence number (R682) and the changes that it has committed in this Lightship operation. -/
  seq : Nat
  changes : Nat
  /-- Local updates waiting for the Keeper, and the changes of the evaluation that runs. -/
  upds : List Upd
  out : List Chg
  /-- R301: the watches of the local points, and the conditions ACTIVE as the Keeper last passed them on. -/
  watches : Tab Nat
  act : Tab Nat
  /-- The last millisecond tick that the Keeper has served, plus one. -/
  scanAt : Nat
  /-- The Lightship failure warning has been given (R673). -/
  warned : Bool
  /-- R667, R676: the instant since which MAIN, or the main domain's clock, can have been good, plus one; 0: long enough. -/
  goodAt : Nat
  /-- The energy store charges (R670). -/
  charging : Bool
  /-- The main domain runs; the Lightship domain is powered. -/
  mainUp : Bool
  /-- Between the power-fail warning and the stop of the main domain (R531, R681). -/
  failing : Bool
  lshipUp : Bool
  deriving DecidableEq, Repr

/-- A copy of a checkpoint block (R773): write number, T_CKPT, LAST_SEQ, the points' runtime words 0x40 to 0x5F by point index,
and the condition entries by condition index: CSTATE, and SHELVE_S from bit 32. -/
structure Ckpt where
  bseq : Nat
  t : Nat
  lastSeq : Nat
  pts : Tab (Rec 32)
  conds : Tab Nat
  deriving DecidableEq, Repr

/-- A copy of the loop block (R774): write number, T_CKPT, MODE, MODE_N, SP and SP_N by loop. -/
structure LoopBlk where
  bseq : Nat
  t : Nat
  modes : Tab (Rec 16)
  deriving DecidableEq, Repr

/-- A retained image (R762, R763): what its header says, its sections, and the runtime areas of its slot. -/
structure Slot where
  gen : Nat
  t : Nat
  node : Nat
  hcrc : Nat
  /-- A section or the header is known not to be valid (R704, R764, R771). -/
  bad : Bool
  /-- Section REGS: restored register fields by BAR0 offset. -/
  regs : Tab Word
  /-- POINTS (with the home of a shadow) and CONDS (with the owner of a record). -/
  pts : Tab (Rec 64)
  homes : Tab Nat
  cond : Tab (Rec 64)
  condX : Tab (Rec 16)
  owner : Tab Nat
  /-- SECTORS, SUPPR and MIRRORS. -/
  sect : Tab (Rec 128)
  link : Tab (Rec 4)
  cause : Tab (Rec 32)
  edge : Tab (Rec 4)
  mir : Tab (Rec 32)
  /-- CMW. -/
  chan : Tab (Rec 64)
  band : Tab (Rec 16)
  spd : Tab (Rec 16)
  bnd : Tab (Rec 16)
  defs : Tab (Rec 256)
  base : Tab (Rec 64)
  /-- LOOPS. -/
  loops : Tab (Rec 256)
  comps : Tab (Rec 512)
  sups : Tab (Rec 64)
  modes : Tab (Rec 16)
  /-- ROUTES and TILES. -/
  routes : Tab (Rec 8)
  labels : Tab Nat
  /-- Checkpoint copies by 2 × block + copy, and loop block copies. -/
  blocks : Tab (Option Ckpt)
  loopBlk : Tab (Option LoopBlk)
  deriving DecidableEq, Repr

def Slot.empty : Slot :=
  { gen := 0, t := 0, node := 0, hcrc := 0, bad := false, regs := [], pts := [], homes := [], cond := [], condX := [], owner := []
    sect := [], link := [], cause := [], edge := [], mir := [], chan := [], band := [], spd := [], bnd := [], defs := [], base := []
    loops := [], comps := [], sups := [], modes := [], routes := [], labels := [], blocks := [], loopBlk := [] }

/-- A commit record (R765): KIND 0 IMAGE, 1 FACTORY, 2 BEGIN. -/
structure CRec where
  cseq : Nat
  kind : Nat
  slot : Nat
  issuer : Nat
  gen : Nat
  crc : Nat
  t : Nat
  deriving DecidableEq, Repr

/-- A commit that runs (R766): target slot, issuer, the image as at its dispatch, what was pending then (R768), and the
command that it answers: ring plus one, tag. -/
structure Commit where
  target : Nat
  issuer : Nat
  img : Slot
  host : Bool
  mod_ : Bool
  ring : Nat
  tag : Nat
  deriving DecidableEq, Repr

/-- The configuration and the retained runtime state in the retained store. -/
structure Img where
  slot0 : Option Slot
  slot1 : Option Slot
  recs : List CRec
  /-- The slot in use, plus one; 0: none (R766). -/
  use : Nat
  /-- R769, R782: the last choice: its slot plus one, SOURCE, RETAIN_DISAGREE; and the number after the last record it saw. -/
  chosen : Nat
  source : Nat
  disagree : Bool
  seen : Nat
  run : Option Commit
  /-- The sections of the choice are still to be applied (R771). -/
  asked : Bool
  /-- Instants: of the first host-made change after the last commit, plus one (R768); of the last commit. -/
  dirtyAt : Nat
  commitAt : Nat
  /-- Instants, plus one, of the last write of a checkpoint block and of the loop block (R774, R775). -/
  ckptAt : Tab Nat
  loopAt : Nat
  /-- The Lightship copies in the retained store (R685) and the watch time of their writing, plus one; Lightship watch time
  as saved (R673). -/
  copyPts : Tab (Rec 128)
  copyCond : Tab (Rec 64)
  copyX : Tab (Rec 16)
  copyOwner : Tab Nat
  /-- With the copies: the watches that take their annunciations (R301). -/
  copyWatch : Tab Nat
  copyAt : Nat
  lwtSaved : Nat
  /-- SEQ_MARK in force (R777). -/
  seqMark : Nat
  deriving DecidableEq, Repr

/-- The whole module. -/
structure State where
  tim : Tim
  /-- Register words by BAR0 offset; an unlisted word holds its factory value. -/
  regs : Tab Word
  /-- The complements of the words whose Restored column reads Twin (R590). -/
  regsN : Tab Word
  hif : Hif
  wld : Wld
  ldg : Ldg
  hst : Hst
  fab : Fab
  pts : Pts
  alm : Alm
  sec : Sec
  cmw : Cmw
  ctl : Ctl
  lio : Lio
  ltn : Ltn
  bcn : Bcn
  bkp : Bkp
  img : Img
  pwr : Pwr
  kpr : Kpr
  /-- The model's own: number of free values taken so far (log entry 3). -/
  free : Nat
  /-- Commands waiting, first in, first out. -/
  pending : List Instr
  deriving DecidableEq, Repr

/-! The machine right after reset: every register at its factory value, nothing listed in any table, queue or store,
no function ready (R765, R778; log entries 1, 2). -/

def TwSeq.reset : TwSeq :=
  { open_ := false, off := 0, v := 0, t := 0 }

def Tim.reset : Tim :=
  { now := 0, wtBase := 0, wtAt := 0, rate := 4294967296, lwtBase := 0, lwtAt := 0 }

def Hif.reset : Hif :=
  { rings := [], inflight := [], held := [], backlog := [], lostSeq := [], ownRef := false, mem := [], coalAt := [],
    outPend := [], posted := [], outBuf := [], msixEn := [], vecOpen := [], vecPend := [], vecSent := [],
    strayAt := 0, cache := [], fetchArb := [], deleting := [], readOut := [] }

def Wld.reset : Wld :=
  { sClassed := false, lkSecure := false, highest := 0, image := none, staged := [], seqPF0 := TwSeq.reset,
    seqPF1 := TwSeq.reset, seqKpr := TwSeq.reset, seqDbg := TwSeq.reset, deniedAt := [] }

def Ldg.reset : Ldg :=
  { tally := [], spent := [], credited := 0, skipRec := [], buf := [], writing := [], flushNo := 0, pos := 0,
    lbuf := [], spool := [], pfArea := [], pfValid := false, spoolPos := 0, tripPos := 0, flushDue := false,
    lastFlush := 0, flushCmds := [], binSets := [], binOld := [], setOld := [], acc := [], tierAt := [],
    actTime := [], view := none, viewGen := [], viewAt := [], viewDue := [], tripKind := 0, tripMask := 0, tripTag := 0,
    tripSlot := 0, tripT := 0, tripRecs := [], passAt := 0 }

def Hst.reset : Hst :=
  { vols := [], nv := [], bound := [], nsBlocks := [], failedAt := [], ptrs := [], erases := [],
    remount := none }

def Fab.reset : Fab :=
  { ports := [], active := [], shadow := [], alias_ := [], seqOut := [], wins := [], pairs := [], waiting := [],
    quenchEnd := [], shadows := [], homeAt := 0, homeFinal := 0, homeHeld := [], firstUp := 0, homeSet := false,
    beatAt := 0, homeStored := 0, repl := [], replAt := 0, replSeq := 0, epochs := [], subs := [], lastEv := [],
    syncAt := 0, sync2At := 0, syncSeq := 0, syncSent := 0, good := 0, rtcAt := 0, announceAt := [],
    ptpSyncAt := [], ptpSeq := 0, ethSent := [], ptpBest := none, ptpSync := none, ptpDiff := 0, ptpReq := none,
    ptpDelay := none, poolWait := [], rootSrc := 0 }

def Pts.reset : Pts :=
  { rec_ := [], ext := [], queues := [], waiting := [], scanAt := 0, fullAt := 0, owed := [], scrubAt := [] }

def Alm.reset : Alm :=
  { cond := [], ext := [], owner := [], due := [], wlink := [], whead := [], ids := [], spills := 0, seq := 0, actTick := [],
    actSeq := [], noRate := [], firstVal := [], dead := [], shelvedAt := [], changed := [], secAt := [],
    minAt := [] }

def Sec.reset : Sec :=
  { queue := [], supIn := [], sect := [], link := [], cause := [], mir := [], edge := [], shown := [],
    rings := [], floods := [], inForce := [], maxSeq := 0, mirStand := [], lostAt := [], acks := [],
    recountAt := 0, auditAt := 0, fullAt := 0 }

def Cmw.reset : Cmw :=
  { chan := [], band := [], spd := [], bnd := [], defs := [], base := [], binSeen := [], ext := [], inq := [],
    frames := [], caps := [], pulseAt := [], capPos := [], ckpt := [], ckptAt := 0 }

def Ctl.reset : Ctl :=
  { rec_ := [], comp := [], sup := [], hist := [], ext := [], started := [], smp := [], owner := [], scrubAt := [] }

def Lio.reset : Lio :=
  { ai := [], hart := [], diffAt := [], ovlAt := [], demagAt := [], aoCode := [], sw := [], pulses := [],
    grpWait := [], cmdUpset := [], evAt := [] }

def Ltn.reset : Ltn :=
  { fb0 := [], fb1 := [], labels := [], drawing := none, again := false, swap := false, marks := [], line := 0,
    dirty := [], checked := false, recRow := 0, recSweeps := 0, copy := none, copyDue := 0, retTiles := [],
    keeperSt := [], retained := false, startAt := 0, stopAt := 0, biasAt := 0, phaseAt := 0, light := 0,
    vdd := false, vddh := false, tempBand := 0, starts := 0, width := 1280, height := 800, sent := 0 }

def Bcn.reset : Bcn :=
  { seqs := [], nextReq := 0, calls := [], heard := [], evtSeq := [], dmDue := [], ovf := false }

def Bkp.reset : Bkp :=
  { rtc := 0, rtcAt := 0, acc := 0, capTick := 0, shiftTick := 0, setTick := 0, alarmFrom := 0, vbakNext := 0,
    vbakLow := 0, vbakHigh := 0, winBad := false, wtBad := false, winWatch := false, latched := [], pulseEnd := 0, holdEnd := 0 }

def Img.reset : Img :=
  { slot0 := none, slot1 := none, recs := [], use := 0, chosen := 0, source := 0, disagree := false, seen := 0, run := none, asked := false, dirtyAt := 0,
    commitAt := 0, ckptAt := [], loopAt := 0, copyPts := [], copyCond := [], copyX := [], copyOwner := [], copyWatch := [],
    copyAt := 0, lwtSaved := 0, seqMark := 0 }

def Pwr.reset : Pwr :=
  { failAt := 0, step := 0, was := 0, lost := 0, keeping := false, seq := 0, changes := 0, upds := [],
    out := [], watches := [], act := [], scanAt := 0, warned := false, goodAt := 0, charging := false, mainUp := false,
    failing := false, lshipUp := false }

def Kpr.reset : Kpr :=
  { logPend := [], log := [], pins := 0, starts := 0, bank0 := Bank.first, bank1 := Bank.none_,
    boot := some Boot.first, svn := 0, chosen := false, owed := none, readyAt := 0, update := none, nor := none,
    sessions := [], failedAuth := [], refuse := [], sent := [], sensAt := [], fanAt := [], fanHeld := [],
    trace := [], foldAt := 0 }

/-- The machine right after reset. -/
def State.reset : State :=
  { tim := Tim.reset, regs := [], regsN := [], hif := Hif.reset, wld := Wld.reset, ldg := Ldg.reset,
    hst := Hst.reset, fab := Fab.reset, pts := Pts.reset, alm := Alm.reset, sec := Sec.reset, cmw := Cmw.reset,
    ctl := Ctl.reset, lio := Lio.reset, ltn := Ltn.reset, bcn := Bcn.reset, bkp := Bkp.reset, img := Img.reset,
    pwr := Pwr.reset, kpr := Kpr.reset, free := 0, pending := [] }

end Sys2Proof.Machine
end

