-- ==== Sys2Proof/Machine/Ops.lean ====
section
/-! DEFINITION. The named operations every meaning is built from: groups of the state, time, registers, counters, world
checks, host memory, rings, interrupts, the Ledger's intake, events. -/

namespace Sys2Proof.Machine

/-! Changing one group of the state. -/

def State.onTim (f : Tim → Tim) (s : State) : State := { s with tim := f s.tim }
def State.onRegs (f : Tab Word → Tab Word) (s : State) : State := { s with regs := f s.regs }
def State.onRegsN (f : Tab Word → Tab Word) (s : State) : State := { s with regsN := f s.regsN }
def State.onHif (f : Hif → Hif) (s : State) : State := { s with hif := f s.hif }
def State.onWld (f : Wld → Wld) (s : State) : State := { s with wld := f s.wld }
def State.onLdg (f : Ldg → Ldg) (s : State) : State := { s with ldg := f s.ldg }
def State.onHst (f : Hst → Hst) (s : State) : State := { s with hst := f s.hst }
def State.onFab (f : Fab → Fab) (s : State) : State := { s with fab := f s.fab }
def State.onPts (f : Pts → Pts) (s : State) : State := { s with pts := f s.pts }
def State.onAlm (f : Alm → Alm) (s : State) : State := { s with alm := f s.alm }
def State.onSec (f : Sec → Sec) (s : State) : State := { s with sec := f s.sec }
def State.onCtl (f : Ctl → Ctl) (s : State) : State := { s with ctl := f s.ctl }
def State.onLio (f : Lio → Lio) (s : State) : State := { s with lio := f s.lio }
def State.onImg (f : Img → Img) (s : State) : State := { s with img := f s.img }
def State.onLtn (f : Ltn → Ltn) (s : State) : State := { s with ltn := f s.ltn }
def State.onBcn (f : Bcn → Bcn) (s : State) : State := { s with bcn := f s.bcn }
def State.onBkp (f : Bkp → Bkp) (s : State) : State := { s with bkp := f s.bkp }
def State.onCmw (f : Cmw → Cmw) (s : State) : State := { s with cmw := f s.cmw }
def State.onPwr (f : Pwr → Pwr) (s : State) : State := { s with pwr := f s.pwr }
def State.onKpr (f : Kpr → Kpr) (s : State) : State := { s with kpr := f s.kpr }

/-- A change made by the Keeper's evaluation, with its own numbers and time (R675, R682, R686). -/
def State.keep (f : State → State) (s : State) : State :=
  (f (s.onPwr fun p => { p with keeping := true })).onPwr fun p => { p with keeping := false }

/-- A free value, and the state with the next one in line (log entry 3). -/
def State.fresh (s : State) : Nat × State := (Config.freeValue s.free, { s with free := s.free + 1 })

/-! Time (R16, R675). Spans are in units of 2^-32 s, rounded up so that "at least" holds. -/

def ofUs (n : Nat) : Nat := (n * 2 ^ 32 + 999999) / 1000000
def ofMs (n : Nat) : Nat := (n * 2 ^ 32 + 999) / 1000
def ofS (n : Nat) : Nat := n * 2 ^ 32

/-- Watch time at an instant not before the last change of its rate (R16). -/
def State.wtOf (s : State) (t : Nat) : Nat := (s.tim.wtBase + (t - s.tim.wtAt) * s.tim.rate / 2 ^ 32) % 2 ^ 64

/-- Watch time now. -/
def State.wt (s : State) : Nat := s.wtOf s.tim.now

/-- Lightship watch time at an instant (R675): within ±100 ns of watch time, by how much a free value of each 1 ms, while the
main domain runs; free running otherwise. -/
def State.lwtOf (s : State) (t : Nat) : Nat :=
  if s.pwr.mainUp then (s.wtOf t + 2 ^ 64 - 429 + Config.lwtSkew (t * 1000 / 2 ^ 32) % 859) % 2 ^ 64
  else (s.tim.lwtBase + (t - s.tim.lwtAt)) % 2 ^ 64

def State.lwt (s : State) : Nat := s.lwtOf s.tim.now

/-- The watch time in force: watch time while the main domain runs, Lightship watch time otherwise. -/
def State.clock (s : State) : Nat := if s.pwr.mainUp then s.wt else s.lwt

/-- Whole milliseconds of a watch time. -/
def msOf (w : Nat) : Nat := w * 1000 / 2 ^ 32

/-- The first watch time that is a whole multiple of `ms` milliseconds, at or after `w`. -/
def ceilMs (ms w : Nat) : Nat :=
  let k := (w * 1000 + (ms * 2 ^ 32 - 1)) / (ms * 2 ^ 32)
  (k * ms * 2 ^ 32 + 999) / 1000

/-! Registers. -/

/-- The word a register holds (R26, R786: reserved bits and offsets read zero). -/
def State.rd (s : State) (off : Nat) : Word := tget (facWord off) s.regs off

/-- A register field. -/
def State.rf (s : State) (f : RFld) : Nat := ((s.rd f.off).toNat >>> f.lo) % 2 ^ f.w

/-- A one-bit register field. -/
def State.rb (s : State) (f : RFld) : Bool := s.rf f != 0

/-- The complement word held of a register with a twin field (R590). -/
def State.rdN (s : State) (off : Nat) : Word := tget (~~~ facWord off) s.regsN off

/-- Whether a register word holds a field restored as a twin. -/
def holdsTwin (off : Nat) : Bool :=
  match findReg off with
  | some r => r.fields.any fun f => f.rest == .twin
  | none => false

/-- A whole register word written by the module, with its complement where it is held as a twin. -/
def State.wr (off : Nat) (w : Word) (s : State) : State :=
  let s := s.onRegs fun t => tset (facWord off) t off w
  if holdsTwin off then s.onRegsN fun t => tset (~~~ facWord off) t off (~~~ w) else s

/-- A register field set by the module. -/
def State.wf (f : RFld) (v : Nat) (s : State) : State := s.wr f.off (fput ⟨f.lo, f.w⟩ v (s.rd f.off))

/-- A counter increment, saturating (R789). -/
def State.bump (f : RFld) (s : State) (by_ : Nat := 1) : State :=
  s.wf f (min (s.rf f + by_) (2 ^ f.w - 1))

/-- Whole microseconds of a span. -/
def usOf (d : Nat) : Nat := d * 1000000 / 2 ^ 32

/-- R31, R176: a counter of the microseconds in which a queue is full takes those since instant `at_`. -/
def State.busyUs (f : RFld) (at_ : Nat) (s : State) : State :=
  if at_ == 0 then s else s.bump f (usOf (s.tim.now + 1 - at_))

/-- R37, R265, R271: a scrub that comes once per 60 s is due; `last`: the instant of the last one, plus one. -/
def State.scrubDue (s : State) (last : Nat) : Bool := last == 0 || decide (last - 1 + ofS 60 ≤ s.tim.now)

/-- The state at the instant of a command; time never runs back. The counters of full queues follow. -/
def State.at_ (t : Nat) (s : State) : State :=
  let s := s.onTim fun m => { m with now := max m.now t }
  let s := (s.busyUs Reg.PNT_TILE_BUSY_CNT.COUNT s.pts.fullAt).busyUs Reg.SEC_BACKPRESS_CNT.COUNT s.sec.fullAt
  let again (a : Nat) : Nat := if a == 0 then 0 else a + ofUs (usOf (s.tim.now + 1 - a))
  (s.onPts fun p => { p with fullAt := again p.fullAt }).onSec fun c => { c with fullAt := again c.fullAt }

/-- A gauge moved down, not below zero. -/
def State.drop (f : RFld) (s : State) (by_ : Nat := 1) : State := s.wf f (s.rf f - by_)

/-! Worlds (R567 to R586). Requesters are functions 0 to 64; 65 stands for the Keeper, 66 and 67 for the debug port in
the non-secure and the secure world. -/

/-- R568: a requester is secure. -/
def secureFn (fn : Nat) : Bool := fn == 0 || fn == 65 || fn == 67

/-- R582: a block is secure now. -/
def State.blockSecure (s : State) (b : Nat) : Bool :=
  if b < 32 then (s.rf Reg.WLD_BLOCK_LO.SECURE >>> b) % 2 == 1 else (s.rf Reg.WLD_BLOCK_HI.SECURE >>> (b - 32)) % 2 == 1

/-- R578, R579: a range of high-bandwidth memory touches a secure region. -/
def State.hbmSecure (s : State) (lo len : Nat) : Bool :=
  (List.range ((lo + (len - 1)) / 0x90000000 - lo / 0x90000000 + 1)).any fun k =>
    let r := lo / 0x90000000 + k
    if r < 32 then (s.rf Reg.WLD_HBM_LO.SECURE >>> r) % 2 == 1 else (s.rf Reg.WLD_HBM_HI.SECURE >>> (r - 32)) % 2 == 1

/-- R569, R570, R596, R653, R694, R729, R759: the world block of a register word. -/
def regBlock (off : Nat) : Nat :=
  let o := off % 0x10000
  match off >>> 16 with
  | 0 => 1
  | 1 => if 0x1000 ≤ o then 9 else 6
  | 2 => 10
  | 3 => 12
  | 4 => 14
  | 5 => if o == 0 then 19 else if o == 0x30 then 18 else 17
  | 6 => if o < 8 || (0x100 ≤ o) then 22 else 21
  | 7 => 23
  | 8 => 26
  | 9 =>
    if o == 0x10 || o == 0x14 || o == 0x24 then 33
    else if o == 4 || (0x100 ≤ o && o < 0x120) || (0x1000 ≤ o && o < 0x3900) then 31
    else if (0x200 ≤ o && o < 0x20C) || (0x300 ≤ o && o < 0x380) then 32
    else if 0x4000 ≤ o then 34
    else 29
  | 10 => 0
  | 11 =>
    if o == 8 || (0x10 ≤ o && o < 0x20) || o == 0x40 || o == 0x44 || (0x100 ≤ o && o < 0x500) then 35
    else if o == 0x48 || o == 0x4C || (0x500 ≤ o && o < 0x800) then 36
    else 37
  | 12 => if o < 0xC then 39 else 38
  | 13 => if 0x24 ≤ o && o < 0x40 then 41 else 40
  | 14 => if o < 0x100 then 42 else if o < 0x200 then 43 else if o < 0x300 || 0x1000 ≤ o then 44 else 45
  | 15 => if 0x88 ≤ o && o < 0x94 || 0x1000 ≤ o then 47 else 46
  | _ =>
    let h := off - 0x180000
    if h == 0 || h == 4 then 5 else if 0x2000 ≤ h && h < 0x4000 then 4 else 3

/-- The block of one field: the UMS bit of a call rule lies in the run-time block (R569); a relay's PATTERN is configuration
(R323) beside the relay's state (R569; DEDUCED, log entry 82). -/
def fieldBlock (off lo : Nat) : Nat :=
  if 0x61000 ≤ off && off < 0x61800 && off % 8 == 4 && lo == 7 then 21
  else if 0x60080 ≤ off && off < 0x600A0 && lo == 0 then 22 else regBlock off

/-- R574: the host memory regions in force: number, world, first and last page. -/
def State.hregs (s : State) : List (Nat × Bool × Nat × Nat) :=
  (s.regs.filter fun e => decide (0xA1000 ≤ e.1) && decide (e.1 < 0xA2000) && e.1 % 16 == 0 && e.2.toNat % 2 == 1).map
    fun e =>
      let n := (e.1 - 0xA1000) / 16
      (n, (e.2.toNat / 2) % 2 == 1, (s.rd (e.1 + 4)).toNat * 2 ^ 20 + e.2.toNat / 2 ^ 12,
        (s.rd (e.1 + 12)).toNat * 2 ^ 20 + (s.rd (e.1 + 8)).toNat / 2 ^ 12)

/-- R574: the region an address page takes its world from: the lowest-numbered that covers it. -/
def regionOf (rs : List (Nat × Bool × Nat × Nat)) (page : Nat) : Option (Nat × Bool) :=
  (rs.find? fun r => decide (r.2.2.1 ≤ page) && decide (page ≤ r.2.2.2)).map fun r => (r.1, r.2.1)

/-- R575: the region of the other world that a host-memory range touches, if any. -/
def State.hostDenied (s : State) (secure : Bool) (addr len : Nat) : Option Nat :=
  let rs := s.hregs
  if rs.isEmpty || len == 0 then none
  else
    (List.range ((addr + len - 1) / 4096 - addr / 4096 + 1)).findSome? fun k =>
      match regionOf rs (addr / 4096 + k) with
      | some (n, w) => if w == secure then none else some n
      | none => none

/-! Host memory as the module writes it. -/

/-- `n` bytes of `v`, least significant first, written from `addr` on. -/
def memPut (addr : Nat) : Nat → Nat → Tab Byte → Tab Byte
  | 0, _, m => m
  | n + 1, v, m => memPut (addr + 1) n (v / 256) (tset 0#8 m addr (BitVec.ofNat 8 v))

/-- The canonical form of host memory, of the register words and of their complements. -/
def Memory.wf (m : Tab Byte) : Bool := twf (fun _ => 0#8) m
def Regs.wf (t : Tab Word) : Bool := twf facWord t
def RegsN.wf (t : Tab Word) : Bool := twf (fun off => ~~~ facWord off) t

def State.hostPut (addr n v : Nat) (s : State) : State := s.onHif fun h => { h with mem := memPut addr n v h.mem }

/-- A byte of host memory as the module has written it. -/
def State.hostByte (s : State) (addr : Nat) : Byte := tget 0#8 s.hif.mem addr

/-! Rings (R489 to R493). -/

def State.ring (s : State) (r : Nat) : Rec 64 := tget 0 s.hif.rings r
def State.setRing (r : Nat) (c : Rec 64) (s : State) : State := s.onHif fun h => { h with rings := tset 0 h.rings r c }
def State.modRing (r : Nat) (f : Rec 64 → Rec 64) (s : State) : State := s.setRing r (f (s.ring r))

/-- R492: entries a ring holds, and its size. -/
def ringHeld (c : Rec 64) : Nat := (fget Ring.PROD c + 2 ^ 32 - fget Ring.CONS c) % 2 ^ 32
def ringSize (c : Rec 64) : Nat := 2 ^ fget Ring.LOG2N c
def ringFree (c : Rec 64) : Nat := ringSize c - ringHeld c
/-- R501: PHASE of the entry with count `n`. -/
def phaseOf (c : Rec 64) (n : Nat) : Nat := 1 - (n >>> fget Ring.LOG2N c) % 2
/-- A ring exists and is of a type. -/
def isRing (c : Rec 64) (typ : Nat) : Bool := fbit Ring.VALID c && fget Ring.TYPE c == typ
/-- A ring runs: neither quenched nor faulted. -/
def ringRuns (c : Rec 64) : Bool := !fbit Ring.QUENCHED c && !fbit Ring.FAULT c

/-! Interrupts (R488, R523). -/

def vecKey (fn vec : Nat) : Nat := fn * 2048 + vec

/-- R488: a message of a function's vector: sent, or left pending while masked. -/
def State.sendVec (fn vec : Nat) (s : State) : State :=
  if tget 0 s.hif.vecOpen (vecKey fn vec) == 0 then s.onHif fun h => { h with vecPend := tset 0 h.vecPend (vecKey fn vec) 1 }
  else s.onHif fun h => { h with vecSent := tmod 0 h.vecSent (vecKey fn vec) (· + 1) }

/-- The pending entries that R523 counts for a ring. -/
def State.pendEntries (s : State) (r : Nat) : Nat :=
  let c := s.ring r
  if fget Ring.TYPE c == 4 then tget 0 s.hif.outPend r else ringHeld c

/-- R523: signal a ring's vector when its count is reached, else start its coalescing time. -/
def State.signal (r : Nat) (s : State) : State :=
  let c := s.ring r
  let p := s.pendEntries r
  if !fbit Ring.VEC_EN c || !fbit Ring.ARMED c || p == 0 then s
  else if fget Ring.COAL_N c ≤ p || fget Ring.COAL_US c == 0 then
    ((s.setRing r (fput Ring.ARMED 0 c)).sendVec (fget Ring.FUNC c) (fget Ring.VECTOR c)).onHif fun h =>
      { h with coalAt := tset 0 h.coalAt r 0 }
  else if tget 0 s.hif.coalAt r == 0 then
    s.onHif fun h => { h with coalAt := tset 0 h.coalAt r (s.tim.now + ofUs (fget Ring.COAL_US c) + 1) }
  else s

/-- One 32-byte entry at a ring's PROD, its PHASE set, PROD advanced. -/
def State.entryPut (r : Nat) (e : Nat) (s : State) : State :=
  let c := s.ring r
  let n := fget Ring.PROD c
  let e := e % 2 ^ 255 + phaseOf c n * 2 ^ 255
  (s.hostPut (fget Ring.BASE c + (n % ringSize c) * 32) 32 e).setRing r (fput Ring.PROD (n + 1) c)

/-! Completions (R501, R504, R528, R530). -/

/-- What a command answers: status, DETAIL, RESULT bytes 0x08 to 0x1B. -/
structure Reply where
  st : Nat
  det : Nat
  res : Nat
  deriving DecidableEq, Repr

def Reply.ok : Reply := ⟨0, 0, 0⟩
/-- A status without detail or result. -/
def Reply.of (st : Nat) : Reply := ⟨st, 0, 0⟩
/-- RANGE at an operand offset. -/
def Reply.range (det : Nat) : Reply := ⟨5, det, 0⟩
/-- Two result words at 0x08 and 0x0C. -/
def Reply.with2 (a b : Nat) : Reply := ⟨0, 0, a % 2 ^ 32 + (b % 2 ^ 32) * 2 ^ 32⟩

/-- R501: the completion entry, without PHASE. -/
def cplEntry (ring tag head : Nat) (r : Reply) : Nat :=
  ring % 2 ^ 16 + (tag % 2 ^ 16) * 2 ^ 16 + (r.st % 256) * 2 ^ 32 + (r.det % 2 ^ 16) * 2 ^ 48 + (r.res % 2 ^ 160) * 2 ^ 64
    + (head % 2 ^ 16) * 2 ^ 224

/-- A completion into a CPL ring: written, held while the ring is quenched (R528), discarded when it is faulted (R530). -/
def State.cplPut (cpl : Nat) (e : Nat) (s : State) : State :=
  let c := s.ring cpl
  if !isRing c 1 then s
  else if fbit Ring.FAULT c then s
  else if fbit Ring.QUENCHED c then s.onHif fun h => { h with held := h.held ++ [(cpl, e)] }
  else (s.entryPut cpl e).signal cpl

def Infl.op (i : Infl) : Nat := i.desc.toNat % 256
def Infl.fence (i : Infl) : Bool := i.desc.toNat / 256 % 2 == 1
/-- TAG: of a descriptor in bytes 2 and 3, of a DATA_IN entry in bytes 12 and 13 (R518). -/
def Infl.tag (i : Infl) : Nat := if i.data then (i.desc.toNat >>> 96) % 65536 else (i.desc.toNat >>> 16) % 65536

/-- R504: an entry leaves flight. -/
def State.unflight (i : Infl) (s : State) : State :=
  let s := s.onHif fun h => { h with inflight := h.inflight.erase i }
  let c := s.ring i.ring
  let s := if fbit Ring.VALID c then s.setRing i.ring (fput Ring.INFLIGHT (fget Ring.INFLIGHT c - 1) c) else s
  (s.drop Reg.HIF_INFLIGHT.COUNT).drop (Reg.HIF_FN.FN_INFLIGHT (fget Ring.FUNC c))

/-- A ring entry completes: its completion is written and it leaves flight. A completion held by a quenched CPL ring
keeps its command in flight until it is written (R504, COMPLETION_WRITE). -/
def State.complete (i : Infl) (r : Reply) (s : State) : State :=
  let c := s.ring i.ring
  let cpl := fget Ring.CPL_RING c
  let e := cplEntry i.ring i.tag i.head r
  if isRing (s.ring cpl) 1 && fbit Ring.QUENCHED (s.ring cpl) && !fbit Ring.FAULT (s.ring cpl) then
    (s.onHif fun h => { h with inflight := h.inflight.map fun j => if j == i then { j with disp := true } else j }).cplPut cpl e
  else (s.cplPut cpl e).unflight i

/-- The in-flight entry of a ring with a tag and opcode, waiting in its block for its end. -/
def State.waiting (s : State) (ring tag op : Nat) : Option Infl :=
  s.hif.inflight.find? fun i => i.ring == ring && i.tag == tag && i.op == op && i.disp && !i.data

/-- A waiting command, if still in flight, completes. -/
def State.finishCmd (ring tag op : Nat) (r : Reply) (s : State) : State :=
  match s.waiting ring tag op with
  | some i => s.complete i r
  | none => s

/-! The Ledger's intake (R339 to R344, R353, R356, R360). -/

def typHist : Nat := 1
def typChange : Nat := 2
def typEvent : Nat := 3

def recBytes (l : List LRec) : Nat := l.foldl (fun a r => a + 64 * r.len64) 0

/-- R360: a record the armed mask selects. TRIP mask bits: CHANGE, EVENT, HIST 1 s, 1 min, 1 h. -/
def tripWants (mask : Nat) (r : LRec) : Bool :=
  if r.typ == typChange then mask % 2 == 1
  else if r.typ == typEvent then (mask / 2) % 2 == 1
  else if r.typ == typHist then (mask / 2 ^ (2 + (r.body >>> 32) % 4)) % 2 == 1
  else false

/-- The events an intake asks for: code, OBJ, arguments. -/
abbrev EvList := List (Nat × Nat × List Nat)

/-- R360: a record produced while the trip ledger records is copied; one that does not fit ends it. -/
def State.tripTake (r : LRec) (s : State) : State × EvList :=
  if s.rf Reg.LDG_TRIP_STAT.STATE != 2 || !tripWants s.ldg.tripMask r then (s, [])
  else
    let used := recBytes s.ldg.tripRecs
    if 0x10000000 < used + 64 * r.len64 then
      (s.wf Reg.LDG_TRIP_STAT.STATE 3, [(Ev.LDG_TRIP_FULL, 0, [used / 2 ^ 20])])
    else
      ((s.onLdg fun l => { l with tripRecs := l.tripRecs ++ [r], tripPos := l.tripPos + 1 }).wf
        Reg.LDG_TRIP_STAT.USED_MIB ((used + 64 * r.len64) / 2 ^ 20), [])


/-- R353: a record is dropped; the first one of an episode sets DROPPING and asks for its event, with the main domain up. -/
def State.dropRec (r : LRec) (s : State) : State × EvList :=
  let s1 := s.bump (if r.typ == typHist then Reg.LDG_DROP_HIST_CNT.COUNT
    else if r.typ == typChange then Reg.LDG_DROP_CHG_CNT.COUNT else Reg.LDG_DROP_EVT_CNT.COUNT)
  if s.rb Reg.LDG_STAT.DROPPING || !s.pwr.mainUp then (s1, [])
  else (s1.wf Reg.LDG_STAT.DROPPING 1, [(Ev.LDG_DROP, 0, [r.typ])])

/-- R353: the bytes in the Ledger buffer. -/
def State.bufUsed (s : State) : Nat := recBytes s.ldg.buf + recBytes (s.ldg.writing.map Prod.snd)

/-- LDG_BUF_USED follows the buffer. -/
def State.bufGauge (s : State) : State := s.wf Reg.LDG_BUF_USED.BYTES s.bufUsed

/-- R353: a record finds the part of the buffer that its type may fill full. -/
def State.bufFull (s : State) (r : LRec) : Bool :=
  decide ((if r.typ == typHist then 0x300000 else 0x400000) < s.bufUsed + 64 * r.len64)

/-- R353: a record enters the main Ledger buffer or is dropped. -/
def State.bufTake (r : LRec) (s : State) : State × EvList :=
  if s.bufFull r then s.dropRec r
  else
    ((s.onLdg fun l => { l with buf := l.buf ++ [{ r with tIn := s.wt }] }).wf Reg.LDG_BUF_USED.BYTES (s.bufUsed + 64 * r.len64), [])

/-- R355: records go to the spool, oldest kept; what does not fit is dropped. -/
def State.spoolTake (rs : List LRec) (s : State) : State × EvList :=
  rs.foldl (fun p r =>
    let (s, ev) := p
    if 0x20000000 < recBytes s.ldg.spool + 64 * r.len64 then
      let (s, e) := s.dropRec r
      (s, ev ++ e)
    else
      let s := s.onLdg fun l => { l with spool := l.spool ++ [r], spoolPos := l.spoolPos + 1 }
      (s.wf Reg.LDG_SPOOL_USED.KIB (recBytes s.ldg.spool / 1024), ev)) (s, [])

/-- R356: the Lightship part's buffer goes to the spool. -/
def State.lshipSpool (s : State) : State × EvList :=
  (s.onLdg fun l => { l with lbuf := [] }).spoolTake s.ldg.lbuf

/-- R356: a record enters the Lightship part; at 512 KiB with the main domain down it is flushed, and no drop is then reported. -/
def State.lbufTake (r : LRec) (s : State) : State :=
  let s := if recBytes s.ldg.lbuf + 64 * r.len64 ≤ 0x100000 then
      s.onLdg fun l => { l with lbuf := l.lbuf ++ [{ r with lship := true, tIn := s.clock }] } else s
  if !s.pwr.mainUp && decide (0x80000 ≤ recBytes s.ldg.lbuf) then s.lshipSpool.1 else s

/-- R356: the event sources whose records the Lightship part holds while the main domain runs: the Beacon, the local field I/O
and the Keeper. -/
def lshipCode (n : Nat) : Bool :=
  (decide (576 ≤ n) && decide (n < 592)) || (decide (640 ≤ n) && decide (n < 704)) || (decide (768 ≤ n) && decide (n < 832))

/-- R713: the event sources of the Keeper log. -/
def klogCode (n : Nat) : Bool :=
  (decide (576 ≤ n) && decide (n ≤ 584)) || (decide (640 ≤ n) && decide (n ≤ 847)) || n == 528 || n == 529 || n == 635

/-- R344: credit of the token buckets at each ms tick of watch time since the last. -/
def State.creditTokens (s : State) : State :=
  let m := msOf s.wt
  if m ≤ s.ldg.credited then s.onLdg fun l => { l with credited := m }
  else s.onLdg fun l =>
    { l with
      credited := m
      spent := l.spent.foldl (fun t e =>
        tset 0 t e.1 (e.2 - (m - l.credited) * s.rf (Reg.LDG_CODE.RATE e.1))) l.spent }

/-- R344: a code's token bucket where its BURST becomes `burst`: the credit is taken at the RATE up to now, and the tokens held
stay, up to the new BURST. -/
def State.reburst (code burst : Nat) (s : State) : State :=
  let s := s.creditTokens
  let level := s.rf (Reg.LDG_CODE.BURST code) * 1000 - tget 0 s.ldg.spent code
  s.onLdg fun l => { l with spent := tset 0 l.spent code (burst * 1000 - level) }

/-- R342: the EVENT record of an occurrence. -/
def eventRec (code skipped t payload : Nat) (ls : Bool) : LRec :=
  ⟨typEvent, code % 1024 + (skipped % 65536) * 2 ^ 16 + t * 2 ^ 64 + (payload % 2 ^ 224) * 2 ^ 128, 1, ls, false, t, 0, 0⟩

/-- R511: the payload of an event: time, OBJ, arguments. -/
def payloadOf (t obj : Nat) (args : List Nat) : Nat :=
  t % 2 ^ 64 + (obj % 2 ^ 64) * 2 ^ 64 + (args.foldr (fun a n => a % 2 ^ 32 + n * 2 ^ 32) 0) * 2 ^ 128

/-- R346: the Ledger view's block `k` of `n` bytes rewritten with body `v` (its sequence fields zero), SSEQ_BACK at byte
`back`. The view has 576 KiB (R348). -/
def State.viewPut (k off n back v : Nat) (s : State) : State :=
  match s.ldg.view with
  | none => s
  | some (_, addr, _) =>
    if 0x90000 < off + n then s
    else
      let g := (tget 0 s.ldg.viewGen k + 2) % 2 ^ 32
      let s := s.onLdg fun l => { l with viewGen := tset 0 l.viewGen k g }
      s.hostPut (addr + off) n (v + g + g * 2 ^ (8 * back))

/-- R343: the tally block of a code, its sequence fields zero. -/
def tallyBlock (code : Nat) (y : Tally) : Nat :=
  (code % 1024) * 2 ^ 32 + (y.count % 2 ^ 64) * 2 ^ 64 + (y.skipped % 2 ^ 64) * 2 ^ 128 + y.tFirst * 2 ^ 192 + y.tLast * 2 ^ 256

/-- R343: one more occurrence in a code's tally, recorded or skipped. -/
def State.tallyUp (code t : Nat) (skip : Bool) (s : State) : State :=
  let code := code % 1024
  let y := tget ⟨0, 0, 0, 0⟩ s.ldg.tally code
  let y := { count := y.count + 1, skipped := if skip then y.skipped + 1 else y.skipped,
             tFirst := if y.count == 0 then t else y.tFirst, tLast := t }
  (s.onLdg fun l => { l with tally := tset ⟨0, 0, 0, 0⟩ l.tally code y }).viewPut code (64 * code) 64 56 (tallyBlock code y)

/-- R342, R343: an occurrence that is not recorded. -/
def State.ldgSkip (code t : Nat) (s : State) : State :=
  (s.tallyUp code t true).onLdg fun l => { l with skipRec := tmod 0 l.skipRec code fun k => min (k + 1) 65535 }

/-- R343, R344: the Ledger takes an occurrence of an event code: tally, token bucket, record. -/
def State.ldgEvent (code t payload : Nat) (s : State) : State × EvList :=
  if !s.pwr.mainUp then
    (s.lbufTake (eventRec code 0 t payload true)).tripTake (eventRec code 0 t payload true)
  else
    let s := s.creditTokens
    let spent := tget 0 s.ldg.spent code
    let poor := decide (s.rf (Reg.LDG_CODE.BURST code) * 1000 < spent + 1000)
    let rec_ := s.rb (Reg.LDG_CODE.REC_EN code)
    if !rec_ then (s.ldgSkip code t, [])
    else if poor then ((s.ldgSkip code t).bump Reg.LDG_RATE_SKIP_CNT.COUNT, [])
    else
      let r := eventRec code (tget 0 s.ldg.skipRec code) t payload (lshipCode code)
      let s := s.onLdg fun l => { l with spent := tset 0 l.spent code (spent + 1000) }
      let s := if !lshipCode code && s.bufFull r then s.ldgSkip code t
        else (s.tallyUp code t false).onLdg fun l => { l with skipRec := tset 0 l.skipRec code 0 }
      let (s, e1) := s.tripTake r
      if lshipCode code then (s.lbufTake r, e1)
      else
        let (s, e2) := s.bufTake r
        (s, e1 ++ e2)

/-- R354, R356: an event whose code has FLUSH set asks for a flush, at most one per 10 ms. -/
def State.flushAsk (code : Nat) (s : State) : State :=
  if !s.rb (Reg.LDG_CODE.FLUSH code) then s
  else if !s.pwr.mainUp then s.lshipSpool.1
  else if s.ldg.lastFlush != 0 && decide (s.wt < s.ldg.lastFlush - 1 + ofMs 10) then s
  else s.onLdg fun l => { l with flushDue := true, lastFlush := s.wt + 1 }

/-- R713: the Keeper takes an event for its log. -/
def State.klogTake (code payload : Nat) (s : State) : State :=
  if klogCode code then s.onKpr fun k => { k with logPend := k.logPend ++ [(code, s.lwt, payload % 2 ^ 224)] } else s

/-! Event rings (R508 to R517). -/

/-- Backlog entries of one ring. -/
def backlogOf (b : List (Nat × List Nat)) (r : Nat) : Nat :=
  b.foldl (fun a e => if e.1 == r then a + e.2.length else a) 0

def backlogAll (b : List (Nat × List Nat)) : Nat := b.foldl (fun a e => a + e.2.length) 0

/-- R512: the LOSS entry of a ring. -/
def lossEntry (lost lo hi : Nat) : Nat := lost % 2 ^ 32 + lo * 2 ^ 64 + hi * 2 ^ 128 + 4 * 2 ^ 248

/-- R517: entries that stay together are passed to one event ring: written, backlogged or dropped. `seq` is the SEQ of a
CHANGE entry. The Nat answered is the count that a LOSS entry written now reports, 0 for none. -/
def State.evtPut (r : Nat) (es : List Nat) (seq : Option Nat) (s : State) : State × Nat :=
  let c := s.ring r
  if !isRing c 2 then (s, 0)
  else
    let lost := fget Ring.LOST c
    let ls := tget (0, 0) s.hif.lostSeq r
    let all := if lost == 0 then es else lossEntry lost ls.1 ls.2 :: es
    let clearLost (s : State) : State :=
      (s.modRing r (fput Ring.LOST 0)).onHif fun h => { h with lostSeq := tset (0, 0) h.lostSeq r (0, 0) }
    if ringRuns c && !s.rb Reg.HIF_QUENCH.EVT_ALL && backlogOf s.hif.backlog r == 0 && decide (all.length ≤ ringFree c) then
      let s := clearLost s
      ((all.foldl (fun s e => s.entryPut r e) s).signal r, lost)
    else if decide (backlogOf s.hif.backlog r + all.length ≤ fget Ring.BACKLOG_MAX c) &&
        decide (backlogAll s.hif.backlog + all.length ≤ 33554432) then
      let s := clearLost s
      let s := s.onHif fun h => { h with backlog := h.backlog ++ [(r, all)] }
      (s.wf Reg.HIF_BACKLOG_USED.COUNT (backlogAll s.hif.backlog), lost)
    else
      let s := s.setRing r (fput Ring.LOST (min (lost + es.length) 0xFFFFFFFF) c)
      let s := match seq with
        | some q =>
          let lo := if ls.1 == 0 then q else min ls.1 q
          s.onHif fun h => { h with lostSeq := tset (0, 0) h.lostSeq r (lo, max ls.2 q) }
        | none => s
      (s.bump Reg.HIF_EV_DROP_CNT.COUNT es.length, 0)

/-- R515, R516: the event rings an event source reaches, each once. -/
def State.evRings (s : State) (src : Nat) : List Nat :=
  let a := if s.rb (Reg.HIF_EVMAP.EN src) then [s.rf (Reg.HIF_EVMAP.RING src)] else []
  let b := if s.rb (Reg.HIF_EVMAP.EN2 src) then [s.rf (Reg.HIF_EVMAP.RING2 src)] else []
  (a ++ b).eraseDups.filter fun r =>
    isRing (s.ring r) 2 && (!(src == 528 || src == 634) || fbit Ring.WORLD (s.ring r))

/-- R511: the entries of a module event: EVENT, and CONT when the payload runs past 28 bytes. -/
def eventEntries (code payload n : Nat) : List Nat :=
  let w := code % 1024 + 2 * 2 ^ 24
  if n ≤ 3 then [payload % 2 ^ 224 + w * 2 ^ 224]
  else [payload % 2 ^ 224 + (w + 2 ^ 10) * 2 ^ 224,
        (payload >>> 224) % 2 ^ 224 + (code % 1024 + 3 * 2 ^ 24) * 2 ^ 224]

/-- A module event is raised (R511, R514): Ledger, Keeper log and event rings. An event that the raising itself causes
(LDG_DROP, LDG_TRIP_FULL, HIF_EV_LOSS) is raised in turn, to a depth of `n` (log entry 9). -/
def raiseN : Nat → Nat → Nat → Nat → List Nat → State → State
  | 0, _, _, _, _, s => s
  | n + 1, t, code, obj, args, s =>
    let p := payloadOf t obj args
    let (s, more) := (s.klogTake code p).ldgEvent code t p
    let s := s.flushAsk code
    let s := more.foldl (fun s e => raiseN n t e.1 e.2.1 e.2.2 s) s
    if !s.pwr.mainUp then s
    else
      (s.evRings code).foldl (fun s r =>
        let (s, lost) := s.evtPut r (eventEntries code p args.length) none
        if lost == 0 then s else raiseN n t Ev.HIF_EV_LOSS r [lost] s) s

/-- A module event with the time of its condition. -/
def State.raiseAt (t code obj : Nat) (args : List Nat) (s : State) : State := raiseN 8 t code obj args s

/-- A module event now. -/
def State.raise (code obj : Nat) (args : List Nat) (s : State) : State := s.raiseAt s.clock code obj args

/-- R356: the Lightship part flushes its buffer to the spool. -/
def State.lshipFlush (s : State) : State :=
  let (s, ev) := s.lshipSpool
  ev.foldl (fun s e => s.raise e.1 e.2.1 e.2.2) s

/-- A record enters the Ledger (not an event): trip ledger, buffer, and the events this causes. -/
def State.ldgTake (r : LRec) (s : State) : State :=
  let (s, e1) := s.tripTake r
  if r.lship then e1.foldl (fun s e => s.raise e.1 e.2.1 e.2.2) (s.lbufTake r)
  else
    let (s, e2) := s.bufTake r
    (e1 ++ e2).foldl (fun s e => s.raise e.1 e.2.1 e.2.2) s

/-- CHANGE and SECTOR entries: to each of a set of rings once, with the LOSS events that follow. -/
def State.entriesPut (rings : List Nat) (e : Nat) (seq : Option Nat) (s : State) : State :=
  rings.foldl (fun s r =>
    let (s, lost) := s.evtPut r [e] seq
    if lost == 0 then s else s.raise Ev.HIF_EV_LOSS r [lost]) s

/-! Denials (R585, R586). -/

/-- A denied access is counted, recorded and reported; EV528 of a function and path at most once per ms. -/
def State.denied (fn path block obj1 arg2 : Nat) (s : State) : State :=
  let s := s.bump Reg.WLD_DENIED_CNT.COUNT
  let s := ((s.wf Reg.WLD_LAST_DENIED.FUNC fn).wf Reg.WLD_LAST_DENIED.PATH path).wf Reg.WLD_LAST_DENIED.BLOCK block
  let k := fn * 4 + path
  let last := tget 0 s.wld.deniedAt k
  if last != 0 && decide (s.tim.now < last - 1 + ofMs 1) then
    if s.pwr.mainUp then s.ldgSkip Ev.WLD_DENIED s.clock else s
  else (s.onWld fun w => { w with deniedAt := tset 0 w.deniedAt k (s.tim.now + 1) }).raise Ev.WLD_DENIED fn [block, obj1, arg2]

/-- R587: a twin failure of an operand or word: EV529. -/
def State.twinEvent (obj block second first : Nat) (s : State) : State :=
  s.raise Ev.TWIN_MISMATCH obj [block, second, first]

/-! Readiness (R778, R779). -/

/-- SYS_READY bit `n` is set. -/
def State.ready (s : State) (n : Nat) : Bool := (s.rf Reg.SYS_READY.READY >>> n) % 2 == 1

/-- R778: a function becomes ready: its bit sets and EV520 is raised. -/
def State.setReady (n : Nat) (s : State) : State :=
  if s.ready n then s
  else
    let v := s.rf Reg.SYS_READY.READY ||| 2 ^ n
    (s.wf Reg.SYS_READY.READY v).raise Ev.SYS_READY n [v]

/-- R680, R780: a function of the main domain works: it is ready, or was at the power-fail warning whose sequence runs. -/
def State.runs (s : State) (n : Nat) : Bool := s.ready n || (s.pwr.failing && (s.pwr.was >>> n) % 2 == 1)

/-- The image slots; the one in use (R766), empty where there is none. -/
def State.slot (s : State) (k : Nat) : Option Slot := if k == 0 then s.img.slot0 else s.img.slot1
def State.inUse (s : State) : Slot := if s.img.use == 0 then Slot.empty else (s.slot (s.img.use - 1)).getD Slot.empty

/-- A function ceases to be ready (R780): no event. -/
def State.clearReady (n : Nat) (s : State) : State :=
  if s.ready n then s.wf Reg.SYS_READY.READY (s.rf Reg.SYS_READY.READY - 2 ^ n) else s

/-- R768: a change of the configuration is pending a commit: made by the host, or by the module. -/
def State.dirtyHost (s : State) : State :=
  (s.wf Reg.SYS_COMMIT_STAT.DIRTY_HOST 1).onImg fun m => if m.dirtyAt == 0 then { m with dirtyAt := s.tim.now + 1 } else m
def State.dirtyMod (s : State) : State := s.wf Reg.SYS_COMMIT_STAT.DIRTY_MOD 1

end Sys2Proof.Machine
end

