-- ==== Sys2Proof/Machine/BkpOps.lean ====
section
/-! DEFINITION. The backup domain's operations: the RTC count and its trim (R738, R739), capture, set and shift (R740 to R744), the
calendar (R741), SYS_PWRON (R753, R754), the alarm (R755), latched events (R758). -/

namespace Sys2Proof.Machine

/-! Events (R758). -/

/-- An event of the backup domain: latched while only VBAK supplies it. `stamp`: the stamp's watch time plus one, 0 without one. -/
def State.bkpRaise (code obj : Nat) (args : List Nat) (stamp : Nat) (s : State) : State :=
  if s.rb Reg.BKP_STAT.ON_VBAK then s.onBkp fun b => { b with latched := b.latched ++ [(code, obj, args, stamp)] }
  else s.raise code obj args

/-- R758: the latched events are raised once the Lightship domain has started. -/
def State.bkpUnlatch (s : State) : State :=
  let l := s.bkp.latched
  l.foldl (fun s e => s.raiseAt (if e.2.2.2 == 0 then s.clock else e.2.2.2 - 1) e.1 e.2.1 e.2.2.1) (s.onBkp fun b => { b with latched := [] })

/-! SYS_PWRON (R753, R754). Sources: 0 the calendar alarm, 1 MAIN, 2 the Beacon. -/

def pwronEn (src : Nat) : RFld :=
  if src == 0 then Reg.BKP_PWRON_CTRL.ALARM_EN else if src == 1 then Reg.BKP_PWRON_CTRL.MAIN_EN else Reg.BKP_PWRON_CTRL.BCN_EN
def pwronCause (src : Nat) : RFld :=
  if src == 0 then Reg.BKP_PWRON_STAT.ALARM else if src == 1 then Reg.BKP_PWRON_STAT.MAIN else Reg.BKP_PWRON_STAT.BCN

/-- SYS_PWRON is asserted, for its pulse or as a level. -/
def State.pwronAssert (s : State) : State :=
  let s := s.wf Reg.BKP_PWRON_STAT.ACTIVE 1
  let s := if s.rb Reg.BKP_PWRON_CTRL.MODE then s
    else s.onBkp fun b => { b with pulseEnd := s.tim.now + ofMs (10 * s.rf Reg.BKP_PWRON_CTRL.PULSE) + 1 }
  s.bkpRaise Ev.BKP_PWRON 0 [s.rf Reg.BKP_PWRON_STAT.ALARM + 2 * s.rf Reg.BKP_PWRON_STAT.MAIN + 4 * s.rf Reg.BKP_PWRON_STAT.BCN,
    s.rf Reg.BKP_PWRON_CTRL.MODE] 0

/-- A request of SYS_PWRON by a source that is enabled. -/
def State.pwronAsk (src : Nat) (s : State) : State :=
  if !s.rb (pwronEn src) then s
  else
    let s := (s.wf (pwronCause src) 1).bump Reg.BKP_PWRON_CNT.COUNT
    if !s.rb Reg.BKP_PWRON_CTRL.MODE && decide (s.tim.now + 1 < s.bkp.holdEnd) then s.wf Reg.BKP_PWRON_STAT.PENDING 1
    else s.pwronAssert

/-! The count (R738, R739, R751). Instants count crystal time: a tick is 2^17 units (log entry 40). -/

/-- Corrections of `n` ticks of trim `t` from an accumulator, and the accumulator after them (R739). -/
def trimSteps (acc t : Int) (n : Nat) : Int × Int :=
  let x := acc + (n : Int) * t
  let c := if 0 ≤ x then x / 100000000 else -((-x) / 100000000)
  (c, x - c * 100000000)

def State.trim (s : State) : Int := sext 17 (s.rf Reg.BKP_TRIM.TRIM)

/-- The count follows to tick `k`. While OSC_FAIL is 1 the ticks are those of an oscillator of 32 kHz ±5 %, a free value in
that range; no trim acts on them. -/
def State.rtcTo (k : Nat) (s : State) : State :=
  let t := k * 2 ^ 17
  if t ≤ s.bkp.rtcAt then s
  else if s.rb Reg.BKP_STAT.OSC_FAIL then
    let (f, s) := s.fresh
    s.onBkp fun b => { b with rtc := (b.rtc + (t - b.rtcAt) * (30400 + f % 3201) / 2 ^ 32) % 2 ^ 63, rtcAt := t }
  else
    let n := k - s.bkp.rtcAt / 2 ^ 17
    let (c, a) := trimSteps s.bkp.acc s.trim n
    s.onBkp fun b => { b with rtc := (((b.rtc + n : Nat) : Int) + c).toNat % 2 ^ 63, rtcAt := t, acc := a }

/-- The last tick and the next tick boundary. -/
def State.tick (s : State) : Nat := s.tim.now / 2 ^ 17
def State.nextTick (s : State) : Nat := s.tick + 1

/-- The count at the last tick. -/
def State.rtcNow (s : State) : State := s.rtcTo s.tick

def rtcSec (c : Nat) : Nat := c / 32768
def rtcSub (c : Nat) : Nat := c % 32768

/-- R738: the watch time that a reading corresponds to. -/
def rtcWt (c : Nat) : Nat := (rtcSec c % 2 ^ 32) * 2 ^ 32 + rtcSub c * 2 ^ 17

/-- The time base that a capture latches at an instant (R740). -/
def State.clockOf (s : State) (t : Nat) : Nat := if s.pwr.mainUp then s.wtOf t else s.lwtOf t

/-! The calendar (R741). -/

/-- The proleptic Gregorian date of a number of days since 2000-03-01: year, month, day. -/
def civil (z : Int) : Int × Nat × Nat :=
  let era := z / 146097
  let doe := (z % 146097).toNat
  let yoe := (doe - doe / 1460 + doe / 36524 - doe / 146096) / 365
  let doy := doe - (365 * yoe + yoe / 4 - yoe / 100)
  let mp := (5 * doy + 2) / 153
  let d := doy - (153 * mp + 2) / 5 + 1
  let m := if mp < 10 then mp + 3 else mp - 9
  (2000 + era * 400 + (yoe : Int) + (if m ≤ 2 then 1 else 0), m, d)

/-- R740, R741: CAP_CAL0 and CAP_CAL1 of a second count under a UTC offset. -/
def calWords (sec : Nat) (ofs : Int) : Nat × Nat :=
  let u := (sec : Int) - ofs
  let d := u / 86400
  let r := (u % 86400).toNat
  let (y, m, day) := civil (d - 60)
  let wd := ((d + 5) % 7).toNat
  (r % 60 + r / 60 % 60 * 2 ^ 6 + r / 3600 * 2 ^ 12 + day * 2 ^ 17 + m * 2 ^ 22 + wd * 2 ^ 26, (y % 65536).toNat)

/-! Capture, set, shift (R740 to R744), AUTO_SYNC (R750). They take effect at the next tick boundary and are computed for it
when they are asked for; their busy bits show until it (log entry 40). -/

def State.capBusy (s : State) : Bool := decide (s.tim.now < s.bkp.capTick * 2 ^ 17)
def State.shiftBusy (s : State) : Bool := decide (s.tim.now < s.bkp.shiftTick * 2 ^ 17)
def State.setBusy (s : State) : Bool := decide (s.tim.now < s.bkp.setTick * 2 ^ 17)

/-- The latch of a capture at tick `k`. -/
def State.capLatch (k : Nat) (s : State) : State :=
  let s := s.rtcTo k
  let c := s.bkp.rtc
  let w := s.clockOf (k * 2 ^ 17)
  let (a, b) := calWords (rtcSec c) (sext 16 (s.rf Reg.BKP_UTC_OFS.UTC_OFS))
  let s := ((s.wf Reg.BKP_CAP_SUB.SUB (rtcSub c)).wf Reg.BKP_CAP_SEC_LO.SEC (rtcSec c)).wf Reg.BKP_CAP_SEC_HI.SEC (rtcSec c / 2 ^ 32)
  let s := ((s.wf Reg.BKP_CAP_WT_LO.WT w).wf Reg.BKP_CAP_WT_HI.WT (w / 2 ^ 32)).wf Reg.BKP_CAP_CTRL.CAP_WT_SRC (b2n (!s.pwr.mainUp))
  (s.wr Reg.BKP_CAP_CAL0.SECOND.off (BitVec.ofNat 32 a)).wr Reg.BKP_CAP_CAL1.YEAR.off (BitVec.ofNat 32 b)

/-- R740: a capture. -/
def State.rtcCapture (s : State) : State :=
  (s.capLatch s.nextTick).onBkp fun b => { b with capTick := s.nextTick }

/-- R755: the alarm when the count has reached ALARM_SEC. -/
def State.alarmCheck (s : State) : State :=
  let sec := rtcSec s.bkp.rtc
  let a := s.rf Reg.BKP_ALARM_SEC_LO.ALARM_SEC + s.rf Reg.BKP_ALARM_SEC_HI.ALARM_SEC * 2 ^ 32
  let from_ := s.bkp.alarmFrom
  let s := s.onBkp fun b => { b with alarmFrom := max from_ sec }
  if !s.rb Reg.BKP_PWRON_CTRL.ALARM_EN || !(decide (from_ < a) && decide (a ≤ sec)) then s
  else
    let s := (s.bkpRaise Ev.BKP_ALARM a [] 0).pwronAsk 0
    let r := s.rf Reg.BKP_ALARM_REPEAT.REPEAT
    if r == 0 then s.wf Reg.BKP_PWRON_CTRL.ALARM_EN 0
    else
      let a := a + ((sec - a) / r + 1) * r
      (s.wf Reg.BKP_ALARM_SEC_LO.ALARM_SEC (a % 2 ^ 32)).wf Reg.BKP_ALARM_SEC_HI.ALARM_SEC (a / 2 ^ 32 % 2 ^ 16)

/-- A capture of the same boundary latches the count after the set or shift (R744); then the alarm. -/
def State.rtcMoved (k : Nat) (s : State) : State :=
  let s := if s.bkp.capTick == k && s.capBusy then s.capLatch k else s
  s.alarmCheck

/-- R742: the count takes a value at the next boundary. A shift of that boundary is discarded by it. -/
def State.rtcSet (v : Nat) (auto : Bool) (s : State) : State :=
  let k := s.nextTick
  let s := s.rtcTo k
  let old := s.bkp.rtc
  let s := s.onBkp fun b => { b with rtc := v % 2 ^ 63, setTick := k, shiftTick := 0 }
  (s.bkpRaise Ev.BKP_SET (rtcSec (v % 2 ^ 63)) [rtcSec old, b2n auto] 0).rtcMoved k

/-- R743: the count is shifted at the next boundary, after its tick. -/
def State.rtcShift (d : Int) (auto : Bool) (s : State) : State :=
  let k := s.nextTick
  let s := s.rtcTo k
  let s := s.onBkp fun b => { b with rtc := (((b.rtc : Int) + d) % (2 ^ 63 : Nat)).toNat, shiftTick := k }
  (s.bkpRaise Ev.BKP_SHIFT 0 [ofInt 32 d, b2n auto] 0).rtcMoved k

/-- The quotient of two integers rounded to the nearest, ties to even. -/
def divEven (a : Int) (b : Nat) : Int :=
  let q := a / (b : Int)
  let r := a % (b : Int)
  if 2 * r < b then q else if (b : Int) < 2 * r then q + 1 else if q % 2 == 0 then q else q + 1

/-- A difference of two watch times. -/
def wtDiff (a b : Nat) : Int := sext 64 ((a + 2 ^ 64 - b % 2 ^ 64) % 2 ^ 64)

/-- R750: RTC minus watch time, captured at the last tick boundary. -/
def State.rtcError (s : State) : Int := wtDiff (rtcWt s.bkp.rtc) (s.wtOf s.bkp.rtcAt)

/-- R750: AUTO_SYNC. -/
def State.rtcAuto (s : State) : State :=
  if !s.rb Reg.BKP_TRIM_CTRL.AUTO_SYNC then s
  else
    let s := s.rtcNow
    let d := s.rtcError
    if 2 ^ 32 ≤ d.natAbs then
      let w := s.wtOf (s.nextTick * 2 ^ 17)
      s.rtcSet (((rtcSec s.bkp.rtc) / 2 ^ 32 * 2 ^ 32 + w / 2 ^ 32) * 32768 + w / 2 ^ 17 % 32768) true
    else if 2 * 2 ^ 17 < d.natAbs then s.rtcShift (divEven (-d) (2 ^ 17)) true
    else s

/-- R741: the calendar's offset follows that of watch time. -/
def State.utcFollow (s : State) : State :=
  if !s.pwr.mainUp then s
  else (s.wf Reg.BKP_UTC_OFS.UTC_OFS (s.rf Reg.FAB_TIME_UTC.UTC_OFS)).wf Reg.BKP_UTC_OFS.UTC_VALID 1

/-- R747: a watch-time window qualifies now. -/
def State.wtQualifies (s : State) : Bool :=
  s.pwr.mainUp && s.rf Reg.FAB_TIME_STAT.STATE == 2 && !(s.rb Reg.FAB_TIME_CTRL.ROOT && !s.rb Reg.FAB_TIME_CTRL.ROOT_SRC)

/-- R748: what interrupts the trim window under way; and what ends its qualification as a watch-time window (R747). -/
def State.trimBreak (s : State) : State := s.onBkp fun b => { b with winBad := true }
def State.wtBreak (s : State) : State := s.onBkp fun b => { b with wtBad := true }

/-- R745, R746: the next trim window begins, against watch time where TRIM_SRC asks for it, or leaves it and it qualifies. -/
def State.trimBegin (s : State) : State :=
  let src := s.rf Reg.BKP_TRIM_CTRL.TRIM_SRC
  s.onBkp fun b => { b with winBad := false, wtBad := !s.wtQualifies, winWatch := src == 2 || (src == 3 && s.wtQualifies) }

/-- R736: a backup power-on reset. -/
def State.bkpPor (s : State) : State :=
  let s := s.onRegs fun t => t.filter fun e => e.1 / 0x10000 != 0xF
  let s := s.onRegsN fun t => t.filter fun e => e.1 / 0x10000 != 0xF
  let s := s.onBkp fun b => { b with
    rtc := 0, rtcAt := s.tick * 2 ^ 17, acc := 0, capTick := 0, shiftTick := 0, setTick := 0, alarmFrom := 0, vbakLow := 0
    vbakHigh := 0, pulseEnd := 0, holdEnd := 0 }
  let s := s.wf Reg.BKP_STAT.ON_VBAK (b2n (!s.pwr.lshipUp))
  (s.bkpRaise Ev.BKP_POR 0 [] 0).bkpRaise Ev.BKP_OSC_STOP 0 [1] 0

end Sys2Proof.Machine
end

