-- ==== Sys2Proof/Machine/Arb.lean ====
section
/-! DEFINITION. The deficit round-robin of R419, with class, group and leaf rounds; R420 and R525 give its expert quanta
and its use for the host link. -/

namespace Sys2Proof.Machine

/-- A backlogged leaf: where it hangs, the bytes of its head item, its weight. -/
structure ArbIn where
  cls : Nat
  grp : Nat
  key : Nat
  bytes : Nat
  w : Nat
  deriving DecidableEq, Repr

/-- The sum of the weights of the backlogged leaves that `p` selects. -/
def wsum (inp : List ArbIn) (p : ArbIn → Bool) : Nat := inp.foldl (fun a x => if p x then a + x.w else a) 0

/-- A leaf that is backlogged joins the tail of its round. -/
def arbJoin (cs : List AClass) (x : ArbIn) : List AClass :=
  let leaf : ALeaf := ⟨x.key, 0, true⟩
  let addG (gs : List AGroup) : List AGroup :=
    if gs.any fun g => g.key == x.grp then
      gs.map fun g => if g.key == x.grp && !(g.leaves.any fun l => l.key == x.key) then { g with leaves := g.leaves ++ [leaf] } else g
    else gs ++ [⟨x.grp, 0, true, [leaf]⟩]
  if cs.any fun c => c.key == x.cls then cs.map fun c => if c.key == x.cls then { c with groups := addG c.groups } else c
  else cs ++ [⟨x.cls, 0, true, [⟨x.grp, 0, true, [leaf]⟩]⟩]

/-- Leaves, groups and classes no longer backlogged leave their rounds; those newly backlogged join them. -/
def arbSync (inp : List ArbIn) (cs : List AClass) : List AClass :=
  let live (c g l : Nat) : Bool := inp.any fun x => x.cls == c && x.grp == g && x.key == l
  let cs := cs.map fun c => { c with groups :=
    (c.groups.map fun g => { g with leaves := g.leaves.filter fun l => live c.key g.key l.key }).filter fun g => !g.leaves.isEmpty }
  inp.foldl arbJoin (cs.filter fun c => !c.groups.isEmpty)

/-- The loop of R419, at most `fuel` turns: the leaf whose head item is sent, and the rounds after it. `cr`: there is a
class round. `cq`, `gq`: the fixed quanta of R420, none at basic level. -/
def arbPick (unit : Nat) (cr : Bool) (cq gq : Nat → Option Nat) (inp : List ArbIn) : Nat → List AClass →
    Option ArbIn × List AClass
  | 0, cs => (none, cs)
  | _ + 1, [] => (none, [])
  | fuel + 1, c :: cs =>
    let c := if c.fresh then { c with d := c.d + unit * (cq c.key).getD (wsum inp fun x => x.cls == c.key), fresh := false } else c
    match c.groups with
    | [] => arbPick unit cr cq gq inp fuel cs
    | g :: gs =>
      let g := if g.fresh then
        { g with d := g.d + unit * (gq g.key).getD (wsum inp fun x => x.cls == c.key && x.grp == g.key), fresh := false } else g
      match g.leaves with
      | [] => arbPick unit cr cq gq inp fuel ({ c with groups := gs } :: cs)
      | l :: ls =>
        match inp.find? fun x => x.cls == c.key && x.grp == g.key && x.key == l.key with
        | none => arbPick unit cr cq gq inp fuel ({ c with groups := { g with leaves := ls } :: gs } :: cs)
        | some x =>
          let l := if l.fresh then { l with d := l.d + unit * x.w, fresh := false } else l
          if l.d < x.bytes then
            arbPick unit cr cq gq inp fuel ({ c with groups := { g with leaves := ls ++ [{ l with fresh := true }] } :: gs } :: cs)
          else if g.d < x.bytes then
            arbPick unit cr cq gq inp fuel ({ c with groups := gs ++ [{ g with leaves := l :: ls, fresh := true }] } :: cs)
          else if cr && c.d < x.bytes then
            arbPick unit cr cq gq inp fuel (cs ++ [{ c with groups := { g with leaves := l :: ls } :: gs, fresh := true }])
          else
            (some x, { c with d := c.d - x.bytes, groups := { g with
              d := g.d - x.bytes, leaves := { l with d := l.d - x.bytes } :: ls } :: gs } :: cs)

/-- Enough turns for any frame at the smallest unit and weight. -/
def arbFuel : Nat := 1000000

end Sys2Proof.Machine
end

