-- ==== Sys2Proof/Machine/Cmd.lean ====
section
/-! DEFINITION. What every host command has in common (R500 to R507, R538 to R545, R571, R572, R579): the opcode's world,
readiness bit and block, the order of the checks, buffers, twins, and the completion. -/

namespace Sys2Proof

/-! Operands (R500, R538): fields of the descriptor by byte offset. -/

def Cmd.f (c : Cmd) (off lo w : Nat) : Nat := (c.desc.toNat >>> (8 * off + lo)) % 2 ^ w
def Cmd.w (c : Cmd) (off : Nat) : Nat := c.f off 0 32
def Cmd.d (c : Cmd) (off : Nat) : Nat := c.f off 0 64
def Cmd.op (c : Cmd) : Nat := c.f 0 0 8
def Cmd.tag (c : Cmd) : Nat := c.f 0 16 16
def Cmd.buf (c : Cmd) : Nat := c.d 0x30
def Cmd.bufLen (c : Cmd) : Nat := c.w 0x38
/-- A word of the input buffer. -/
def Cmd.bw (c : Cmd) (off : Nat) : Nat := (c.inp >>> (8 * off)) % 2 ^ 32

end Sys2Proof

namespace Sys2Proof.Machine

/-- An opcode of the Command Reference: code, block (R569), whether its World column is S, whether it is marked A, and
the SYS_READY bit it is judged by (R779). -/
structure OpInfo where
  code : Nat
  blk : Nat
  sec : Bool
  adm : Bool
  bit : Nat
  deriving DecidableEq, Repr

/-- The opcodes (R546, R550, R552, R555, R556, R558, R560 to R564 with R569 and R779). -/
def opTable : List OpInfo := [
  ⟨0x00, 3, false, false, 8⟩, ⟨0x01, 3, false, false, 8⟩, ⟨0x02, 3, false, false, 8⟩, ⟨0x03, 3, false, false, 8⟩,
  ⟨0x04, 3, false, false, 8⟩, ⟨0x08, 1, false, false, 8⟩, ⟨0x09, 2, true, false, 10⟩, ⟨0x0A, 2, true, true, 10⟩,
  ⟨0x0B, 2, true, false, 10⟩,
  ⟨0x10, 6, false, false, 12⟩, ⟨0x11, 6, false, false, 12⟩, ⟨0x12, 6, false, false, 12⟩, ⟨0x13, 6, false, false, 12⟩,
  ⟨0x14, 7, false, false, 12⟩, ⟨0x15, 7, false, false, 12⟩, ⟨0x16, 7, false, false, 12⟩, ⟨0x17, 7, false, false, 12⟩,
  ⟨0x18, 7, false, false, 12⟩, ⟨0x19, 8, true, false, 12⟩, ⟨0x1A, 6, false, false, 12⟩, ⟨0x1B, 6, false, false, 12⟩,
  ⟨0x1C, 9, true, false, 12⟩, ⟨0x1D, 6, false, false, 12⟩,
  ⟨0x20, 10, false, false, 12⟩, ⟨0x21, 11, false, false, 12⟩, ⟨0x22, 10, false, false, 12⟩, ⟨0x23, 11, false, false, 12⟩,
  ⟨0x24, 11, false, false, 12⟩, ⟨0x25, 10, false, false, 12⟩, ⟨0x26, 11, false, false, 12⟩,
  ⟨0x30, 13, true, false, 12⟩, ⟨0x31, 12, false, false, 12⟩, ⟨0x32, 12, false, false, 12⟩, ⟨0x33, 13, true, false, 12⟩,
  ⟨0x34, 13, true, false, 12⟩, ⟨0x35, 12, false, false, 12⟩, ⟨0x36, 13, true, false, 12⟩]

def opTable2 : List OpInfo := [
  ⟨0x40, 14, false, false, 14⟩, ⟨0x41, 14, false, false, 14⟩, ⟨0x42, 14, false, false, 14⟩, ⟨0x43, 14, false, false, 14⟩,
  ⟨0x44, 15, false, false, 14⟩, ⟨0x45, 16, false, false, 14⟩, ⟨0x46, 16, false, false, 14⟩, ⟨0x47, 16, false, false, 14⟩,
  ⟨0x48, 14, false, false, 14⟩,
  ⟨0x50, 18, true, false, 15⟩, ⟨0x51, 18, true, false, 15⟩, ⟨0x52, 19, true, false, 15⟩, ⟨0x53, 19, true, false, 15⟩,
  ⟨0x54, 19, true, false, 15⟩, ⟨0x55, 18, true, false, 15⟩, ⟨0x56, 19, true, false, 15⟩, ⟨0x57, 20, true, false, 15⟩,
  ⟨0x58, 20, true, false, 15⟩, ⟨0x59, 17, false, false, 15⟩, ⟨0x5A, 17, false, false, 15⟩, ⟨0x5B, 18, true, false, 15⟩,
  ⟨0x60, 22, true, false, 3⟩, ⟨0x61, 21, false, false, 3⟩, ⟨0x62, 21, false, false, 3⟩, ⟨0x63, 21, false, false, 3⟩,
  ⟨0x64, 21, false, false, 3⟩, ⟨0x65, 22, true, false, 3⟩,
  ⟨0x70, 23, false, false, 13⟩, ⟨0x71, 23, false, false, 13⟩, ⟨0x72, 23, false, false, 13⟩, ⟨0x73, 23, false, false, 13⟩,
  ⟨0x74, 24, true, false, 13⟩, ⟨0x75, 24, true, false, 13⟩, ⟨0x76, 24, true, false, 13⟩, ⟨0x77, 23, false, false, 13⟩,
  ⟨0x78, 27, true, false, 16⟩, ⟨0x79, 27, true, false, 16⟩, ⟨0x7A, 27, true, false, 16⟩, ⟨0x7B, 27, true, false, 16⟩,
  ⟨0x7C, 27, true, false, 16⟩, ⟨0x7D, 26, false, false, 16⟩,
  ⟨0x80, 38, false, false, 2⟩, ⟨0x81, 38, false, false, 2⟩, ⟨0x82, 38, false, false, 2⟩,
  ⟨0x90, 30, true, false, 11⟩, ⟨0x91, 29, false, false, 11⟩, ⟨0x92, 30, true, false, 11⟩, ⟨0x93, 30, true, false, 11⟩,
  ⟨0x94, 32, true, false, 11⟩, ⟨0x95, 32, true, false, 11⟩, ⟨0x96, 32, true, false, 11⟩, ⟨0x97, 31, true, false, 11⟩,
  ⟨0x98, 34, true, false, 11⟩, ⟨0xA0, 43, true, true, 0⟩]

def opInfo (code : Nat) : Option OpInfo := (opTable ++ opTable2).find? fun o => o.code == code

/-- What a command is checked for before its effect. -/
structure Spec where
  op : Nat
  /-- SUBOP of a Keeper mailbox command (R564), and the block that it names. -/
  sub : Option Nat := none
  blk : Option Nat := none
  /-- It names a CLASSED or OUTPUT object, or makes one (S* of R542, R572). -/
  secObj : Bool := false
  /-- Ranges of high-bandwidth memory whose contents it copies (R579): offset and length. -/
  hbm : List (Nat × Nat) := []
  /-- Host-memory ranges other than its buffer that it gives the module (R494, R575): address and length. -/
  ranges : List (Nat × Nat) := []
  /-- The object is not in a state that accepts the command (R502, NOT_READY). -/
  notReady : Bool := false
  /-- Twin operands by descriptor offset, and twins inside the input buffer by buffer offset (R539). -/
  twins : List Nat := []
  btwins : List Nat := []
  /-- The block's twin counter and the object of EV529. -/
  cnt : RFld := Reg.WLD_TWIN_CNT.COUNT
  obj : Nat := 0
  /-- The first operand of the descriptor at fault, if any. -/
  fault : Option Reply := none
  /-- Bytes of its buffer. -/
  need : Nat := 0
  /-- The first fault of the input buffer's contents, by buffer offset (R540). -/
  bfault : Option Nat := none
  deriving Repr

/-- The entry a command row runs: the first descriptor of its ring not yet dispatched (R506), when it is the row's and,
with FENCE, no earlier command of the ring is in flight (R500). From the power-fail warning on none is applied (R531). -/
def State.dispatchable (s : State) (sp : Spec) (c : Cmd) : Option Infl :=
  let mine := if s.pwr.failing || !s.pwr.mainUp then [] else s.hif.inflight.filter fun i => i.ring == c.ring && !i.data
  match mine.find? fun i => !i.disp with
  | some i =>
    if i.desc == c.desc && i.op == sp.op && (sp.sub.all fun n => c.f 8 0 4 == n) && (!i.fence || mine.head? == some i)
    then some i else none
  | none => none

/-- R503, R539 to R545, R571, R572, R579, R585: the checks before a command's effect, in their order; `none` when they
pass. With them the state as counted. -/
def State.preCheck (sp : Spec) (c : Cmd) (s : State) : Option Reply × State :=
  let fn := fget Ring.FUNC (s.ring c.ring)
  let sec := secureFn fn
  match opInfo sp.op with
  | none => (some (Reply.of 4), s)
  | some o =>
    let blk := sp.blk.getD o.blk
    let twinAt (v n : Nat) (r : Reply) : Option Reply × State := (some r, (s.bump sp.cnt).twinEvent sp.obj blk n v)
    if o.adm && !decide (c.ring < 130) then (some (Reply.of 4), s)
    else if !sec && (o.sec || s.blockSecure blk || (sp.secObj && s.wld.sClassed) || sp.hbm.any fun r => s.hbmSecure r.1 r.2) then
      (some (Reply.of 3), s.denied fn 0 blk (sp.op + c.ring * 2 ^ 16) 0)
    else match (((c.buf, min sp.need c.bufLen) :: sp.ranges).findSome? fun r => s.hostDenied sec r.1 r.2) with
      | some n => (some (Reply.of 3), s.denied fn 0 blk (n + 2 ^ 31) 0)
      | none =>
        if !s.ready o.bit || sp.notReady then (some (Reply.of 1), s)
        else match sp.twins.find? fun o => !twinOk (c.w o) (c.w (o + 4)) with
          | some o => twinAt (c.w o) (c.w (o + 4)) ⟨2, o, 0⟩
          | none =>
            match (if c.bufLen < sp.need || c.dmaErr then none
                else sp.btwins.find? fun o => !twinOk (c.bw o) (c.bw (o + 4))) with
            | some o => twinAt (c.bw o) (c.bw (o + 4)) ⟨2, 0x30, o⟩
            | none =>
              match sp.fault with
              | some r => (some r, s)
              | none =>
                if c.bufLen < sp.need then (some ⟨5, 0x38, sp.need⟩, s)
                else if sp.need != 0 && c.dmaErr then (some (Reply.of 8), s.bump Reg.HIF_DMA_ERR_CNT.COUNT)
                else match sp.bfault with
                  | some o => (some ⟨5, 0x30, o⟩, s)
                  | none => (none, s)

/-- R503: what completes a descriptor at its dispatch whatever its operands: an opcode that is not listed or not
accepted on its ring, an opcode that its requester's world may not give, a mailbox SUBOP that does not exist. -/
def State.opReply (i : Infl) (s : State) : Option Reply × State :=
  let fn := fget Ring.FUNC (s.ring i.ring)
  match opInfo i.op with
  | none => (some (Reply.of 4), s)
  | some o =>
    let sub := (i.desc.toNat >>> 64) % 16
    let blk := if i.op == 0xA0 && (sub < 4 || sub == 6) then 43 else if i.op == 0xA0 then 42 else o.blk
    if o.adm && !decide (i.ring < 130) then (some (Reply.of 4), s)
    else if !secureFn fn && (o.sec || s.blockSecure blk) then
      (some (Reply.of 3), s.denied fn 0 blk (i.op + i.ring * 2 ^ 16) 0)
    else if i.op == 0xA0 && 6 < sub then (some (if s.ready o.bit then Reply.range 8 else Reply.of 1), s)
    else (none, s)

/-- The descriptors at the front of a ring that `opReply` completes, at most `n`. -/
def State.sweep : Nat → Nat → State → State
  | 0, _, s => s
  | n + 1, ring, s =>
    let mine := s.hif.inflight.filter fun i => i.ring == ring && !i.data
    match mine.find? fun i => !i.disp with
    | none => s
    | some i =>
      if i.fence && mine.head? != some i then s
      else match s.opReply i with
        | (none, _) => s
        | (some r, s) => State.sweep n ring (s.complete i r)

/-- A command completes, and what waited behind it at the front of its ring. -/
def State.reply (i : Infl) (r : Reply) (s : State) : State := (s.complete i r).sweep 256 i.ring

/-- A command stays in its block until its end (R506). -/
def State.holdCmd (i : Infl) (s : State) : State :=
  (s.onHif fun h => { h with inflight := h.inflight.map fun j => if j == i then { j with disp := true } else j }).sweep 256
    i.ring

/-- The effect of a host command: checks, effect, completion (R503, R506). `body` answers the reply, or none where the
command waits in its block for its end. Where no such descriptor is ready for dispatch, nothing happens. -/
def State.command (t : Nat) (sp : State → Spec) (c : Cmd) (body : State → Option Reply × State) (s : State) : State :=
  let s1 := s.at_ t
  match s1.dispatchable (sp s1) c with
  | none => s
  | some i =>
    match s1.preCheck (sp s1) c with
    | (some r, s2) => s2.reply i r
    | (none, s2) =>
      match body s2 with
      | (some r, s3) => s3.reply i r
      | (none, s3) => s3.holdCmd i

/-- A body whose effect always completes OK. -/
def okWith (f : State → State) (s : State) : Option Reply × State := (some Reply.ok, f s)

/-- The function that gave a command. -/
def State.fnOf (s : State) (c : Cmd) : Nat := fget Ring.FUNC (s.ring c.ring)

/-! The write arbiter (R517, R524, R526, R528). -/

/-- R517: the oldest backlogged entries of a ring are written to it as it has room. -/
def State.drainN : Nat → Nat → State → State
  | 0, _, s => s
  | fuel + 1, r, s =>
    let c := s.ring r
    if !isRing c 2 || !ringRuns c || s.rb Reg.HIF_QUENCH.EVT_ALL then s
    else match s.hif.backlog.find? fun e => e.1 == r with
      | none => s
      | some e =>
        if ringFree c < e.2.length then s
        else
          let s := e.2.foldl (fun s x => s.entryPut r x) s
          let s := s.onHif fun h => { h with backlog := h.backlog.erase e }
          State.drainN fuel r ((s.wf Reg.HIF_BACKLOG_USED.COUNT (backlogAll s.hif.backlog)).signal r)

def State.drain (r : Nat) (s : State) : State := State.drainN (s.hif.backlog.length + 1) r s

/-- R528: completions owed to a CPL ring that is quenched no longer are written, and their commands leave flight. -/
def State.unhold (cpl : Nat) (s : State) : State :=
  let c := s.ring cpl
  if fbit Ring.QUENCHED c then s
  else
    let due := s.hif.held.filter fun e => e.1 == cpl
    let s := s.onHif fun h => { h with held := h.held.filter fun e => e.1 != cpl }
    due.foldl (fun s e =>
      let s := s.cplPut cpl e.2
      let ring := e.2 % 65536
      let tag := e.2 / 65536 % 65536
      match s.hif.inflight.find? fun i => i.ring == ring && i.tag == tag && i.head % 65536 == (e.2 >>> 224) % 65536 with
      | some i => s.unflight i
      | none => s) s

/-- R524, R526: the write arbiter serves every CPL and EVT ring that has something to write before data of DATA_OUT rings and of
commands. The order of rings within a level shows on the bus alone (log entry 87). -/
def State.levelA (s : State) : State :=
  let s := ((s.hif.backlog.map Prod.fst).eraseDups).foldl (fun s r => s.drain r) s
  ((s.hif.held.map Prod.fst).eraseDups).foldl (fun s r => s.unhold r) s

/-- R526, R540: an output buffer written whole before the completion. -/
def State.bufPut (c : Cmd) (n v : Nat) (s : State) : State := s.levelA.hostPut c.buf n v

/-- The first fault of a list of tests: DETAIL of the first that holds. -/
def faultAt (l : List (Bool × Nat)) : Option Reply := (l.find? fun p => p.1).map fun p => Reply.range p.2

end Sys2Proof.Machine
end

