-- ==== Sys2Proof/Machine/HostOps.lean ====
section
/-! DEFINITION. Host-interface operations that other blocks use: DATA_OUT items (R520 to R522), rings that
cease to exist (R495, R529). -/

namespace Sys2Proof.Machine

/-- R522: a DATA_OUT buffer is written back: bytes 0x10 to 0x1F of its ring entry. -/
def State.outBack (r : Nat) (b : OutBuf) (s : State) : State :=
  let s := s.levelA
  let c := s.ring r
  if !isRing c 4 then s
  else
    let v := b.used % 2 ^ 21 + (fget Ring.LOST c) * 2 ^ 32 + (b.items % 2 ^ 16) * 2 ^ 64 + phaseOf c b.slot * 2 ^ 127
    let s := (s.hostPut (fget Ring.BASE c + (b.slot % ringSize c) * 32 + 16) 16 v).modRing r (fput Ring.LOST 0)
    let s := s.onHif fun h => { h with outBuf := tset none h.outBuf r none, outPend := tmod 0 h.outPend r (· + 1) }
    s.signal r

/-- R522: an item dropped. -/
def State.outDrop (r : Nat) (s : State) : State :=
  s.modRing r fun c => fput Ring.LOST (min (fget Ring.LOST c + 1) 0xFFFFFFFF) c

/-- R522: an item of `n` bytes for a DATA_OUT ring; `fuel` bounds the buffers tried. -/
def State.outItemN : Nat → Nat → Nat → Nat → State → State
  | 0, r, _, _, s => s.outDrop r
  | fuel + 1, r, v, n, s =>
    let c := s.ring r
    if !ringRuns c then s.outDrop r
    else
      let size := (4 + n + 7) / 8 * 8
      match tget none s.hif.outBuf r with
      | some b =>
        if b.used + size ≤ b.len then
          let s := s.hostPut (b.addr + b.used) size (n % 2 ^ 32 + (v % 2 ^ (8 * n)) * 2 ^ 32)
          s.onHif fun h => { h with outBuf := tset none h.outBuf r (some { b with
            used := b.used + size, items := b.items + 1, since := if b.items == 0 then s.tim.now else b.since }) }
        else if b.items == 0 then s.outDrop r
        else State.outItemN fuel r v n (s.outBack r b)
      | none =>
        match s.hif.posted.find? fun p => p.1 == r with
        | none => s.outDrop r
        | some p =>
          let s := s.onHif fun h => { h with posted := h.posted.erase p }
          let b : OutBuf := ⟨p.2.1, p.2.2.1, p.2.2.2, 0, 0, s.tim.now⟩
          match s.hostDenied (fbit Ring.WORLD c) b.addr b.len with
          | some reg => State.outItemN fuel r v n ((s.denied (fget Ring.FUNC c) 0 3 (reg + 2 ^ 31) 0).outBack r b)
          | none => State.outItemN fuel r v n (s.onHif fun h => { h with outBuf := tset none h.outBuf r (some b) })

/-- R521: an item for one DATA_OUT ring. -/
def State.outItem (r v n : Nat) (s : State) : State := State.outItemN (s.hif.posted.length + 3) r v n s.levelA

/-- R521: the DATA_OUT rings of a source: 1 LEDGER, 2 CAPTURE of a definition. -/
def State.outRings (s : State) (src def_ : Nat) : List Nat :=
  (s.hif.rings.filter fun e => isRing e.2 4 && fget Ring.SRC e.2 == src && (src != 2 || fget Ring.CAP_DEF e.2 == def_)).map
    Prod.fst

/-- R521: a copy of a slot to every DATA_OUT ring of its source. -/
def State.outSlot (src def_ v n : Nat) (s : State) : State :=
  (s.outRings src def_).foldl (fun s r => s.outItem r v n) s

/-- The HIF_EVMAP slots that name a ring are cleared (R495, R529). -/
def State.unmapRing (r : Nat) (s : State) : State :=
  (List.range 1024).foldl (fun s n =>
    let s := if s.rb (Reg.HIF_EVMAP.EN n) && s.rf (Reg.HIF_EVMAP.RING n) == r then
      (s.wf (Reg.HIF_EVMAP.EN n) 0).wf (Reg.HIF_EVMAP.RING n) 0 else s
    if s.rb (Reg.HIF_EVMAP.EN2 n) && s.rf (Reg.HIF_EVMAP.RING2 n) == r then
      (s.wf (Reg.HIF_EVMAP.EN2 n) 0).wf (Reg.HIF_EVMAP.RING2 n) 0 else s) s

/-- A ring ceases to exist: its context, backlog, held completions, buffers and mappings go (R495, R529). -/
def State.ringGone (r : Nat) (s : State) : State :=
  let c := s.ring r
  if !fbit Ring.VALID c then s
  else
    let s := if fget Ring.TYPE c == 2 then s.unmapRing r else s
    let s := (s.drop (Reg.HIF_FN.FN_RINGS (fget Ring.FUNC c))).setRing r 0
    let s := if fbit Ring.PIN c && decide (130 ≤ r) then s.drop Reg.HIF_PIN_USED.COUNT else s
    let s := s.onHif fun h => { h with
      backlog := h.backlog.filter fun e => e.1 != r, held := h.held.filter fun e => e.1 != r
      lostSeq := tset (0, 0) h.lostSeq r (0, 0), coalAt := tset 0 h.coalAt r 0, outPend := tset 0 h.outPend r 0
      posted := h.posted.filter fun p => p.1 != r, outBuf := tset none h.outBuf r none, cache := h.cache.filter fun k => k != r }
    s.wf Reg.HIF_BACKLOG_USED.COUNT (backlogAll s.hif.backlog)

/-- R495: a ring deletion that waits ends once nothing else of the ring is in flight. -/
def State.deletesDone (s : State) : State :=
  s.hif.deleting.foldl (fun s d =>
    if s.hif.inflight.any fun i => i.ring == d.1 && !(i.ring == d.2.1 && i.tag == d.2.2 && i.op == 2) then s
    else
      let s := s.onHif fun h => { h with deleting := h.deleting.erase d }
      if d.1 == d.2.1 then (s.finishCmd d.2.1 d.2.2 2 Reply.ok).ringGone d.1
      else (s.ringGone d.1).finishCmd d.2.1 d.2.2 2 Reply.ok) s

end Sys2Proof.Machine
end

