-- ==== Sys2Proof/Machine/Operands.lean ====
section
/-! DEFINITION. The forms of operands and of values: fields of point and condition records, point tags (R10, R11, R541),
the evaluated quantity (R95), exact quantities (R98), scan classes (R58), profile steps (R129). -/

namespace Sys2Proof.Machine

/-! Fields of CTRL (R34) and KIND_PARAM (R40 to R49) in a point record. -/

def Pt.KIND : Fld := ⟨0, 3⟩
def Pt.EXPERT : Fld := ⟨3, 1⟩
def Pt.PROFILE : Fld := ⟨4, 7⟩
def Pt.SCAN_CLASS : Fld := ⟨11, 4⟩
def Pt.STALE_N : Fld := ⟨15, 4⟩
def Pt.DISC_BITS : Fld := ⟨19, 2⟩
def Pt.CLASSED : Fld := ⟨21, 1⟩
def Pt.SEC_VALID : Fld := ⟨22, 3⟩
def Pt.CFG : Fld := ⟨0, 512⟩
def Pt.PARAM : Fld := ⟨256, 128⟩
def Pt.GAIN : Fld := ⟨256, 32⟩
def Pt.OFFSET : Fld := ⟨288, 32⟩
def Pt.AI_CH : Fld := ⟨320, 5⟩
def Pt.AI_LOCAL : Fld := ⟨325, 1⟩
def Pt.DI_CH : Fld := ⟨256, 6⟩
def Pt.DI_LOCAL : Fld := ⟨262, 1⟩
def Pt.DI_INVERT : Fld := ⟨263, 1⟩
def Pt.MODULUS_M1 : Fld := ⟨256, 32⟩
def Pt.MAX_STEP : Fld := ⟨288, 32⟩
def Pt.RATE_SCALE : Fld := ⟨320, 32⟩
def Pt.FORM : Fld := ⟨256, 5⟩
def Pt.SRC_CMW : Fld := ⟨261, 1⟩
def Pt.OPA : Fld := ⟨265, 23⟩
def Pt.OPB : Fld := ⟨288, 23⟩
def Pt.OPC : Fld := ⟨320, 23⟩
def Pt.K : Fld := ⟨352, 32⟩
def Pt.DEST_NODE : Fld := ⟨256, 24⟩
def Pt.DEST_TYPE : Fld := ⟨280, 2⟩
def Pt.LOCAL_CH : Fld := ⟨282, 6⟩
def Pt.DEST_INDEX : Fld := ⟨288, 23⟩
def Pt.RB_EN : Fld := ⟨311, 1⟩
def Pt.RB_PERIODS : Fld := ⟨312, 8⟩
def Pt.RB_INDEX : Fld := ⟨320, 23⟩
def Pt.LOOP_OWNED : Fld := ⟨343, 1⟩
def Pt.RB_BAND : Fld := ⟨352, 32⟩

def kAnalog : Nat := 0
def kDiscrete : Nat := 1
def kCounter : Nat := 2
def kDerived : Nat := 3
def kOutput : Nat := 4
def kNone : Nat := 7

/-! Fields of CCTRL (R90) and CSTATE (R91) in a condition record, and the words of R89. -/

def Cond.SLOT : Fld := ⟨0, 4⟩
def Cond.PRIO : Fld := ⟨4, 3⟩
def Cond.LATCH : Fld := ⟨7, 1⟩
def Cond.ADAPT_HOLD : Fld := ⟨8, 1⟩
def Cond.ROC_DIR : Fld := ⟨9, 2⟩
/-- The five configuration pairs, and the word of ON_DELAY and OFF_DELAY with its reserved bits. -/
def Cond.CFG : Fld := ⟨0, 320⟩
def Cond.ON_WORD : Fld := ⟨192, 32⟩
def Cond.OFF_WORD : Fld := ⟨256, 32⟩

/-- R35: the factory record of a point. -/
def Pt.factory : Rec 128 :=
  let cfg : Nat := 7 + 0xFFFFFFF8 * 2 ^ 32
  BitVec.ofNat 1024 (cfg + crc32c 0 60 cfg * 2 ^ 480 + 0xFFFFFFFF * 2 ^ 544 + 1 * 2 ^ 576 + 0xFFFFFFFF * 2 ^ 864)

/-- R33: a record with CTRL_N and CFG_CRC made to match. -/
def Pt.seal (p : Rec 128) : Rec 128 :=
  let p := fput Pt.CTRL_N (twinOf (fget Pt.CTRL p)) p
  fput Pt.CFG_CRC (crc32c 0 60 (fget Pt.CFG p)) p

/-- R37: the checks of a configuration half. -/
def cfgIntact (cfg : Nat) : Bool :=
  twinOk (cfg % 2 ^ 32) ((cfg >>> 32) % 2 ^ 32) && crc32c 0 60 cfg == (cfg >>> 480) % 2 ^ 32

/-- A condition record with a configuration word and its complement. -/
def Cond.put (f g : Fld) (v : Nat) (c : Rec 64) : Rec 64 := fput g (twinOf v) (fput f v c)
def Cond.putCtrl (v : Nat) (c : Rec 64) : Rec 64 := Cond.put Cond.CCTRL Cond.CCTRL_N v c
def Cond.putLimit (v : Nat) (c : Rec 64) : Rec 64 := Cond.put Cond.LIMIT Cond.LIMIT_N v c
def Cond.putHyst (v : Nat) (c : Rec 64) : Rec 64 := Cond.put Cond.HYST Cond.HYST_N v c
def Cond.putOn (v : Nat) (c : Rec 64) : Rec 64 := Cond.put Cond.ON_WORD Cond.ON_DELAY_N v c
def Cond.putOff (v : Nat) (c : Rec 64) : Rec 64 := Cond.put Cond.OFF_WORD Cond.OFF_DELAY_N v c
def Cond.putState (v : Nat) (c : Rec 64) : Rec 64 := Cond.put Cond.CSTATE Cond.CSTATE_N v c

/-- A CCTRL word. -/
def ctrlWord (slot prio latch hold dir : Nat) : Nat := slot + prio * 2 ^ 4 + latch * 2 ^ 7 + hold * 2 ^ 8 + dir * 2 ^ 9

/-! Access to the tables. -/

def State.pt (s : State) (i : Nat) : Rec 128 := tget Pt.factory s.pts.rec_ i
def State.setPt (i : Nat) (p : Rec 128) (s : State) : State := s.onPts fun x => { x with rec_ := tset Pt.factory x.rec_ i p }
def State.modPt (i : Nat) (f : Rec 128 → Rec 128) (s : State) : State := s.setPt i (f (s.pt i))
def State.px (s : State) (i : Nat) : PtX := tget PtX.zero s.pts.ext i
def State.setPx (i : Nat) (p : PtX) (s : State) : State := s.onPts fun x => { x with ext := tset PtX.zero x.ext i p }
def State.modPx (i : Nat) (f : PtX → PtX) (s : State) : State := s.setPx i (f (s.px i))
def State.cond (s : State) (c : Nat) : Rec 64 := tget 0 s.alm.cond c
def State.setCond (c : Nat) (r : Rec 64) (s : State) : State := s.onAlm fun a => { a with cond := tset 0 a.cond c r }
def State.modCond (c : Nat) (f : Rec 64 → Rec 64) (s : State) : State := s.setCond c (f (s.cond c))
def State.condX (s : State) (c : Nat) : Rec 16 := tget 0 s.alm.ext c
def State.setCondX (c : Nat) (r : Rec 16) (s : State) : State := s.onAlm fun a => { a with ext := tset 0 a.ext c r }
def State.modCondX (c : Nat) (f : Rec 16 → Rec 16) (s : State) : State := s.setCondX c (f (s.condX c))
def State.kind (s : State) (i : Nat) : Nat := fget Pt.KIND (s.pt i)

/-- R30: the tile of a point; R87: the tile of a condition index. -/
def tileOf (i : Nat) : Nat := i / 81920
def condTile (c : Nat) : Nat := c >>> 20

/-- R52: the present slots of a point and their condition indices, in ascending order. -/
def slotList (p : Rec 128) : List (Nat × Nat) :=
  let m := fget Pt.COND_MASK p
  let present := (List.range 16).filter fun k => (m >>> k) % 2 == 1
  present.zip ((List.range present.length).map fun k => fget Pt.COND_BASE p + k)

def State.slotsOf (s : State) (i : Nat) : List (Nat × Nat) := slotList (s.pt i)

/-- R52: the condition index of a present slot. -/
def State.condOf (s : State) (i slot : Nat) : Option Nat := afind (s.slotsOf i) slot

/-- R33, R34, R146: the sectors a point names. -/
def sectorsOf (p : Rec 128) : List Nat :=
  let v := fget Pt.SEC_VALID p
  [fget Pt.PRI_SECTOR p] ++ (if v % 2 == 1 then [fget Pt.SEC_SECTOR1 p] else []) ++
    (if v / 2 % 2 == 1 then [fget Pt.SEC_SECTOR2 p] else []) ++ (if v / 4 % 2 == 1 then [fget Pt.SEC_SECTOR3 p] else [])

/-! Point tags (R10, R11, R541). -/

def tagNode (tag : Nat) : Nat := tag >>> 40
def tagIdx (tag : Nat) : Nat := tag % 2 ^ 23
def mkTag (node i : Nat) : Nat := node * 2 ^ 40 + i

/-- The tag of a point: that of its home. -/
def State.tagOf (s : State) (i : Nat) : Nat :=
  let h := (s.px i).home
  mkTag (if h == 0 then s.rf Reg.FAB_NODE_ID.NODE else h) i

/-- R468: this node answers for home `h`. -/
def State.answersFor (s : State) (h : Nat) : Bool :=
  s.fab.alias_.any fun e => e.1 == h && e.2 == s.rf Reg.FAB_NODE_ID.NODE

/-- R11, R541: a tag operand names a point of this node. -/
def State.tagOk (s : State) (tag : Nat) : Bool :=
  (tag >>> 23) % 2 ^ 17 == 0 && decide (tagIdx tag ≤ 0x4FFFFF) &&
    (tagNode tag == s.rf Reg.FAB_NODE_ID.NODE || (s.answersFor (tagNode tag) && (s.px (tagIdx tag)).home == tagNode tag))

/-! Tile input queues (R31). -/

def tileMax : Nat := 4096

/-- R31: a tile's input queue is full. -/
def State.tileFull (s : State) (k : Nat) : Bool := decide (tileMax ≤ (tget [] s.pts.queues k).length)

/-- An update joins its tile's input queue, or waits before a full one. -/
def State.toTile (u : Upd) (s : State) : State :=
  let k := tileOf u.idx
  let s := if s.tileFull k then s.onPts fun x => { x with waiting := tmod [] x.waiting k (· ++ [u]) }
    else s.onPts fun x => { x with queues := tmod [] x.queues k (· ++ [u]) }
  if s.tileFull k && s.pts.fullAt == 0 then s.onPts fun x => { x with fullAt := s.tim.now + 1 } else s

/-- R31, R38: the first update of a tile's queue has been taken; one that waited before it joins, arriving now. -/
def State.tilePop (k : Nat) (s : State) : State :=
  let q := (tget [] s.pts.queues k).tail
  match tget [] s.pts.waiting k with
  | [] => s.onPts fun x => { x with queues := tset [] x.queues k q }
  | u :: w => s.onPts fun x =>
    { x with queues := tset [] x.queues k (q ++ [{ u with tRx := s.wt }]), waiting := tset [] x.waiting k w }

/-- R31, R61: an update of a point waits in its tile's queue or before it. -/
def State.updWaits (s : State) (i : Nat) : Bool :=
  (tget [] s.pts.queues (tileOf i) ++ tget [] s.pts.waiting (tileOf i)).any fun u => u.idx == i

/-! Scan classes (R58, R59) and profiles (R73, R77, R129). -/

/-- R58: the period of a scan class in ms. -/
def scanMs (c : Nat) : Nat :=
  [1, 2, 5, 10, 20, 50, 100, 200, 500, 1000, 2000, 5000, 10000, 20000, 30000, 60000].getD (c % 16) 1

/-- The watch time of whole multiple `k` of a period: the first at or after it. -/
def tickAt (ms k : Nat) : Nat := (k * ms * 2 ^ 32 + 999) / 1000

/-- The whole multiples of a period that have passed at a watch time. -/
def ticksBy (ms w : Nat) : Nat := w * 1000 / (ms * 2 ^ 32)

/-- R73, R74: a point's scan class and STALE_N: at basic level those of its profile. -/
def State.scanOf (s : State) (p : Rec 128) : Nat :=
  if fbit Pt.EXPERT p then fget Pt.SCAN_CLASS p else s.rf (Reg.PNT_PROFILE.SCAN_CLASS (fget Pt.PROFILE p))
def State.staleNOf (s : State) (p : Rec 128) : Nat :=
  if fbit Pt.EXPERT p then fget Pt.STALE_N p else s.rf (Reg.PNT_PROFILE.STALE_N (fget Pt.PROFILE p))

/-- The fields of a profile that adaptation uses. -/
structure Prof where
  onBase : Nat
  offBase : Nat
  onMax : Nat
  hyst : Nat
  hystMax : Nat
  chatter : Nat
  prio : Nat
  deriving DecidableEq, Repr

def State.prof (s : State) (n : Nat) : Prof :=
  { onBase := s.rf (Reg.PNT_PROFILE.ON_BASE n), offBase := s.rf (Reg.PNT_PROFILE.OFF_BASE n)
    onMax := s.rf (Reg.PNT_PROFILE.ON_MAX n) * 100, hyst := s.rf (Reg.PNT_PROFILE.HYST n)
    hystMax := s.rf (Reg.PNT_PROFILE.HYST_MAX n), chatter := s.rf (Reg.PNT_PROFILE.CHATTER n)
    prio := (s.rd (0x1100C + 16 * n)).toNat }

/-- R73: the priority of a slot: of LL, L, H, HH, rate and deviation, or of a discrete state. -/
def Prof.prioOf (f : Prof) (disc : Bool) (slot : Nat) : Nat :=
  let k := if disc then 6 else [3, 2, 1, 0, 4, 5].getD slot 4
  (f.prio >>> (3 * k)) % 8

/-- R129: the steps d(k) of the on-delay in ms and h(j) of the hysteresis in 0.1 % of span. -/
def Prof.d (f : Prof) (k : Nat) : Nat := if k == 0 then f.onBase else min f.onMax (max f.onBase 100 * 2 ^ k)
def Prof.h (f : Prof) (j : Nat) : Nat := if j == 0 then f.hyst else min f.hystMax (max f.hyst 1 * 2 ^ j)
def Prof.kmax (f : Prof) : Nat := ((List.range 17).find? fun k => f.d k == f.onMax).getD 16
def Prof.jmax (f : Prof) : Nat := ((List.range 9).find? fun j => f.h j == f.hystMax).getD 8

/-- R73: h / 1000 × S as binary32, S the exact span of a point, rounded once (DEDUCED, log entry 20). -/
def hystOf (p : Rec 128) (h : Nat) : Nat :=
  let r := ratSub (fratio f32 (fget Pt.EU_HI p)) (fratio f32 (fget Pt.EU_LO p))
  fflush32 (fofRat f32 (r.1 * (h : Int)) (r.2 * 1000))

/-! The evaluated quantity (R95). -/

/-- R95: AUX for a COUNTER point, VALUE for every other kind. -/
def quantity (p : Rec 128) : Nat := if fget Pt.KIND p == kCounter then fget Pt.AUX p else fget Pt.VALUE p

/-- A value as an exact ratio: a DISCRETE state is an integer, the others binary32. -/
def exactOf (p : Rec 128) (v : Nat) : Int × Nat := if fget Pt.KIND p == kDiscrete then ((v : Int), 1) else fratio f32 v

/-- R44, R95: an operand's value as binary32. A DISCRETE point's state is taken as the integer that it is, converted
(DESIGN CHOICE, log entry 71). -/
def operand (p : Rec 128) : Nat := if fget Pt.KIND p == kDiscrete then fofInt f32 ((fget Pt.VALUE p : Nat) : Int) else quantity p

def ratAbs (x : Int × Nat) : Int × Nat := (((x.1.natAbs : Nat) : Int), x.2)
def ratNeg (x : Int × Nat) : Int × Nat := (-x.1, x.2)
def ratMul (a b : Int × Nat) : Int × Nat := (a.1 * b.1, a.2 * b.2)
/-- A quotient by a positive ratio. -/
def ratDiv (a b : Int × Nat) : Int × Nat := (a.1 * (b.2 : Int), a.2 * b.1.toNat)

/-- R29, R86, R578: where a point record, and the two records of a condition, lie in high-bandwidth memory. -/
def hbmPt (i : Nat) : Nat × Nat := (128 * i, 128)
def hbmCond (q : Nat) : List (Nat × Nat) := [(0x40000000 + 64 * q, 64), (0x140000000 + 16 * q, 16)]

/-- R188: a descriptor before any command: SCALE 1.0, DESC_CRC that of its configuration. -/
def Chan.factory : Rec 64 := fput Chan.SCALE 0x3F800000 (fput Chan.DESC_CRC 0x4135A836 0)

/-- R69: a point is a vote point. -/
def isVote (p : Rec 128) : Bool :=
  fget Pt.KIND p == kDerived && !fbit Pt.SRC_CMW p && (fget Pt.FORM p == 14 || fget Pt.FORM p == 15)

/-- R42, R550: a value that a force or simulation command may not give. -/
def badValue (p : Rec 128) (v : Nat) : Bool :=
  if fget Pt.KIND p == kDiscrete then decide (2 ^ (fget Pt.DISC_BITS p + 1) ≤ v) else !ffinite f32 v

end Sys2Proof.Machine
end

