-- ==== Sys2Proof/Machine/Flags.lean ====
section
/-! DEFINITION. Flag computations: the condition state word with its base state and overlays (R91, R111 to R115), the
quality byte (R53), the point's ACTIVE, UNACK and quality as its conditions make them (R38, R91, R126). -/

namespace Sys2Proof.Machine

/-- R91: a condition state without STATE, which follows from the rest. -/
structure CS where
  base : Nat
  raw : Bool
  active : Bool
  latched : Bool
  shelve : Bool
  suppr : Bool
  oos : Bool
  unconf : Bool
  qhold : Bool
  noval : Bool
  fleet : Bool
  deriving DecidableEq, Repr

def CS.NORM : Nat := 0
def CS.UNACK : Nat := 1
def CS.ACKED : Nat := 2
def CS.RTNUN : Nat := 3

/-- R114: the displayed state: OOS, then SHELVED, then SUPPR, then UNCONF, then the base state. -/
def CS.shown (c : CS) : Nat :=
  if c.oos then 6 else if c.shelve then 4 else if c.suppr then 5 else if c.unconf then 7 else c.base % 4

/-- R91: the fields of CSTATE. -/
def CS.of (w : Nat) : CS :=
  let b (k : Nat) : Bool := (w >>> k) % 2 == 1
  { base := (w >>> 4) % 4, raw := b 6, active := b 7, latched := b 8, shelve := b 9, suppr := b 10, oos := b 11
    unconf := b 12, qhold := b 13, noval := b 14, fleet := b 15 }

def CS.word (c : CS) : Nat :=
  c.shown + (c.base % 4) * 2 ^ 4 + b2n c.raw * 2 ^ 6 + b2n c.active * 2 ^ 7 + b2n c.latched * 2 ^ 8 + b2n c.shelve * 2 ^ 9 +
    b2n c.suppr * 2 ^ 10 + b2n c.oos * 2 ^ 11 + b2n c.unconf * 2 ^ 12 + b2n c.qhold * 2 ^ 13 + b2n c.noval * 2 ^ 14 +
    b2n c.fleet * 2 ^ 15

/-- A condition that shows NORM and has had no value (R549). -/
def CS.fresh : CS := CS.of (2 ^ 14)

/-- R111: activation. `jrn`: the priority is JOURNAL. -/
def CS.activate (jrn : Bool) (c : CS) : CS :=
  { c with active := true, fleet := false, base := if jrn then CS.ACKED else CS.UNACK }

/-- R111, R112, R115: return; `latch`: the condition latches, `fleet`: its activation is of the same tick (R113). The mark
answers whether the return is fleeting. -/
def CS.return_ (latch jrn fleet : Bool) (c : CS) : CS × Bool :=
  if latch && !jrn then ({ c with latched := true }, false)
  else
    let f := fleet && (c.base != CS.ACKED || jrn)
    ({ c with
        active := false
        base := if c.base == CS.UNACK then (if c.shelve || c.suppr then CS.NORM else CS.RTNUN)
          else if c.base == CS.ACKED then CS.NORM else c.base
        fleet := c.fleet || f }, f)

/-- R111, R114, R115: an acknowledgement. -/
def CS.ack (c : CS) : CS :=
  if c.shown == 6 || c.shown == 7 then c
  else if c.base == CS.RTNUN then { c with base := CS.NORM }
  else if c.base == CS.UNACK || c.base == CS.ACKED then
    if c.latched then { c with base := CS.NORM, active := false, latched := false } else { c with base := CS.ACKED }
  else c

/-- R114: the out-of-service input. -/
def CS.outOfService (c : CS) : CS :=
  { c with raw := false, active := false, latched := false, shelve := false, unconf := false, base := CS.NORM, oos := true }

/-- R134: a condition that becomes JOURNAL. -/
def CS.toJournal (c : CS) : CS :=
  { c with base := if c.base == CS.UNACK then CS.ACKED else if c.base == CS.RTNUN then CS.NORM else c.base }

/-- R119: what makes a condition change. -/
def CS.key (c : CS) : Nat × Nat × Bool × Bool := (c.shown, c.base, c.active, c.latched)

def State.cs (s : State) (c : Nat) : CS := CS.of (fget Cond.CSTATE (s.cond c))

/-- A gauge of RO kind set one up, one down, or left. -/
def State.gauge (f : RFld) (was is_ : Bool) (s : State) : State :=
  if was == is_ then s else if is_ then s.bump f else s.drop f

/-- A condition state written with its complement; ALM_UNCONF_NOW and ALM_QHOLD_NOW follow. -/
def State.setCs (c : Nat) (v : CS) (s : State) : State :=
  let o := s.cs c
  ((s.modCond c (Cond.putState v.word)).gauge Reg.ALM_UNCONF_NOW.COUNT o.unconf v.unconf).gauge Reg.ALM_QHOLD_NOW.COUNT
    o.qhold v.qhold

def State.modCs (c : Nat) (f : CS → CS) (s : State) : State := s.setCs c (f (s.cs c))

def State.prio (s : State) (c : Nat) : Nat := fget Cond.PRIO (s.cond c)
def State.isJournal (s : State) (c : Nat) : Bool := s.prio c == 4

/-! Quality (R53). -/

/-- R53: the quality byte with GOOD derived. -/
def goodOf (q : Nat) : Nat := if (q % 256) / 2 == 0 then 1 else (q % 256) / 2 * 2

/-- R53: the evaluated quantity lies outside the engineering range. -/
def outOfRange (p : Rec 128) : Bool :=
  let k := fget Pt.KIND p
  if k == kDiscrete || k == kNone then false
  else
    let x := quantity p
    !(fle f32 (fget Pt.EU_LO p) x && fle f32 x (fget Pt.EU_HI p))

/-- R685: a local point. -/
def localPt (p : Rec 128) : Bool :=
  let k := fget Pt.KIND p
  (k == kAnalog && fbit Pt.AI_LOCAL p) || (k == kDiscrete && fbit Pt.DI_LOCAL p) ||
    (k == kOutput && (fget Pt.DEST_TYPE p == 2 || fget Pt.DEST_TYPE p == 3))

/-- R684, R690: the Keeper evaluates the point. -/
def State.keeperHas (s : State) (i : Nat) : Bool := s.rb Reg.PWR_LSHIP_STAT.LSHIP_OP && localPt (s.pt i)

/-- R615, R623: the local output stage of an OUTPUT point reports a fault. -/
def State.stageFault (s : State) (p : Rec 128) : Bool :=
  let ch := fget Pt.LOCAL_CH p
  if fget Pt.KIND p != kOutput then false
  else if fget Pt.DEST_TYPE p == 2 then s.rb (Reg.LIO_AO.OPEN ch) || s.rb (Reg.LIO_AO.COMPL ch) || s.rb (Reg.LIO_AO.THERM ch)
  else if fget Pt.DEST_TYPE p == 3 then s.rb (Reg.LIO_DIO.OVL (ch - 16)) || s.rb (Reg.LIO_DIO.RB_MISMATCH (ch - 16))
  else false

/-- R53: the quality byte of a point as its causes stand. -/
def State.qualityNow (s : State) (i : Nat) : Nat :=
  let p := s.pt i
  let x := s.px i
  let unc := x.unconf != 0 || (slotList p).any fun k => (s.cs k.2).unconf
  -- STALE stays clear while FORCED or SIMULATED (R55, R56)
  let src := if x.own / 4 % 4 != 0 then x.srcQ &&& 0xFD else x.srcQ
  goodOf (src ||| x.own ||| (if x.disputed != 0 then 16 else 0) ||| (if unc then 32 else 0) |||
    (if outOfRange p then 64 else 0) ||| (if x.faults != 0 || s.stageFault p then 128 else 0))

def State.quality (s : State) (i : Nat) : Nat := fget Pt.QUALITY (s.pt i)

/-- A point's quality made to follow its causes. -/
def State.requal (i : Nat) (s : State) : State := s.modPt i (fput Pt.QUALITY (s.qualityNow i))

/-- R101: STALE or SENSOR_FAULT is set. -/
def badQual (q : Nat) : Bool := q / 2 % 2 == 1 || q / 128 % 2 == 1

/-- R38, R91: a point's ACTIVE and UNACK words made to follow its conditions. -/
def State.mirrorBits (i : Nat) (s : State) : State :=
  let l := s.slotsOf i
  let a := l.foldl (fun m k => if (s.cs k.2).active then m + 2 ^ k.1 else m) 0
  let u := l.foldl (fun m k =>
    let b := (s.cs k.2).base
    if (b == CS.UNACK || b == CS.RTNUN) && !s.isJournal k.2 then m + 2 ^ k.1 else m) 0
  s.modPt i fun p => fput Pt.UNACK u (fput Pt.ACTIVE a p)

/-- R137, R677, R678: tiles without a configured point are power-gated; and the count of local points (R694). -/
def State.tileGates (s : State) : State :=
  let used := ((s.pts.rec_.filter fun e => fget Pt.KIND e.2 != kNone).map fun e => tileOf e.1).eraseDups
  let m := (List.range 64).foldl (fun m t =>
    if s.pwr.mainUp && (used.contains t || !s.rb Reg.PWR_GATE_CTRL.TILE_GATE_EN) then m else m + 2 ^ t) 0
  let locals := (s.pts.rec_.filter fun e => fget Pt.KIND e.2 != kNone && localPt e.2).length
  ((s.wf Reg.PWR_TILE_GATED_LO.GATED (m % 2 ^ 32)).wf Reg.PWR_TILE_GATED_HI.GATED (m / 2 ^ 32)).wf Reg.PWR_LSHIP_STAT.LPOINTS locals

end Sys2Proof.Machine
end

