-- ==== Sys2Proof/Machine/LedgerHist.lean ====
section
/-! DEFINITION. Bin-edge sets (R332 to R335) and the accumulators of the Ledger's histograms (R336, R337, R352). -/

namespace Sys2Proof.Machine

/-- R334: the basic set. -/
def basicSet : Rec 64 :=
  BitVec.ofNat 512 (1 + 2 + 6 * 4 + ((List.range 15).foldr (fun k n => fofRat f32 ((k : Nat) : Int) 14 + n * 2 ^ 32) 0) * 2 ^ 32)

/-- R332: the contents of a set; EDGE[k]. -/
def State.binSet (s : State) (n : Nat) : Rec 64 := if n == 0 then basicSet else tget 0 s.ldg.binSets n
def binEdge (b : Rec 64) (k : Nat) : Nat := fget ⟨32 * k, 32⟩ b

/-- R335: the set of a point that a tier uses in the interval of watch time `w`: number and contents; none without histograms
(R332, R334). -/
def State.binsOf (s : State) (i tier w : Nat) : Option (Nat × Rec 64) :=
  let n := match tget none s.ldg.setOld (i * 3 + tier) with
    | some (o, e) => if w < e then o else fget Pt.LDG_BINSET (s.pt i)
    | none => fget Pt.LDG_BINSET (s.pt i)
  if n == 0xFFFF then none
  else
    let b := match tget none s.ldg.binOld (n * 3 + tier) with
      | some (o, e) => if w < e then o else s.binSet n
      | none => s.binSet n
    if fbit Bin.VALID b && (fget Bin.TIER_MASK b >>> tier) % 2 == 1 then some (n, b) else none

/-- R332: edge `k` of a bin set for a point, as an exact ratio; a relative edge lies in its engineering range. -/
def edgeOf (p : Rec 128) (b : Rec 64) (k : Nat) : Int × Nat :=
  let lo := fratio f32 (fget Pt.EU_LO p)
  let span := ratSub (fratio f32 (fget Pt.EU_HI p)) lo
  let e := fratio f32 (binEdge b k)
  if fbit Bin.REL b then ratAdd lo (e.1 * span.1, e.2 * span.2) else e

/-- R333: the bin of a quantity. -/
def binOf (p : Rec 128) (b : Rec 64) (v : Nat) : Nat :=
  ((List.range 15).filter fun k => ratLe (edgeOf p b (k + 1)) (fratio f32 v)).length

def tierSec (tier : Nat) : Nat := [1, 60, 3600].getD tier 1

/-- R335: the start of the interval of a tier that a watch time falls in. -/
def tierStart (tier w : Nat) : Nat := (w / 2 ^ 32 / tierSec tier) * tierSec tier * 2 ^ 32

/-- The end of the interval that begins at `t`. -/
def tierEnd (tier t : Nat) : Nat := t + tierSec tier * 2 ^ 32

/-- R335: a change made now is in force from the next boundary of a tier on; `was`: what stands until then. -/
def State.untilNext {α : Type} (s : State) (tier : Nat) (was : α) (old : Option (α × Nat)) : Option (α × Nat) :=
  match old with
  | some (o, e) => if s.wt < e then some (o, e) else some (was, tierEnd tier (tierStart tier s.wt))
  | none => some (was, tierEnd tier (tierStart tier s.wt))

/-- A new accumulator, of an interval that begins at `t`. A DISCRETE point enters it in state `v`, which counts as seen from its
beginning on (R337, R352; DEDUCED, log entry 85). -/
def Acc1.open_ (disc : Bool) (t v : Nat) : Acc1 :=
  { tStart := t, n := 0, nBad := 0, total := 0, qualOr := 0, order := false, bins := List.replicate 16 0
    minV := if disc then v else 0, maxV := if disc then v else 0
    tMin := if disc then t + 1 else 0, tMax := if disc then t + 1 else 0, dState := v, dStart := t }

def addBin (k n : Nat) (l : List Nat) : List Nat := l.set k (l.getD k 0 + n)

def sat32 (n : Nat) : Nat := min n 0xFFFFFFFF

/-- R337, R352: the present state accrues up to a source time and another starts. -/
def Acc1.turn (v t : Nat) (a : Acc1) : Acc1 :=
  if v == a.dState then a
  else if t < a.dStart then { a with total := sat32 (a.total + 1), order := true, dState := v }
  else { a with total := sat32 (a.total + 1), bins := addBin a.dState (t - a.dStart) a.bins, dState := v, dStart := t }

/-- R336: an applied update enters an accumulator. `p` is the point after it, `d` a counter's increment. -/
def Acc1.add (p : Rec 128) (b : Rec 64) (d : Nat) (a : Acc1) : Acc1 :=
  let q := fget Pt.QUALITY p
  let v := quantity p
  let disc := fget Pt.KIND p == kDiscrete
  let t := fget Pt.T_SRC p
  let a := { a with n := a.n + 1, qualOr := a.qualOr ||| q, total := if fget Pt.KIND p == kCounter then sat32 (a.total + d) else a.total }
  let a := if disc then a.turn v t else a
  if badQual q then { a with nBad := a.nBad + 1 }
  else
    let less := if disc then decide (v < a.minV) else flt f32 v a.minV
    let more := if disc then decide (a.maxV < v) else flt f32 a.maxV v
    { a with
      bins := if disc then a.bins else addBin (binOf p b v) 1 a.bins
      minV := if a.tMin == 0 || less then v else a.minV
      tMin := if a.tMin == 0 || less then t + 1 else a.tMin
      maxV := if a.tMax == 0 || more then v else a.maxV
      tMax := if a.tMax == 0 || more then t + 1 else a.tMax }

/-! HIST records and live blocks (R338, R340, R346). -/

/-- R340: an offset in µs, saturating; all ones where there is none. A source time before T_START gives a value that the manual does
not state. -/
def State.ofsUs (t start : Nat) (s : State) : Nat × State :=
  if t == 0 then (0xFFFFFFFF, s)
  else if t - 1 < start then
    let (v, s) := s.fresh
    (v % 2 ^ 32, s)
  else (sat32 (usOf (t - 1 - start)), s)

/-- R340: a HIST record's body, from 0x08 on. -/
def State.histBody (i tier set : Nat) (a : Acc1) (s : State) : Nat × State :=
  let p := s.pt i
  let k := fget Pt.KIND p
  let bins := if k == kDiscrete then a.bins.map fun n => n * 1000 / 2 ^ 32 else a.bins
  let (m1, s) := s.ofsUs a.tMin a.tStart
  let (m2, s) := s.ofsUs a.tMax a.tStart
  let tail := [a.n, a.nBad, a.total] ++ bins ++ [a.minV, a.maxV, m1, m2]
  (i + (tier + k * 2 ^ 2 + b2n a.order * 2 ^ 5 + a.qualOr * 2 ^ 8 + set * 2 ^ 16) * 2 ^ 32 + a.tStart * 2 ^ 64 +
    (tail.foldr (fun v n => sat32 v + n * 2 ^ 32) 0) * 2 ^ 128, s)

/-- R338: an accumulator closes at boundary `b`: a DISCRETE point's present state accrues up to it, and a record is written for a
point with updates and for every DISCRETE point. -/
def State.histClose (i tier set b : Nat) (a : Acc1) (s : State) : State :=
  let disc := s.kind i == kDiscrete
  let a := if disc then { a with bins := addBin a.dState (b - a.dStart) a.bins } else a
  if a.n == 0 && !disc then s
  else
    let (body, s) := s.histBody i tier set a
    s.ldgTake ⟨typHist, body, 2, s.pwr.keeping, false, a.tStart, 0, 0⟩

/-- R338: the accumulator of a point and tier follows to the interval that `w` begins. -/
def State.histTurn (i tier w : Nat) (s : State) : State :=
  match tget none s.ldg.acc (i * 3 + tier) with
  | none => s
  | some a =>
    if w ≤ a.tStart then s
    else
      let s := match s.binsOf i tier a.tStart with
        | some (n, _) => s.histClose i tier n (tierEnd tier a.tStart) a
        | none => s
      let next := if s.kind i == kDiscrete && (s.binsOf i tier w).isSome then some (Acc1.open_ true w a.dState) else none
      s.onLdg fun l => { l with acc := tset none l.acc (i * 3 + tier) next }

/-- R346: the live block of pinned point number `k`: a HIST record's layout, CRC and VMARK zero. -/
def State.liveBlock (i : Nat) (s : State) : Nat × State :=
  let w := tierStart 1 s.wt
  let a := (tget none s.ldg.acc (i * 3 + 1)).getD (Acc1.open_ (s.kind i == kDiscrete) w (fget Pt.VALUE (s.pt i)))
  let n := match s.binsOf i 1 a.tStart with
    | some (n, _) => n
    | none => 0xFFFF
  let (b, s) := s.histBody i 1 n a
  ((typHist + 2 * 2 ^ 8) * 2 ^ 32 + b * 2 ^ 64, s)

/-- R346: the live block of an updated point is rewritten, at most once per ms: a second update within the ms is owed. -/
def State.livePut (i : Nat) (s : State) : State :=
  match s.ldg.view with
  | none => s
  | some (_, _, pins) =>
    match pins.findIdx? fun j => j == i with
    | none => s
    | some k =>
      if tget 0 s.ldg.viewAt (1024 + k) == msOf s.wt + 1 then
        s.onLdg fun l => { l with viewDue := if l.viewDue.contains i then l.viewDue else l.viewDue ++ [i] }
      else
        let (v, s) := s.liveBlock i
        (s.onLdg fun l => { l with
          viewAt := tset 0 l.viewAt (1024 + k) (msOf s.wt + 1), viewDue := l.viewDue.erase i }).viewPut (1024 + k) (65536 + 128 * k) 128 120 v

/-- R346: the live blocks owed are rewritten once their ms is over. -/
def State.liveDue (s : State) : State := s.ldg.viewDue.foldl (fun s i => s.livePut i) s

/-- R335: a point's bin-edge set changes: each tier goes on with the old one until its next boundary. -/
def State.histRebind (i : Nat) (old : Rec 128) (s : State) : State :=
  let p := s.pt i
  let was := if fget Pt.KIND old == kNone then 0xFFFF else fget Pt.LDG_BINSET old
  (List.range 3).foldl (fun s tier =>
    let k := i * 3 + tier
    let s := if fget Pt.KIND old == fget Pt.KIND p then s else s.onLdg fun l => { l with acc := tset none l.acc k none }
    if was == fget Pt.LDG_BINSET p then s
    else s.onLdg fun l => { l with setOld := tset none l.setOld k (s.untilNext tier was (tget none l.setOld k)) }) s

/-- R338: the interval of a tier that an update with reception time `t` enters: the one that holds `t`, or, where that one's
records are already written, the one that is open (DESIGN CHOICE, log entry 85). -/
def State.histInterval (s : State) (i tier t : Nat) : Nat :=
  max (max (tierStart tier t) (tget 0 s.ldg.tierAt (if s.pwr.keeping then tier + 3 else tier) - 1))
    (((tget none s.ldg.acc (i * 3 + tier)).map fun a => a.tStart).getD 0)

/-- R336, R337: the accumulator that an applied update of point `i` enters on a tier, opened for the interval of its T_RX; none where
the tier has none. -/
def State.histAcc (s : State) (i tier old : Nat) : Option (Acc1 × Rec 64) :=
  let p := s.pt i
  let w := s.histInterval i tier (fget Pt.T_RX p)
  (s.binsOf i tier w).map fun e =>
    ((tget none (s.histTurn i tier w).ldg.acc (i * 3 + tier)).getD (Acc1.open_ (fget Pt.KIND p == kDiscrete) w old), e.2)

/-- R352: a new DISCRETE state lies before the last change in the accumulator. -/
def State.histLate (s : State) (i tier old : Nat) : Bool :=
  let p := s.pt i
  match s.histAcc i tier old with
  | none => false
  | some (a, _) => fget Pt.KIND p == kDiscrete && fget Pt.VALUE p != a.dState && decide (fget Pt.T_SRC p < a.dStart)

/-- R336: an applied update of a point enters the accumulator of a tier. -/
def State.histTake (i tier d old : Nat) (s : State) : State :=
  match s.histAcc i tier old with
  | none => s
  | some (a, b) =>
    (s.histTurn i tier (s.histInterval i tier (fget Pt.T_RX (s.pt i)))).onLdg fun l =>
      { l with acc := tset none l.acc (i * 3 + tier) (some (a.add (s.pt i) b d)) }

/-- R336, R352, R356, R357: an applied update of a point enters its open accumulators, in Lightship operation those of the
Lightship part; after the power-fail warning the main domain's take nothing. `old` is the state before. -/
def State.histUpdate (i d old : Nat) (s : State) : State :=
  let late := !(s.pwr.failing && !s.pwr.keeping) && (List.range 3).any fun tier => s.histLate i tier old
  let s := if s.pwr.failing && !s.pwr.keeping then s else (List.range 3).foldl (fun s tier => s.histTake i tier d old) s
  let s := if late then s.bump Reg.LDG_ORDER_CNT.COUNT else s
  if s.pwr.keeping then s else s.livePut i

end Sys2Proof.Machine
end

