-- ==== Sys2Proof/Machine/Ledger.lean ====
section
/-! DEFINITION. The Ledger's stream: slots, flushes to a volume or the spool, rotation, the spool and the power-fail
area, the trip ledger (R339, R345, R353 to R360, R365 to R367, R373). -/

namespace Sys2Proof.Machine

/-- A number made of fields: each value in its place. -/
def pack (l : List (Fld × Nat)) : Nat := l.foldl (fun a p => a + (p.2 % 2 ^ p.1.w) * 2 ^ p.1.lo) 0

/-- R339, R345: the bytes of a slot at a position of its stream. -/
def slotBytes (pos : Nat) (r : LRec) : Nat :=
  let n := 64 * r.len64
  let q := 2 * pos % 2 ^ 32
  let v := q + (r.typ + r.len64 * 2 ^ 8 + b2n r.lship * 2 ^ 30 + b2n r.replay * 2 ^ 31) * 2 ^ 32
    + (r.body % 2 ^ (8 * (n - 20))) * 2 ^ 64
  v + (crc32c 4 (n - 12) v + q * 2 ^ 32 + 0x4C444756 * 2 ^ 64) * 2 ^ (8 * (n - 12))

/-! Volumes (R364 to R367, R373). -/

def State.vol (s : State) (v : Nat) : Option Vol := tget none s.hst.vols v
def State.setVol (v : Nat) (x : Option Vol) (s : State) : State := s.onHst fun h => { h with vols := tset none h.vols v x }
def State.modVol (v : Nat) (f : Vol → Vol) (s : State) : State := s.setVol v ((s.vol v).map f)

/-- A volume takes slots: it is OPEN and mounted, its last segment is not closed, and the historian writes (HST_CTRL). -/
def State.volOpen (s : State) (v : Nat) : Bool :=
  s.rb Reg.HST_CTRL.EN && s.rf (Reg.HST_VOL.STATE v) == 2 &&
    match s.vol v with
    | some x => x.mounted && !x.closing
    | none => false

/-- The volume that accepts the Ledger stream, if any. -/
def State.ledgerVol (s : State) : Option Nat :=
  let v := s.rf Reg.LDG_CUR.VOLUME
  if s.rb Reg.LDG_CUR.VALID && s.rb (Reg.HST_VOL.LEDGER v) && s.volOpen v then some v else none

/-- R373: at basic level the next listed OPEN volume in ring order takes the place of a current volume that is not
OPEN. -/
def State.rotate (s : State) : State :=
  let cur := s.rf Reg.LDG_CUR.VOLUME
  if s.rb Reg.LDG_CTRL.ROT_EXPERT || (s.rb Reg.LDG_CUR.VALID && s.rf (Reg.HST_VOL.STATE cur) == 2) then s
  else
    let listed (k : Nat) : Bool := s.rb (Reg.LDG_ROT.VALID k)
    let here := ((List.range 16).find? fun k => listed k && s.rf (Reg.LDG_ROT.VOLUME k) == cur && s.rb Reg.LDG_CUR.VALID).getD 15
    let next := (List.range 16).findSome? fun d =>
      let k := (here + 1 + d) % 16
      let v := s.rf (Reg.LDG_ROT.VOLUME k)
      if listed k && s.rb (Reg.HST_VOL.LEDGER v) && s.volOpen v then some v else none
    match next with
    | none => s
    | some v =>
      ((((s.wf Reg.LDG_CUR.VOLUME v).wf Reg.LDG_CUR.VALID 1).dirtyMod).onLdg fun l => { l with flushDue := true }).raise
        Ev.LDG_ROTATE v [cur]

/-- R361: the commands that one controller can hold at once: 32 entries in its admin queue, 256 in each of four I/O queue pairs. -/
def nvDepth (k : NvKind) : Nat := if k.admin then 32 else 1024

/-- R361: commands that wait are issued in turn: one at a time of each leg (log entry 11), as many of a controller as its queues
hold. `now`: the instant of issue. -/
def nvIssue (now : Nat) (l : List NvCmd) : List NvCmd :=
  l.foldl (fun acc c =>
    let behind := c.kind.ordered && acc.any fun d => d.kind.ordered && d.vol == c.vol && d.leg == c.leg
    let out (m : List NvCmd) : Nat := (m.filter fun d => d.t != 0 && d.ctrlr == c.ctrlr && d.kind.admin == c.kind.admin).length
    let full := decide (nvDepth c.kind ≤ out acc + out (l.drop (acc.length + 1)))
    acc ++ [if c.t != 0 || behind || full then c else { c with t := now + 1 }]) []

/-- R361: a command is given to a controller. -/
def State.nvAdd (c : NvCmd) (s : State) : State :=
  s.onHst fun h => { h with nv := nvIssue s.tim.now (h.nv ++ [{ c with t := 0 }]) }

/-- The legs of a volume that are written: number and place. -/
def State.volLegs (s : State) (v : Nat) : List (Nat × Leg) :=
  match s.vol v with
  | none => []
  | some x =>
    (if x.leg0.lost then [] else [(0, x.leg0)]) ++
      (if s.rb (Reg.HST_VOL.MIRROR v) && !x.leg1.lost then [(1, x.leg1)] else [])

/-- A write of bytes of the open segment's body from `fro` up to the next slot's place, on every leg; the last 4 KiB block
is padded with zeros (R354). -/
def State.volEmit (v fl fro : Nat) (s : State) : State :=
  match s.vol v with
  | none => s
  | some x =>
    let last := (x.fill + 4095) / 4096
    if x.fill ≤ fro then s
    else
      let s := (s.volLegs v).foldl (fun s l => s.nvAdd ⟨.write, l.2.ctrlr, l.2.nsid, v, l.1, x.seg,
        l.2.slba + x.seg * 256 + fro / 4096, last - fro / 4096, x.body >>> (8 * fro), fl, 0, 0, 0⟩) s
      s.modVol v fun x => { x with fill := last * 4096 }

/-- R365: a segment header. -/
def segHeader (v gen node seg t : Nat) : Nat :=
  0x4D474553 + v * 2 ^ 32 + gen * 2 ^ 64 + node * 2 ^ 96 + seg * 2 ^ 128 + t * 2 ^ 192

/-- The open segment gets its header. -/
def State.volBegin (v : Nat) (s : State) : State :=
  s.modVol v fun x => { x with
    segOpen := true, tOpen := s.wt, fill := 64, bodyEnd := 64, slots := 0, tFirst := 0, tLast := 0, seqFirst := 0, seqLast := 0
    body := segHeader v (s.rf (Reg.HST_VOL.VOL_GEN v)) (s.rf Reg.FAB_NODE_ID.NODE) x.seg s.wt }

/-- R365: the trailer of a segment. -/
def segTrailer (v gen : Nat) (x : Vol) : Nat :=
  let t := 0x4C494154 + v * 2 ^ 32 + gen * 2 ^ 64 + x.seg * 2 ^ 96 + x.slots * 2 ^ 128 + x.bodyEnd * 2 ^ 160 + x.tFirst * 2 ^ 192
    + x.tLast * 2 ^ 256 + x.seqFirst * 2 ^ 320 + x.seqLast * 2 ^ 384 + crc32c 0 x.bodyEnd x.body * 2 ^ 448
  t + crc32c 0 60 t * 2 ^ 480

/-- R366: the body is complete: Flush where the controller reports a volatile write cache, then the trailer block. -/
def State.volClose (v : Nat) (s : State) : State :=
  match s.vol v with
  | none => s
  | some x =>
    let s := (s.volLegs v).foldl (fun s l =>
      let c : NvCmd := ⟨.trailer, l.2.ctrlr, l.2.nsid, v, l.1, x.seg, l.2.slba + x.seg * 256 + 255, 1,
        segTrailer v (s.rf (Reg.HST_VOL.VOL_GEN v)) x, 0, 0, 0, 0⟩
      let s := if s.rb (Reg.HST_CTRLR.VWC l.2.ctrlr) then s.nvAdd { c with kind := .flush, nblk := 0, data := 0 } else s
      s.nvAdd c) s
    s.modVol v fun x => { x with
      segOpen := false, seg := x.seg + 1, closing := decide (s.rf (Reg.HST_VOL.SEG_COUNT v) ≤ x.seg + 1), body := 0 }

/-- R367: slots go into a volume in order, never across a segment. `fl` is the flush they belong to plus one, `fro` the
first byte of the segment not yet handed to the drives. The records that the volume no longer takes are answered. -/
def State.volSlots (v fl : Nat) : Nat → List (LRec × Nat) → State → State × List (LRec × Nat)
  | fro, [], s => (s.volEmit v fl fro, [])
  | fro, (r, b) :: rs, s =>
    match s.vol v with
    | none => (s, (r, b) :: rs)
    | some x =>
      if x.closing then (s, (r, b) :: rs)
      else
        let n := 64 * r.len64
        let full := x.segOpen && decide (0xFF000 < x.fill + n)
        let s := if full then (s.volEmit v fl fro).volClose v else s
        let stop := match s.vol v with
          | some y => y.closing
          | none => true
        if stop then (s, (r, b) :: rs)
        else
          let fresh := full || !x.segOpen
          let s := if fresh then s.volBegin v else s
          let s := s.modVol v fun y => { y with
            body := y.body + b * 2 ^ (8 * y.fill), fill := y.fill + n, bodyEnd := y.fill + n, slots := y.slots + 1
            tFirst := if y.slots == 0 then r.t else y.tFirst, tLast := r.t
            seqFirst := if r.typ != typChange then y.seqFirst else if y.seqFirst == 0 then r.seq else min y.seqFirst r.seq
            seqLast := if r.typ == typChange then max y.seqLast r.seq else y.seqLast }
          State.volSlots v fl (if fresh then 0 else fro) rs s

/-- Records with their slot bytes, from a position of their stream on. -/
def withSlots (pos : Nat) (rs : List LRec) : List (LRec × Nat) := rs.zipIdx.map fun p => (p.1, slotBytes (pos + p.2) p.1)

/-- Records written to a volume as one flush; the number not taken is answered. -/
def State.volFlush (v fl : Nat) (rs : List (LRec × Nat)) (s : State) : State × List (LRec × Nat) :=
  State.volSlots v fl (match s.vol v with
    | some x => if x.segOpen then x.fill else 0
    | none => 0) rs s

/-- R353: DROPPING clears when the buffer falls below half. -/
def State.dropCheck (s : State) : State :=
  if s.rf Reg.LDG_BUF_USED.BYTES < 0x200000 then s.wf Reg.LDG_STAT.DROPPING 0 else s

/-- The slots of a flush are written on every leg, or spooled: their records leave the buffer and its commands complete. -/
def State.flushWritten (fl : Nat) (s : State) : State :=
  if s.hst.nv.any fun c => c.flush == fl + 1 then s
  else
    let s := s.onLdg fun l => { l with writing := l.writing.filter fun w => w.1 != fl }
    let due := s.ldg.flushCmds.filter fun c => c.1 == fl
    let s := s.onLdg fun l => { l with flushCmds := l.flushCmds.filter fun c => c.1 != fl }
    (due.foldl (fun s c => s.finishCmd c.2.1 c.2.2 0x72 Reply.ok) s).bufGauge.dropCheck

/-- The slots given to DATA_OUT as they are written. -/
def State.slotsOut (l : List (LRec × Nat)) (s : State) : State := l.foldl (fun s p => s.outSlot 1 0 p.2 (64 * p.1.len64)) s

/-- R354: the buffer's records are flushed to volume `v`. -/
def State.flushTo (v : Nat) (s : State) : State :=
  let fl := s.ldg.flushNo
  let s := ((s.bump Reg.LDG_FLUSH_CNT.COUNT).wf Reg.LDG_STAT.SPOOLING 0).wf Reg.LDG_STAT.NO_VOLUME 0
  let all := withSlots s.ldg.pos s.ldg.buf
  let (s, rest) := s.volFlush v (fl + 1) all
  let took := all.take (all.length - rest.length)
  let s := s.onLdg fun l => { l with
    buf := rest.map Prod.fst, writing := l.writing ++ took.map (fun p => (fl, p.1)), flushNo := fl + 1, pos := l.pos + took.length }
  (s.slotsOut took).flushWritten fl

/-- R355: the buffer's records are flushed to the spool. -/
def State.spoolFlush (s : State) : State :=
  let fl := s.ldg.flushNo
  let s := s.bump Reg.LDG_FLUSH_CNT.COUNT
  let all := withSlots s.ldg.spoolPos s.ldg.buf
  let (s, ev) := (s.onLdg fun l => { l with buf := [], flushNo := fl + 1 }).spoolTake s.ldg.buf
  let s := ((s.slotsOut all).wf Reg.LDG_STAT.SPOOLING 1).bufGauge
  let s := ev.foldl (fun s e => s.raise e.1 e.2.1 e.2.2) s
  let s := if s.rb Reg.LDG_STAT.NO_VOLUME then s
    else (s.wf Reg.LDG_STAT.NO_VOLUME 1).raise Ev.LDG_NO_VOLUME 0 [s.rf Reg.LDG_SPOOL_USED.KIB]
  s.flushWritten fl

/-- The current volume's last segment is closed and its trailer on its way: which volume comes next is known once it is FULL. -/
def State.volClosing (s : State) : Bool :=
  let v := s.rf Reg.LDG_CUR.VOLUME
  s.rb Reg.LDG_CUR.VALID && s.rf (Reg.HST_VOL.STATE v) == 2 && s.rb Reg.HST_CTRL.EN &&
    match s.vol v with
    | some x => x.mounted && x.closing
    | none => false

/-- R354, R355: a flush of the Ledger buffer: to the current volume, to the spool where none accepts the stream; held while the
current volume is about to become FULL (log entry 10). -/
def State.ledgerFlush (s : State) : State :=
  let s := s.onLdg fun l => { l with flushDue := false }
  if s.ldg.buf.isEmpty then s
  else
    let s := s.rotate
    match s.ledgerVol with
    | some v => s.flushTo v
    | none => if s.volClosing then s.onLdg fun l => { l with flushDue := true } else s.spoolFlush

/-- What a step sets in motion in the Ledger: a flush at the watermark, or one that a FLUSH event asked for (R354); live blocks
owed (R346); and ring deletions whose wait is over (R495). -/
def State.settle (s : State) : State :=
  let s := s.deletesDone.liveDue
  if s.pwr.mainUp && !s.pwr.failing && (s.ldg.flushDue || decide (s.rf Reg.LDG_FLUSH_WM.WM_KIB * 1024 ≤ recBytes s.ldg.buf)) then
    s.ledgerFlush
  else s

/-- The end of every meaning: what the step set in motion, then the next state. -/
def State.done (s : State) : Host.Outcome State Fault Refusal := .next s.settle

/-- The records of flushes that a failed volume leaves unwritten return to the buffer's front and are flushed again (log
entry 10). -/
def State.flushBack (fls : List Nat) (s : State) : State :=
  let back := s.ldg.writing.filter fun w => fls.contains w.1
  if back.isEmpty then s
  else s.onLdg fun l => { l with
    writing := l.writing.filter fun w => !fls.contains w.1
    buf := back.map Prod.snd ++ l.buf
    flushCmds := l.flushCmds.map fun c => if fls.contains c.1 then (l.flushNo, c.2) else c
    flushDue := true }

/-! The trip ledger (R359, R360). -/

/-- R360: an ARMED trip ledger is triggered: the masked records still in the Ledger buffer, its Lightship part's with them, are
copied first. -/
def State.tripTrigger (t : Nat) (s : State) : State :=
  if s.rf Reg.LDG_TRIP_STAT.STATE != 1 then s
  else
    let s := (s.wf Reg.LDG_TRIP_STAT.STATE 2).onLdg fun l => { l with tripT := t }
    let old := s.ldg.writing.map Prod.snd ++ s.ldg.buf ++ s.ldg.lbuf
    let (s, ev) := old.foldl (fun (p : State × EvList) r =>
      let (s, e) := p.1.tripTake r
      (s, p.2 ++ e)) (s, [])
    (ev ++ [(Ev.LDG_TRIP, t, [s.ldg.tripKind])]).foldl (fun s e => s.raise e.1 e.2.1 e.2.2) s

/-- The bytes of the trip ledger region. -/
def tripBytes (rs : List LRec) : Nat :=
  ((rs.zipIdx.map fun p => (slotBytes p.2 p.1, 64 * p.1.len64)).foldr (fun p a => p.1 + a * 2 ^ (8 * p.2)) 0)

/-! Rows. -/

/-- LDG_FLUSH (R354, R561). -/
def ldgFlushBody (c : Cmd) (s : State) : Option Reply × State :=
  if s.ldg.buf.isEmpty then (some Reply.ok, s)
  else
    let fl := s.ldg.flushNo
    let s := s.ledgerFlush
    if s.volClosing && !s.ldg.buf.isEmpty then
      (none, s.onLdg fun l => { l with flushCmds := l.flushCmds ++ [(l.flushNo, c.ring, c.tag)], flushDue := true })
    else if s.hst.nv.any fun d => d.flush == fl + 1 then
      (none, s.onLdg fun l => { l with flushCmds := l.flushCmds ++ [(fl, c.ring, c.tag)] })
    else (some Reply.ok, s)

/-- The checks of LDG_FLUSH (R354, R561). -/
def specLdgFlush (_c : Cmd) : State → Spec :=
  fun _ => { op := 0x72 }

/-- The effect of LDG_FLUSH (R354, R561). -/
def bodyLdgFlush (c : Cmd) : State → Option Reply × State :=
  (ldgFlushBody c)

/-- LDG_FLUSH (R354, R561). -/
def execLdgFlush (t : Nat) (c : Cmd) (s : State) : Host.Outcome State Fault Refusal :=
  (s.command t (specLdgFlush c) c (bodyLdgFlush c)).done

/-- The checks of LDG_TRIP_STOP (R360). -/
def specLdgTripStop (_c : Cmd) : State → Spec :=
  fun s => { op := 0x75, notReady := !(s.rf Reg.LDG_TRIP_STAT.STATE == 1 || s.rf Reg.LDG_TRIP_STAT.STATE == 2) }

/-- The effect of LDG_TRIP_STOP (R360). -/
def bodyLdgTripStop (_c : Cmd) : State → Option Reply × State :=
  (okWith fun s => s.wf Reg.LDG_TRIP_STAT.STATE 4)

/-- LDG_TRIP_STOP (R360). -/
def execLdgTripStop (t : Nat) (c : Cmd) (s : State) : Host.Outcome State Fault Refusal :=
  (s.command t (specLdgTripStop c) c (bodyLdgTripStop c)).done

/-- The checks of LDG_TRIP_TRIGGER (R561). -/
def specLdgTripTrigger (_c : Cmd) : State → Spec :=
  fun s => { op := 0x76, notReady := s.rf Reg.LDG_TRIP_STAT.STATE != 1 }

/-- The effect of LDG_TRIP_TRIGGER (R561). -/
def bodyLdgTripTrigger (_c : Cmd) : State → Option Reply × State :=
  fun s =>
    (some ⟨0, 0, s.wt⟩, s.tripTrigger s.wt)

/-- LDG_TRIP_TRIGGER (R561): the trigger time is the watch time at which the command acts. -/
def execLdgTripTrigger (t : Nat) (c : Cmd) (s : State) : Host.Outcome State Fault Refusal :=
  (s.command t (specLdgTripTrigger c) c (bodyLdgTripTrigger c)).done

/-- The checks of LDG_TRIP_READ (R561). -/
def specLdgTripRead (c : Cmd) : State → Spec :=
  fun s => { op := 0x77, fault := faultAt [(c.w 0x10 % 64 != 0, 0x10)], need := min c.bufLen (recBytes s.ldg.tripRecs - c.w 0x10) }

/-- The effect of LDG_TRIP_READ (R561). -/
def bodyLdgTripRead (c : Cmd) : State → Option Reply × State :=
  fun s =>
    let used := recBytes s.ldg.tripRecs
    let n := min c.bufLen (used - c.w 0x10)
    (some ⟨0, 0, s.rf Reg.LDG_TRIP_STAT.STATE + used * 2 ^ 32 + s.ldg.tripT * 2 ^ 64⟩,
      s.bufPut c n (tripBytes s.ldg.tripRecs >>> (8 * c.w 0x10)))

/-- LDG_TRIP_READ (R561). -/
def execLdgTripRead (t : Nat) (c : Cmd) (s : State) : Host.Outcome State Fault Refusal :=
  (s.command t (specLdgTripRead c) c (bodyLdgTripRead c)).done

/-- LEDGER_AGE_FLUSH (R354): the oldest record of the buffer is LDG_FLUSH_AGE old. -/
def execLedgerAgeFlush (t : Nat) (s : State) : Host.Outcome State Fault Refusal :=
  let s1 := s.at_ t
  match s1.ldg.buf with
  | r :: _ =>
    if s1.pwr.mainUp && !s1.pwr.failing && decide (r.tIn + ofMs (s1.rf Reg.LDG_FLUSH_AGE.AGE_MS) ≤ s1.wt) then s1.ledgerFlush.done
    else .next s
  | [] => .next s

/-- LSHIP_LEDGER_PASS (R356): every 10 ms while the main domain runs, every 10 s while it is down. -/
def execLshipLedgerPass (t : Nat) (s : State) : Host.Outcome State Fault Refusal :=
  let s1 := s.at_ t
  if !s1.pwr.lshipUp then .next s
  else if s1.pwr.mainUp then
    if s1.tim.now < s1.ldg.passAt + ofMs 10 then .next s
    else
      let rs := s1.ldg.lbuf
      let s1 := s1.onLdg fun l => { l with lbuf := [], passAt := s1.tim.now }
      let (s1, ev) := rs.foldl (fun (p : State × EvList) r =>
        let (s, e) := p.1.bufTake r
        (s, p.2 ++ e)) (s1, [])
      (ev.foldl (fun s e => s.raise e.1 e.2.1 e.2.2) s1).done
  else if s1.tim.now < s1.ldg.passAt + ofS 10 then .next s
  else (s1.lshipFlush.onLdg fun l => { l with passAt := s1.tim.now }).done

/-- SPOOL_REPLAY (R358): the spool goes into the volume that accepts the stream, oldest first, with REPLAY set. -/
def execSpoolReplay (t : Nat) (s : State) : Host.Outcome State Fault Refusal :=
  let s1 := s.at_ t
  if s1.ldg.spool.isEmpty || !s1.pwr.mainUp || s1.pwr.failing then .next s
  else match s1.ledgerVol with
    | none => .next s
    | some v =>
      let all := withSlots s1.ldg.pos (s1.ldg.spool.map fun r => { r with replay := true })
      let (s1, rest) := s1.volFlush v 0 all
      let s1 := s1.onLdg fun l => { l with spool := rest.map Prod.fst, pos := l.pos + (all.length - rest.length) }
      let s1 := (s1.wf Reg.LDG_SPOOL_USED.KIB (recBytes s1.ldg.spool / 1024)).wf Reg.LDG_STAT.REPLAYING (b2n (!rest.isEmpty))
      ((s1.wf Reg.LDG_STAT.SPOOLING 0).wf Reg.LDG_STAT.NO_VOLUME 0).done

end Sys2Proof.Machine
end

