-- ==== Sys2Proof/Machine/Wire.lean ====
section
/-! DEFINITION. The bytes of frames and link words on the line (R25, R388, R392) and their checks: HCRC, FCS, LWCRC. A number of bytes
here holds byte `k` of the line at bits `8 * k` on. -/

namespace Sys2Proof

/-- A field of a frame's payload. -/
def Frame.p (f : Frame) (off lo w : Nat) : Nat := (f.payload >>> (8 * off + lo)) % 2 ^ w

end Sys2Proof

namespace Sys2Proof.Machine

/-- R25: a field of `n` bytes as it is sent, most significant byte first. -/
def flipBytes (n v : Nat) : Nat := (List.range n).foldl (fun a k => a * 256 + v / 256 ^ k % 256) 0

/-- R25: fields one after the other, of the sizes given, as they are sent; what follows them is bytes already. -/
def wireBytes : List Nat → Nat → Nat
  | [], v => v
  | n :: l, v => flipBytes n (v % 2 ^ (8 * n)) + wireBytes l (v >>> (8 * n)) * 2 ^ (8 * n)

/-- R191, R400, R403, R404, R429, R472, R473, R518: the sizes of the fields of a payload, in order. A payload of a type that R399 does
not list is bytes. -/
def payloadSizes (f : Frame) : List Nat :=
  let counted (l : List Nat) : List Nat := [4, 4] ++ (List.replicate (f.p 0 0 16) l).flatten
  let words (n : Nat) : List Nat := List.replicate n 4
  let tail (base per : List Nat) (ncAt : Nat → Nat) : List Nat :=
    [4, 4] ++ ((List.range (f.p 0 0 16)).foldl (fun (r : List Nat × Nat) _ =>
      let e := base ++ (List.replicate (ncAt r.2) per).flatten
      (r.1 ++ e, r.2 + e.foldl (· + ·) 0)) ([], 8)).1
  match f.ptype with
  | 0x03 => [4, 4, 8]
  | 0x10 => counted [8, 4, 4, 8, 8]
  | 0x11 => counted [8, 4, 4]
  | 0x12 => counted [8, 4, 4]
  | 0x1A => [4, 4, 8]
  | 0x20 => [8, 4, 4, 8, 4]
  | 0x30 => [8, 8, 4, 4, 4]
  | 0x40 => counted [8, 4, 4, 4, 4, 8]
  | 0x42 => tail [8, 4, 4, 4, 4, 8, 8] [4, 4, 4, 4] fun o => f.p (o + 0x10) 8 5
  | 0x50 => [4, 4, 8, 4, 4, 8] ++ List.replicate (f.p 0 0 13) (if f.p 0 14 2 == 0 then 2 else 4)
  | 0x60 => [4]
  | 0x70 => [4]
  | 0x71 => tail ([8, 4, 4] ++ words 16) (words 16) fun o => f.p (o + 8) 0 5
  | t => if t ≤ 5 || t == 0x18 || t == 0x19 then words 16 else []

/-- The sizes that fit in `n` bytes. -/
def sizesIn : Nat → List Nat → List Nat
  | _, [] => []
  | n, k :: l => if k ≤ n then k :: sizesIn (n - k) l else []

/-- The payload's bytes. -/
def payloadBytes (f : Frame) : Nat := wireBytes (sizesIn f.len (payloadSizes f)) (f.payload % 2 ^ (8 * f.len))

/-- R392: the header's bytes up to HCRC; `covered`: with its hop-mutable fields zero. -/
def headerBytes (f : Frame) (covered : Bool) : Nat :=
  let flags := b2n f.ccw + b2n f.dual * 2 + b2n f.bcast * 4 + (if covered then 0 else b2n f.late * 8) + b2n f.twin * 16 + f.cls * 32
  let budget := if covered then 0 else f.budget * 2 ^ 8 + f.hops
  wireBytes [3, 3, 1, 1, 4, 4, 4, 2]
    (f.dst + f.src * 2 ^ 24 + flags * 2 ^ 48 + f.ptype * 2 ^ 56 + f.seq * 2 ^ 64 + budget * 2 ^ 96 + f.len * 2 ^ 18 * 2 ^ 128)

/-- R392: HCRC of a frame. -/
def hcrcOf (f : Frame) : Nat := crc32c 0 22 (headerBytes f false) % 65536

/-- R392, R429: FCS of a frame. CORR of a TIME_SYNC is taken as zero. -/
def fcsOf (f : Frame) : Nat :=
  let g := if f.ptype == 0x30 && f.cls == 3 then { f with payload := f.payload - f.p 8 0 64 * 2 ^ 64 } else f
  crc32c 0 (24 + f.len) (headerBytes f true + payloadBytes g * 2 ^ 192)

/-- R412: the ones-complement of the FCS that is correct. -/
def stompOf (f : Frame) : Nat := 0xFFFFFFFF - fcsOf f

/-- R458: the digest of a frame: CRC-32C over header bytes 0x00 to 0x05 and 0x07 to 0x0B and over the payload. -/
def digestOf (f : Frame) : Nat :=
  let h := headerBytes f true
  crc32c 0 (11 + f.len) (h % 2 ^ 48 + (h >>> 56) % 2 ^ 40 * 2 ^ 48 + payloadBytes f * 2 ^ 88)

/-! Link words (R388). -/

def wfield (w off lo n : Nat) : Nat := (w >>> (8 * off + lo)) % 2 ^ n

/-- R388: LWCRC of a link word. -/
def lwCrc (w : Nat) : Nat :=
  let delay := w % 16 == 1 || w % 16 == 2
  crc32c 0 28 (wireBytes (if delay then [4, 4, 8, 8, 4] else List.replicate 7 4) (w % 2 ^ 224))

/-- A link word with its LWCRC. -/
def lwSeal (w : Nat) : Nat := w % 2 ^ 224 + lwCrc w * 2 ^ 224

/-- R388: a received LWCRC holds for its link word. -/
def lwOk (w crc : Nat) : Bool := crc == lwCrc w

end Sys2Proof.Machine
end

