-- ==== Sys2Proof/Machine/FabOps.lean ====
section
/-! DEFINITION. Frames of the fabric: routing (R443 to R452, R468, R475), budgets (R415, R416, R449), egress queues and
coins (R406 to R408, R418), frames that the module originates (R392, R395, R457, R479). -/

namespace Sys2Proof.Machine

def State.node (s : State) : Nat := s.rf Reg.FAB_NODE_ID.NODE
def State.port (s : State) (n : Nat) : PortQ := tget PortQ.idle s.fab.ports n
def State.setPort (n : Nat) (p : PortQ) (s : State) : State :=
  s.onFab fun f => { f with ports := tset PortQ.idle f.ports n p }
def State.modPort (n : Nat) (g : PortQ → PortQ) (s : State) : State := s.setPort n (g (s.port n))

/-- An Apast port that is UP. -/
def State.portUp (s : State) (n : Nat) : Bool :=
  decide (n < 128) && s.rf (Reg.FAB_PORT.STATE n) == 3 && s.rf (Reg.FAB_PORT.MODE n) == 0

/-- R384, R414: the time a port takes to send a frame with its prefix: w × 200 Gbit/s. -/
def State.wireTime (s : State) (p : Nat) (f : Frame) : Nat :=
  let w := 2 ^ s.rf (Reg.FAB_PORT.WIDTH p)
  ((35 + f.len) * 8 * 2 ^ 32 + (200000000000 * w - 1)) / (200000000000 * w)

/-- Event at most once per second (R394, R446, R449). -/
def State.raiseSlow (k code obj : Nat) (args : List Nat) (s : State) : State :=
  let last := tget 0 s.fab.lastEv k
  if last != 0 && decide (s.tim.now < last - 1 + ofS 1) then s
  else (s.onFab fun f => { f with lastEv := tset 0 f.lastEv k (s.tim.now + 1) }).raise code obj args

/-! Budgets (R415, R416). -/

/-- A span of time in ps. -/
def psOf (d : Nat) : Nat := (d * 10 ^ 12 + (2 ^ 32 - 1)) / 2 ^ 32

/-- R415: `ps` of residence and delay taken from the budget; true when the budget has run out. A frame already LATE and
an unlimited budget are not decremented. -/
def spend (ps : Nat) (f : Frame) : Frame × Bool :=
  if f.late || f.budget == 0xFFFFFF then (f, false)
  else
    let n := (ps + 6249) / 6250
    if f.budget < n then ({ f with budget := 0 }, true) else ({ f with budget := f.budget - n }, false)

/-- R449: the budget spent at this node; none where the frame is dropped. -/
def State.spendHere (ps : Nat) (f : Frame) (s : State) : Option Frame × State :=
  let (g, out) := spend ps f
  if !out then (some g, s)
  else if f.cls == 1 || f.cls == 2 then
    (some { g with late := true }, (s.bump Reg.FAB_LATE_CNT.COUNT).raiseSlow 2 Ev.FAB_LATE f.src [f.cls, f.seq])
  else (none, s.bump Reg.FAB_LATE_DROP_CNT.COUNT)

/-! Routing. -/

/-- What routing answers. -/
inductive Egress where
  | out (port : Nat)
  /-- No route, or KIND DROP. -/
  | miss
  /-- No UP egress. -/
  | down
  deriving DecidableEq, Repr

/-- R468: where a frame of class 1, 2 or 4 to a home with an alias is sent. -/
def State.aliased (s : State) (cls dst : Nat) : Nat :=
  if cls == 1 || cls == 2 || cls == 4 then (afind s.fab.alias_ dst).getD dst else dst

/-- R446: the entry that matches a node: longest PLEN, then lowest number. -/
def bestRoute (bank : Tab (Rec 8)) (node : Nat) : Option (Rec 8) :=
  bank.foldl (fun (b : Option (Rec 8)) e =>
    let plen := fget Route.PLEN e.2
    if !fbit Route.VALID e.2 || node >>> (24 - plen) != fget Route.PREFIX e.2 >>> (24 - plen) then b
    else match b with
      | some x => if fget Route.PLEN x < plen then some e.2 else b
      | none => some e.2) none

/-- R450: the ring that a port belongs to. -/
def State.ringOfPort (s : State) (p : Nat) : Option Nat :=
  (List.range 16).find? fun k => s.rb (Reg.FAB_RING.EN k) && (s.rf (Reg.FAB_RING.PORT_CW k) == p || s.rf (Reg.FAB_RING.PORT_CCW k) == p)

/-- R475: a node whose active bank holds no VALID entry is joining. -/
def State.joining (s : State) : Bool := !(s.fab.active.any fun e => fbit Route.VALID e.2)

/-- R451, R452: the port that ring `k` gives a frame. -/
def State.ringEgress (s : State) (k : Nat) (ccw : Bool) (ingress : Option Nat) : Egress :=
  let cw := s.rf (Reg.FAB_RING.PORT_CW k)
  let cc := s.rf (Reg.FAB_RING.PORT_CCW k)
  let other (p : Nat) : Nat := if p == cw then cc else cw
  let p := if ccw then cc else cw
  let p := if ingress == some p then other p else p
  if s.portUp p then .out p else if s.portUp (other p) then .out (other p) else .down

/-- R446, R475: the egress of a frame. -/
def State.egress (s : State) (f : Frame) (ingress : Option Nat) : Egress :=
  if f.dst == 0 || f.dst == 0xFFFFFF then .miss
  else if s.joining then
    match ingress with
    | none => .miss
    | some p => match s.ringOfPort p with
      | none => .miss
      | some k =>
        let o := if s.rf (Reg.FAB_RING.PORT_CW k) == p then s.rf (Reg.FAB_RING.PORT_CCW k) else s.rf (Reg.FAB_RING.PORT_CW k)
        if s.portUp o then .out o else .down
  else match bestRoute s.fab.active (s.aliased f.cls f.dst) with
    | none => .miss
    | some e =>
      match fget Route.KIND e with
      | 0 =>
        if s.portUp (fget Route.PORT e) then .out (fget Route.PORT e)
        else if fbit Route.ALT_EN e && s.portUp (fget Route.ALT e) then .out (fget Route.ALT e) else .down
      | 1 => s.ringEgress (fget Route.RING e) (if f.dual then f.ccw else fbit Route.DIR e) ingress
      | _ => .miss

/-- R446: a frame dropped for want of a route or of an UP egress. -/
def State.routeDrop (f : Frame) (down : Bool) (s : State) : State :=
  (s.bump (if down then Reg.FAB_ROUTE_DOWN_CNT.COUNT else Reg.FAB_ROUTE_MISS_CNT.COUNT)).raiseSlow 0 Ev.FAB_ROUTE_MISS f.dst
    [b2n down]

/-- A frame joins an egress port's queue. -/
def State.enqueue (p : Nat) (q : QFr) (s : State) : State := s.modPort p fun x => { x with queue := x.queue ++ [q] }

/-- R406: the coins of a frame. -/
def coins (f : Frame) : Nat := (28 + f.len + 63) / 64

/-- The ingress port of a queued frame. -/
def QFr.ingress (q : QFr) : Option Nat := if q.src < 128 then some q.src else none

/-- R407: coins of class `c` freed for the peer of port `p`. -/
def State.freeCoins (p c n : Nat) (s : State) : State :=
  s.modPort p fun x => { x with cumOut := x.cumOut.set c ((x.cumOut.getD c 0 + n) % 65536) }

/-- Two queued frames are copies of one received or originated frame. -/
def QFr.same (a b : QFr) : Bool :=
  a.src == b.src && a.tIn == b.tIn && a.f.src == b.f.src && a.f.cls == b.f.cls && a.f.seq == b.f.seq && a.f.ccw == b.f.ccw &&
    a.bad == b.bad

/-- Another copy of a frame is still in the module. -/
def State.copyLeft (s : State) (q : QFr) : Bool :=
  (s.fab.ports.any fun e => (e.2.queue.any q.same) || (e.2.unack.any fun u => q.same u.2) || (e.2.reserved.any fun r => q.same r.2.2)) ||
    s.fab.waiting.any fun w => q.same w.1

/-- A frame that has left the module's buffers: once no copy of it is left, the coins of a forwarded frame go back to its
ingress link, those of a frame of the module to the internal pool (R407, R408). A frame whose coins have gone
already frees none. -/
def State.released (q : QFr) (s : State) : State :=
  if !q.coin || s.copyLeft q then s
  else match q.ingress with
  | some p => s.freeCoins p q.f.cls (coins q.f)
  | none => s.wf Reg.FAB_COIN_FREE.COINS (s.rf Reg.FAB_COIN_FREE.COINS + coins q.f)

/-- A frame is put on its way: answers whether it found an egress. A retried frame without an UP egress waits up to 1 ms
when `wait` is set (R447). -/
def State.forward (q : QFr) (wait : Bool) (s : State) : Bool × State :=
  match s.egress q.f q.ingress with
  | .out p => (true, s.enqueue p q)
  | .miss => (false, (s.routeDrop q.f false).released q)
  | .down =>
    if wait && q.f.cls < 3 then
      (true, s.onFab fun f => { f with waiting := f.waiting ++ [(q, s.tim.now + ofMs 1)] })
    else (false, (s.routeDrop q.f true).released q)

/-- Copies of a frame go out of several ports. -/
def State.sendOut (ports : List Nat) (q : QFr) (s : State) : State :=
  (ports.foldl (fun s p => s.enqueue p q) s).released q

/-- R448: a broadcast frame goes out every UP Apast port but its ingress port. -/
def State.flood (q : QFr) (s : State) : State :=
  s.sendOut ((List.range 128).filter fun p => s.portUp p && q.ingress != some p) q

/-! Frames that the module originates. -/

/-- R479: this node may not originate frames of a class now. -/
def State.selfQuenched (s : State) (cls : Nat) : Bool :=
  cls != 0 && (List.range 16).any fun k => s.rb (Reg.FAB_QUENCH_STAT.VALID k) &&
    (s.rf (Reg.FAB_QUENCH_STAT.CLASS_MASK k) >>> cls) % 2 == 1 &&
    (s.rf (Reg.FAB_QUENCH_STAT.TARGET k) == s.node || s.rf (Reg.FAB_QUENCH_STAT.TARGET k) == 0xFFFFFF)

/-- R435: the budget a frame of a class starts with. -/
def State.startBudget (s : State) (cls : Nat) : Nat :=
  let b := s.rf (Reg.FAB_CLASS.BUDGET cls)
  if b == 0xFFFFF then 0xFFFFFF else b * 16

/-- R457: frames of a class whose route is a RING entry go as two copies. -/
def State.duplicated (s : State) (cls dst : Nat) : Bool :=
  cls != 3 && (s.rf Reg.FAB_RING_CTRL.DUP_MASK >>> cls) % 2 == 1 &&
    match bestRoute s.fab.active (s.aliased cls dst) with
    | some e => fget Route.KIND e == 1
    | none => false

/-- R408: the coins of the internal pool that a frame takes: those of both copies where it goes as two. -/
def State.poolNeed (o : Orig) (s : State) : Nat :=
  (28 + max 64 o.len + 63) / 64 * if o.out.isNone && s.duplicated o.cls (o.dst.getD 0) && o.dst.isSome then 2 else 1

/-- A frame is originated (R392, R393, R395, R443, R457); answers whether a copy found an egress. -/
def State.launch (o : Orig) (s : State) : Bool × State :=
  let seq := tget 0 s.fab.seqOut o.cls
  let s := s.onFab fun f => { f with seqOut := tset 0 f.seqOut o.cls ((seq + 1) % 2 ^ 32) }
  let f : Frame :=
    { dst := o.dst.getD 0, src := s.node, cls := o.cls, ptype := o.ptype, seq := seq, twin := o.twin, late := false
      bcast := o.dst.isNone, dual := false, ccw := false, budget := s.startBudget o.cls, hops := 0
      len := max 64 o.len, payload := o.payload }
  let q : QFr := ⟨f, o.src, s.tim.now, 0, o.ring, o.tag, false, true⟩
  let take (s : State) : State := s.drop Reg.FAB_COIN_FREE.COINS (coins f)
  let sealed (f : Frame) : Frame := { f with fcs := fcsOf f }
  match o.out with
  | some p => (true, (take s).enqueue p { q with f := sealed f })
  | none =>
    if f.bcast then (true, (take s).flood { q with f := sealed f })
    else if s.duplicated o.cls f.dst then
      let (a, s) := (take s).forward { q with f := sealed { f with dual := true } } false
      let (b, s) := (take s).forward { q with f := sealed { f with dual := true, ccw := true }, ring := 0 } false
      (a || b, s)
    else (take s).forward { q with f := sealed f } false

/-- R408, R443, R479: a block originates a frame; where the internal pool is exhausted the block waits, its frames in order. Answers
false for a frame that is dropped. -/
def State.originate (o : Orig) (s : State) : Bool × State :=
  if s.node == 0 then (false, s)
  else if s.selfQuenched o.cls then (false, s.bump Reg.FAB_QUENCH_DROP_CNT.COUNT)
  else if (s.fab.poolWait.any fun w => w.src == o.src) || decide (s.rf Reg.FAB_COIN_FREE.COINS < s.poolNeed o) then
    (true, s.onFab fun f => { f with poolWait := f.poolWait ++ [o] })
  else s.launch o

/-- A frame originated, whether or not it found an egress. -/
def State.send (o : Orig) (s : State) : State := (s.originate o).2

/-- A class 0 frame of fabric control (R472), padded to 64 bytes. -/
def State.control (ptype : Nat) (dst : Option Nat) (payload : Nat) (s : State) : State :=
  s.send { src := 135, cls := 0, ptype := ptype, dst := dst, payload := payload, len := 64 }

/-- R472: CTRL_HANDOVER. -/
def State.handover (dst op home final : Nat) (owning : Bool) (s : State) : State :=
  s.control 0x05 (some dst) (op + b2n owning * 8 + home * 2 ^ 32 + final * 2 ^ 64)

/-- R468, R472: CTRL_ROUTE with one item. -/
def State.announce (dst : Option Nat) (announcer home : Nat) (withdraw : Bool) (s : State) : State :=
  s.control 0x04 dst (announcer + 2 ^ 24 + (home + b2n withdraw * 2 ^ 24) * 2 ^ 32)

end Sys2Proof.Machine
end

