-- ==== Sys2Proof/Machine/BcnOps.lean ====
section
/-! DEFINITION. The Beacon's operations: stations and targets (R305 to R311), call
sequences (R304, R312 to R316, R321, R405), dead-man units (R318). -/

namespace Sys2Proof.Machine

/-! Stations and engineers (R305, R306). -/

def State.stationLost (s : State) (n : Nat) : Bool :=
  if n < 32 then (s.rf Reg.BCN_STATION_LOST_LO.LOST >>> n) % 2 == 1 else (s.rf Reg.BCN_STATION_LOST_HI.LOST >>> (n - 32)) % 2 == 1

def State.setLost (n : Nat) (b : Bool) (s : State) : State :=
  let f := if n < 32 then Reg.BCN_STATION_LOST_LO.LOST else Reg.BCN_STATION_LOST_HI.LOST
  let k := n % 32
  let v := s.rf f
  if (v >>> k) % 2 == b2n b then s else s.wf f (if b then v + 2 ^ k else v - 2 ^ k)

/-- R305: the duty slot now, in local time; slot 0 is Monday 00:00, and 2000-01-01 was a Saturday. While the main domain is
down the UTC offset is the one that the backup domain holds (DEDUCED, log entry 81). -/
def State.dutySlot (s : State) : Nat :=
  let z := sext 16 (s.rf Reg.BCN_ZONE.ZONE_MIN)
  let backup := !s.pwr.mainUp && s.rb Reg.BKP_UTC_OFS.UTC_VALID
  let u := sext 16 (if backup then s.rf Reg.BKP_UTC_OFS.UTC_OFS else s.rf Reg.FAB_TIME_UTC.UTC_OFS)
  let sec : Int := ((s.clock / 2 ^ 32 : Nat) : Int) - u + z * 60 + 5 * 86400
  ((sec / 3600) % 168).toNat

/-! Stages of a template (R309, R325). -/

def BStage.DURATION (n k : Nat) : RFld := ⟨0x62010 + 128 * n + 16 * k, 0, 12⟩
def BStage.DUTY (n k : Nat) : RFld := ⟨0x62010 + 128 * n + 16 * k, 12, 1⟩
def BStage.BACKUP (n k : Nat) : RFld := ⟨0x62010 + 128 * n + 16 * k, 13, 1⟩
def BStage.GROUPS (n k : Nat) : RFld := ⟨0x62010 + 128 * n + 16 * k, 16, 8⟩
def BStage.RELAYS (n k : Nat) : RFld := ⟨0x62010 + 128 * n + 16 * k, 24, 8⟩
def BStage.FB (n k : Nat) : RFld := ⟨0x62014 + 128 * n + 16 * k, 0, 8⟩
def BStage.PUB_LO (n k : Nat) : RFld := ⟨0x62018 + 128 * n + 16 * k, 0, 32⟩
def BStage.PUB_HI (n k : Nat) : RFld := ⟨0x6201C + 128 * n + 16 * k, 0, 32⟩

/-- R309, R310: the targets that stage `k` of template `n` adds now. -/
def State.stageTargets (s : State) (n k : Nat) : List BTgt :=
  let slot := s.dutySlot
  let duty : List BTgt := if s.rb (BStage.DUTY n k) then
    [⟨k, 0, if s.rb (Reg.BCN_DUTY.DUTY_EN slot) then s.rf (Reg.BCN_DUTY.DUTY slot) + 1 else 0⟩] else []
  let back : List BTgt := if s.rb (BStage.BACKUP n k) then
    [⟨k, 1, if s.rb (Reg.BCN_DUTY.BACKUP_EN slot) then s.rf (Reg.BCN_DUTY.BACKUP slot) + 1 else 0⟩] else []
  let grp := ((List.range 32).filter fun e =>
    s.rb (Reg.BCN_ENG.VALID e) && s.rf (Reg.BCN_ENG.GROUPS e) &&& s.rf (BStage.GROUPS n k) != 0).map fun e => (⟨k, 2, e + 1⟩ : BTgt)
  let pub := ((List.range 64).filter fun p =>
    (if p < 32 then s.rf (BStage.PUB_LO n k) >>> p else s.rf (BStage.PUB_HI n k) >>> (p - 32)) % 2 == 1).map fun p => (⟨k, 3, p + 1⟩ : BTgt)
  duty ++ back ++ grp ++ pub

/-- The station of a target; none where no station can be named. -/
def State.tgtStation (s : State) (x : BTgt) : Option Nat :=
  if x.who == 0 then none
  else if x.kind == 3 then some (x.who - 1)
  else if !s.rb (Reg.BCN_ENG.VALID (x.who - 1)) then none
  else
    let st := s.rf (Reg.BCN_ENG.CABIN (x.who - 1))
    if s.rb (Reg.BCN_STATION.VALID st) then some st else none

/-- R311: a target is unreachable. -/
def State.unreachable (s : State) (x : BTgt) : Bool :=
  match s.tgtStation x with
  | none => true
  | some st => s.stationLost st

/-! Relays (R308, R311, R316, R318). -/

/-- R720: the relays energised in RECOVERY. -/
def State.recoveryRelays (s : State) : Nat :=
  if s.rf Reg.KPR_STAT.STATE == 2 then (s.kpr.boot.map fun b => b.relays).getD 128 else 0

/-- The relays that are driven. -/
def State.bcnDrive (s : State) : Nat :=
  let seqs := s.bcn.seqs.foldl (fun m q =>
    if q.pend then m
    else
      let fb := q.fb.foldl (fun m f => if q.tgts.any fun x => x.stage == f.1 && s.unreachable x then m ||| f.2 else m) 0
      m ||| q.relays ||| fb) 0
  let ovf := if s.bcn.seqs.any fun q => q.pend then s.rf Reg.BCN_CTRL.OVF_RELAYS else 0
  let dm := (List.range 8).foldl (fun m u => if 2 ≤ s.rf (Reg.BCN_DM.STATE u) then m ||| s.rf (Reg.BCN_DM.PW_RELAYS u) else m) 0
  seqs ||| ovf ||| dm ||| s.recoveryRelays

/-- R308: a call relay is energised while something drives it: steadily, or pulsing at 1 Hz with a duty cycle of 50 %, on in the
first half of each second of watch time (the phase: DESIGN CHOICE, log entry 83). -/
def State.relayOn (s : State) (n : Nat) : Bool :=
  s.rb (Reg.BCN_RELAY.ACTIVE n) && (!s.rb (Reg.BCN_RELAY.PATTERN n) || decide (s.clock % 2 ^ 32 < 2 ^ 31))

/-- R321: the backup registers follow the sequences and units. -/
def State.bcnKeep (s : State) : State :=
  let keys (w : Nat) : Nat := s.bcn.seqs.foldl (fun a q => if q.key / 32 == w then a ||| 2 ^ (q.key % 32) else a) 0
  let s := (List.range 42).foldl (fun s w => s.wf (Reg.BKP_REG.WORD (1 + w)) (keys w)) s
  (List.range 8).foldl (fun s u => s.wf (Reg.BKP_REG.WORD (43 + u))
    (s.rf (Reg.BCN_DM.STATE u) + s.rf (Reg.BCN_DM.REMAIN_S u) * 2 ^ 16)) s

/-- R308: relays and counts follow the sequences and units. -/
def State.bcnShow (s : State) : State :=
  let m := s.bcnDrive
  let s := (List.range 8).foldl (fun s n => s.wf (Reg.BCN_RELAY.ACTIVE n) ((m >>> n) % 2)) s
  let run := (s.bcn.seqs.filter fun q => !q.pend).length
  let pend := (s.bcn.seqs.filter fun q => q.pend).length
  (s.wf Reg.BCN_SEQ_STAT.RUN run).wf Reg.BCN_SEQ_STAT.PEND pend

/-- R308, R321: relays, counts and, once the Beacon is ready, the backup registers follow the sequences and units: what they
hold before is what a restart takes up. -/
def State.bcnSettle (s : State) : State :=
  let s := s.bcnShow
  if s.ready 3 then s.bcnKeep else s

/-! Calls at stations (R404, R405). -/

/-- R404: the class of a call key and its watch. -/
def keyClass (key : Nat) : Nat := if key < 1280 then key % 5 else if key < 1288 then 5 else 6
def keyWatch (key : Nat) : Nat := if key < 1280 then key / 5 else 0

/-- R404: a BCN_CALL payload: state 0 CALLING, 1 ATTENDED, 2 ENDED. -/
def callPayload (q : BSeq) (st : Nat) : Nat :=
  q.key + st * 2 ^ 12 + q.stage * 2 ^ 14 + keyClass q.key * 2 ^ 16 + keyWatch q.key * 2 ^ 24 + (q.alarms % 2 ^ 32) * 2 ^ 32 +
    q.tStart * 2 ^ 64

/-- A BCN_CALL frame to a station. -/
def State.callSend (station payload : Nat) (s : State) : State :=
  if !s.pwr.mainUp then s
  else s.send { src := 133, cls := 1, ptype := 0x1A, dst := some (s.rf (Reg.BCN_STATION.NODE station)), twin := false
                payload := payload, len := 64 }

/-- R405: a call is sent to a station and repeated from then on; `left`: ENDED frames still to send. -/
def State.callSet (station : Nat) (q : BSeq) (st : Nat) (s : State) : State :=
  let p := callPayload q st
  let c : BCall := ⟨station, q.key, p, s.tim.now, if st == 2 then some 2 else none⟩
  (s.onBcn fun b => { b with calls := (b.calls.filter fun x => !(x.station == station && x.key == q.key)) ++ [c] }).callSend station p

/-- The stations a sequence calls. -/
def State.calledBy (s : State) (q : BSeq) : List Nat := (q.tgts.filterMap s.tgtStation).eraseDups

/-- R405: every station that a sequence calls is sent its state. -/
def State.callAll (q : BSeq) (st : Nat) (s : State) : State := (s.calledBy q).foldl (fun s n => s.callSet n q st) s

/-! Sequences (R304, R312 to R316). -/

/-- R314: the first 10 ms tick at or after a clock. -/
def tick10 (w : Nat) : Nat := ceilMs 10 w

def State.seqOf (s : State) (key : Nat) : Option BSeq := s.bcn.seqs.find? fun q => q.key == key
def State.setSeq (q : BSeq) (s : State) : State :=
  s.onBcn fun b => { b with seqs := b.seqs.map fun x => if x.key == q.key then q else x }

/-- R310, R311: stage `k` starts: its targets are resolved, called, and the unreachable ones counted. -/
def State.stageStart (q : BSeq) (k : Nat) (s : State) : State :=
  let n := q.tmpl
  let add := s.stageTargets n k
  let q := { q with
    stage := k, att := false, unstarted := false, tgts := q.tgts ++ add, relays := q.relays ||| s.rf (BStage.RELAYS n k)
    fb := q.fb ++ [(k, s.rf (BStage.FB n k))], dur := s.rf (BStage.DURATION n k), due := tick10 (s.clock + ofS (s.rf (BStage.DURATION n k))) }
  let s := s.setSeq q
  let lost := add.filter s.unreachable
  let s := lost.foldl (fun s x => (s.bump Reg.BCN_NO_TARGET_CNT.COUNT).raise Ev.BCN_NO_TARGET q.key [k, x.kind]) s
  s.callAll q 0

/-- A sequence takes a running slot: at its start, or where it was before preemption. -/
def State.seqRun (q : BSeq) (s : State) : State :=
  let n := s.bcn.nextReq
  let s := s.onBcn fun b => { b with nextReq := n + 1 }
  let q := { q with pend := false, run := n }
  if q.unstarted then (s.setSeq q).stageStart q 0
  else
    let q := { q with due := tick10 (s.clock + q.due) }
    (s.setSeq q).callAll q (b2n q.att)

/-- R315: free slots are granted to PENDING sequences by rank, then by first request; at most `n` grants. -/
def State.grantN : Nat → State → State
  | 0, s => s
  | n + 1, s =>
    if 256 ≤ (s.bcn.seqs.filter fun q => !q.pend).length then s
    else
      let best := s.bcn.seqs.foldl (fun (b : Option BSeq) q =>
        if !q.pend then b
        else match b with
          | none => some q
          | some x => if q.rank < x.rank || (q.rank == x.rank && q.req < x.req) then some q else b) none
      match best with
      | none => s
      | some q => State.grantN n (s.seqRun q)

/-- R316: the overflow episode ends when nothing is pending. -/
def State.ovfCheck (s : State) : State :=
  if s.bcn.seqs.any fun q => q.pend then s else s.onBcn fun b => { b with ovf := false }

/-- R316: a sequence enters PENDING. -/
def State.ovfEnter (s : State) : State :=
  if s.bcn.ovf then s
  else ((s.onBcn fun b => { b with ovf := true }).bump Reg.BCN_OVF_CNT.COUNT).raise Ev.BCN_OVERFLOW 0
    [(s.bcn.seqs.filter fun q => q.pend).length]

/-- R304, R312, R315: a request under a key and template. Answers whether it joined. With BCN_CTRL.EN at 0 it is counted
and joins or starts nothing (R324; log entry 26). -/
def State.bcnRequest (key tmpl : Nat) (s : State) : Bool × State :=
  match s.seqOf key with
  | some q =>
    let s := s.bump Reg.BCN_JOIN_CNT.COUNT
    if !s.rb Reg.BCN_CTRL.EN then (true, s)
    else
      let r := { q with alarms := q.alarms + 1 }
      let s := s.setSeq r
      (true, if q.pend then s else s.callAll r (b2n q.att))
  | none =>
    if !s.rb Reg.BCN_CTRL.EN then (false, s.bump Reg.BCN_CALL_CNT.COUNT) else
    let n := s.bcn.nextReq
    let rank := s.rf (Reg.BCN_TEMPLATE.RANK tmpl)
    let q : BSeq :=
      { key := key, tmpl := tmpl, rank := rank, last := s.rf (Reg.BCN_TEMPLATE.NSTAGE tmpl)
        attend := s.rf (Reg.BCN_TEMPLATE.ATTEND_S tmpl), alarms := 1, req := n, run := 0, tStart := s.clock, pend := true
        unstarted := true, stage := 0, att := false, due := 0, tgts := [], relays := 0, dur := 0, fb := [] }
    let s := s.onBcn fun b => { b with nextReq := n + 1, seqs := b.seqs ++ [q] }
    let s := (s.bump Reg.BCN_CALL_CNT.COUNT).raise Ev.BCN_CALL_START key [tmpl, rank]
    let s := if s.rb (Reg.BCN_TEMPLATE.PWRON tmpl) then s.pwronAsk 2 else s
    let running := s.bcn.seqs.filter fun x => !x.pend
    if running.length < 256 then (false, (s.seqRun q).bcnSettle)
    else
      let worst := running.foldl (fun (b : Option BSeq) x =>
        match b with
        | none => some x
        | some y => if y.rank < x.rank || (y.rank == x.rank && y.run < x.run) then some x else b) none
      match worst with
      | some x =>
        if rank < x.rank then
          let s := s.setSeq { x with pend := true, due := x.due - s.clock }
          (false, (((s.seqRun q).bump Reg.BCN_PREEMPT_CNT.COUNT).ovfEnter).bcnSettle)
        else (false, s.ovfEnter.bcnSettle)
      | none => (false, s.ovfEnter.bcnSettle)

/-! Dead-man units (R317, R318). -/

/-- A unit's timer set to a number of seconds. -/
def State.dmTimer (u sec : Nat) (s : State) : State :=
  (s.onBcn fun b => { b with dmDue := tset 0 b.dmDue u (tick10 (s.clock + ofS sec)) }).wf (Reg.BCN_DM.REMAIN_S u) sec

/-- R318: a unit goes to RUNNING. -/
def State.dmRun (u : Nat) (s : State) : State :=
  (s.wf (Reg.BCN_DM.STATE u) 1).dmTimer u (s.rf (Reg.BCN_DM.PERIOD_S u) - s.rf (Reg.BCN_DM.PREWARN_S u))

def State.dmOff (u : Nat) (s : State) : State :=
  ((s.wf (Reg.BCN_DM.STATE u) 0).onBcn fun b => { b with dmDue := tset 0 b.dmDue u 0 }).wf (Reg.BCN_DM.REMAIN_S u) 0

/-- R318: an input of a unit: 0 on, 1 off, 2 reset; answers whether it is refused. -/
def State.dmInput (u op : Nat) (s : State) : Bool × State :=
  let st := s.rf (Reg.BCN_DM.STATE u)
  if op == 0 then (false, if st == 0 then s.dmRun u else s)
  else if op == 1 then (if st == 3 then (true, s) else (false, if st == 0 then s else s.dmOff u))
  else (false, if st == 0 then s else s.dmRun u)

/-- R317: every control-room accept resets the units that ask for it. -/
def State.dmAccepts (s : State) : State :=
  (List.range 8).foldl (fun s u => if s.rb (Reg.BCN_DM.RESET_ON_ACCEPT u) then (s.dmInput u 2).2 else s) s

/-! Accepts (R312, R313). -/

/-- R312: a control-room accept of one sequence from a source. -/
def State.seqEnd (key src : Nat) (s : State) : State :=
  match s.seqOf key with
  | none => s
  | some q =>
    let s := s.callAll q 2
    let s := s.onBcn fun b => { b with seqs := b.seqs.filter fun x => x.key != key }
    let s := s.raise Ev.BCN_CALL_END key [q.alarms, src]
    if 1280 ≤ key && key < 1288 && s.rf (Reg.BCN_DM.STATE (key - 1280)) == 3 then s.dmOff (key - 1280) else s

/-- R312: a control-room accept of keys; answers how many sequences it ended. -/
def State.ctrlAccept (keys : List Nat) (src : Nat) (s : State) : Nat × State :=
  let hit := keys.filter fun k => (s.seqOf k).isSome
  let s := hit.foldl (fun s k => s.seqEnd k src) s
  (hit.length, (((s.grantN 256).ovfCheck).dmAccepts).bcnSettle)

/-- R312: an attend of a sequence at a station. -/
def State.seqAttend (key station : Nat) (s : State) : State :=
  match s.seqOf key with
  | none => s
  | some q =>
    if q.pend then s
    else
      let r := { q with att := true, due := tick10 (s.clock + ofS q.attend) }
      let s := s.setSeq r
      if q.att then s else (s.callAll r 1).raise Ev.BCN_ATTEND key [station]

/-- Every key that runs or is pending, in key order. -/
def State.allKeys (s : State) : List Nat := (List.range 1320).filter fun k => (s.seqOf k).isSome

/-! Requests from annunciations and digests (R300 to R303). -/

/-- The template of a class of a watch's rule: 0 to 3 priorities, 4 DIGEST. -/
def ruleTmpl (w k : Nat) : RFld :=
  [Reg.BCN_RULE.T_CRIT w, Reg.BCN_RULE.T_HIGH w, Reg.BCN_RULE.T_MED w, Reg.BCN_RULE.T_LOW w].getD k (Reg.BCN_RULE.T_DIG w)
def ruleEn (w k : Nat) : RFld :=
  [Reg.BCN_RULE.EN_CRIT w, Reg.BCN_RULE.EN_HIGH w, Reg.BCN_RULE.EN_MED w, Reg.BCN_RULE.EN_LOW w].getD k (Reg.BCN_RULE.EN_DIG w)

/-- R302, R303: what a watch's rule asks for under a class. -/
def State.bcnWatch (w k : Nat) (mirror : Bool) (s : State) : State :=
  if !s.rb (ruleEn w k) || (s.rb (Reg.BCN_RULE.UMS_ONLY w) && !s.rb (Reg.BCN_RULE.UMS w)) || (mirror && !s.rb (Reg.BCN_RULE.MIRROR w)) then s
  else (s.bcnRequest (5 * w + k) (s.rf (ruleTmpl w k))).2

end Sys2Proof.Machine
end

