-- ==== Sys2Proof/Machine/Dsp.lean ====
section
/-! DEFINITION. The waveform arithmetic: windows (R201), spectrum (R202), envelope (R203), interpolation (R198), decibels
(R211). Values are computed exactly, sines, cosines and logarithms to about 2^-96, and narrowed once (DEDUCED, log entry 25). -/

namespace Sys2Proof.Machine

/-! Cosine and sine in units of 2^-128. -/

def trigOne : Int := 2 ^ 128
/-- π / 2. -/
def halfPi : Nat := 0x1921FB54442D18469898CC51701B839A2

/-- A Taylor sum: `term` is that of power `k`, `x2` the square of the argument. -/
def taylor (x2 : Int) : (fuel k : Nat) → (term acc : Int) → Int
  | 0, _, _, acc => acc
  | n + 1, k, term, acc => taylor x2 n (k + 2) (-(term * x2 / trigOne / (((k + 1) * (k + 2) : Nat) : Int))) (acc + term)

/-- Cosine and sine of 2 π j / n. -/
def cosSin (j n : Nat) : Int × Int :=
  let a := 4 * (j % n)
  let r := a % n
  let x : Int := ((halfPi * r / n : Nat) : Int)
  let x2 := x * x / trigOne
  let c := taylor x2 24 0 trigOne 0
  let s := taylor x2 24 1 x 0
  match a / n with
  | 0 => (c, s)
  | 1 => (-s, c)
  | 2 => (-c, -s)
  | _ => (s, -c)

/-! Windows and spectrum. -/

/-- R201: the coefficients of a window's cosines, in units of 10^-9. -/
def winCoefs : Nat → List Int
  | 0 => [1000000000]
  | 1 => [500000000, -500000000]
  | 2 => [215578950, -416631580, 277263158, -83578947, 6947368]
  | _ => [358750000, -488290000, 141280000, -11680000]

/-- R201: w_n of a window over `len` samples, in units of 10^-9 × 2^-128. -/
def window (win len n : Nat) : Int :=
  let cs := winCoefs win
  (List.range cs.length).foldl (fun a i => a + cs.getD i 0 * (cosSin (i * n) len).1) 0

/-- A finite binary32 in units of 2^-149. -/
def ulps (x : Nat) : Int :=
  let r := fratio f32 x
  r.1 * ((2 ^ 149 / r.2 : Nat) : Int)

/-- The sum of a_n e^(-2 π j k n / N) over a list: real and imaginary part, in units of 2^-128 of those of the a_n. -/
def dft (l : List Int) (k : Nat) : Int × Int :=
  l.zipIdx.foldl (fun (a : Int × Int) e =>
    let t := cosSin (k * e.2) l.length
    (a.1 + e.1 * t.1, a.2 - e.1 * t.2)) (0, 0)

/-- R202: P_k of a frame of scaled samples under a window; not finite where a sample is not. -/
def spectrum (win : Nat) (xs : List Nat) (k : Nat) : Nat :=
  if xs.any fun x => !ffinite f32 x then ffNan f32
  else
    let n := xs.length
    let ws := (List.range n).map (window win n)
    let x := dft ((ws.zip xs).map fun e => e.1 * ulps e.2) k
    let c : Int := if k == 0 then 1 else 2
    let s2 := (ws.foldl (fun a w => a + w * w) 0).toNat
    fofRat f32 (c * (x.1 * x.1 + x.2 * x.2)) (n * s2 * 2 ^ 554)

/-! Envelope. -/

/-- R203: whether transform bin `k` of `m` samples at `rate` (0.01 S/s) lies between the edges, both included. -/
def inPass (rate lo hi m k : Nat) : Bool :=
  let f : Int × Nat := ((k * rate : Nat), 100 * m)
  ratLe (fratio f32 lo) f && ratLe f (fratio f32 hi)

/-- R203: the magnitudes of the analytic signal of samples between two edges, in binary64. -/
def analytic (rate lo hi : Nat) (xs : List Nat) : List Nat :=
  let m := xs.length
  let zs := xs.map ulps
  let ks := (List.range (m / 2 + 1)).filter (inPass rate lo hi m)
  let bins := ks.map fun k =>
    let g : Int := if k == 0 || 2 * k == m then 1 else 2
    let x := dft zs k
    (k, g * x.1, g * x.2)
  (List.range m).map fun n =>
    let z := bins.foldl (fun (a : Int × Int) b =>
      let t := cosSin (b.1 * n) m
      (a.1 + b.2.1 * t.1 - b.2.2 * t.2, a.2 + b.2.1 * t.2 + b.2.2 * t.1)) (0, 0)
    fsqrt f64 (fofRat f64 (z.1 * z.1 + z.2 * z.2) (m * m * 2 ^ 810))

def f64of (x : Nat) : Nat := fconv f32 f64 x
def f32of (x : Nat) : Nat := fflush32 (fconv f64 f32 x)

/-- The mean of a list in binary64. -/
def mean64 (l : List Nat) : Nat := fdiv f64 (l.foldl (fadd f64) 0) (fofInt f64 ((l.length : Nat) : Int))

/-- R203: the envelope of time samples at `rate` (0.01 S/s) between two edges, its mean removed. -/
def envelope (rate lo hi : Nat) (xs : List Nat) : List Nat :=
  if xs.any fun x => !ffinite f32 x then xs.map fun _ => ffNan f32
  else
    let l := analytic rate lo hi xs
    let m := mean64 l
    l.map fun y => f32of (fsub f64 y m)

/-! Resampling. -/

/-- R198: four-point cubic (Catmull-Rom) interpolation at `num / den` of the way from `b` to `c`. -/
def catmullRom (a b c d num den : Nat) : Nat :=
  if [a, b, c, d].any fun x => !ffinite f32 x then ffNan f32
  else
    let (a, b, c, d) := (ulps a, ulps b, ulps c, ulps d)
    let u : Int := (num : Int)
    let v : Int := (den : Int)
    let y := 2 * b * v * v * v + (c - a) * u * v * v + (2 * a - 5 * b + 4 * c - d) * u * u * v + (3 * b - a - 3 * c + d) * u * u * u
    fofRat f32 y (2 * den * den * den * 2 ^ 149)

/-- R198: the resampled value at watch time `at_` of samples `xs` of `rate` (0.01 S/s) that begin at `t0`, low-pass filtered at
0.4 × R; `dt` = 1 / R. -/
def resample (rate t0 dt : Nat) (xs : List Nat) (at_ : Nat) : Nat :=
  let pos := (at_ - t0) * rate
  let one := 100 * 2 ^ 32
  let i := pos / one
  let y (k : Nat) : Nat := Config.lowPass rate dt xs (min k (xs.length - 1))
  catmullRom (y (i - 1)) (y i) (y (i + 1)) (y (i + 2)) (pos % one) one

/-! Decibels. -/

/-- log10 2 in units of 2^-128. -/
def log10Two : Nat := 0x4D104D427DE7FBCC47C4ACD605BE48BC

/-- The bits of a binary logarithm after the point: `y` between 1 and 2 in units of 2^-192. -/
def log2Bits : (fuel y acc : Nat) → Nat
  | 0, _, acc => acc
  | n + 1, y, acc =>
    let z := y * y / 2 ^ 192
    if 2 ^ 193 ≤ z then log2Bits n (z / 2) (2 * acc + 1) else log2Bits n z (2 * acc)

/-- log2 of n / d in units of 2^-96. -/
def log2Rat (n d : Nat) : Int :=
  let e : Int := ((Nat.log2 n : Nat) : Int) - ((Nat.log2 d : Nat) : Int)
  let y := n * 2 ^ (192 + Nat.log2 d) / (d * 2 ^ Nat.log2 n)
  let (e, y) := if y < 2 ^ 192 then (e - 1, 2 * y) else (e, y)
  e * 2 ^ 96 + ((log2Bits 96 y 0 : Nat) : Int)

/-- R211: 20 log10 (v / m), both positive; not finite where v is not. -/
def ratioDb (v m : Nat) : Nat :=
  if !ffinite f32 v || !ffinite f32 m then fdiv f32 v m
  else
    let a := fratio f32 v
    let b := fratio f32 m
    fofRat f32 (20 * log2Rat (a.1.toNat * b.2) (b.1.toNat * a.2) * (log10Two : Int)) (2 ^ 224)

end Sys2Proof.Machine
end

