-- ==== Sys2Proof/Machine/CmwOps.lean ====
section
/-! DEFINITION. The waveform engine: timelines and rings (R186, R190 to R194), order tracking (R197 to R199), frames and
features (R200 to R209), baselines (R211 to R214), captures (R217 to R220, R370, R374). -/

namespace Sys2Proof.Machine

def State.chan (s : State) (c : Nat) : Rec 64 := tget Chan.factory s.cmw.chan c
def State.setChan (c : Nat) (r : Rec 64) (s : State) : State := s.onCmw fun x => { x with chan := tset Chan.factory x.chan c r }
def State.modChan (c : Nat) (f : Rec 64 → Rec 64) (s : State) : State := s.setChan c (f (s.chan c))
def State.chx (s : State) (c : Nat) : ChX := tget ChX.zero s.cmw.ext c
def State.setChx (c : Nat) (r : ChX) (s : State) : State := s.onCmw fun x => { x with ext := tset ChX.zero x.ext c r }
def State.modChx (c : Nat) (f : ChX → ChX) (s : State) : State := s.setChx c (f (s.chx c))
def State.capDef (s : State) (d : Nat) : Rec 256 := tget 0 s.cmw.defs d
def State.setDef (d : Nat) (r : Rec 256) (s : State) : State := s.onCmw fun x => { x with defs := tset 0 x.defs d r }

/-- Factory baseline set: the basic READY_N, LEARN_N and FLOOR (R211). -/
def Base.factory : Rec 4096 :=
  fput Base.READY_N 1000 (fput Base.LEARN_N 10000 (fput Base.FLOOR 0x3D4CCCCD 0))
def State.base (s : State) (n : Nat) : Rec 4096 := tget Base.factory s.cmw.base n
def State.setBase (n : Nat) (r : Rec 4096) (s : State) : State := s.onCmw fun x => { x with base := tset Base.factory x.base n r }

def Base.SPD_LO : Fld := ⟨0x60, 32⟩
def Base.SPD_HI : Fld := ⟨0x80, 32⟩
def Base.LOAD_LO : Fld := ⟨0xA0, 32⟩
def Base.LOAD_HI : Fld := ⟨0xC0, 32⟩
def Base.MEAN (b : Nat) : Fld := ⟨8 * (0x40 + 16 * b), 32⟩
def Base.VAR (b : Nat) : Fld := ⟨8 * (0x44 + 16 * b), 32⟩
def Base.COUNT (b : Nat) : Fld := ⟨8 * (0x48 + 16 * b), 24⟩

/-- Channel `k` of a capture definition. -/
def Cap.CH (k : Nat) : Fld := ⟨8 * 0x20 + 16 * k, 16⟩
def capChs (d : Rec 256) : List Nat := (List.range (fget Cap.NCH d)).map fun k => fget (Cap.CH k) d

/-! Rates and samples. -/

/-- R194: the format of a channel's samples, binary32 for a local input. -/
def fmtOf (c : Rec 64) : Nat := if fbit Chan.SRC_LOCAL c then 2 else fget Chan.FMT c

def sampleBytes (c : Rec 64) : Nat := if fmtOf c == 0 then 2 else 4

/-- R188: log2 of the frame length. The manual gives LOG2N four bits and the values 8 to 16; 16 is the one that its four low
bits, 0, spell (DESIGN CHOICE, log entry 78). -/
def logN (c : Rec 64) : Nat := if fget Chan.LOG2N c == 0 then 16 else fget Chan.LOG2N c

/-- The watch time that `n` samples take, at a rate in 0.01 S/s. -/
def spanOf (rate n : Nat) : Nat := n * 100 * 2 ^ 32 / rate

/-- The samples that fit in a span, to the nearest. -/
def samplesIn (rate d : Nat) : Nat := (d * rate + 50 * 2 ^ 32) / (100 * 2 ^ 32)

/-- R200, R204: a sample as received, scaled to binary32. -/
def scaledOf (c : Rec 64) (done : Bool) (raw : Nat) : Nat :=
  let k := fget Chan.SCALE c
  match fmtOf c with
  | 0 => fmul f32 (fofInt f32 (sext 16 raw)) k
  | 1 => fmul f32 (fofInt f32 (sext 24 raw)) k
  | _ => if done then raw else fmul f32 raw k

/-- R206: a sample holds the lowest or highest code of an integer format. -/
def extremeCode (c : Rec 64) (raw : Nat) : Bool :=
  match fmtOf c with
  | 0 => raw == 0x7FFF || raw == 0x8000
  | 1 => raw % 2 ^ 24 == 0x7FFFFF || raw % 2 ^ 24 == 0x800000
  | _ => false

def segTotal (l : List Seg) : Nat := l.foldl (fun a g => a + g.n) 0

/-- A run of samples without its first `k`. -/
def Seg.dropN (bytes rate k : Nat) (g : Seg) : Seg :=
  { g with t := g.t + spanOf rate k, n := g.n - k, data := g.data >>> (8 * bytes * k) }

/-- A run of samples, its first `k` only. -/
def Seg.takeN (bytes k : Nat) (g : Seg) : Seg := { g with n := min k g.n, data := g.data % 2 ^ (8 * bytes * min k g.n) }

/-- The ring without its oldest samples, so that at most `cap` remain. -/
def trimRing (bytes rate : Nat) : Nat → List Seg → List Seg
  | _, [] => []
  | above, g :: l => if above == 0 then g :: l else if g.n ≤ above then trimRing bytes rate (above - g.n) l else g.dropN bytes rate above :: l

/-- The runs of a ring that lie in samples `a` to `a + n - 1` counted from the ring's first. -/
def sliceRing (bytes rate : Nat) : Nat → Nat → List Seg → List Seg
  | _, _, [] => []
  | a, n, g :: l =>
    if n == 0 then []
    else if g.n ≤ a then sliceRing bytes rate (a - g.n) n l
    else
      let h := (g.dropN bytes rate a).takeN bytes n
      h :: sliceRing bytes rate 0 (n - h.n) l

/-- The samples of a run. -/
def Seg.raws (bytes : Nat) (g : Seg) : List Nat := (List.range g.n).map fun k => (g.data >>> (8 * bytes * k)) % 2 ^ (8 * bytes)

/-- R186: samples that a channel's ring holds. -/
def ringCap (c : Rec 64) : Nat := fget Chan.RING_GRAN c * 2 ^ 20 / sampleBytes c

/-! Frames (R200). -/

def overlapOf (c : Rec 64) : Nat := 2 ^ fget Chan.OVERLAP c

/-- The samples of runs, each as received and whether scaling is done. -/
def rawsOf (c : Rec 64) (segs : List Seg) : List (Nat × Bool) :=
  segs.foldl (fun l g => l ++ (g.raws (sampleBytes c)).map fun r => (r, g.scaled)) []

/-- The first instant of runs. -/
def firstT (segs : List Seg) : Nat := (segs.head?.map fun g => g.t).getD 0

/-- A complete frame over runs of samples. In the order domain with its resampling instants and `wide`, the runs that
interpolation needs. -/
def frameFrom (ch : Nat) (c : Rec 64) (segs wide : List Seg) (inst : List Nat) : CFrame :=
  let rate := fget Chan.RATE_CHZ c
  let raws := rawsOf c segs
  let q := segs.foldl (fun q g => q ||| g.qual) 0
  let q := if raws.any fun r => extremeCode c r.1 then q ||| 64 else q
  let last := match segs.getLast? with
    | some g => g.t + spanOf rate (g.n - 1)
    | none => 0
  let scaled (l : List (Nat × Bool)) : List Nat := l.map fun r => scaledOf c r.2 r.1
  { ch := ch, xs := scaled raws, t0 := firstT segs, tLast := last, inst := inst, ws := scaled (rawsOf c wide), tw := firstT wide
    qual := q }

/-- R200: complete time-domain frames leave the ring, at most `fuel`; frames that touch a gap are discarded. -/
def State.framesTime : Nat → Nat → State → State
  | 0, _, s => s
  | fuel + 1, ch, s =>
    let c := s.chan ch
    let x := s.chx ch
    let n := 2 ^ logN c
    if x.first + segTotal x.ring < x.fStart + n then s
    else
      let segs := sliceRing (sampleBytes c) (fget Chan.RATE_CHZ c) (x.fStart - x.first) n x.ring
      let s := s.setChx ch { x with fStart := x.fStart + n / overlapOf c }
      let s := if x.fStart < x.first || segs.any fun g => g.gap then s
        else s.onCmw fun m => { m with frames := m.frames ++ [frameFrom ch c segs [] []] }
      State.framesTime fuel ch s

/-- R198 to R200: complete order frames, each with the sample before its first instant and the two after its last, which
interpolation needs; one with overspeed is discarded. -/
def State.framesOrder : Nat → Nat → State → State
  | 0, _, s => s
  | fuel + 1, ch, s =>
    let c := s.chan ch
    let x := s.chx ch
    let n := 2 ^ logN c
    let rate := fget Chan.RATE_CHZ c
    let fr := x.inst.take n
    let t0 := (fr.head?.getD 0) / 4
    let t1 := (fr.getLast?.getD 0) / 4
    if fr.length < n || fget Chan.T_NEXT c ≤ t1 + spanOf rate 2 then s
    else
      let s := s.setChx ch { x with inst := x.inst.drop (n / overlapOf c) }
      let ringT := firstT x.ring
      let at_ (t : Nat) : Nat := (t - ringT) * rate / (100 * 2 ^ 32)
      let a := samplesIn rate (t0 - ringT)
      let segs := sliceRing (sampleBytes c) rate a (samplesIn rate (t1 - t0) + 1) x.ring
      let wide := sliceRing (sampleBytes c) rate (at_ t0 - 1) (at_ t1 + 3 - (at_ t0 - 1)) x.ring
      let overMax := (fr.head?.getD 0) / 2 % 2 == 1 || fr.tail.any fun t => t % 2 == 1
      let s := if overMax then
          (s.modChan ch (fput Chan.OVERSPEED 1)).bump Reg.CMW_OVERSPEED_CNT.COUNT
        else
          let s := s.modChan ch (fput Chan.OVERSPEED 0)
          if t0 < ringT || segs.any fun g => g.gap then s
          else s.onCmw fun m => { m with frames := m.frames ++ [frameFrom ch c segs wide (fr.map fun t => t / 4)] }
      State.framesOrder fuel ch s

/-- R216, R677, R678: an FFT unit is awake for every frame that waits (log entry 50). -/
def State.fftWake (s : State) : State :=
  let n := if s.rb Reg.PWR_GATE_CTRL.FFT_GATE_EN then min 256 s.cmw.frames.length else 256
  s.wf Reg.PWR_FFT_AWAKE.COUNT (max n (s.rf Reg.PWR_FFT_AWAKE.COUNT))

/-- Frames that are complete now. -/
def State.framesNow (ch : Nat) (s : State) : State :=
  let c := s.chan ch
  if !fbit Chan.ORDER_EN c then (s.framesTime 65536 ch).fftWake
  else if fbit Chan.STOPPED c then s else (s.framesOrder 65536 ch).fftWake

/-! Captures. -/

/-- R374: bytes of a slot's body, made a record. -/
def capSlot (typ bytes body t : Nat) : LRec := ⟨typ, body, (bytes + 63) / 64, false, false, t, 0, 0⟩

/-- A slot goes into a capture volume and to the DATA_OUT rings of its definition; answers whether the volume took it. -/
def State.capWrite (d v : Nat) (r : LRec) (s : State) : Bool × State :=
  if !s.volOpen v then (false, s)
  else
    let b := slotBytes (tget 0 s.cmw.capPos v) r
    let (s, rest) := s.volFlush v 0 [(r, b)]
    if rest.isEmpty then
      (true, (s.onCmw fun m => { m with capPos := tmod 0 m.capPos v (· + 1) }).outSlot 2 d b (64 * r.len64))
    else (false, s)

def State.capId (s : State) (d : Nat) : Nat := d + (fget Cap.CAP_COUNT (s.capDef d) % 2 ^ 22) * 2 ^ 10

def State.capture (s : State) (d : Nat) : Option Capt := s.cmw.caps.find? fun c => c.def_ == d
def State.setCapture (c : Capt) (s : State) : State :=
  s.onCmw fun m => { m with caps := m.caps.map fun x => if x.def_ == c.def_ then c else x }

/-- R220: a capture is over with a status: 0 OK, 1 ABORTED, 2 STOPPED_FULL. `failed`: the failed volume. -/
def State.capOver (d st : Nat) (failed : Option Nat) (s : State) : State :=
  if (s.capture d).isNone then s
  else
    let v := fget Cap.VOLUME (s.capDef d)
    let s := s.onCmw fun m => { m with caps := m.caps.filter fun x => x.def_ != d }
    let s := (s.wf Reg.CMW_CAP_RUNNING.COUNT s.cmw.caps.length).modVol v fun x => { x with capUse := x.capUse - 1 }
    s.raise Ev.CMW_CAP_END d [st, fget Cap.CAP_COUNT (s.capDef d), failed.getD 0xFFFFFFFF]

/-- R220, R374: a capture ends with a status and its CAPEND slot. -/
def State.capEnd (d st : Nat) (failed : Option Nat) (s : State) : State :=
  match s.capture d with
  | none => s
  | some c =>
    let r := s.capDef d
    let v := fget Cap.VOLUME r
    let gaps := (c.gaps.take 32).foldr (fun g a => g.1 + g.2 * 2 ^ 64 + a * 2 ^ 128) 0
    let body := s.capId d + st * 2 ^ 32 + b2n c.short * 2 ^ 64 + c.gaps.length * 2 ^ 96 + c.tLast * 2 ^ 128 + gaps * 2 ^ 192
    (s.capWrite d v (capSlot 0x12 640 body c.tLast)).2.capOver d st failed

/-- R374: samples of a channel go into a capture as CAPDATA slots of at most 64 KiB. -/
def State.capData (d ch : Nat) (fmt : Nat) (bytes rate : Nat) : Nat → Seg → State → Bool × State
  | 0, _, s => (true, s)
  | fuel + 1, g, s =>
    if g.n == 0 then (true, s)
    else
      let k := min g.n (65492 / bytes)
      let h := g.takeN bytes k
      let body := s.capId d + (ch + fmt * 2 ^ 16) * 2 ^ 32 + h.t * 2 ^ 64 + h.n * 2 ^ 128 + h.data * 2 ^ 192
      let (ok, s) := s.capWrite d (fget Cap.VOLUME (s.capDef d)) (capSlot 0x11 (0x20 + k * bytes + 12) body h.t)
      if ok then State.capData d ch fmt bytes rate fuel (g.dropN bytes rate k) s else (false, s)

/-- The part of a run that lies in a window. -/
def Seg.within (bytes rate lo : Nat) (hi : Option Nat) (g : Seg) : Seg :=
  let a := if g.t < lo then min g.n ((((lo - g.t) * rate) + (100 * 2 ^ 32 - 1)) / (100 * 2 ^ 32)) else 0
  let g := g.dropN bytes rate a
  match hi with
  | none => g
  | some e => if e < g.t then g.takeN bytes 0 else g.takeN bytes ((e - g.t) * rate / (100 * 2 ^ 32) + 1)

/-- R218: samples of channel `ch` are copied into a running capture as far as its window goes; a volume that takes no more
ends it (R370). -/
def State.capCopy (d ch : Nat) (g : Seg) (s : State) : State :=
  match s.capture d with
  | none => s
  | some c =>
    let r := s.chan ch
    let b := sampleBytes r
    let rate := fget Chan.RATE_CHZ r
    let h := g.within b rate c.tBegin c.tEnd
    if h.n == 0 then s
    else
      let c := { c with
        gaps := if h.gap then c.gaps ++ [(h.t, h.n)] else c.gaps, tLast := max c.tLast (h.t + spanOf rate (h.n - 1)) }
      let (ok, s) := (s.setCapture c).capData d ch (fmtOf r) b rate (h.n + 1) h
      if ok then s else s.capEnd d 2 none

/-- The samples of a run at or before the end of a window. -/
def Seg.upTo (rate : Nat) (hi : Option Nat) (g : Seg) : Nat :=
  match hi with
  | none => g.n
  | some e => if e < g.t then 0 else min g.n ((e - g.t) * rate / (100 * 2 ^ 32) + 1)

/-- The number of channel `ch`'s next sample to copy. -/
def Capt.posOf (c : Capt) (ch : Nat) : Nat := tget 0 c.pos ch
def Capt.setPos (c : Capt) (ch n : Nat) : Capt := { c with pos := tset 0 c.pos ch n }

/-- The running captures that name a channel. -/
def State.capsOf (s : State) (ch : Nat) : List Nat :=
  (s.cmw.caps.filter fun c => (capChs (s.capDef c.def_)).contains ch).map fun c => c.def_

/-- R218: a running capture copies what channel `ch`'s ring holds of its window. -/
def State.capSync (d ch : Nat) (s : State) : State :=
  match s.capture d with
  | none => s
  | some c =>
    let r := s.chan ch
    let x := s.chx ch
    let rate := fget Chan.RATE_CHZ r
    let pos := max (c.posOf ch) x.first
    let segs := sliceRing (sampleBytes r) rate (pos - x.first) (x.first + segTotal x.ring - pos) x.ring
    let n := segs.foldl (fun n g => n + g.upTo rate c.tEnd) 0
    segs.foldl (fun s g => s.capCopy d ch g) (s.setCapture (c.setPos ch (pos + n)))

/-- R219, R220: a running capture may copy now or lag behind, a free value (log entry 80). -/
def State.capMay (d ch : Nat) (s : State) : State :=
  let (lag, s) := s.fresh
  if lag % 2 == 1 then s else s.capSync d ch

/-- R219, R220: samples of channel `ch` before number `upto` leave the ring. A capture that had not copied such of its window
has lost them: before its trigger it starts later, from its trigger on it is ABORTED. -/
def State.capLose (ch upto : Nat) (s : State) : State :=
  let r := s.chan ch
  let x := s.chx ch
  let b := sampleBytes r
  let rate := fget Chan.RATE_CHZ r
  (s.capsOf ch).foldl (fun s d =>
    match s.capture d with
    | none => s
    | some c =>
      let pos := max (c.posOf ch) x.first
      let lost := ((sliceRing b rate (pos - x.first) (upto - pos) x.ring).map (Seg.within b rate c.tBegin c.tEnd)).filter fun g => g.n != 0
      let c2 := c.setPos ch (max pos upto)
      match lost.getLast? with
      | none => s.setCapture c2
      | some g =>
        let s := if c.lost then s else s.bump Reg.CMW_CAP_OVERRUN_CNT.COUNT
        if g.t + spanOf rate (g.n - 1) < c.tTrig then s.setCapture { c2 with lost := true, short := true }
        else (s.setCapture c2).capEnd d 1 none) s

/-- R218, R219, R370, R374: a trigger of a definition at a time, by a condition or sector (its number), with the SEQ of the
change. -/
def State.capTrigger (d t trig seq : Nat) (s : State) : State :=
  let r := s.capDef d
  if !fbit Cap.VALID r || !s.rb Reg.CMW_CTRL.CAPTURE_EN then s
  else
    let post := fget Cap.POST_MS r
    let tEnd := if post == 0xFFFFFFFF then none else some (t + ofMs post)
    match s.capture d with
    | some c =>
      if fbit Cap.RETRIG r then (s.setCapture { c with tEnd := tEnd }).setDef d (fput Cap.T_TRIG t r)
      else s.bump Reg.CMW_RETRIG_IGN_CNT.COUNT
    | none =>
      if 256 ≤ s.cmw.caps.length then (s.bump Reg.CMW_CAP_SKIP_CNT.COUNT).raise Ev.CMW_CAP_SKIP d [trig]
      else
        let r := fput Cap.T_TRIG t (fput Cap.CAP_COUNT (fget Cap.CAP_COUNT r + 1) r)
        let s := s.setDef d r
        let lo := t - ofMs (fget Cap.PRE_MS r)
        let chs := capChs r
        let olds := chs.filterMap fun ch => (s.chx ch).ring.head?.map fun g => g.t
        let short := olds.any fun o => decide (lo < o)
        let begin_ := match olds with
          | [] => lo
          | o :: os => max lo (os.foldl min o)
        let c : Capt := ⟨d, t, begin_, tEnd, short, [], begin_, [], false⟩
        let s := s.onCmw fun m => { m with caps := m.caps ++ [c] }
        let v := fget Cap.VOLUME r
        let s := (s.wf Reg.CMW_CAP_RUNNING.COUNT s.cmw.caps.length).modVol v fun x => { x with capUse := x.capUse + 1 }
        if !s.volOpen v then
          let st := s.rf (Reg.HST_VOL.STATE v)
          s.capEnd d (if st == 3 then 2 else 1) (if st == 4 then some v else none)
        else
          let chw := (chs.map fun ch => ch + fmtOf (s.chan ch) * 2 ^ 16 + fget Chan.RATE_CHZ (s.chan ch) * 2 ^ 32).foldr
            (fun w a => w + a * 2 ^ 64) 0
          let body := s.capId d + chs.length * 2 ^ 32 + t * 2 ^ 64 + begin_ * 2 ^ 128 + (tEnd.getD (2 ^ 64 - 1)) * 2 ^ 192 +
            trig * 2 ^ 256 + (seq % 2 ^ 32) * 2 ^ 288 + chw * 2 ^ 320
          let (ok, s) := s.capWrite d v (capSlot 0x10 640 body t)
          if !ok then s.capEnd d 2 none
          else chs.foldl (fun s ch => s.capMay d ch) s

/-- R218: the definitions that an activation matches, in ascending number. -/
def State.capMatches (s : State) (cond : Nat) (sects : List Nat) : List (Nat × Nat) :=
  s.cmw.defs.filterMap fun e =>
    let k := fget Cap.TRIG_KIND e.2
    let g := fget Cap.TRIG e.2
    if !fbit Cap.VALID e.2 then none
    else if k == 0 && g == cond then some (e.1, cond)
    else if k == 1 && sects.contains (g % 65536) then some (e.1, g % 65536) else none

/-! Timelines (R190, R192, R193). -/

/-- The ring is emptied and the frame in progress discarded. -/
def ChX.empty (x : ChX) : ChX :=
  { x with ring := [], first := 0, fStart := 0, inst := [], lastT := 0, lastV := 0, angle := 0, overMax := false }

/-- A channel's ring is emptied under the captures that run. -/
def State.ringEmpty (ch : Nat) (s : State) : State :=
  let x := s.chx ch
  let s := s.capLose ch (x.first + segTotal x.ring)
  (s.onCmw fun m => { m with caps := m.caps.map fun c => c.setPos ch 0 }).modChx ch ChX.empty

/-- R190: a channel restarts. -/
def State.chanRestart (ch : Nat) (s : State) : State :=
  let s := (s.capsOf ch).foldl (fun s d => s.capEnd d 1 none) s
  let s := s.modChx ch fun x => { x.empty with started := false }
  let sets := s.cmw.bnd.filterMap fun e =>
    if fbit Bnd.VALID e.2 && fbit Bnd.DEV e.2 && fget Bnd.CHANNEL e.2 == ch then some (fget Bnd.BSET e.2) else none
  sets.foldl (fun s n => s.setBase n (fput ⟨512, 32256⟩ 0 (s.base n))) s

/-- R193: a gap or resynchronisation of a channel is counted and reported, once per second at most. -/
def State.chanGap (ch : Nat) (resync : Bool) (n : Nat) (s : State) : State :=
  let s := (s.bump (if resync then Reg.CMW_RESYNC_CNT.COUNT else Reg.CMW_GAP_CNT.COUNT)).modChan ch fun c =>
    fput Chan.GAPS (fget Chan.GAPS c + 1) c
  let x := s.chx ch
  if x.gapAt != 0 && decide (s.wt < x.gapAt - 1 + ofS 1) then s
  else (s.setChx ch { x with gapAt := s.wt + 1 }).raise Ev.CMW_GAP ch [b2n resync, n]

/-- A run of samples joins a channel's ring and the captures that name the channel. -/
def State.append (ch : Nat) (g : Seg) (s : State) : State :=
  let c := s.chan ch
  let x := s.chx ch
  let l := x.ring ++ [g]
  let above := segTotal l - ringCap c
  let s := s.capLose ch (x.first + above)
  let s := s.setChx ch { x with ring := trimRing (sampleBytes c) (fget Chan.RATE_CHZ c) above l, first := x.first + above }
  (s.capsOf ch).foldl (fun s d => s.capMay d ch) s

/-- R192, R193: a block is checked and placed on its channel's timeline. -/
def State.placeBlock (b : CBlk) (s : State) : State :=
  let c := s.chan b.ch
  let seqNext := fget Chan.SEQ_NEXT c
  let seq := b.seq.getD seqNext
  if !fbit Chan.EN c || (fbit Chan.SRC_CHK c && b.seq.isSome && b.src != fget Chan.SRC_NODE c) || b.fmt != fmtOf c ||
      b.rate != fget Chan.RATE_CHZ c || b.n == 0 then s.bump Reg.CMW_BLOCK_DROP_CNT.COUNT
  else if (s.chx b.ch).started && seq < seqNext then s.bump Reg.CMW_DUP_CNT.COUNT
  else
    let rate := b.rate
    let p2 := 2 * spanOf rate 1
    let tn := fget Chan.T_NEXT c
    let gap := samplesIn rate (b.t - tn)
    let s :=
      if !(s.chx b.ch).started then s.modChx b.ch fun x => { x.empty with started := true }
      else if b.discont || b.t + p2 < tn || decide (ringCap c ≤ gap) then
        (s.ringEmpty b.ch).chanGap b.ch true 0
      else if seqNext < seq || tn + p2 < b.t then
        (if gap == 0 then s else s.append b.ch ⟨tn, gap, 0, true, 0, true⟩).chanGap b.ch false gap
      else s
    let s := s.append b.ch ⟨b.t, b.n, b.data, false, b.qual &&& 0xC0, b.scaled⟩
    let s := s.modChan b.ch fun c => fput Chan.T_NEXT (b.t + spanOf rate b.n) (fput Chan.SEQ_NEXT (seq + 1) (fput Chan.CHQUAL (b.qual &&& 0xC0) c))
    s.framesNow b.ch

/-! Order tracking (R197 to R199). -/

/-- R199: a channel forms no frame. -/
def State.chanStop (ch : Nat) (s : State) : State :=
  let c := s.chan ch
  let s := s.modChx ch fun x => { x with inst := [], angle := 0, overMax := false }
  if fbit Chan.STOPPED c then s
  else (s.setChan ch (fput Chan.STOPPED 1 c)).raise Ev.CMW_STOPPED ch [fget Chan.SPEED_REF c]

/-- The resampling instants that an advance of `inc` (units of 2^-64 revolution) gives, the k-th from the instant `at_ a`
at which the angle has grown by `a`, and whether the speed has been above MAX_RPM since the last of them. Each is four times
its watch time, plus 2 where the speed is above MAX_RPM, plus 1 where it has been since the instant before. `overMax`: it has been
from the last instant to `t0`, the advance's start; `t1`: its end. -/
def instants (step angle inc : Nat) (at_ : Nat → Nat) (above : Nat → Bool) (overMax : Bool) (t0 t1 : Nat) : List Nat × Bool :=
  let ts := (List.range ((angle + inc) / step)).map fun k => at_ ((k + 1) * step - angle)
  let own := ts.map above
  let before := (overMax || above t0) :: own
  (((before.zip (ts.zip own)).map fun e => 4 * e.2.1 + 2 * b2n e.2.2 + b2n (e.1 || e.2.2)), (before.getLast?.getD overMax) || above t1)

/-- The least time in `0 … n` at which `p` holds, by halving. -/
def bisect (p : Nat → Bool) : Nat → Nat → Nat → Nat
  | 0, _, hi => hi
  | fuel + 1, lo, hi => if hi ≤ lo then hi else
    let m := (lo + hi) / 2
    if p m then bisect p fuel lo m else bisect p fuel (m + 1) hi

/-- R198, R199: a channel's speed between its last pulse or update and time `t`. `v`: the new speed as binary32, `lowest` that
of the span, `speed` that of an instant; `at_` the time at which the angle has grown by a number, `inc` the whole advance. -/
def State.chanAdvance (ch t v : Nat) (lowest : Int × Nat) (speed : Nat → Int × Nat) (inc : Nat) (at_ : Nat → Nat) (s : State) : State :=
  let c := s.chan ch
  let r := tget 0 s.cmw.spd (fget Chan.SPEED_REF c)
  let last := (s.chx ch).lastT - 1
  let s := s.modChx ch fun x => { x with lastT := t + 1, lastV := v }
  if ratLt lowest (fratio f32 (fget Spd.MIN_RPM r)) then s.chanStop ch
  else
    let s := s.modChan ch (fput Chan.STOPPED 0)
    let step := 2 ^ (64 - fget Chan.SPR_LOG2 c)
    let above (n : Nat) : Bool := ratLt (fratio f32 (fget Spd.MAX_RPM r)) (speed n)
    let s := s.modChx ch fun x =>
      let (l, overMax) := instants step x.angle inc at_ above x.overMax last t
      { x with inst := x.inst ++ l, overMax := overMax, angle := (x.angle + inc) % step }
    s.framesNow ch

/-- The enabled order channels of a speed reference. -/
def State.orderChans (s : State) (ref : Nat) : List Nat :=
  (s.cmw.chan.filter fun e => fbit Chan.EN e.2 && fbit Chan.ORDER_EN e.2 && fget Chan.SPEED_REF e.2 == ref).map Prod.fst

/-- R198: a tach pulse of a digital input at watch time `t`. -/
def State.tachPulse (dio t : Nat) (s : State) : State :=
  let refs := (s.cmw.spd.filter fun e => fget Spd.SRC e.2 == 1 && fget Spd.DIO_CH e.2 == dio).map Prod.fst
  refs.foldl (fun s ref =>
    let ppr := max 1 (fget Spd.PPR (tget 0 s.cmw.spd ref))
    (s.orderChans ref).foldl (fun s ch =>
      let x := s.chx ch
      let last := x.lastT - 1
      if x.lastT == 0 || t ≤ last then s.setChx ch { x with lastT := t + 1 }
      else
        let rpm : Int × Nat := ((60 * 2 ^ 32 : Nat), ppr * (t - last))
        let inc := 2 ^ 64 / ppr
        s.chanAdvance ch t (fofRat f32 rpm.1 rpm.2) rpm (fun _ => rpm) inc fun a => last + a * (t - last) / inc) s) s

/-- R198, R199: an update of a speed point. -/
def State.speedPoint (i : Nat) (s : State) : State :=
  let refs := (s.cmw.spd.filter fun e => fget Spd.SRC e.2 == 2 && fget Spd.SPEED_IDX e.2 == i).map Prod.fst
  if refs.isEmpty || s.pwr.keeping then s
  else
    let p := s.pt i
    let v := operand p
    let t := fget Pt.T_SRC p
    refs.foldl (fun s ref => (s.orderChans ref).foldl (fun s ch =>
      let x := s.chx ch
      if badQual (s.quality i) then (s.modChx ch fun x => { x with lastT := 0 }).chanStop ch
      else
        let last := x.lastT - 1
        if x.lastT == 0 || t ≤ last then s.setChx ch { x with lastT := t + 1, lastV := v }
        else
          let a := fratio f32 x.lastV
          let b := fratio f32 v
          let d := t - last
          -- angle grown after τ, in units of 2^-64: (a τ + (b − a) τ² / 2d) · 2^64 / (60 · 2^32)
          let grown (τ : Nat) : Nat :=
            let x1 : Int × Nat := (a.1 * ((2 * d * τ : Nat) : Int), a.2)
            let e := ratSub b a
            let x2 : Int × Nat := (e.1 * ((τ * τ : Nat) : Int), e.2)
            let y := ratAdd x1 x2
            (y.1 * ((2 ^ 32 : Nat) : Int) / ((y.2 * (2 * d * 60) : Nat) : Int)).toNat
          let lo := if ratLt a b then a else b
          let speed (n : Nat) : Int × Nat :=
            let e := ratSub b a
            ratAdd a (e.1 * ((n - last : Nat) : Int), e.2 * d)
          s.chanAdvance ch t v lo speed (grown d) fun n => last + bisect (fun τ => decide (n ≤ grown τ)) 80 0 d) s) s

/-! Features (R202 to R206). -/

/-- R204: RMS, PEAK, CREST, KURT of the scaled samples (log entry 25). -/
def timeFeatures (xs : List Nat) : List Nat :=
  let ys := xs.map f64of
  let rms := fsqrt f32 (f32of (mean64 (ys.map fun y => fmul f64 y y)))
  let peak := xs.foldl (fun m x => fmax f32 m (fabs f32 x)) 0
  let m := mean64 ys
  let ds := ys.map fun y => fsub f64 y m
  let m2 := mean64 (ds.map fun d => fmul f64 d d)
  let m4 := mean64 (ds.map fun d => fmul f64 (fmul f64 d d) (fmul f64 d d))
  [rms, peak, if rms == 0 then 0 else fdiv f32 peak rms, if m2 == 0 then 0 else f32of (fdiv f64 m4 (fmul f64 m2 m2))]

/-- R205: the frequency of bin `k` in Hz or orders, as an exact ratio. -/
def binFreq (c : Rec 64) (k : Nat) : Int × Nat :=
  let n := 2 ^ logN c
  if fbit Chan.ORDER_EN c then ((k * 2 ^ fget Chan.SPR_LOG2 c : Nat), n) else ((k * fget Chan.RATE_CHZ c : Nat), 100 * n)

/-- R205: the bins of a band. -/
def bandBins (c : Rec 64) (b : Rec 16) : List Nat :=
  (List.range (2 ^ logN c / 2)).filter fun k =>
    ratLe (fratio f32 (fget Band.LO b)) (binFreq c k) && ratLt (binFreq c k) (fratio f32 (fget Band.HI b))

/-- R198: 1 / R at each resampling instant: the step to the next one, at the last that from the one before. -/
def instSteps (l : List Nat) : List Nat :=
  let d := (l.zip l.tail).map fun e => e.2 - e.1
  d ++ [d.getLast?.getD 0]

/-- R198, R202, R203: the samples of the spectrum that a band names, direct or envelope. -/
def analysed (c : Rec 64) (env : Bool) (f : CFrame) : List Nat :=
  let rate := fget Chan.RATE_CHZ c
  let side (l : List Nat) : List Nat := if env then envelope rate (fget Chan.ENV_LO c) (fget Chan.ENV_HI c) l else l
  if fbit Chan.ORDER_EN c then
    let ys := side f.ws
    (f.inst.zip (instSteps f.inst)).map fun e => resample rate f.tw e.2 ys e.1
  else side f.xs

/-- R202, R203, R205: a band's energy in a frame. -/
def bandEnergy (c : Rec 64) (b : Rec 16) (f : CFrame) : Nat :=
  let zs := analysed c (fbit Band.ENV b) f
  let e := f32of (((bandBins c b).map fun k => f64of (spectrum (fget Chan.WINDOW c) zs k)).foldl (fadd f64) 0)
  if fbit Chan.BAND_RMS c then fsqrt f32 e else e

/-- R204: feature `n` of a frame. -/
def State.feature (s : State) (f : CFrame) (n : Nat) : Nat :=
  let c := s.chan f.ch
  if n < 4 then (timeFeatures f.xs).getD n 0 else bandEnergy c (tget 0 s.cmw.band (f.ch * 64 + (n - 4))) f

/-! Baselines (R211 to R214). -/

/-- R212: one bin number: floor (k (x − lo) / (hi − lo)) limited to 0 … k − 1. -/
def binIndex (k x lo hi : Nat) : Nat :=
  let d := ratSub (fratio f32 hi) (fratio f32 lo)
  let n := ratSub (fratio f32 x) (fratio f32 lo)
  if d.1 ≤ 0 then 0
  else (clampI (n.1 * ((k * d.2 : Nat) : Int) / (d.1 * (n.2 : Int))) 0 ((k : Int) - 1)).toNat

/-- R212: a point's value at watch time `t`, as far as its record holds it: VALUE, before its last update PREV_VALUE (DEDUCED,
log entry 79). -/
def valueAt (t : Nat) (p : Rec 128) : Nat :=
  if t < fget Pt.T_SRC p then operand (fput Pt.VALUE (fget Pt.PREV_VALUE p) p) else operand p

/-- R212: the bin of a frame whose T_SRC is `t`; none where a point is not usable. -/
def State.baseBin (t : Nat) (s : State) (r : Rec 4096) : Option Nat :=
  let a := fget Base.SPD_IDX r
  let b := fget Base.LOAD_IDX r
  if badQual (s.quality a) || badQual (s.quality b) || s.kind a == kNone || s.kind b == kNone ||
      !flt f32 (fget Base.SPD_LO r) (fget Base.SPD_HI r) || !flt f32 (fget Base.LOAD_LO r) (fget Base.LOAD_HI r) then none
  else some (16 * binIndex 8 (valueAt t (s.pt b)) (fget Base.LOAD_LO r) (fget Base.LOAD_HI r) +
    binIndex 16 (valueAt t (s.pt a)) (fget Base.SPD_LO r) (fget Base.SPD_HI r))

/-- R211: sd and the deviation of a value in a bin; none where R213 writes none. -/
def deviation (r : Rec 4096) (b v : Nat) : Option Nat :=
  let m := fget (Base.MEAN b) r
  let sd := fmax f32 (fsqrt f32 (fget (Base.VAR b) r)) (fmul f32 (fget Base.FLOOR r) (fabs f32 m))
  let k := fget Base.DEV_KIND r
  if fget (Base.COUNT b) r < fget Base.READY_N r || !(k == 2 || flt f32 0 sd) || !(k != 1 || flt f32 0 m) then none
  else match k with
    | 0 => some (fdiv f32 (fsub f32 v m) sd)
    | 1 => some (if flt f32 0 v then ratioDb v m else 0xC2F00000)
    | _ => some (fsub f32 v m)

/-- R213: a bin learns a value. -/
def learn (r : Rec 4096) (b v : Nat) : Rec 4096 :=
  let n := min (fget (Base.COUNT b) r + 1) (fget Base.LEARN_N r)
  let a := fdiv f32 0x3F800000 (fofInt f32 ((n : Nat) : Int))
  let m := fget (Base.MEAN b) r
  let d := fsub f32 v m
  let m2 := fadd f32 m (fmul f32 a d)
  let var := fmul f32 (fsub f32 0x3F800000 a) (fadd f32 (fget (Base.VAR b) r) (fmul f32 (fmul f32 a d) d))
  fput (Base.COUNT b) n (fput (Base.MEAN b) m2 (fput (Base.VAR b) var r))

/-- R209: an update of the engine for a bound point. -/
def State.featureOut (f : CFrame) (point v : Nat) (s : State) : State :=
  s.toTile { idx := point, v := v, vn := twinOf v, twin := false, qual := f.qual, tSrc := f.tLast, src := s.rf Reg.FAB_NODE_ID.NODE
             tRx := s.wt, pair := 3 }

/-- R213, R214: a deviation binding takes a frame. -/
def State.baselineTake (f : CFrame) (bnd : Rec 16) (v : Nat) (s : State) : State :=
  let n := fget Bnd.BSET bnd
  let pt := fget Bnd.POINT bnd
  let r := s.base n
  match s.baseBin f.tLast r with
  | none => s
  | some b =>
    let s := match deviation r b v with
      | some d => s.featureOut f pt d
      | none => s
    if fbit Base.EXPERT r || fbit Base.LEARN_HOLD r || s.rb Reg.CMW_CTRL.LEARN_FREEZE || f.qual / 64 != 0 || fget Pt.ACTIVE (s.pt pt) != 0 ||
        !ffinite f32 v then s
    else
      let r2 := learn r b v
      let s := s.setBase n r2
      let k := n * 128 + b
      if fget (Base.COUNT b) r2 == fget Base.READY_N r2 && tget 0 s.cmw.binSeen k == 0 then
        (s.onCmw fun m => { m with binSeen := tset 0 m.binSeen k 1 }).raise Ev.CMW_BIN_READY n [b]
      else s

/-- R209: a frame's features and deviations, in ascending binding order. -/
def State.frameFeatures (f : CFrame) (s : State) : State :=
  let s := s.modChan f.ch fun c => fput Chan.FRAMES (fget Chan.FRAMES c + 1) c
  (s.cmw.bnd.filter fun e => fbit Bnd.VALID e.2 && fget Bnd.CHANNEL e.2 == f.ch).foldl (fun s e =>
    let v := s.feature f (fget Bnd.FEATURE e.2)
    if fbit Bnd.DEV e.2 then s.baselineTake f e.2 v else s.featureOut f (fget Bnd.POINT e.2) v) s

end Sys2Proof.Machine
end

