-- ==== Sys2Proof/Machine/CondOps.lean ====
section
/-! DEFINITION. How a tile evaluates conditions: delay timers (R105 to R110), the checks of records (R89, R93, R94),
comparison (R96 to R99), quality hold (R101, R102), first values (R122 to R127), activation and return (R111 to R113), changes
(R119 to R121). -/

namespace Sys2Proof.Machine

/-! Timers (R105 to R109). -/

def fineMax : Nat := 1048576

/-- The watch time of an evaluation: the Keeper's is Lightship watch time (R675, R686). -/
def State.evalNow (s : State) : Nat := if s.pwr.keeping then s.lwt else s.wt

/-- The tick of `ms` milliseconds at or after `t0` plus a delay of `d` ms: its number. -/
def dueTick (ms t0 d : Nat) : Nat := (t0 * 1000 + d * 2 ^ 32 + (ms * 2 ^ 32 - 1)) / (ms * 2 ^ 32)

/-! The coarse spill wheel (R108). -/

def WLink.NEXT : Fld := ⟨0, 27⟩
def WLink.USED : Fld := ⟨31, 1⟩
def WLink.PREV : Fld := ⟨32, 27⟩
/-- No owner. -/
def wheelNone : Nat := 0x7FFFFFF

/-- The slot of the timer that is served at watch time `fire`. -/
def wheelSlot (fire : Nat) : Nat := ticksBy 16 fire % 262144

def State.wlink (s : State) (o : Nat) : Rec 8 := tget 0 s.alm.wlink o
def State.whead (s : State) (k : Nat) : Nat := tget wheelNone s.alm.whead k
def State.setWlink (o : Nat) (r : Rec 8) (s : State) : State := s.onAlm fun a => { a with wlink := tset 0 a.wlink o r }
def State.setWhead (k o : Nat) (s : State) : State := s.onAlm fun a => { a with whead := tset wheelNone a.whead k o }

/-- A spilled timer becomes the first of its slot (the place in the slot is a DESIGN CHOICE, log entry 72). -/
def State.wheelPut (o fire : Nat) (s : State) : State :=
  let k := wheelSlot fire
  let h := s.whead k
  let s := s.setWlink o (fput WLink.NEXT h (fput WLink.PREV wheelNone (fput WLink.USED 1 0)))
  let s := if h == wheelNone then s else s.setWlink h (fput WLink.PREV o (s.wlink h))
  s.setWhead k o

/-- A timer is unlinked from its slot. -/
def State.wheelCut (o fire : Nat) (s : State) : State :=
  let r := s.wlink o
  if !fbit WLink.USED r then s
  else
    let n := fget WLink.NEXT r
    let p := fget WLink.PREV r
    let s := if p == wheelNone then s.setWhead (wheelSlot fire) n else s.setWlink p (fput WLink.NEXT n (s.wlink p))
    let s := if n == wheelNone then s else s.setWlink n (fput WLink.PREV p (s.wlink n))
    s.setWlink o 0

/-- The owners of a chain of at most `fuel` entries from `o` on. -/
def State.wheelFrom (s : State) : (fuel o : Nat) → List Nat
  | 0, _ => []
  | n + 1, o => if o == wheelNone then [] else o :: s.wheelFrom n (fget WLink.NEXT (s.wlink o))

/-- The owners in a slot. -/
def State.wheelOwners (s : State) (k : Nat) : List Nat := s.wheelFrom s.alm.wlink.length (s.whead k)

/-- R109: a spill episode ends at or below the exit level. -/
def State.spillJudge (s : State) : State :=
  if s.rb Reg.ALM_SPILL_STAT.SPILL_ACTIVE && decide (s.rf Reg.ALM_TIMER_USED.FINE_USED ≤ s.rf Reg.ALM_SPILL_EXIT.EXIT_LEVEL) then
    s.wf Reg.ALM_SPILL_STAT.SPILL_ACTIVE 0
  else s

/-- The lowest fine timer number not in use (DESIGN CHOICE, log entry 21). -/
def freeId (ids : List Nat) : Nat := ((List.range (ids.length + 1)).find? fun n => !ids.contains n).getD 0

/-- A timer starts at `t0` for `d` ms (R105, R107, R109): its fine number, and whether it is on the coarse wheel; the Keeper's
are never spilled (R686). -/
def State.timerStart (owner t0 d : Nat) (s : State) : (Nat × Bool) × State :=
  let now := s.evalNow
  if s.pwr.keeping || decide (s.alm.ids.length < fineMax) then
    let due := tickAt 1 (dueTick 1 t0 d)
    let fire := max due (tickAt 1 (ticksBy 1 now + 1))
    let id := freeId s.alm.ids
    let s := s.onAlm fun a => { a with ids := a.ids ++ [id], due := tset (0, 0) a.due owner (due + 1, if due ≤ now then fire else due) }
    let s := s.wf Reg.ALM_TIMER_USED.FINE_USED s.alm.ids.length
    ((id, false), s.wf Reg.ALM_TIMER_PEAK.PEAK (max (s.rf Reg.ALM_TIMER_PEAK.PEAK) s.alm.ids.length))
  else
    let due := tickAt 16 (dueTick 16 t0 d)
    let fire := max due (tickAt 16 (ticksBy 16 now + 1))
    let s := s.onAlm fun a =>
      { a with spills := a.spills + 1, due := tset (0, 0) a.due owner (due + 1, if due ≤ now then fire else due) }
    let s := s.wheelPut owner (if due ≤ now then fire else due)
    let s := (s.bump Reg.ALM_SPILL_CNT.COUNT).bump Reg.ALM_COARSE_USED.COARSE_USED
    let s := if s.rb Reg.ALM_SPILL_STAT.SPILL_ACTIVE then s
      else ((s.wf Reg.ALM_SPILL_STAT.SPILL_ACTIVE 1).wf Reg.ALM_SPILL_STAT.SPILL_SEEN 1).raise Ev.ALM_SPILL 0
        [s.rf Reg.ALM_TIMER_USED.FINE_USED]
    ((0, true), s)

/-- A timer ends, expired or cancelled. -/
def State.timerStop (owner id : Nat) (coarse : Bool) (s : State) : State :=
  let s := s.wheelCut owner (tget (0, 0) s.alm.due owner).2
  let s := s.onAlm fun a => { a with due := tset (0, 0) a.due owner (0, 0) }
  if coarse then s.drop Reg.ALM_COARSE_USED.COARSE_USED
  else
    let s := s.onAlm fun a => { a with ids := a.ids.erase id }
    (s.wf Reg.ALM_TIMER_USED.FINE_USED s.alm.ids.length).spillJudge

def State.delayRuns (s : State) (c : Nat) : Bool := fbit Cond.RUN (s.cond c)
def State.delayKind (s : State) (c : Nat) : Nat := fget Cond.TKIND (s.cond c)

/-- A condition's delay timer ends; a timer whose record has lost it (R143) leaves the wheels too. -/
def State.delayStop (c : Nat) (s : State) : State :=
  let r := s.cond c
  if !fbit Cond.RUN r then
    (if tget (0, 0) s.alm.due c == (0, 0) then s
      else (s.wheelCut c (tget (0, 0) s.alm.due c).2).onAlm fun a => { a with due := tset (0, 0) a.due c (0, 0) })
  else (s.setCond c (fput Cond.RUN 0 (fput Cond.COARSE 0 r))).timerStop c (fget Cond.TIMER_ID r) (fbit Cond.COARSE r)

/-- A condition's delay timer starts: kind 0 on-delay, 1 off-delay. -/
def State.delayStart (c kind t0 d : Nat) (s : State) : State :=
  let s := s.delayStop c
  let (w, s) := s.timerStart c t0 d
  s.modCond c fun r => fput Cond.TIMER_ID w.1 (fput Cond.COARSE (b2n w.2) (fput Cond.TKIND kind (fput Cond.RUN 1 r)))

/-! Activation and return. -/

/-- R92, R128: one more activation in the current minute bucket. -/
def Ext.count (x : Rec 16) : Rec 16 :=
  let f : Fld := ⟨8 * fget Ext.BKT_IDX x, 8⟩
  fput f (min 255 (fget f x + 1)) x

/-- R111, R128: a condition of point `i` activates; adaptation counts it, but not in Lightship operation (R686). -/
def State.activate (i c : Nat) (s : State) : State :=
  let s := s.modCs c (CS.activate (s.isJournal c))
  let s := s.onAlm fun a => { a with actTick := tset 0 a.actTick c (ticksBy 1 s.evalNow + 1) }
  if fbit Pt.EXPERT (s.pt i) || s.pwr.keeping then s else (s.modCondX c Ext.count).dirtyMod

/-- R111 to R113: a condition returns. -/
def State.return_ (c : Nat) (s : State) : State :=
  let same := tget 0 s.alm.actTick c == ticksBy 1 s.evalNow + 1
  let (v, f) := (s.cs c).return_ (fbit Cond.LATCH (s.cond c)) (s.isJournal c) same
  let s := s.setCs c v
  if f then s.bump Reg.ALM_FLEETING_CNT.COUNT else s

/-- R105: an on-delay, or activation at once. -/
def State.startOn (i c t0 : Nat) (s : State) : State :=
  let d := fget Cond.ON_DELAY (s.cond c)
  if d == 0 then s.activate i c else s.delayStart c 0 t0 d

/-- R106: an off-delay, or return at once. -/
def State.startOff (c t0 : Nat) (s : State) : State :=
  let d := fget Cond.OFF_DELAY (s.cond c)
  if d == 0 then s.return_ c else s.delayStart c 1 t0 d

/-! Comparison (R96 to R99). -/

/-- R99: where a quantity lies. -/
inductive Side where
  | act
  | norm
  | band
  deriving DecidableEq, Repr

/-- R98: the thresholds are compared exactly. -/
def cmpSide (slot : Nat) (q lim hyst : Int × Nat) : Side :=
  if slot ≤ 1 then (if ratLt q lim then .act else if ratLt (ratAdd lim hyst) q then .norm else .band)
  else if ratLt lim q then .act else if ratLt q (ratSub lim hyst) then .norm else .band

/-- R96: the rate of a point as an exact ratio per second; none where none exists. -/
def PtX.rate (p : Rec 128) (x : PtX) : Option (Int × Nat) :=
  if x.samples < 2 || x.t1 ≤ x.t0 then none
  else
    let d := ratSub (exactOf p x.x1) (exactOf p x.x0)
    some (d.1 * ((2 ^ 32 : Nat) : Int), d.2 * (x.t1 - x.t0))

def ratMaxAbs (a b : Int × Nat) : Int × Nat := if ratLt (ratAbs a) (ratAbs b) then b else a
def ratMax (a b : Int × Nat) : Int × Nat := if ratLt a b then b else a
def ratMin (a b : Int × Nat) : Int × Nat := if ratLt b a then b else a

def State.exact (s : State) (i : Nat) : Int × Nat := exactOf (s.pt i) (quantity (s.pt i))

/-- FORCED or SIMULATED by a command of its own (R55, R56). -/
def PtX.overridden (x : PtX) : Bool := x.own / 4 % 4 != 0

/-- R69, R95, R103: the quantity of a slot; the rate slot has none until a rate exists. While a vote point is FORCED or SIMULATED
its conditions are evaluated on the stored VALUE (R103 before R69: DEDUCED, log entry 73). -/
def State.slotQuantity (s : State) (i slot : Nat) (xref : Int × Nat) : Option (Int × Nat) :=
  match (if (s.px i).overridden then none else (s.px i).pair) with
  | some (a, b) =>
    let xa := s.exact a
    let xb := s.exact b
    match slot with
    | 0 => some (ratMin xa xb)
    | 1 => some (ratMin xa xb)
    | 2 => some (ratMax xa xb)
    | 3 => some (ratMax xa xb)
    | 4 =>
      match (s.px a).rate (s.pt a), (s.px b).rate (s.pt b) with
      | some x, some y => some (ratMaxAbs x y)
      | some x, none => some x
      | none, y => y
    | _ => some (ratMaxAbs (ratSub xa xref) (ratSub xb xref))
  | none => if slot == 4 then (s.px i).rate (s.pt i) else if slot == 5 then some (ratSub (s.exact i) xref) else some (s.exact i)

/-- R98: where the present value of a condition's quantity lies; none where a rate condition has no rate. -/
def State.side (s : State) (i slot c : Nat) : Option Side :=
  let r := s.cond c
  if s.kind i == kDiscrete then some (if fget Pt.VALUE (s.pt i) == slot then .act else .norm)
  else if slot == 4 && tget 0 s.alm.noRate c != 0 then none
  else
    match s.slotQuantity i slot (s.exact (fget Cond.REF_IDX r)) with
    | none => none
    | some q =>
      let q := if slot == 5 || (slot == 4 && fget Cond.ROC_DIR r == 0) then ratAbs q
        else if slot == 4 && fget Cond.ROC_DIR r == 2 then ratNeg q else q
      some (cmpSide slot q (fratio f32 (fget Cond.LIMIT r)) (fratio f32 (fget Cond.HYST r)))

/-! Evaluation of one condition. -/

/-- R105, R106, R111, R112: RAW and the delays follow a side. In the band RAW keeps its value; at the end of a quality
hold (`resumed`) the delay that RAW calls for starts (R102; DEDUCED, log entry 22). -/
def State.drive (i c t0 : Nat) (side : Side) (resumed : Bool) (s : State) : State :=
  let v := s.cs c
  match side with
  | .act =>
    let s := s.setCs c { v with raw := true, latched := false }
    if v.active then s.delayStop c
    else if s.delayRuns c && s.delayKind c == 0 then s else s.startOn i c t0
  | .norm =>
    let s := s.setCs c { v with raw := false }
    if v.active then
      if v.latched || (s.delayRuns c && s.delayKind c == 1) then s else s.startOff c t0
    else if s.delayRuns c && s.delayKind c == 0 then (s.delayStop c).bump Reg.ALM_DELAY_CANCEL_CNT.COUNT
    else s
  | .band =>
    if !resumed || s.delayRuns c then s
    else if v.raw && !v.active then s.startOn i c t0
    else if !v.raw && v.active && !v.latched then s.startOff c t0
    else s

/-- R101, R686: a condition is in quality hold. -/
def State.held (s : State) (i slot c : Nat) : Bool :=
  let ref := fget Cond.REF_IDX (s.cond c)
  badQual (s.quality i) ||
    (slot == 5 && s.kind i != kDiscrete && (badQual (s.quality ref) || (s.pwr.keeping && !localPt (s.pt ref))))

/-- R101, R102, R116, R124, R126: one condition of point `i` is evaluated. `fresh`: a value is being applied that may be
the first. -/
def State.evalCond (i slot c : Nat) (fresh : Bool) (t0 : Nat) (s : State) : State :=
  let v := s.cs c
  let hold := s.held i slot c
  let rated := slot != 4 || s.kind i == kDiscrete || (decide (2 ≤ (s.px i).samples) && tget 0 s.alm.noRate c != 1)
  let noval := v.noval && !(fresh && rated)
  if tget 0 s.alm.dead c != 0 then s
  else if hold then
    let s := s.setCs c { v with qhold := true, noval := noval }
    if v.qhold then s
    else
      ((s.delayStop c).onAlm fun a => { a with noRate := tset 0 a.noRate c 1 }).raise Ev.ALM_QUAL_HOLD (s.tagOf i)
        [slot, s.quality i]
  else if v.oos then s.setCs c { v with qhold := false, noval := noval }
  else
    let resumed := v.qhold
    let v := { v with qhold := false, noval := noval }
    let s := s.setCs c v
    let first := tget 0 s.alm.firstVal c
    if first != 0 && !(fresh || (!noval && resumed)) then s
    else
      let s := if fresh then s.onAlm fun a => { a with noRate := tmod 0 a.noRate c fun n => if n == 1 then 2 else 0 } else s
      let side := s.side i slot c
      let s := s.onAlm fun a => { a with firstVal := tset 0 a.firstVal c 0 }
      if first == 2 || v.unconf then
        match side with
        | some .act => (s.setCs c { v with unconf := false, base := CS.NORM, active := false, latched := false }).drive i c t0 .act false
        | some .norm => (s.setCs c { v with unconf := false, base := CS.NORM, active := false, latched := false }).drive i c t0 .norm false
        | _ => s.setCs c { v with unconf := true }
      else match side with
        | some d => s.drive i c t0 d (resumed && first == 0)
        | none => if resumed && first == 0 then s.drive i c t0 .band true else s

/-! Profile values at each evaluation (R74, R132, R134). -/

/-- R74, R132: the on-delay and its step under a profile's bounds. -/
def Prof.reboundOn (f : Prof) (d k : Nat) : Nat × Nat :=
  let d := if k == 0 then f.onBase else clampN d f.onBase (f.d f.kmax)
  (d, ((List.range 17).find? fun k => decide (d ≤ f.d k)).getD f.kmax)

/-- R74, R132: the hysteresis and its step under a profile's bounds. -/
def Prof.reboundHyst (f : Prof) (p : Rec 128) (h k : Nat) : Nat × Nat :=
  let lo := hystOf p f.hyst
  let hi := hystOf p (f.h f.jmax)
  let h := if k == 0 then lo else if flt f32 h lo then lo else if flt f32 hi h then hi else h
  (h, ((List.range 9).find? fun j => fle f32 h (hystOf p (f.h j))).getD f.jmax)

/-- R134: a condition's priority changes. -/
def State.setPrio (c n : Nat) (s : State) : State :=
  let r := s.cond c
  if fget Cond.PRIO r == n then s
  else
    let s := s.setCond c (Cond.putCtrl (fget Cond.CCTRL (fput Cond.PRIO n r)) r)
    if n == 4 then s.modCs c CS.toJournal else s

/-- R74: a basic-level condition takes its profile's values. -/
def State.syncCond (i slot c : Nat) (s : State) : State :=
  let p := s.pt i
  let f := s.prof (fget Pt.PROFILE p)
  let disc := fget Pt.KIND p == kDiscrete
  let r := s.cond c
  let x := s.condX c
  let (d, k) := f.reboundOn (fget Cond.ON_DELAY r) (fget Ext.K_ON x)
  let (h, j) := if disc then (0, 0) else f.reboundHyst p (fget Cond.HYST r) (fget Ext.K_HYST x)
  let s := s.setCond c (Cond.putOff f.offBase (Cond.putHyst h (Cond.putOn d r)))
  (s.setCondX c (fput Ext.K_HYST j (fput Ext.K_ON k x))).setPrio c (f.prioOf disc slot)

/-- R74: a basic-level point's conditions take the profile's values; an expert point's keep theirs. -/
def State.syncProfile (i : Nat) (s : State) : State :=
  if fbit Pt.EXPERT (s.pt i) then s
  else (s.slotsOf i).foldl (fun s k => if tget 0 s.alm.dead k.2 != 0 then s else s.syncCond i k.1 k.2) s

/-! Changes (R119 to R121). -/

/-- R777: SEQ_MARK as written, shown to the host. -/
def State.setMark (v : Nat) (s : State) : State :=
  ((s.onImg fun m => { m with seqMark := v }).wf Reg.SYS_SEQ_MARK_LO.MARK (v % 2 ^ 32)).wf Reg.SYS_SEQ_MARK_HI.MARK (v / 2 ^ 32)

/-- R17, R119, R682, R777: the next sequence number, in the Keeper's evaluation its own; SEQ_MARK stays ahead of it. -/
def State.takeSeq (s : State) : Nat × State :=
  let n := if s.pwr.keeping then s.pwr.seq else s.alm.seq
  let s := if s.pwr.keeping then s.onPwr fun p => { p with seq := n + 1, changes := p.changes + 1 }
    else (s.onAlm fun a => { a with seq := n + 1 }).wf Reg.ALM_SEQ_LO.SEQ_LO ((n + 1) % 2 ^ 32)
  (n, if n + 2 ^ 31 < s.img.seqMark then s else s.setMark (s.img.seqMark + 2 ^ 32))

/-- R176: the sector stage's input queue is full: tiles hold their commits. -/
def State.stageFull (s : State) : Bool := decide (262144 ≤ s.sec.queue.length)

/-- R176: a change joins the sector stage's input queue; in Lightship operation the Keeper's changes stay with it. -/
def State.toSectors (c : Chg) (s : State) : State :=
  if s.pwr.keeping then s.onPwr fun p => { p with out := p.out ++ [c] }
  else
  let s := s.onSec fun x => { x with queue := x.queue ++ [c] }
  if s.stageFull && s.sec.fullAt == 0 then s.onSec fun x => { x with fullAt := s.tim.now + 1 } else s

/-- R119, R121: a change of a condition from `old` to `v` is numbered and passed on. -/
def State.emit (i slot c : Nat) (old v : CS) (t : Nat) (s : State) : State :=
  let (n, s) := s.takeSeq
  let s := if v.key == old.key then s else s.modCond c (fput Cond.T_CHANGE t)
  let s := s.modPt i (fput Pt.LAST_SEQ n)
  let s := s.onAlm fun a =>
    { a with changed := tset 0 a.changed c 1, actSeq := if v.active && !old.active then tset 0 a.actSeq c (n + 1) else a.actSeq }
  s.toSectors
    { mirror := false, idx := i, tag := s.tagOf i, slot := slot, cond := c, old := old.shown, new := v.shown, base := v.base
      active := v.active, prio := s.prio c, qual := s.quality i, fleet := v.fleet && old.active && !v.active, seq := n, t := t }

/-! Checks of condition records (R89, R93, R94). -/

/-- The first of the five configuration pairs of a record that fails its check. -/
def Cond.badPair (r : Rec 64) : Option Nat :=
  (List.range 5).find? fun w => !twinOk (fget ⟨64 * w, 32⟩ r) (fget ⟨64 * w + 32, 32⟩ r)

/-- R94: the pair of CSTATE passes its check. -/
def Cond.stateOk (r : Rec 64) : Bool := twinOk (fget Cond.CSTATE r) (fget Cond.CSTATE_N r)

/-- All six pairs pass. -/
def Cond.intact (r : Rec 64) : Bool := (Cond.badPair r).isNone && Cond.stateOk r

/-- R93: pair `w` of the configuration of a condition record fails its check; `img`: the retained copy can be read. -/
def State.condReload (i c : Nat) (img : Bool) (w : Nat) (s : State) : State :=
  let s := (s.bump Reg.ALM_TWIN_CNT.COUNT).twinEvent (s.tagOf i) 10 (fget ⟨64 * w + 32, 32⟩ (s.cond c)) (fget ⟨64 * w, 32⟩ (s.cond c))
  let kept := tget 0 s.inUse.cond c
  if img && (Cond.badPair kept).isNone then
    s.modCond c fun r => fput Cond.REF_IDX (fget Cond.REF_IDX kept) (fput Cond.CFG (fget Cond.CFG kept) r)
  else
    let s := (s.delayStop c).modCs c fun v => { v with unconf := true }
    s.onAlm fun a => { a with dead := tmod 0 a.dead c fun n => n ||| 1 }

/-- R94: the state of a condition record fails its check; `r`: the record as read. Its next update is its first: it yields no
rate (R96). -/
def State.condLost (i c : Nat) (r : Rec 64) (s : State) : State :=
  let s := (s.bump Reg.ALM_TWIN_CNT.COUNT).twinEvent (s.tagOf i) 10 (fget Cond.CSTATE_N r) (fget Cond.CSTATE r)
  let s := (s.delayStop c).setCs c { CS.of 0 with unconf := true, noval := true }
  s.onAlm fun a => { a with firstVal := tset 0 a.firstVal c 2, noRate := tset 0 a.noRate c 1 }

/-- R89: condition `c` of point `i`, read as `r`, is checked. A configuration that is known to be lost is not read again. -/
def State.condCheck (i : Nat) (img : Bool) (c : Nat) (r : Rec 64) (s : State) : State :=
  let s := match Cond.badPair r with
    | some w => if tget 0 s.alm.dead c % 2 == 1 then s
      else (s.modCond c fun o => fput Cond.CFG (fget Cond.CFG r) o).condReload i c img w
    | none => s
  if Cond.stateOk r then s else s.condLost i c r

/-- R89: the condition records of a point are read. -/
def State.condsCheck (i : Nat) (s : State) : State := (s.slotsOf i).foldl (fun s k => s.condCheck i true k.2 (s.cond k.2)) s

/-- A change of a condition's priority is passed on with unchanged states (R134), then a change of its state. -/
def State.pass (i slot c : Nat) (old : CS) (prio t : Nat) (s : State) : State :=
  let v := s.cs c
  let s := if s.prio c == prio then s else s.emit i slot c old old t
  if v.key == old.key then s else s.emit i slot c old v t

/-- An input to a point: its condition records are read, `body` changes its conditions; the point's bits and quality follow, and
each change of a condition's priority and of a condition is numbered, in ascending slot order (R89, R119, R134). -/
def State.input (i t : Nat) (body : State → State) (s : State) : State :=
  let snap := (s.slotsOf i).map fun k => (k.1, k.2, s.cs k.2, s.prio k.2)
  let s := ((body (s.condsCheck i)).mirrorBits i).requal i
  snap.foldl (fun s k => s.pass i k.1 k.2.1 k.2.2.1 k.2.2.2 t) s

/-- R89: the condition records of a point are read by something that is no input of its own. -/
def State.condGuard (i t : Nat) (s : State) : State :=
  if (s.slotsOf i).all fun k => Cond.intact (s.cond k.2) || tget 0 s.alm.dead k.2 % 2 == 1 then s else s.input i t id

/-- R105, R106, R110: the delay of a condition of point `i` ends. -/
def State.delayFire (i c : Nat) (s : State) : State :=
  let due := (tget (0, 0) s.alm.due c).1 - 1
  let kind := s.delayKind c
  s.input i due fun s =>
    let s := s.delayStop c
    if kind == 0 then (if (s.cs c).raw then s.activate i c else s) else if (s.cs c).raw then s else s.return_ c

/-- All conditions of a point are evaluated, in ascending slot order, with a change time and a delay start (R105, R120). -/
def State.evalPoint (i : Nat) (fresh : Bool) (t t0 : Nat) (s : State) : State :=
  s.input i t fun s => (s.slotsOf i).foldl (fun s k => s.evalCond i k.1 k.2 fresh t0) (s.syncProfile i)

/-! Replication (R462, R463). -/

/-- R462, R463, R466: the node to which a point's changes are sent: from its home to the standby, from an owning standby to
the home. -/
def State.replTo (s : State) (i : Nat) : Option Nat :=
  let p := s.pt i
  let h := (s.px i).home
  if !fbit Pt.PEER_EN p || fbit Pt.SHADOW p then none
  else if h != 0 then some h
  else if s.rf Reg.FAB_OWN_STAT.HOME_STATE == 0 && s.rf Reg.FAB_OWN_CTRL.STANDBY != 0 then some (s.rf Reg.FAB_OWN_CTRL.STANDBY)
  else none

/-- R463, R473: a REPL_STATE entry for a node, with the conditions that `pick` names. -/
def State.replEntry (i dst : Nat) (pick : Nat → Bool) (s : State) : State :=
  let p := s.pt i
  let l := (s.slotsOf i).filter fun k => pick k.2
  let head := s.tagOf i + fget Pt.VALUE p * 2 ^ 64 + fget Pt.VALUE_N p * 2 ^ 96 +
    (fget Pt.QUALITY p + l.length * 2 ^ 8 + fget Pt.COND_MASK p * 2 ^ 16) * 2 ^ 128 + fget Pt.T_SRC p * 2 ^ 192 +
    fget Pt.LAST_SEQ p * 2 ^ 256
  let item (k : Nat × Nat) : Nat :=
    let w := fget Cond.CSTATE (s.cond k.2)
    w + twinOf w * 2 ^ 32 + k.1 * 2 ^ 64 + fget Ext.SHELVE_S (s.condX k.2) * 2 ^ 96
  let e := head + (l.foldr (fun k n => item k + n * 2 ^ 128) 0) * 2 ^ 320
  let s := s.onAlm fun a => { a with changed := l.foldl (fun t k => tset 0 t k.2 0) a.changed }
  s.onFab fun f => { f with replAt := if f.repl.isEmpty then s.tim.now else f.replAt, repl := f.repl ++ [(dst, e, 40 + 16 * l.length)] }

/-- R463: a point's change is sent on, with the conditions that changed since the last. -/
def State.replState (i : Nat) (s : State) : State :=
  match s.replTo i with
  | some d => s.replEntry i d (fun c => tget 0 s.alm.changed c != 0)
  | none => s

end Sys2Proof.Machine
end

