-- ==== Sys2Proof/Machine/LioOps.lean ====
section
/-! DEFINITION. The output stages of local field I/O: current outputs (R613), digital outputs and shared-feed groups
(R623, R624, R632, R633), pulse pairs (R629, R630). -/

namespace Sys2Proof.Machine

/-- An exact ratio rounded to the nearest integer, ties to even. -/
def roundRat (num : Int) (den : Nat) : Int :=
  let q := num / (den : Int)
  let r := num % (den : Int)
  if 2 * r > (den : Int) || (2 * r == (den : Int) && q % 2 == 1) then q + 1 else q

/-- R634: an event of the section, at most once per second per channel. -/
def State.lioEvent (code ch : Nat) (args : List Nat) (s : State) : State :=
  let k := code * 256 + ch
  let last := tget 0 s.lio.evAt k
  if last != 0 && decide (s.tim.now < last - 1 + ofS 1) then s
  else (s.onLio fun l => { l with evAt := tset 0 l.evAt k (s.tim.now + 1) }).raise code ch args

/-- R613: the DAC code of a current in µA given as a ratio. -/
def dacCode (ua : Int × Nat) : Nat := (clampI (roundRat (ua.1 * 65536) (ua.2 * 24000)) 0 65535).toNat

/-- R613: the fraction (v − EU_LO) / (EU_HI − EU_LO) as an exact ratio. -/
def rangeFrac (p : Rec 128) (v : Nat) : Int × Nat :=
  let lo := fratio f32 (fget Pt.EU_LO p)
  let n := ratSub (fratio f32 v) lo
  let d := ratSub (fratio f32 (fget Pt.EU_HI p)) lo
  if d.1 ≤ 0 then (0, 1) else (n.1 * (d.2 : Int), n.2 * d.1.toNat)

/-- R613: the limited current in µA of a commanded value. -/
def State.aoCurrent (s : State) (n : Nat) (f : Int × Nat) : Int × Nat :=
  let i : Int × Nat := (4000 * (f.2 : Int) + 16000 * f.1, f.2)
  let lo : Int × Nat := ((s.rf (Reg.LIO_AO.LIM_LO_UA n) : Nat), 1)
  let hi : Int × Nat := ((s.rf (Reg.LIO_AO.LIM_HI_UA n) : Nat), 1)
  if ratLt i lo then lo else if ratLt hi i then hi else i

def State.setDac (n code : Nat) (s : State) : State := s.onLio fun l => { l with aoCode := tset 0 l.aoCode n code }

/-- R613, R627: a current output applies a commanded value. -/
def State.aoApply (n : Nat) (f : Int × Nat) (s : State) : State :=
  (s.setDac n (dacCode (s.aoCurrent n f))).wf (Reg.LIO_AO.SAFE n) 0

/-- R676: a timestamp of the local I/O, kept to 1 µs while the Lightship reference is lost. -/
def State.ioStamp (s : State) (w : Nat) : Nat := if s.rb Reg.PWR_CLK_STAT.LREF_FALLBACK then ofUs (usOf w) else w

/-! Sensor inputs: derivation at basic level (R603 to R605). -/

def State.aix (s : State) (n : Nat) : AiX := tget AiX.none_ s.lio.ai n
def State.modAix (n : Nat) (f : AiX → AiX) (s : State) : State := s.onLio fun l => { l with ai := tmod AiX.none_ l.ai n f }

/-- R603: conversions per second of an ODR code. -/
def odrRate (k : Nat) : Nat := [4000, 2000, 1000, 400, 200, 100, 50, 10].getD k 10

/-- The ANALOG point bound to a sensor input (R598). -/
def State.aiPoint (s : State) (n : Nat) : Option Nat :=
  (s.pts.rec_.find? fun e => fget Pt.KIND e.2 == kAnalog && fbit Pt.AI_LOCAL e.2 && fget Pt.AI_CH e.2 == n).map Prod.fst

/-- The waveform channel that takes a sensor input (R194). -/
def State.aiChan (s : State) (n : Nat) : Option Nat :=
  (s.cmw.chan.find? fun e => fbit Chan.EN e.2 && fbit Chan.SRC_LOCAL e.2 && fget Chan.AI_CH e.2 == n).map Prod.fst

/-- R604: the slowest code with at least two conversions per period of `ms`. -/
def odrFor (ms : Nat) : Nat := (([7, 6, 5, 4, 3, 2, 1, 0] : List Nat).find? fun k => decide (2000 ≤ odrRate k * ms)).getD 0

/-- R604: the code whose rate a waveform channel has. -/
def odrExact (rate : Nat) : Option Nat := (List.range 8).find? fun k => odrRate k * 100 == rate

/-- R604: the ODR of a channel at basic level. -/
def State.odrOf (s : State) (n : Nat) : Nat :=
  match s.aiPoint n, s.aiChan n with
  | some i, _ => odrFor (scanMs (s.scanOf (s.pt i)))
  | none, some c => (odrExact (fget Chan.RATE_CHZ (tget Chan.factory s.cmw.chan c))).getD (odrFor 1000)
  | none, none => odrFor 1000

/-- R603: the fields whose change makes the filter settle anew. -/
def State.aiRange (s : State) (n : Nat) : List Nat :=
  [s.rf (Reg.LIO_AI.TYPE n), s.rf (Reg.LIO_AI.EXC n), s.rf (Reg.LIO_AI.GAIN n), s.rf (Reg.LIO_AI.RREF n), s.rf (Reg.LIO_AI.RF n),
    s.rf (Reg.LIO_AI.VDIV n)]

/-- R604: what the module derives of a channel at basic level. -/
def State.aiDerive (n : Nat) (s : State) : State :=
  if s.rb (Reg.LIO_AI.EXPERT n) then s
  else
    let typ := s.rf (Reg.LIO_AI.TYPE n)
    let set5 (exc gain burn lead : Nat) (s : State) : State :=
      (((s.wf (Reg.LIO_AI.EXC n) exc).wf (Reg.LIO_AI.GAIN n) gain).wf (Reg.LIO_AI.BURN n) burn).wf (Reg.LIO_AI.LEAD_S n) lead
    let s := match typ with
      | 1 => (set5 0 0 0 (if s.rf (Reg.LIO_AI.WIRES n) == 1 then 10 else 0) s).wf (Reg.LIO_AI.RREF n)
          (b2n (flt f32 0x43480000 (s.rf (Reg.LIO_AI.R0 n))))
      | 2 => set5 1 1 2 0 s
      | 3 => set5 0 2 0 0 s
      | 4 => (set5 0 0 0 0 s).wf (Reg.LIO_AI.RF n) 0
      | 5 => (set5 0 0 0 0 s).wf (Reg.LIO_AI.VDIV n) 1
      | _ => s
    if typ == 0 then s else s.wf (Reg.LIO_AI.ODR n) (s.odrOf n)

/-- A configuration of a channel changed by `f`: derivation, and settling where the range or the excitation changed. -/
def State.aiConfig (n : Nat) (f : State → State) (s : State) : State :=
  let was := s.aiRange n
  let s := (f s).aiDerive n
  if s.aiRange n == was then s else s.modAix n fun x => { x with settle := 3 }

/-- R604: the ODR of every channel at basic level follows what is bound to it. -/
def State.aiFollow (s : State) : State :=
  (List.range 32).foldl (fun s n =>
    if s.rb (Reg.LIO_AI.EXPERT n) || s.rf (Reg.LIO_AI.TYPE n) == 0 then s else s.wf (Reg.LIO_AI.ODR n) (s.odrOf n)) s

/-! Digital outputs. -/

def State.swOn (s : State) (ch : Nat) : Bool := tget 0 s.lio.sw ch == 1

/-- R632: the enabled group that a channel belongs to. -/
def State.groupOf (s : State) (ch : Nat) : Option Nat :=
  if 24 ≤ ch && ch < 32 && s.rb (Reg.LIO_GROUP.EN ((ch - 24) / 2)) then some ((ch - 24) / 2) else none

/-- The other channel of a pair. -/
def mate (ch : Nat) : Nat := if ch % 2 == 0 then ch + 1 else ch - 1

/-- R623: an output whose read level agrees with its commanded level has no mismatch; where they differ, since when. -/
def State.rbCheck (ch : Nat) (s : State) : State :=
  if s.rf (Reg.LIO_DIO.LEVEL ch) == s.rf (Reg.LIO_DIO.CMD ch) then
    (s.onLio fun l => { l with diffAt := tset 0 l.diffAt ch 0 }).wf (Reg.LIO_DIO.RB_MISMATCH ch) 0
  else if tget 0 s.lio.diffAt ch != 0 then s
  else s.onLio fun l => { l with diffAt := tset 0 l.diffAt ch (s.tim.now + 1) }

/-- The commanded level of a digital output. -/
def State.setCmd (ch : Nat) (on : Bool) (s : State) : State := (s.wf (Reg.LIO_DIO.CMD ch) (b2n on)).rbCheck ch

/-- R632: a channel's switch closes or opens; in a group the feed follows, and an opening starts a demagnetisation. -/
def State.doSwitch (ch : Nat) (on : Bool) (s : State) : State :=
  let was := s.swOn ch
  let s := s.onLio fun l => { l with sw := tset 0 l.sw ch (b2n on) }
  match s.groupOf ch with
  | none => s
  | some g =>
    let s := s.wf (Reg.LIO_GROUP.FEED g) (b2n (s.swOn ch || s.swOn (mate ch)))
    if was && !on then (s.onLio fun l => { l with demagAt := tset 0 l.demagAt ch s.tim.now }).wf (Reg.LIO_DIO.DEMAG ch) 1 else s

/-- R633: a channel's turn-on waits, behind those that wait already; it waits no more. -/
def State.grpJoin (ch : Nat) (s : State) : State :=
  (s.onLio fun l => if l.grpWait.contains ch then l else { l with grpWait := l.grpWait ++ [ch] }).wf (Reg.LIO_DIO.WAITING ch) 1
def State.grpLeave (ch : Nat) (s : State) : State :=
  (s.onLio fun l => { l with grpWait := l.grpWait.filter (· != ch) }).wf (Reg.LIO_DIO.WAITING ch) 0

/-- R633: a turn-on request of a channel; one that is switched off for overload waits for its retry (R623). -/
def State.turnOn (ch : Nat) (s : State) : State :=
  if s.swOn ch || s.rb (Reg.LIO_DIO.OVL ch) then s
  else match s.groupOf ch with
    | none => (s.grpLeave ch).doSwitch ch true
    | some g =>
      let m := mate ch
      if s.rb (Reg.LIO_DIO.DEMAG ch) || s.rb (Reg.LIO_DIO.DEMAG m) then s.grpJoin ch
      else if s.swOn m && decide (s.rf (Reg.LIO_GROUP.LIMIT_MA g) < s.rf (Reg.LIO_DIO.COIL_MA ch) + s.rf (Reg.LIO_DIO.COIL_MA m)) then
        if s.rb (Reg.LIO_GROUP.POLICY g) then ((s.grpLeave ch).bump Reg.LIO_GRP_REFUSE_CNT.COUNT).lioEvent Ev.LIO_GRP_REFUSE g [ch]
        else if s.rb (Reg.LIO_DIO.WAITING ch) then s
        else (s.grpJoin ch).bump Reg.LIO_GRP_WAIT_CNT.COUNT
      else (s.grpLeave ch).doSwitch ch true

/-- R633: a turn-off command of a channel. -/
def State.turnOff (ch : Nat) (s : State) : State :=
  if s.rb (Reg.LIO_DIO.WAITING ch) then s.grpLeave ch
  else if s.swOn ch then s.doSwitch ch false else s

/-- A commanded level of a digital output (R262, R627). -/
def State.doCommand (ch : Nat) (on : Bool) (s : State) : State :=
  let s := (s.wf (Reg.LIO_DIO.SAFE ch) 0).setCmd ch on
  if on then s.turnOn ch else s.turnOff ch

/-! Pulse pairs (R629, R630). Spans in units of 10 µs. -/

def State.pulse (s : State) (k : Nat) : Pulse := tget Pulse.none_ s.lio.pulses k

/-- A pair's pulse and carries written; PSTAT follows. -/
def State.setPulse (k : Nat) (p : Pulse) (s : State) : State :=
  ((s.onLio fun l => { l with pulses := tset Pulse.none_ l.pulses k p }).wf (Reg.LIO_PULSE.CARRY_R k) (min (p.carR / 10) 65535)).wf
    (Reg.LIO_PULSE.CARRY_L k) (min (p.carL / 10) 65535)

/-- The channel of a pair's direction. -/
def pulseCh (k dir : Nat) : Nat := 2 * k + (dir - 1)

/-- A running pulse stops at once, or a waiting one is cancelled. -/
def State.pulseCut (k : Nat) (s : State) : State :=
  let p := s.pulse k
  if p.dir == 0 then s
  else
    let s := if p.on then (s.setCmd (pulseCh k p.dir) false).turnOff (pulseCh k p.dir) else s
    let n := min s.tim.now p.stop + 1
    s.setPulse k { p with
      dir := 0, on := false, endR := if p.on && p.dir == 1 then n else p.endR, endL := if p.on && p.dir == 2 then n else p.endL }

/-- A pulse starts now if its instant has come. -/
def State.pulseBegin (k : Nat) (s : State) : State :=
  let p := s.pulse k
  if p.dir == 0 || p.on || s.tim.now < p.start then s
  else ((s.setPulse k { p with on := true }).setCmd (pulseCh k p.dir) true).turnOn (pulseCh k p.dir)

/-- A pair's pulse has ended or started where its instant has come. -/
def State.pulseSettle (k : Nat) (s : State) : State :=
  let s := s.pulseBegin k
  if (s.pulse k).on && decide ((s.pulse k).stop ≤ s.tim.now) then s.pulseCut k else s

/-- R630: a request of `r` units in direction `d` (1 raise, 2 lower). -/
def State.pulseRequest (k d r : Nat) (s : State) : State :=
  let s := s.pulseSettle k
  let stroke := s.rf (Reg.LIO_PULSE.STROKE_MS k) * 100
  let p := s.pulse k
  if p.dir == d then
    let len := min (p.len + r) stroke
    let s := if stroke < p.len + r then s.bump Reg.LIO_PULSE_TRUNC_CNT.COUNT else s
    s.setPulse k { p with len := len, stop := p.start + ofUs (10 * len) }
  else
    let s := if p.dir == 0 then s else (s.pulseCut k).bump Reg.LIO_PULSE_TRUNC_CNT.COUNT
    let p := s.pulse k
    let p := if d == 1 then { p with carL := 0 } else { p with carR := 0 }
    let have_ := if d == 1 then p.carR else p.carL
    let sum := have_ + r
    if sum < s.rf (Reg.LIO_PULSE.MIN_MS k) * 100 then
      let p := { p with carryAt := if have_ == 0 then s.tim.now else p.carryAt }
      s.setPulse k (if d == 1 then { p with carR := sum } else { p with carL := sum })
    else
      let s := if stroke < sum then s.bump Reg.LIO_PULSE_TRUNC_CNT.COUNT else s
      let len := min sum stroke
      let last := if d == 1 then p.endL else p.endR
      let start := if last == 0 then s.tim.now else max s.tim.now (last - 1 + ofMs (s.rf (Reg.LIO_PULSE.DEAD_MS k)))
      let p := { p with dir := d, on := false, start := start, len := len, stop := start + ofUs (10 * len) }
      (s.setPulse k (if d == 1 then { p with carR := 0 } else { p with carL := 0 })).pulseBegin k

/-- R629: an update of the OUTPUT point of pair `k`, its value `v` and its fraction `f`. -/
def State.pulseValue (k v : Nat) (f : Int × Nat) (s : State) : State :=
  let s := ((s.wf (Reg.LIO_DIO.SAFE (2 * k)) 0).wf (Reg.LIO_DIO.SAFE (2 * k + 1)) 0)
  let p := s.pulse k
  let ask (x : Int × Nat) (s : State) : State :=
    let r := roundRat (x.1 * 100) x.2
    if r == 0 then s else s.pulseRequest k (if r < 0 then 2 else 1) r.natAbs
  if !s.rb (Reg.LIO_PULSE.PMODE k) then ask (fratio f32 v) s
  else
    let s := s.setPulse k { p with fPrev := some f }
    match p.fPrev with
    | none => s
    | some g =>
      let d := ratSub f g
      ask (d.1 * ((s.rf (Reg.LIO_PULSE.STROKE_MS k) : Nat) : Int), d.2) s

/-- R624: the stage of output `o` (AO n: n, DIO n: 16 + n) checks the twin word of a commanded value and applies it only
where it is intact. -/
def State.stageTakes (o v : Nat) (f : State → State) (s : State) : State :=
  let x := tget 0 s.lio.cmdUpset o
  if x == 0 then f s
  else ((s.onLio fun l => { l with cmdUpset := tset 0 l.cmdUpset o 0 }).bump Reg.LIO_TWIN_CNT.COUNT).twinEvent
    (if o < 16 then o else o - 16) (if o < 16 then 36 else 37) (twinOf v ^^^ x) v

/-- R262, R598, R625: a value committed by a logic side (0 main domain, 1 Keeper) reaches the local stage of an OUTPUT
point. The other side's values, and values while the logic is silent, do not. -/
def State.outStage (side : Nat) (p : Rec 128) (v : Nat) (s : State) : State :=
  if fget Pt.KIND p != kOutput || s.rf Reg.LIO_STAT.LOGIC_SRC != side || s.rb Reg.LIO_STAT.SAFE_ACTIVE then s
  else
    let ch := fget Pt.LOCAL_CH p
    match fget Pt.DEST_TYPE p with
    | 2 => s.stageTakes ch v fun s => s.aoApply ch (rangeFrac p v)
    | 3 =>
      s.stageTakes ch v fun s =>
        if s.rf (Reg.LIO_DIO.MODE (ch - 16)) == 2 then s.pulseValue ((ch - 16) / 2) v (rangeFrac p v)
        else s.doCommand (ch - 16) (fabs f32 v != 0)
    | _ => s

/-! Lightship rules (R687, R695, R696). -/

/-- The VALID rules in number order. -/
def State.rulesValid (s : State) : List Nat := (List.range 32).filter fun r => s.rb (Reg.PWR_LRULE.VALID r)

/-- A rule's condition is ACTIVE; one whose point or slot is gone is not. -/
def State.ruleActive (s : State) (r : Nat) : Bool :=
  let i := s.rf (Reg.PWR_LRULE.IDX r)
  localPt (s.pt i) && match s.condOf i (s.rf (Reg.PWR_LRULE.SLOT r)) with
    | some c => (s.cs c).active
    | none => false

/-- A channel by kind and number takes a rule's value; only a channel whose LSHIP_ACT is KEEPER follows rules. -/
def State.ruleDrive (k ch v : Nat) (s : State) : State :=
  if k == 0 then
    if s.rf (Reg.LIO_AO.LSHIP_ACT ch) != 2 || 15 < ch || s.rb (Reg.LIO_AO.MULTIDROP ch) then s
    else s.stageTakes ch v fun s => (s.setDac ch (dacCode (((v : Nat) : Int), 1))).wf (Reg.LIO_AO.SAFE ch) 0
  else if s.rf (Reg.LIO_DIO.LSHIP_ACT ch) != 2 || s.rf (Reg.LIO_DIO.MODE ch) != 1 || 31 < ch then s
  else s.stageTakes (16 + ch) v fun s => s.doCommand ch (v != 0)

/-- The rules are applied, channel by channel. -/
def State.lrules (s : State) : State :=
  let rs := s.rulesValid
  let key (r : Nat) : Nat × Nat := (s.rf (Reg.PWR_LRULE.KIND r), s.rf (Reg.PWR_LRULE.CH r))
  (rs.map key).eraseDups.foldl (fun s k =>
    let mine := rs.filter fun r => key r == k
    match mine.find? s.ruleActive with
    | some r => s.ruleDrive k.1 k.2 (s.rf (Reg.PWR_LRULE.VAL_ACTIVE r))
    | none => match mine with
      | r :: _ => s.ruleDrive k.1 k.2 (s.rf (Reg.PWR_LRULE.VAL_IDLE r))
      | [] => s) s

/-- PWR_LSHIP_STAT.LRULES follows the rules. -/
def State.ruleGauge (s : State) : State := s.wf Reg.PWR_LSHIP_STAT.LRULES s.rulesValid.length

end Sys2Proof.Machine
end

