-- ==== Sys2Proof/Machine/PntOps.lean ====
section
/-! DEFINITION. What a tile does with a value: updates (R35 to R43, R54 to R65), results of forms (R46 to R48, R838, R839),
vote sets (R66 to R72), scan ticks (R51, R59, R60, R97). -/

namespace Sys2Proof.Machine

/-- R38: a value stored with its complement. -/
def Pt.store (v : Nat) (p : Rec 128) : Rec 128 := fput Pt.VALUE_N (twinOf v) (fput Pt.VALUE v p)

/-- R38: what every update writes, whatever becomes of its value. -/
def Pt.stamp (tRx tSrc src : Nat) (p : Rec 128) : Rec 128 :=
  fput Pt.PREV_VALUE (fget Pt.VALUE p) (fput Pt.T_RX tRx (fput Pt.T_SRC tSrc (fput Pt.STALE_AGE 0 (fput Pt.SRC_NODE src
    (fput Pt.UPD_COUNT (fget Pt.UPD_COUNT p + 1) p)))))

/-- R96: one more applied value. -/
def PtX.sample (v t : Nat) (x : PtX) : PtX :=
  { x with x0 := x.x1, t0 := x.t1, x1 := v, t1 := t, samples := min 2 (x.samples + 1) }

def PtX.fault (bit : Nat) (on : Bool) (x : PtX) : PtX :=
  { x with faults := if on then x.faults ||| bit else x.faults - (x.faults &&& bit) }

def PtX.setOwn (bit : Nat) (on : Bool) (x : PtX) : PtX :=
  { x with own := if on then x.own ||| bit else x.own - (x.own &&& bit) }

/-- R41: a computed or received binary32 is stored, or not when it is not finite. -/
def State.storeFloat (i v : Nat) (s : State) : State :=
  if ffinite f32 v then (s.modPt i (Pt.store (fflush32 v))).modPx i (PtX.fault 1 false)
  else (s.modPx i (PtX.fault 1 true)).bump Reg.PNT_NONFINITE_CNT.COUNT

/-- R43: the rate d × RATE_SCALE / dt, computed exactly and rounded once (DEDUCED, log entry 23); not finite where RATE_SCALE
is not. -/
def counterRate (d scale dt : Nat) : Nat :=
  let r := fratio f32 scale
  if ffinite f32 scale then fofRat f32 (r.1 * ((d * 2 ^ 32 : Nat) : Int)) (r.2 * dt) else 0x7FC00000

/-- R43: a count received by a COUNTER point; answers the increment. `first`: no update has been applied since start. -/
def State.countTake (i c tOld tNew : Nat) (first : Bool) (s : State) : Nat × State :=
  let p := s.pt i
  let m1 := fget Pt.MODULUS_M1 p
  if m1 < c then (0, s.modPx i (PtX.fault 1 true))
  else if first then (0, (s.modPt i (Pt.store c)).modPx i (PtX.fault 1 false))
  else
    let d := (c + (m1 + 1) - fget Pt.VALUE p) % (m1 + 1)
    let reset := decide (fget Pt.MAX_STEP p < d)
    let d := if reset then c else d
    let s := if reset then s.bump Reg.PNT_CNT_RESET_CNT.COUNT else s
    let s := s.modPx i (PtX.fault 1 false)
    let s :=
      if tNew ≤ tOld then s
      else
        let r := counterRate d (fget Pt.RATE_SCALE p) (tNew - tOld)
        if ffinite f32 r then s.modPt i (fput Pt.AUX (fflush32 r))
        else (s.modPx i (PtX.fault 1 true)).bump Reg.PNT_NONFINITE_CNT.COUNT
    (d, s.modPt i (Pt.store c))

/-- R40 to R43: a received value is stored by the point's kind; answers a counter's increment. -/
def State.receive (i v tOld tNew : Nat) (first : Bool) (s : State) : Nat × State :=
  let p := s.pt i
  let k := fget Pt.KIND p
  if k == kDiscrete then
    let m := 2 ^ (fget Pt.DISC_BITS p + 1)
    let s := if v < m then s else s.bump Reg.PNT_DISC_MASK_CNT.COUNT
    (0, s.modPt i (Pt.store (v % m)))
  else if k == kCounter then s.countTake i v tOld tNew first
  else if k == kAnalog then
    (0, s.storeFloat i (if ffinite f32 v then ffma f32 v (fget Pt.GAIN p) (fget Pt.OFFSET p) else v))
  else (0, s.storeFloat i v)

/-- R12, R65, R467, R680: this node's tiles evaluate the point now. Before the choice at start a point with a standby
waits; in Lightship operation a local point is the Keeper's. -/
def State.evaluates (s : State) (i : Nat) : Bool :=
  let p := s.pt i
  fget Pt.KIND p != kNone && !fbit Pt.SHADOW p && !s.keeperHas i &&
    !(fbit Pt.PEER_EN p && (s.px i).home == 0 && (s.rf Reg.FAB_OWN_STAT.HOME_STATE == 1 || !s.fab.homeSet))

/-! Vote sets (R66 to R72). -/

def State.voteMembers (s : State) (vi : Nat) : List Nat :=
  let p := s.pt vi
  if fget Pt.FORM p == 15 then [fget Pt.OPA p, fget Pt.OPB p, fget Pt.OPC p] else [fget Pt.OPA p, fget Pt.OPB p]

/-- R67, R72: a member is usable. -/
def State.usable (s : State) (m : Nat) : Bool :=
  s.kind m != kNone && (!badQual (s.quality m) || (s.px m).own / 4 % 2 == 1)

/-- The middle one of three values. -/
def median3 (a b c : Nat) : Nat := fmax f32 (fmin f32 a b) (fmin f32 (fmax f32 a b) c)

/-- Two values differ by more than `num / den` of a band, exactly. -/
def apart (a b band num den : Nat) : Bool :=
  let d := ratAbs (ratSub (fratio f32 a) (fratio f32 b))
  let k := fratio f32 band
  ratLt (k.1 * (num : Int), k.2 * den) d

/-- What an evaluation of a vote point finds: value, inherited quality, DISPUTED, outlier plus one, the pair, the one
remaining member. -/
structure Vote where
  value : Option Nat
  inh : Nat
  disputed : Bool
  outlier : Nat
  pair : Option (Nat × Nat)
  single : Option Nat
  deriving DecidableEq, Repr

/-- R68 to R72: the vote of the members as they stand. `was`: DISPUTED before. The members' own DISPUTED bits (of dual-ring
pairs) pass to the vote point with their quality (R48), those of a one remaining member too (R70; DESIGN CHOICE, log entry 74). -/
def State.vote (s : State) (vi : Nat) (was : Bool) : Vote :=
  let ms := s.voteMembers vi
  let use := ms.filter s.usable
  let val (m : Nat) : Nat := fget Pt.VALUE (s.pt m)
  let inh := use.foldl (fun q m => q ||| s.quality m / 2 * 2) 0
  let band := fget Pt.K (s.pt vi)
  match use with
  | [a, b, c] =>
    let med := median3 (val a) (val b) (val c)
    let far := use.filter fun m => apart (val m) med band 1 1
    let near := use.filter fun m => apart (val m) med band 4 5
    { value := some med, inh := inh, disputed := if 2 ≤ far.length then true else if near.length ≤ 1 then false else was
      outlier := match far with | [m] => m + 1 | _ => 0
      pair := none, single := none }
  | [a, b] =>
    { value := some (fdiv f32 (fadd f32 (val a) (val b)) 0x40000000), inh := inh
      disputed := if apart (val a) (val b) band 1 1 then true else if !apart (val a) (val b) band 4 5 then false else was
      outlier := 0, pair := some (a, b), single := none }
  | [a] => { value := some (val a), inh := inh, disputed := false, outlier := 0, pair := none, single := some a }
  | _ =>
    { value := none, disputed := false, outlier := 0, pair := none, single := none
      inh := ms.foldl (fun q m => q ||| (if s.kind m == kNone then 128 else s.quality m &&& 0x82)) 0 }

/-- R38, R63: one more update of a point is applied. -/
def State.stampPt (i tRx tSrc src : Nat) (s : State) : State :=
  let s := if tSrc < fget Pt.T_SRC (s.pt i) then s.bump Reg.PNT_SRC_ORDER_CNT.COUNT else s
  s.modPt i (Pt.stamp tRx tSrc src)

/-- R839: a result is applied to its DERIVED point as one update. `v`: the result, none where it is held; `fault`: the
form sets SENSOR_FAULT; `inh`: the operands' quality bits. -/
def State.applyResult (i : Nat) (v : Option Nat) (fault : Bool) (inh tSrc : Nat) (s : State) : State :=
  let above := (s.px i).overridden
  let s := s.modPx i fun x => { (x.setOwn 2 false) with start := 0, srcQ := inh / 2 * 2 % 256 }
  let s := s.stampPt i s.wt tSrc s.node
  let s := if above then s
    else
      let s := s.modPx i (PtX.fault 2 fault)
      let s := match v with
        | some r => s.storeFloat i r
        | none => s
      s.modPx i (PtX.sample (fget Pt.VALUE (s.pt i)) tSrc)
  (((((s.requal i).evalPoint i (!above) tSrc (min tSrc s.wt)).histUpdate i 0 0).replState i).speedPoint i)

/-- R67 to R71, R839: a vote point is evaluated again. -/
def State.voteEval (vi tSrc : Nat) (s : State) : State :=
  if !(isVote (s.pt vi) && s.evaluates vi) then s
  else
    let x := s.px vi
    let w := s.vote vi (x.disputed % 2 == 1)
    let s := s.setPx vi { x with
      disputed := x.disputed / 2 * 2 + b2n w.disputed, outlier := w.outlier, pair := w.pair, degraded := w.single.isSome }
    let s := if w.outlier != 0 && w.outlier != x.outlier then
        (s.bump Reg.PNT_VOTE_OUTLIER_CNT.COUNT).raise Ev.PNT_VOTE_OUTLIER (s.tagOf vi) [w.outlier - 1] else s
    let s := match w.single with
      | some m => if x.degraded then s
        else (s.bump Reg.PNT_VOTE_DEGRADED_CNT.COUNT).raise Ev.PNT_VOTE_DEGRADED (s.tagOf vi) [m]
      | none => s
    s.applyResult vi w.value false w.inh tSrc

/-- R67: a change of a member reaches its vote point; not in Lightship operation (R686). -/
def State.toVote (i tSrc : Nat) (s : State) : State :=
  if fbit Pt.VOTE_EN (s.pt i) && !s.pwr.keeping then s.voteEval (fget Pt.VOTE_IDX (s.pt i)) tSrc else s

/-! Updates (R61 to R65). -/

/-- R465, R467: a received update of a point that is being handed over waits. -/
def State.holdsUpdates (s : State) (i : Nat) : Option (Option Nat) :=
  let x := s.px i
  if fget Pt.KIND (s.pt i) == kNone || !fbit Pt.PEER_EN (s.pt i) then none
  else if x.home == 0 then (if s.rf Reg.FAB_OWN_STAT.HOME_STATE == 3 || !s.fab.homeSet then some none else none)
  else match (List.range 4).find? fun k => s.rb (Reg.FAB_SHADOW.VALID k) && s.rf (Reg.FAB_SHADOW.HOME k) == x.home with
    | some k => if s.rf (Reg.FAB_SHADOW.SB_STATE k) == 1 || s.rf (Reg.FAB_SHADOW.SB_STATE k) == 3 then some (some k) else none
    | none => none

/-- R400: a PNT_UPDATE payload of one entry. -/
def updEntry (tag : Nat) (u : Upd) : Nat :=
  1 + (tag + u.v * 2 ^ 64 + u.vn * 2 ^ 96 + u.qual * 2 ^ 128 + u.tSrc * 2 ^ 192) * 2 ^ 64

/-- R465, R467: an update sent on to another node. -/
def State.passOn (dst : Nat) (u : Upd) (s : State) : State :=
  s.send { src := 129, cls := 4, ptype := 0x40, dst := some dst, twin := u.twin, payload := updEntry (s.tagOf u.idx) u, len := 64 }

/-- What an update brings whatever becomes of its value (R38, R53, R54, R55, R63, R460). -/
def State.arrive (u : Upd) (s : State) : State :=
  let i := u.idx
  (s.stampPt i u.tRx u.tSrc u.src).modPx i fun x => { (x.setOwn 2 false) with
    start := 0, counted := true, srcQ := u.qual &&& 0xC0
    disputed := if u.pair == 1 then x.disputed % 2 else if u.pair == 2 then x.disputed ||| 2 else x.disputed }

/-- R262, R615, R623: a value reaches the local stage of a point, whose faults the point follows; `t0`: where delays start
(R105). -/
def State.outPass (i tSrc t0 : Nat) (s : State) : State :=
  let was := s.stageFault (s.pt i)
  let s := s.outStage 0 (s.pt i) (fget Pt.VALUE (s.pt i))
  if s.stageFault (s.pt i) == was then s else (s.requal i).evalPoint i false tSrc t0

/-- R61: an update is applied to a point that this node evaluates. -/
def State.applyUpdate (u : Upd) (s : State) : State :=
  let i := u.idx
  let above := (s.px i).overridden
  let tOld := fget Pt.T_SRC (s.pt i)
  let old := fget Pt.VALUE (s.pt i)
  let first := !(s.px i).counted
  let s := s.arrive u
  let (d, s) := if above then (0, s) else s.receive i u.v tOld u.tSrc first
  let s := if above then s else s.modPx i (PtX.sample (quantity (s.pt i)) u.tSrc)
  let s := (s.requal i).evalPoint i (!above) u.tSrc (min u.tSrc u.tRx)
  let s := if above || u.pair == 4 then s else s.outPass i u.tSrc (min u.tSrc u.tRx)
  (((s.histUpdate i d old).replState i).toVote i u.tSrc).speedPoint i

/-- R65: an update stored in a shadow and not evaluated. -/
def State.storeShadow (u : Upd) (s : State) : State :=
  let i := u.idx
  let tOld := fget Pt.T_SRC (s.pt i)
  let first := !(s.px i).counted
  let s := s.arrive u
  ((s.receive i u.v tOld u.tSrc first).2).requal i

/-- R40, R42: the value of an own point with LOCAL_SRC comes from its local inputs, so an update from elsewhere is discarded
(that it leaves nothing behind: DESIGN CHOICE, log entry 75). -/
def State.localOnly (s : State) (u : Upd) : Bool :=
  let p := s.pt u.idx
  u.pair != 5 && (s.px u.idx).home == 0 &&
    ((fget Pt.KIND p == kAnalog && fbit Pt.AI_LOCAL p) || (fget Pt.KIND p == kDiscrete && fbit Pt.DI_LOCAL p))

/-- R35, R40, R42, R64, R65, R690, R837: a tile takes an update. -/
def State.takeUpdate (u : Upd) (s : State) : State :=
  let i := u.idx
  let k := s.kind i
  if k == kNone then s.bump Reg.PNT_UNCONF_DROP_CNT.COUNT
  else if s.keeperHas i then s
  else if k == kDerived && !(fbit Pt.SRC_CMW (s.pt i) && u.pair == 3) then s.bump Reg.PNT_DERIVED_DROP_CNT.COUNT
  else if s.localOnly u then s
  else if u.twin && !twinOk u.v u.vn then (s.bump Reg.PNT_TWIN_CNT.COUNT).twinEvent (s.tagOf i) 6 u.vn u.v
  else match s.holdsUpdates i with
    | some none => s.onFab fun f => { f with homeHeld := f.homeHeld ++ [u] }
    | some (some n) =>
      s.onFab fun f => { f with shadows := tmod none f.shadows n fun o => o.map fun d => { d with held := d.held ++ [u] } }
    | none =>
      if fbit Pt.SHADOW (s.pt i) then s.storeShadow u
      else if s.evaluates i then s.applyUpdate u
      else s.passOn (s.rf Reg.FAB_OWN_CTRL.STANDBY) u

/-! Scan ticks (R46, R47, R51, R59, R60, R97). -/

/-- √3 as the nearest binary32 (R838). -/
def root3 : Nat := 0x3FDDB3D7

/-- R47, R838: the result of a form: none where it is held, and whether the form sets SENSOR_FAULT. `y`: the previous
result, `prev`: A at the previous tick, `dt`: the scan period. Each operation is rounded to binary32; R41 takes the result only. -/
def formResult (form a b c k y : Nat) (prev : Option Nat) (dt : Nat) : Option Nat × Bool :=
  let add (x y : Nat) : Nat := fadd f32 x y
  let sub (x y : Nat) : Nat := fsub f32 x y
  let mul (x y : Nat) : Nat := fmul f32 x y
  let div (x y : Nat) : Nat := fdiv f32 x y
  let one := 0x3F800000
  let two := 0x40000000
  let three := 0x40400000
  let isZero (x : Nat) : Bool := fabs f32 x == 0
  let flag (x : Bool) : Option Nat × Bool := (some (if x then one else 0), false)
  match form with
  | 0 => (some a, false)
  | 1 => (some (add a b), false)
  | 2 => (some (sub a b), false)
  | 3 => (some (mul a b), false)
  | 4 => if isZero b then (none, true) else (some (div a b), false)
  | 5 => (some (mul a k), false)
  | 6 => (some (add a k), false)
  | 7 => (some (fabs f32 a), false)
  | 8 => (some (fmin f32 a b), false)
  | 9 => (some (fmax f32 a b), false)
  | 10 => (some (fmin f32 (fmin f32 a b) c), false)
  | 11 => (some (fmax f32 (fmax f32 a b) c), false)
  | 12 => (some (div (add a b) two), false)
  | 13 => (some (div (add (add a b) c) three), false)
  | 16 => (some (fabs f32 (sub a b)), false)
  | 17 => if flt f32 a 0 then (none, true) else (some (fsqrt f32 a), false)
  | 18 => (some (mul a a), false)
  | 19 => if !flt f32 0 k then (some a, false) else (some (add y (mul (sub a y) (fmin f32 one (div dt k)))), false)
  | 20 => (prev.map fun p => div (sub a p) dt, false)
  | 21 => (some (add y (mul (mul a k) dt)), false)
  | 22 => (some (add (add a b) c), false)
  | 23 => (some (add (mul a k) (mul b (sub one k))), false)
  | 24 => if isZero b then (none, true) else (some (div (mul 0x42C80000 a) b), false)
  | 25 => (some (mul (mul (mul root3 a) b) c), false)
  | 26 => (some (if flt f32 c b then b else fmin f32 (fmax f32 a b) c), false)
  | 27 => (some (fmax f32 y a), false)
  | 28 => flag (flt f32 k a)
  | 29 => flag (!isZero a && !isZero b)
  | 30 => flag (!isZero a || !isZero b)
  | 31 => (some (if isZero b then c else a), false)
  | _ => (none, false)

/-- R48: the operands that a form uses: A, B, C. -/
def formUses (form : Nat) : List Nat :=
  if [0, 5, 6, 7, 17, 18, 19, 20, 21, 27, 28].contains form then [0]
  else if [10, 11, 13, 22, 25, 26, 31].contains form then [0, 1, 2]
  else [0, 1]

/-- What a form has at the start of a tick: the values of A, B and C, and the operands' quality bits (R46, R48). -/
def State.formInputs (s : State) (i : Nat) : List Nat × Nat :=
  let p := s.pt i
  let ops := [fget Pt.OPA p, fget Pt.OPB p, fget Pt.OPC p]
  (ops.map fun o => if s.kind o == kNone then 0 else operand (s.pt o),
    (formUses (fget Pt.FORM p)).foldl (fun q n =>
      let o := ops.getD n 0
      q ||| (if s.kind o == kNone then 128 else s.quality o / 2 * 2)) 0)

/-- R44 to R46: a point whose form is evaluated at its scan ticks. -/
def State.formTicks (s : State) (i : Nat) : Bool :=
  let p := s.pt i
  fget Pt.KIND p == kDerived && !fbit Pt.SRC_CMW p && !isVote p

/-- R47, R839: the form of a point is evaluated at a tick with what it had at the tick's start. The state in AUX is what the last
tick left there, of whatever form that was (DESIGN CHOICE, log entry 76). -/
def State.formTick (i : Nat) (inp : List Nat × Nat) (tick : Nat) (s : State) : State :=
  let p := s.pt i
  let form := fget Pt.FORM p
  let dt := fofRat f32 ((scanMs (s.scanOf p) : Nat) : Int) 1000
  let y := fget Pt.AUX p
  let prev := if (s.px i).hasPrev then some y else none
  let a := inp.1.getD 0 0
  let (v, fault) := formResult form a (inp.1.getD 1 0) (inp.1.getD 2 0) (fget Pt.K p) y prev dt
  let s := if form == 20 then (s.modPt i (fput Pt.AUX a)).modPx i fun x => { x with hasPrev := true }
    else if form == 19 || form == 21 || form == 27 then
      match v with
      | some r => if ffinite f32 r then s.modPt i (fput Pt.AUX (fflush32 r)) else s
      | none => s
    else s
  s.applyResult i v fault inp.2 tick

/-- R60: the staleness check of a point at a tick. -/
def State.staleTick (i tick : Nat) (s : State) : State :=
  let p := s.pt i
  let x := s.px i
  let n := s.staleNOf p
  let ms := scanMs (s.scanOf p)
  let since := if x.start == 0 then fget Pt.T_RX p else x.start - 1
  let age := (tick - since) * 1000 / (ms * 2 ^ 32)
  let s := s.modPt i (fput Pt.STALE_AGE (min 255 age))
  if n == 0 || x.overridden || x.own / 2 % 2 == 1 || age < n then s
  else
    let s := ((s.modPx i (PtX.setOwn 2 true)).requal i).evalPoint i false tick tick
    (s.toVote i tick).speedPoint i

/-- R600: the measurement of a local stage as its point's readback. -/
def State.stageReads (s : State) (p : Rec 128) : Nat :=
  let ch := fget Pt.LOCAL_CH p
  if fget Pt.DEST_TYPE p == 2 then
    let lo := fratio f32 (fget Pt.EU_LO p)
    let span := ratSub (fratio f32 (fget Pt.EU_HI p)) lo
    let d : Int := ((s.rf (Reg.LIO_AO.I_MEAS_UA ch) : Nat) : Int) - 4000
    let r := ratAdd lo (span.1 * d, span.2 * 16000)
    fofRat f32 r.1 r.2
  else if s.rb (Reg.LIO_DIO.LEVEL (ch - 16)) then 0x3F800000 else 0

/-- R51, R600: the readback value of an OUTPUT point, none where it gives no usable one. The value of a COUNTER point is its rate
and that of a DISCRETE point its state, as for an operand of a form (DESIGN CHOICE, log entry 71). -/
def State.readback (s : State) (i : Nat) : Option Nat :=
  let p := s.pt i
  let r := fget Pt.RB_INDEX p
  if r == i && (fget Pt.DEST_TYPE p == 2 || fget Pt.DEST_TYPE p == 3) then some (s.stageReads p)
  else if s.kind r == kNone || badQual (s.quality r) then none
  else some (operand (s.pt r))

/-- R51: a difference exceeds a band; an infinite band is exceeded by none, and by every one where it is negative. -/
def beyond (d : Int × Nat) (band : Nat) : Bool :=
  if ffinite f32 band then ratLt (fratio f32 band) d else band == 0xFF800000

/-- R51: the readback check of an OUTPUT point at a tick. -/
def State.readbackTick (i tick : Nat) (s : State) : State :=
  let p := s.pt i
  if !(fget Pt.KIND p == kOutput && fbit Pt.RB_EN p) then s
  else
    let n := fget Pt.RB_PERIODS p
    let rb := s.readback i
    let out := match rb with
      | some v =>
        beyond (ratAbs (ratSub (fratio f32 (fget Pt.VALUE p)) (fratio f32 v))) (fget Pt.RB_BAND p)
      | none => true
    let s := match rb with
      | some v => s.modPt i (fput Pt.AUX v)
      | none => s
    let x := s.px i
    let x := if out then { x with rbBad := min 255 (x.rbBad + 1), rbGood := 0 } else { x with rbGood := min 255 (x.rbGood + 1), rbBad := 0 }
    let was := x.faults / 4 % 2 == 1
    if out && !was && decide (n ≤ x.rbBad) then
      let s := (s.setPx i (x.fault 4 true)).bump Reg.PNT_READBACK_CNT.COUNT
      ((((s.requal i).raise Ev.PNT_READBACK (s.tagOf i) [fget Pt.AUX (s.pt i)]).evalPoint i false tick tick).toVote i tick)
    else if !out && was && decide (n ≤ x.rbGood) then
      ((((s.setPx i (x.fault 4 false)).requal i).evalPoint i false tick tick).toVote i tick)
    else s.setPx i x

/-- R97: the deviation condition of a point at a tick; a change then made, as by any evaluation at a tick, has the tick as its
change time, which R120 does not name (DEDUCED, log entry 77). -/
def State.deviationTick (i tick : Nat) (s : State) : State :=
  match s.condOf i 5 with
  | some c => if s.kind i == kDiscrete then s else s.input i tick fun s => (s.syncProfile i).evalCond i 5 c false tick
  | none => s

/-- The points whose scan class has a tick at millisecond `k`, in ascending index. -/
def State.tickPoints (s : State) (k : Nat) : List Nat :=
  (tkeys s.pts.rec_).filter fun i => s.evaluates i && k % scanMs (s.scanOf (s.pt i)) == 0

/-- R46, R51, R59, R60, R97: everything that falls at millisecond tick `k`. -/
def State.scanTick (k : Nat) (s : State) : State :=
  let tick := tickAt 1 k
  let due := s.tickPoints k
  let forms := (due.filter s.formTicks).map fun i => (i, s.formInputs i)
  let s := due.foldl (fun s i => s.staleTick i tick) s
  let s := forms.foldl (fun s f => s.formTick f.1 f.2 tick) s
  let s := due.foldl (fun s i => s.readbackTick i tick) s
  due.foldl (fun s i => s.deviationTick i tick) s

end Sys2Proof.Machine
end

