-- ==== Sys2Proof/Machine/LioIn.lean ====
section
/-! DEFINITION. How local field I/O meets the points: sensor values (R601, R602, R606 to R611), local updates (R610, R621),
faults of stages (R615, R623), the safe state (R626) and HART (R617). -/

namespace Sys2Proof.Machine

/-! Sensor values: exact ratios, rounded once to binary32. -/

/-- R608: R_t / R0 of the curve below 0 °C at −k / 2^20 °C, times 10^15 × 2^80. -/
def rtdBelow (k : Nat) : Int :=
  let t : Int := -(k : Int)
  let u : Int := ((2 ^ 20 : Nat) : Int)
  (1000000000000000 : Int) * ((2 ^ 80 : Nat) : Int) + 3908300000000 * t * ((2 ^ 60 : Nat) : Int)
    - 577500000 * t * t * ((2 ^ 40 : Nat) : Int) - 4183 * (t - 100 * u) * t * t * t

/-- The largest k below `hi` whose curve value is at least `r` (a ratio); the curve falls with k. -/
def rtdFind (r : Int × Nat) : Nat → Nat → Nat → Nat
  | 0, lo, _ => lo
  | fuel + 1, lo, hi =>
    let mid := (lo + hi) / 2
    if hi ≤ lo + 1 then lo
    else if r.1 * (1000000000000000 : Int) * ((2 ^ 80 : Nat) : Int) ≤ rtdBelow mid * (r.2 : Int) then rtdFind r fuel mid hi
    else rtdFind r fuel lo mid

/-- R608: the temperature of a resistance ratio R_RTD / R0, and whether it was limited. Below 0 °C the manual fixes it to
within 0.001 °C: `free` chooses there (log entry 46). -/
def rtdTemp (r : Int × Nat) (free : Nat) : Nat × Bool :=
  if (r.2 : Int) ≤ r.1 then
    let e : Int × Nat := (39083 * 39083 * (r.2 : Int) - 231000000 * (r.1 - (r.2 : Int)), r.2)
    if e.1 < 0 then (fofInt f32 850, true)
    else
      let root := isqrt (e.1.toNat * 2 ^ 120 / e.2)
      let n : Int := (39083 * ((2 ^ 60 : Nat) : Int) - (root : Int)) * 1000
      let d : Nat := 11550 * 2 ^ 60
      if 850 * (d : Int) < n then (fofInt f32 850, true) else (fofRat f32 n d, false)
  else
    let top := 200 * 2 ^ 20
    if r.1 * (1000000000000000 : Int) * ((2 ^ 80 : Nat) : Int) < rtdBelow top * (r.2 : Int) then (fofInt f32 (-200), true)
    else
      let k := rtdFind r 64 0 (top + 1)
      (fofRat f32 (-(k : Int) + ((free % 1001 : Nat) : Int) - 500) (2 ^ 20), false)

/-- The gain, the excitation and a reference of a channel as ratios (R602). -/
def State.aiGain (s : State) (n : Nat) : Nat := [1, 16, 128, 128].getD (s.rf (Reg.LIO_AI.GAIN n)) 1
def State.aiExc (s : State) (n : Nat) : Int × Nat := if s.rb (Reg.LIO_AI.EXC n) then (5, 4) else (5, 2)

/-- R606: the lead resistance to subtract, in Ω. -/
def State.leadOhm (s : State) (n : Nat) : Int × Nat :=
  match s.rf (Reg.LIO_AI.WIRES n) with
  | 0 => (((s.rf (Reg.LIO_AI.LEAD_MOHM n) : Nat) : Int), 1000)
  | 1 => (((s.rf (Reg.LIO_AI.R_LEAD_MOHM n) : Nat) : Int), 2000)
  | _ => (0, 1)

/-- R609: the cold-junction temperature of a channel (binary32), none where its source has failed. `sensor`: the terminal
sensor of the channel's connector block. -/
def State.coldJunction (s : State) (n : Nat) (sensor : Option Nat) : Option Nat :=
  match s.rf (Reg.LIO_AI.CJ_SRC n) with
  | 0 => sensor
  | 1 =>
    let i := s.rf (Reg.LIO_AI.CJ_IDX n)
    if s.kind i == kNone || badQual (s.quality i) then none else some (operand (s.pt i))
  | _ => some (s.rf (Reg.LIO_AI.CJ_FIXED n))

/-- R602: the native value of a conversion of ratio ρ, and whether it lies beyond its range. -/
def State.nativeOf (s : State) (n : Nat) (rho : Int × Nat) (tcj free : Nat) : Nat × Bool :=
  let vin := ratMul rho ((s.aiExc n).1, (s.aiExc n).2 * s.aiGain n)
  match s.rf (Reg.LIO_AI.TYPE n) with
  | 1 =>
    let ref : Int := if s.rb (Reg.LIO_AI.RREF n) then 10000 else 1000
    let rm : Int × Nat := (ref * rho.1, ((rho.2 : Int) - rho.1).toNat)
    let r := ratSub rm (s.leadOhm n)
    let r0 := fratio f32 (s.rf (Reg.LIO_AI.R0 n))
    if r0.1 ≤ 0 then (fofInt f32 850, true) else rtdTemp (ratDiv r r0) free
  | 2 =>
    let typ := s.rf (Reg.LIO_AI.TC_TYPE n)
    let e := ratAdd vin (Config.tcEmf typ tcj, 10 ^ 12)
    if ratLt e (Config.tcEmf typ (Config.tcLow typ), 10 ^ 12) then (Config.tcLow typ % 2 ^ 32, true)
    else if ratLt (Config.tcEmf typ (Config.tcHigh typ), 10 ^ 12) e then (Config.tcHigh typ % 2 ^ 32, true)
    else (Config.tcTemp typ e.1 e.2 % 2 ^ 32, false)
  | 3 => (fofRat f32 (1000 * rho.1) (rho.2 * s.aiGain n), false)
  | 4 =>
    let ohm := [100, 1000, 10000, 10000].getD (s.rf (Reg.LIO_AI.RF n)) 100
    let i : Int × Nat := (1000 * vin.1, vin.2 * ohm)
    (fofRat f32 i.1 i.2, ratLt (24, 1) i)
  | _ => (fofRat f32 (vin.1 * (if s.rb (Reg.LIO_AI.VDIV n) then 4 else 1)) vin.2, false)

/-- R611: the source quality bits that a channel's faults give. -/
def State.aiFaults (s : State) (n : Nat) : Nat :=
  let x := s.aix n
  let tc := s.rf (Reg.LIO_AI.TYPE n) == 2
  let bad := x.clamp || x.ovc != 0 || s.rb (Reg.LIO_AI.BURNOUT n) || s.rb (Reg.LIO_AI.LEAD_FAULT n) || (tc && s.rb (Reg.LIO_AI.CJ_FAULT n))
  (if s.rb (Reg.LIO_AI.OVERRANGE n) then 64 else 0) + (if bad then 128 else 0)

/-- A channel's faults join what its next update carries. -/
def State.aiNote (n : Nat) (s : State) : State := s.modAix n fun x => { x with qual := x.qual ||| s.aiFaults n }

/-! Local updates. -/

/-- R610, R621, R690: a local update goes to the tile, or in Lightship operation to the Keeper. -/
def State.localUpdate (i v q t : Nat) (s : State) : State :=
  let u : Upd := { idx := i, v := v, vn := 0, twin := false, qual := q, tSrc := t, src := s.node, tRx := s.clock, pair := 5 }
  if s.keeperHas i then s.onPwr fun p => { p with upds := p.upds ++ [u] } else s.toTile u

/-- R42: the state bits of a DISCRETE point on local channels. -/
def State.dioState (s : State) (p : Rec 128) : Nat :=
  (List.range (fget Pt.DISC_BITS p + 1)).foldl (fun a k =>
    let b := s.rf (Reg.LIO_DIO.LEVEL (fget Pt.DI_CH p + k))
    a + (if fbit Pt.DI_INVERT p then 1 - b else b) * 2 ^ k) 0

/-- R610, R621: the update of a local point at a tick of its scan class. -/
def State.localTick (i tick : Nat) (s : State) : State :=
  let p := s.pt i
  let k := fget Pt.KIND p
  if k == kDiscrete && fbit Pt.DI_LOCAL p then s.localUpdate i (s.dioState p) 0 tick
  else if k == kAnalog && fbit Pt.AI_LOCAL p then
    let n := fget Pt.AI_CH p
    let x := s.aix n
    if x.n == 0 then s
    else
      let s := s.localUpdate i (fofRat f32 x.sum (x.n * 2 ^ 149)) (x.qual ||| s.aiFaults n) x.tLast
      s.modAix n fun x => { x with sum := 0, n := 0, qual := 0 }
  else s

/-- R610, R621: the local points among some, at millisecond tick `k`. -/
def State.localTicks (pts : List Nat) (k : Nat) (s : State) : State := pts.foldl (fun s i => s.localTick i (tickAt 1 k)) s

/-! Faults of the output stages (R615, R623). -/

/-- The OUTPUT point bound to a channel of R598's numbering: AO n is n, DIO n is 16 + n. -/
def State.outPoint (s : State) (ch : Nat) : Option Nat :=
  (s.pts.rec_.find? fun e => fget Pt.KIND e.2 == kOutput && fget Pt.DEST_TYPE e.2 == (if ch < 16 then 2 else 3) &&
    fget Pt.LOCAL_CH e.2 == ch).map Prod.fst

/-- R615, R623: the bound point follows its stage's faults. -/
def State.stageQual (ch : Nat) (s : State) : State :=
  match s.outPoint ch with
  | none => s
  | some i =>
    let t := s.clock
    let f (s : State) : State := (s.requal i).evalPoint i false t t
    if s.keeperHas i then s.keep f else if s.evaluates i then (f s).toVote i t else s

/-! Safe state (R626). -/

/-- A current output enters its safe state. -/
def State.aoSafe (n : Nat) (s : State) : State :=
  (if s.rb (Reg.LIO_AO.SAFE_HOLD n) then s else s.setDac n (dacCode (((s.rf (Reg.LIO_AO.SAFE_UA n) : Nat) : Int), 1))).wf
    (Reg.LIO_AO.SAFE n) 1

/-- A pulse pair enters its safe state. -/
def State.pulseSafe (k : Nat) (s : State) : State :=
  let s := s.pulseCut k
  let s := s.setPulse k { s.pulse k with carR := 0, carL := 0, fPrev := none }
  let off (ch : Nat) (s : State) : State := ((s.setCmd ch false).turnOff ch).wf (Reg.LIO_DIO.SAFE ch) 1
  off (2 * k + 1) (off (2 * k) s)

/-- A digital output enters its safe state. -/
def State.dioSafe (ch : Nat) (s : State) : State :=
  match s.rf (Reg.LIO_DIO.MODE ch) with
  | 1 => (s.doCommand ch (s.rb (Reg.LIO_DIO.SAFE_ON ch))).wf (Reg.LIO_DIO.SAFE ch) 1
  | 2 => s.pulseSafe (ch / 2)
  | _ => s

/-- R625: every output enters its safe state. -/
def State.allSafe (s : State) : State :=
  let s := (List.range 16).foldl (fun s n => s.aoSafe n) s
  (List.range 32).foldl (fun s ch => s.dioSafe ch) s

/-! HART (R616, R617). -/

def State.hart (s : State) (n : Nat) : HartX := tget HartX.none_ s.lio.hart n

/-- A channel's FIFOs written; HART_STAT follows. -/
def State.setHart (n : Nat) (x : HartX) (s : State) : State :=
  let s := s.onLio fun l => { l with hart := tset HartX.none_ l.hart n x }
  ((s.wf (Reg.LIO_HART.TX_FREE n) (256 - x.tx.length)).wf (Reg.LIO_HART.RX_USED n) x.rx.length).wf (Reg.LIO_HART.TX_BUSY n)
    (b2n (x.started != 0))

/-- Bytes of the message at the front of the transmit FIFO, its EOM byte among them. -/
def hartMsg (tx : List Nat) : Nat := ((tx.findIdx? fun b => b / 256 % 2 == 1).map (· + 1)).getD 0

/-- The bytes that a running transmission has sent leave the FIFO; the last leaves with HART_TRANSMIT_END. -/
def State.hartSettle (n : Nat) (s : State) : State :=
  let x := s.hart n
  if x.started == 0 then s
  else
    let out := (s.tim.now - (x.started - 1)) * 1200 / (11 * 2 ^ 32)
    let k := min (out - x.sent) (hartMsg x.tx - 1)
    if k == 0 then s else s.setHart n { x with tx := x.tx.drop k, sent := x.sent + k }

/-- LIO_HART_ERR_CNT with its event: 0 parity, 1 receive overflow, 2 transmit overflow. -/
def State.hartErr (n what : Nat) (s : State) : State :=
  (s.bump Reg.LIO_HART_ERR_CNT.COUNT).lioEvent Ev.LIO_HART_ERR n [what]

/-- A byte pushed into the transmit FIFO. -/
def State.hartPush (n b : Nat) (s : State) : State :=
  let s := s.hartSettle n
  let x := s.hart n
  if 256 ≤ x.tx.length then s.hartErr n 2 else s.setHart n { x with tx := x.tx ++ [b % 512] }

/-- A byte popped from the receive FIFO: the word that the read answers. -/
def State.hartPop (n : Nat) (s : State) : Nat × State :=
  let x := s.hart n
  match x.rx with
  | [] => (0, s)
  | b :: r => (b ||| 256, s.setHart n { x with rx := r })

end Sys2Proof.Machine
end

