-- ==== Sys2Proof/Machine/LtnOps.lean ====
section
/-! DEFINITION. The Lantern's composer: tile conditions (R647), light characters (R648), drawing (R640, R649), frame
buffers, swaps and the CRC of a buffer (R643, R644), inputs of the composer (R650). -/

namespace Sys2Proof.Machine

/-! Frame buffers (R640). -/

def State.ltnWidth (s : State) : Nat := s.ltn.width
def State.ltnHeight (s : State) : Nat := s.ltn.height
def State.fb (s : State) (n : Nat) : Tab Nat := if n == 0 then s.ltn.fb0 else s.ltn.fb1
def State.setFb (n : Nat) (b : Tab Nat) (s : State) : State :=
  s.onLtn fun l => if n == 0 then { l with fb0 := b } else { l with fb1 := b }

/-- A white line. -/
def whiteLine (w : Nat) : Nat := 2 ^ (3 * w) - 1

/-- The bytes of a buffer, line after line. -/
def fbBytes (w h : Nat) (b : Tab Nat) : Nat :=
  (List.range h).foldr (fun y a => tget 0 b y % 2 ^ (3 * w) + a * 2 ^ (3 * w)) 0

/-- One bit of the CRC-32 of IEEE 802.3 (R644). -/
def crc8023Bit (c : Nat) : Nat := if c % 2 == 1 then (c / 2) ^^^ 0xEDB88320 else c / 2
def crc8023Byte (c b : Nat) : Nat := (List.range 8).foldl (fun c _ => crc8023Bit c) (c ^^^ b)

/-- R644: the CRC-32 of the first `n` bytes of a number. -/
def crc32 (n v : Nat) : Nat :=
  ((List.range n).foldl (fun c k => crc8023Byte c ((v >>> (8 * k)) % 256)) 0xFFFFFFFF) ^^^ 0xFFFFFFFF

/-- R644: the CRC of a buffer. -/
def State.fbCrc (s : State) (n : Nat) : Nat :=
  crc32 (s.ltnHeight * (s.ltnWidth * 3 / 8)) (fbBytes s.ltnWidth s.ltnHeight (s.fb n))

def State.setCrc (n v : Nat) (s : State) : State := s.wf (if n == 0 then Reg.LTN_CRC0.CRC else Reg.LTN_CRC1.CRC) v
def State.crcOf (s : State) (n : Nat) : Nat := s.rf (if n == 0 then Reg.LTN_CRC0.CRC else Reg.LTN_CRC1.CRC)

/-! Tiles. -/

/-- R647: the condition of a state word and its priority colour class: 0 to 3 a priority, 4 NORMAL, 5 DISABLED. -/
def tileCond (st : Nat) : Nat × Nat :=
  let top := st % 8
  let un := st / 8 % 8
  let fo := st / 2 ^ 14 % 2
  if un != 7 && top != 7 && fo == 1 then (0, un)
  else if un != 7 && top != 7 then (1, un)
  else if un != 7 then (2, un)
  else if top != 7 then (3, top)
  else if st / 2 ^ 8 % 2 == 1 || st / 2 ^ 9 % 2 == 1 || st / 2 ^ 10 % 2 == 1 then (4, 5)
  else (5, 4)

/-- R647: the colour of a class. -/
def State.tileColour (s : State) (k : Nat) : Nat :=
  match k with
  | 0 => s.rf Reg.LTN_PRIO_COLOUR.CRIT
  | 1 => s.rf Reg.LTN_PRIO_COLOUR.HIGH
  | 2 => s.rf Reg.LTN_PRIO_COLOUR.MED
  | 3 => s.rf Reg.LTN_PRIO_COLOUR.LOW
  | 4 => s.rf Reg.LTN_PRIO_COLOUR.NORMAL
  | _ => s.rf Reg.LTN_PRIO_COLOUR.DISABLED

/-- R648: whether a character is lit at a watch time in ms. -/
def charLit (ch ms : Nat) : Bool :=
  match ch with
  | 1 => decide (ms % 2000 < 500)
  | 2 => decide (ms % 2000 < 1500)
  | 3 => decide (ms % 1000 < 400)
  | 4 => decide (ms % 2000 < 1000)
  | _ => true

/-- R646: the tiles that are VALID. -/
def State.tiles (s : State) : List Nat := (List.range 256).filter fun n => s.rb (Reg.LTN_TILE.VALID n)

/-- What a sector shows: SSTATE of the sector stage, or of the Keeper (R660, R661); none where only the retained
condition is known (R654, R660). -/
def State.tileState (s : State) (sector : Nat) (sst : Nat → Nat) : Option Nat :=
  if s.ltn.retained then none
  else if s.rb Reg.LTN_STAT.SRC then
    let k := tget 0 s.ltn.keeperSt sector
    if k == 0 then none else some (k - 1)
  else some (sst sector)

/-- R647 to R649, R654: how a tile is drawn now. -/
def State.drawOf (s : State) (sst : Nat → Nat) (n : Nat) : TileDraw :=
  let st := s.tileState (s.rf (Reg.LTN_TILE.SECTOR n)) sst
  let (cond, cls) := match st with
    | some v => tileCond v
    | none =>
      let r := tget 0 s.ltn.retTiles n
      let c := if r == 0 then 5 else (r - 1) % 8
      (c, 4)
  let col := match st with
    | some _ => s.tileColour cls
    | none =>
      -- the retained condition keeps the colour it was last drawn in
      let r := tget 0 s.ltn.retTiles n
      if r == 0 then s.tileColour 4 else (r - 1) / 16 % 8
  let lit := match st with
    | some _ => charLit (s.rf (Reg.LTN_STYLE.CHAR cond)) (msOf s.clock)
    | none =>
      if s.rb Reg.LTN_STAT.SRC && !s.ltn.retained then charLit (s.rf (Reg.LTN_STYLE.CHAR cond)) (msOf s.clock)
      else
        let r := tget 0 s.ltn.retTiles n
        r == 0 || (r - 1) / 8 % 2 == 1
  let hatch := match st with
    | some v => v / 2 ^ 11 % 2 == 1
    | none => true
  let flood := match st with
    | some v => v / 2 ^ 16 % 2 == 1
    | none => false
  let fill := if lit then col else 7
  { tile := n, x := s.rf (Reg.LTN_TILE.X n), y := s.rf (Reg.LTN_TILE.Y n), w := s.rf (Reg.LTN_TILE.W n), h := s.rf (Reg.LTN_TILE.H n)
    fill := fill, frame := if lit then 0 else col, thick := if flood then 4 else 2, label := tget 0 s.ltn.labels n
    ink := if fill == 0 then 7 else 0, hatch := hatch, cond := cond, lit := lit }

/-- R649: whether a pixel of a tile lies on a character of its label. -/
def labelPixel (d : TileDraw) (x y : Nat) : Bool :=
  if d.w < 16 || d.h < 24 || x < d.x + 4 || y < d.y + 4 || d.y + 20 ≤ y then false
  else
    let c := (x - (d.x + 4)) / 8
    if (d.w - 8) / 8 ≤ c || 24 ≤ c then false
    else
      let code := (d.label >>> (8 * c)) % 256
      code != 0 && (Config.glyph code >>> (8 * (y - (d.y + 4)) + (x - (d.x + 4)) % 8)) % 2 == 1

/-- R649: the colour a tile gives a pixel; none where it does not cover it. -/
def tilePixel (d : TileDraw) (x y : Nat) : Option Nat :=
  if x < d.x || d.x + d.w ≤ x || y < d.y || d.y + d.h ≤ y then none
  else if x < d.x + d.thick || d.x + d.w ≤ x + d.thick || y < d.y + d.thick || d.y + d.h ≤ y + d.thick then some d.frame
  else if labelPixel d x y then some d.ink
  else if d.hatch && (x + y) % 8 == 0 then some 0
  else some d.fill

/-- R646: the colour of a pixel: that of the highest-numbered tile over it, or white. -/
def framePixel (ds : List TileDraw) (x y : Nat) : Nat :=
  ds.foldl (fun c d => (tilePixel d x y).getD c) 7

/-- R640: a line of a composed frame. -/
def frameLine (w : Nat) (ds : List TileDraw) (y : Nat) : Nat :=
  (List.range w).foldr (fun x a => framePixel ds x y + a * 8) 0

/-- A composed frame. -/
def frameOf (w h : Nat) (ds : List TileDraw) : Tab Nat :=
  (List.range h).foldl (fun b y => tset 0 b y (frameLine w ds y)) []

/-! Composing and swapping. -/

/-- R643: a swap of the other buffer is requested; `ds`: the tiles that it shows. -/
def State.swapAsk (ds : List TileDraw) (s : State) : State := s.onLtn fun l => { l with swap := true, marks := ds }

/-- R665: the tile table shows the tiles of the shown frame. -/
def State.markTiles (ds : List TileDraw) (s : State) : State :=
  ds.foldl (fun s d => ((s.wf (Reg.LTN_TILE.COND d.tile) d.cond).wf (Reg.LTN_TILE.LIT d.tile) (b2n d.lit)).wf
    (Reg.LTN_TILE.HATCH d.tile) (b2n d.hatch)) s

/-- R643: a requested swap takes effect: lines that differ become dirty, a frame check under way starts again. -/
def State.swapNow (s : State) : State :=
  if !s.ltn.swap then s
  else
    let old := s.rf Reg.LTN_STAT.FB_SHOWN
    let a := s.fb old
    let b := s.fb (1 - old)
    let diff := (List.range s.ltnHeight).filter fun y => tget 0 a y != tget 0 b y || s.ltn.dirty.contains y
    let ds := s.ltn.marks
    let s := (s.onLtn fun l => { l with swap := false, dirty := diff, marks := [] }).wf Reg.LTN_STAT.FB_SHOWN (1 - old)
    s.markTiles ds

/-- R650: the composer starts a frame. `sst`: SSTATE of a sector. -/
def State.composeStart (sst : Nat → Nat) (s : State) : State :=
  let ds := s.tiles.map (s.drawOf sst)
  s.onLtn fun l => { l with drawing := some ds, again := false }

/-- R640, R644: a frame drawn into a buffer, with its CRC. -/
def State.drawInto (n : Nat) (ds : List TileDraw) (s : State) : State :=
  let s := s.setFb n (frameOf s.ltnWidth s.ltnHeight ds)
  s.setCrc n (s.fbCrc n)

/-- The composer runs: the panel is powered and not stopping (R655, R657). -/
def State.composes (s : State) : Bool :=
  let p := s.rf Reg.LTN_STAT.PSTATE
  p == 1 || p == 2 || p == 3

/-- SSTATE of a sector record. -/
def Sect.SSTATE : Fld := ⟨32, 17⟩

/-- The factory sector record: first-out and events enabled, wholly normal, armed, no priority (R148). -/
def Sect.factory : Rec 128 :=
  fput Sect.FO_EN 1 (fput Sect.EVT_EN 1 (fput Sect.TOP_PRIO 7 (fput Sect.UNACK_PRIO 7 (fput Sect.WHOLLY_NORMAL 1 (fput Sect.FO_ARMED 1 0)))))

def State.sect (s : State) (n : Nat) : Rec 128 := tget Sect.factory s.sec.sect n
def State.setSect (n : Nat) (r : Rec 128) (s : State) : State := s.onSec fun x => { x with sect := tset Sect.factory x.sect n r }
def State.sstate (s : State) (n : Nat) : Nat := fget Sect.SSTATE (s.sect n)

/-- R650: an input of the composer: a frame starts, or the next one is due at once after the one under way. -/
def State.composeAsk (s : State) : State :=
  if !s.composes || !s.rb Reg.LTN_STAT.MODE then s
  else match s.ltn.drawing with
    | some _ => s.onLtn fun l => { l with again := true }
    | none => s.composeStart s.sstate

/-- R152, R650: a sector change reaches the Lantern. -/
def State.ltnSector (n : Nat) (s : State) : State :=
  if s.rb Reg.LTN_STAT.SRC || !(s.tiles.any fun k => s.rf (Reg.LTN_TILE.SECTOR k) == n) then s else s.composeAsk

/-! Bias, light and power states (R655 to R659). -/

/-- R658: the rate of a band. -/
def bandRate (b : Nat) : Nat := [1, 5, 15, 30, 60].getD b 60

/-- R655, R658: the VCOM rate in force. -/
def State.vcomSettle (s : State) : State :=
  let p := s.rf Reg.LTN_STAT.PSTATE
  s.wf Reg.LTN_STAT.VCOM_NOW
    (if p == 0 then 0 else if p == 3 then 1
    else if s.rb Reg.LTN_PANEL_CTRL.VCOM_EXPERT then s.rf Reg.LTN_PANEL_CTRL.VCOM_HZ
    else if s.rb Reg.LTN_STAT.PTEMP_FAULT then 60 else bandRate s.ltn.tempBand)

/-- R656: the front light is on: in RUN, and in STARTING once the white pass is over. -/
def State.lightOn (s : State) : Bool :=
  let p := s.rf Reg.LTN_STAT.PSTATE
  p == 2 || (p == 1 && decide (s.ltn.height ≤ s.ltn.line))

/-- R656, R660: the level of the front light. -/
def State.lightSettle (s : State) : State :=
  let v := if !s.lightOn then 0
    else if s.rb Reg.PWR_LSHIP_STAT.LSHIP_OP then s.rf Reg.LTN_LIGHT.LSHIP_LEVEL else s.rf Reg.LTN_LIGHT.LEVEL
  s.onLtn fun l => { l with light := v }

/-- The panel enters a power state. -/
def State.panelState (p : Nat) (s : State) : State := ((s.wf Reg.LTN_STAT.PSTATE p).vcomSettle).lightSettle

/-- R666: in OFF the geometry is that of LTN_GEOM. -/
def State.geomSettle (s : State) : State :=
  if s.rf Reg.LTN_STAT.PSTATE != 0 then s
  else s.onLtn fun l => { l with width := s.rf Reg.LTN_GEOM.WIDTH, height := s.rf Reg.LTN_GEOM.HEIGHT }

/-- R641: the time of a line, and of every line once. -/
def State.lineTime (s : State) : Nat := ((32 + 3 * s.ltnWidth) * 25 + 3200) * 2 ^ 32 / 1000000000
def State.passTime (s : State) : Nat := s.ltnHeight * s.lineTime

/-- R655, R656: the power-on sequence starts; the retained image is composed into FB0. -/
def State.panelStart (s : State) : State :=
  if s.rf Reg.LTN_STAT.PSTATE != 0 || !s.rb Reg.LTN_PANEL_CTRL.PANEL_EN || !s.pwr.lshipUp then s
  else
    let s := (s.geomSettle.onLtn fun l => { l with
      startAt := s.tim.now + 1, starts := l.starts + 1, drawing := none, again := false, swap := false, marks := [], line := 0, dirty := List.range l.height
      checked := false, recRow := 0, recSweeps := 0, retained := true }).panelState 1
    let s := s.wf Reg.LTN_STAT.FB_SHOWN 0
    let s := if s.rb Reg.LTN_STAT.UNCLEAN then s.raise Ev.LTN_UNCLEAN 0 [s.ltn.starts] else s
    if s.rb Reg.LTN_STAT.MODE then
      let ds := s.tiles.map (s.drawOf s.sstate)
      (s.drawInto 0 ds).markTiles ds
    else match s.ltn.copy with
      | some (b, crc) => (s.setFb 0 b).setCrc 0 crc
      | none => s.drawInto 0 []

/-- R654, R660: the sector stage, or the Keeper, reports states: the hatching of the retained conditions is removed. -/
def State.statesShown (s : State) : State :=
  if s.ready 12 || (s.rb Reg.PWR_LSHIP_STAT.LSHIP_OP && s.ready 0) then (s.onLtn fun l => { l with retained := false }).composeAsk else s

/-- R655, R657: the off sequence starts. -/
def State.panelStop (s : State) : State :=
  let p := s.rf Reg.LTN_STAT.PSTATE
  if p == 0 || p == 4 then s
  else (s.panelState 4).onLtn fun l => { l with stopAt := s.tim.now + 1, line := 0, drawing := none, again := false, swap := false, marks := [] }

/-- R655: RUN to RETAIN. -/
def State.panelRetain (s : State) : State :=
  if s.rf Reg.LTN_STAT.PSTATE != 2 then s else (s.panelState 3).onLtn fun l => { l with vddh := false }

/-- Every line is dirty. -/
def State.allDirty (s : State) : State := s.onLtn fun l => { l with dirty := List.range l.height }

/-- R655: RETAIN to RUN, once neither the host nor the store asks for it. -/
def State.panelResume (s : State) : State :=
  if s.rf Reg.LTN_STAT.PSTATE != 3 || s.rb Reg.LTN_PANEL_CTRL.RETAIN || s.rb Reg.PWR_SUPPLY_STAT.SCAP_LOW then s
  else ((s.panelState 2).onLtn fun l => { l with vddh := true }).allDirty

/-- R655: supplies lost before OFF. -/
def State.panelLost (s : State) : State :=
  if s.rf Reg.LTN_STAT.PSTATE == 0 then s
  else ((s.wf Reg.LTN_STAT.UNCLEAN 1).panelState 0).onLtn fun l => { l with vdd := false, vddh := false, drawing := none }

/-- EV707: the mode or the source has changed: 0 command, 1 power-fail warning, 2 R645. -/
def State.modeEvent (cause : Nat) (s : State) : State :=
  s.raise Ev.LTN_MODE 0 [s.rf Reg.LTN_STAT.MODE, s.rf Reg.LTN_STAT.SRC, cause]

/-- R645, R660: frame mode changes to tile mode where FALLBACK_TILE allows it. -/
def State.fallbackTile (cause : Nat) (s : State) : State :=
  if s.rb Reg.LTN_STAT.MODE || !s.rb Reg.LTN_PANEL_CTRL.FALLBACK_TILE || s.tiles.isEmpty then s
  else ((s.wf Reg.LTN_STAT.MODE 1).dirtyMod.modeEvent cause).composeAsk

end Sys2Proof.Machine
end

