-- ==== Sys2Proof/Machine/SecOps.lean ====
section
/-! DEFINITION. The sector stage: counts and flags (R149 to R152), first-out (R153 to R157), causes and their fan-out (R163
to R166), floods (R169 to R174), and what it passes on (R175, R328, R341, R350, R471, R509, R510). -/

namespace Sys2Proof.Machine

/-! Sector records (R148 to R152). -/

def Sect.ACT (k : Nat) : Fld := ⟨8 * 0x08 + 32 * k, 32⟩
def Sect.UNACK (k : Nat) : Fld := ⟨8 * 0x18 + 32 * k, 32⟩
/-- The first-out fields, FO_TAG to FO_TIME. -/
def Sect.FO : Fld := ⟨8 * 0x40, 8 * 0x20⟩
/-- Bits [7:0] of word 0x48. -/
def Sect.FO_BYTE : Fld := ⟨8 * 0x48, 8⟩

/-- R149: the counts that a member increments. -/
def contrib (m : Member) (held : Bool) : List Fld :=
  if 3 < m.prio then []
  else match m.state with
    | 1 => if held then [Sect.CNT_HELD] else [Sect.ACT m.prio, Sect.UNACK m.prio]
    | 2 => if m.active then [Sect.ACT m.prio] else []
    | 3 => if held then [Sect.CNT_HELD] else [Sect.UNACK m.prio, Sect.CNT_RTNUN]
    | 4 => [Sect.CNT_SHELVED]
    | 5 => [Sect.CNT_SUPPR]
    | 6 => [Sect.CNT_OOS]
    | 7 => [Sect.CNT_UNCONF]
    | _ => []

/-- R150: counts up or down; none goes below zero or past all ones. -/
def Sect.count (up : Bool) (fs : List Fld) (r : Rec 128) : Rec 128 :=
  fs.foldl (fun r f => fput f (if up then min (fget f r + 1) 0xFFFFFFFF else fget f r - 1) r) r

/-- The highest priority whose count is above zero; 7 none. -/
def topOf (f : Nat → Fld) (r : Rec 128) : Nat := ((List.range 4).find? fun k => fget (f k) r != 0).getD 7

/-- R150, R151, R154: the flags recomputed from the counts; `flood`: a watch of the sector is in flood. -/
def Sect.flags (flood : Bool) (r : Rec 128) : Rec 128 :=
  let wholly := topOf Sect.ACT r == 7 && topOf Sect.UNACK r == 7 && fget Sect.CNT_HELD r == 0
  let arm := wholly && !fbit Sect.WHOLLY_NORMAL r
  let any (f g : Fld) (r : Rec 128) : Rec 128 := fput f (b2n (fget g r != 0)) r
  let r := fput Sect.TOP_PRIO (topOf Sect.ACT r) (fput Sect.UNACK_PRIO (topOf Sect.UNACK r)
    (fput Sect.ANY_UNACK (b2n (topOf Sect.UNACK r != 7)) r))
  let r := any Sect.ANY_RTNUN Sect.CNT_RTNUN (any Sect.ANY_SHELVED Sect.CNT_SHELVED (any Sect.ANY_SUPPR Sect.CNT_SUPPR
    (any Sect.ANY_OOS Sect.CNT_OOS (any Sect.ANY_UNCONF Sect.CNT_UNCONF (any Sect.ANY_HELD Sect.CNT_HELD r)))))
  let r := fput Sect.WHOLLY_NORMAL (b2n wholly) (fput Sect.FLOOD (b2n flood) r)
  if arm then fput Sect.FO_ARMED 1 r else r

/-! Watches. -/

/-- R180: the watches in flood, one bit each. -/
def State.floodMask (s : State) : Nat :=
  (List.range 8).foldl (fun m i => m + s.rf (Reg.SEC_FLOOD_STAT.FLOOD i) * 2 ^ (32 * i)) 0

/-- The watches of a mask, in ascending order. -/
def watchList (m : Nat) : List Nat := (List.range 256).filter fun w => (m >>> w) % 2 == 1

/-- R169: the watches in which a member of some sectors counts. -/
def State.watchesOf (s : State) (sects : List Nat) : Nat := sects.foldl (fun m n => m ||| fget Sect.WATCH_MASK (s.sect n)) 0

/-- The flags of a sector recomputed. -/
def State.sectFlags (n : Nat) (s : State) : State :=
  let r := s.sect n
  s.setSect n (Sect.flags (fget Sect.WATCH_MASK r &&& s.floodMask != 0) r)

/-- R510: the SECTOR entry of a sector. -/
def State.sectorEntry (s : State) (n seq : Nat) : Nat :=
  let r := s.sect n
  let c16 (f : Nat → Fld) (k : Nat) : Nat := min (fget (f k) r) 0xFFFF * 2 ^ (16 * k)
  seq % 2 ^ 64 + ((List.range 4).foldl (fun a k => a + c16 Sect.ACT k) 0) * 2 ^ 64 +
    ((List.range 4).foldl (fun a k => a + c16 Sect.UNACK k) 0) * 2 ^ 128 + fget Sect.SSTATE r * 2 ^ 192 + n * 2 ^ 224 + 2 ^ 248

/-- R152, R513: a sector change goes to the host and the Lantern. -/
def State.sectorOut (n seq : Nat) (s : State) : State :=
  let r := s.sect n
  let ws := watchList (fget Sect.WATCH_MASK r)
  let srcs := if ws.isEmpty then [516] else ws.map (260 + ·)
  let rings := (srcs.foldl (fun l k => l ++ s.evRings k) []).eraseDups
  let s := if fbit Sect.EVT_EN r then s.entriesPut rings (s.sectorEntry n seq) none else s
  s.ltnSector n

/-- R152: the sectors among `ns` whose state has changed from `before` are reported. -/
def State.sectorsOut (before : List (Nat × Nat)) (seq : Nat) (s : State) : State :=
  before.foldl (fun s p => if s.sstate p.1 == p.2 then s else s.sectorOut p.1 seq) s

/-- A change of sectors `ns` that no condition change caused (R152). -/
def State.sectorsBy (ns : List Nat) (f : State → State) (s : State) : State :=
  let before := ns.map fun n => (n, s.sstate n)
  let s := f s
  (ns.foldl (fun s n => s.sectFlags n) s).sectorsOut before s.sec.maxSeq

/-! Members (R146, R149, R150). -/

/-- A member's key: its condition index, or 2^26 and its mirror entry's number. -/
def memberKey (mirror : Bool) (n : Nat) : Nat := if mirror then 2 ^ 26 + n else n

def State.link (s : State) (c : Nat) : Rec 4 := tget 0 s.sec.link c
def State.modLink (c : Nat) (f : Rec 4 → Rec 4) (s : State) : State := s.onSec fun x => { x with link := tmod 0 x.link c f }
def State.mir (s : State) (n : Nat) : Rec 32 := tget 0 s.sec.mir n
def State.setMir (n : Nat) (r : Rec 32) (s : State) : State := s.onSec fun x => { x with mir := tset 0 x.mir n r }
def State.cause (s : State) (n : Nat) : Rec 32 := tget 0 s.sec.cause n
def State.setCause (n : Nat) (r : Rec 32) (s : State) : State := s.onSec fun x => { x with cause := tset 0 x.cause n r }

/-- R145, R167: a member is held in a flood digest. -/
def State.isHeld (s : State) (key : Nat) : Bool :=
  if key < 2 ^ 26 then fbit Link.HELD (s.link key) else fbit Mir.HELD (s.mir (key - 2 ^ 26))

def State.setHeld (key : Nat) (b : Bool) (s : State) : State :=
  let was := s.isHeld key
  let s := if key < 2 ^ 26 then s.modLink key (fput Link.HELD (b2n b))
    else s.setMir (key - 2 ^ 26) (fput Mir.HELD (b2n b) (s.mir (key - 2 ^ 26)))
  s.gauge Reg.SEC_HELD_NOW.COUNT was b

def State.shown (s : State) (key : Nat) : Option Member := tget none s.sec.shown key

/-- R150: a member's contribution is removed, or put, in each of its sectors. -/
def State.countMember (up : Bool) (m : Member) (held : Bool) (s : State) : State :=
  m.sects.eraseDups.foldl (fun s n => s.setSect n (Sect.count up (contrib m held) (s.sect n))) s

/-- R150: a member takes a new form, counted as held or not. -/
def State.reMember (key : Nat) (m : Option Member) (held : Bool) (s : State) : State :=
  let s := match s.shown key with
    | some o => s.countMember false o (s.isHeld key)
    | none => s
  let s := (s.setHeld key held).onSec fun x => { x with shown := tset none x.shown key m }
  match m with
  | some n => s.countMember true n held
  | none => s

/-! First-out (R153 to R157). -/

/-- R153: a first-out event of a sector. -/
def State.foEvent (n : Nat) (s : State) : State :=
  let r := s.sect n
  s.raise Ev.SEC_FIRST_OUT (fget Sect.FO_TAG r) [n, fget Sect.FO_BYTE r, fget Sect.FO_SEQ r]

/-- R153: a candidate reaches a sector. -/
def State.firstOut (n : Nat) (c : Chg) (s : State) : State :=
  let r := s.sect n
  if !(fbit Sect.FO_EN r && fbit Sect.FO_ARMED r && !fbit Sect.FO_LATCHED r) then s
  else
    let r := fput Sect.FO_TAG c.tag (fput Sect.FO_SLOT c.slot (fput Sect.FO_SRC (b2n c.mirror) (fput Sect.FO_PRIO c.prio
      (fput Sect.FO_COND c.cond (fput Sect.FO_SEQ c.seq (fput Sect.FO_TIME c.t (fput Sect.FO_LATCHED 1 (fput Sect.FO_ARMED 0 r))))))))
    (s.setSect n r).dirtyMod.foEvent n

/-! Causal suppression (R158 to R166). -/

/-- The effects of a cause entry, in edge order. -/
def State.effects (s : State) (n : Nat) : List Nat :=
  let r := s.cause n
  (List.range (fget Cause.EDGE_COUNT r)).map fun k => (tget 0 s.sec.edge (fget Cause.EDGE_BASE r + k)).toNat % 2 ^ 26

/-- R164: one effect's SUPP_CNT moves; `mark`: the first sequence number later than what started it. -/
def State.suppMove (c : Nat) (up : Bool) (mark : Nat) (s : State) : State :=
  let n := fget Link.SUPP_CNT (s.link c)
  let m := if up then min 255 (n + 1) else n - 1
  let s := (s.modLink c (fput Link.SUPP_CNT m)).gauge Reg.SEC_SUPPR_NOW.COUNT (n != 0) (m != 0)
  if (n == 0) == (m == 0) || !s.rb Reg.SEC_CTRL.SUPP_EN then s
  else s.onSec fun x => { x with supIn := x.supIn ++ [(c, n == 0, mark)] }

/-- R163, R164: "apply" or "remove" of a cause entry. -/
def State.fanOut (n : Nat) (up : Bool) (mark : Nat) (s : State) : State :=
  (s.effects n).foldl (fun s c => s.suppMove c up mark) s

/-- R162: RELEASE_MS of a cause entry: at basic level the largest OFF_DELAY among its effects as they stand, so that the
entry follows whenever one of them changes. -/
def State.relMs (s : State) (n : Nat) : Nat :=
  if fbit Cause.EXPERT (s.cause n) then fget Cause.RELEASE_MS (s.cause n)
  else min 65535 ((s.effects n).foldl (fun m c => max m (fget Cond.OFF_DELAY (s.cond c))) 0)

/-- A cause entry's state changes. -/
def State.causeState (n st : Nat) (s : State) : State :=
  s.setCause n (fput Cause.CSTATE st (fput Cause.T_STATE s.wt (s.cause n)))

/-- The timer owner of a cause entry (R108). -/
def causeOwner (n : Nat) : Nat := 2 ^ 26 + n

def State.causeTimer (n t0 d : Nat) (s : State) : State :=
  let (w, s) := s.timerStart (causeOwner n) t0 d
  s.setCause n (fput Cause.TIMER_ID w.1 (fput Cause.COARSE (b2n w.2) (s.cause n)))

def State.causeCancel (n : Nat) (s : State) : State :=
  let r := s.cause n
  (s.setCause n (fput Cause.COARSE 0 r)).timerStop (causeOwner n) (fget Cause.TIMER_ID r) (fbit Cause.COARSE r)

/-- R163: a cause entry takes the ACTIVE bit of its cause; `t`: where a settle or release timer starts (R105). -/
def State.causeTake (n : Nat) (act : Bool) (t mark : Nat) (s : State) : State :=
  let r := s.cause n
  if !fbit Cause.VALID r then s
  else match fget Cause.CSTATE r, act with
    | 0, true =>
      if fget Cause.SETTLE_MS r == 0 then (s.causeState n 2).fanOut n true mark
      else (s.causeState n 1).causeTimer n t (fget Cause.SETTLE_MS r)
    | 1, false => (s.causeCancel n).causeState n 0
    | 2, false =>
      let d := s.relMs n
      let s := s.setCause n (fput Cause.RELEASE_MS d r)
      if d == 0 then (s.causeState n 0).fanOut n false mark else (s.causeState n 3).causeTimer n t d
    | 3, true => (s.causeCancel n).causeState n 2
    | _, _ => s

/-- The cause entry of a member, if any. -/
def State.causeOf (s : State) (key : Nat) : Option Nat :=
  let r := if key < 2 ^ 26 then fget Link.CAUSE_REF (s.link key) else fget Mir.CAUSE_REF (s.mir (key - 2 ^ 26))
  if r == 0 then none else some (r - 1)

/-! Floods (R169 to R174). -/

/-- R181, R183: FLOOD_N, FLOOD_EXIT and FLOOD_W of a watch in force. -/
def State.floodVals (s : State) (w : Nat) : Nat × Nat × Nat :=
  (tget none s.sec.inForce w).getD
    (s.rf (Reg.SEC_WATCH.FLOOD_N w), s.rf (Reg.SEC_WATCH.FLOOD_EXIT w), s.rf (Reg.SEC_WATCH.FLOOD_W w))

/-- R170: a watch's count at watch time `t`. -/
def State.floodCount (s : State) (w t : Nat) : Nat :=
  let span := (s.floodVals w).2.2 * 2 ^ 32
  ((tget [] s.sec.rings w).filter fun a => decide (t < a + span) && decide (a ≤ t)).length

def State.inFlood (s : State) (w : Nat) : Bool := (s.floodMask >>> w) % 2 == 1

/-- R180, R181: a watch's FLOOD fields. -/
def State.setFlood (w : Nat) (b : Bool) (s : State) : State :=
  let f := Reg.SEC_FLOOD_STAT.FLOOD (w / 32)
  let v := s.rf f
  let k := w % 32
  let s := if (v >>> k) % 2 == b2n b then s else s.wf f (if b then v + 2 ^ k else v - 2 ^ k)
  s.wf (Reg.SEC_WATCH.FLOOD w) (b2n b)

/-- The sectors of a watch that have a record of their own. -/
def State.sectorsOfWatch (s : State) (w : Nat) : List Nat :=
  (s.sec.sect.filter fun e => (fget Sect.WATCH_MASK e.2 >>> w) % 2 == 1).map Prod.fst

/-- R170: an annunciation with change time `a` counts in a watch; answers whether a flood begins with it. -/
def State.floodNote (w a : Nat) (s : State) : Bool × State :=
  let s := s.onSec fun x => { x with rings := tmod [] x.rings w fun l => (a :: l).take 1024 }
  let n := s.floodCount w s.wt
  if s.inFlood w || !s.rb (Reg.SEC_WATCH.FLOOD_EN w) || !s.rb Reg.SEC_CTRL.FLOOD_EN || n ≤ (s.floodVals w).1 then (false, s)
  else
    let s := (s.setFlood w true).bump Reg.SEC_FLOOD_CNT.COUNT
    let s := (((s.wf (Reg.SEC_WATCH.PASSED w) 0).wf (Reg.SEC_WATCH.HELD_MED w) 0).wf (Reg.SEC_WATCH.HELD_LOW w) 0).wf
      (Reg.SEC_WATCH.RELEASED w) 0
    let s := s.onSec fun x => { x with floods := x.floods ++ [⟨w, a, 0, 0, 0, 0, none, []⟩] }
    (true, s.raise Ev.SEC_FLOOD_START 0 [w, n])

/-- R172: the digest counts of a watch in flood take an annunciation. -/
def State.digestNote (w prio : Nat) (s : State) : State :=
  let reg := if prio < 2 then Reg.SEC_WATCH.PASSED w else if prio == 2 then Reg.SEC_WATCH.HELD_MED w else Reg.SEC_WATCH.HELD_LOW w
  (s.bump reg).onSec fun x => { x with floods := x.floods.map fun f =>
    if f.watch == w && f.ended.isNone then
      { f with passed := f.passed + b2n (prio < 2), med := f.med + b2n (prio == 2), low := f.low + b2n (prio == 3) } else f }

/-- R170, R172: an annunciation of a priority with change time `a` is judged in its watches: whether it is held, the
watches whose flood begins. -/
def State.judge (ws : List Nat) (prio a : Nat) (s : State) : Bool × List Nat × State :=
  let was := ws.filter s.inFlood
  let s := ws.foldl (fun s w => (s.floodNote w a).2) s
  let on := ws.filter s.inFlood
  let s := on.foldl (fun s w => s.digestNote w prio) s
  (prio ≥ 2 && !on.isEmpty, on.filter (fun w => !was.contains w), s)

/-- R171, R173: a watch's flood ends at watch time `t`: the members to release are fixed. -/
def State.floodEnd (w t : Nat) (s : State) : State :=
  if !s.inFlood w then s
  else
    let s := (s.setFlood w false).onSec fun x => { x with inForce := tset none x.inForce w none }
    let m := s.floodMask
    let free := s.sec.shown.filterMap fun e => match e.2 with
      | some x => if s.isHeld e.1 && s.watchesOf x.sects &&& m == 0 then some e.1 else none
      | none => none
    let s := s.onSec fun x => { x with floods := x.floods.map fun f =>
      if f.watch == w && f.ended.isNone then { f with ended := some t, members := free } else f }
    s.sectorsBy (s.sectorsOfWatch w) id

/-- R173: the release of an ended flood: its members that are still held are counted again. -/
def State.floodRelease (f : Flood) (s : State) : State :=
  let held := f.members.filter fun k => s.isHeld k && (s.shown k).isSome
  let ns := (held.foldl (fun l k => match s.shown k with
    | some m => l ++ m.sects
    | none => l) []).eraseDups
  let s := s.sectorsBy ns fun s => held.foldl (fun s k => s.reMember k (s.shown k) false) s
  let s := s.onSec fun x => { x with floods := x.floods.filter fun g => !(g.watch == f.watch && g.start == f.start && g.ended == f.ended) }
  let n := f.released + held.length
  let s := if s.sec.floods.any fun g => g.watch == f.watch then s else s.wf (Reg.SEC_WATCH.RELEASED f.watch) (min n 255)
  let e := f.ended.getD 0
  (s.bcnWatch f.watch 4 false).raise Ev.SEC_FLOOD_END f.start [f.watch, f.passed, f.med, f.low, n, 0, e % 2 ^ 32, e / 2 ^ 32]

/-! What the stage passes on (R175). -/

/-- R509: the CHANGE entry of a change. -/
def changeEntry (c : Chg) (held : Bool) : Nat :=
  pack [(Chg.TAG, c.tag), (Chg.SEQ, c.seq), (Chg.T_CHANGE, c.t), (Chg.COND, c.cond), (Chg.SLOT, c.slot), (Chg.HELD, b2n held),
    (Chg.FLEET, b2n c.fleet), (Chg.OLD_STATE, c.old), (Chg.NEW_STATE, c.new), (Chg.BASE, c.base), (Chg.ACTIVE, b2n c.active),
    (Chg.PRIO, c.prio), (Chg.QUAL, c.qual), (Chg.MIRROR, b2n c.mirror)]

/-- R513: a CHANGE entry goes to the rings of the watches in which it counts. -/
def State.changeOut (c : Chg) (held : Bool) (ws : List Nat) (s : State) : State :=
  let srcs := if ws.isEmpty then [256] else ws
  let rings := (srcs.foldl (fun l k => l ++ s.evRings k) []).eraseDups
  s.entriesPut rings (changeEntry c held) (some c.seq)

/-- R341, R350, R351: the CHANGE record of a local change; `was`: ACTIVE before it. The Keeper's go to the Lightship part (R356). -/
def State.changeRec (c : Chg) (held was : Bool) (s : State) : State :=
  let s := if c.active && !was then s.onLdg fun l => { l with actTime := tset 0 l.actTime c.cond (c.t + 1) } else s
  let ret := was && !c.active
  let a := tget 0 s.ldg.actTime c.cond
  let early := ret && a != 0 && decide (c.t < a - 1)
  let dur := if !ret then 0 else if a == 0 then 2 ^ 64 - 1 else c.t - (a - 1)
  let s := if ret then s.onLdg fun l => { l with actTime := tset 0 l.actTime c.cond 0 } else s
  let s := if early then s.bump Reg.LDG_ORDER_CNT.COUNT else s
  let body := pack [(ChgRec.INDEX, c.idx), (ChgRec.SLOT, c.slot), (ChgRec.PRIO, c.prio), (ChgRec.HELD, b2n held),
    (ChgRec.FLEET, b2n c.fleet), (ChgRec.COND, c.cond), (ChgRec.ORDER, b2n early), (ChgRec.NOSTART, b2n (ret && a == 0)),
    (ChgRec.OLD_STATE, c.old), (ChgRec.NEW_STATE, c.new), (ChgRec.BASE, c.base), (ChgRec.ACTIVE, b2n c.active),
    (ChgRec.QUAL, c.qual), (ChgRec.SEQ, c.seq), (ChgRec.T_CHANGE, c.t), (ChgRec.DUR, dur)]
  s.ldgTake ⟨typChange, body >>> 64, 1, s.pwr.keeping, false, c.t, c.seq, 0⟩

/-- R359: an activation triggers an armed trip ledger. -/
def State.tripMatches (s : State) (c : Chg) (sects : List Nat) : Bool :=
  (s.ldg.tripKind == 0 && s.ldg.tripTag == c.tag && s.ldg.tripSlot == c.slot) ||
    (s.ldg.tripKind == 1 && sects.contains s.ldg.tripSlot)

/-- R473: an ALM_MIRROR frame of one entry. -/
def State.mirrorSend (sub : Sub) (refresh refused : Bool) (seq t : Nat) (s : State) : State :=
  let (prio, st, act) := match s.condOf sub.idx sub.slot with
    | some c => (s.prio c, (s.cs c).shown, (s.cs c).active)
    | none => (0, 0, false)
  let w := sub.slot + prio * 2 ^ 4 + st * 2 ^ 7 + b2n act * 2 ^ 11 + b2n refresh * 2 ^ 12 + b2n refused * 2 ^ 13 + sub.entry * 2 ^ 16
  let stand := if fbit Pt.PEER_EN (s.pt sub.idx) then s.rf Reg.FAB_OWN_CTRL.STANDBY else 0
  let e := s.tagOf sub.idx + w * 2 ^ 64 + stand * 2 ^ 96 + (seq % 2 ^ 64) * 2 ^ 128 + t * 2 ^ 192
  (s.onFab fun f => { f with subs := f.subs.map fun x => if x == sub then { x with sent := s.tim.now } else x }).send
    { src := 130, cls := 1, ptype := 0x10, dst := some sub.node, payload := 1 + e * 2 ^ 64, len := 64 }

/-- R167: the home sends a change to its subscribers. -/
def State.mirrorsOut (c : Chg) (s : State) : State :=
  (s.fab.subs.filter fun x => x.idx == c.idx && x.slot == c.slot && !fbit Pt.SHADOW (s.pt c.idx)).foldl
    (fun s x => s.mirrorSend x false false c.seq c.t) s

/-! One change (R175). -/

/-- R153, R169: a change that takes a member into UNACK. -/
def Chg.annunciates (c : Chg) : Bool := c.new == 1 && c.old != 1 && c.prio != 4

/-- The sectors of the member that a change is of. -/
def State.chgSectors (s : State) (c : Chg) : List Nat :=
  if c.mirror then [fget Mir.SECTOR (s.mir c.cond)]
  else if s.kind c.idx == kNone then (match s.shown c.cond with
    | some m => m.sects
    | none => [])
  else sectorsOf (s.pt c.idx)

/-- R163 to R175: the sector stage handles one change. -/
def State.sectorTake (c : Chg) (s : State) : State :=
  let key := memberKey c.mirror c.cond
  let sects := s.chgSectors c
  let old := s.shown key
  let was := match old with
    | some m => m.active
    | none => false
  let s := if c.mirror then s else s.onSec fun x => { x with maxSeq := max x.maxSeq c.seq }
  let s := match s.causeOf key with
    | some n => if was == c.active then s else s.causeTake n c.active (min c.t s.wt) (if c.mirror then s.sec.maxSeq + 1 else c.seq + 1)
    | none => s
  let ws := watchList (s.watchesOf sects)
  let ann := c.annunciates
  let (held, begun, s) := if ann then s.judge ws c.prio c.t
    else (s.isHeld key && !(c.base == 2 || c.base == 0 || c.new == 4 || c.new == 5 || c.new == 6), [], s)
  let mine := (sects ++ (match old with
    | some m => m.sects
    | none => [])).eraseDups
  let others := (begun.foldl (fun l w => l ++ s.sectorsOfWatch w) []).eraseDups.filter fun n => !mine.contains n
  let before := mine.map fun n => (n, s.sstate n)
  let before2 := others.map fun n => (n, s.sstate n)
  let m : Option Member := if c.new == 0 && !c.active then none else some ⟨c.new, c.prio, c.active, sects⟩
  let s := s.reMember key m held
  let s := (mine ++ others).foldl (fun s n => s.sectFlags n) s
  let s := if ann then sects.eraseDups.foldl (fun s n => s.firstOut n c) s else s
  let s := s.changeOut c held ws
  let s := if c.mirror then s
    else
      let s := s.changeRec c held was
      if c.active && !was then
        let s := if s.tripMatches c sects then s.tripTrigger c.t else s
        (s.capMatches c.cond sects).foldl (fun s d => s.capTrigger d.1 c.t d.2 c.seq) s
      else s
  let s := if ann && !held then ws.foldl (fun s w => s.bcnWatch w c.prio c.mirror) s else s
  let s := if c.mirror then s else s.mirrorsOut c
  -- R691: until the logic side returns, the Lightship rules follow the tiles' changes
  let s := if s.rb Reg.LIO_STAT.LOGIC_SRC then s.lrules else s
  (s.sectorsOut before c.seq).sectorsOut before2 s.sec.maxSeq

/-- R176: the stage takes the next change from its queue. -/
def State.sectorNext (s : State) : State :=
  match s.sec.queue with
  | [] => s
  | c :: q =>
    let s := s.onSec fun x => { x with queue := q, fullAt := if q.length < 262144 then 0 else x.fullAt }
    s.sectorTake c

end Sys2Proof.Machine
end

