-- ==== Sys2Proof/Machine/PntCfg.lean ====
section
/-! DEFINITION. Configuration of points: what a configuration half and its conditions must satisfy (R36, R66, R87, R88, R100,
R146, R461, R598, R599), condition runs (R87, R88), the commit (R33, R75, R133 to R135, R147, R549), the record sent to the
standby (R462, R473). -/

namespace Sys2Proof.Machine

/-- What a configuration command gives (R547, R548): the level, the configuration half and the conditions of its present
slots, as records of which the configuration words are used. -/
structure PtCfg where
  expert : Bool
  p : Rec 128
  conds : List (Nat × Rec 64)
  deriving DecidableEq, Repr

/-- The slots of a mask, ascending. -/
def maskSlots (m : Nat) : List Nat := (List.range 16).filter fun k => (m >>> k) % 2 == 1

/-- R541: an index names a point of the table. -/
def idxOk (i : Nat) : Bool := decide (i ≤ 0x4FFFFF)

/-! Condition runs (R87, R88). -/

/-- The lowest run of `n` indices from `cur` on, below `hi`, that holds none of the rising keys. -/
def freeRun (n hi : Nat) : Nat → List Nat → Option Nat
  | cur, [] => if cur + n ≤ hi then some cur else none
  | cur, k :: ks => if cur + n ≤ k then some cur else freeRun n hi (max cur (k + 1)) ks

/-- R88: where a point's condition records go at basic level: where they are when the slots stay the same, else the lowest
free run of its tile's slice, its own records counting as free (DESIGN CHOICE, log entry 28). -/
def State.allotConds (s : State) (i mask : Nat) : Option Nat :=
  let p := s.pt i
  if fget Pt.COND_MASK p == mask && mask != 0 then some (fget Pt.COND_BASE p)
  else
    let lo := tileOf i * 2 ^ 20
    let used := (s.alm.owner.filter fun e => decide (lo ≤ e.1) && decide (e.1 < lo + 2 ^ 20) && e.2 != i + 1).map Prod.fst
    freeRun (maskSlots mask).length (lo + 2 ^ 20) lo used

/-! Checks. -/

/-- Where a field stands in the command's buffer: `o` is its offset in R33. -/
def PtCfg.at_ (e : PtCfg) (o : Nat) : Nat :=
  if e.expert then 0x10 + o
  else match o with
    | 0x00 => 0x08
    | 0x08 => 0x10
    | 0x0C => 0x14
    | 0x10 => 0x38
    | 0x14 => 0x38
    | _ => o

/-- Where a word of the condition at place `pos` with slot `k` stands in the buffer: `o` is its offset in R89. -/
def PtCfg.condAt (e : PtCfg) (pos k o : Nat) : Nat :=
  if e.expert then 0x50 + 64 * pos + o
  else match o with
    | 0x08 => 0x40 + 8 * k
    | 0x30 => 0x3C
    | 0x00 => 0x34
    | _ => 0x38

/-- The other configured points with their records. -/
def State.otherPts (s : State) (i : Nat) : List (Rec 128) :=
  (s.pts.rec_.filter fun e => e.1 != i && fget Pt.KIND e.2 != kNone).map Prod.snd

/-- R598, R599: a local binding that breaks the rules, by its place in R33. -/
def State.bindFaults (s : State) (i : Nat) (p : Rec 128) : List (Bool × Nat) :=
  let k := fget Pt.KIND p
  let os := s.otherPts i
  if k == kAnalog && fbit Pt.AI_LOCAL p then
    let ch := fget Pt.AI_CH p
    [(!s.rb (Reg.LIO_AI.PNT_EN ch) || os.any fun o => fget Pt.KIND o == kAnalog && fbit Pt.AI_LOCAL o && fget Pt.AI_CH o == ch, 0x28)]
  else if k == kDiscrete && fbit Pt.DI_LOCAL p then
    let ch := fget Pt.DI_CH p
    [(decide (47 < ch + fget Pt.DISC_BITS p) ||
        os.any fun o => fget Pt.KIND o == kDiscrete && fbit Pt.DI_LOCAL o && fget Pt.DI_CH o == ch, 0x20)]
  else if k == kOutput then
    let ch := fget Pt.LOCAL_CH p
    let typ := fget Pt.DEST_TYPE p
    let taken := (typ == 2 || typ == 3) && os.any fun o => fget Pt.KIND o == kOutput &&
      (fget Pt.DEST_TYPE o == 2 || fget Pt.DEST_TYPE o == 3) && fget Pt.LOCAL_CH o == ch
    let mode := s.rf (Reg.LIO_DIO.MODE (ch - 16))
    [(taken || (typ == 2 && (decide (15 < ch) || s.rb (Reg.LIO_AO.MULTIDROP ch))) ||
        (typ == 3 && (decide (ch < 16) || decide (47 < ch) || !(mode == 1 || (mode == 2 && ch % 2 == 0)))), 0x20)]
  else []

/-- R36, R44, R49, R66: faults of KIND_PARAM, by their place in R33. `old`: the present record. -/
def paramFaults (old p : Rec 128) : List (Bool × Nat) :=
  let k := fget Pt.KIND p
  if k == kDerived then
    if isVote old then
      let other (f : Fld) : Bool := fget f p != fget f old
      [(fbit Pt.SRC_CMW p || other Pt.FORM || other Pt.OPA, 0x20), (other Pt.OPB, 0x24), (other Pt.OPC, 0x28),
       (!ffinite f32 (fget Pt.K p) || flt f32 (fget Pt.K p) 0, 0x2C)]
    else [(fget Pt.FORM p == 14 || fget Pt.FORM p == 15 || !idxOk (fget Pt.OPA p), 0x20), (!idxOk (fget Pt.OPB p), 0x24),
      (!idxOk (fget Pt.OPC p), 0x28)]
  else if k == kOutput then
    [(!idxOk (fget Pt.DEST_INDEX p) || (fbit Pt.RB_EN p && fget Pt.RB_PERIODS p == 0), 0x24), (!idxOk (fget Pt.RB_INDEX p), 0x28)]
  else []

/-- R100: two present limits break their order: the slot of the second. -/
def limitOrder (conds : List (Nat × Rec 64)) : List (Bool × Nat) :=
  let pairs := [(0, 1), (2, 3), (0, 2), (0, 3), (1, 2), (1, 3)]
  pairs.filterMap fun q =>
    match afind conds q.1, afind conds q.2 with
    | some a, some b =>
      let x := fget Cond.LIMIT a
      let y := fget Cond.LIMIT b
      let same := q == (0, 1) || q == (2, 3)
      some (if same then !fle f32 x y else !flt f32 x y, q.2)
    | _, _ => none

/-- R100: faults of one condition, by their place in R89. -/
def State.condFaults (s : State) (i : Nat) (disc : Bool) (k : Nat) (c : Rec 64) : List (Bool × Nat) :=
  let lim := fget Cond.LIMIT c
  let h := fget Cond.HYST c
  let two := !disc && (k == 4 || k == 5)
  [(decide (4 < fget Cond.PRIO c) || (!disc && k == 4 && fget Cond.ROC_DIR c == 3), 0x00),
   (!ffinite f32 lim || (two && (flt f32 lim 0 || flt f32 lim h)), 0x08),
   (!ffinite f32 h || flt f32 h 0, 0x10),
   (decide (3600000 < fget Cond.ON_DELAY c), 0x18), (decide (3600000 < fget Cond.OFF_DELAY c), 0x20),
   (!disc && k == 5 && (fget Cond.REF_IDX c == i || s.kind (fget Cond.REF_IDX c) == kNone), 0x30)]

/-- R36, R66, R87, R88, R100, R146, R461, R547 to R549, R598, R599: every fault of a configuration, by buffer offset. -/
def State.cfgFaults (s : State) (i : Nat) (e : PtCfg) : List Nat :=
  let p := e.p
  let old := s.pt i
  let k := fget Pt.KIND p
  let mask := fget Pt.COND_MASK p
  let n := e.conds.length
  let lo := tileOf i * 2 ^ 20
  let sects := sectorsOf p
  let member := fbit Pt.VOTE_EN old
  let wide := if k == kDiscrete then 2 ^ (fget Pt.DISC_BITS p + 1) else 6
  let half : List (Bool × Nat) :=
    [(4 < k || fbit Pt.EXPERT p != e.expert || (fget Pt.KIND old != kNone && fget Pt.KIND old != k), 0x00),
     (fbit ⟨22, 1⟩ p && fget Pt.SEC_SECTOR1 p == fget Pt.PRI_SECTOR p, 0x08),
     (sects.eraseDups.length != sects.length, if fbit ⟨23, 1⟩ p || fbit ⟨24, 1⟩ p then 0x0C else 0x08),
     (mask >>> wide != 0 || (!e.expert && (s.allotConds i mask).isNone), 0x10),
     (e.expert && !(decide (lo ≤ fget Pt.COND_BASE p) && decide (fget Pt.COND_BASE p < lo + 2 ^ 20) &&
       decide (fget Pt.COND_BASE p + n ≤ lo + 2 ^ 20)), 0x14),
     (k != kDiscrete && !flt f32 (fget Pt.EU_LO p) (fget Pt.EU_HI p), 0x18),
     (member && fget Pt.EU_LO p != fget Pt.EU_LO old, 0x18), (member && fget Pt.EU_HI p != fget Pt.EU_HI old, 0x1C),
     (fbit Pt.PEER_EN p && (s.rf Reg.FAB_OWN_CTRL.STANDBY == 0 || fget Pt.PEER_NODE p != s.rf Reg.FAB_OWN_CTRL.STANDBY), 0x30),
     (e.expert && !idxOk (fget Pt.VOTE_IDX p), 0x34)] ++ paramFaults old p ++ s.bindFaults i p
  let pos (slot : Nat) : Nat := e.conds.findIdx fun c => c.1 == slot
  (half.filter Prod.fst).map (fun f => e.at_ f.2) ++
    (((List.range n).zip e.conds).map fun c =>
      ((s.condFaults i (k == kDiscrete) c.2.1 c.2.2).filter Prod.fst).map fun f => e.condAt c.1 c.2.1 f.2).flatten ++
    (if k == kDiscrete then [] else ((limitOrder e.conds).filter Prod.fst).map fun f => e.condAt (pos f.2) f.2 0x08)

/-- The least of the offsets at fault. -/
def firstFault (l : List Nat) : Option Nat := l.foldl (fun m o => some (match m with | some x => min x o | none => o)) none

/-! The commit. -/

/-- Entries of a table moved to other keys; what stood at a new key goes. -/
def tmove {α : Type} [DecidableEq α] (d : α) (mv : List (Nat × Nat)) (t : Tab α) : Tab α :=
  let vs := mv.map fun e => (e.2, tget d t e.1)
  vs.foldl (fun t e => tset d t e.1 e.2) (mv.foldl (fun t e => tset d t e.1 d) t)

/-- Condition records that move with a point's slots: everything kept by condition index follows (log entry 28). -/
def State.moveConds (mv : List (Nat × Nat)) (s : State) : State :=
  let mv := mv.filter fun e => e.1 != e.2
  if mv.isEmpty then s
  else
    let newIdx (c : Nat) : Nat := (afind mv c).getD c
    let s := mv.foldl (fun s e => s.wheelCut e.1 (tget (0, 0) s.alm.due e.1).2) s
    let s := s.onAlm fun a => { a with
      cond := tmove 0 mv a.cond, ext := tmove 0 mv a.ext, owner := tmove 0 mv a.owner, due := tmove (0, 0) mv a.due
      actTick := tmove 0 mv a.actTick, actSeq := tmove 0 mv a.actSeq, noRate := tmove 0 mv a.noRate
      firstVal := tmove 0 mv a.firstVal, dead := tmove 0 mv a.dead, shelvedAt := tmove 0 mv a.shelvedAt
      changed := tmove 0 mv a.changed }
    let s := mv.foldl (fun s e =>
      if fbit Cond.RUN (s.cond e.2) && fbit Cond.COARSE (s.cond e.2) then s.wheelPut e.2 (tget (0, 0) s.alm.due e.2).2 else s) s
    let s := s.onSec fun x => { x with
      link := tmove 0 mv x.link, shown := tmove none mv x.shown
      supIn := x.supIn.map fun e => (newIdx e.1, e.2)
      cause := x.cause.map fun e => (e.1, if fbit Cause.MIRROR e.2 then e.2 else fput Cause.CAUSE (newIdx (fget Cause.CAUSE e.2)) e.2)
      edge := x.edge.foldl (fun t e =>
        let c := e.2.toNat % 2 ^ 26
        if newIdx c == c then t else tset 0 t e.1 (fput ⟨0, 26⟩ (newIdx c) e.2)) x.edge
      floods := x.floods.map fun f => { f with members := f.members.map newIdx } }
    let s := s.onLdg fun l => { l with actTime := tmove 0 mv l.actTime }
    s.onCmw fun w => { w with defs := w.defs.map fun e =>
      (e.1, if fbit Cap.VALID e.2 && fget Cap.TRIG_KIND e.2 == 0 then fput Cap.TRIG (newIdx (fget Cap.TRIG e.2)) e.2 else e.2) }

/-- The sector stage takes in everything that waits for it. -/
def State.sectorsDrain (s : State) : State := (List.range s.sec.queue.length).foldl (fun s _ => s.sectorNext) s

/-- R135: slots of a point go: each condition to NORM as one numbered change. -/
def State.slotsOff (i : Nat) (gone : List (Nat × Nat)) (s : State) : State :=
  if gone.isEmpty then s
  else
    (s.input i s.wt fun s => gone.foldl (fun s k =>
      (((s.delayStop k.2).setCs k.2 (CS.of 0)).modCondX k.2 (fput Ext.SHELVE_S 0))) s).sectorsDrain

/-- A condition record is freed. -/
def State.freeCond (c : Nat) (s : State) : State :=
  let s := s.onAlm fun a => { a with
    cond := tdel a.cond c, ext := tdel a.ext c, owner := tdel a.owner c, actTick := tdel a.actTick c, actSeq := tdel a.actSeq c
    noRate := tdel a.noRate c, firstVal := tdel a.firstVal c, dead := tdel a.dead c, shelvedAt := tdel a.shelvedAt c
    changed := tdel a.changed c }
  s.onSec fun x => { x with supIn := x.supIn.filter fun e => e.1 != c }

/-- R147: a point's members are counted in the sectors that it names now. -/
def State.reseat (i : Nat) (s : State) : State :=
  let now := sectorsOf (s.pt i)
  let ms := (s.slotsOf i).filterMap fun k => (s.shown k.2).bind fun m => if m.sects == now then none else some (k.2, m)
  if ms.isEmpty then s
  else s.sectorsBy ((ms.foldl (fun l m => l ++ m.2.sects) now).eraseDups) fun s =>
    ms.foldl (fun s m => s.reMember m.1 (some { m.2 with sects := now }) (s.isHeld m.1)) s

/-- The configuration words of one condition written; `x`: its extension record. CSTATE, the timer and T_CHANGE stay. R93:
the record is evaluated again. -/
def State.writeCond (c : Nat) (r : Rec 64) (x : Rec 16) (s : State) : State :=
  let old := s.cond c
  let cfg (f g : Fld) (o : Rec 64) : Rec 64 := Cond.put f g (fget f r) o
  let o := fput Cond.REF_IDX (fget Cond.REF_IDX r) (cfg Cond.OFF_WORD Cond.OFF_DELAY_N (cfg Cond.ON_WORD Cond.ON_DELAY_N
    (cfg Cond.HYST Cond.HYST_N (cfg Cond.LIMIT Cond.LIMIT_N (cfg Cond.CCTRL Cond.CCTRL_N old)))))
  let s := ((s.setCond c o).setCondX c x).onAlm fun a => { a with dead := tset 0 a.dead c 0 }
  let s := if fget Cond.PRIO r == 4 && fget Cond.PRIO old != 4 then s.modCs c CS.toJournal else s
  let v := s.cs c
  let s := if v.unconf then s.setCs c { v with unconf := false } else s
  if !fbit Cond.LATCH r && v.latched then
    (s.setCs c { s.cs c with latched := false }).return_ c
  else s

/-- R73, R549: what a basic-level condition takes from its profile; `x`: the extension record whose steps it keeps. -/
def State.deriveCond (s : State) (p : Rec 128) (slot : Nat) (r : Rec 64) (x : Rec 16) : Rec 64 × Rec 16 :=
  let f := s.prof (fget Pt.PROFILE p)
  let disc := fget Pt.KIND p == kDiscrete
  let k := min (fget Ext.K_ON x) f.kmax
  let j := if disc then 0 else min (fget Ext.K_HYST x) f.jmax
  (Cond.putOff f.offBase (Cond.putHyst (if disc then 0 else hystOf p (f.h j)) (Cond.putOn (f.d k)
      (Cond.putCtrl (fget Cond.CCTRL (fput Cond.PRIO (f.prioOf disc slot) r)) r))),
    fput Ext.K_HYST j (fput Ext.K_ON k x))

/-- The record of a point as a configuration leaves it (R33, R43, R73, R75, R549); AUX stays, also where FORM changes (DESIGN CHOICE,
log entry 76). -/
def State.newRecord (s : State) (i base : Nat) (e : PtCfg) (shadow : Bool) : Rec 128 :=
  let old := s.pt i
  let p := e.p
  let p := if e.expert then p
    else
      let f := fget Pt.PROFILE p
      let p := fput Pt.STALE_N (s.rf (Reg.PNT_PROFILE.STALE_N f)) (fput Pt.SCAN_CLASS (s.rf (Reg.PNT_PROFILE.SCAN_CLASS f)) p)
      let p := fput Pt.VOTE_EN (fget Pt.VOTE_EN old) (fput Pt.VOTE_IDX (fget Pt.VOTE_IDX old) p)
      if fget Pt.KIND p == kCounter then fput Pt.MAX_STEP ((fget Pt.MODULUS_M1 p + 1) / 2) p else p
  let p := fput Pt.SHADOW (b2n shadow) (fput Pt.COND_BASE base (fput Pt.CFG_GEN (fget Pt.CFG_GEN old + 1) p))
  let p := if fget Pt.KIND p == kOutput then fput Pt.LOOP_OWNED 0 p else p
  Pt.seal (fput Pt.CFG (fget Pt.CFG p) old)

/-- R772: a point's UNCONFIRMED from RETAIN_DISAGREE clears. -/
def State.confirmPt (i : Nat) (s : State) : State :=
  if (s.px i).unconf / 4 % 2 == 1 then (s.modPx i fun x => { x with unconf := x.unconf % 4 }).drop Reg.SYS_UNCONF_PTS.COUNT else s

/-- R39, R60, R549: a configured point's runtime state: new where the point is created. -/
def State.pointStart (i : Nat) (create : Bool) (home : Nat) (s : State) : State :=
  if create then s.setPx i { PtX.zero with start := s.wt + 1, home := home }
  else s.modPx i fun x =>
    { x with
      hasPrev := false, unconf := x.unconf / 2 * 2
      faults := if fbit Pt.RB_EN (s.pt i) then x.faults else x.faults % 4 }

/-- R36, R61, R75, R100, R133 to R135, R147, R549: a checked configuration is committed with its conditions at `base`. Records
that another point's run holds too (R143) pass to this point, their timers ended; an expert record's VOTE_EN and VOTE_IDX are
taken as given (R85: unpredictable; DESIGN CHOICE, log entry 13). -/
def State.commitPoint (i base : Nat) (e : PtCfg) (shadow : Bool) (home : Nat) (s : State) : State :=
  let s := s.confirmPt i
  let old := s.pt i
  let create := fget Pt.KIND old == kNone
  let keepSteps := !e.expert && !create && !fbit Pt.EXPERT old
  let slots := e.conds.map Prod.fst
  let was := s.slotsOf i
  let gone := was.filter fun k => !slots.contains k.1
  let kept := was.filter fun k => slots.contains k.1
  let place := slots.zip ((List.range slots.length).map fun k => base + k)
  let mv := kept.map fun k => (k.2, (afind place k.1).getD k.2)
  let s := s.slotsOff i gone
  let s := if mv.all fun m => m.1 == m.2 then s else s.sectorsDrain
  let s := gone.foldl (fun s k => s.freeCond k.2) s
  let s := (place.filter fun k => !(kept.any fun q => q.2 == k.2)).foldl (fun s k => s.delayStop k.2) s
  let s := s.moveConds mv
  let s := ((s.setPt i (s.newRecord i base e shadow)).tileGates.histRebind i old).pointStart i create home
  let s := s.onAlm fun a => { a with owner := place.foldl (fun t k => tset 0 t k.2 (i + 1)) a.owner }
  let n := Reg.ALM_COND_FREE.FREE (tileOf i)
  let s := s.wf n (s.rf n + was.length - place.length)
  let full (s : State) (k : Nat × Nat) : Rec 64 × Rec 16 :=
    let r := (afind e.conds k.1).getD 0
    let isKept := kept.any fun q => q.1 == k.1
    if e.expert then (r, fput Ext.SHELVE_S (fget Ext.SHELVE_S (s.condX k.2)) 0)
    else
      let x := if keepSteps && isKept then s.condX k.2
        else fput Ext.SHELVE_S (fget Ext.SHELVE_S (s.condX k.2)) 0
      let r := if keepSteps && isKept then
          Cond.putCtrl (fget Cond.CCTRL (fput Cond.ADAPT_HOLD (fget Cond.ADAPT_HOLD (s.cond k.2)) r)) r else r
      s.deriveCond e.p k.1 r x
  let fresh := place.filter fun k => !(kept.any fun q => q.1 == k.1)
  let s := fresh.foldl (fun s k =>
    let w := full s k
    ((s.setCond k.2 (Cond.putState CS.fresh.word 0)).writeCond k.2 w.1 w.2).onAlm fun a =>
      { a with firstVal := tset 0 a.firstVal k.2 1 }) s
  let s := s.reseat i
  let s := if shadow then
      place.foldl (fun s k => let w := full s k; s.writeCond k.2 w.1 w.2) s
    else
      s.input i s.wt fun s =>
        let s := place.foldl (fun s k => let w := full s k; s.writeCond k.2 w.1 w.2) s
        place.foldl (fun s k => s.evalCond i k.1 k.2 false s.wt) (s.requal i)
  (s.requal i).aiFollow

/-- R462, R473: a REPL_CONFIG frame of one point for a node. -/
def State.replConfigTo (dst i : Nat) (delete : Bool) (s : State) : State :=
  let p := s.pt i
  let l := if delete then [] else s.slotsOf i
  let recs := l.foldr (fun k n => fget ⟨0, 416⟩ (s.cond k.2) + n * 2 ^ 512) 0
  let e := s.tagOf i + (l.length + b2n delete * 2 ^ 8) * 2 ^ 64 + (if delete then 0 else fget Pt.CFG p) * 2 ^ 128 + recs * 2 ^ 640
  s.send { src := 129, cls := 7, ptype := 0x71, dst := some dst, twin := false
           payload := 1 + e * 2 ^ 64, len := 8 + 80 + 64 * l.length }

/-- R462: a committed configuration, or a deletion, is sent on. -/
def State.replConfig (i : Nat) (delete : Bool) (s : State) : State :=
  match s.replTo i with
  | some d => s.replConfigTo d i delete
  | none => s

/-- R35, R135, R550: a point's record is deleted. -/
def State.dropPoint (i : Nat) (s : State) : State :=
  let s := s.confirmPt i
  let was := s.slotsOf i
  let s := s.slotsOff i was
  let s := was.foldl (fun s k => s.freeCond k.2) s
  let n := Reg.ALM_COND_FREE.FREE (tileOf i)
  let s := (((s.wf n (s.rf n + was.length)).setPt i Pt.factory).setPx i PtX.zero).tileGates
  let s := s.onLdg fun l => { l with
    acc := [0, 1, 2].foldl (fun t k => tset none t (3 * i + k) none) l.acc
    setOld := [0, 1, 2].foldl (fun t k => tset none t (3 * i + k) none) l.setOld }
  s.aiFollow

end Sys2Proof.Machine
end

