-- ==== Sys2Proof/Machine/Points.lean ====
section
/-! DEFINITION. The point commands (R50, R55, R56, R66, R84, R546 to R550). -/

namespace Sys2Proof.Machine

/-! Adaptation (R128 to R131). -/

/-- The slot of a condition. -/
def State.slotOf (s : State) (c : Nat) : Nat := fget Cond.SLOT (s.cond c)

/-- The conditions of a tile with their points, in ascending order. -/
def State.tileConds (s : State) (tile : Nat) : List (Nat × Nat) :=
  (s.alm.owner.filter fun e => condTile e.1 == tile && s.evaluates (e.2 - 1)).map fun e => (e.2 - 1, e.1)

/-- R130: the sum of the minute buckets. -/
def Ext.sum (x : Rec 16) : Nat := ((List.range 10).map fun k => fget ⟨8 * k, 8⟩ x).sum

/-- R130, R131: the adaptation of one condition of point `i` at minute boundary `b`. -/
def State.adapt (i c b : Nat) (s : State) : State :=
  let s := s.condGuard i b
  let p := s.pt i
  let v := s.cs c
  let r := s.cond c
  if fbit Pt.EXPERT p || v.oos || v.unconf || v.qhold || tget 0 s.alm.dead c != 0 || fbit Cond.ADAPT_HOLD r || s.rb Reg.ALM_CTRL.ADAPT_FREEZE then s
  else
    let f := s.prof (fget Pt.PROFILE p)
    let disc := fget Pt.KIND p == kDiscrete
    let x := s.condX c
    let n := Ext.sum x
    let k := fget Ext.K_ON x
    let j := fget Ext.K_HYST x
    let q := fget Ext.QUIET_MIN x
    let (k', j', q', dir) :=
      if f.chatter < n then
        (if k < f.kmax then k + 1 else k, if j < f.jmax && !disc then j + 1 else j, 0, 1)
      else if n ≤ f.chatter / 2 then
        if q + 1 == 1440 then (k - 1, j - 1, 0, 2) else (k, j, q + 1, 0)
      else (k, j, 0, 0)
    let x := if f.chatter < n then fput ⟨0, 80⟩ 0 x else x
    let idx := (fget Ext.BKT_IDX x + 1) % 10
    let x := fput ⟨8 * idx, 8⟩ 0 (fput Ext.BKT_IDX idx (fput Ext.QUIET_MIN q' (fput Ext.K_HYST j' (fput Ext.K_ON k' x))))
    let s := (s.setCondX c x).dirtyMod
    let moved := k' != k || j' != j
    let s := if !moved then s
      else
        (s.bump (if dir == 1 then Reg.ALM_ADAPT_UP_CNT.COUNT else Reg.ALM_ADAPT_DOWN_CNT.COUNT)).raise Ev.ALM_ADAPT (s.tagOf i)
          [s.slotOf c, k', j']
    let s := if k' != k then s.modCond c (Cond.putOn (f.d k')) else s
    if j' == j then s
    else
      let s := s.modCond c (Cond.putHyst (hystOf p (f.h j')))
      let s := s.input i b fun s =>
        match s.side i (s.slotOf c) c with
        | some d => s.drive i c b d false
        | none => s
      if (s.cs c).key == v.key then s else s.replState i

/-- R128, R129: the adaptation sweep of a tile for minute boundary `m`. -/
def State.adaptSweep (tile m : Nat) (s : State) : State :=
  let s := s.onAlm fun a => { a with minAt := tset 0 a.minAt tile (m + 1) }
  (s.tileConds tile).foldl (fun s k => s.adapt k.1 k.2 (m * 60 * 2 ^ 32)) s

/-- The minute boundary whose sweep a tile has still to make, if any. -/
def State.minuteDue (s : State) (tile : Nat) : Option Nat :=
  let m := s.wt / (60 * 2 ^ 32)
  if s.runs 12 && decide (tget 0 s.alm.minAt tile < m + 1) then some m else none

/-- R128: a sweep that is due runs before anything else that its tile commits. -/
def State.minuteFirst (tile : Nat) (s : State) : State :=
  match s.minuteDue tile with
  | some m => s.adaptSweep tile m
  | none => s

/-- R128: as `State.minuteFirst`, of every tile. -/
def State.minutesFirst (s : State) : State := (List.range 64).foldl (fun s k => s.minuteFirst k) s

/-! What the point and alarm commands share. -/

/-- R128: what comes before a command at `t` that its tile commits; `i` above every index: a command for many tiles. -/
def State.turn (t i : Nat) (s : State) : State :=
  let s1 := s.at_ t
  if i < 2 ^ 23 then (if (s1.minuteDue (tileOf i)).isSome then s1.minuteFirst (tileOf i) else s)
  else if (List.range 64).any fun k => (s1.minuteDue k).isSome then s1.minutesFirst else s

/-- R61, R128, R176: a command for a point at `t` is served when no earlier update of the point waits for its tile and the sector
stage has room for what it changes, after a sweep that is due. -/
def State.inTurn (t i : Nat) (s : State) (f : State → State) : State :=
  if s.updWaits i || s.stageFull then s else f (s.turn t i)

/-- R542: a point that is CLASSED or an OUTPUT point. -/
def classedOut (p : Rec 128) : Bool := fbit Pt.CLASSED p || fget Pt.KIND p == kOutput

/-- R109: an effect that always completes, with SPILLED where a timer that it starts spills. -/
def spillWith (res : State → Nat) (f : State → State) (s : State) : Option Reply × State :=
  let s' := f s
  (some ⟨if s.alm.spills < s'.alm.spills then 7 else 0, 0, res s'⟩, s')

/-- R541, R550: the checks of a command whose object is the point tag at 0x08. `ready`: the point accepts it; `live`: it
changes the point's value, quality or alarm state; `more`: further operands at fault. -/
def State.tagSpec (s : State) (op : Nat) (c : Cmd) (twins : List Nat) (sec live : Bool) (ready : Rec 128 → Bool)
    (more : Rec 128 → List (Bool × Nat)) : Spec :=
  let p := s.pt (tagIdx (c.d 8))
  let ok := s.tagOk (c.d 8)
  { op := op, secObj := sec && ok && classedOut p, notReady := ok && (!ready p || (live && fbit Pt.SHADOW p)), twins := twins
    cnt := Reg.PNT_TWIN_CNT.COUNT, obj := c.d 8, fault := faultAt ((!ok, 8) :: more p) }

/-! Configuration. -/

/-- R547: the configuration that the buffer of PNT_CONFIG gives. -/
def State.basicCfg (s : State) (i : Nat) (c : Cmd) : PtCfg :=
  let mask := c.bw 0x38 % 2 ^ 16
  let w (k v : Nat) : Nat := v * 2 ^ (32 * k)
  let n := w 0 (c.bw 0x08) + w 1 (c.bw 0x0C) + w 2 (c.bw 0x10) + w 3 (c.bw 0x14) + w 4 (mask + c.bw 0x34 % 2 ^ 16 * 2 ^ 16) +
    w 6 (c.bw 0x18) + w 7 (c.bw 0x1C) + w 8 (c.bw 0x20) + w 9 (c.bw 0x24) + w 10 (c.bw 0x28) + w 11 (c.bw 0x2C) +
    w 12 (c.bw 0x30 % 2 ^ 25)
  let p : Rec 128 := BitVec.ofNat 1024 n
  let disc := fget Pt.KIND p == kDiscrete
  let old := s.pt i
  let keeps := fget Pt.KIND old != kNone && !fbit Pt.EXPERT old
  let one (k : Nat) : Rec 64 :=
    let dir := if k == 4 && !disc then (c.bw 0x34 >>> 16) % 4 else 0
    let r := Cond.putLimit (if disc || 5 < k then 0 else c.bw (0x40 + 8 * k))
      (Cond.putCtrl (ctrlWord k 0 ((c.bw 0x38 >>> (16 + k)) % 2) 0 dir) 0)
    fput Cond.REF_IDX (if k == 5 && !disc then c.bw 0x3C else 0) r
  let x (k : Nat) : Rec 16 := match s.condOf i k with
    | some q => if keeps then s.condX q else 0
    | none => 0
  { expert := false, p := p, conds := (maskSlots mask).map fun k => (k, (s.deriveCond p k (one k) (x k)).1) }

/-- R548: the configuration that the buffer of PNT_CONFIG_EXPERT gives; also a REPL_CONFIG entry's. -/
def expertCfg (half : Nat) (recs : Nat) : PtCfg :=
  let p : Rec 128 := BitVec.ofNat 1024 (half % 2 ^ 512)
  let slots := maskSlots (fget Pt.COND_MASK p)
  let disc := fget Pt.KIND p == kDiscrete
  let one (pos k : Nat) : Rec 64 :=
    let r : Rec 64 := BitVec.ofNat 512 (recs >>> (512 * pos))
    let r := fput Cond.SLOT k r
    if k == 5 && !disc then r else fput Cond.REF_IDX 0 r
  { expert := true, p := p, conds := (slots.zip (List.range slots.length)).map fun q => (q.1, one q.2 q.1) }

/-- The effect of a checked configuration command (R541, R549): BUSY, or the commit and the record for the standby. -/
def configBody (i : Nat) (e : State → PtCfg) (s : State) : Option Reply × State :=
  let old := s.pt i
  if fbit Pt.SHADOW old || (fget Pt.KIND old == kOutput && fbit Pt.LOOP_OWNED old) then (some (Reply.of 6), s)
  else
    let e := e s
    let base := if e.expert then fget Pt.COND_BASE e.p else (s.allotConds i (fget Pt.COND_MASK e.p)).getD 0
    spillWith (fun s => fget Pt.COND_BASE (s.pt i)) (fun s =>
      let s := (s.commitPoint i base e false 0).dirtyHost
      s.replConfig i false) s

/-- The checks of a configuration command. -/
def State.configSpec (s : State) (op : Nat) (c : Cmd) (need : Nat) (btwins : List Nat) (e : PtCfg) : Spec :=
  let tag := c.bw 0 + c.bw 4 * 2 ^ 32
  let i := tagIdx tag
  let ok := s.tagOk tag
  let read := !decide (c.bufLen < need) && !c.dmaErr
  { op := op, secObj := read && ok && (classedOut (s.pt i) || classedOut e.p), cnt := Reg.PNT_TWIN_CNT.COUNT, obj := tag
    hbm := if !read then [] else if op == 0x10 then [hbmPt i]
      else hbmPt i :: ((List.range e.conds.length).map fun k => hbmCond (fget Pt.COND_BASE e.p + k)).flatten
    btwins := btwins, need := need, bfault := if !ok then some 0 else firstFault (s.cfgFaults i e) }

/-- The checks of PNT_CONFIG (R547, R549). -/
def specPntConfig (c : Cmd) : State → Spec :=
  let i := tagIdx (c.bw 0)
  fun s =>
    s.configSpec 0x10 c 128 [0x08, 0x40, 0x48, 0x50, 0x58, 0x60, 0x68] (s.basicCfg i c)

/-- The effect of PNT_CONFIG (R547, R549). -/
def bodyPntConfig (c : Cmd) : State → Option Reply × State :=
  let i := tagIdx (c.bw 0)
  (configBody i fun s => s.basicCfg i c)

/-- PNT_CONFIG (R547, R549). -/
def execPntConfig (t : Nat) (c : Cmd) (s : State) : Host.Outcome State Fault Refusal :=
  let i := tagIdx (c.bw 0)
  (s.inTurn t i fun s => s.command t (specPntConfig c) c (bodyPntConfig c)).done

/-- The checks of PNT_CONFIG_EXPERT (R548, R549). -/
def specPntConfigExpert (c : Cmd) : State → Spec :=
  let e := expertCfg (c.inp >>> 128) (c.inp >>> 640)
  let n := e.conds.length
  let twins := 0x10 :: ((List.range n).map fun k => [0x00, 0x08, 0x10, 0x18, 0x20].map fun o => 0x50 + 64 * k + o).flatten
  fun s => s.configSpec 0x11 c (80 + 64 * n) twins e

/-- The effect of PNT_CONFIG_EXPERT (R548, R549). -/
def bodyPntConfigExpert (c : Cmd) : State → Option Reply × State :=
  let i := tagIdx (c.bw 0)
  let e := expertCfg (c.inp >>> 128) (c.inp >>> 640)
  (configBody i fun _ => e)

/-- PNT_CONFIG_EXPERT (R548, R549). -/
def execPntConfigExpert (t : Nat) (c : Cmd) (s : State) : Host.Outcome State Fault Refusal :=
  let i := tagIdx (c.bw 0)
  (s.inTurn t i fun s => s.command t (specPntConfigExpert c) c (bodyPntConfigExpert c)).done

/-- R550: what names a point so that it may not be deleted. -/
def State.pointNamed (s : State) (i : Nat) : Bool :=
  let p := s.pt i
  let cs := (s.slotsOf i).map Prod.snd
  let causes := s.sec.cause.filter fun e => fbit Cause.VALID e.2
  fbit Pt.VOTE_EN p || isVote p ||
    (causes.any fun e => (!fbit Cause.MIRROR e.2 && cs.contains (fget Cause.CAUSE e.2)) || (s.effects e.1).any cs.contains) ||
    (s.cmw.bnd.any fun e => fbit Bnd.VALID e.2 && fget Bnd.POINT e.2 == i) ||
    (s.cmw.defs.any fun e => fbit Cap.VALID e.2 && fget Cap.TRIG_KIND e.2 == 0 && cs.contains (fget Cap.TRIG e.2)) ||
    (s.pts.rec_.any fun e => e.1 != i && fget Pt.KIND e.2 == kDerived && !fbit Pt.SRC_CMW e.2 &&
      (formUses (fget Pt.FORM e.2)).any fun k => fget ([Pt.OPA, Pt.OPB, Pt.OPC].getD k Pt.OPA) e.2 == i) ||
    (s.pts.rec_.any fun e => e.1 != i && fget Pt.KIND e.2 != kDiscrete &&
      (slotList e.2).any fun k => k.1 == 5 && fget Cond.REF_IDX (s.cond k.2) == i)

/-- The checks of PNT_DELETE (R550). -/
def specPntDelete (c : Cmd) : State → Spec :=
  fun s => s.tagSpec 0x12 c [] true false (fun _ => true) fun _ => []

/-- The effect of PNT_DELETE (R550). -/
def bodyPntDelete (c : Cmd) : State → Option Reply × State :=
  let i := tagIdx (c.d 8)
  fun s =>
    let p := s.pt i
    if fget Pt.KIND p == kNone then (some Reply.ok, s)
    else if fbit Pt.SHADOW p || (fget Pt.KIND p == kOutput && fbit Pt.LOOP_OWNED p) || s.pointNamed i then (some (Reply.of 6), s)
    else
      let s := s.replConfig i true
      (some Reply.ok, (s.dropPoint i).dirtyHost)

/-- PNT_DELETE (R550). -/
def execPntDelete (t : Nat) (c : Cmd) (s : State) : Host.Outcome State Fault Refusal :=
  let i := tagIdx (c.d 8)
  (s.inTurn t i fun s => s.command t (specPntDelete c) c (bodyPntDelete c)).done

/-- The checks of PNT_READ (R550). -/
def specPntRead (c : Cmd) : State → Spec :=
  let i := tagIdx (c.d 8)
  fun s =>
    { s.tagSpec 0x13 c [] false false (fun _ => true) (fun _ => []) with
      need := 128 + 80 * (s.slotsOf i).length
      hbm := hbmPt i :: ((s.slotsOf i).map fun k => hbmCond k.2).flatten }

/-- The effect of PNT_READ (R550). -/
def bodyPntRead (c : Cmd) : State → Option Reply × State :=
  let i := tagIdx (c.d 8)
  fun s =>
      let s := s.condGuard i s.wt
      let l := s.slotsOf i
      let n := l.length
      let cs := l.foldr (fun k v => (s.cond k.2).toNat + v * 2 ^ 512) 0
      let xs := l.foldr (fun k v => (s.condX k.2).toNat + v * 2 ^ 128) 0
      (some ⟨0, 0, n⟩, s.bufPut c (128 + 80 * n) ((s.pt i).toNat + cs * 2 ^ 1024 + xs * 2 ^ (1024 + 512 * n)))

/-- PNT_READ (R550): the record, the condition records, the extension records. -/
def execPntRead (t : Nat) (c : Cmd) (s : State) : Host.Outcome State Fault Refusal :=
  (s.command t (specPntRead c) c (bodyPntRead c)).done

/-! Forcing and simulation (R53, R55 to R57, R67, R124). -/

/-- A change of a point that is not an update is evaluated and passed on; `fresh`: its value counts as applied (R124). The
rate is left as it is (R96). -/
def State.ownChange (i : Nat) (fresh : Bool) (s : State) : State :=
  let nr := s.alm.noRate
  let s := (s.requal i).evalPoint i fresh s.wt s.wt
  let s := if fresh then s.onAlm fun a => { a with noRate := nr } else s
  let s := if fresh then s.outPass i s.wt s.wt else s
  ((s.replState i).toVote i s.wt).speedPoint i

/-- R41, R55, R56: a command gives a point its value; no update, so PREV_VALUE stays. -/
def State.setValue (i v : Nat) (s : State) : State :=
  if s.kind i == kDiscrete || s.kind i == kCounter then s.modPt i (Pt.store v) else s.storeFloat i v

/-- The checks of PNT_FORCE (R53, R55, R550). -/
def specPntForce (c : Cmd) : State → Spec :=
  let v := c.w 0x10
  fun s =>
    s.tagSpec 0x14 c [0x10] true true (fun p => fget Pt.KIND p != kNone) fun p => [(badValue p v, 0x10)]

/-- The effect of PNT_FORCE (R53, R55, R550). -/
def bodyPntForce (c : Cmd) : State → Option Reply × State :=
  let i := tagIdx (c.d 8)
  let v := c.w 0x10
  (spillWith (fun _ => 0) fun s =>
        let s := (s.setValue i v).modPt i fun p =>
          fput Pt.STALE_AGE 0 (fput Pt.FORCE_VALUE_N (fget Pt.VALUE_N p) (fput Pt.FORCE_VALUE (fget Pt.VALUE p) p))
        (s.modPx i fun x => ((x.setOwn 4 true).setOwn 8 false).setOwn 2 false).ownChange i true)

/-- PNT_FORCE (R53, R55, R550). -/
def execPntForce (t : Nat) (c : Cmd) (s : State) : Host.Outcome State Fault Refusal :=
  let i := tagIdx (c.d 8)
  (s.inTurn t i fun s => s.command t (specPntForce c) c (bodyPntForce c)).done

/-- R55, R56: a forcing or simulation ends: VALUE stays, STALE is set until the next update. -/
def State.unforce (i bit : Nat) (s : State) : State :=
  (s.modPx i fun x => (x.setOwn bit false).setOwn 2 true).ownChange i false

/-- The checks of PNT_UNFORCE (R55, R550). -/
def specPntUnforce (c : Cmd) : State → Spec :=
  fun s =>
    s.tagSpec 0x15 c [] true true (fun p => fget Pt.KIND p != kNone) fun _ => []

/-- The effect of PNT_UNFORCE (R55, R550). -/
def bodyPntUnforce (c : Cmd) : State → Option Reply × State :=
  let i := tagIdx (c.d 8)
  (spillWith (fun _ => 0) fun s => if (s.px i).own / 4 % 2 == 1 then s.unforce i 4 else s)

/-- PNT_UNFORCE (R55, R550). -/
def execPntUnforce (t : Nat) (c : Cmd) (s : State) : Host.Outcome State Fault Refusal :=
  let i := tagIdx (c.d 8)
  (s.inTurn t i fun s => s.command t (specPntUnforce c) c (bodyPntUnforce c)).done

/-- R56: a simulated value is stored. -/
def State.simStore (i v : Nat) (s : State) : State :=
  ((s.setValue i v).modPx i fun x => (x.setOwn 8 true).setOwn 2 false).ownChange i true

/-- The checks of PNT_SIM_START (R56, R550). -/
def specPntSimStart (c : Cmd) : State → Spec :=
  let v := c.w 0x10
  fun s =>
    s.tagSpec 0x16 c [0x10] true true (fun p => fget Pt.KIND p != kNone) fun p => [(badValue p v, 0x10)]

/-- The effect of PNT_SIM_START (R56, R550). -/
def bodyPntSimStart (c : Cmd) : State → Option Reply × State :=
  let i := tagIdx (c.d 8)
  let v := c.w 0x10
  fun s =>
      if (s.px i).own / 4 % 2 == 1 then (some (Reply.of 6), s) else spillWith (fun _ => 0) (State.simStore i v) s

/-- PNT_SIM_START (R56, R550). -/
def execPntSimStart (t : Nat) (c : Cmd) (s : State) : Host.Outcome State Fault Refusal :=
  let i := tagIdx (c.d 8)
  (s.inTurn t i fun s => s.command t (specPntSimStart c) c (bodyPntSimStart c)).done

/-- The checks of PNT_SIM_VALUE (R56, R550). -/
def specPntSimValue (c : Cmd) : State → Spec :=
  let i := tagIdx (c.d 8)
  let v := c.w 0x10
  fun s =>
    s.tagSpec 0x17 c [0x10] true true (fun p => fget Pt.KIND p != kNone && (s.px i).own / 8 % 2 == 1) fun p =>
      [(badValue p v, 0x10)]

/-- The effect of PNT_SIM_VALUE (R56, R550). -/
def bodyPntSimValue (c : Cmd) : State → Option Reply × State :=
  let i := tagIdx (c.d 8)
  let v := c.w 0x10
  (spillWith (fun _ => 0) (State.simStore i v))

/-- PNT_SIM_VALUE (R56, R550). -/
def execPntSimValue (t : Nat) (c : Cmd) (s : State) : Host.Outcome State Fault Refusal :=
  let i := tagIdx (c.d 8)
  (s.inTurn t i fun s => s.command t (specPntSimValue c) c (bodyPntSimValue c)).done

/-- The checks of PNT_SIM_END (R56, R550). -/
def specPntSimEnd (c : Cmd) : State → Spec :=
  let i := tagIdx (c.d 8)
  fun s =>
    s.tagSpec 0x18 c [] true true (fun p => fget Pt.KIND p != kNone && (s.px i).own / 8 % 2 == 1) fun _ => []

/-- The effect of PNT_SIM_END (R56, R550). -/
def bodyPntSimEnd (c : Cmd) : State → Option Reply × State :=
  let i := tagIdx (c.d 8)
  (spillWith (fun _ => 0) (State.unforce i 8))

/-- PNT_SIM_END (R56, R550). -/
def execPntSimEnd (t : Nat) (c : Cmd) (s : State) : Host.Outcome State Fault Refusal :=
  let i := tagIdx (c.d 8)
  (s.inTurn t i fun s => s.command t (specPntSimEnd c) c (bodyPntSimEnd c)).done

/-! Outputs, resets, vote sets. -/

/-- R403: a LOOP_OUT frame for the actuator point of an OUTPUT point; `node`, `idx`: its destination. -/
def State.loopOut (node idx v t loop : Nat) (s : State) : Bool × State :=
  s.originate { src := 131, cls := 2, ptype := 0x20, dst := some node, twin := true, len := 64
                payload := mkTag node idx + v * 2 ^ 64 + twinOf v * 2 ^ 96 + t * 2 ^ 128 + loop % 2 ^ 12 * 2 ^ 192 }

/-- The checks of PNT_OUTPUT (R50, R262, R550). -/
def specPntOutput (c : Cmd) : State → Spec :=
  let v := c.w 0x10
  fun s =>
    s.tagSpec 0x19 c [0x10] false true (fun _ => true) fun p => [(fget Pt.KIND p != kOutput, 0x08),
      (!(ffinite f32 v && fle f32 (fget Pt.EU_LO p) v && fle f32 v (fget Pt.EU_HI p)), 0x10)]

/-- The effect of PNT_OUTPUT (R50, R262, R550). -/
def bodyPntOutput (c : Cmd) : State → Option Reply × State :=
  let i := tagIdx (c.d 8)
  let v := c.w 0x10
  fun s =>
      if fbit Pt.LOOP_OWNED (s.pt i) then (some (Reply.of 6), s)
      else spillWith (fun _ => 0) (fun s =>
        let s := s.applyUpdate ⟨i, v, twinOf v, false, 0, s.wt, s.node, s.wt, 0⟩
        let p := s.pt i
        if fget Pt.DEST_TYPE p == 1 then (s.loopOut (fget Pt.DEST_NODE p) (fget Pt.DEST_INDEX p) (fget Pt.VALUE p) s.wt 0).2
        else s) s

/-- PNT_OUTPUT (R50, R262, R550). -/
def execPntOutput (t : Nat) (c : Cmd) (s : State) : Host.Outcome State Fault Refusal :=
  let i := tagIdx (c.d 8)
  (s.inTurn t i fun s => s.command t (specPntOutput c) c (bodyPntOutput c)).done

/-- The checks of PNT_RESET (R47, R550). -/
def specPntReset (c : Cmd) : State → Spec :=
  fun s =>
    s.tagSpec 0x1A c [] true true (fun _ => true) fun p =>
      [(!(fget Pt.KIND p == kDerived && !fbit Pt.SRC_CMW p && (fget Pt.FORM p == 21 || fget Pt.FORM p == 27)), 0x08)]

/-- The effect of PNT_RESET (R47, R550). -/
def bodyPntReset (c : Cmd) : State → Option Reply × State :=
  let i := tagIdx (c.d 8)
  (spillWith (fun _ => 0) fun s =>
        let inp := s.formInputs i
        let y := if fget Pt.FORM (s.pt i) == 21 then 0 else inp.1.getD 0 0
        let s := s.modPt i (fput Pt.AUX y)
        if (s.px i).overridden then s else s.applyResult i (some y) false inp.2 s.wt)

/-- PNT_RESET (R47, R550). -/
def execPntReset (t : Nat) (c : Cmd) (s : State) : Host.Outcome State Fault Refusal :=
  let i := tagIdx (c.d 8)
  (s.inTurn t i fun s => s.command t (specPntReset c) c (bodyPntReset c)).done

/-- R66: a member of a set to be bound to vote point `vi`. -/
def State.memberOk (s : State) (vi m lo hi : Nat) : Bool :=
  let p := s.pt m
  idxOk m && m != vi && fget Pt.KIND p == kAnalog && (!fbit Pt.VOTE_EN p || fget Pt.VOTE_IDX p == vi) &&
    fget Pt.EU_LO p == lo && fget Pt.EU_HI p == hi

/-- R33, R66: a record's vote link and form changed by the binding command. -/
def State.reseal (i : Nat) (f : Rec 128 → Rec 128) (s : State) : State :=
  let s := s.modPt i fun p => Pt.seal (fput Pt.CFG_GEN (fget Pt.CFG_GEN p + 1) (f p))
  s.replConfig i false

/-- The checks of PNT_VOTE_BIND (R66, R550). -/
def specPntVoteBind (c : Cmd) : State → Spec :=
  let vi := tagIdx (c.d 8)
  let form := c.f 0x10 0 5
  let a := c.f 0x14 0 23
  let b := c.f 0x18 0 23
  let d := c.f 0x1C 0 23
  let k := c.w 0x20
  fun s =>
    s.tagSpec 0x1B c [] true false (fun _ => true) fun p =>
      let lo := fget Pt.EU_LO (s.pt a)
      let hi := fget Pt.EU_HI (s.pt a)
      [(!(fget Pt.KIND p == kDerived && !fbit Pt.SRC_CMW p) || fbit Pt.VOTE_EN p || (form == 0 && !isVote p), 0x08),
       (!(form == 0 || form == 14 || form == 15), 0x10)] ++
      (if form == 0 then []
        else [(!s.memberOk vi a lo hi, 0x14), (!s.memberOk vi b lo hi || a == b, 0x18),
          (if form == 15 then !s.memberOk vi d lo hi || a == d || b == d else d != 0, 0x1C),
          (!ffinite f32 k || flt f32 k 0, 0x20)])

/-- The effect of PNT_VOTE_BIND (R66, R550). -/
def bodyPntVoteBind (c : Cmd) : State → Option Reply × State :=
  let vi := tagIdx (c.d 8)
  let form := c.f 0x10 0 5
  let a := c.f 0x14 0 23
  let b := c.f 0x18 0 23
  let d := c.f 0x1C 0 23
  let k := c.w 0x20
  fun s =>
      let was := if isVote (s.pt vi) then s.voteMembers vi else []
      if fbit Pt.SHADOW (s.pt vi) then (some (Reply.of 6), s)
      else
        let ms := if form == 0 then [] else if form == 15 then [a, b, d] else [a, b]
        let s := (was.filter fun m => !ms.contains m).foldl (fun s m => s.reseal m (fput Pt.VOTE_EN 0)) s
        let s := ms.foldl (fun s m => s.reseal m fun p => fput Pt.VOTE_EN 1 (fput Pt.VOTE_IDX vi p)) s
        let s := s.reseal vi fun p =>
          if form == 0 then fput Pt.FORM 0 p
          else fput Pt.K k (fput Pt.OPC d (fput Pt.OPB b (fput Pt.OPA a (fput Pt.FORM form p))))
        let s := s.modPx vi fun x =>
          { x with outlier := 0, degraded := false, pair := none, disputed := x.disputed / 2 * 2, hasPrev := false }
        (some Reply.ok, (s.requal vi).dirtyHost)

/-- PNT_VOTE_BIND (R66, R550). -/
def execPntVoteBind (t : Nat) (c : Cmd) (s : State) : Host.Outcome State Fault Refusal :=
  let vi := tagIdx (c.d 8)
  (s.inTurn t vi fun s => s.command t (specPntVoteBind c) c (bodyPntVoteBind c)).done

/-! Profiles (R83, R84). -/

/-- R84: a profile's four words break a rule: its first word at fault. -/
def profileFault (ctrl delay onmax prio : Nat) : Option Nat :=
  let hyst := ctrl / 2 ^ 8 % 256
  let chatter := ctrl / 2 ^ 16 % 256
  let hmax := ctrl / 2 ^ 24 % 256
  let max_ := onmax % 2 ^ 16
  if chatter == 0 || hmax < hyst then some 0
  else if 36000 < max_ || max_ * 100 < delay % 2 ^ 16 then some 2
  else if (List.range 7).any fun k => 4 < prio / 2 ^ (3 * k) % 8 then some 3
  else none

/-- The checks of PNT_PROFILE_WRITE (R84, R550). -/
def specPntProfileWrite (c : Cmd) : State → Spec :=
  let n := c.f 0x10 0 7
  fun _ =>
    { op := 0x1C, twins := [0x18, 0x20, 0x28, 0x30], cnt := Reg.PNT_TWIN_CNT.COUNT, obj := n
      fault := if n < 64 then some (Reply.range 0x10)
        else (profileFault (c.w 0x18) (c.w 0x20) (c.w 0x28) (c.w 0x30)).map fun k => Reply.range (0x18 + 8 * k) }

/-- The effect of PNT_PROFILE_WRITE (R84, R550). -/
def bodyPntProfileWrite (c : Cmd) : State → Option Reply × State :=
  let n := c.f 0x10 0 7
  (okWith fun s =>
      let o := 0x11000 + 16 * n
      ((((s.wr o (BitVec.ofNat 32 (c.w 0x18))).wr (o + 4) (BitVec.ofNat 32 (c.w 0x20))).wr (o + 8)
        (BitVec.ofNat 32 (c.w 0x28 % 2 ^ 16))).wr (o + 12) (BitVec.ofNat 32 (c.w 0x30 % 2 ^ 21))).aiFollow.dirtyHost)

/-- PNT_PROFILE_WRITE (R84, R550): the four words are judged as the end state. -/
def execPntProfileWrite (t : Nat) (c : Cmd) (s : State) : Host.Outcome State Fault Refusal :=
  (s.command t (specPntProfileWrite c) c (bodyPntProfileWrite c)).done

/-- The checks of PNT_PROFILE_READ (R550). -/
def specPntProfileRead (_c : Cmd) : State → Spec :=
  fun _ => { op := 0x1D }

/-- The effect of PNT_PROFILE_READ (R550). -/
def bodyPntProfileRead (c : Cmd) : State → Option Reply × State :=
  let o := 0x11000 + 16 * c.f 0x10 0 7
  fun s =>
    (some ⟨0, 0, (s.rd o).toNat + (s.rd (o + 4)).toNat * 2 ^ 32 + (s.rd (o + 8)).toNat * 2 ^ 64 + (s.rd (o + 12)).toNat * 2 ^ 96⟩, s)

/-- PNT_PROFILE_READ (R550). -/
def execPntProfileRead (t : Nat) (c : Cmd) (s : State) : Host.Outcome State Fault Refusal :=
  (s.command t (specPntProfileRead c) c (bodyPntProfileRead c)).done

end Sys2Proof.Machine
end

