-- ==== Sys2Proof/Machine/Alarms.lean ====
section
/-! DEFINITION. The alarm commands (R111 to R118, R544, R551 to R553) and what happens in the tiles by itself: updates, ticks,
delay timers, sweeps, suppression inputs, checks of records (R37, R61, R93, R94, R105 to R110, R114, R117, R128 to R131). -/

namespace Sys2Proof.Machine

/-! Targets of the alarm commands (R551). -/

/-- A sector names the point of a condition. -/
def State.condIn (s : State) (c : Nat) (p : Nat → Bool) : Bool :=
  let o := tget 0 s.alm.owner c
  o != 0 && (sectorsOf (s.pt (o - 1))).any p

/-- R551: the sectors of a watch, and of a scope. -/
def State.inScope (s : State) (c : Cmd) (n : Nat) : Bool :=
  if c.f 8 0 2 == 2 then n == c.f 0x10 0 16 else (fget Sect.WATCH_MASK (s.sect n) >>> c.f 0x10 0 8) % 2 == 1

/-- R551: the conditions that an alarm command reaches, in ascending order: point, slot, condition. -/
def State.almTargets (s : State) (c : Cmd) : List (Nat × Nat × Nat) :=
  let i := tagIdx (c.d 0x10)
  match c.f 8 0 2 with
  | 0 => match s.condOf i (c.f 0x18 0 4) with
    | some q => [(i, c.f 0x18 0 4, q)]
    | none => []
  | 1 => (s.slotsOf i).map fun k => (i, k.1, k.2)
  | _ => s.alm.owner.filterMap fun e =>
      if s.condIn e.1 (s.inScope c) && !fbit Pt.SHADOW (s.pt (e.2 - 1)) then some (e.2 - 1, s.slotOf e.1, e.1) else none

/-- The mirror entries that an acknowledgement of scope 2 or 3 reaches. -/
def State.ackMirrors (s : State) (c : Cmd) : List Nat :=
  if c.f 8 0 2 < 2 then []
  else (s.sec.mir.filter fun e => fbit Mir.VALID e.2 && s.inScope c (fget Mir.SECTOR e.2)).map Prod.fst

/-- R541, R551, R552: the checks of an alarm command; `scopes`: the highest scope; `bad`: a target that refuses. -/
def State.almSpec (s : State) (op scopes : Nat) (sec live : Bool) (c : Cmd) (bad : Nat → Bool) (more : List (Bool × Nat)) : Spec :=
  let tag := c.d 0x10
  let p := s.pt (tagIdx tag)
  let scope := c.f 8 0 2
  let named := decide (scope < 2) && !(op == 0x20 && c.f 8 2 1 == 1)
  let ok := s.tagOk tag
  { op := op, secObj := sec && named && ok && classedOut p, notReady := named && ok && live && fbit Pt.SHADOW p
    cnt := Reg.ALM_TWIN_CNT.COUNT, obj := tag
    fault := faultAt ([(decide (scopes < scope), 0x08), (named && !ok, 0x10),
      (named && scope == 0 && (s.almTargets c).isEmpty, 0x18),
      (named && (s.almTargets c).any fun k => bad k.2.2, 0x10)] ++ more) }

/-- Inputs to conditions, one after the other (R118, R119): point, slot, condition. Answers how many changed. -/
def State.inputs (l : List (Nat × Nat × Nat)) (f : Nat → Nat → Nat → State → State) (s : State) : Nat × State :=
  l.foldl (fun (a : Nat × State) k =>
    let old := (a.2.cs k.2.2).key
    let s := a.2.input k.1 a.2.wt (f k.1 k.2.1 k.2.2)
    let moved := (s.cs k.2.2).key != old
    (a.1 + b2n moved, if moved then s.replState k.1 else s)) (0, s)

/-- A command that gives an input to its targets and answers how many it reached. -/
def almBody (f : Cmd → Nat → Nat → Nat → State → State) (c : Cmd) (s : State) : Option Reply × State :=
  let l := s.almTargets c
  spillWith (fun _ => l.length) (fun s => (s.inputs l (f c)).2) s

/-- R168, R473: an acknowledgement forwarded to the home of a mirror entry. -/
def State.ackForward (e : Nat) (s : State) : State :=
  let r := s.mir e
  s.send { src := 130, cls := 1, ptype := 0x12, dst := some (tagNode (fget Mir.TAG r)), len := 64
           payload := 1 + (fget Mir.TAG r + fget Mir.SLOT r * 2 ^ 64) * 2 ^ 64 }

/-- The checks of ALM_ACK (R111, R114, R115, R552, R553). -/
def specAlmAck (c : Cmd) : State → Spec :=
  let mirror := c.f 8 0 2 == 0 && c.f 8 2 1 == 1
  let e := c.f 0x10 0 16
  fun s =>
    s.almSpec 0x20 3 false true c (fun _ => false) [(mirror && !fbit Mir.VALID (s.mir e), 0x10)]

/-- The effect of ALM_ACK (R111, R114, R115, R552, R553). -/
def bodyAlmAck (c : Cmd) : State → Option Reply × State :=
  let mirror := c.f 8 0 2 == 0 && c.f 8 2 1 == 1
  let e := c.f 0x10 0 16
  fun s =>
      if mirror then
        (none, (s.ackForward e).onSec fun x => { x with acks := x.acks ++ [(e, c.ring, c.tag, s.tim.now)] })
      else
        let l := s.almTargets c
        let ms := s.ackMirrors c
        let (n, s) := s.inputs l fun _ _ q s => s.modCs q CS.ack
        (some (Reply.with2 (l.length + ms.length) n), ms.foldl (fun s e => s.ackForward e) s)

/-- ALM_ACK (R111, R114, R115, R552, R553). -/
def execAlmAck (t : Nat) (c : Cmd) (s : State) : Host.Outcome State Fault Refusal :=
  let mirror := c.f 8 0 2 == 0 && c.f 8 2 1 == 1
  (s.inTurn t (if c.f 8 0 2 < 2 && !mirror then tagIdx (c.d 0x10) else 2 ^ 23) fun s => s.command t (specAlmAck c) c (bodyAlmAck c)).done

/-- R117: a condition that may not be shelved. -/
def State.noShelve (s : State) (q : Nat) : Bool :=
  (s.cs q).oos || (s.prio q == 0 && !s.rb Reg.ALM_CTRL.SHELVE_CRIT_EN)

/-- The checks of ALM_SHELVE (R114, R117, R118). -/
def specAlmShelve (c : Cmd) : State → Spec :=
  let d := c.f 0x1C 0 17
  fun s =>
    s.almSpec 0x21 1 true true c s.noShelve [(d == 0 || decide (s.rf Reg.ALM_SHELVE_MAX.SHELVE_MAX_S < d), 0x1C)]

/-- The effect of ALM_SHELVE (R114, R117, R118). -/
def bodyAlmShelve (c : Cmd) : State → Option Reply × State :=
  (almBody (fun c _ _ q s =>
      let s := (s.modCs q fun v => { v with shelve := true }).modCondX q (fput Ext.SHELVE_S (c.f 0x1C 0 17))
      (s.onAlm fun a => { a with shelvedAt := tset 0 a.shelvedAt q (s.wt + 1) }).dirtyHost) c)

/-- ALM_SHELVE (R114, R117, R118). -/
def execAlmShelve (t : Nat) (c : Cmd) (s : State) : Host.Outcome State Fault Refusal :=
  (s.inTurn t (tagIdx (c.d 0x10)) fun s => s.command t (specAlmShelve c) c (bodyAlmShelve c)).done

/-- R114: shelving ends. -/
def State.unshelve (q : Nat) (s : State) : State :=
  (s.modCs q fun v => { v with shelve := false }).modCondX q (fput Ext.SHELVE_S 0)

/-- The checks of ALM_UNSHELVE (R114). -/
def specAlmUnshelve (c : Cmd) : State → Spec :=
  fun s => s.almSpec 0x22 1 true true c (fun _ => false) []

/-- The effect of ALM_UNSHELVE (R114). -/
def bodyAlmUnshelve (c : Cmd) : State → Option Reply × State :=
  (almBody (fun _ _ _ q s => (s.unshelve q).dirtyHost) c)

/-- ALM_UNSHELVE (R114). -/
def execAlmUnshelve (t : Nat) (c : Cmd) (s : State) : Host.Outcome State Fault Refusal :=
  (s.inTurn t (tagIdx (c.d 0x10)) fun s => s.command t (specAlmUnshelve c) c (bodyAlmUnshelve c)).done

/-- The checks of ALM_OOS (R114). -/
def specAlmOos (c : Cmd) : State → Spec :=
  fun s => s.almSpec 0x23 1 true true c (fun _ => false) []

/-- The effect of ALM_OOS (R114). -/
def bodyAlmOos (c : Cmd) : State → Option Reply × State :=
  (almBody (fun _ _ _ q s =>
      (((s.delayStop q).modCs q CS.outOfService).modCondX q (fput Ext.SHELVE_S 0)).dirtyHost) c)

/-- ALM_OOS (R114). -/
def execAlmOos (t : Nat) (c : Cmd) (s : State) : Host.Outcome State Fault Refusal :=
  (s.inTurn t (tagIdx (c.d 0x10)) fun s => s.command t (specAlmOos c) c (bodyAlmOos c)).done

/-- R116: a condition returns to service. The next update yields no rate (R96). -/
def State.returnToService (i slot q : Nat) (s : State) : State :=
  let v := s.cs q
  if !v.oos then s
  else
    let s := s.setCs q { v with oos := false }
    let first (n : Nat) (s : State) : State :=
      s.onAlm fun a => { a with firstVal := tset 0 a.firstVal q n, noRate := tset 0 a.noRate q 1 }
    if v.qhold then first 0 s
    else if v.noval then first 2 s
    else ((first 2 s).evalCond i slot q true s.wt).onAlm fun a => { a with noRate := tset 0 a.noRate q 1 }

/-- The checks of ALM_RETURN (R114, R116). -/
def specAlmReturn (c : Cmd) : State → Spec :=
  fun s => s.almSpec 0x24 1 true true c (fun _ => false) []

/-- The effect of ALM_RETURN (R114, R116). -/
def bodyAlmReturn (c : Cmd) : State → Option Reply × State :=
  (almBody (fun _ i k q s => s.returnToService i k q) c)

/-- ALM_RETURN (R114, R116). -/
def execAlmReturn (t : Nat) (c : Cmd) (s : State) : Host.Outcome State Fault Refusal :=
  (s.inTurn t (tagIdx (c.d 0x10)) fun s => s.command t (specAlmReturn c) c (bodyAlmReturn c)).done

/-- The checks of ALM_COND_READ (R552). -/
def specAlmCondRead (c : Cmd) : State → Spec :=
  fun s =>
    { s.almSpec 0x25 0 false false c (fun _ => false) [] with
      need := if c.bufLen == 0 then 0 else 80
      hbm := if c.bufLen == 0 then [] else ((s.almTargets c).map fun k => hbmCond k.2.2).flatten }

/-- The effect of ALM_COND_READ (R552). -/
def bodyAlmCondRead (c : Cmd) : State → Option Reply × State :=
  fun s =>
      let s := (s.almTargets c).foldl (fun s k => s.condGuard k.1 s.wt) s
      match s.almTargets c with
      | (_, _, q) :: _ =>
        let r := s.cond q
        let x := s.condX q
        let w := fget Ext.K_ON x + fget Ext.K_HYST x * 2 ^ 8 + fget Ext.QUIET_MIN x * 2 ^ 16
        let res := fget Cond.CSTATE r + fget Cond.ON_DELAY r * 2 ^ 32 + fget Cond.HYST r * 2 ^ 64 + w * 2 ^ 96 + q * 2 ^ 128
        (some ⟨0, 0, res⟩, if c.bufLen == 0 then s else s.bufPut c 80 (r.toNat + x.toNat * 2 ^ 512))
      | [] => (some (Reply.range 0x18), s)

/-- ALM_COND_READ (R552). -/
def execAlmCondRead (t : Nat) (c : Cmd) (s : State) : Host.Outcome State Fault Refusal :=
  (s.command t (specAlmCondRead c) c (bodyAlmCondRead c)).done

/-- The checks of ALM_ADAPT_HOLD (R131, R552). -/
def specAlmAdaptHold (c : Cmd) : State → Spec :=
  fun s => s.almSpec 0x26 1 true true c (fun _ => false) []

/-- The effect of ALM_ADAPT_HOLD (R131, R552). -/
def bodyAlmAdaptHold (c : Cmd) : State → Option Reply × State :=
  (almBody (fun c _ _ q s =>
      (s.modCond q fun r => Cond.putCtrl (fget Cond.CCTRL (fput Cond.ADAPT_HOLD (c.f 0x1C 0 1) r)) r).dirtyHost) c)

/-- ALM_ADAPT_HOLD (R131, R552). -/
def execAlmAdaptHold (t : Nat) (c : Cmd) (s : State) : Host.Outcome State Fault Refusal :=
  (s.inTurn t (tagIdx (c.d 0x10)) fun s => s.command t (specAlmAdaptHold c) c (bodyAlmAdaptHold c)).done

/-! Updates (R31, R61, R93, R94). -/

/-- R89, R93, R94: a condition record as read, its bits `mask` upset. -/
def State.condRead (i slot mask : Nat) (img : Bool) (s : State) : State :=
  match s.condOf i slot with
  | none => s
  | some c => s.condCheck i img c (s.cond c ^^^ BitVec.ofNat 512 (mask % 2 ^ 384))

/-- R94: the conditions whose state is lost when they are read with their bits upset; each waits for the next update. -/
def State.condsLost (s : State) (i : Nat) (upset : List (Nat × Nat)) : List Nat :=
  upset.filterMap fun u => (s.condOf i u.1).bind fun c =>
    if Cond.stateOk (s.cond c ^^^ BitVec.ofNat 512 (u.2 % 2 ^ 384)) then none else some c

/-- R89: the condition records of a point are read for an update, some bits upset. -/
def State.condsRead (i t : Nat) (upset : List (Nat × Nat)) (img : Bool) (s : State) : State :=
  if upset.isEmpty then s else s.input i t fun s => upset.foldl (fun s u => s.condRead i u.1 u.2 img) s

/-- R31: a queue that is full no longer: withheld credit is given back. -/
def State.tileRoom (s : State) : State :=
  let free (o : Nat × Nat × List Nat) : Bool := !o.2.2.any s.tileFull
  let s := (s.pts.owed.filter free).foldl (fun s o => if s.rb (Reg.FAB_PORT.MODE o.1) then s else s.freeCoins o.1 4 o.2.1) s
  let left := s.pts.owed.filter fun o => !free o
  s.onPts fun x => { x with
    owed := left, fullAt := if x.queues.any fun q => decide (tileMax ≤ q.2.length) then x.fullAt else 0 }

/-- R94: the conditions `cs` are not evaluated while the update is applied at whose read their state was lost. -/
def State.condsWait (cs : List Nat) (on : Bool) (s : State) : State :=
  s.onAlm fun a => { a with dead := cs.foldl (fun t c => tmod 0 t c fun n => n % 2 + 2 * b2n on) a.dead }

/-- POINT_UPDATE_APPLY (R31, R61, R93, R94, R128, R176): tile `tile` takes the next update of its queue. `upset`: bits of the
point's condition records, by slot, that a fault has flipped; `img`: their retained copies are intact. -/
def execPointUpdateApply (t tile : Nat) (upset : List (Nat × Nat)) (img : Bool) (s : State) :
    Host.Outcome State Fault Refusal :=
  let s1 := s.at_ t
  match tget [] s1.pts.queues tile with
  | [] => s.done
  | u :: _ =>
    if !s1.runs 12 || s1.stageFull then s.done
    else
      let s1 := (s1.tilePop tile).minuteFirst tile
      let lost := s1.condsLost u.idx upset
      (((((s1.condsRead u.idx u.tSrc upset img).condsWait lost true).takeUpdate u).condsWait lost false).tileRoom).done

/-- SCAN_TICK (R46, R51, R59, R60, R97, R610, R621): the tick of the present millisecond. -/
def execScanTick (t : Nat) (s : State) : Host.Outcome State Fault Refusal :=
  let s1 := s.at_ t
  let k := ticksBy 1 s1.wt
  if !s1.runs 12 || k + 1 ≤ s1.pts.scanAt || s1.stageFull then s.done
  else (((s1.minutesFirst.onPts fun x => { x with scanAt := k + 1 }).scanTick k).localTicks (s1.tickPoints k) k).done

/-! Delay timers (R105 to R110). -/

/-- The delay timer of condition `c` expires at its due time. -/
def State.delayExpire (c : Nat) (s : State) : State :=
  let o := tget 0 s.alm.owner c
  if o == 0 then s.delayStop c else (s.delayFire (o - 1) c).replState (o - 1)

/-- A timer is that of a condition of a point that the Keeper evaluates. -/
def State.keeperTimer (s : State) (o : Nat) : Bool :=
  decide (o < 2 ^ 26) && tget 0 s.alm.owner o != 0 && s.keeperHas (tget 0 s.alm.owner o - 1)

/-- Timers of the tiles that may be served now, of owners that `p` selects: owner and the watch time of their tick. -/
def State.dueTimers (s : State) (p : Nat → Bool) : List (Nat × Nat) :=
  (s.alm.due.filter fun e => p e.1 && decide (e.2.2 ≤ s.wt) && !s.keeperTimer e.1).map fun e => (e.1, e.2.2)

/-- Of timers in ascending order of owner, one with the earliest tick. -/
def earliest (l : List (Nat × Nat)) : Option (Nat × Nat) :=
  l.foldl (fun m e => match m with
    | none => some e
    | some x => if e.2 < x.2 then some e else some x) none

/-- A timer is on the coarse wheel. -/
def State.isCoarse (s : State) (o : Nat) : Bool :=
  if o < 2 ^ 26 then fbit Cond.COARSE (s.cond o) else fbit Cause.COARSE (s.cause (o - 2 ^ 26))

/-- DELAY_TIMER_EXPIRE (R105, R106, R110, R128, R176): the next timer of a tile that is due, on either wheel: of those of its
earliest tick the one of the lowest condition. -/
def execDelayTimerExpire (t tile : Nat) (s : State) : Host.Outcome State Fault Refusal :=
  let s1 := s.at_ t
  match earliest (s1.dueTimers fun o => decide (o < 2 ^ 26) && condTile o == tile) with
  | some (c, _) => if s1.stageFull then s.done else ((s1.minuteFirst tile).delayExpire c).done
  | none => s.done

/-- R163, R166: a settle or release timer of a cause entry expires. -/
def State.causeExpire (n : Nat) (s : State) : State :=
  let mark := s.alm.seq
  let s := s.causeCancel n
  match fget Cause.CSTATE (s.cause n) with
  | 1 => (s.causeState n 2).fanOut n true mark
  | 3 => (s.causeState n 0).fanOut n false mark
  | _ => s

/-- R108: the coarse timers that expire when a slot is served at `tick`: those that its chain holds, in ascending owner number. -/
def State.slotTimers (s : State) (tick : Nat) : List Nat :=
  let chain := s.wheelOwners (wheelSlot tick)
  ((s.dueTimers fun o => s.isCoarse o && chain.contains o).filter fun e => e.2 == tick).map Prod.fst

/-- R110: the fine timers of a condition's tile that go before it at the tick of its coarse timer: due earlier, or at that tick
with a lower index. -/
def State.finesBefore (s : State) (c tick : Nat) : List (Nat × Nat) :=
  (s.dueTimers fun o => decide (o < 2 ^ 26) && condTile o == condTile c && !s.isCoarse o).filter fun e =>
    decide (e.2 < tick) || (e.2 == tick && decide (e.1 < c))

/-- R110: a coarse timer expires after the fine timers of its tile that go before it. -/
def State.coarseExpire (o tick : Nat) (s : State) : State :=
  if o < 2 ^ 26 then
    let s := s.minuteFirst (condTile o)
    ((s.finesBefore o tick).foldl (fun s _ => match earliest (s.finesBefore o tick) with
      | some e => s.delayExpire e.1
      | none => s) s).delayExpire o
  else s.causeExpire (o - 2 ^ 26)

/-- COARSE_SLOT_SERVE (R107, R108, R110, R128, R176): every timer of the earliest slot that is due. -/
def execCoarseSlotServe (t : Nat) (s : State) : Host.Outcome State Fault Refusal :=
  let s1 := s.at_ t
  match earliest (s1.dueTimers s1.isCoarse) with
  | some (_, tick) =>
    if s1.stageFull then s.done else ((s1.slotTimers tick).foldl (fun s o => s.coarseExpire o tick) s1).done
  | none => s.done

/-! Sweeps. -/

/-- R117: one condition (its point and its index) at the tick of second `sec`: its shelve time counts down, and ends. -/
def State.shelveCount (sec : Nat) (k : Nat × Nat) (s : State) : State :=
  let n := fget Ext.SHELVE_S (s.condX k.2)
  let at_ := tget 0 s.alm.shelvedAt k.2
  if n == 0 || (at_ != 0 && decide (ofS sec < at_ - 1 + ofS 1)) then s
  else
    let s := (s.modCondX k.2 (fput Ext.SHELVE_S (n - 1))).dirtyMod
    if n == 1 then (s.input k.1 (ofS sec) (State.unshelve k.2)).replState k.1 else s

/-- SHELVE_SWEEP (R117): a tile's sweep of the present whole second. -/
def execShelveSweep (t tile : Nat) (s : State) : Host.Outcome State Fault Refusal :=
  let s1 := s.at_ t
  let sec := s1.wt / 2 ^ 32
  if !s1.runs 12 || sec + 1 ≤ tget 0 s1.alm.secAt tile || s1.stageFull then s.done
  else
    let s1 := (s1.minuteFirst tile).onAlm fun a => { a with secAt := tset 0 a.secAt tile (sec + 1) }
    ((s1.tileConds tile).foldl (fun s k => s.shelveCount sec k) s1).done

/-- ADAPT_SWEEP (R128 to R131): a tile's sweep of the present whole minute. -/
def execAdaptSweep (t tile : Nat) (s : State) : Host.Outcome State Fault Refusal :=
  let s1 := s.at_ t
  if s1.stageFull then s.done
  else match s1.minuteDue tile with
  | some m => (s1.adaptSweep tile m).done
  | none => s.done

/-! Suppression inputs (R114, R164, R166). -/

/-- SUPPRESSION_INPUT (R114, R164, R166): the next input of the sector stage reaches its tile. -/
def execSuppressionInput (t : Nat) (s : State) : Host.Outcome State Fault Refusal :=
  let s1 := s.at_ t
  match s1.sec.supIn with
  | [] => s.done
  | (c, on, mark) :: q =>
    if s1.stageFull then s.done else
    let s1 := (s1.minuteFirst (condTile c)).onSec fun x => { x with supIn := q }
    let o := tget 0 s1.alm.owner c
    if o == 0 then s1.done
    else
      let s1 := if on && decide (mark < tget 0 s1.alm.actSeq c) then s1.bump Reg.SEC_EARLY_EFFECT_CNT.COUNT else s1
      let s1 := s1.input (o - 1) s1.wt fun s => s.modCs c fun v => { v with suppr := on }
      (s1.replState (o - 1)).done

/-! The scrub of point records (R37). -/

/-- POINT_RECORD_SCRUB (R37): the check of point `i`'s configuration half, of which a fault has flipped the bits `flips`, 60 s
after the last one; `img`: the retained copy is intact. -/
def execPointRecordScrub (t i flips : Nat) (img : Bool) (s : State) : Host.Outcome State Fault Refusal :=
  let s1 := s.at_ t
  let s1 := s1.modPt i fun p => fput Pt.CFG (fget Pt.CFG p ^^^ (flips % 2 ^ 512)) p
  if !s1.scrubDue (tget 0 s1.pts.scrubAt i) then s1.done
  else
    let s1 := s1.onPts fun p => { p with scrubAt := tset 0 p.scrubAt i (s1.tim.now + 1) }
    if cfgIntact (fget Pt.CFG (s1.pt i)) then s1.done
    else
      let kept := ((afind s1.inUse.pts i).map BitVec.toNat).getD (fget Pt.CFG Pt.factory)
      let ok := img && cfgIntact kept
      let s1 := (s1.bump Reg.PNT_CFG_CRC_CNT.COUNT).raise Ev.PNT_CFG_CORRUPT (s1.tagOf i) [b2n (!ok)]
      if ok then (s1.modPt i (fput Pt.CFG kept)).done
      else ((s1.modPx i fun x => { x with unconf := x.unconf / 2 * 2 + 1 }).requal i).done

end Sys2Proof.Machine
end

