-- ==== Sys2Proof/Machine/Backup.lean ====
section
/-! DEFINITION. The backup domain's rows that no register access gives (R733 to R755). -/

namespace Sys2Proof.Machine

/-- BACKUP_SWITCHOVER (R733, R734): the domain's supply follows the Lightship domain's. -/
def execBackupSwitchover (t : Nat) (s : State) : Host.Outcome State Fault Refusal :=
  let s1 := s.at_ t
  if s1.pwr.lshipUp then (s1.wf Reg.BKP_STAT.ON_VBAK 0).done
  else if s1.rb Reg.BKP_STAT.ON_VBAK then s1.done
  else
    let s1 := (s1.wf Reg.BKP_STAT.ON_VBAK 1).bump Reg.BKP_SWO_CNT.COUNT
    let stamped := !s1.rb Reg.BKP_STAT.SWO
    let s1 := if !stamped then s1
      else
        let s1 := s1.rtcNow
        let c := s1.bkp.rtc
        (((s1.wf Reg.BKP_SWO_SUB.SUB (rtcSub c)).wf Reg.BKP_SWO_SEC_LO.SEC (rtcSec c)).wf Reg.BKP_SWO_SEC_HI.SEC
          (rtcSec c / 2 ^ 32)).wf Reg.BKP_STAT.SWO 1
    let sec := s1.rf Reg.BKP_SWO_SEC_LO.SEC + s1.rf Reg.BKP_SWO_SEC_HI.SEC * 2 ^ 32
    let sub := s1.rf Reg.BKP_SWO_SUB.SUB
    (s1.bkpRaise Ev.BKP_SWITCHOVER sec [sub, s1.rf Reg.BKP_SWO_CNT.COUNT]
      (if stamped then rtcWt (sec * 32768 + sub) + 1 else 0)).done

/-- VBAK_MEASURE (R735): `mv` is what the measurement reads. -/
def execVbakMeasure (t : Nat) (mv : Nat) (s : State) : Host.Outcome State Fault Refusal :=
  let s1 := s.at_ t
  if !s1.pwr.lshipUp || s1.tim.now < s1.bkp.vbakNext then s.done
  else
    let lo := if mv < 2200 then s1.bkp.vbakLow + 1 else 0
    let hi := if 2300 ≤ mv then s1.bkp.vbakHigh + 1 else 0
    let s1 := (s1.wf Reg.BKP_VBAK_MV.MV (min mv 4095)).onBkp fun b =>
      { b with vbakLow := lo, vbakHigh := hi, vbakNext := s1.tim.now + ofS 60 }
    (if 3 ≤ lo && !s1.rb Reg.BKP_STAT.VBAK_LOW then
      (s1.wf Reg.BKP_STAT.VBAK_LOW 1).bkpRaise Ev.BKP_VBAK_LOW 0 [mv] 0
    else if 3 ≤ hi then s1.wf Reg.BKP_STAT.VBAK_LOW 0 else s1).done

/-- BACKUP_POR (R736): the supply fell below 1.8 V and is back. -/
def execBackupPor (t : Nat) (s : State) : Host.Outcome State Fault Refusal := ((s.at_ t).bkpPor).done

/-- CRYSTAL_FAIL (R751): no crystal edge for 1 ms. -/
def execCrystalFail (t : Nat) (s : State) : Host.Outcome State Fault Refusal :=
  let s1 := (s.at_ t).rtcNow
  if s1.rb Reg.BKP_STAT.OSC_FAIL then s.done
  else (((s1.wf Reg.BKP_STAT.OSC_FAIL 1).wf Reg.BKP_STAT.OSC_STOP 1).bkpRaise Ev.BKP_OSC_STOP 0 [0] 0).done

/-- CRYSTAL_RETURN (R751): the crystal runs again. -/
def execCrystalReturn (t : Nat) (s : State) : Host.Outcome State Fault Refusal :=
  (((s.at_ t).rtcNow).wf Reg.BKP_STAT.OSC_FAIL 0).done

/-- R746: the measured trim of `n` crystal ticks in 1,000 s of the reference. -/
def trimMeasured (n : Nat) : Int := divEven ((32768000 - (n : Int)) * 100000000) 32768000

/-- R748: the outcome of a window: its REASON. -/
def State.trimReason (s : State) (watch bad : Bool) (m : Int) (spread : Nat) : Nat :=
  if bad then 4
  else if 50000 < m.natAbs then 3
  else if !watch && decide (s.rf Reg.BKP_TRIM_CTRL.STAB_PPM * 100 < spread) then 1
  else if s.rb Reg.BKP_STAT.TRIM_VALID && decide (s.rf Reg.BKP_TRIM_CTRL.MAX_STEP_PPM * 100 < (m - s.trim).natAbs) then 2
  else 0

/-- R746: the highest minus the lowest crystal rate among the segments of 10 s, in 0.01 ppm. -/
def trimSpread (segs : List Nat) : Nat :=
  let lo := segs.foldl min (segs.headD 0)
  (divEven ((((segs.foldl max 0 - lo : Nat) : Int)) * 100000000) 327680).toNat

/-- TRIM_WINDOW_END (R745 to R748): a window ends; the next begins. `watch`: its reference is watch time where TRIM_SRC is 0, which
gives none; `n`: crystal ticks counted in it, `segs` in each of its 100 segments; `cut`: the window was interrupted. -/
def execTrimWindowEnd (t : Nat) (watch : Bool) (n : Nat) (segs : List Nat) (cut : Bool) (s : State) : Host.Outcome State Fault Refusal :=
  let s1 := (s.at_ t).rtcNow
  let src := s1.rf Reg.BKP_TRIM_CTRL.TRIM_SRC
  let watch := if src == 0 then watch else s1.bkp.winWatch
  let bad := cut || segs.length != 100 || s1.bkp.winBad || !s1.pwr.lshipUp || (watch && (s1.bkp.wtBad || !s1.wtQualifies))
  let (f1, s1) := s1.fresh
  let (f2, s1) := s1.fresh
  let m : Int := if bad then sext 17 f1 else trimMeasured n
  let spread := if bad then f2 % 2 ^ 20 else trimSpread segs
  let reason := s1.trimReason watch bad m spread
  let old := s1.trim
  let ref := if watch then 2 else 1
  let field := if m.natAbs ≤ 65535 then ofInt 17 m else f1
  let s1 := ((s1.wf Reg.BKP_TRIM_MEAS.M field).wf Reg.BKP_TRIM_MEAS.SRC ref).wf Reg.BKP_TRIM_MEAS.REASON reason
  let s1 := (s1.wf Reg.BKP_TRIM_SPREAD.SPREAD (min spread (2 ^ 20 - 1))).trimBegin
  let s1 := if reason != 0 then s1.bkpRaise Ev.BKP_TRIM_REJECT 0 [ref, reason, ofInt 32 m] 0
    else
      let apply := src != 0
      let s1 := if apply then (s1.wf Reg.BKP_TRIM.TRIM (ofInt 17 m)).wf Reg.BKP_STAT.TRIM_VALID 1 else s1
      s1.bkpRaise Ev.BKP_TRIM 0 [ref, ofInt 32 old, ofInt 32 (if apply then m else old)] 0
  (if watch && !bad then s1.rtcAuto else s1).done

/-- CALENDAR_ALARM (R755): the count reaches ALARM_SEC. -/
def execCalendarAlarm (t : Nat) (s : State) : Host.Outcome State Fault Refusal := (((s.at_ t).rtcNow).alarmCheck).done

/-- PWRON_PULSE_END (R754): a pulse of SYS_PWRON ends and its holdoff begins. -/
def execPwronPulseEnd (t : Nat) (s : State) : Host.Outcome State Fault Refusal :=
  let s1 := s.at_ t
  let e := s1.bkp.pulseEnd
  if e == 0 || s1.tim.now + 1 < e then s.done
  else ((s1.wf Reg.BKP_PWRON_STAT.ACTIVE 0).onBkp fun b =>
    { b with pulseEnd := 0, holdEnd := e + ofS (s1.rf Reg.BKP_PWRON_CTRL.HOLDOFF_S) }).done

/-- PWRON_HOLDOFF_END (R754): the holdoff ends; a pending request gives one pulse. -/
def execPwronHoldoffEnd (t : Nat) (s : State) : Host.Outcome State Fault Refusal :=
  let s1 := s.at_ t
  if s1.bkp.holdEnd == 0 || s1.tim.now + 1 < s1.bkp.holdEnd then s.done
  else
    let s1 := s1.onBkp fun b => { b with holdEnd := 0 }
    (if s1.rb Reg.BKP_PWRON_STAT.PENDING then (s1.wf Reg.BKP_PWRON_STAT.PENDING 0).pwronAssert else s1).done

end Sys2Proof.Machine
end

