-- ==== Sys2Proof/Machine/RegOps.lean ====
section
/-! DEFINITION. Register words as commands and the register path write them: the fields of a word by access code (R27), and
the checks that a command's buffer of register words shares with a register write. -/

namespace Sys2Proof.Machine

/-- The mask of a field. -/
def FieldDef.mask (f : FieldDef) : Nat := (2 ^ f.w - 1) <<< f.lo

/-- The bits of a word whose fields satisfy `p`. -/
def fieldMask (off : Nat) (p : FieldDef → Bool) : Nat :=
  match findReg off with
  | some r => (r.fields.filter p).foldl (fun m f => m ||| f.mask) 0
  | none => 0

/-- R27: the bits of a word that software writes. -/
def softMask (off : Nat) : Nat := fieldMask off fun f => f.acc == .rw || f.acc == .tw || f.acc == .wo

/-- The word that a write of `v` under a mask leaves. -/
def maskInto (mask v : Nat) (w : Word) : Word :=
  BitVec.ofNat 32 ((w.toNat &&& (0xFFFFFFFF - mask % 2 ^ 32)) ||| (v &&& mask))

/-- A word written where its fields are software's, `mask` limiting it further; its complement follows (R590). -/
def State.wrSoft (off mask v : Nat) (s : State) : State := s.wr off (maskInto (softMask off &&& mask) v (s.rd off))

/-- The word that such a write would leave. -/
def State.softWord (s : State) (off v : Nat) : Nat := (maskInto (softMask off) v (s.rd off)).toNat

end Sys2Proof.Machine
end

