-- ==== Sys2Proof/Machine/Beacon.lean ====
section
/-! DEFINITION. The Beacon's commands (R559, R560), its timers (R312, R314, R318), its stations (R306, R405) and its
restart (R321). -/

namespace Sys2Proof.Machine

/-! Tables of the Beacon. -/

/-- R559: base, elements and stride of a table. -/
def bcnTable (n : Nat) : Nat × Nat × Nat :=
  match n with
  | 0 => (0x60100, 32, 4)
  | 1 => (0x60200, 168, 4)
  | 2 => (0x60800, 64, 8)
  | 3 => (0x60A00, 8, 16)
  | 4 => (0x61000, 256, 8)
  | 5 => (0x62000, 32, 128)
  | 6 => (0x60080, 8, 4)
  | _ => (0, 0, 4)

/-- R326: a word of the Beacon that places a field outside its range. -/
def State.bcnBad (s : State) (off v : Nat) : Bool :=
  let sec (x : Nat) : Bool := decide (x < 10) || decide (3600 < x)
  if off == 0x60004 then
    let z := sext 16 (v % 65536)
    decide (z < -720) || decide (840 < z)
  else if 0x60800 ≤ off && off < 0x60A00 && off % 8 == 0 then v % 2 ^ 24 == s.node
  else if 0x60A00 ≤ off && off < 0x60A80 && off % 16 == 0 then
    let per := v % 4096
    let pre := v / 4096 % 1024
    decide (per < 180) || decide (3600 < per) || decide (pre < 30) || decide (600 < pre) || decide (per ≤ pre)
  else if 0x62000 ≤ off && off < 0x63000 then
    let o := off % 128
    if o == 0 then sec (v / 65536 % 4096)
    else if o == 0x10 || o == 0x20 || o == 0x30 || o == 0x40 then sec (v % 4096)
    else false
  else false

/-- The words of a table command: BAR0 offset and buffer offset. -/
def bcnWords (c : Cmd) : List (Nat × Nat) :=
  let (base, _, stride) := bcnTable (c.f 8 0 4)
  (List.range (c.f 0x10 0 16 * (stride / 4))).map fun k => (base + c.f 0x0C 0 16 * stride + 4 * k, 4 * k)

/-- R559: what both table commands are checked for. -/
def bcnTableFault (c : Cmd) : Option Reply :=
  let (_, n, _) := bcnTable (c.f 8 0 4)
  faultAt [(decide (6 < c.f 8 0 4), 8), (decide (n < c.f 0x0C 0 16), 0x0C), (decide (n < c.f 0x0C 0 16 + c.f 0x10 0 16), 0x10)]

/-- R318: REMAIN_S of every unit made to show the seconds left on its timer. -/
def State.dmRemain (s : State) : State :=
  s.bcn.dmDue.foldl (fun s e => s.wf (Reg.BCN_DM.REMAIN_S e.1) ((e.2 - s.clock + (2 ^ 32 - 1)) / 2 ^ 32)) s

/-- The checks of BCN_TABLE_WRITE (R323, R326, R559, R560). -/
def specBcnTableWrite (c : Cmd) : State → Spec :=
  fun s =>
    { op := 0x60, fault := bcnTableFault c, need := c.f 0x10 0 16 * (bcnTable (c.f 8 0 4)).2.2
      bfault := ((bcnWords c).find? fun x => s.bcnBad x.1 (s.softWord x.1 (c.bw x.2))).map Prod.snd }

/-- The effect of BCN_TABLE_WRITE (R323, R326, R559, R560). -/
def bodyBcnTableWrite (c : Cmd) : State → Option Reply × State :=
  (okWith fun s =>
    let ums (off : Nat) : Nat := if c.f 8 0 4 == 4 && off % 8 == 4 then 0xFFFFFF7F else 0xFFFFFFFF
    ((bcnWords c).foldl (fun s x => s.wrSoft x.1 (ums x.1) (c.bw x.2)) s).dirtyHost.bcnSettle)

/-- BCN_TABLE_WRITE (R323, R326, R559, R560). -/
def execBcnTableWrite (t : Nat) (c : Cmd) (s : State) : Host.Outcome State Fault Refusal :=
  (s.command t (specBcnTableWrite c) c (bodyBcnTableWrite c)).done

/-- The checks of BCN_TABLE_READ (R559, R560). -/
def specBcnTableRead (c : Cmd) : State → Spec :=
  let need := c.f 0x10 0 16 * (bcnTable (c.f 8 0 4)).2.2
  fun _ => { op := 0x61, fault := bcnTableFault c, need := need }

/-- The effect of BCN_TABLE_READ (R559, R560). -/
def bodyBcnTableRead (c : Cmd) : State → Option Reply × State :=
  let need := c.f 0x10 0 16 * (bcnTable (c.f 8 0 4)).2.2
  (okWith fun s =>
    let s := s.dmRemain
    s.bufPut c need (ofWordsLE ((bcnWords c).map fun x => s.rd x.1)))

/-- BCN_TABLE_READ (R559, R560). -/
def execBcnTableRead (t : Nat) (c : Cmd) (s : State) : Host.Outcome State Fault Refusal :=
  (s.command t (specBcnTableRead c) c (bodyBcnTableRead c)).done

/-! Calls. -/

/-- R312, R313: a control-room accept of one key; of a key that is idle it has no effect (log entry 32). -/
def State.acceptKey (key src : Nat) (s : State) : Nat × State :=
  if (s.seqOf key).isNone then (0, s) else s.ctrlAccept [key] src

/-- A control-room accept of every running and pending sequence. -/
def State.acceptAll (src : Nat) (s : State) : Nat × State := s.ctrlAccept s.allKeys src

/-- The checks of BCN_ACCEPT (R312, R313, R560). -/
def specBcnAccept (c : Cmd) : State → Spec :=
  let key := c.f 8 0 11
  let all := c.f 8 16 1 == 1
  fun _ => { op := 0x62, fault := faultAt [(!all && decide (1319 < key), 8)] }

/-- The effect of BCN_ACCEPT (R312, R313, R560). -/
def bodyBcnAccept (c : Cmd) : State → Option Reply × State :=
  let key := c.f 8 0 11
  let all := c.f 8 16 1 == 1
  fun s =>
    let (n, s) := if all then s.acceptAll 65 else s.acceptKey key 65
    (some ⟨0, 0, n⟩, s)

/-- BCN_ACCEPT (R312, R313, R560). -/
def execBcnAccept (t : Nat) (c : Cmd) (s : State) : Host.Outcome State Fault Refusal :=
  (s.command t (specBcnAccept c) c (bodyBcnAccept c)).done

/-- The checks of BCN_DM (R317, R318, R560). -/
def specBcnDm (c : Cmd) : State → Spec :=
  fun _ => { op := 0x63, fault := faultAt [(c.f 8 8 2 == 3, 8)] }

/-- The effect of BCN_DM (R317, R318, R560). -/
def bodyBcnDm (c : Cmd) : State → Option Reply × State :=
  let u := c.f 8 0 3
  fun s =>
    let (busy, s) := s.dmInput u (c.f 8 8 2)
    if busy then (some (Reply.of 6), s)
    else
      let s := s.bcnSettle
      (some ⟨0, 0, s.rf (Reg.BCN_DM.STATE u)⟩, s)

/-- BCN_DM (R317, R318, R560). -/
def execBcnDm (t : Nat) (c : Cmd) (s : State) : Host.Outcome State Fault Refusal :=
  (s.command t (specBcnDm c) c (bodyBcnDm c)).done

/-- The checks of BCN_UMS (R303, R560). -/
def specBcnUms (_c : Cmd) : State → Spec :=
  fun _ => { op := 0x64 }

/-- The effect of BCN_UMS (R303, R560). -/
def bodyBcnUms (c : Cmd) : State → Option Reply × State :=
  (okWith fun s =>
    (s.wf (Reg.BCN_RULE.UMS (c.f 8 0 8)) (c.f 8 8 1)).dirtyHost)

/-- BCN_UMS (R303, R560). -/
def execBcnUms (t : Nat) (c : Cmd) (s : State) : Host.Outcome State Fault Refusal :=
  (s.command t (specBcnUms c) c (bodyBcnUms c)).done

/-- The checks of BCN_HOST_CALL (R304, R560). -/
def specBcnHostCall (c : Cmd) : State → Spec :=
  let n := c.f 8 0 5
  fun s =>
    { op := 0x65
      fault := faultAt [((List.range (s.rf (Reg.BCN_TEMPLATE.NSTAGE n) + 1)).all fun k =>
        decide (s.rf (BStage.DURATION n k) < 10) || decide (3600 < s.rf (BStage.DURATION n k)), 8)] }

/-- The effect of BCN_HOST_CALL (R304, R560). -/
def bodyBcnHostCall (c : Cmd) : State → Option Reply × State :=
  let n := c.f 8 0 5
  fun s =>
    let (joined, s) := s.bcnRequest (1288 + n) n
    (some (Reply.with2 (1288 + n) (b2n joined)), s.bcnSettle)

/-- BCN_HOST_CALL (R304, R560). A stage is valid when its duration is in range (log entry 32). -/
def execBcnHostCall (t : Nat) (c : Cmd) (s : State) : Host.Outcome State Fault Refusal :=
  (s.command t (specBcnHostCall c) c (bodyBcnHostCall c)).done

/-! Timers (R312, R314, R318, R319). -/

/-- A running sequence whose timer has expired, ATTENDED or not as asked. -/
def State.seqDue (s : State) (key : Nat) (att : Bool) : Option BSeq :=
  (s.seqOf key).filter fun q => !q.pend && q.att == att && decide (q.due ≤ s.clock)

/-- R312: the last stage's timer restarts and its targets are called again. -/
def State.stageAgain (q : BSeq) (s : State) : State :=
  let q := { q with att := false, due := tick10 (s.clock + ofS q.dur) }
  (s.setSeq q).callAll q 0

/-- R312: the stage that follows starts, or the last one again; answers the stage. -/
def State.escalate (q : BSeq) (s : State) : State :=
  if q.stage < q.last then (s.stageStart q (q.stage + 1)).raise Ev.BCN_STAGE q.key [q.stage + 1] else s.stageAgain q

/-- STAGE_TIMER_EXPIRE (R312). -/
def execStageTimerExpire (t key : Nat) (s : State) : Host.Outcome State Fault Refusal :=
  (let s1 := s.at_ t
  match s1.seqDue key false with
  | none => s
  | some q =>
    let s2 := s1.escalate q
    (if q.stage < q.last then s2 else s2.raise Ev.BCN_STAGE key [q.stage]).bcnSettle).done

/-- ATTEND_TIMER_EXPIRE (R312). -/
def execAttendTimerExpire (t key : Nat) (s : State) : Host.Outcome State Fault Refusal :=
  (let s1 := s.at_ t
  match s1.seqDue key true with
  | none => s
  | some q => ((s1.escalate q).bump Reg.BCN_ATTEND_EXP_CNT.COUNT).bcnSettle).done

/-- DEADMAN_TIMER_EXPIRE (R318). A reset of the timer's own tick goes first, so the timer expires once that tick is over (R319). -/
def execDeadmanTimerExpire (t u : Nat) (s : State) : Host.Outcome State Fault Refusal :=
  (let s1 := s.at_ t
  let due := tget 0 s1.bcn.dmDue u
  if 8 ≤ u || due == 0 || s1.clock ≤ due then s
  else
    let pre := s1.rf (Reg.BCN_DM.PREWARN_S u)
    if s1.rf (Reg.BCN_DM.STATE u) == 1 then
      ((((s1.wf (Reg.BCN_DM.STATE u) 2).dmTimer u pre).raise Ev.BCN_DM_PREWARN u [pre])).bcnSettle
    else if s1.rf (Reg.BCN_DM.STATE u) == 2 then
      let s2 := (s1.wf (Reg.BCN_DM.REMAIN_S u) 0).onBcn fun b => { b with dmDue := tset 0 b.dmDue u 0 }
      let s2 := (((s2.wf (Reg.BCN_DM.STATE u) 3).bump Reg.BCN_DM_ALARM_CNT.COUNT).raise Ev.BCN_DM_ALARM u [1280 + u])
      (s2.bcnRequest (1280 + u) (s2.rf (Reg.BCN_DM.TEMPLATE u))).2.bcnSettle
    else s).done

/-! Stations (R306, R307, R405). -/

/-- The VALID stations at a node. -/
def State.stationsAt (s : State) (node : Nat) : List Nat :=
  (List.range 64).filter fun n => s.rb (Reg.BCN_STATION.VALID n) && s.rf (Reg.BCN_STATION.NODE n) == node

/-- R306: a station becomes LOST. -/
def State.stationLose (n : Nat) (s : State) : State :=
  if s.stationLost n then s
  else (((s.setLost n true).bump Reg.BCN_STATION_LOST_CNT.COUNT).raise Ev.BCN_STATION_LOST n [s.rf (Reg.BCN_STATION.NODE n)]).bcnSettle

/-- R306, R320: every station becomes LOST with the main domain. -/
def State.stationsLost (s : State) : State :=
  ((List.range 64).filter fun n => s.rb (Reg.BCN_STATION.VALID n)).foldl (fun s n => s.stationLose n) s

/-- R306, R320: a station clears LOST; the calls of its active stages are sent to it again. -/
def State.stationBack (n : Nat) (s : State) : State :=
  if !s.stationLost n then s
  else
    let s := s.setLost n false
    let s := s.bcn.seqs.foldl (fun s q => if !q.pend && (s.calledBy q).contains n then s.callSet n q (b2n q.att) else s) s
    s.bcnSettle

/-- R306, R404, R405: a status frame of a node. -/
def State.stationStatus (node : Nat) (fault : Bool) (s : State) : State :=
  let l := s.stationsAt node
  if l.isEmpty then s.bump Reg.FAB_STATION_REJ_CNT.COUNT
  else l.foldl (fun s n =>
    let s := s.onBcn fun b => { b with heard := tset 0 b.heard n (s.tim.now + 1) }
    if fault then s.stationLose n else s.stationBack n) s

/-- R312, R317, R405: an event of a station: 0 ACCEPT, 1 ACCEPT_ALL, 2 DM_RESET, 3 DM_ON, 4 DM_OFF. -/
def State.stationInput (n evt key : Nat) (s : State) : State :=
  let typ := s.rf (Reg.BCN_STATION.TYPE n)
  if evt == 0 then (if typ == 2 then (s.acceptKey key n).2 else (s.seqAttend key n).bcnSettle)
  else if evt == 1 then
    (if typ == 2 then (s.acceptAll n).2
    else ((s.bcn.seqs.filter fun q => (s.calledBy q).contains n).foldl (fun s q => s.seqAttend q.key n) s).bcnSettle)
  else if typ == 3 && evt ≤ 4 then
    (s.dmInput (s.rf (Reg.BCN_STATION.DM_UNIT n)) ([2, 0, 1].getD (evt - 2) 2)).2.bcnSettle
  else s

/-- R405: an event frame of a node, applied once per EVT_SEQ. -/
def State.stationEvent (node evt key evtSeq : Nat) (s : State) : State :=
  let l := s.stationsAt node
  if l.isEmpty then s.bump Reg.FAB_STATION_REJ_CNT.COUNT
  else l.foldl (fun s n =>
    let seen := tget [] s.bcn.evtSeq n
    if seen.contains evtSeq then s
    else (s.onBcn fun b => { b with evtSeq := tset [] b.evtSeq n (evtSeq :: seen) }).stationInput n evt key) s

/-- BCN_STATUS (R306): a station status frame that has reached this node. -/
def execBcnStatus (t node : Nat) (fault : Bool) (s : State) : Host.Outcome State Fault Refusal :=
  (if s.pwr.mainUp then (s.at_ t).stationStatus node fault else s).done

/-- BCN_STATION_EVT (R405): a station event frame that has reached this node. -/
def execBcnStationEvt (t node evt key evtSeq : Nat) (s : State) : Host.Outcome State Fault Refusal :=
  (if s.pwr.mainUp then (s.at_ t).stationEvent node evt key evtSeq else s).done

/-- STATION_LOST_TIMEOUT (R306). -/
def execStationLostTimeout (t n : Nat) (s : State) : Host.Outcome State Fault Refusal :=
  (let s1 := s.at_ t
  let heard := tget 0 s1.bcn.heard n
  if 64 ≤ n || s1.stationLost n || s1.tim.now + 1 < heard + ofS 3 then s else s1.stationLose n).done

/-- BCN_CALL_REPEAT (R405). -/
def execBcnCallRepeat (t station key : Nat) (s : State) : Host.Outcome State Fault Refusal :=
  (let s1 := s.at_ t
  match s1.bcn.calls.find? fun (x : BCall) => x.station == station && x.key == key with
  | none => s
  | some x =>
    if s1.tim.now < x.sent + ofS 1 then s
    else
      let rest := s1.bcn.calls.filter fun (y : BCall) => !(y.station == station && y.key == key)
      let next : List BCall := match x.left with
        | none => [{ x with sent := s1.tim.now }]
        | some k => if k ≤ 1 then [] else [{ x with sent := s1.tim.now, left := some (k - 1) }]
      (s1.onBcn fun b => { b with calls := rest ++ next }).callSend station x.payload).done

/-! Restart (R321). -/

/-- R321: the template of a key. -/
def State.keyTmpl (s : State) (key : Nat) : Nat :=
  if key < 1280 then s.rf (ruleTmpl (key / 5) (key % 5))
  else if key < 1288 then s.rf (Reg.BCN_DM.TEMPLATE (key - 1280)) else key - 1288

/-- R321: after a loss of the Lightship domain the marked keys restart in order of rank, and the units in PREWARN. -/
def State.bcnRestart (s : State) : State :=
  let word (k : Nat) : Nat := s.rf (Reg.BKP_REG.WORD k)
  let keys := (List.range 1320).filter fun k => (word (1 + k / 32) >>> (k % 32)) % 2 == 1
  let units := (List.range 8).filter fun u => word (43 + u) % 4 != 0
  let s := units.foldl (fun s u => (s.wf (Reg.BCN_DM.STATE u) 2).dmTimer u (s.rf (Reg.BCN_DM.PREWARN_S u))) s
  ((List.range 8).foldl (fun s r =>
    (keys.filter fun k => s.rf (Reg.BCN_TEMPLATE.RANK (s.keyTmpl k)) == r).foldl (fun s k => (s.bcnRequest k (s.keyTmpl k)).2) s)
    s).bcnShow.bcnKeep

end Sys2Proof.Machine
end

