-- ==== Sys2Proof/Machine/Sectors.lean ====
section
/-! DEFINITION. The sector commands (R155, R158 to R167, R554, R555) and what the sector stage does by itself: changes, cause
timers, floods, audit, compaction, mirror entries (R153 to R178, R471, R553). -/

namespace Sys2Proof.Machine

/-! Sector records. -/

/-- The checks of SEC_CONFIG (R148, R555). -/
def specSecConfig (c : Cmd) : State → Spec :=
  let n := c.f 8 0 16
  fun _ => { op := 0x30, obj := n }

/-- The effect of SEC_CONFIG (R148, R555). -/
def bodySecConfig (c : Cmd) : State → Option Reply × State :=
  let n := c.f 8 0 16
  (okWith fun s =>
    (s.sectorsBy [n] fun s => s.setSect n
      (fput Sect.FO_EN (c.f 0x0C 0 1) (fput Sect.EVT_EN (c.f 0x0C 1 1) (fput Sect.WATCH_MASK (c.f 0x10 0 256) (s.sect n))))).dirtyHost)

/-- SEC_CONFIG (R148, R555). -/
def execSecConfig (t : Nat) (c : Cmd) (s : State) : Host.Outcome State Fault Refusal :=
  (s.command t (specSecConfig c) c (bodySecConfig c)).done

/-- The checks of SEC_READ (R555). -/
def specSecRead (c : Cmd) : State → Spec :=
  fun _ => { op := 0x31, need := 128, hbm := [(0x180000000 + 128 * c.f 8 0 16, 128)] }

/-- The effect of SEC_READ (R555). -/
def bodySecRead (c : Cmd) : State → Option Reply × State :=
  (okWith fun s => s.bufPut c 128 (s.sect (c.f 8 0 16)).toNat)

/-- SEC_READ (R555). -/
def execSecRead (t : Nat) (c : Cmd) (s : State) : Host.Outcome State Fault Refusal :=
  (s.command t (specSecRead c) c (bodySecRead c)).done

/-- R155: the first-out of a sector is reset. -/
def State.foReset (n : Nat) (s : State) : State :=
  s.sectorsBy [n] fun s =>
    let r := fput Sect.FO 0 (fput Sect.FO_LATCHED 0 (s.sect n))
    (s.setSect n (fput Sect.FO_ARMED (fget Sect.WHOLLY_NORMAL r) r)).foEvent n

/-- The sectors that SEC_FO_RESET names. -/
def State.foScope (s : State) (c : Cmd) : List Nat :=
  if c.f 8 0 1 == 0 then (List.range (c.f 0x14 0 17)).map fun k => c.f 0x10 0 16 + k else s.sectorsOfWatch (c.f 0x10 0 8)

/-- The checks of SEC_FO_RESET (R155, R555). -/
def specSecFoReset (c : Cmd) : State → Spec :=
  let n := c.f 0x14 0 17
  fun _ =>
    { op := 0x32, fault := faultAt [(c.f 8 0 1 == 0 && (n == 0 || decide (65536 < c.f 0x10 0 16 + n)), 0x14)] }

/-- The effect of SEC_FO_RESET (R155, R555). -/
def bodySecFoReset (c : Cmd) : State → Option Reply × State :=
  fun s =>
      let l := s.foScope c
      (some ⟨0, 0, l.length⟩, (l.foldl (fun s n => s.foReset n) s).dirtyHost)

/-- SEC_FO_RESET (R155, R555). -/
def execSecFoReset (t : Nat) (c : Cmd) (s : State) : Host.Outcome State Fault Refusal :=
  (s.command t (specSecFoReset c) c (bodySecFoReset c)).done

/-! The causal graph (R158 to R166, R554). -/

/-- R554: the member that a cause command names, and where its operand is at fault. -/
def State.causeNamed (s : State) (c : Cmd) : Option Nat × Nat :=
  if c.f 8 0 1 == 1 then
    (if fbit Mir.VALID (s.mir (c.f 0x10 0 16)) then some (memberKey true (c.f 0x10 0 16)) else none, 0x10)
  else if !s.tagOk (c.d 0x10) then (none, 0x10)
  else (s.condOf (tagIdx (c.d 0x10)) (c.f 0x18 0 4), 0x18)

/-- R554: effect `k` of a cause command's buffer: its condition, or the buffer offset at fault. -/
def State.effectAt (s : State) (c : Cmd) (k : Nat) : Option Nat × Nat :=
  let tag := c.bw (16 * k) + c.bw (16 * k + 4) * 2 ^ 32
  if tagNode tag != s.node || !s.tagOk tag then (none, 16 * k)
  else (s.condOf (tagIdx tag) (c.bw (16 * k + 8) % 16), 16 * k + 8)

def State.effectsNamed (s : State) (c : Cmd) : List Nat :=
  (List.range (c.bufLen / 16)).filterMap fun k => (s.effectAt c k).1

/-- The cause entries in use, but for entry `n`, plus one. -/
def State.otherCauses (s : State) (n : Option Nat) : List (Nat × Rec 32) :=
  s.sec.cause.filter fun e => fbit Cause.VALID e.2 && some e.1 != n

/-- R160: the in-edges of an effect from other entries. -/
def State.inEdges (s : State) (n : Option Nat) (c : Nat) : Nat := ((s.otherCauses n).filter fun e => (s.effects e.1).contains c).length

/-- R160: the buffer offset of the first effect at fault. -/
def State.effectFault (s : State) (c : Cmd) (key : Option Nat) (n : Option Nat) : Option Nat :=
  let l := (List.range (c.bufLen / 16)).map fun k => (k, s.effectAt c k)
  (l.findSome? fun e =>
    match e.2 with
    | (none, o) => some o
    | (some q, _) =>
      if some q == key || (l.take e.1).any (fun x => x.2.1 == some q) || decide (255 ≤ s.inEdges n q) then some (16 * e.1) else none)

/-- Runs in order of their start. -/
def insertRun (r : Nat × Nat) : List (Nat × Nat) → List (Nat × Nat)
  | [] => [r]
  | x :: l => if r.1 ≤ x.1 then r :: x :: l else x :: insertRun r l

/-- The edge runs in use, in order of their start: start and length; entry `n` counts as free. -/
def State.edgeRuns (s : State) (n : Option Nat) : List (Nat × Nat) :=
  (s.otherCauses n).foldl (fun l e => insertRun (fget Cause.EDGE_BASE e.2, fget Cause.EDGE_COUNT e.2) l) []

def edgeMax : Nat := 16777216

/-- The free runs between runs in use, from `cur` on. -/
def freeRuns : Nat → List (Nat × Nat) → List (Nat × Nat)
  | cur, [] => [(cur, edgeMax - cur)]
  | cur, r :: l => (cur, r.1 - cur) :: freeRuns (max cur (r.1 + r.2)) l

/-- R161: the first free run that takes `n` edges. -/
def State.edgeRun (s : State) (own : Option Nat) (n : Nat) : Option Nat :=
  ((freeRuns 0 (s.edgeRuns own)).find? fun r => decide (n ≤ r.2)).map Prod.fst

/-- The registers of the graph follow. -/
def State.edgeGauges (s : State) : State :=
  let runs := s.edgeRuns none
  ((s.wf Reg.SEC_EDGE_USED.USED ((runs.map Prod.snd).sum)).wf Reg.SEC_EDGE_LARGEST.RUN
    (((freeRuns 0 runs).map Prod.snd).foldl max 0)).wf Reg.SEC_CAUSE_USED.USED (s.otherCauses none).length

/-- The reference of a member to its cause entry, plus one. -/
def State.setCauseRef (key n : Nat) (s : State) : State :=
  if key < 2 ^ 26 then s.modLink key (fput Link.CAUSE_REF n)
  else s.setMir (key - 2 ^ 26) (fput Mir.CAUSE_REF n (s.mir (key - 2 ^ 26)))

/-- R161: the edges of entry `n` written from `base` on. -/
def State.putEdges (n base : Nat) (cs : List Nat) (s : State) : State :=
  let r := s.cause n
  let s := s.onSec fun x => { x with edge := (List.range cs.length).foldl (fun t k =>
    tset 0 t (base + k) (BitVec.ofNat 32 (cs.getD k 0))) x.edge }
  s.setCause n (fput Cause.EDGE_BASE base (fput Cause.EDGE_COUNT cs.length r))

/-- The edges of entry `n` cleared. -/
def State.dropEdges (n : Nat) (s : State) : State :=
  let r := s.cause n
  s.onSec fun x => { x with edge := (List.range (fget Cause.EDGE_COUNT r)).foldl (fun t k =>
    tset 0 t (fget Cause.EDGE_BASE r + k) 0) x.edge }

/-- R163, R168: a member is ACTIVE as a cause: a mirror entry that was lost for longer than SEC_MIRROR_HOLD is not. -/
def State.causeActive (s : State) (key : Nat) : Bool :=
  let e := key - 2 ^ 26
  let gone := decide (2 ^ 26 ≤ key) && fbit Mir.LOST (s.mir e) && tget 0 s.sec.lostAt e == 0
  !gone && match s.shown key with
    | some m => m.active
    | none => false

/-- R163: an entry is written: created, or its edge list replaced. -/
def State.causeWrite (c : Cmd) (key n base : Nat) (new : Bool) (s : State) : State :=
  let cs := s.effectsNamed c
  let expert := c.f 8 1 1 == 1
  let times (r : Rec 32) : Rec 32 :=
    fput Cause.EXPERT (b2n expert) (fput Cause.SETTLE_MS (if expert then c.f 0x1C 0 16 else 0)
      (fput Cause.RELEASE_MS (if expert then c.f 0x1C 16 16 else fget Cause.RELEASE_MS r) r))
  let mark := s.alm.seq
  let derive (s : State) : State := s.setCause n (fput Cause.RELEASE_MS (s.relMs n) (s.cause n))
  if new then
    let mirror := decide (2 ^ 26 ≤ key)
    let r : Rec 32 := fput Cause.CAUSE (key % 2 ^ 26) (fput Cause.MIRROR (b2n mirror) (fput Cause.VALID 1 (fput Cause.T_STATE s.wt 0)))
    let s := derive ((s.setCause n (times r)).putEdges n base cs)
    let s := s.setCauseRef key (n + 1)
    if s.causeActive key then s.causeTake n true s.wt mark else s
  else
    let r := s.cause n
    let old := s.effects n
    let s := derive (((s.dropEdges n).setCause n (times r)).putEdges n base cs)
    if fget Cause.CSTATE r < 2 then s
    else
      let s := (old.filter fun q => !cs.contains q).foldl (fun s q => s.suppMove q false mark) s
      (cs.filter fun q => !old.contains q).foldl (fun s q => s.suppMove q true mark) s

/-- The checks of SEC_CAUSE_SET (R160 to R164, R554, R555). -/
def specSecCauseSet (c : Cmd) : State → Spec :=
  let cnt := c.bufLen / 16
  fun s =>
    let (key, o) := s.causeNamed c
    let own := key.bind s.causeOf
    let used := ((s.edgeRuns own).map Prod.snd).sum
    { op := 0x33, need := max 16 (16 * cnt)
      hbm := [(0x181000000 + 32 * own.getD (freeId (tkeys s.sec.cause)), 32)]
      fault := faultAt [(own.isNone && decide (1048576 ≤ (s.otherCauses none).length), 0x08), (key.isNone, o),
        (decide (edgeMax < used + cnt), 0x38)]
      bfault := s.effectFault c key own }

/-- The effect of SEC_CAUSE_SET (R160 to R164, R554, R555). -/
def bodySecCauseSet (c : Cmd) : State → Option Reply × State :=
  let cnt := c.bufLen / 16
  fun s =>
      match (s.causeNamed c).1 with
      | none => (some (Reply.of 5), s)
      | some key =>
        let own := s.causeOf key
        let fits := own.any fun n => decide (cnt ≤ fget Cause.EDGE_COUNT (s.cause n))
        let base := if fits then own.map fun n => fget Cause.EDGE_BASE (s.cause n)
          else if s.rb Reg.SEC_COMPACT_STAT.COMPACTING then none else s.edgeRun own cnt
        match base with
        | none => (some (Reply.of 6), s.wf Reg.SEC_COMPACT_STAT.COMPACTING 1)
        | some b =>
          let n := own.getD (freeId (tkeys s.sec.cause))
          let s' := ((s.causeWrite c key n b own.isNone).edgeGauges).dirtyHost
          (some { Reply.with2 n cnt with st := if s.alm.spills < s'.alm.spills then 7 else 0 }, s')

/-- SEC_CAUSE_SET (R160 to R164, R554, R555). -/
def execSecCauseSet (t : Nat) (c : Cmd) (s : State) : Host.Outcome State Fault Refusal :=
  (s.command t (specSecCauseSet c) c (bodySecCauseSet c)).done

/-- The checks of SEC_CAUSE_DELETE (R163, R555). -/
def specSecCauseDelete (c : Cmd) : State → Spec :=
  fun s =>
    let (key, o) := s.causeNamed c
    { op := 0x34, fault := faultAt [(key.isNone, o), ((key.bind s.causeOf).isNone, 0x10)] }

/-- The effect of SEC_CAUSE_DELETE (R163, R555). -/
def bodySecCauseDelete (c : Cmd) : State → Option Reply × State :=
  (okWith fun s =>
      match (s.causeNamed c).1 with
      | none => s
      | some key => match s.causeOf key with
        | none => s
        | some n =>
          let st := fget Cause.CSTATE (s.cause n)
          let s := if st % 2 == 1 then s.causeCancel n else s
          let s := if 2 ≤ st then s.fanOut n false s.alm.seq else s
          ((((s.dropEdges n).setCause n 0).setCauseRef key 0).edgeGauges).dirtyHost)

/-- SEC_CAUSE_DELETE (R163, R555). -/
def execSecCauseDelete (t : Nat) (c : Cmd) (s : State) : Host.Outcome State Fault Refusal :=
  (s.command t (specSecCauseDelete c) c (bodySecCauseDelete c)).done

/-- The checks of SEC_CAUSE_READ (R158, R162, R554, R555). -/
def specSecCauseRead (c : Cmd) : State → Spec :=
  fun s =>
    let (key, o) := s.causeNamed c
    let n := key.bind s.causeOf
    { op := 0x35, fault := faultAt [(key.isNone, o), (n.isNone, 0x10)], need := 32 + 16 * (n.map fun k => (s.effects k).length).getD 0
      hbm := match n with
        | none => []
        | some k =>
          let r := s.cause k
          let e := fget Cause.EDGE_COUNT r
          (0x181000000 + 32 * k, 32) :: (if e == 0 then [] else [(0x184000000 + 4 * fget Cause.EDGE_BASE r, 4 * e)]) }

/-- The effect of SEC_CAUSE_READ (R158, R162, R554, R555). -/
def bodySecCauseRead (c : Cmd) : State → Option Reply × State :=
  fun s =>
      match ((s.causeNamed c).1).bind s.causeOf with
      | none => (some (Reply.of 5), s)
      | some n =>
        let l := s.effects n
        let item (q : Nat) : Nat := s.tagOf (tget 0 s.alm.owner q - 1) + s.slotOf q * 2 ^ 64
        let v := (fput Cause.RELEASE_MS (s.relMs n) (s.cause n)).toNat + l.foldr (fun q v => item q + v * 2 ^ 128) 0 * 2 ^ 256
        (some ⟨0, 0, l.length⟩, s.bufPut c (32 + 16 * l.length) v)

/-- SEC_CAUSE_READ (R158, R162, R554, R555). -/
def execSecCauseRead (t : Nat) (c : Cmd) (s : State) : Host.Outcome State Fault Refusal :=
  (s.command t (specSecCauseRead c) c (bodySecCauseRead c)).done

/-- SUPP_EN changes (R163, R164): every condition with SUPP_CNT above zero gets its input, in ascending order. -/
def State.suppSwitch (on : Bool) (s : State) : State :=
  if s.rb Reg.SEC_CTRL.SUPP_EN == on then s
  else
    let cs := (s.sec.link.filter fun e => fget Link.SUPP_CNT e.2 != 0).map Prod.fst
    (s.wf Reg.SEC_CTRL.SUPP_EN (b2n on)).onSec fun x => { x with supIn := x.supIn ++ cs.map fun q => (q, on, s.alm.seq) }

/-- SECTOR_CHANGE_PROCESS (R175). -/
def execSectorChangeProcess (t : Nat) (s : State) : Host.Outcome State Fault Refusal :=
  let s1 := s.at_ t
  if s1.sec.queue.isEmpty then s.done else s1.sectorNext.bcnSettle.done

/-- A settle or release timer of a cause entry on the fine wheel that is due. -/
def State.causeDue (s : State) (st : Nat) : Option (Nat × Nat) :=
  earliest (s.dueTimers fun o => decide (2 ^ 26 ≤ o) && !s.isCoarse o && fget Cause.CSTATE (s.cause (o - 2 ^ 26)) == st)

/-- SETTLE_TIMER_EXPIRE (R163). -/
def execSettleTimerExpire (t : Nat) (s : State) : Host.Outcome State Fault Refusal :=
  let s1 := s.at_ t
  match s1.causeDue 1 with
  | some (o, _) => (s1.causeExpire (o - 2 ^ 26)).done
  | none => s.done

/-- RELEASE_TIMER_EXPIRE (R163). -/
def execReleaseTimerExpire (t : Nat) (s : State) : Host.Outcome State Fault Refusal :=
  let s1 := s.at_ t
  match s1.causeDue 3 with
  | some (o, _) => (s1.causeExpire (o - 2 ^ 26)).done
  | none => s.done

/-! Floods (R171, R173, R183). -/

/-- R171, R183: the recount of a watch at whole second `sec`. -/
def State.recount (w sec : Nat) (s : State) : State :=
  let s := s.onSec fun x => { x with inForce := tset none x.inForce w none }
  let n := s.floodCount w (sec * 2 ^ 32)
  let s := s.wf (Reg.SEC_WATCH.WSTAT w) (min n 1023)
  if n ≤ s.rf (Reg.SEC_WATCH.FLOOD_EXIT w) then s.floodEnd w (sec * 2 ^ 32) else s

/-- FLOOD_RECOUNT (R171): the recount of the present whole second. -/
def execFloodRecount (t : Nat) (s : State) : Host.Outcome State Fault Refusal :=
  let s1 := s.at_ t
  let sec := s1.wt / 2 ^ 32
  if !s1.runs 12 || sec + 1 ≤ s1.sec.recountAt then s.done
  else
    let s1 := s1.onSec fun x => { x with recountAt := sec + 1 }
    ((watchList s1.floodMask).foldl (fun s w => s.recount w sec) s1).done

/-- FLOOD_RELEASE_DONE (R173): the oldest release that runs is complete. -/
def execFloodReleaseDone (t : Nat) (s : State) : Host.Outcome State Fault Refusal :=
  let s1 := s.at_ t
  match s1.sec.floods.find? fun f => f.ended.isSome with
  | some f => (s1.floodRelease f).bcnSettle.done
  | none => s.done

/-- R171: floods of the watches in `ws` end at once because a FLOOD_EN was cleared. -/
def State.floodsOff (ws : List Nat) (s : State) : State := ws.foldl (fun s w => s.floodEnd w s.wt) s

/-! The audit (R177) and the compaction (R161). -/

/-- The counts of a sector as its members make them. -/
def State.countsOf (s : State) (n : Nat) : Rec 128 :=
  s.sec.shown.foldl (fun r e => match e.2 with
    | some m => if m.sects.contains n then Sect.count true (contrib m (s.isHeld e.1)) r else r
    | none => r) (fput ⟨64, 448⟩ 0 (s.sect n))

/-- SUPP_CNT of a condition as the cause entries make it. -/
def State.suppOf (s : State) (c : Nat) : Nat :=
  min 255 ((s.otherCauses none).filter fun e => decide (2 ≤ fget Cause.CSTATE e.2) && (s.effects e.1).contains c).length

/-- R177: the audit of some sectors and conditions. -/
def State.audit (ns cs : List Nat) (s : State) : State :=
  let bad := ns.filter fun n => decide (s.countsOf n ≠ s.sect n)
  let off := cs.filter fun c => s.suppOf c != fget Link.SUPP_CNT (s.link c)
  let s := s.sectorsBy bad fun s => bad.foldl (fun s n => s.setSect n (s.countsOf n)) s
  let s := off.foldl (fun s c =>
    let was := fget Link.SUPP_CNT (s.link c)
    let is_ := s.suppOf c
    let s := (s.modLink c (fput Link.SUPP_CNT is_)).gauge Reg.SEC_SUPPR_NOW.COUNT (was != 0) (is_ != 0)
    if (was == 0) == (is_ == 0) || !s.rb Reg.SEC_CTRL.SUPP_EN then s
    else s.onSec fun x => { x with supIn := x.supIn ++ [(c, is_ != 0, s.alm.seq)] }) s
  if bad.isEmpty && off.isEmpty then s
  else (s.bump Reg.SEC_AUDIT_CNT.COUNT (bad.length + off.length)).raise Ev.SEC_AUDIT 0 [bad.length, off.length]

/-- SECTOR_AUDIT (R177): every 60 s. A fault has flipped the bits `flips` of sector records and `supp` of SUPP_CNT values
before it: number and mask. -/
def execSectorAudit (t : Nat) (flips supp : List (Nat × Nat)) (s : State) : Host.Outcome State Fault Refusal :=
  let s1 := s.at_ t
  if !s1.runs 12 || (s1.sec.auditAt != 0 && decide (s1.tim.now < s1.sec.auditAt - 1 + ofS 60)) then s.done
  else
    let s1 := s1.onSec fun x => { x with auditAt := s1.tim.now + 1 }
    let s1 := flips.foldl (fun s f => s.setSect f.1 (fput ⟨64, 448⟩ (fget ⟨64, 448⟩ (s.sect f.1) ^^^ f.2) (s.sect f.1))) s1
    let s1 := supp.foldl (fun s f => s.modLink f.1 fun r => fput Link.SUPP_CNT (fget Link.SUPP_CNT r ^^^ f.2) r) s1
    (s1.audit (tkeys s1.sec.sect) (tkeys s1.sec.link)).done

/-- EDGE_COMPACTION_DONE (R161): the edge runs stand one after the other. -/
def execEdgeCompactionDone (t : Nat) (s : State) : Host.Outcome State Fault Refusal :=
  let s1 := s.at_ t
  if !s1.rb Reg.SEC_COMPACT_STAT.COMPACTING then s.done
  else
    let l := (s1.otherCauses none).map fun e => (e.1, s1.effects e.1)
    let s1 := s1.onSec fun x => { x with edge := [] }
    let (_, s1) := l.foldl (fun (a : Nat × State) e => (a.1 + e.2.length, a.2.putEdges e.1 a.1 e.2)) (0, s1)
    ((s1.wf Reg.SEC_COMPACT_STAT.COMPACTING 0).edgeGauges).done

/-! Mirror entries (R167, R168, R471, R473, R553). -/

/-- R471, R473: an ALM_SUBSCRIBE frame of one entry, to its home or to a standby. -/
def State.subscribe (dst e : Nat) (off : Bool) (s : State) : State :=
  let r := s.mir e
  s.send { src := 130, cls := 1, ptype := 0x11, dst := some dst, len := 64
           payload := 1 + (fget Mir.TAG r + (fget Mir.SLOT r + b2n off * 2 ^ 4 + e * 2 ^ 16) * 2 ^ 64) * 2 ^ 64 }

/-- The checks of SEC_MIRROR_BIND (R167, R555). -/
def specSecMirrorBind (c : Cmd) : State → Spec :=
  let e := c.f 8 0 16
  let off := c.f 8 16 1 == 1
  let tag := c.d 0x10
  fun s =>
    { op := 0x36, obj := tag
      fault := faultAt [(fbit Mir.VALID (s.mir e) != off, 0x08),
        (!off && (tagNode tag == s.node || (tag >>> 23) % 2 ^ 17 != 0 || !idxOk (tagIdx tag)), 0x10)] }

/-- The effect of SEC_MIRROR_BIND (R167, R555). -/
def bodySecMirrorBind (c : Cmd) : State → Option Reply × State :=
  let e := c.f 8 0 16
  let off := c.f 8 16 1 == 1
  let tag := c.d 0x10
  fun s =>
      if off then
        if fget Mir.CAUSE_REF (s.mir e) != 0 then (some (Reply.of 6), s)
        else
          let r := s.mir e
          let s := s.subscribe (tagNode (fget Mir.TAG r)) e true
          let sb := tget 0 s.sec.mirStand e
          let s := if sb == 0 then s else (s.subscribe sb e true).onSec fun x => { x with mirStand := tset 0 x.mirStand e 0 }
          let s := s.sectorsBy [fget Mir.SECTOR r] fun s => s.reMember (memberKey true e) none false
          (some Reply.ok, ((s.setMir e 0).onSec fun x => { x with lostAt := tset 0 x.lostAt e 0 }).dirtyHost)
      else
        let r : Rec 32 := fput Mir.TAG tag (fput Mir.SLOT (c.f 0x18 0 4) (fput Mir.SECTOR (c.f 0x1C 0 16)
          (fput Mir.VALID 1 (fput Mir.LOST 1 0))))
        (some Reply.ok, ((s.setMir e r).subscribe (tagNode tag) e false).dirtyHost)

/-- SEC_MIRROR_BIND (R167, R555). -/
def execSecMirrorBind (t : Nat) (c : Cmd) (s : State) : Host.Outcome State Fault Refusal :=
  (s.command t (specSecMirrorBind c) c (bodySecMirrorBind c)).done

/-- MIRROR_TIMEOUT (R168). -/
def execMirrorTimeout (t e : Nat) (s : State) : Host.Outcome State Fault Refusal :=
  let s1 := s.at_ t
  let r := s1.mir e
  if !fbit Mir.VALID r || fbit Mir.LOST r || decide (s1.wt < fget Mir.T_RX r + ofMs (s1.rf Reg.SEC_MIRROR_TMO.TMO_MS)) then s.done
  else
    let s1 := (s1.setMir e (fput Mir.LOST 1 r)).onSec fun x => { x with lostAt := tset 0 x.lostAt e (s1.tim.now + 1) }
    ((s1.bump Reg.SEC_MIRROR_LOST_CNT.COUNT).raise Ev.SEC_MIRROR_LOST (fget Mir.TAG r) [e, fget Mir.SLOT r]).done

/-- MIRROR_HOLD_EXPIRE (R168): a lost cause is treated as not active. -/
def execMirrorHoldExpire (t e : Nat) (s : State) : Host.Outcome State Fault Refusal :=
  let s1 := s.at_ t
  let at_ := tget 0 s1.sec.lostAt e
  if at_ == 0 || !fbit Mir.LOST (s1.mir e) || decide (s1.tim.now < at_ - 1 + ofS (s1.rf Reg.SEC_MIRROR_HOLD.HOLD_S)) then s.done
  else
    let s1 := s1.onSec fun x => { x with lostAt := tset 0 x.lostAt e 0 }
    match s1.causeOf (memberKey true e) with
    | some n => (s1.causeTake n false s1.wt s1.alm.seq).done
    | none => s1.done

/-- R167: this node answers for the point of a subscription. -/
def State.answersSub (s : State) (x : Sub) : Bool := s.evaluates x.idx

/-- MIRROR_REFRESH_SEND (R167): subscription `n` has had no frame for 100 ms. -/
def execMirrorRefreshSend (t n : Nat) (s : State) : Host.Outcome State Fault Refusal :=
  let s1 := s.at_ t
  match s1.fab.subs[n]? with
  | none => s.done
  | some x =>
    if !s1.answersSub x || decide (s1.tim.now < x.sent + ofMs 100) then s.done
    else
      let tc := match s1.condOf x.idx x.slot with
        | some q => fget Cond.T_CHANGE (s1.cond q)
        | none => 0
      (s1.mirrorSend x true false (fget Pt.LAST_SEQ (s1.pt x.idx)) tc).done

/-- MIRROR_ACK_TIMEOUT (R553): the oldest forwarded acknowledgement has had no answer. -/
def execMirrorAckTimeout (t : Nat) (s : State) : Host.Outcome State Fault Refusal :=
  let s1 := s.at_ t
  match s1.sec.acks with
  | [] => s.done
  | (_, r, tag, at_) :: l =>
    if s1.tim.now < at_ + ofMs (s1.rf Reg.SEC_MIRROR_TMO.TMO_MS) then s.done
    else ((s1.onSec fun x => { x with acks := l }).finishCmd r tag 0x20 (Reply.of 8)).done

end Sys2Proof.Machine
end

