-- ==== Sys2Proof/Machine/Cmw.lean ====
section
/-! DEFINITION. The waveform commands (R185 to R190, R195 to R208, R211 to R222, R556) and what the engine does by itself. -/

namespace Sys2Proof.Machine

/-! Ring granules and load (R186, R187, R203). -/

def granMax : Nat := 98304

/-- The granule runs of enabled channels, but for channel `ch`, in order of their start. -/
def State.granRuns (s : State) (ch : Nat) : List (Nat × Nat) :=
  s.cmw.chan.foldl (fun l e =>
    if e.1 != ch && fbit Chan.EN e.2 then insertRun (fget Chan.RING_BASE e.2, fget Chan.RING_GRAN e.2) l else l) []

/-- The free runs between runs in use. -/
def gapsFrom (top : Nat) : Nat → List (Nat × Nat) → List (Nat × Nat)
  | cur, [] => [(cur, top - cur)]
  | cur, r :: l => (cur, r.1 - cur) :: gapsFrom top (max cur (r.1 + r.2)) l

/-- The lowest free run of `n` granules for channel `ch`, its own ring counting as free. -/
def State.granRun (s : State) (ch n : Nat) : Option Nat :=
  ((gapsFrom granMax 0 (s.granRuns ch)).find? fun r => decide (n ≤ r.2)).map Prod.fst

/-- R186: PRE_S of a channel in ms, under definitions `defs`. -/
def preMs (defs : Tab (Rec 256)) (ch : Nat) : Nat :=
  defs.foldl (fun m e => if fbit Cap.VALID e.2 && (capChs e.2).contains ch then max m (fget Cap.PRE_MS e.2) else m) 0

/-- R186: the granules of a basic channel's ring. -/
def granOf (c : Rec 64) (pre : Nat) : Nat :=
  let n := fget Chan.RATE_CHZ c * sampleBytes c * (pre + 1000)
  let d := 100 * 1000 * 1048576
  (n + d - 1) / d

/-- R203: a channel's transform load in points per second, as a ratio. -/
def State.loadOf (s : State) (c : Rec 64) : Int × Nat :=
  let fs : Int × Nat := ((fget Chan.RATE_CHZ c : Nat), 100)
  let r : Int × Nat :=
    if fbit Chan.ORDER_EN c then
      let m := fratio f32 (fget Spd.MAX_RPM (tget 0 s.cmw.spd (fget Chan.SPEED_REF c)))
      (m.1 * ((2 ^ fget Chan.SPR_LOG2 c : Nat) : Int), m.2 * 60)
    else fs
  let ov : Int × Nat := (r.1 * ((overlapOf c : Nat) : Int), r.2)
  if fbit Chan.ENV_EN c then ratAdd ov (ratAdd (fs.1 * 4, fs.2) ov) else ov

/-- The totals over enabled channels, channel `ch` taken as `c`: rate in 0.01 S/s, load in points per second. -/
def State.totals (s : State) (ch : Nat) (c : Rec 64) : Nat × (Int × Nat) :=
  (s.cmw.chan.foldl (fun (a : Nat × (Int × Nat)) e =>
      if e.1 == ch || !fbit Chan.EN e.2 then a else (a.1 + fget Chan.RATE_CHZ e.2, ratAdd a.2 (s.loadOf e.2)))
    (if fbit Chan.EN c then (fget Chan.RATE_CHZ c, s.loadOf c) else (0, (0, 1))))

/-- The registers that show the engine's load and rings. -/
def State.cmwGauges (s : State) : State :=
  let (rate, load) := s.totals 65536 0
  let runs := gapsFrom granMax 0 (s.granRuns 65536)
  let up (n d : Nat) : Nat := (n + d - 1) / d
  (((s.wf Reg.CMW_INGEST_CFG.RATE_KS (up rate 100000)).wf Reg.CMW_FFT_CFG.LOAD_MPT (up load.1.toNat (load.2 * 1000000))).wf
    Reg.CMW_RING_FREE.FREE ((runs.map Prod.snd).sum)).wf Reg.CMW_RING_LARGEST.RUN ((runs.map Prod.snd).foldl max 0)

/-! Channels (R188 to R190, R195, R196). -/

/-- A channel profile (R195): WINDOW, OVERLAP, LOG2N in the time domain, LOG2N and SPR_LOG2 in the order domain (0: none),
and the envelope edges in hundredths of the sample rate (0: no envelope). -/
structure ChProf where
  win : Nat
  ov : Nat
  n : Nat
  on : Nat
  spr : Nat
  lo : Nat
  hi : Nat
  deriving DecidableEq, Repr

/-- R195: the profiles. -/
def chProfs : List ChProf := [
  ⟨1, 1, 13, 12, 8, 0, 0⟩, ⟨1, 1, 14, 12, 8, 4, 20⟩, ⟨1, 1, 14, 14, 9, 10, 35⟩, ⟨1, 2, 12, 11, 6, 0, 0⟩,
  ⟨3, 1, 16, 0, 0, 0, 0⟩, ⟨0, 0, 10, 0, 0, 5, 40⟩, ⟨0, 0, 8, 0, 0, 2, 45⟩, ⟨2, 0, 10, 0, 0, 0, 0⟩]

def chProf (k : Nat) : ChProf := chProfs.getD k ⟨0, 0, 8, 0, 0, 0, 0⟩

/-- R195: a basic descriptor with what the profile gives. -/
def deriveChan (c : Rec 64) : Rec 64 :=
  let f := chProf (fget Chan.PROFILE c)
  let rate := fget Chan.RATE_CHZ c
  let order := fbit Chan.ORDER_EN c
  let edge (h : Nat) : Nat := fofRat f32 ((h * rate : Nat) : Int) 10000
  let c := fput Chan.WINDOW f.win (fput Chan.OVERLAP f.ov (fput Chan.LOG2N (if order then f.on else f.n) c))
  fput Chan.SPR_LOG2 (if order then f.spr else 4) (fput Chan.ENV_EN (b2n (f.hi != 0)) (fput Chan.ENV_LO (edge f.lo)
    (fput Chan.ENV_HI (edge f.hi) c)))

/-- R556: the descriptor that CMW_CHANNEL gives, without its ring at basic level. -/
def chanNamed (c : Cmd) : Rec 64 :=
  let r : Rec 64 := BitVec.ofNat 512 (c.f 0x10 0 288)
  if fbit Chan.EXPERT r then r else fput Chan.RING_BASE 0 (fput Chan.RING_GRAN 0 (deriveChan r))

/-- R199: the reference's highest speed suits a channel: 2^SPR × MAX_RPM / 60 does not exceed its rate. -/
def orderFits (c : Rec 64) (maxRpm : Nat) : Bool :=
  let m := fratio f32 maxRpm
  ratLe (m.1 * ((2 ^ fget Chan.SPR_LOG2 c : Nat) : Int), m.2 * 60) (((fget Chan.RATE_CHZ c : Nat) : Int), 100)

/-- R187, R189, R199, R604: the faults of a channel command, by descriptor offset. -/
def State.chanFaults (s : State) (ch : Nat) (r : Rec 64) : List (Bool × Nat) :=
  let f := chProf (fget Chan.PROFILE r)
  let order := fbit Chan.ORDER_EN r
  let ref := tget 0 s.cmw.spd (fget Chan.SPEED_REF r)
  let rate := fget Chan.RATE_CHZ r
  let half := !ffinite f32 (fget Chan.ENV_HI r) || ratLt (rate, 200) (fratio f32 (fget Chan.ENV_HI r))
  let (tot, load) := s.totals ch r
  let more := !fbit Chan.EN (s.chan ch) || decide (fget Chan.RATE_CHZ (s.chan ch) < rate)
  let heavier := ratLt (s.totals ch (s.chan ch)).2 load
  let gran := fget Chan.RING_GRAN r
  let ai := fget Chan.AI_CH r
  let odr := fbit Chan.SRC_LOCAL r && !s.rb (Reg.LIO_AI.EXPERT ai) && (s.aiPoint ai).isNone && (odrExact rate).isNone
  [(fget Chan.FMT r == 3 || (order && (f.on == 0 || fget Spd.SRC ref == 0 || !orderFits r (fget Spd.MAX_RPM ref))) ||
      (fbit Chan.SRC_LOCAL r && !s.rb (Reg.LIO_AI.CMW_EN (fget Chan.AI_CH r))), 0x10),
   (rate == 0 || decide (256000000 < rate) || (fbit Chan.SRC_LOCAL r && decide (400000 < rate)) || odr ||
      (fbit Chan.EN r && more && decide (6400000000000 < tot)) || (heavier && ratLt (256000000000, 1) load), 0x14),
   (fget Chan.OVERLAP r == 3 || decide (logN r < 8) || decide (64 < fget Chan.NBANDS r) ||
      (order && (decide (fget Chan.SPR_LOG2 r < 4) || decide (10 < fget Chan.SPR_LOG2 r))), 0x18),
   (!ffinite f32 (fget Chan.SCALE r) || fabs f32 (fget Chan.SCALE r) == 0, 0x1C),
   (fbit Chan.ENV_EN r && !flt f32 (fget Chan.ENV_LO r) (fget Chan.ENV_HI r), 0x20), (fbit Chan.ENV_EN r && half, 0x24),
   (fbit Chan.EXPERT r && decide (granMax < fget Chan.RING_BASE r + gran), 0x28), (fbit Chan.EXPERT r && gran == 0, 0x2C)]

/-- R186, R196: the ring of a basic channel: kept when its size stays, else the lowest free run. -/
def State.ringFor (s : State) (ch n : Nat) : Option Nat :=
  let o := s.chan ch
  if fbit Chan.EN o && !fbit Chan.EXPERT o && fget Chan.RING_GRAN o == n then some (fget Chan.RING_BASE o) else s.granRun ch n

/-- R186: what a command without a free run answers: BUSY where enough granules are free in total, else RANGE. -/
def State.noRing (s : State) (ch n det : Nat) : Reply :=
  if n ≤ ((gapsFrom granMax 0 (s.granRuns ch)).map Prod.snd).sum then Reply.of 6 else Reply.range det

/-- R188, R190, R222: a descriptor is written. -/
def State.writeChan (ch : Nat) (r : Rec 64) (s : State) : State :=
  let o := s.chan ch
  let bytes (c : Rec 64) : Nat := fget ⟨0, 192⟩ c
  let ring (c : Rec 64) : Nat × Nat := (fget Chan.RING_BASE c, fget Chan.RING_GRAN c)
  let on := fbit Chan.EN o
  let s := if on && bytes r != bytes o then s.chanRestart ch else if ring r != ring o then s.ringEmpty ch else s
  let cfg := fget ⟨0, 288⟩ r
  let s := s.modChan ch fun c => fput Chan.DESC_CRC (crc32c 0 36 cfg) (fput ⟨0, 288⟩ cfg c)
  ((if on && fbit Chan.EN r then s else s.modChx ch fun x => { x.empty with started := false }).cmwGauges).aiFollow

/-- The checks of CMW_CHANNEL (R186 to R190, R195, R196, R556). -/
def specCmwChannel (c : Cmd) : State → Spec :=
  let ch := c.f 8 0 16
  let r := chanNamed c
  fun s => { op := 0x40, obj := ch, fault := faultAt (s.chanFaults ch r) }

/-- The effect of CMW_CHANNEL (R186 to R190, R195, R196, R556). -/
def bodyCmwChannel (c : Cmd) : State → Option Reply × State :=
  let ch := c.f 8 0 16
  let r := chanNamed c
  fun s =>
    let res (s : State) : Reply := Reply.with2 (fget Chan.RING_BASE (s.chan ch)) (fget Chan.RING_GRAN (s.chan ch))
    let write (r : Rec 64) : Option Reply × State :=
      let s := (s.writeChan ch r).dirtyHost
      (some (res s), s)
    if fbit Chan.EXPERT r || !fbit Chan.EN r then write r
    else
      let n := granOf r (preMs s.cmw.defs ch)
      match s.ringFor ch n with
      | some b => write (fput Chan.RING_BASE b (fput Chan.RING_GRAN n r))
      | none => (some (s.noRing ch n 0x14), s)

/-- CMW_CHANNEL (R186 to R190, R195, R196, R556). -/
def execCmwChannel (t : Nat) (c : Cmd) (s : State) : Host.Outcome State Fault Refusal :=
  (s.command t (specCmwChannel c) c (bodyCmwChannel c)).done

/-- R205: the buffer offset of the first band at fault. -/
def bandFault (r : Rec 64) (bands : List (Rec 16)) : Option Nat :=
  let half : Int × Nat := if fbit Chan.ORDER_EN r then (((2 ^ fget Chan.SPR_LOG2 r : Nat) : Int), 2) else ((fget Chan.RATE_CHZ r : Nat), 200)
  ((List.range bands.length).zip bands).findSome? fun e =>
    let b := e.2
    if !flt f32 (fget Band.LO b) (fget Band.HI b) || (bandBins r b).isEmpty then some (16 * e.1)
    else if !ffinite f32 (fget Band.HI b) || ratLt half (fratio f32 (fget Band.HI b)) then some (16 * e.1 + 4)
    else if fbit Band.ENV b && !fbit Chan.ENV_EN r then some (16 * e.1 + 8) else none

/-- The checks of CMW_BAND (R190, R205, R556). -/
def specCmwBand (c : Cmd) : State → Spec :=
  let ch := c.f 8 0 16
  let first := c.f 0x10 0 6
  let n := c.f 0x10 8 7
  let bands : List (Rec 16) := (List.range n).map fun k => BitVec.ofNat 128 (c.inp >>> (128 * k))
  fun s =>
    { op := 0x41, obj := ch, fault := faultAt [(n == 0 || decide (64 < first + n), 0x10)], need := 16 * n
      hbm := [(0x201000000 + 16 * (64 * ch + first), 16 * n)]
      bfault := bandFault (s.chan ch) bands }

/-- The effect of CMW_BAND (R190, R205, R556). -/
def bodyCmwBand (c : Cmd) : State → Option Reply × State :=
  let ch := c.f 8 0 16
  let first := c.f 0x10 0 6
  let n := c.f 0x10 8 7
  let bands : List (Rec 16) := (List.range n).map fun k => BitVec.ofNat 128 (c.inp >>> (128 * k))
  (okWith fun s =>
      let s := if fbit Chan.EN (s.chan ch) then s.chanRestart ch else s
      (s.onCmw fun w => { w with band := (List.range n).foldl (fun t k => tset 0 t (64 * ch + first + k) (bands.getD k 0)) w.band }).dirtyHost)

/-- CMW_BAND (R190, R205, R556). -/
def execCmwBand (t : Nat) (c : Cmd) (s : State) : Host.Outcome State Fault Refusal :=
  (s.command t (specCmwBand c) c (bodyCmwBand c)).done

/-- Enabled order channels of a reference. -/
def State.refUsers (s : State) (k : Nat) : List (Rec 64) :=
  (s.cmw.chan.filter fun e => fbit Chan.EN e.2 && fbit Chan.ORDER_EN e.2 && fget Chan.SPEED_REF e.2 == k).map Prod.snd

/-- R187, R203: with entry `e` at reference `k` the transform load would grow beyond its limit. -/
def State.refHeavy (k : Nat) (e : Rec 16) (s : State) : Bool :=
  let load (s : State) : Int × Nat := (s.totals 65536 0).2
  let l := load (s.onCmw fun w => { w with spd := tset 0 w.spd k e })
  ratLt (load s) l && ratLt (256000000000, 1) l

/-- The checks of CMW_SPEED_REF (R187, R197, R199, R556). -/
def specCmwSpeedRef (c : Cmd) : State → Spec :=
  let k := c.f 8 0 12
  let e : Rec 16 := BitVec.ofNat 128 (c.f 0x10 0 128)
  let src := fget Spd.SRC e
  let lo := fget Spd.MIN_RPM e
  let hi := fget Spd.MAX_RPM e
  fun s =>
    let kind := s.kind (fget Spd.SPEED_IDX e)
    { op := 0x42, obj := k, fault := faultAt [
        (src == 3 || (src == 1 && (decide (47 < fget Spd.DIO_CH e) || fget Spd.PPR e == 0 || decide (1024 < fget Spd.PPR e))), 0x10),
        (src == 2 && !(kind == kAnalog || kind == kDerived), 0x14),
        (!(ffinite f32 lo && flt f32 0 lo), 0x18),
        (!(ffinite f32 hi && flt f32 lo hi) || s.refHeavy k e, 0x1C)] }

/-- The effect of CMW_SPEED_REF (R197, R199, R556). -/
def bodyCmwSpeedRef (c : Cmd) : State → Option Reply × State :=
  let k := c.f 8 0 12
  let e : Rec 16 := BitVec.ofNat 128 (c.f 0x10 0 128)
  let src := fget Spd.SRC e
  let hi := fget Spd.MAX_RPM e
  fun s =>
      if (s.refUsers k).any fun r => src == 0 || !orderFits r hi then (some (Reply.of 6), s)
      else (some Reply.ok, ((s.onCmw fun w => { w with spd := tset 0 w.spd k e }).cmwGauges).dirtyHost)

/-- CMW_SPEED_REF (R187, R197, R199, R556). -/
def execCmwSpeedRef (t : Nat) (c : Cmd) (s : State) : Host.Outcome State Fault Refusal :=
  (s.command t (specCmwSpeedRef c) c (bodyCmwSpeedRef c)).done

/-- The checks of CMW_BIND (R207, R208, R556). -/
def specCmwBind (c : Cmd) : State → Spec :=
  let n := c.f 8 0 20
  let e : Rec 16 := BitVec.ofNat 128 (c.f 0x10 0 128)
  let on := fbit Bnd.VALID e
  fun s =>
    let p := s.pt (fget Bnd.POINT e)
    let others := (s.cmw.bnd.filter fun b => b.1 != n && fbit Bnd.VALID b.2).map Prod.snd
    { op := 0x43, obj := n, fault := if !on then none else faultAt [
        (decide (3 + fget Chan.NBANDS (s.chan (fget Bnd.CHANNEL e)) < fget Bnd.FEATURE e), 0x10),
        (fget Pt.KIND p != kDerived || !fbit Pt.SRC_CMW p || others.any fun b => fget Bnd.POINT b == fget Bnd.POINT e, 0x14),
        (fbit Bnd.DEV e && others.any fun b => fbit Bnd.DEV b && fget Bnd.BSET b == fget Bnd.BSET e, 0x18)] }

/-- The effect of CMW_BIND (R207, R208, R556). -/
def bodyCmwBind (c : Cmd) : State → Option Reply × State :=
  let n := c.f 8 0 20
  let e : Rec 16 := BitVec.ofNat 128 (c.f 0x10 0 128)
  let on := fbit Bnd.VALID e
  (okWith fun s => (s.onCmw fun w => { w with bnd := tset 0 w.bnd n (if on then e else 0) }).dirtyHost)

/-- CMW_BIND (R207, R208, R556). -/
def execCmwBind (t : Nat) (c : Cmd) (s : State) : Host.Outcome State Fault Refusal :=
  (s.command t (specCmwBind c) c (bodyCmwBind c)).done

/-! Baselines (R211 to R215). -/

/-- R211, R556: the buffer offset of the first fault of a set's header; `whole`: operation 1. -/
def baseFault (whole : Bool) (b : Rec 4096) : Option Nat :=
  let f (a b : Nat) : Bool := !flt f32 a b
  (([(fget Base.DEV_KIND b == 3 || (whole && !fbit Base.EXPERT b), 0x00), (!idxOk (fget Base.SPD_IDX b), 0x04),
    (!idxOk (fget Base.LOAD_IDX b), 0x08), (f (fget Base.SPD_LO b) (fget Base.SPD_HI b), 0x0C),
    (f (fget Base.LOAD_LO b) (fget Base.LOAD_HI b), 0x14), (fget Base.READY_N b == 0, 0x1C),
    (decide (fget Base.LEARN_N b < fget Base.READY_N b), 0x20),
    (!(fle f32 0 (fget Base.FLOOR b) && fle f32 (fget Base.FLOOR b) 0x3F800000), 0x24)] : List (Bool × Nat)).find?
      Prod.fst).map Prod.snd

/-- The header of a set, and its bins. -/
def Base.HEAD : Fld := ⟨0, 320⟩
def Base.BINS : Fld := ⟨512, 32256⟩
/-- SPD_IDX, LOAD_IDX and the bin ranges. -/
def Base.AXES : Fld := ⟨32, 192⟩

/-- The checks of CMW_BASELINE (R211, R215, R556). -/
def specCmwBaseline (c : Cmd) : State → Spec :=
  let n := c.f 8 0 19
  let op := c.f 0x0C 0 2
  let b : Rec 4096 := BitVec.ofNat 32768 c.inp
  fun _ =>
    { op := 0x44, obj := n, need := if op == 0 then 40 else if op == 2 then 0 else 4096
      hbm := if op == 2 then [] else [(0x300000000 + 4096 * n, if op == 0 then 40 else 4096)]
      bfault := if op < 2 then baseFault (op == 1) b else none }

/-- The effect of CMW_BASELINE (R211, R215, R556). -/
def bodyCmwBaseline (c : Cmd) : State → Option Reply × State :=
  let n := c.f 8 0 19
  let op := c.f 0x0C 0 2
  let b : Rec 4096 := BitVec.ofNat 32768 c.inp
  (okWith fun s =>
      match op with
      | 0 =>
        let o := s.base n
        let o := if fget Base.AXES o != fget Base.AXES b then fput Base.BINS 0 o else o
        (s.setBase n (fput Base.HEAD (fget Base.HEAD b) o)).dirtyHost
      | 1 => (s.setBase n b).dirtyHost
      | 2 => s.setBase n (fput Base.BINS 0 (s.base n))
      | _ => s.bufPut c 4096 (s.base n).toNat)

/-- CMW_BASELINE (R211, R215, R556). -/
def execCmwBaseline (t : Nat) (c : Cmd) (s : State) : Host.Outcome State Fault Refusal :=
  (s.command t (specCmwBaseline c) c (bodyCmwBaseline c)).done

/-! Captures (R217 to R220). -/

/-- R217: the configuration bytes of a capture definition. -/
def capNamed (c : Cmd) (old : Rec 256) : Rec 256 :=
  let r : Rec 256 := BitVec.ofNat 2048 c.inp
  if fbit Cap.VALID r then fput ⟨160, 96⟩ (fget ⟨160, 96⟩ old) r else 0

/-- R217, R218, R372: the buffer offset of the first fault of a capture definition. -/
def State.capFault (s : State) (r : Rec 256) : Option Nat :=
  if !fbit Cap.VALID r then none
  else
    let n := fget Cap.NCH r
    let chBad (ch : Nat) : Bool :=
      let o := s.chan ch
      !fbit Chan.EN o || (fbit Chan.EXPERT o && decide (ringCap o * 100000 < fget Chan.RATE_CHZ o * (fget Cap.PRE_MS r + 500)))
    (([(fget Cap.TRIG_KIND r == 3 || n == 0 || decide (64 < n), 0x00), (decide (60000 < fget Cap.PRE_MS r), 0x08),
      (!s.rb (Reg.HST_VOL.CAPTURE (fget Cap.VOLUME r)), 0x10)] ++
      ((List.range (min n 64)).map fun k => (chBad (fget (Cap.CH k) r), 0x20 + 2 * k)) : List (Bool × Nat)).find? Prod.fst).map Prod.snd

/-- R186: basic rings that a definition enlarges, one after the other; none where one finds no run. -/
def State.growRings (defs : Tab (Rec 256)) : List Nat → State → Option Reply × State
  | [], s => (none, s)
  | ch :: l, s =>
    let o := s.chan ch
    let n := granOf o (preMs defs ch)
    if !fbit Chan.EN o || fbit Chan.EXPERT o || n ≤ fget Chan.RING_GRAN o then State.growRings defs l s
    else match s.granRun ch n with
      | none => (some (s.noRing ch n 0x38), s)
      | some b => State.growRings defs l (s.writeChan ch (fput Chan.RING_BASE b (fput Chan.RING_GRAN n o)))

/-- The checks of CMW_CAPTURE_DEF (R186, R217, R372, R556). -/
def specCmwCaptureDef (c : Cmd) : State → Spec :=
  let d := c.f 8 0 10
  fun s =>
    { op := 0x45, obj := d, need := 256, hbm := [(0x20A000000 + 256 * d, 256)], bfault := s.capFault (capNamed c (s.capDef d)) }

/-- The effect of CMW_CAPTURE_DEF (R186, R217, R372, R556). -/
def bodyCmwCaptureDef (c : Cmd) : State → Option Reply × State :=
  let d := c.f 8 0 10
  fun s =>
      if (s.capture d).isSome then (some (Reply.of 6), s)
      else
        let r := capNamed c (s.capDef d)
        match State.growRings (tset 0 s.cmw.defs d r) (capChs r).eraseDups s with
        | (some e, _) => (some e, s)
        | (none, u) => (some Reply.ok, (u.setDef d r).dirtyHost)

/-- CMW_CAPTURE_DEF (R186, R217, R372, R556). -/
def execCmwCaptureDef (t : Nat) (c : Cmd) (s : State) : Host.Outcome State Fault Refusal :=
  (s.command t (specCmwCaptureDef c) c (bodyCmwCaptureDef c)).done

/-- The checks of CMW_CAPTURE_TRIG (R219, R556). -/
def specCmwCaptureTrig (c : Cmd) : State → Spec :=
  let d := c.f 8 0 10
  fun _ => { op := 0x46, obj := d }

/-- The effect of CMW_CAPTURE_TRIG (R219, R556). -/
def bodyCmwCaptureTrig (c : Cmd) : State → Option Reply × State :=
  let d := c.f 8 0 10
  fun s =>
    let (a, s) := s.fresh
    let (b, s) := s.fresh
    let s := s.capTrigger d s.wt (a % 2 ^ 32) (b % 2 ^ 32)
    (some ⟨0, 0, fget Cap.CAP_COUNT (s.capDef d)⟩, s)

/-- CMW_CAPTURE_TRIG (R219, R556). The record of a capture that no condition starts names no trigger: its TRIG and TRIG_SEQ
are free values (log entry 31). -/
def execCmwCaptureTrig (t : Nat) (c : Cmd) (s : State) : Host.Outcome State Fault Refusal :=
  (s.command t (specCmwCaptureTrig c) c (bodyCmwCaptureTrig c)).done

/-- The checks of CMW_CAPTURE_STOP (R220, R556). -/
def specCmwCaptureStop (c : Cmd) : State → Spec :=
  let d := c.f 8 0 10
  fun s => { op := 0x47, obj := d, notReady := (s.capture d).isNone }

/-- The effect of CMW_CAPTURE_STOP (R220, R556). -/
def bodyCmwCaptureStop (c : Cmd) : State → Option Reply × State :=
  let d := c.f 8 0 10
  (okWith fun s => ((capChs (s.capDef d)).foldl (fun s ch => s.capSync d ch) s).capEnd d 1 none)

/-- CMW_CAPTURE_STOP (R220, R556). -/
def execCmwCaptureStop (t : Nat) (c : Cmd) (s : State) : Host.Outcome State Fault Refusal :=
  (s.command t (specCmwCaptureStop c) c (bodyCmwCaptureStop c)).done

/-- The checks of CMW_READ (R556). -/
def specCmwRead (c : Cmd) : State → Spec :=
  let ch := c.f 8 0 16
  fun s =>
    let n := fget Chan.NBANDS (s.chan ch)
    { op := 0x48, obj := ch, need := 64 + 16 * n
      hbm := (0x200000000 + 64 * ch, 64) :: (if n == 0 then [] else [(0x201000000 + 1024 * ch, 16 * n)]) }

/-- The effect of CMW_READ (R556). -/
def bodyCmwRead (c : Cmd) : State → Option Reply × State :=
  let ch := c.f 8 0 16
  fun s =>
    let r := s.chan ch
    let n := fget Chan.NBANDS r
    let bands := (List.range n).foldr (fun k v => (tget 0 s.cmw.band (64 * ch + k)).toNat + v * 2 ^ 128) 0
    (some ⟨0, 0, n⟩, s.bufPut c (64 + 16 * n) (r.toNat + bands * 2 ^ 512))

/-- CMW_READ (R556). -/
def execCmwRead (t : Nat) (c : Cmd) (s : State) : Host.Outcome State Fault Refusal :=
  (s.command t (specCmwRead c) c (bodyCmwRead c)).done

/-! What the engine does by itself. -/

/-- CMW_BLOCK (R192, R193): the next block is placed on its channel's timeline. -/
def execCmwBlock (t : Nat) (s : State) : Host.Outcome State Fault Refusal :=
  let s1 := s.at_ t
  match s1.cmw.inq with
  | [] => s.done
  | b :: l => if !s1.ready 14 then s.done else ((s1.onCmw fun w => { w with inq := l }).placeBlock b).done

/-- FRAME_FEATURES (R209): the next complete frame is processed. -/
def execFrameFeatures (t : Nat) (s : State) : Host.Outcome State Fault Refusal :=
  let s1 := s.at_ t
  match s1.cmw.frames with
  | [] => s.done
  | f :: l => if !s1.ready 14 then s.done else ((s1.onCmw fun w => { w with frames := l }).frameFeatures f).done

/-- R622: a timestamp's resolution of 20 ns. -/
def stamp20 (w : Nat) : Nat := (w * 50000000 / 2 ^ 32 * 2 ^ 32 + 49999999) / 50000000

/-- TACH_PULSE (R198, R620, R622): a rising edge of digital input `dio` in mode TACH, timestamped to 20 ns; one closer to the
last than DEB × 10 µs, or beyond 50,000 a second, is ignored. -/
def execTachPulse (t dio : Nat) (s : State) : Host.Outcome State Fault Refusal :=
  let s1 := s.at_ t
  let last := tget 0 s1.cmw.pulseAt dio
  let w := stamp20 (s1.ioStamp s1.wt)
  let gap := max (ofUs (10 * s1.rf (Reg.LIO_DIO.DEB dio))) (ofUs 20)
  if 47 < dio || s1.rf (Reg.LIO_DIO.MODE dio) != 3 || (last != 0 && decide (w < last - 1 + gap)) then s.done
  else ((s1.onCmw fun c => { c with pulseAt := tset 0 c.pulseAt dio (w + 1) }).tachPulse dio w).done

/-- R199: the watch time without a pulse after which a reference counts as stopped, 120 / (MIN_RPM × PPR) s. -/
def pulseLimit (e : Rec 16) : Nat :=
  let m := fratio f32 (fget Spd.MIN_RPM e)
  (120 * 2 ^ 32 * m.2) / (m.1.toNat * fget Spd.PPR e)

/-- SPEED_STOPPED (R199): no pulse of channel `ch`'s reference for that time. -/
def execSpeedStopped (t ch : Nat) (s : State) : Host.Outcome State Fault Refusal :=
  let s1 := s.at_ t
  let c := s1.chan ch
  let e := tget 0 s1.cmw.spd (fget Chan.SPEED_REF c)
  let last := tget 0 s1.cmw.pulseAt (fget Spd.DIO_CH e)
  if !s1.ready 14 || !(fbit Chan.EN c && fbit Chan.ORDER_EN c && fget Spd.SRC e == 1) || fbit Chan.STOPPED c ||
      decide (s1.wt < last - 1 + pulseLimit e) then s.done
  else (s1.chanStop ch).done

/-- CAPTURE_END (R220): the window of the running capture of definition `d` has passed, its samples have arrived, each started
channel's timeline being past its end, and are copied. -/
def execCaptureEnd (t d : Nat) (s : State) : Host.Outcome State Fault Refusal :=
  let s1 := s.at_ t
  match s1.capture d with
  | none => s.done
  | some c =>
    let chs := capChs (s1.capDef d)
    match c.tEnd with
    | none => s.done
    | some e =>
      let wait := chs.any fun ch => (s1.chx ch).started && decide (fget Chan.T_NEXT (s1.chan ch) ≤ e)
      if decide (s1.wt < e) || wait then s.done else ((chs.foldl (fun s ch => s.capSync d ch) s1).capEnd d 0 none).done

/-- BASELINE_CHECKPOINT (R215): every CKPT_MIN minutes. -/
def execBaselineCheckpoint (t : Nat) (s : State) : Host.Outcome State Fault Refusal :=
  let s1 := s.at_ t
  if !s1.ready 14 || decide (s1.wt < s1.cmw.ckptAt + s1.rf Reg.CMW_CTRL.CKPT_MIN * 60 * 2 ^ 32) then s.done
  else (s1.onCmw fun w => { w with ckpt := w.base, ckptAt := s1.wt }).done

end Sys2Proof.Machine
end

