-- ==== Sys2Proof/Machine/Elem.lean ====
section
/-! DEFINITION. The exponential, logarithm and sine that loop supervision and tuning call for (R274, R294): computed in fixed
point with 128 fraction bits, from which the result is rounded once (DEDUCED, log entry 33). -/

namespace Sys2Proof.Machine

/-- π and ln 2 in units of 2^-128. -/
def piFix : Nat := 1069028584064966747859680373161870783300
def ln2Fix : Nat := 235865763225513294137944142764154484399

def fixOne : Nat := 2 ^ 128

/-- A sum of `n` terms from `t` on, term `k + 1` being term `k` times `x / d k` (fixed point, toward minus infinity). -/
def seriesGo (x : Int) (d : Nat → Nat) : Nat → Nat → Int → Int
  | 0, _, _ => 0
  | n + 1, k, t => t + seriesGo x d n (k + 1) (t * x / ((fixOne * d k : Nat) : Int))

/-- e^x for a fixed-point x of at most ln 2 in size. -/
def expFix (x : Int) : Int := seriesGo x (fun k => k + 1) 45 0 ((fixOne : Nat) : Int)

/-- e^x as `m × 2^e`, for a fixed-point x. -/
def expDy (x : Int) : Int × Int :=
  let k := x / ((ln2Fix : Nat) : Int)
  (expFix (x - k * ((ln2Fix : Nat) : Int)), k - 128)

/-- A positive ratio's exponential of its negative, e^(−n/d), as `m × 2^e`; zero when it lies below 2^-400. -/
def expNegDy (n d : Nat) : Int × Int := if 300 * d < n then (0, 0) else expDy (-(((n * fixOne / d : Nat) : Nat) : Int))

/-- e^(−n/d) as binary32. -/
def expNeg32 (n d : Nat) : Nat :=
  let r := expNegDy n d
  froundI f32 r.1 r.2

/-- 1 − e^(−n/d) as binary32. -/
def oneMinusExp32 (n d : Nat) : Nat :=
  let r := expNegDy n d
  if r.1 == 0 then 0x3F800000
  else
    let e := if 0 ≤ r.2 + 128 then r.1 * ((2 ^ (r.2 + 128).toNat : Nat) : Int) else r.1 / ((2 ^ (-(r.2 + 128)).toNat : Nat) : Int)
    froundI f32 (((fixOne : Nat) : Int) - e) (-128)

/-- ln (n / d) of a positive ratio, in fixed point. -/
def lnFix (n d : Nat) : Int :=
  let k : Int := ((Nat.log2 n : Nat) : Int) - ((Nat.log2 d : Nat) : Int)
  let (n, d) := if 0 ≤ k then (n, d * 2 ^ k.toNat) else (n * 2 ^ (-k).toNat, d)
  let z : Int := (((n : Nat) : Int) - ((d : Nat) : Int)) * ((fixOne : Nat) : Int) / ((n + d : Nat) : Int)
  let z2 := z * z / ((fixOne : Nat) : Int)
  let terms := (List.range 60).foldl (fun (a : Int × Int) k =>
    (a.1 + a.2 / ((2 * k + 1 : Nat) : Int), a.2 * z2 / ((fixOne : Nat) : Int))) ((0 : Int), z)
  2 * terms.1 + k * ((ln2Fix : Nat) : Int)

/-- The sine of `p / 2^32` turn, in fixed point. -/
def sinFix (p : Nat) : Int :=
  let p := p % 2 ^ 32
  let q := p / 2 ^ 30
  let r := p % 2 ^ 30
  let r := if q % 2 == 1 then 2 ^ 30 - r else r
  let x : Int := ((piFix * r / 2 ^ 31 : Nat) : Int)
  let x2 := -(x * x / ((fixOne : Nat) : Int))
  let s := seriesGo x2 (fun k => (2 * k + 2) * (2 * k + 3)) 30 0 x
  if 2 ≤ q then -s else s

/-- The nearest integer of `n / d`, ties away from zero. -/
def roundAway (n : Int) (d : Nat) : Int :=
  if 0 ≤ n then (2 * n + (d : Int)) / ((2 * d : Nat) : Int) else -((-2 * n + (d : Int)) / ((2 * d : Nat) : Int))

/-- The nearest integer of the square root of `n / d`, ties to even. -/
def roundSqrt (n d : Nat) : Nat :=
  if d == 0 then 0
  else
    let k := isqrt (n / d)
    let a := (2 * k + 1) * (2 * k + 1) * d
    if a < 4 * n || (a == 4 * n && k % 2 == 1) then k + 1 else k

end Sys2Proof.Machine
end

