-- ==== Sys2Proof/Machine/CtlCalc.lean ====
section
/-! DEFINITION. The arithmetic of control loops (R239, R240, R243 to R255, R257, R273, R274, R276 to R278, R292 to R295) and their
schedule (R225, R234), as functions of records and values. -/

namespace Sys2Proof.Machine

/-! Fields that R228 and R229 lay out. -/

def Loop.EN : Fld := ⟨0, 1⟩
def Loop.EXPERT : Fld := ⟨1, 1⟩
def Loop.LAW : Fld := ⟨2, 2⟩
def Loop.ACTION : Fld := ⟨4, 1⟩
def Loop.NSEC : Fld := ⟨5, 3⟩
def Loop.COMP_MODE : Fld := ⟨8, 2⟩
def Loop.SP_SRC : Fld := ⟨10, 1⟩
def Loop.SP_TRACK : Fld := ⟨11, 1⟩
def Loop.CAS_EN : Fld := ⟨12, 1⟩
def Loop.RESTART_AUTO : Fld := ⟨13, 1⟩
def Loop.TRK_EN : Fld := ⟨14, 1⟩
def Loop.B0 (k : Nat) : Fld := ⟨768 + 128 * k, 16⟩
def Loop.B1 (k : Nat) : Fld := ⟨768 + 128 * k + 16, 16⟩
def Loop.B2 (k : Nat) : Fld := ⟨768 + 128 * k + 32, 16⟩
def Loop.A1 (k : Nat) : Fld := ⟨768 + 128 * k + 48, 16⟩
def Loop.A2 (k : Nat) : Fld := ⟨768 + 128 * k + 64, 16⟩
def Loop.SH (k : Nat) : Fld := ⟨768 + 128 * k + 80, 2⟩
/-- The whole section entry and the section's states with their sign copies (R230). -/
def Loop.SECT (k : Nat) : Fld := ⟨768 + 128 * k, 128⟩
def Loop.S1 (k : Nat) : Fld := ⟨2432 + 128 * k, 64⟩
def Loop.S2 (k : Nat) : Fld := ⟨2496 + 128 * k, 64⟩
/-- The configuration half, the twin words, the supervision state. -/
def Loop.HALF : Fld := ⟨0, 2048⟩
def Loop.TWINS : Fld := ⟨2048, 192⟩
def Loop.SUPST : Fld := ⟨3456, 640⟩
def Loop.MODE_W : Fld := ⟨2048, 32⟩
def Loop.MAN_W : Fld := ⟨2176, 32⟩

def mMan : Nat := 0
def mAuto : Nat := 1
def mCascade : Nat := 2
def mTrack : Nat := 3
def mHold : Nat := 4
def mSafe : Nat := 5

/-- AUTO or CASCADE. -/
def closedMode (m : Nat) : Bool := m == mAuto || m == mCascade

def Loop.putMode {n : Nat} (m : Nat) (r : BitVec n) : BitVec n := fput Loop.MODE_N (twinOf m) (fput Loop.MODE_W m r)
def Loop.putSp {n : Nat} (v : Nat) (r : BitVec n) : BitVec n := fput Loop.SP_N (twinOf v) (fput Loop.SP v r)
def Loop.putMan {n : Nat} (q : Nat) (r : BitVec n) : BitVec n :=
  fput Loop.MAN_OUT_N (twinOf (q % 65536)) (fput Loop.MAN_W (q % 65536) r)

/-- R227: the configuration half and the record of a loop that no command has configured: OUT_HI 32,767, the copies and
CFG_CRC as they belong to it. -/
def Loop.factoryHalf : Rec 256 :=
  fput Loop.LCTRL_N 0xFFFFFFFF (fput Loop.OUT_HI 32767 (fput Loop.CFG_CRC 0xFA13FE97 0))
def Loop.factory : Rec 512 :=
  Loop.putMode mMan (Loop.putSp 0 (Loop.putMan 0 (fput Loop.HALF Loop.factoryHalf.toNat 0)))

/-- CFG_CRC computed (R227). -/
def Loop.seal (h : Rec 256) : Rec 256 := fput Loop.CFG_CRC (crc32c 0 0xE4 h.toNat) h

/-- R265: a configuration half passes its checks. -/
def Loop.intact (h : Rec 256) : Bool :=
  twinOk (fget Loop.LCTRL h) (fget Loop.LCTRL_N h) && fget Loop.CFG_CRC h == crc32c 0 0xE4 h.toNat

/-- R271: a supervision record passes its checks. -/
def Sup.intact (r : Rec 64) : Bool :=
  twinOk (r.toNat % 2 ^ 32) (fget Sup.SCTRL_N r) && fget Sup.SUP_CRC r == crc32c 0 0x3C r.toNat

def Sup.seal (r : Rec 64) : Rec 64 :=
  let r := fput Sup.SCTRL_N (twinOf (r.toNat % 2 ^ 32)) r
  fput Sup.SUP_CRC (crc32c 0 0x3C r.toNat) r

/-- R271: the factory record. -/
def Sup.factory : Rec 64 :=
  Sup.seal (fput Sup.RLIM 1311 (fput Sup.IMP_M 255 (fput Sup.FRZ_N 255 (fput Sup.FRZ_BAND 131 (fput Sup.MODEL_T 60
    (fput Sup.STALE_P 3 (fput Sup.SUP_EN 1 0)))))))

/-! The schedule (R225, R234). -/

/-- The last cycle that has begun at a watch time, the first that begins at or after it, and the watch time at which a
cycle begins. -/
def cycOf (w : Nat) : Nat := w * 400000000 / 2 ^ 32
def cycFrom (w : Nat) : Nat := (w * 400000000 + (2 ^ 32 - 1)) / 2 ^ 32
def cycWt (c : Nat) : Nat := (c * 2 ^ 32 + 399999999) / 400000000

/-- R234: the first nominal commit cycle of a configuration at or after a cycle. -/
def firstCommit (h : Rec 256) (c : Nat) : Nat :=
  let p := fget Loop.PERIOD h * 4000
  let off := (fget Loop.PHASE h * p + 255) / 256
  if p == 0 then c else (c - off + (p - 1)) / p * p + off

/-! Fractions (R243, R248, R253). -/

def q15 (x : Int) : Int := clampI x (-32768) 32767

/-- A binary32 times 2^bits, rounded to even and limited; a quotient that is not a number is a free value. -/
def scaled (v bits : Nat) (lo hi : Int) (free : Nat) : Int :=
  match fdec f32 v with
  | .fin s m e => clampI (reDy (sgnd s m) (e + (bits : Int))) lo hi
  | .inf s => if s then lo else hi
  | .nan => clampI (sext 32 free) lo hi

/-- (v − lo) / (hi − lo) in binary32. -/
def spanFrac (v lo hi : Nat) : Nat := fdiv f32 (fsub f32 v lo) (fsub f32 hi lo)

/-- R253: q(v). -/
def qOf (h : Rec 256) (v : Nat) : Int :=
  let lo := fget Loop.OUT_EU_LO h
  let hi := fget Loop.OUT_EU_HI h
  scaled (spanFrac v lo hi) 15 (-32768) 32767 (Config.nanFraction v lo hi)

/-- R255: the engineering value of an output. -/
def uEng (h : Rec 256) (u : Int) : Nat :=
  let lo := fget Loop.OUT_EU_LO h
  fadd f32 lo (fdiv f32 (fmul f32 (fofInt f32 u) (fsub f32 (fget Loop.OUT_EU_HI h) lo)) 0x47000000)

/-- R243: the input of section 0. -/
def loopX0 (h : Rec 256) (sp pv : Nat) : Int :=
  let e := if fbit Loop.ACTION h then fsub f32 pv sp else fsub f32 sp pv
  let d := fdiv f32 e (fsub f32 (fget Loop.IN_HI h) (fget Loop.IN_LO h))
  scaled d 15 (-32768) 32767 (Config.nanFraction e (fget Loop.IN_LO h) (fget Loop.IN_HI h))

/-! Sections (R244 to R246, R257). -/

/-- What the sections give: the last one's output and input, whether it saturated, whether any did, the states after. -/
structure SecOut where
  y : Int
  x : Int
  sat : Bool
  any : Bool
  r : Rec 512
  deriving DecidableEq, Repr

/-- R244: S1 and S2 of a section after its input `x` and output `y`. -/
def secState (k : Nat) (x y : Int) (r : Rec 512) : Rec 512 :=
  let sh : Int := ((2 ^ fget (Loop.SH k) r : Nat) : Int)
  let s1 := (fgetS (Loop.B1 k) r * x - fgetS (Loop.A1 k) r * y) * sh + fgetS (Loop.S2 k) r
  let s2 := (fgetS (Loop.B2 k) r * x - fgetS (Loop.A2 k) r * y) * sh
  fputS (Loop.S2 k) s2 (fputS (Loop.S1 k) s1 r)

/-- R244, R245: sections `k` to `k + n`; `preset`: U_LAST − c of a transfer evaluation, for the last section (R257). The last
section's states are left to `secState`. -/
def runSecs (preset : Option Int) : (n k : Nat) → (x : Int) → (any : Bool) → Rec 512 → SecOut
  | n, k, x, any, r =>
    let bx := fgetS (Loop.B0 k) r * x * ((2 ^ fget (Loop.SH k) r : Nat) : Int)
    let s1 := match n, preset with
      | 0, some u => q15 u * 32768 - bx
      | _, _ => fgetS (Loop.S1 k) r
    let raw := (bx + s1 + 16384) / 32768
    let y := q15 raw
    let any := any || y != raw
    match n with
    | 0 => { y := y, x := x, sat := y != raw, any := any, r := r }
    | m + 1 => runSecs preset m (k + 1) y any (secState k x y r)

/-! Basic laws (R239, R240). -/

/-- R240: a section of coefficients B0, B1, A1 with the smallest SH that takes them; none where none does. -/
def quantise (b0 b1 a1 : Int × Nat) : Option Nat :=
  (List.range 3).findSome? fun sh =>
    let q (c : Int × Nat) : Int := roundAway (c.1 * ((2 ^ (15 - sh) : Nat) : Int)) c.2
    let ok (x : Int) : Bool := decide (-32768 ≤ x) && decide (x ≤ 32767)
    if ok (q b0) && ok (q b1) && ok (q a1) then
      some (ofInt 16 (q b0) + ofInt 16 (q b1) * 2 ^ 16 + ofInt 16 (q a1) * 2 ^ 48 + sh * 2 ^ 80)
    else none

/-- R239: TF in force. -/
def tfOf (h : Rec 256) : Nat :=
  if fget Loop.LAW h == 1 && fabs f32 (fget Loop.TF h) == 0 then fdiv f32 (fget Loop.TD h) 0x40800000 else fget Loop.TF h

/-- R239, R240: the sections of a basic law, or the first section that cannot be represented. -/
def deriveSecs (h : Rec 256) : Except Nat (List Nat) :=
  let t : Int × Nat := ((fget Loop.PERIOD h : Nat), 100000)
  let kp := fratio f32 (fget Loop.KP h)
  let ti := fratio f32 (fget Loop.TI h)
  let pi := quantise (ratMul kp (ratAdd (1, 1) (ratDiv t ti))) (-kp.1, kp.2) (-1, 1)
  if fget Loop.LAW h == 0 then
    match pi with
    | some x => .ok [x]
    | none => .error 0
  else
    let td := fratio f32 (fget Loop.TD h)
    let tf := fratio f32 (tfOf h)
    let den := ratAdd t tf
    let neg (x : Int × Nat) : Int × Nat := (-x.1, x.2)
    if !ffinite f32 (fget Loop.TD h) || !ffinite f32 (tfOf h) then .error 0
    else match quantise (ratDiv (ratAdd t td) den) (neg (ratDiv td den)) (neg (ratDiv tf den)), pi with
      | none, _ => .error 0
      | _, none => .error 1
      | some a, some b => .ok [a, b]

/-- R239: a basic configuration with what the module derives. -/
def deriveLaw (h : Rec 256) : Rec 256 :=
  match deriveSecs h with
  | .error _ => h
  | .ok l =>
    let h := fput Loop.TF (tfOf h) (fput Loop.NSEC (l.length - 1) h)
    let h := fput Loop.LCTRL_N (twinOf (fget Loop.LCTRL h)) h
    (List.range 8).foldl (fun h k => fput (Loop.SECT k) (l.getD k 0) h) h

/-! Compensation (R248 to R251). -/

/-- R248: the position fraction; `mode` 1 FRICTION, 2 COGGING. -/
def posFraction (h : Rec 256) (mode v : Nat) : Nat :=
  let lo := fget Loop.POS_LO h
  let hi := fget Loop.POS_HI h
  let x := spanFrac v lo hi
  if mode == 1 then (scaled x 16 0 65535 (Config.nanFraction v lo hi)).toNat
  else if !ffinite f32 x then Config.nanFraction v lo hi % 65536
  else
    let f := fsub f32 x (fofInt f32 (ffloor f32 x))
    ((ffloor f32 (fmul f32 f 0x47800000)) % 65536).toNat

/-- R250: DIR after a position. -/
def posDir (mode p last dir band : Nat) : Nat :=
  let d : Int := (p : Int) - (last : Int)
  let d := if mode == 2 then sext 16 (ofInt 16 d) else d
  if (band : Int) < d then 0 else if (band : Int) < -d then 1 else dir

/-- Entry `i` of a compensation table. -/
def compAt (t : Rec 512) (i : Nat) : Int := fgetS ⟨16 * i, 16⟩ t

/-- R249: the compensation value. -/
def compValue (t : Rec 512) (mode p dir : Nat) : Int :=
  if mode == 2 then
    let i := p / 256
    compAt t i + (compAt t ((i + 1) % 256) - compAt t i) * ((p % 256 : Nat) : Int) / 256
  else
    let q := p * 127
    let i := q / 65536
    let a := 128 * dir + i
    compAt t a + (compAt t (a + 1) - compAt t a) * ((q / 256 % 256 : Nat) : Int) / 256

/-! Output (R253, R254). -/

/-- R253, R254: the output by mode, and whether a limit changed it. `y`: the law's output, `trk`: the tracked value if
usable, `man`: the manual output with its injection, `transfer`: a transfer evaluation. -/
def selectOut (h : Rec 256) (mode : Nat) (y c uPrev man : Int) (trk : Option Int) (transfer : Bool) : Int × Bool :=
  let lo := fgetS Loop.OUT_LO h
  let hi := fgetS Loop.OUT_HI h
  if closedMode mode then
    let a := q15 (y + c)
    let b := clampI a lo hi
    let du : Int := (fget Loop.DU_MAX h : Nat)
    let u := if du == 0 || transfer then b else clampI b (uPrev - du) (uPrev + du)
    (u, b != a || u != b)
  else if mode == mMan then (man, false)
  else if mode == mTrack then
    let a := trk.getD uPrev
    let u := clampI a lo hi
    (u, u != a)
  else if mode == mHold then (uPrev, false)
  else
    let safe := fgetS Loop.SAFE_OUT h
    let r : Int := (fget Loop.SAFE_RATE h : Nat)
    (if r == 0 then safe else clampI safe (uPrev - r) (uPrev + r), false)

/-! Supervision (R273, R274, R276, R278). -/

/-- TAU + THETA exactly. -/
def supTime (r : Rec 64) : Int × Nat := ratAdd (fratio f32 (fget Sup.TAU r)) (fratio f32 (fget Sup.THETA r))

/-- The least integer at or above `k × x / T`, T a period in units of 10 µs. -/
def ceilPer (k : Nat) (x : Int × Nat) (per : Nat) : Nat :=
  if per == 0 then 0 else ((x.1 * ((100000 * k : Nat) : Int) + ((x.2 * per - 1 : Nat) : Int)) / ((x.2 * per : Nat) : Int)).toNat

/-- R274: round(THETA / T). -/
def deadTime (r : Rec 64) (per : Nat) : Nat :=
  let x := fratio f32 (fget Sup.THETA r)
  if per == 0 then 0 else (roundAway (x.1 * 100000) (x.2 * per)).toNat

/-- R273: a record with its derived fields for a period. -/
def supDerive (per : Nat) (r : Rec 64) : Rec 64 :=
  if fbit Sup.SUP_EXPERT r then Sup.seal r
  else if fbit Sup.MODEL_VALID r then
    let t := supTime r
    Sup.seal (fput Sup.FRZ_N (min 255 (max 16 (ceilPer 5 t per))) (fput Sup.IMP_M (min 255 (max 4 (ceilPer 1 t per)))
      (fput Sup.BIAS_T (fofRat f32 (10 * t.1) t.2) r)))
  else Sup.seal (fput Sup.FRZ_N 255 (fput Sup.IMP_M 255 (fput Sup.BIAS_T 0 r)))

/-- R273: what a basic command gives, completed: a given model sets MODEL_VALID, RLIM defaults (log entry 36). -/
def supBasic (r : Rec 64) : Rec 64 :=
  if fbit Sup.SUP_EXPERT r then r
  else
    let given := fbit Sup.MODEL_VALID r || fget Sup.K r != 0 || fget Sup.TAU r != 0 || fget Sup.THETA r != 0
    fput Sup.MODEL_VALID (b2n given) (fput Sup.STALE_P 3 (fput Sup.FRZ_BAND 131
      (fput Sup.RLIM (if fget Sup.RLIM r == 0 then 1311 else fget Sup.RLIM r) r)))

/-- R275: a model's period that makes the dead time too long. -/
def deadTooLong (r : Rec 64) (per : Nat) : Bool := fbit Sup.MODEL_VALID r && decide (254 < deadTime r per)

/-- R275: the record offset of the first field at fault; the record is complete but not derived. -/
def supFault (r : Rec 64) (per : Nat) : Option Nat :=
  let d := supDerive per r
  let pos (x : Nat) : Bool := ffinite f32 x && flt f32 0 x
  let m := fbit Sup.MODEL_VALID r
  (([(fget Sup.ACTION r == 3 || (fget Sup.ACTION r == 2 && !m) || fget Sup.STALE_P r == 0 || fget Sup.MODEL_T r == 0 ||
      decide (3600 < fget Sup.MODEL_T r), 0x00),
    (m && (fabs f32 (fget Sup.K r) == 0 || !ffinite f32 (fget Sup.K r)), 0x08),
    (m && !pos (fget Sup.TAU r), 0x0C),
    (m && (!ffinite f32 (fget Sup.THETA r) || flt f32 (fget Sup.THETA r) 0 || deadTooLong r per), 0x10),
    (fget Sup.FRZ_BAND r == 0 || decide (fget Sup.FRZ_N d < 2) || fget Sup.IMP_M d == 0, 0x14),
    (fget Sup.RLIM r == 0, 0x18),
    (!ffinite f32 (fget Sup.BIAS_T d) || flt f32 (fget Sup.BIAS_T d) 0, 0x1C)] : List (Bool × Nat)).find? fun x => x.1).map
      Prod.snd

/-- R274: A, BETA and D written into a loop record's supervision state. -/
def supCoef (sup : Rec 64) (per : Nat) (r : Rec 512) : Rec 512 :=
  let t (tau : Nat) : Nat × Nat :=
    let x := fratio f32 tau
    (per * x.2, 100000 * x.1.toNat)
  let m := fbit Sup.MODEL_VALID sup
  let a := if m then expNeg32 (t (fget Sup.TAU sup)).1 (t (fget Sup.TAU sup)).2 else 0
  let b := if flt f32 0 (fget Sup.BIAS_T sup) then oneMinusExp32 (t (fget Sup.BIAS_T sup)).1 (t (fget Sup.BIAS_T sup)).2 else 0
  fput Sup.A a (fput Sup.BETA b (fput Sup.D (if m then deadTime sup per else 0) r))

/-- R278: the bounds of RLIM_NOW. -/
def rlimClamp (sup : Rec 64) (v : Nat) : Nat := clampN v (fget Sup.RLIM sup) (min (8 * fget Sup.RLIM sup) 65535)

/-- R278: the adapted limit of a mean square: 6 × √E2 × 65,536, rounded to even. -/
def rlimOf (e2 : Nat) : Nat :=
  let x := fratio f32 e2
  roundSqrt (x.1.toNat * 36 * 2 ^ 32) x.2

/-- n / 65,536 as binary32. -/
def f65536 (n : Nat) : Nat := fofRat f32 (n : Int) 65536

/-- Output `j` of a history. -/
def histAt (h : Rec 512) (j : Nat) : Int := fgetS ⟨16 * j, 16⟩ h
/-- R277: a history with one more output. -/
def histPush (u : Int) (h : Rec 512) : Rec 512 := BitVec.ofNat 4096 (h.toNat * 65536 + ofInt 16 u)
/-- R276: a history filled with one output. -/
def histFill (u : Int) : Rec 512 := BitVec.ofNat 4096 (((2 ^ 4096 - 1) / 65535) * ofInt 16 u)

/-! Tuning signals (R294). -/

/-- R294: the tap bits of a PRBS register of `n` bits. -/
def prbsTaps (n : Nat) : List Nat :=
  [[7, 6], [8, 6, 5, 4], [9, 5], [10, 7], [11, 9], [12, 6, 4, 1], [13, 4, 3, 1], [14, 5, 3, 1], [15, 14]].getD (n - 7) []

/-- One advance of the register: bit 1 is the lowest. -/
def prbsNext (n v : Nat) : Nat :=
  let fb := (prbsTaps n).foldl (fun a k => a + (v >>> (k - 1))) 0 % 2
  (2 * v + fb) % 2 ^ n

/-- R294: the sweep's phase step at sample `i` after the start of injection. -/
def sweepStep (t : TuneRun) (i : Nat) : Nat :=
  let f0 := fratio f32 t.f0
  let f1 := fratio f32 t.f1
  let n := t.len - t.pre - 1
  let ln := lnFix (f1.1.toNat * f0.2) (f1.2 * f0.1.toNat)
  let g : Int × Int := if n == 0 then (1, 0) else expDy (ln * (i : Int) / (n : Int))
  let num := f0.1 * g.1 * ((t.period * 2 ^ 32 * (if 0 ≤ g.2 then 2 ^ g.2.toNat else 1) : Nat) : Int)
  (roundRat num (f0.2 * 100000 * (if g.2 < 0 then 2 ^ (-g.2).toNat else 1)) % ((2 ^ 32 : Nat) : Int)).toNat

/-- R294: s of sample `j`, from the register and phase as they stand. -/
def tuneSig (t : TuneRun) (j lfsr phase : Nat) : Int :=
  let a := sext 16 t.amp
  if j < t.pre then 0
  else match t.sig with
    | 0 => a
    | 1 => if (lfsr >>> (t.prbsN - 1)) % 2 == 1 then a else -a
    | _ => reDy (a * sinFix phase) (-128)

end Sys2Proof.Machine
end

