-- ==== Sys2Proof/Machine/CtlOps.lean ====
section
/-! DEFINITION. Control loops as state: records, the schedule (R234 to R238), commands and their application (R242, R256, R257,
R289), supervision (R276 to R290), tuning runs (R292 to R297), one evaluation (R247), restart (R265, R266). -/

namespace Sys2Proof.Machine

/-! Access. -/

def State.loop (s : State) (l : Nat) : Rec 512 := tget Loop.factory s.ctl.rec_ l
def State.setLoop (l : Nat) (r : Rec 512) (s : State) : State := s.onCtl fun c => { c with rec_ := tset Loop.factory c.rec_ l r }
def State.modLoop (l : Nat) (f : Rec 512 → Rec 512) (s : State) : State := s.setLoop l (f (s.loop l))
def State.loopX (s : State) (l : Nat) : LoopX := tget LoopX.zero s.ctl.ext l
def State.modLoopX (l : Nat) (f : LoopX → LoopX) (s : State) : State :=
  s.onCtl fun c => { c with ext := tmod LoopX.zero c.ext l f }
/-- The configuration half in force. -/
def State.half (s : State) (l : Nat) : Rec 256 := BitVec.ofNat 2048 (fget Loop.HALF (s.loop l))
def State.sup (s : State) (l : Nat) : Rec 64 := tget Sup.factory s.ctl.sup l
def State.setSup (l : Nat) (r : Rec 64) (s : State) : State := s.onCtl fun c => { c with sup := tset Sup.factory c.sup l r }
def State.loopOn (s : State) (l : Nat) : Bool := fbit Loop.EN (s.loop l)
def State.loopMode (s : State) (l : Nat) : Nat := fget Loop.MODE (s.loop l)
def State.uLast (s : State) (l : Nat) : Int := fgetS Loop.U_LAST (s.loop l)
/-- The loop is evaluated: it is enabled, or was when its configuration half was lost (R265). -/
def State.loopRuns (s : State) (l : Nat) : Bool := s.loopOn l || (s.loopX l).lost && (s.loopX l).next != 0

/-- The instant at which watch time reads `w`. -/
def State.instOf (s : State) (w : Nat) : Nat :=
  if s.wt ≤ w then s.tim.now + ((w - s.wt) * 2 ^ 32 + (s.tim.rate - 1)) / s.tim.rate else s.tim.now - (s.wt - w) * 2 ^ 32 / s.tim.rate

/-- The instant at which a cycle begins. -/
def State.cycInst (s : State) (c : Nat) : Nat := s.instOf (cycWt c)

/-- The loops that are enabled. -/
def State.loopsOn (s : State) : List Nat := (s.ctl.rec_.filter fun e => fbit Loop.EN e.2).map Prod.fst

/-- CTL_LOOPS_EN, CTL_PROC_GATED and CTL_PROC_LOAD follow (R224, R678). -/
def State.ctlGauges (s : State) : State :=
  let on := s.loopsOn
  let s := s.wf Reg.CTL_LOOPS_EN.COUNT on.length
  (List.range 16).foldl (fun s p =>
    let n := (on.filter fun l => l / 256 == p).length
    let g := s.rf Reg.CTL_PROC_GATED.GATED
    let off := n == 0 && s.rb Reg.PWR_GATE_CTRL.LP_GATE_EN
    let s := s.wf (Reg.CTL_PROC_LOAD.LOOPS p) n
    if ((g >>> p) % 2 == 1) == off then s
    else s.wf Reg.CTL_PROC_GATED.GATED (if off then g + 2 ^ p else g - 2 ^ p)) s

/-- The enabled inner loop of an outer loop (R259). -/
def State.innerOf (s : State) (l : Nat) : Option Nat :=
  (s.ctl.rec_.find? fun e => fbit Loop.EN e.2 && fbit Loop.CAS_EN e.2 && fget Loop.CAS_OUTER e.2 == l).map Prod.fst

/-! Ownership (R232). -/

def State.setOwned (i : Nat) (own : Option Nat) (s : State) : State :=
  let s := s.onCtl fun c => { c with owner := tset 0 c.owner i (match own with | some l => l + 1 | none => 0) }
  s.modPt i fun p => if fget Pt.KIND p == kOutput then Pt.seal (fput Pt.LOOP_OWNED (b2n own.isSome) p) else p

/-- The points that a loop owns lose it, but for `keep`. -/
def State.disown (l : Nat) (keep : Option Nat) (s : State) : State :=
  (s.ctl.owner.filter fun e => e.2 == l + 1 && keep != some e.1).foldl (fun s e => s.setOwned e.1 none) s

/-! Gauges of supervision and tuning. -/

def State.setPresent (l v : Nat) (s : State) : State :=
  (s.modLoop l (fput Sup.PRESENT v)).gauge Reg.CTL_SUP_FAULT_NOW.COUNT (fget Sup.PRESENT (s.loop l) != 0) (v != 0)

/-- R297: a tuning run ends with a status: 2 DONE, 3 STOPPED, 4 ABORTED. -/
def State.tuneEnd (l stat : Nat) (s : State) : State :=
  if !fbit Sup.TUNING (s.loop l) then s
  else
    let s := (s.modLoop l fun r => fput Sup.FRZ_CNT 0 (fput Sup.IMP_CNT 0 (fput Sup.TUNING 0 (fput Sup.TUNE_STAT stat r)))).drop
      Reg.CTL_TUNE_RUNNING.COUNT
    let s := if stat == 4 then s.bump Reg.CTL_TUNE_ABORT_CNT.COUNT else s
    s.raise Ev.CTL_TUNE_END l [stat, fget Sup.TUNE_CNT (s.loop l)]

/-- R256, R286, R297: MODE written; a change raises its event, clears ON_MODEL and ends a tuning run. Causes: 0 command,
1 supervision, 2 twin, 3 start. -/
def State.setMode (l m cause : Nat) (s : State) : State :=
  let old := s.loopMode l
  let s := s.modLoop l (Loop.putMode m)
  if old == m then s
  else ((s.modLoop l (fput Sup.ON_MODEL 0)).dirtyMod.raise Ev.CTL_MODE_CHANGE l [old, m, cause]).tuneEnd l 4

def State.setTransfer (l : Nat) (s : State) : State := s.modLoop l (fput Loop.TRANSFER 1)

/-- R284: the events of the rises not yet reported, with the mode and the action taken, 0 for none. -/
def State.supReport (l mode act : Nat) (s : State) : State :=
  let rep := (s.loopX l).report
  let x := s.loop l
  let s := s.modLoopX l fun x => { x with report := 0 }
  ([1, 2, 4, 8].filter fun b => (rep / b) % 2 == 1).foldl (fun s _ =>
    s.raise Ev.CTL_SUP_FAULT l [fget Sup.PRESENT x, mode, act]) s

/-- R289: a close. -/
def State.loopClose (l : Nat) (s : State) : State :=
  let s := (s.supReport l (s.loopMode l) 0).modLoop l fun r => fput Sup.LATCH 0 (fput Sup.RECLOSE_ARMED 0 (fput Sup.GOOD_CNT 0 (fput Sup.FRZ_CNT 0
    (fput Sup.IMP_CNT 0 r))))
  (s.setPresent l (fget Sup.PRESENT (s.loop l) &&& 9)).modLoopX l fun x => { x with init := true }

/-! Points as loops read them (R243, R248, R253). -/

/-- A point's value as binary32 and whether it is usable. -/
def State.ptIn (s : State) (i : Nat) : Nat × Bool :=
  (if s.kind i == kNone then 0 else operand (s.pt i), s.kind i != kNone && !badQual (s.quality i))

/-- R259: the engineering output of a loop as committed at or before a cycle. -/
def State.uEngAt (s : State) (l cyc : Nat) : Nat :=
  let r := s.loop l
  uEng (s.half l) (if cycOf (fget Loop.T_COMMIT r) ≤ cyc || fget Loop.EVALS r == 0 then s.uLast l else sext 16 (s.loopX l).uPrev)

/-- R243: SP_e, and whether the setpoint point is unusable. -/
def State.spE (s : State) (l cyc : Nat) : Nat × Bool :=
  let r := s.loop l
  if s.loopMode l == mCascade && fbit Loop.CAS_EN r then (s.uEngAt (fget Loop.CAS_OUTER r) cyc, false)
  else if fbit Loop.SP_SRC r then
    let (v, ok) := s.ptIn (fget Loop.SP_IDX r)
    if ok then (v, false) else ((s.loopX l).spUse, true)
  else (fget Loop.SP r, false)

/-! The schedule (R235 to R238). -/

/-- The waiting commands up to one that takes the loop out of use. -/
def LCmd.keepsOn (c : LCmd) : Bool :=
  match c.act with
  | .config h => fbit Loop.EN h
  | .delete => false
  | _ => true

/-- R238: where a waiting configuration changes PERIOD or PHASE and the planned sample falls 10 µs after its completion or
later, the first commit of the new schedule that does so takes the place of the planned one, and that evaluation applies the
commands up to this one. The same for each further such command. -/
def State.retime (l : Nat) (s : State) : State :=
  let x := s.loopX l
  let r := (x.cmds.takeWhile LCmd.keepsOn).zipIdx.foldl (fun (a : Rec 256 × Nat × Nat) e =>
    match e.1.act with
    | .config h =>
      let same := fget Loop.PERIOD h == fget Loop.PERIOD a.1 && fget Loop.PHASE h == fget Loop.PHASE a.1
      if same || decide (e.2 < x.forced) || decide (s.cycInst (a.2.1 - 1) < e.1.ready) then (h, a.2)
      else (h, firstCommit h (max (cycFrom (s.wtOf e.1.ready)) x.last) - 384 + 1, e.2 + 1)
    | _ => a) (s.half l, x.next, x.forced)
  s.modLoopX l fun x => { x with next := r.2.1, forced := r.2.2 }

/-- R234, R238: the evaluation after nominal sample cycle `nom` is planned. -/
def State.planNext (l nom : Nat) (s : State) : State :=
  let commit := nom + 384
  let n := firstCommit (s.half l) (commit + 1)
  (s.modLoopX l fun x => { x with last := commit + 1, next := n - 384 + 1 }).retime l

/-- The plan of a loop is made anew: its first commit from cycle `c` on that is later than the last served. -/
def State.planFrom (l c : Nat) (s : State) : State :=
  (s.modLoopX l fun x => { x with next := firstCommit (s.half l) (max c x.last) - 384 + 1, forced := 0 }).retime l

/-- R234, R237: the first evaluation of a loop taken into use: the first sample at or after an instant. -/
def State.planFirst (l inst : Nat) (s : State) : State := s.planFrom l (cycFrom (s.wtOf inst) + 384)

/-- R235: the evaluation that processor `p` starts next: its start cycle and its loop. -/
def State.procNext (s : State) (p : Nat) : Option (Nat × Nat) :=
  let l := (s.ctl.ext.filter fun e => e.1 / 256 == p && e.2.next != 0).map fun e => (e.2.next - 1, e.1)
  match l with
  | [] => none
  | a :: _ =>
    let c := max (l.foldl (fun m e => min m e.1) a.1) (tget 0 s.ctl.started p)
    (l.find? fun e => decide (e.1 ≤ c)).map fun e => (c, e.2)

/-- R235, R264: the evaluation that starts next on any processor; at one cycle the lowest-numbered loop first. -/
def State.evalNext (s : State) : Option (Nat × Nat) :=
  (List.range 16).foldl (fun b p =>
    match b, s.procNext p with
    | none, x => x
    | some a, some x => if x.1 < a.1 then some x else some a
    | some a, none => some a) none

/-- R236, R297: the schedule after a step of watch time from `old` to the present one. -/
def State.ctlTimeStep (old : Nat) (s : State) : State :=
  let new := s.wt
  let on := s.ctl.ext.filter fun e => e.2.next != 0
  let hit (e : Nat × LoopX) : Bool :=
    if old ≤ new then decide (e.2.next - 1 < cycFrom new) else decide (firstCommit (s.half e.1) (cycFrom new + 384) < e.2.last)
  let s := if on.any hit then s.bump Reg.CTL_TIME_STEP_CNT.COUNT else s
  if old ≤ new then (on.filter hit).foldl (fun s e => (s.planFirst e.1 s.tim.now).tuneEnd e.1 4) s
  else on.foldl (fun s e => s.planFirst e.1 s.tim.now) (s.onCtl fun c => { c with started := [] })

/-! Supervision records (R273, R274, R276, R278). -/

/-- A supervision record, or a period, comes into force. -/
def State.supApply (l : Nat) (r : Rec 64) (s : State) : State :=
  let old := s.sup l
  let per := fget Loop.PERIOD (s.loop l)
  let r := supDerive per r
  let s := (s.setSup l r).modLoop l (supCoef r per)
  let on := fbit Sup.SUP_EN r
  let s := s.modLoop l fun x =>
    fput Sup.RLIM_NOW (if fbit Sup.SUP_EXPERT r || fget Sup.RLIM_NOW x == 0 then fget Sup.RLIM r else rlimClamp r (fget Sup.RLIM_NOW x)) x
  let s := if on && !fbit Sup.SUP_EN old || fbit Sup.MODEL_VALID r then s.modLoopX l fun x => { x with init := true } else s
  if on then
    (if fbit Sup.MODEL_VALID r then s
    else (s.modLoop l fun x => fput Sup.FRZ_CNT 0 (fput Sup.IMP_CNT 0 x)).setPresent l (fget Sup.PRESENT (s.loop l) &&& 9))
  else
    let s := if fbit Sup.ON_MODEL (s.loop l) then s.setTransfer l else s
    ((s.supReport l (s.loopMode l) 0).modLoop l (fput Sup.ON_MODEL 0)).setPresent l 0

/-! Commands applied (R237, R242, R256, R289, R292, R297). -/

/-- R242: the sections of two halves differ. -/
def secsDiffer (a b : Rec 256) : Bool :=
  fget Loop.NSEC a != fget Loop.NSEC b || (List.range (fget Loop.NSEC b + 1)).any fun k => fget (Loop.SECT k) a != fget (Loop.SECT k) b

/-- R232: a loop is taken out of use. -/
def State.loopOff (l : Nat) (s : State) : State :=
  let s := ((s.tuneEnd l 4).supReport l (s.loopMode l) 0).setPresent l 0
  let keep := ((s.loopX l).cmds.findSome? fun c => match c.act with
    | .config h => if fbit Loop.EN h then some (fget Loop.OUT_IDX h) else none
    | _ => none)
  (s.disown l keep).modLoopX l fun x => { x with next := 0, forced := 0, init := false }

/-- R266: a loop that is enabled starts in MAN with the output its OUTPUT point holds (log entry 37). -/
def State.loopBegin (l : Nat) (s : State) : State :=
  let h := s.half l
  let u := qOf h (fget Pt.VALUE (s.pt (fget Loop.OUT_IDX h)))
  let man := clampI u (fgetS Loop.OUT_LO h) (fgetS Loop.OUT_HI h)
  let s := (s.setMode l mMan 0).modLoop l fun r =>
    let r := fput ⟨2240, 1856⟩ 0 r
    fputS Loop.U_LAST u (Loop.putMan (ofInt 16 man) (Loop.putSp (fget Loop.SP r) (Loop.putMode mMan r)))
  (s.modLoopX l fun x => { x with init := true, uPrev := ofInt 16 u, last := 0 }).supApply l (s.sup l)

/-- A configuration half comes into force. -/
def State.configApply (l : Nat) (h : Rec 256) (s : State) : State :=
  let old := s.half l
  let was := s.loopRuns l
  let s := (s.modLoop l (fput Loop.HALF h.toNat)).modLoopX l fun x => { x with lost := false }
  let per := fget Loop.PERIOD old != fget Loop.PERIOD h
  if !fbit Loop.EN h then
    let s := if was then s.loopOff l else s
    (if per then s.supApply l (s.sup l) else s).ctlGauges
  else if !was then (s.loopBegin l).ctlGauges
  else
    let secs := secsDiffer old h
    let s := if secs then
        let s := s.modLoop l fun r => (List.range 8).foldl (fun r k =>
          if fget Loop.NSEC old < k then fput (Loop.S1 k) 0 (fput (Loop.S2 k) 0 r) else r) r
        if closedMode (s.loopMode l) then s.setTransfer l else s
      else s
    let s := if secs || per || fget Loop.PHASE old != fget Loop.PHASE h then s.tuneEnd l 4 else s
    if per then s.supApply l (s.sup l) else s

/-- R256, R289: a mode command. -/
def State.modeApply (l m : Nat) (man : Option Nat) (s : State) : State :=
  let r := s.loop l
  if (m == s.loopMode l && (m != mMan || man.isNone)) || (m == mCascade && !fbit Loop.CAS_EN r) ||
      (m == mTrack && !fbit Loop.TRK_EN r) then s
  else
    let s := if m == mMan then s.modLoop l fun r => Loop.putMan (man.getD (fget Loop.U_LAST r)) r
      else if closedMode m then s.setTransfer l else s
    let s := s.setMode l m 0
    if closedMode m then s.loopClose l else s.modLoop l (fput Sup.RECLOSE_ARMED 0)

/-- R292, R294: a tuning run starts. -/
def State.tuneApply (l : Nat) (t : TuneRun) (s : State) : State :=
  let m := s.loopMode l
  if fbit Sup.TUNING (s.loop l) || (t.inj == 0 && m != mMan) || (t.inj == 1 && !closedMode m) then s
  else
    let s := s.modLoop l fun r => fput Sup.FRZ_CNT 0 (fput Sup.IMP_CNT 0 (fput Sup.TUNE_CNT 0 (fput Sup.TUNE_STAT 1
      (fput Sup.TUNE_LFSR (2 ^ t.prbsN - 1) (fput Sup.TUNE_PHASE 0 (fput Sup.TUNING 1 r))))))
    let t := { t with gen := fget Loop.CFG_GEN (s.loop l), period := fget Loop.PERIOD (s.loop l), t0 := 0 }
    (s.modLoopX l fun x => { x with tune := some t }).bump Reg.CTL_TUNE_RUNNING.COUNT

/-- A loop command takes effect. -/
def State.actApply (l : Nat) (a : LAct) (s : State) : State :=
  match a with
  | .config h => s.configApply l h
  | .sup r => ((s.tuneEnd l 4).supApply l r).modLoopX l fun x => { x with supLost := false }
  | .mode m man => s.modeApply l m man
  | .manOut q => if s.loopMode l == mMan then s.modLoop l (Loop.putMan q) else s
  | .setpoint v => s.modLoop l (Loop.putSp v)
  | .comp t => s.onCtl fun c => { c with comp := tset 0 c.comp l t }
  | .supReset =>
    let s := if fbit Sup.ON_MODEL (s.loop l) then (s.modLoop l (fput Sup.ON_MODEL 0)).setTransfer l else s
    s.loopClose l
  | .tuneStart t => s.tuneApply l t
  | .tuneStop => s.tuneEnd l 3
  | .delete =>
    let s := if s.loopRuns l then s.loopOff l else s
    ((s.setLoop l Loop.factory).modLoopX l fun x => { x with lost := false }).ctlGauges

/-- R237: a command is taken: applied at the first sample at least 10 µs after it completes, or at once where the loop has
no evaluations. -/
def State.loopTake (l : Nat) (a : LAct) (s : State) : State :=
  let ready := s.tim.now + ofUs 10
  if (s.loopX l).next == 0 then
    let s := s.actApply l a
    if s.loopOn l then s.planFirst l ready else s
  else (s.modLoopX l fun x => { x with cmds := x.cmds ++ [⟨ready, a⟩] }).retime l

/-- R237: commands that waited for a loop that has no evaluations any more are applied at once, until one takes the loop into use
again; the others wait for its evaluations. -/
def State.loopDrain (l : Nat) : List LCmd → State → State
  | [], s => s
  | c :: cs, s =>
    if (s.loopX l).next != 0 then (s.modLoopX l fun x => { x with cmds := c :: cs }).retime l
    else
      let s := s.actApply l c.act
      State.loopDrain l cs (if s.loopOn l then s.planFirst l c.ready else s)

/-- The commands of a sample instant, in arrival order. -/
def State.loopCmds (l inst : Nat) (s : State) : State :=
  let x := s.loopX l
  let n := max x.forced (x.cmds.takeWhile fun c => decide (c.ready ≤ inst)).length
  let s := s.modLoopX l fun x => { x with cmds := x.cmds.drop n, forced := 0 }
  let s := (x.cmds.take n).foldl (fun s c => s.actApply l c.act) s
  if s.loopRuns l then s
  else (s.modLoopX l fun x => { x with next := 0, cmds := [] }).loopDrain l (s.loopX l).cmds

/-! What the commands not yet applied will leave (R557). -/

/-- The configuration half, the supervision record, the mode and whether a run is in progress, as the next evaluation will
find them. -/
structure LProj where
  half : Rec 256
  sup : Rec 64
  mode : Nat
  tuning : Bool
  deriving DecidableEq, Repr

def LProj.step (p : LProj) (c : LCmd) : LProj :=
  match c.act with
  | .config h =>
    let off := !fbit Loop.EN h
    { p with
      half := h, mode := if off || !fbit Loop.EN p.half then mMan else p.mode
      tuning := p.tuning && !off && !secsDiffer p.half h && fget Loop.PERIOD p.half == fget Loop.PERIOD h &&
        fget Loop.PHASE p.half == fget Loop.PHASE h }
  | .sup r => { p with sup := r, tuning := false }
  | .mode m _ => { p with mode := m, tuning := p.tuning && m == p.mode }
  | .tuneStart _ => { p with tuning := true }
  | .tuneStop => { p with tuning := false }
  | .delete => { p with half := Loop.factoryHalf, mode := mMan, tuning := false }
  | _ => p

def State.loopProj (s : State) (l : Nat) : LProj :=
  (s.loopX l).cmds.foldl LProj.step
    { half := s.half l, sup := s.sup l, mode := s.loopMode l, tuning := fbit Sup.TUNING (s.loop l) }

/-! Step 1 of an evaluation (R247, R256, R279, R280, R284 to R287, R290). -/

/-- R256: the twin words are checked. -/
def State.loopTwins (l : Nat) (s : State) : State :=
  let r := s.loop l
  let w (off : Nat) : Nat := fget ⟨off, 32⟩ r
  let bad := [2048, 2112, 2176].filter fun o => !twinOk (w o) (w (o + 32))
  if bad.isEmpty then s
  else
    let s := bad.foldl (fun s o => (s.bump Reg.CTL_TWIN_CNT.COUNT).twinEvent l 19 (w (o + 32)) (w o)) s
    let s := if bad.contains 2112 then s.modLoop l (Loop.putSp (s.ptIn (fget Loop.PV_IDX r)).1) else s
    let s := if bad.contains 2176 then s.modLoop l fun r => Loop.putMan (fget Loop.U_LAST r) r else s
    s.setMode l mHold 2

/-- R284: rises of PRESENT bits: latched, timed, counted. -/
def State.supRise (l bits t : Nat) (s : State) : State :=
  if bits == 0 then s
  else
    let s := s.modLoop l fun r => fput Sup.LATCH (fget Sup.LATCH r ||| bits) (fput Sup.T_FAULT t r)
    let cnt (b : Nat) (f : RFld) (s : State) : State := if (bits / b) % 2 == 1 then s.bump f else s
    let s := cnt 1 Reg.CTL_SUP_STALE_CNT.COUNT (cnt 2 Reg.CTL_SUP_FROZEN_CNT.COUNT (cnt 4 Reg.CTL_SUP_IMPL_CNT.COUNT s))
    let s := cnt 8 Reg.CTL_SUP_IMPL_CNT.COUNT (cnt 8 Reg.CTL_SUP_DISP_CNT.COUNT s)
    s.modLoopX l fun x => { x with report := x.report ||| bits }

/-- R286: the fault action: 1 HOLD, 2 SAFE, 3 MODEL. -/
def State.supAct (l wt : Nat) (s : State) : Nat × State :=
  let r := s.sup l
  let s := s.modLoop l fun x => fput Sup.PRE_MODE (fget Loop.MODE x) (fput Sup.RECLOSE_ARMED 1 x)
  let a := if (s.loopX l).supLost then 0 else fget Sup.ACTION r
  if a == 2 then (3, s.modLoop l fun x => fput Sup.ON_MODEL 1 (fput Sup.T_MODEL_END (wt + ofS (fget Sup.MODEL_T r)) x))
  else if a == 1 then (2, s.setMode l mSafe 1) else (1, s.setMode l mHold 1)

/-- Supervision at step 1, for the sample's watch time. -/
def State.supStep1 (l wt : Nat) (s : State) : State :=
  let r := s.sup l
  if !fbit Sup.SUP_EN r then s
  else
    let s :=
      if fbit Sup.ON_MODEL (s.loop l) && closedMode (s.loopMode l) && decide (fget Sup.T_MODEL_END (s.loop l) ≤ wt) then
        (((s.modLoop l (fput Sup.ON_MODEL 0)).setMode l mHold 1).bump Reg.CTL_MODEL_EXPIRE_CNT.COUNT).raise Ev.CTL_MODEL_EXPIRE l
          [fget Sup.MODEL_T r]
      else s
    let x := s.loop l
    let s :=
      if fbit Sup.AUTO_RECLOSE r && fget Sup.GOOD_CNT x == 16 && (fbit Sup.RECLOSE_ARMED x || fbit Sup.ON_MODEL x) then
        let s := if fbit Sup.ON_MODEL x then s.modLoop l (fput Sup.ON_MODEL 0) else s.setMode l (fget Sup.PRE_MODE x) 1
        (((s.setTransfer l).loopClose l).bump Reg.CTL_SUP_RECLOSE_CNT.COUNT).raise Ev.CTL_SUP_RECLOSE l [s.loopMode l]
      else s
    let pv := fget Loop.PV_IDX (s.loop l)
    let p := s.pt pv
    let q := s.quality pv
    let forced := q / 4 % 4 != 0
    let old := decide (fget Sup.STALE_P r * fget Loop.PERIOD (s.loop l) * 2 ^ 32 < (wt - fget Pt.T_RX p) * 100000)
    let stale := s.kind pv == kNone || badQual q || (!forced && old)
    let disp := q / 16 % 2 == 1
    let was := fget Sup.PRESENT (s.loop l)
    let decide_ := !forced && fbit Sup.MODEL_VALID r && !fbit Sup.TUNING (s.loop l)
    let s := if decide_ then s else s.modLoop l fun x => fput Sup.FRZ_CNT 0 (fput Sup.IMP_CNT 0 x)
    let now := (if decide_ then was &&& 6 else 0) + b2n stale + 8 * b2n disp
    let s := (s.supRise l ((b2n stale + 8 * b2n disp) &&& (15 - was)) wt).setPresent l now
    let s := if stale then s.modLoopX l fun x => { x with init := true } else s
    let mode := s.loopMode l
    let (act, s) :=
      if now != 0 && closedMode mode && !fbit Sup.ON_MODEL (s.loop l) && s.rb Reg.CTL_SUP_CTRL.ACT_EN then s.supAct l wt else (0, s)
    s.supReport l mode act

/-! Step 6 of an evaluation (R276 to R278, R281 to R283, R290, R297). -/

/-- Supervision at step 6. `u`: the output committed, `uPrev`: U_LAST before it, `mode`: the mode latched, `wt`: the time of
step 6. -/
def State.supStep6 (l mode : Nat) (u uPrev : Int) (wt : Nat) (s : State) : State :=
  let r := s.sup l
  if !fbit Sup.SUP_EN r then s.onCtl fun c => { c with hist := tmod 0 c.hist l (histPush u) }
  else
    let x := s.loop l
    let pvi := fget Loop.PV_IDX x
    let q := s.quality pvi
    let forced := q / 4 % 4 != 0
    let usable := fget Sup.PRESENT x &&& 9 == 0
    let model := fbit Sup.MODEL_VALID r
    let tuning := fbit Sup.TUNING x
    let f (i : Int) : Nat := fofInt f32 i
    let k32 := 0x47000000
    let pn := spanFrac (s.ptIn pvi).1 (fget Loop.IN_LO x) (fget Loop.IN_HI x)
    let s :=
      if model && usable && (s.loopX l).init then
        let z := fdiv f32 (fmul f32 (fget Sup.K r) (f uPrev)) k32
        ((s.onCtl fun c => { c with hist := tset 0 c.hist l (histFill uPrev) }).modLoop l fun x =>
          fput Sup.Z z (fput Sup.BIAS (fsub f32 pn z) (fput Sup.PV_REF pn (fput Sup.Z_REF z (fput Sup.FRZ_CNT 0 (fput Sup.IMP_CNT 0
            (fput Sup.E2 0 x))))))).modLoopX l fun x => { x with init := false }
      else s
    let s := s.onCtl fun c => { c with hist := tmod 0 c.hist l (histPush u) }
    let s :=
      if !model then s.setPresent l (fget Sup.PRESENT (s.loop l) &&& 9)
      else
        let x := s.loop l
        let a := fget Sup.A x
        let drive := fdiv f32 (fmul f32 (fmul f32 (fsub f32 0x3F800000 a) (fget Sup.K r))
          (f (histAt (tget 0 s.ctl.hist l) (1 + fget Sup.D x)))) k32
        let z := fadd f32 (fmul f32 a (fget Sup.Z x)) drive
        let yhat := fadd f32 z (fget Sup.BIAS x)
        let s := s.modLoop l fun x => fput Sup.Z z (fput Sup.YHAT yhat x)
        if !usable then s
        else
          let res := fsub f32 pn yhat
          let excess := flt f32 (f65536 (fget Sup.RLIM_NOW x)) (fabs f32 res)
          let s := s.modLoop l (fput Sup.RESID res)
          let s := if excess || fbit Sup.ON_MODEL x || tuning then s
            else s.modLoop l (fput Sup.BIAS (fadd f32 (fget Sup.BIAS x) (fmul f32 (fget Sup.BETA x) res)))
          if forced || tuning then
            (s.modLoop l fun x => fput Sup.FRZ_CNT 0 (fput Sup.IMP_CNT 0 x)).setPresent l (fget Sup.PRESENT (s.loop l) &&& 9)
          else
            let still := flt f32 (fabs f32 (fsub f32 pn (fget Sup.PV_REF x))) (f65536 (fget Sup.FRZ_BAND r))
            let frz := if still then min 255 (fget Sup.FRZ_CNT x + 1) else 0
            let zref := if still then fget Sup.Z_REF x else z
            let imp := if excess then min 255 (fget Sup.IMP_CNT x + 1) else 0
            let s := s.modLoop l fun x => fput Sup.FRZ_CNT frz (fput Sup.IMP_CNT imp
              (if still then x else fput Sup.PV_REF pn (fput Sup.Z_REF z x)))
            let frozen := decide (fget Sup.FRZ_N r ≤ frz) &&
              flt f32 (f65536 (4 * fget Sup.FRZ_BAND r)) (fabs f32 (fsub f32 z zref))
            let bits := 2 * b2n frozen + 4 * b2n (decide (fget Sup.IMP_M r ≤ imp))
            let was := fget Sup.PRESENT (s.loop l)
            (s.supRise l (bits &&& (15 - was)) wt).setPresent l ((was &&& 9) + bits)
    let y := s.loop l
    let s :=
      if fbit Sup.SUP_EXPERT r then s.modLoop l (fput Sup.RLIM_NOW (fget Sup.RLIM r))
      else if model && usable && closedMode mode && fget Sup.PRESENT y == 0 && q % 2 == 1 && !tuning && !fbit Sup.RLIM_HOLD r &&
          !s.rb Reg.CTL_SUP_CTRL.RLIM_FREEZE then
        let res := fget Sup.RESID y
        let e2 := fget Sup.E2 y
        let e2 := fadd f32 e2 (fdiv f32 (fsub f32 (fmul f32 res res) e2) 0x45800000)
        s.modLoop l fun x => fput Sup.E2 e2 (fput Sup.RLIM_NOW (rlimClamp r (rlimOf e2)) x)
      else s
    if fbit Sup.AUTO_RECLOSE r && (fbit Sup.RECLOSE_ARMED y || fbit Sup.ON_MODEL y) then
      let excess := model && flt f32 (f65536 (fget Sup.RLIM_NOW x)) (fabs f32 (fget Sup.RESID y))
      let good := usable && !excess && decide (fget Sup.FRZ_CNT y < fget Sup.FRZ_N r)
      s.modLoop l (fput Sup.GOOD_CNT (if good then min 16 (fget Sup.GOOD_CNT y + 1) else 0))
    else s.modLoop l (fput Sup.GOOD_CNT 0)

/-! Tuning samples (R294 to R297). -/

/-- The run in progress. -/
def State.tuneOf (s : State) (l : Nat) : Option TuneRun := if fbit Sup.TUNING (s.loop l) then (s.loopX l).tune else none

/-- R294, R296: the sample of an evaluation is stored and the signal advances; after the last the run ends DONE. -/
def State.tuneStore (l : Nat) (sample : Rec 16) (commit : Nat) (s : State) : State :=
  match s.tuneOf l with
  | none => s
  | some t =>
    let x := s.loop l
    let j := fget Sup.TUNE_CNT x
    let s := (s.onCtl fun c => { c with smp := tset 0 c.smp (l * 65536 + j) sample }).modLoopX l fun x =>
      { x with tune := some { t with t0 := if j == 0 then commit else t.t0 } }
    let i := j - t.pre
    let s := s.modLoop l fun r =>
      let r := fput Sup.TUNE_CNT (j + 1) r
      if j < t.pre then r
      else
        let r := if t.sig == 1 && (i + 1) % t.holdP == 0 then fput Sup.TUNE_LFSR (prbsNext t.prbsN (fget Sup.TUNE_LFSR r)) r else r
        if t.sig == 2 then fput Sup.TUNE_PHASE (fget Sup.TUNE_PHASE r + sweepStep t i) r else r
    if j + 1 == t.len then s.tuneEnd l 2 else s

/-! The evaluation (R247). -/

/-- R263, R264: the loop frame leaves its port at the commit instant, or is held behind another loop frame. -/
def State.loopFrame (l node idx v wt inst : Nat) (s : State) : State :=
  let n0 := s.fab.ports.map fun e => (e.1, e.2.queue.length)
  let (ok, s) := s.loopOut node idx v wt l
  if !ok then s
  else
    s.fab.ports.foldl (fun s e =>
      let had := (afind n0 e.1).getD 0
      (e.2.queue.drop had).foldl (fun s q =>
        let p := s.port e.1
        let p := { p with queue := p.queue.take had ++ (p.queue.drop had).erase q }
        let sent := p.txFrame.any fun f => f.2.cls == 2 && f.2.src == s.node
        let mine := p.reserved.foldl (fun m r => max m r.2.1) (if sent then p.busy else 0)
        let start := max inst (max mine p.busy)
        let stop := start + s.wireTime e.1 q.f
        let s := if inst < mine then s.bump Reg.CTL_DEPART_SHIFT_CNT.COUNT else s
        s.setPort e.1 { p with reserved := p.reserved ++ [(start, stop, q)] }) s) s

/-- One evaluation of loop `l`, started at cycle `cyc` for nominal sample cycle `nom`. -/
def State.loopEval (l cyc nom : Nat) (s : State) : State :=
  let s := (s.loopTwins l).loopCmds l (s.cycInst cyc)
  if !s.loopRuns l then s
  else
    let shift := cyc - nom
    let s := s.modLoop l (fput Loop.PHASE_SHIFT shift)
    let s := if shift == 0 then s
      else (s.bump Reg.CTL_PHASE_SHIFT_CNT.COUNT).wf Reg.CTL_PHASE_SHIFT_MAX.MAX (max shift (s.rf Reg.CTL_PHASE_SHIFT_MAX.MAX))
    let s := s.supStep1 l (cycWt cyc)
    let h := s.half l
    let x := s.loopX l
    let mode := s.loopMode l
    let tune := s.tuneOf l
    let r0 := s.loop l
    let sig : Int := match tune with
      | some t => tuneSig t (fget Sup.TUNE_CNT r0) (fget Sup.TUNE_LFSR r0) (fget Sup.TUNE_PHASE r0)
      | none => 0
    let inj : Option Nat := tune.map fun t => t.inj
    -- the setpoint and the feedback in effect (R243, R287, R295)
    let (sp, held) := s.spE l cyc
    let sp' := if inj == some 1 then
        fadd f32 sp (fmul f32 (fdiv f32 (fofInt f32 sig) 0x47000000) (fsub f32 (fget Loop.IN_HI h) (fget Loop.IN_LO h)))
      else sp
    let pvReal := (s.ptIn (fget Loop.PV_IDX h)).1
    let onModel := fbit Sup.ON_MODEL r0
    let pv := if onModel then fadd f32 (fget Loop.IN_LO h) (fmul f32 (fget Sup.YHAT r0) (fsub f32 (fget Loop.IN_HI h) (fget Loop.IN_LO h)))
      else pvReal
    let x0 := loopX0 h sp' pv
    -- compensation (R248 to R252)
    let cm := fget Loop.COMP_MODE h
    let (pos, posOk) := s.ptIn (fget Loop.POS_IDX h)
    let p := posFraction h cm pos
    let dir := posDir cm p (fget Loop.POS_LAST r0) (fget Loop.DIR r0) (fget Loop.DIR_BAND h)
    let c : Int := if cm == 0 then 0 else if posOk then compValue (tget 0 s.ctl.comp l) cm p dir else fgetS Loop.C_LAST r0
    -- cascade (R260)
    let inner := s.innerOf l
    let open_ := closedMode mode && (inner.any fun n => s.loopMode n != mCascade)
    let wasOpen := fbit Loop.CAS_OPEN r0
    let s := if open_ == wasOpen then s
      else (s.modLoop l (fput Loop.CAS_OPEN (b2n open_))).raise Ev.CTL_CAS_OPEN l [b2n open_, inner.getD 0]
    let transferAsked := fbit Loop.TRANSFER r0 || (wasOpen && !open_ && closedMode mode)
    let hold := s.rb Reg.CTL_HOLD_ALL.HOLD_ALL || x.lost
    let eff := if hold then mHold else if open_ then mTrack else mode
    let trk : Option Int :=
      if open_ then
        match inner with
        | some n =>
          if s.loopMode n == mAuto then some (qOf h (s.spE n cyc).1)
          else
            let (v, ok) := s.ptIn (fget Loop.PV_IDX (s.loop n))
            if ok then some (qOf h v) else none
        | none => none
      else
        let (v, ok) := s.ptIn (fget Loop.TRK_IDX h)
        if ok then some (qOf h v) else none
    let transfer := closedMode eff && transferAsked
    -- the law and the output (R244, R253, R254, R257, R295)
    let uPrev := s.uLast l
    let o := runSecs (if transfer then some (uPrev - c) else none) (fget Loop.NSEC h) 0 x0 false (s.loop l)
    let man0 := fgetS Loop.MAN_OUT r0
    let man := if inj == some 0 then clampI (man0 + sig) (fgetS Loop.OUT_LO h) (fgetS Loop.OUT_HI h) else man0
    let (u, lim) := selectOut h eff o.y c uPrev man trk transfer
    let lim := lim || (eff == mMan && inj == some 0 && man != man0 + sig)
    let rec_ := secState (fget Loop.NSEC h) o.x (q15 (u - c)) o.r
    let rec_ := fputS Loop.X_LAST x0 (fputS Loop.C_LAST c (fput Loop.SAT (b2n o.sat) (fput Loop.LIMITED (b2n lim)
      (fput Loop.SP_HELD (b2n held) (fput Loop.COMP_HELD (b2n (cm != 0 && !posOk)) rec_)))))
    let rec_ := if cm != 0 && posOk then fput Loop.DIR dir (fput Loop.POS_LAST p rec_) else rec_
    let rec_ := fput Loop.TRANSFER (b2n (transferAsked && !transfer)) rec_
    let s := s.setLoop l rec_
    let s := if o.any then s.bump Reg.CTL_SAT_CNT.COUNT else s
    let s := s.supStep6 l mode u uPrev (cycWt (cyc + 320))
    -- the commit (R253, R255, R261 to R263)
    let commit := cycWt (cyc + 384)
    let v := uEng h u
    let s := s.modLoop l fun r => fputS Loop.U_LAST u (fput Loop.T_COMMIT commit (fput Loop.EVALS (fget Loop.EVALS r + 1) r))
    let s := if mode == mMan then s else s.modLoop l (Loop.putMan (ofInt 16 u))
    let s := if fbit Loop.SP_TRACK h && !closedMode mode then (s.modLoop l (Loop.putSp pvReal)).dirtyMod else s
    let s := s.modLoopX l fun x => { x with uPrev := ofInt 16 uPrev, spUse := if held || !fbit Loop.SP_SRC h then x.spUse else sp }
    let out := fget Loop.OUT_IDX h
    let pt := s.pt out
    let above := (s.px out).overridden
    let inst := s.cycInst (cyc + 384)
    let s := s.toTile { idx := out, v := v, vn := twinOf v, twin := true, qual := 0, tSrc := commit, src := s.node, tRx := commit, pair := 4 }
    let s := if above then s else s.outStage 0 pt v
    let s := if fget Pt.KIND pt == kOutput && fget Pt.DEST_TYPE pt == 1 then
        s.loopFrame l (fget Pt.DEST_NODE pt) (fget Pt.DEST_INDEX pt) (if above then fget Pt.VALUE pt else v) commit inst else s
    let q := s.quality (fget Loop.PV_IDX h)
    let y := s.loop l
    let sample : Rec 16 := BitVec.ofNat 128 (pvReal + sp' * 2 ^ 32 + (ofInt 16 u + ofInt 16 sig * 2 ^ 16) * 2 ^ 64 +
      (ofInt 16 x0 + b2n (q % 2 == 0) * 2 ^ 16 + b2n lim * 2 ^ 17 + b2n o.sat * 2 ^ 18 + b2n onModel * 2 ^ 19 +
        b2n (fget Sup.PRESENT y != 0) * 2 ^ 20 + shift % 256 * 2 ^ 24) * 2 ^ 96)
    (s.tuneStore l sample commit).planNext l nom

/-! HOLD_ALL, scrub and restart (R258, R265, R266, R271, R291). -/

/-- R258, R297: HOLD_ALL changes. -/
def State.holdAll (on : Bool) (s : State) : State :=
  let was := s.rb Reg.CTL_HOLD_ALL.HOLD_ALL
  let s := s.wf Reg.CTL_HOLD_ALL.HOLD_ALL (b2n on)
  if on == was then s
  else s.loopsOn.foldl (fun s l =>
    if on then s.tuneEnd l 4 else if closedMode (s.loopMode l) then s.setTransfer l else s) s

/-- R265, R271: a failed check of a loop's configuration half or supervision record, with the twin that it names. -/
def State.cfgBad (l n v : Nat) (s : State) : State := (s.bump Reg.CTL_CFG_CRC_CNT.COUNT).twinEvent l 18 n v

/-- R271: the supervision record of a loop to be restored, checked; one that fails leaves the loop with ACTION HOLD. -/
def State.supRestore (l : Nat) (s : State) : State :=
  let r := s.sup l
  if Sup.intact r then s.supApply l r
  else
    ((s.cfgBad l (fget Sup.SCTRL_N r) (r.toNat % 2 ^ 32)).modLoop l fun x =>
      fput Sup.RLIM_NOW (fget Sup.RLIM r) (supCoef r (fget Loop.PERIOD x) x)).modLoopX l fun x => { x with supLost := true }

/-- R265, R266, R271, R291: a loop restored with its record (configuration and twins), table and supervision record starts;
`u`: the retained output of its point, if usable. -/
def State.loopRestore (l : Nat) (r : Rec 512) (u : Option Int) (s : State) : State :=
  let h : Rec 256 := BitVec.ofNat 2048 (fget Loop.HALF r)
  let mode := fget Loop.MODE r
  let twins := twinOk (fget Loop.MODE_W r) (fget Loop.MODE_N r) && twinOk (fget Loop.SP r) (fget Loop.SP_N r) && decide (mode < 6)
  let last := u.getD (fgetS Loop.SAFE_OUT h)
  let m := if u.isNone || !twins then mMan
    else if closedMode mode then (if fbit Loop.RESTART_AUTO h then mode else mMan) else mode
  let sp := if twins then fget Loop.SP r else 0
  let x : Rec 512 := BitVec.ofNat 4096 (fget Loop.HALF r)
  let x := fputS Loop.U_LAST last (Loop.putMan (ofInt 16 last) (Loop.putSp sp (Loop.putMode m x)))
  let x := if closedMode m then fput Loop.TRANSFER 1 x else x
  let s := s.setLoop l x
  let bad := !Loop.intact h
  let s := s.modLoopX l fun _ => { LoopX.zero with init := true, uPrev := ofInt 16 last, lost := bad }
  let s := if bad then s.cfgBad l (fget Loop.LCTRL_N h) (fget Loop.LCTRL h) else s
  let s := s.supRestore l
  let s := if m != mode && twins then s.raise Ev.CTL_MODE_CHANGE l [mode, m, 3] else s
  if !fbit Loop.EN h then s
  else (s.setOwned (fget Loop.OUT_IDX h) (some l)).planFirst l s.tim.now

end Sys2Proof.Machine
end

