-- ==== Sys2Proof/Machine/LinkOps.lean ====
section
/-! DEFINITION. The Apast link (R387 to R391, R406 to R412): transmission and arbitration at an egress port (R413 to R420),
ports that come UP and go down (R390, R447, R453), link words (R388). A link word is a number laid out like a payload: bit `b`
of the field at offset `o` is bit `8 * o + b` (log entry 16). -/

namespace Sys2Proof.Machine

/-! Coins and quanta. -/

def State.classW (s : State) (src c : Nat) : Nat :=
  s.rf ⟨(Reg.FAB_SRC.W0 src).off + 4 * (c / 4), 8 * (c % 4), 8⟩
def State.portCoins (s : State) (p c : Nat) : Nat :=
  s.rf ⟨(Reg.FAB_PORT.COINS0 p).off + 4 * (c / 2), 16 * (c % 2), 16⟩
def State.classCq (s : State) (p c : Nat) : Nat := s.rf ⟨(Reg.FAB_PORT.CQ0 p).off + 4 * (c / 4), 8 * (c % 4), 8⟩
def State.groupGq (s : State) (p g : Nat) : Nat := s.rf ⟨(Reg.FAB_PORT.GQ0 p).off + 4 * (g / 4), 8 * (g % 4), 8⟩

/-- R407: the credit of a class. -/
def PortQ.credit (p : PortQ) (c : Nat) : Nat :=
  p.allot.getD c 0 - (p.taken.getD c 0 + 65536 - p.cumIn.getD c 0) % 65536

/-- R408: the coins that a port set aside takes from the internal pool. -/
def State.portReserve (s : State) (p : Nat) : Nat :=
  if s.rb (Reg.FAB_PORT.MODE p) then 4096 else (List.range 8).foldl (fun a c => a + s.portCoins p c) 0

/-! Transmission. -/

/-- R519: the DATA_IN entry of a frame completes; `ring` 0: it has none. -/
def State.dataEnd (ring tag st : Nat) (s : State) : State :=
  if ring == 0 then s
  else match s.hif.inflight.find? fun i => i.data && i.disp && i.ring == ring - 1 && i.tag == tag with
    | some i => s.complete i (Reply.of st)
    | none => s

def State.dataDone (q : QFr) (st : Nat) (s : State) : State := s.dataEnd q.ring q.tag st

/-- R408: the frames that wait for coins of the internal pool are handed over, in order, as far as the coins reach. -/
def State.poolServe (s : State) : State :=
  s.fab.poolWait.foldl (fun s o => match s.originate o with
    | (true, s) => s
    | (false, s) => s.dataEnd o.ring o.tag 8) (s.onFab fun f => { f with poolWait := [] })

/-- R429, R430: the time payload as it leaves: at the root ORIGIN, at a later node CORR and STEPS. `ps`: residence and
ingress delay, `wt`: the egress stamp. -/
def timeFields (origin : Bool) (d wt : Nat) (f : Frame) : Frame :=
  if origin then { f with payload := f.payload - f.p 0 0 64 + wt }
  else
    let corr := (f.p 8 0 64 + d) % 2 ^ 64
    let steps := (f.p 0x10 0 8 + 1) % 256
    { f with payload := f.payload - f.p 8 0 64 * 2 ^ 64 - f.p 0x10 0 8 * 2 ^ 128 + corr * 2 ^ 64 + steps * 2 ^ 128 }

/-- ps as a span of watch time, to the nearest unit. -/
def ofPs (ps : Nat) : Nat := (ps * 2 ^ 32 + 5 * 10 ^ 11) / 10 ^ 12

/-- R392, R393, R412: the checks of a frame as it leaves: HCRC of each hop; the FCS that it has, the complement of the right one
where its copy is stomped, and the right one of a TIME_SYNC, whose STEPS each hop counts (log entry 16). -/
def frameOnLine (bad : Bool) (f : Frame) : Frame :=
  { f with hcrc := hcrcOf f, fcs := if bad then stompOf f else if f.ptype == 0x30 && f.cls == 3 then fcsOf f else f.fcs }

/-- A frame leaves port `p` from `start` on (R406, R409, R415, R416); `again`: the LSEQ of a replay. -/
def State.transmit (p : Nat) (q : QFr) (again : Option Nat) (start : Nat) (s : State) : State :=
  let res := start - q.tIn
  match s.spendHere (psOf res + q.delay) q.f with
  | (none, s) => (s.released q).dataDone q 8
  | (some f, s) =>
    let f := if q.src < 128 then { f with hops := (q.f.hops + 1) % 256 } else f
    let f := if f.ptype == 0x30 && f.cls == 3 then
        timeFields (decide (128 ≤ q.src)) (ofPs q.delay + res) ((s.wt + (start - s.tim.now)) % 2 ^ 64) f else f
    let f := frameOnLine q.bad f
    let x := s.port p
    let x := { x with
      taken := x.taken.set f.cls ((x.taken.getD f.cls 0 + coins f) % 65536)
      txBad := q.bad, busy := start + s.wireTime p f }
    match again with
    | some l => s.setPort p { x with txFrame := some (l, f), replay := x.replay.drop 1 }
    | none =>
      if f.cls < 3 then
        let kept := if f.late && !q.f.late then { q with f := { q.f with late := true, budget := 0 } } else q
        s.setPort p { x with
          txFrame := some (x.lseq, f), unack := x.unack ++ [(x.lseq, kept)], lseq := (x.lseq + 1) % 65536
          progress := if x.unack.isEmpty then start else x.progress }
      else
        ((s.setPort p { x with txFrame := some (0, f) }).released q).dataDone q 0

/-- R418: the leaves of an egress port that are backlogged, with their head frames, in order of arrival. -/
def State.backlog (s : State) (p : Nat) : List (ArbIn × QFr) :=
  let x := s.port p
  let heads := x.queue.foldl (fun (l : List QFr) q => if l.any fun h => h.f.cls == q.f.cls && h.src == q.src then l else l ++ [q]) []
  (heads.filter fun q => decide (coins q.f ≤ x.credit q.f.cls) &&
    (decide (3 ≤ q.f.cls) || (x.replay.isEmpty && decide (x.unack.length < 32767)))).map fun q =>
      (⟨q.f.cls, s.rf (Reg.FAB_SRC.GROUP q.src), q.src, 35 + q.f.len, s.classW q.src q.f.cls⟩, q)

/-- R417: the level of a class. -/
def State.levelOf (s : State) (c : Nat) : Nat := if c == 0 then 0 else s.rf (Reg.FAB_CLASS.LEVEL c)

/-- The rounds of every level follow the backlog (R419). -/
def State.arbFollow (p : Nat) (s : State) : State :=
  let b := (s.backlog p).map Prod.fst
  let sync (arb : List (List AClass)) (k : Nat) : List AClass := arbSync (b.filter fun i => s.levelOf i.cls == k) (arb.getD k [])
  s.modPort p fun x => { x with arb := (List.range 4).map (sync x.arb) }

/-- R419, R420: the frame that the arbiter of a port sends next, and its rounds after it. -/
def State.arbNext (s : State) (p : Nat) : Option (QFr × List (List AClass)) :=
  let b := s.backlog p
  let x := s.port p
  let unit := 64 * s.rf Reg.FAB_ARB.UNIT64
  let expert := s.rb (Reg.FAB_PORT.ARB_EXPERT p)
  let cq (c : Nat) : Option Nat := if expert then some (s.classCq p c) else none
  let gq (g : Nat) : Option Nat := if expert then some (s.groupGq p g) else none
  (List.range 4).findSome? fun k =>
    let inp := (b.map Prod.fst).filter fun i => s.levelOf i.cls == k
    if inp.isEmpty then none
    else match arbPick unit true cq gq inp arbFuel (x.arb.getD k []) with
      | (some i, cs) => (b.find? fun e => e.1 == i).map fun e => (e.2, x.arb.set k cs)
      | (none, _) => none

/-- R263: a transmission from now on would overlap a reserved loop departure. -/
def PortQ.overlaps (x : PortQ) (now stop : Nat) : Bool := x.reserved.any fun r => decide (r.1 < stop) && decide (now < r.2.1)

/-- R263, R264: the first reserved loop frame whose departure has come leaves; without credit it joins the queue. -/
def State.departLoop (p : Nat) (s : State) : Option State :=
  let x := s.port p
  match x.reserved with
  | [] => none
  | r :: rest =>
    if s.tim.now < r.1 then none
    else
      let s := s.setPort p { x with reserved := rest }
      some (if decide (coins r.2.2.f ≤ x.credit r.2.2.f.cls) then s.transmit p r.2.2 none (max r.1 x.busy) else s.enqueue p r.2.2)

/-- R411, R417, R419: an idle port sends its next frame: a loop frame that is due, a replay, or the arbiter's choice. -/
def State.egressNext (p : Nat) (s : State) : State :=
  let x := s.port p
  if !s.portUp p || s.tim.now < x.busy then s
  else match s.departLoop p with
    | some s => s
    | none =>
      match x.replay with
      | r :: _ =>
        if decide (coins r.2.f ≤ x.credit r.2.f.cls) && !x.overlaps s.tim.now (s.tim.now + s.wireTime p r.2.f) then
          s.transmit p r.2 (some r.1) s.tim.now
        else s
      | [] =>
        let s := s.arbFollow p
        match s.arbNext p with
        | none => s
        | some (q, arb) =>
          if (s.port p).overlaps s.tim.now (s.tim.now + s.wireTime p q.f) then s
          else ((s.modPort p fun x => { x with arb := arb, queue := x.queue.erase q }).transmit p q none s.tim.now).arbFollow p

/-! Ports that leave UP (R390, R447, R453). -/

/-- R453: a ring port leaves or returns to UP. -/
def State.ringWrap (p : Nat) (wrap : Bool) (s : State) : State :=
  match s.ringOfPort p with
  | none => s
  | some k =>
    let f := if s.rf (Reg.FAB_RING.PORT_CW k) == p then Reg.FAB_RING.WRAP_CW k else Reg.FAB_RING.WRAP_CCW k
    if s.rb f == wrap then s
    else
      let s := s.wf f (b2n wrap)
      if wrap then (s.bump Reg.FAB_WRAP_CNT.COUNT).raise Ev.FAB_RING_WRAP k [p] else s.raise Ev.FAB_RING_UNWRAP k [p]

/-- R447: a frame taken from a port that went down is routed again. A copy of a broadcast goes with its port. -/
def State.reroute (q : QFr) (s : State) : State :=
  if q.f.bcast then s.released q
  else if q.f.cls < 3 then
    let (ok, s) := s.forward q true
    if ok then s else s.dataDone q 8
  else ((s.bump Reg.FAB_ROUTE_DOWN_CNT.COUNT).released q).dataDone q 8

/-- The frames that came in by a port free no coins of its next session. -/
def State.uncoin (p : Nat) (s : State) : State :=
  let g (q : QFr) : QFr := if q.src == p then { q with coin := false } else q
  s.onFab fun f => { f with
    ports := f.ports.map fun e => (e.1, { e.2 with
      queue := e.2.queue.map g, unack := e.2.unack.map fun u => (u.1, g u.2), replay := e.2.replay.map fun u => (u.1, g u.2)
      reserved := e.2.reserved.map fun r => (r.1, r.2.1, g r.2.2) })
    waiting := f.waiting.map fun w => (g w.1, w.2) }

/-- R21, R390, R778, R780: a port's link state; the port reports ready while it is UP, not once MAIN has failed. -/
def State.portState (p st : Nat) (s : State) : State :=
  let f := Reg.SYS_PORT_READY.UP (p / 32)
  let m := s.rf f
  let bit := 2 ^ (p % 32)
  let m := if m / bit % 2 == 1 then m - bit else m
  (s.wf (Reg.FAB_PORT.STATE p) st).wf f (if st == 3 && !s.pwr.failing then m + bit else m)

/-- R390: an Apast port goes from its present state to TRAINING or DISABLED; its frames pass to routing. -/
def State.portLeave (p st : Nat) (s : State) : State :=
  let was := s.rf (Reg.FAB_PORT.STATE p)
  let x := s.port p
  let s := s.portState p st
  if was != 3 || s.rb (Reg.FAB_PORT.MODE p) then s.setPort p PortQ.idle
  else
    let s := (s.setPort p { PortQ.idle with txFrame := x.txFrame, txBad := x.txBad }).uncoin p
    let s := s.ringWrap p true
    (x.unack.map Prod.snd ++ x.reserved.map (fun r => r.2.2) ++ x.queue).foldl (fun s q => s.reroute q) s

/-- R391: an UP port goes down. The cause's code in the event is a free value (log entry 42). -/
def State.portDown (p : Nat) (s : State) : State :=
  let (c, s) := s.fresh
  (s.raise Ev.FAB_PORT_DOWN p [s.rf (Reg.FAB_PORT.PEER_NODE p), c % 2 ^ 32]).portLeave p 1

/-- R411: a replay of the frames `l`; the eighth without progress takes the port down. -/
def State.replayFrom (p : Nat) (l : List (Nat × QFr)) (s : State) : State :=
  let s := s.bump (Reg.FAB_PORT.PCNT_RETRY p)
  let x := s.port p
  let s := s.setPort p { x with replay := l, replays := x.replays + 1, progress := s.tim.now }
  if x.replays + 1 < 8 then s
  else (s.raise Ev.FAB_RETRY_FAIL p [((x.unack.head?).map Prod.fst).getD 0]).portDown p

/-! Link words (R388). -/

/-- The eight 16-bit counts from an offset on: class 0 in bits [31:16] of the first word. -/
def wcounts (w off : Nat) : List Nat := (List.range 8).map fun c => wfield w (off + 4 * (c / 2)) (16 * (1 - c % 2)) 16

def putCounts (off : Nat) (l : List Nat) : Nat :=
  (List.range 8).foldl (fun a c => a + (l.getD c 0 % 65536) * 2 ^ (8 * (off + 4 * (c / 2)) + 16 * (1 - c % 2))) 0

/-- R388, R410: a CREDIT word: NAK, the last retried frame accepted, the coins freed. -/
def PortQ.creditWord (x : PortQ) (nak : Bool) : Nat :=
  lwSeal (16 + b2n nak * 32 + ((x.expect + 65535) % 65536) * 2 ^ 16 + putCounts 4 x.cumOut)

def State.sendWord (p w : Nat) (s : State) : State := s.modPort p fun x => { x with txWord := some (lwSeal w) }

/-- R410: a bad or missing retried frame is asked for again, unless that has been done. -/
def State.askAgain (p : Nat) (s : State) : State :=
  let x := s.port p
  if x.nak then s
  else s.setPort p { x with nak := true, txWord := some (x.creditWord true), creditAt := s.tim.now }

/-- R390: an INIT word of this node. -/
def State.initWord (s : State) (p : Nat) : Nat :=
  lwSeal (3 + 2 ^ 8 + s.node * 2 ^ 32 + (p + s.rf (Reg.FAB_PORT.WIDTH p) * 2 ^ 8) * 2 ^ 64 +
    putCounts 0xC ((List.range 8).map fun c => s.portCoins p c))

/-- R388: a word that fails its check is discarded and counted. -/
def State.wordBad (p : Nat) (s : State) : State := s.bump (Reg.FAB_PORT.PCNT_CRC p)

/-! Enabling (R390, R408). -/

/-- R384, R677, R678: the optical engines that carry a lane of an enabled port are on. -/
def State.oeGates (s : State) : State :=
  let lanes := ((List.range 128).filter fun p => s.rb (Reg.FAB_PORT.EN p)).foldl
    (fun l p => l ++ (List.range (2 ^ s.rf (Reg.FAB_PORT.WIDTH p))).map fun k => (p + k) / 8) []
  s.wf Reg.PWR_OE_ON.ON ((List.range 16).foldl (fun m e =>
    if s.pwr.mainUp && (lanes.contains e || !s.rb Reg.PWR_GATE_CTRL.OE_GATE_EN) then m + 2 ^ e else m) 0)

/-- EN set: the port starts training and its coins are set aside. -/
def State.portEnable (p : Nat) (s : State) : State :=
  if s.rf (Reg.FAB_PORT.STATE p) != 0 then s.wf (Reg.FAB_PORT.EN p) 1
  else
    let s := (s.wf (Reg.FAB_PORT.EN p) 1).oeGates
    (s.portState p 1).drop Reg.FAB_COIN_FREE.COINS (s.portReserve p)

/-- EN cleared: the port is DISABLED and its coins return. -/
def State.portDisable (p : Nat) (s : State) : State :=
  let s := (s.wf (Reg.FAB_PORT.EN p) 0).oeGates
  if s.rf (Reg.FAB_PORT.STATE p) == 0 then s
  else
    let n := s.rf Reg.FAB_COIN_FREE.COINS + s.portReserve p
    (s.portLeave p 0).wf Reg.FAB_COIN_FREE.COINS n

/-- R441: why a port may not be enabled. -/
def State.enableBad (s : State) (p : Nat) : Bool :=
  let w := 2 ^ s.rf (Reg.FAB_PORT.WIDTH p)
  let lanes (q : Nat) : Nat × Nat := (q, q + 2 ^ s.rf (Reg.FAB_PORT.WIDTH q))
  let on := (List.range 128).filter fun q => q != p && s.rb (Reg.FAB_PORT.EN q)
  let used := (p :: on).foldl (fun a q => a + s.portReserve q) 0
  p % w != 0 || (on.any fun q => decide ((lanes q).1 < p + w) && decide (p < (lanes q).2)) || decide (2359296 < used) ||
    (!s.rb (Reg.FAB_PORT.MODE p) && ((List.range 8).any fun c => s.portCoins p c == 0 || decide (32767 < s.portCoins p c) ||
      (c == 0 && decide (s.portCoins p c < 290))))

end Sys2Proof.Machine
end

