-- ==== Sys2Proof/Machine/Ctl.lean ====
section
/-! DEFINITION. The loop commands (R231 to R233, R256, R275, R292, R293, R557, R558), the evaluation (R247), the departure of
loop frames (R263, R264), the scrub (R265, R271). -/

namespace Sys2Proof.Machine

/-- R557: the loop that a command names. -/
def loopNo (c : Cmd) : Nat := c.f 8 0 12

/-- R558: what every loop command is checked for; `need` as in `Spec`. -/
def State.loopSpec (s : State) (c : Cmd) (op need : Nat) (configured enabled : Bool) (twins : List Nat) (fault : Option Reply) : Spec :=
  let h := (s.loopProj (loopNo c)).half
  { op := op, need := need, twins := twins, cnt := Reg.CTL_TWIN_CNT.COUNT, obj := (loopNo c), fault := fault
    notReady := (configured && fget Loop.PERIOD h == 0) || (enabled && !fbit Loop.EN h) }

/-! Configuration. -/

/-- The configuration that a command's buffer gives: reserved bits zero. -/
def loopGiven (inp : Nat) : Rec 256 :=
  let g (w a b : Nat) (h : Rec 256) : Rec 256 := fput ⟨32 * w + a, b⟩ 0 h
  let h : Rec 256 := BitVec.ofNat 2048 (inp % 2 ^ 1792)
  let h := g 0 15 17 (g 2 28 4 (g 3 23 9 (g 4 23 9 (g 5 23 9 (g 6 23 9 (g 7 23 9 (g 8 12 20 (g 22 0 64 h))))))))
  let h := (List.range 8).foldl (fun h k => g (26 + 4 * k) 18 46 h) h
  fput Loop.LCTRL_N (twinOf (fget Loop.LCTRL h)) h

/-- R259: loops above `l` up a chain of outer loops, at most `n`; the count stops at a loop that has no outer loop. -/
def State.casUp (s : State) : Nat → Nat → List Nat
  | 0, _ => []
  | n + 1, l =>
    let h := (s.loopProj l).half
    if fbit Loop.EN h && fbit Loop.CAS_EN h then l :: s.casUp n (fget Loop.CAS_OUTER h) else [l]

/-- R259: the enabled inner loop that a loop drives, as the commands not yet applied will leave it. -/
def State.innerProj (s : State) (l : Nat) : Option Nat :=
  ((s.ctl.rec_.map Prod.fst ++ s.ctl.ext.map Prod.fst).eraseDups).find? fun n =>
    let h := (s.loopProj n).half
    fbit Loop.EN h && fbit Loop.CAS_EN h && fget Loop.CAS_OUTER h == l

/-- R259: loops below a loop. -/
def State.casDown (s : State) : Nat → Nat → Nat
  | 0, _ => 0
  | n + 1, l => match s.innerProj l with
    | some i => 1 + s.casDown n i
    | none => 0

/-- R259: a binding of `l` to an outer loop breaks a rule. -/
def State.casBad (s : State) (l outer : Nat) : Bool :=
  let up := s.casUp 5 outer
  !fbit Loop.EN (s.loopProj outer).half || outer == l || up.contains l || ((s.innerProj outer).any fun n => n != l) ||
    decide (4 < up.length + 1 + s.casDown 4 l)

/-- A span whose ends are not finite or not in order; the second offset where only its upper end is not finite. -/
def spanBad (lo hi off : Nat) : List (Bool × Nat) :=
  [(!ffinite f32 lo, off), (ffinite f32 lo && ffinite f32 hi && !flt f32 lo hi, off), (!ffinite f32 hi, off + 4)]

/-- R231, R240, R275: the offset of the first field at fault. -/
def State.loopFault (s : State) (l : Nat) (h : Rec 256) : Option Nat :=
  let p := s.loopProj l
  let kind (f : Fld) : Nat := s.kind (fget f h)
  let out := s.pt (fget Loop.OUT_IDX h)
  let own := tget 0 s.ctl.owner (fget Loop.OUT_IDX h)
  let cm := fget Loop.COMP_MODE h
  let basic := !fbit Loop.EXPERT h
  let pos (f : Fld) : Bool := ffinite f32 (fget f h) && flt f32 0 (fget f h)
  let neg (f : Fld) : Bool := flt f32 (fget f h) 0
  let lo := fgetS Loop.OUT_LO h
  let hi := fgetS Loop.OUT_HI h
  let eu (f : Fld) : Nat := fget f out
  let l1 : List (Bool × Nat) :=
    [(decide (1 < fget Loop.LAW h) || cm == 3, 0x00),
     (decide (fget Loop.PERIOD h < 5) || decide (1000000 < fget Loop.PERIOD h) || deadTooLong p.sup (fget Loop.PERIOD h), 0x08),
     (kind Loop.PV_IDX != kAnalog && kind Loop.PV_IDX != kDerived, 0x0C),
     (fbit Loop.SP_SRC h && kind Loop.SP_IDX == kNone, 0x10),
     (kind Loop.OUT_IDX != kOutput || (own != 0 && own != l + 1), 0x14),
     (fbit Loop.TRK_EN h && kind Loop.TRK_IDX == kNone, 0x18),
     (cm != 0 && kind Loop.POS_IDX == kNone, 0x1C),
     (fbit Loop.CAS_EN h && s.casBad l (fget Loop.CAS_OUTER h), 0x20)]
  let span := spanBad (fget Loop.OUT_EU_LO h) (fget Loop.OUT_EU_HI h) 0x2C
  let l2 := spanBad (fget Loop.IN_LO h) (fget Loop.IN_HI h) 0x24 ++ span.take 2 ++
    [(flt f32 (fget Loop.OUT_EU_LO h) (eu Pt.EU_LO), 0x2C)] ++ span.drop 2 ++ [(flt f32 (eu Pt.EU_HI) (fget Loop.OUT_EU_HI h), 0x30),
     (decide (hi < lo), 0x34), (decide (fgetS Loop.SAFE_OUT h < lo) || decide (hi < fgetS Loop.SAFE_OUT h), 0x3C)] ++
    (if cm == 0 then [(!ffinite f32 (fget Loop.POS_LO h), 0x40), (!ffinite f32 (fget Loop.POS_HI h), 0x44)]
     else spanBad (fget Loop.POS_LO h) (fget Loop.POS_HI h) 0x40)
  let l3 : List (Bool × Nat) :=
    if basic then [(!pos Loop.KP, 0x48), (!pos Loop.TI, 0x4C), (neg Loop.TD, 0x50), (neg Loop.TF, 0x54)]
    else (List.range (fget Loop.NSEC h + 1)).map fun k => (fget (Loop.SH k) h == 3, 0x68 + 16 * k)
  match (l1 ++ l2 ++ l3).find? fun x => x.1 with
  | some x => some x.2
  | none => if basic then (match deriveSecs h with
    | .error k => some (0x60 + 16 * k)
    | .ok _ => none) else none

/-- The checks of CTL_LOOP_CONFIG (R231 to R233, R237 to R242, R558). -/
def specCtlLoopConfig (c : Cmd) : State → Spec :=
  fun s =>
    { s.loopSpec c 0x50 224 false false [] none with btwins := [0], bfault := s.loopFault (loopNo c) (loopGiven c.inp) }

/-- The effect of CTL_LOOP_CONFIG (R231 to R233, R237 to R242, R558). -/
def bodyCtlLoopConfig (c : Cmd) : State → Option Reply × State :=
  (okWith fun s =>
    let l := (loopNo c)
    let h := loopGiven c.inp
    let h := if fbit Loop.EXPERT h then h else deriveLaw h
    let h := Loop.seal (fput Loop.CFG_GEN (fget Loop.CFG_GEN (s.loopProj l).half + 1) h)
    let s := if fbit Loop.EN h then (s.disown l (some (fget Loop.OUT_IDX h))).setOwned (fget Loop.OUT_IDX h) (some l) else s.disown l none
    (s.loopTake l (.config h)).dirtyHost)

/-- CTL_LOOP_CONFIG (R231 to R233, R237 to R242, R558). -/
def execCtlLoopConfig (t : Nat) (c : Cmd) (s : State) : Host.Outcome State Fault Refusal :=
  (s.command t (specCtlLoopConfig c) c (bodyCtlLoopConfig c)).done

/-- The supervision record that a command's buffer gives: reserved bits zero. -/
def supGiven (inp : Nat) : Rec 64 :=
  let r : Rec 64 := BitVec.ofNat 512 (inp % 2 ^ 256)
  supBasic (fput ⟨7, 1⟩ 0 (fput ⟨208, 16⟩ 0 r))

/-- The checks of CTL_SUP_CONFIG (R271, R273 to R275, R558). -/
def specCtlSupConfig (c : Cmd) : State → Spec :=
  fun s =>
    { s.loopSpec c 0x51 64 true false [] none with
      btwins := [0], bfault := supFault (supGiven c.inp) (fget Loop.PERIOD (s.loopProj (loopNo c)).half) }

/-- The effect of CTL_SUP_CONFIG (R271, R273 to R275, R558). -/
def bodyCtlSupConfig (c : Cmd) : State → Option Reply × State :=
  (okWith fun s =>
    let per := fget Loop.PERIOD (s.loopProj (loopNo c)).half
    (s.loopTake (loopNo c) (.sup (supDerive per (supGiven c.inp)))).dirtyHost)

/-- CTL_SUP_CONFIG (R271, R273 to R275, R558). -/
def execCtlSupConfig (t : Nat) (c : Cmd) (s : State) : Host.Outcome State Fault Refusal :=
  (s.command t (specCtlSupConfig c) c (bodyCtlSupConfig c)).done

/-! Modes and values. -/

/-- R256: q(v) of a value given, and whether it lies outside the limits or is not finite. -/
def manGiven (h : Rec 256) (v : Nat) : Int × Bool :=
  let q := qOf h v
  (q, !ffinite f32 v || decide (q < fgetS Loop.OUT_LO h) || decide (fgetS Loop.OUT_HI h < q))

/-- The checks of CTL_MODE (R256, R289, R557, R558). -/
def specCtlMode (c : Cmd) : State → Spec :=
  let m := c.f 0x10 0 3
  let has := c.f 0x0C 0 1 == 1
  fun s =>
    let p := s.loopProj (loopNo c)
    let h := p.half
    s.loopSpec c 0x52 0 true true (if has then [0x10, 0x18] else [0x10]) (faultAt
      [(decide (5 < m) || (m != p.mode && (m == mCascade && !fbit Loop.CAS_EN h || m == mTrack && !fbit Loop.TRK_EN h)), 0x10),
       (m == mMan && has && (manGiven h (c.w 0x18)).2, 0x18)])

/-- The effect of CTL_MODE (R256, R289, R557, R558). -/
def bodyCtlMode (c : Cmd) : State → Option Reply × State :=
  let m := c.f 0x10 0 3
  let has := c.f 0x0C 0 1 == 1
  (fun s =>
    let h := (s.loopProj (loopNo c)).half
    let man := if m == mMan && has then some (ofInt 16 (manGiven h (c.w 0x18)).1) else none
    (some ⟨0, 0, s.loopMode (loopNo c)⟩, (s.loopTake (loopNo c) (.mode m man)).dirtyHost))

/-- CTL_MODE (R256, R289, R557, R558). -/
def execCtlMode (t : Nat) (c : Cmd) (s : State) : Host.Outcome State Fault Refusal :=
  (s.command t (specCtlMode c) c (bodyCtlMode c)).done

/-- The checks of CTL_MAN_OUT (R256, R557, R558). -/
def specCtlManOut (c : Cmd) : State → Spec :=
  fun s =>
    let p := s.loopProj (loopNo c)
    s.loopSpec c 0x53 0 true true [0x18] (faultAt [(p.mode == mMan && (manGiven p.half (c.w 0x18)).2, 0x18)])

/-- The effect of CTL_MAN_OUT (R256, R557, R558). -/
def bodyCtlManOut (c : Cmd) : State → Option Reply × State :=
  (fun s =>
    let p := s.loopProj (loopNo c)
    if p.mode != mMan then (some (Reply.of 6), s)
    else (some Reply.ok, s.loopTake (loopNo c) (.manOut (ofInt 16 (manGiven p.half (c.w 0x18)).1))))

/-- CTL_MAN_OUT (R256, R557, R558). -/
def execCtlManOut (t : Nat) (c : Cmd) (s : State) : Host.Outcome State Fault Refusal :=
  (s.command t (specCtlManOut c) c (bodyCtlManOut c)).done

/-- The checks of CTL_SETPOINT (R253, R557, R558). -/
def specCtlSetpoint (c : Cmd) : State → Spec :=
  fun s => s.loopSpec c 0x54 0 true false [0x18] (faultAt [(!ffinite f32 (c.w 0x18), 0x18)])

/-- The effect of CTL_SETPOINT (R253, R557, R558). -/
def bodyCtlSetpoint (c : Cmd) : State → Option Reply × State :=
  (fun s =>
    let p := s.loopProj (loopNo c)
    if fbit Loop.SP_TRACK p.half && !closedMode p.mode then (some (Reply.of 6), s)
    else (some Reply.ok, (s.loopTake (loopNo c) (.setpoint (c.w 0x18))).dirtyHost))

/-- CTL_SETPOINT (R253, R557, R558). -/
def execCtlSetpoint (t : Nat) (c : Cmd) (s : State) : Host.Outcome State Fault Refusal :=
  (s.command t (specCtlSetpoint c) c (bodyCtlSetpoint c)).done

/-- The checks of CTL_COMP_TABLE (R558). -/
def specCtlCompTable (c : Cmd) : State → Spec :=
  fun s => s.loopSpec c 0x55 512 true false [] none

/-- The effect of CTL_COMP_TABLE (R558). -/
def bodyCtlCompTable (c : Cmd) : State → Option Reply × State :=
  (okWith fun s =>
    (s.loopTake (loopNo c) (.comp (BitVec.ofNat 4096 c.inp))).dirtyHost)

/-- CTL_COMP_TABLE (R558). -/
def execCtlCompTable (t : Nat) (c : Cmd) (s : State) : Host.Outcome State Fault Refusal :=
  (s.command t (specCtlCompTable c) c (bodyCtlCompTable c)).done

/-- The checks of CTL_SUP_RESET (R289, R558). -/
def specCtlSupReset (c : Cmd) : State → Spec :=
  fun s => s.loopSpec c 0x56 0 true true [] none

/-- The effect of CTL_SUP_RESET (R289, R558). -/
def bodyCtlSupReset (c : Cmd) : State → Option Reply × State :=
  (okWith fun s => s.loopTake (loopNo c) .supReset)

/-- CTL_SUP_RESET (R289, R558). -/
def execCtlSupReset (t : Nat) (c : Cmd) (s : State) : Host.Outcome State Fault Refusal :=
  (s.command t (specCtlSupReset c) c (bodyCtlSupReset c)).done

/-! Tuning. -/

/-- R292: the parameters of a start command. -/
def tuneGiven (c : Cmd) : TuneRun :=
  { sig := c.f 0x0C 0 2, inj := c.f 0x0C 2 1, prbsN := c.f 0x0C 4 4, holdP := c.f 0x0C 8 8, amp := c.f 0x0C 16 16
    len := c.f 0x10 0 17, pre := c.f 0x14 0 17, f0 := c.w 0x18, f1 := c.w 0x1C, gen := 0, period := 0, t0 := 0 }

/-- R292: a sweep frequency lies outside its range for a period. -/
def freqBad (per f : Nat) : Bool :=
  let x := fratio f32 f
  !ffinite f32 f || !flt f32 0 f || decide ((x.2 : Int) * 100000 < x.1 * (4 * per : Nat))

/-- The checks of CTL_TUNE_START (R292, R293, R558). -/
def specCtlTuneStart (c : Cmd) : State → Spec :=
  let r := tuneGiven c
  fun s =>
    let p := s.loopProj (loopNo c)
    let per := fget Loop.PERIOD p.half
    s.loopSpec c 0x57 0 true true [] (faultAt
      [(r.sig == 3 || r.prbsN < 7 || r.holdP == 0 || r.amp == 0 || (r.inj == 0 && p.mode != mMan) || (r.inj == 1 && !closedMode p.mode), 0x0C),
       (r.len == 0 || decide (65536 < r.len), 0x10), (decide (r.len ≤ r.pre), 0x14), (freqBad per r.f0, 0x18), (freqBad per r.f1, 0x1C)])

/-- The effect of CTL_TUNE_START (R292, R293, R558). -/
def bodyCtlTuneStart (c : Cmd) : State → Option Reply × State :=
  let r := tuneGiven c
  (fun s =>
      if (s.loopProj (loopNo c)).tuning then (some (Reply.of 6), s) else (some Reply.ok, s.loopTake (loopNo c) (.tuneStart r)))

/-- CTL_TUNE_START (R292, R293, R558). -/
def execCtlTuneStart (t : Nat) (c : Cmd) (s : State) : Host.Outcome State Fault Refusal :=
  (s.command t (specCtlTuneStart c) c (bodyCtlTuneStart c)).done

/-- The checks of CTL_TUNE_STOP (R297, R558). -/
def specCtlTuneStop (c : Cmd) : State → Spec :=
  fun s => { s.loopSpec c 0x58 0 false false [] none with notReady := !(s.loopProj (loopNo c)).tuning }

/-- The effect of CTL_TUNE_STOP (R297, R558). -/
def bodyCtlTuneStop (c : Cmd) : State → Option Reply × State :=
  (okWith fun s =>
    s.loopTake (loopNo c) .tuneStop)

/-- CTL_TUNE_STOP (R297, R558). -/
def execCtlTuneStop (t : Nat) (c : Cmd) (s : State) : Host.Outcome State Fault Refusal :=
  (s.command t (specCtlTuneStop c) c (bodyCtlTuneStop c)).done

/-- R296: the run header of a loop. Its layout is a free value (log entry 34). -/
def State.tuneHead (s : State) (l : Nat) : Nat :=
  let r := s.loop l
  let n := fget Sup.TUNE_CNT r
  let st := fget Sup.TUNE_STAT r
  Config.tuneHeader (match (s.loopX l).tune with
    | some t => [t.sig, t.inj, t.amp, t.len, t.pre, t.prbsN, t.holdP, t.f0, t.f1, t.period, t.gen, st, n, t.t0]
    | none => []) % 2 ^ 512

/-- The checks of CTL_TUNE_READ (R296, R558, R579). -/
def specCtlTuneRead (c : Cmd) : State → Spec :=
  let l := (loopNo c)
  let first := c.f 0x10 0 17
  let n := c.f 0x14 0 17
  fun s =>
    let have_ := fget Sup.TUNE_CNT (s.loop l)
    { s.loopSpec c 0x59 (64 + 16 * n) false false [] (faultAt [(decide (have_ < first), 0x10), (decide (have_ < first + n), 0x14)]) with
      hbm := (0x1D00000000 + 64 * l, 64) :: (if n == 0 then [] else [(0x1C00000000 + l * 0x100000 + 16 * first, 16 * n)]) }

/-- The effect of CTL_TUNE_READ (R296, R558, R579). -/
def bodyCtlTuneRead (c : Cmd) : State → Option Reply × State :=
  let l := (loopNo c)
  let first := c.f 0x10 0 17
  let n := c.f 0x14 0 17
  (fun s =>
    let v := (List.range n).foldl (fun (a : Nat) k =>
      a + (tget (0 : Rec 16) s.ctl.smp (l * 65536 + first + k)).toNat * 2 ^ (512 + 128 * k)) (s.tuneHead l)
    (some ⟨0, 0, fget Sup.TUNE_CNT (s.loop l)⟩, s.bufPut c (64 + 16 * n) v))

/-- CTL_TUNE_READ (R296, R558, R579). -/
def execCtlTuneRead (t : Nat) (c : Cmd) (s : State) : Host.Outcome State Fault Refusal :=
  (s.command t (specCtlTuneRead c) c (bodyCtlTuneRead c)).done

/-! Reading and deleting. -/

/-- The checks of CTL_LOOP_READ (R233, R558). -/
def specCtlLoopRead (c : Cmd) : State → Spec :=
  fun s => s.loopSpec c 0x5A 1600 false false [] none

/-- The effect of CTL_LOOP_READ (R233, R558). -/
def bodyCtlLoopRead (c : Cmd) : State → Option Reply × State :=
  (okWith fun s =>
    let l := (loopNo c)
    s.bufPut c 1600 ((s.loop l).toNat + (tget 0 s.ctl.comp l).toNat * 2 ^ 4096 + (s.sup l).toNat * 2 ^ 8192 +
      (tget (0 : Rec 512) s.ctl.hist l).toNat * 2 ^ 8704))

/-- CTL_LOOP_READ (R233, R558). -/
def execCtlLoopRead (t : Nat) (c : Cmd) (s : State) : Host.Outcome State Fault Refusal :=
  (s.command t (specCtlLoopRead c) c (bodyCtlLoopRead c)).done

/-- The checks of CTL_LOOP_DELETE (R232, R558). -/
def specCtlLoopDelete (c : Cmd) : State → Spec :=
  fun s => s.loopSpec c 0x5B 0 false false [] none

/-- The effect of CTL_LOOP_DELETE (R232, R558). -/
def bodyCtlLoopDelete (c : Cmd) : State → Option Reply × State :=
  (fun s =>
    if (s.innerProj (loopNo c)).isSome then (some (Reply.of 6), s)
    else (some Reply.ok, ((s.loopTake (loopNo c) .delete).disown (loopNo c) none).dirtyHost))

/-- CTL_LOOP_DELETE (R232, R558). -/
def execCtlLoopDelete (t : Nat) (c : Cmd) (s : State) : Host.Outcome State Fault Refusal :=
  (s.command t (specCtlLoopDelete c) c (bodyCtlLoopDelete c)).done

/-! Evaluations. -/

/-- LOOP_EVALUATE (R234, R235, R247, R256): the evaluation that is due next, if it is this loop's and its start has come;
`upset` is what has changed in the loop's twin words. -/
def execLoopEvaluate (t l upset : Nat) (s : State) : Host.Outcome State Fault Refusal :=
  let s := s.at_ t
  (match s.evalNext with
  | some (cyc, n) =>
    if n != l || !s.ready 15 || cycOf s.wt < cyc then s
    else
      let s := s.modLoop l fun r => fput Loop.TWINS (fget Loop.TWINS r ^^^ upset % 2 ^ 192) r
      let nom := (s.loopX l).next - 1
      let s := s.onCtl fun c => { c with started := tset 0 c.started (l / 256) (cyc + 1) }
      s.loopEval l cyc nom
  | none => s).done

/-- LOOP_FRAME_DEPART (R264): a loop frame whose departure has come leaves its port. -/
def execLoopFrameDepart (t port : Nat) (s : State) : Host.Outcome State Fault Refusal :=
  let s := s.at_ t
  if s.portUp port && decide ((s.port port).busy ≤ s.tim.now) then
    match s.departLoop port with
    | some u => u.done
    | none => s.done
  else s.done

/-- R265: a loop's configuration half reloaded. A loop that its change had taken out of use goes on in its mode. -/
def State.halfReload (l : Nat) (k : Rec 256) (s : State) : State :=
  if s.loopRuns l || !fbit Loop.EN k then s.configApply l k
  else
    let s := (s.modLoop l (fput Loop.HALF k.toNat)).modLoopX l fun x => { x with lost := false }
    let s := if closedMode (s.loopMode l) then s.setTransfer l else s
    ((s.supApply l (s.sup l)).planFirst l s.tim.now).ctlGauges

/-- R265: the check of a loop's configuration half, of which the bits `flips` have changed. A failed half is reloaded from the
retained copy. -/
def State.scrubHalf (l flips : Nat) (img : Bool) (s : State) : State :=
  let h : Rec 256 := s.half l ^^^ BitVec.ofNat 2048 flips
  let put (s : State) : State := s.modLoop l (fput Loop.HALF h.toNat)
  if Loop.intact h then put s
  else
    let s := s.cfgBad l (fget Loop.LCTRL_N h) (fget Loop.LCTRL h)
    let k := tget Loop.factoryHalf s.inUse.loops l
    if img && Loop.intact k then s.halfReload l k else (put s).modLoopX l fun x => { x with lost := true }

/-- R271: the check of a loop's supervision record. -/
def State.scrubSup (l : Nat) (img : Bool) (s : State) : State :=
  let r := s.sup l
  if Sup.intact r then s
  else
    let s := s.cfgBad l (fget Sup.SCTRL_N r) (r.toNat % 2 ^ 32)
    let k := tget Sup.factory s.inUse.sups l
    if img && Sup.intact k then s.supApply l k else s.modLoopX l fun x => { x with supLost := true }

/-- LOOP_CONFIG_SCRUB (R265, R271): the check of a loop's configuration half and supervision record, 60 s after the last one.
`flips`, `flipsSup`: bits that have changed in them; `img`: the retained copy can be used. -/
def execLoopConfigScrub (t l flips flipsSup : Nat) (img : Bool) (s : State) : Host.Outcome State Fault Refusal :=
  let s := s.at_ t
  let s := if flipsSup % 2 ^ 512 == 0 then s else s.setSup l (s.sup l ^^^ BitVec.ofNat 512 flipsSup)
  if !s.scrubDue (tget 0 s.ctl.scrubAt l) then (s.modLoop l fun r => fput Loop.HALF (fget Loop.HALF r ^^^ flips % 2 ^ 2048) r).done
  else
    let s := s.onCtl fun c => { c with scrubAt := tset 0 c.scrubAt l (s.tim.now + 1) }
    ((s.scrubHalf l flips img).scrubSup l img).done

end Sys2Proof.Machine
end

