-- ==== Sys2Proof/Machine/TimeOps.lean ====
section
/-! DEFINITION. Watch time as it is disciplined (R427 to R434, R752): offsets, steps, STATE, TIME_SYNC received. -/

namespace Sys2Proof.Machine

/-- R431: STATE changes. -/
def State.timeState (st : Nat) (s : State) : State :=
  let old := s.rf Reg.FAB_TIME_STAT.STATE
  if old == st then s
  else
    let s := (s.wf Reg.FAB_TIME_STAT.STATE st).raise Ev.FAB_TIME_STATE (s.rf Reg.FAB_TIME_ROOT.ROOT) [old, st]
    if st == 2 then s.rtcAuto else s.wtBreak

/-- A signed number saturated to `w` bits. -/
def satInt (w : Nat) (x : Int) : Nat := ofInt w (clampI x (-(2 ^ (w - 1) : Nat)) ((2 ^ (w - 1) : Nat) - 1))

/-- A span of 2^-32 s units in ns or ps, to the nearest, ties to even. -/
def nsOf (d : Int) : Int := divEven (d * 1000000000) (2 ^ 32)
def psOfI (d : Int) : Int := divEven (d * 1000000000000) (2 ^ 32)

/-- Watch time now reads `w` and runs at a rate. -/
def State.setWt (w rate : Nat) (s : State) : State :=
  s.onTim fun m => { m with wtBase := w % 2 ^ 64, wtAt := m.now, rate := rate }

/-- R431: watch time is stepped by θ. -/
def State.timeStep (d : Int) (s : State) : State :=
  let old := s.wt
  let s := (s.setWt (((old : Int) + d) % (2 ^ 64 : Nat)).toNat s.tim.rate).ctlTimeStep old
  let s := (s.bump Reg.FAB_TIME_STEP_CNT.COUNT).raise Ev.FAB_TIME_STEP 0 [satInt 32 (nsOf d)]
  (s.wtBreak.onFab fun f => { f with good := 0 }).timeState 1

/-- R431: an offset θ acts on watch time. The rate that the servo sets is a free value (log entry 17). -/
def State.timeOffset (d : Int) (s : State) : State :=
  let s := s.wf Reg.FAB_TIME_OFS.OFS_PS (satInt 32 (psOfI d))
  if s.rf Reg.FAB_TIME_STEP.STEP_NS * 2 ^ 32 < d.natAbs * 1000000000 then s.timeStep d
  else
    let (r, s) := s.fresh
    let s := s.setWt s.wt (2 ^ 31 + r % 2 ^ 32)
    let good := if d.natAbs * 1000000000 < 50 * 2 ^ 32 then s.fab.good + 1 else 0
    let s := s.onFab fun f => { f with good := good }
    if 16 ≤ good then s.timeState 2 else s

/-- R832: the pin PPS_OUT: high for 100 ms from each whole second of the watch time in force, low while the Lightship domain has no power. -/
def State.ppsOut (s : State) : Bool := s.pwr.lshipUp && decide (s.clock % 2 ^ 32 * 10 < 2 ^ 32)

/-- R430, R434: FAB_TIME_UTC takes values. -/
def State.takeUtc (ofs valid l61 l59 : Nat) (s : State) : State :=
  ((((s.wf Reg.FAB_TIME_UTC.UTC_OFS ofs).wf Reg.FAB_TIME_UTC.UTC_VALID valid).wf Reg.FAB_TIME_UTC.LEAP61 l61).wf
    Reg.FAB_TIME_UTC.LEAP59 l59).utcFollow

/-- The interval of TIME_SYNC, of this node's SYNC_LOG (R427). -/
def State.syncSpan (s : State) : Nat := 2 ^ 32 / 2 ^ s.rf Reg.FAB_TIME_CTRL.SYNC_LOG

def State.timeDown (s : State) : List Nat := (List.range 128).filter fun p => s.portUp p && s.rb (Reg.FAB_PORT.TIME_DOWN p)

/-- This node is time root on its RTC; this node is time root. -/
def State.rootRtc (s : State) : Bool := s.rb Reg.FAB_TIME_CTRL.ROOT && !s.rb Reg.FAB_TIME_CTRL.ROOT_SRC

/-- R427, R430, R431: a TIME_SYNC frame received on a port at local stamp `r`; `d`: the ingress link's delay in ps. -/
def State.takeSync (q : QFr) (p : Nat) (r : Nat) (s : State) : State :=
  let f := q.f
  let up := s.rb (Reg.FAB_PORT.TIME_UP p)
  let up2 := s.rb (Reg.FAB_PORT.TIME_UP2 p)
  let late := decide (s.fab.syncAt + 4 * s.syncSpan ≤ s.tim.now)
  let down (s : State) : State := if s.node == 0 then s.released q else s.sendOut (s.timeDown.filter fun x => x != p) q
  let s := if up then s.onFab fun x => { x with syncAt := s.tim.now }
    else if up2 then s.onFab fun x => { x with sync2At := s.tim.now } else s
  if s.rb Reg.FAB_TIME_CTRL.ROOT || !(up || (up2 && late)) then s.released q
  else
    let s := s.wf Reg.FAB_TIME_STAT.UP2 (b2n !up)
    let s := (s.wf Reg.FAB_TIME_ROOT.ROOT (f.p 0x10 8 24)).wf Reg.FAB_TIME_STAT.STEPS (min 255 (f.p 0x10 0 8 + 1))
    let s := s.takeUtc (f.p 0x18 0 16) (f.p 0x14 2 1) (f.p 0x14 0 1) (f.p 0x14 1 1)
    let s := s.onFab fun x => { x with rootSrc := f.p 0x14 3 2 }
    (down s).timeOffset (wtDiff ((f.p 0 0 64 + f.p 8 0 64 + ofPs q.delay) % 2 ^ 64) r)

end Sys2Proof.Machine
end

