-- ==== Sys2Proof/Machine/TopoOps.lean ====
section
/-! DEFINITION. Changes in a running fabric: aliases (R468), replication (R462, R463, R473), ownership of points (R464 to R467),
mirror subscriptions (R167, R168, R471, R553), epochs (R474), quenches (R478). -/

namespace Sys2Proof.Machine

/-! Points with a standby. -/

/-- The points held for a home; 0: this node's own points with a standby. -/
def State.homePts (s : State) (h : Nat) : List Nat :=
  (s.pts.rec_.filter fun e => fget Pt.KIND e.2 != kNone && fbit Pt.PEER_EN e.2 && (s.px e.1).home == h).map Prod.fst

/-- R461: the FAB_SHADOW entry of a home. -/
def State.shadowOf (s : State) (h : Nat) : Option Nat :=
  (List.range 4).find? fun k => s.rb (Reg.FAB_SHADOW.VALID k) && s.rf (Reg.FAB_SHADOW.HOME k) == h

def Shadow.fresh (now : Nat) : Shadow :=
  { contact := now, entered := now, final := 0, stored := 0, resync := false, resyncAt := 0, resyncDone := false, held := [], ring := 0
    tag := 0 }

def State.shadowX (s : State) (k : Nat) : Shadow := (tget none s.fab.shadows k).getD (Shadow.fresh 0)
def State.modShadow (k : Nat) (f : Shadow → Shadow) (s : State) : State :=
  s.onFab fun x => { x with shadows := tset none x.shadows k (some (f (s.shadowX k))) }

/-- R462: the entry of a home, taken anew where one of the four is free. -/
def State.shadowFor (h : Nat) (s : State) : Option Nat × State :=
  match s.shadowOf h with
  | some k => (some k, s)
  | none =>
    match (List.range 4).find? fun k => !s.rb (Reg.FAB_SHADOW.VALID k) with
    | none => (none, s)
    | some k =>
      (some k, ((((s.wf (Reg.FAB_SHADOW.HOME k) h).wf (Reg.FAB_SHADOW.SB_STATE k) 0).wf (Reg.FAB_SHADOW.GAP k) 0).wf
        (Reg.FAB_SHADOW.VALID k) 1).modShadow k fun _ => Shadow.fresh s.tim.now)

/-- The entry of a home goes with its last shadow. -/
def State.shadowEnd (k : Nat) (s : State) : State :=
  if s.rf (Reg.FAB_SHADOW.SB_STATE k) == 0 && (s.homePts (s.rf (Reg.FAB_SHADOW.HOME k))).isEmpty then
    (((s.wf (Reg.FAB_SHADOW.VALID k) 0).wf (Reg.FAB_SHADOW.HOME k) 0).wf (Reg.FAB_SHADOW.GAP k) 0).onFab fun f =>
      { f with shadows := tset none f.shadows k none }
  else s

/-! Aliases (R468). -/

/-- R468: aliases removed and installed in the table. -/
def State.unalias (h : Nat) (s : State) : State := s.onFab fun f => { f with alias_ := f.alias_.filter fun e => e.1 != h }

/-- R468: an alias installed; answers false where the table is full. -/
def State.installAlias (h who : Nat) (s : State) : State :=
  if !(s.fab.alias_.any fun e => e.1 == h) && decide (256 ≤ s.fab.alias_.length) then
    (s.bump Reg.FAB_ROUTE_MISS_CNT.COUNT).raise Ev.FAB_ALIAS_FULL h [who]
  else s.onFab fun f => { f with alias_ := (f.alias_.filter fun e => e.1 != h) ++ [(h, who)] }

/-- A frame of fabric control sent out of one port. -/
def State.controlOn (p ptype payload : Nat) (s : State) : State :=
  s.send { src := 135, cls := 0, ptype := ptype, dst := some (s.rf (Reg.FAB_PORT.PEER_NODE p)), payload := payload, len := 64, out := some p }

/-- Lists of at most fifteen. -/
def chunks15 {α : Type} : Nat → List α → List (List α)
  | 0, _ => []
  | n + 1, l => if l.isEmpty then [] else l.take 15 :: chunks15 n (l.drop 15)

/-- R468, R472: a port that goes UP sends the aliases to its peer. -/
def State.aliasesTo (p : Nat) (s : State) : State :=
  ((s.fab.alias_.map Prod.snd).eraseDups).foldl (fun s w =>
    (chunks15 256 ((s.fab.alias_.filter fun e => e.2 == w).map Prod.fst)).foldl (fun s l =>
      s.controlOn p 0x04 (w + l.length * 2 ^ 24 + (l.foldr (fun h n => h + n * 2 ^ 32) 0) * 2 ^ 32)) s) s

/-! Replication (R463). -/

/-- R463, R473: entries of one destination that fit in one frame, in order. -/
def replFit (d : Nat) : (n len : Nat) → List (Nat × Nat × Nat) → List (Nat × Nat × Nat)
  | _, _, [] => []
  | 0, _, _ => []
  | n + 1, len, e :: l => if e.1 != d then replFit d (n + 1) len l else if 9216 < len + e.2.2 then [] else e :: replFit d n (len + e.2.2) l

/-- R463: a REPL_STATE frame of the entries waiting for the first one's destination. -/
def State.replSend (s : State) : State :=
  match s.fab.repl with
  | [] => s
  | (d, _, _) :: _ =>
    let l := replFit d 230 8 s.fab.repl
    let (v, len) := l.foldl (fun (a : Nat × Nat) e => (a.1 + e.2.1 * 2 ^ (8 * a.2), a.2 + e.2.2)) (l.length, 8)
    let s := s.onFab fun f => { f with
      replSeq := tget 0 f.seqOut 4, replAt := s.tim.now, repl := l.foldl (fun r e => r.erase e) f.repl }
    s.send { src := 129, cls := 4, ptype := 0x42, dst := some d, twin := true, payload := v, len := len }

/-- Everything that waits is sent. -/
def State.replFlush (s : State) : State := (List.range s.fab.repl.length).foldl (fun s _ => s.replSend) s

/-! Ownership (R465 to R467). -/

/-- R465, R467: records become shadows; their conditions leave the sector stage. -/
def State.toShadow (l : List Nat) (s : State) : State :=
  l.foldl (fun s i =>
    let s := s.modPt i fun p => Pt.seal (fput Pt.SHADOW 1 p)
    let cs := (s.slotsOf i).map Prod.snd
    let s := cs.foldl (fun s c => s.delayStop c) s
    let s := s.onSec fun x => { x with queue := x.queue.filter fun c => c.mirror || c.idx != i }
    s.sectorsBy (sectorsOf (s.pt i)) fun s => cs.foldl (fun s c => s.reMember c none false) s) s

/-- R466: adaptation restarts from the profile's base values. -/
def State.readapt (i : Nat) (s : State) : State :=
  if fbit Pt.EXPERT (s.pt i) then s
  else (s.slotsOf i).foldl (fun s k =>
    let x : Rec 16 := fput Ext.SHELVE_S (fget Ext.SHELVE_S (s.condX k.2)) 0
    let (r, x) := s.deriveCond (s.pt i) k.1 (s.cond k.2) x
    (s.setCond k.2 r).setCondX k.2 x) s

/-- R466: the delays that start at the takeover instant. -/
def State.takeoverDelays (i : Nat) (s : State) : State :=
  s.input i s.wt fun s => (s.slotsOf i).foldl (fun s k =>
    let v := s.cs k.2
    if v.raw && !v.active && !v.oos && !v.unconf && !v.qhold then (s.delayStop k.2).startOn i k.2 s.wt
    else if !v.raw && v.active && !v.latched then (s.delayStop k.2).startOff k.2 s.wt
    else s) s

/-- R149, R466: a taken-over point's conditions are counted by the sector stage as they stand. -/
def State.seatPoint (i : Nat) (s : State) : State :=
  let ss := sectorsOf (s.pt i)
  s.sectorsBy ss fun s => (s.slotsOf i).foldl (fun s k =>
    let v := s.cs k.2
    s.reMember k.2 (if v.shown == 0 && !v.active then none else some ⟨v.shown, s.prio k.2, v.active, ss⟩) false) s

/-- R466: takeover of points with the updates held for them. -/
def State.takeoverPts (l : List Nat) (held : List Upd) (s : State) : State :=
  let s := l.foldl (fun s i => ((s.modPt i fun p => Pt.seal (fput Pt.SHADOW 0 p)).readapt i).seatPoint i) s
  let s := l.foldl (fun s i => s.takeoverDelays i) s
  held.foldl (fun s u => if s.evaluates u.idx then s.applyUpdate u else s) s

/-- R465: a standby starts to take a home over; `final`: FINAL_SEQ, none without a wait. -/
def State.startTaking (k : Nat) (final : Option Nat) (s : State) : State :=
  (s.wf (Reg.FAB_SHADOW.SB_STATE k) 1).modShadow k fun x =>
    { x with entered := s.tim.now, final := match final with | some f => f + 1 | none => 0 }

/-- R465: the wait for final replication is over: whether it ended short. None: it is not over. -/
def waitOver (now entered final stored : Nat) : Option Bool :=
  if final == 0 then some false
  else if stored != 0 && decide ((stored + 2 ^ 32 - final) % 2 ^ 32 < 2 ^ 31) then some false
  else if entered + ofMs 5 ≤ now then some true else none

/-- R466: a standby takes a home over. -/
def State.takeover (k : Nat) (s : State) : State :=
  let x := s.shadowX k
  let h := s.rf (Reg.FAB_SHADOW.HOME k)
  match waitOver s.tim.now x.entered x.final x.stored with
  | none => s
  | some short =>
    let s := if short then
        (s.wf (Reg.FAB_SHADOW.GAP k) 1).raise Ev.FAB_REPL_GAP h [x.final - 1, x.stored - 1] else s
    let l := s.homePts h
    let s := s.modShadow k fun x => { x with held := [], resync := false, resyncDone := false }
    let s := (s.wf (Reg.FAB_SHADOW.SB_STATE k) 2).takeoverPts l x.held
    let s := ((s.installAlias h s.node).announce none s.node h false).handover h 2 h 0 true
    (s.bump Reg.FAB_TAKEOVER_CNT.COUNT).raise Ev.FAB_TAKEOVER h [l.length]

/-- R467: a home takes its points back at the end of its wait. -/
def State.takeBack (s : State) : State :=
  match waitOver s.tim.now s.fab.homeAt s.fab.homeFinal s.fab.homeStored with
  | none => s
  | some short =>
    let who := (afind s.fab.alias_ s.node).getD (s.rf Reg.FAB_OWN_CTRL.STANDBY)
    let s := if short then s.raise Ev.FAB_REPL_GAP s.node [s.fab.homeFinal - 1, s.fab.homeStored - 1] else s
    let l := s.homePts 0
    let held := s.fab.homeHeld
    let s := s.onFab fun f => { f with homeHeld := [] }
    let s := (s.wf Reg.FAB_OWN_STAT.HOME_STATE 0).takeoverPts l held
    let s := s.handover who 2 s.node 0 true
    (s.bump Reg.FAB_TAKEOVER_CNT.COUNT).raise Ev.FAB_TAKEOVER s.node [l.length]

/-- R472: CTRL_LEAVE; a node without a standby names node 0. -/
def State.leaveFrame (reason : Nat) (s : State) : State :=
  s.control 0x02 none (s.node + (reason + s.rf Reg.FAB_OWN_CTRL.STANDBY * 2 ^ 8) * 2 ^ 32 + s.fab.replSeq * 2 ^ 64)

/-- R467, R470: a home starts to hand its points over. -/
def State.startLeave (reason : Nat) (s : State) : State :=
  (((s.wf Reg.FAB_OWN_STAT.HOME_STATE 1).onFab fun f => { f with homeAt := s.tim.now }).replFlush).leaveFrame reason

/-- R467: a home's points now belong to the standby. -/
def State.homeLost (who : Nat) (s : State) : State :=
  let l := s.homePts 0
  ((s.wf Reg.FAB_OWN_STAT.HOME_STATE 2).toShadow l).raise Ev.FAB_OWN_LOST who [l.length]

/-- R467: another node answers for this home. -/
def State.homeTaken (who : Nat) (s : State) : State :=
  if s.rf Reg.FAB_OWN_STAT.HOME_STATE != 0 then s
  else (s.homeLost who).handover who 3 s.node 0 false

/-- R467: the choice at start. -/
def State.homeChoice (s : State) : State :=
  let held := s.fab.homeHeld
  let s := s.onFab fun f => { f with homeSet := true, homeHeld := [] }
  let s := match afind s.fab.alias_ s.node with
    | some w => if w == s.node then s else s.homeTaken w
    | none => s
  held.foldl (fun s u => s.takeUpdate u) s

/-- R465: an owning standby offers a home its points. -/
def State.startReturn (k ring tag : Nat) (s : State) : State :=
  let h := s.rf (Reg.FAB_SHADOW.HOME k)
  let s := (s.wf (Reg.FAB_SHADOW.SB_STATE k) 3).replFlush
  (s.modShadow k fun x => { x with entered := s.tim.now, ring := ring, tag := tag, held := [] }).handover h 1 h s.fab.replSeq true

/-- R465: the home has accepted. -/
def State.returned (k : Nat) (s : State) : State :=
  let x := s.shadowX k
  let h := s.rf (Reg.FAB_SHADOW.HOME k)
  let s := (s.wf (Reg.FAB_SHADOW.SB_STATE k) 0).modShadow k fun x =>
    { x with held := [], resync := false, resyncDone := false, ring := 0, contact := s.tim.now, stored := 0, final := 0 }
  let s := (s.toShadow (s.homePts h)).unalias h
  let s := x.held.foldl (fun s u => s.passOn h u) s
  let s := s.announce none s.node h true
  if x.ring == 0 then s else s.finishCmd (x.ring - 1) x.tag 0x96 Reply.ok

/-- R465: no ACCEPT came. -/
def State.returnFails (k : Nat) (s : State) : State :=
  let x := s.shadowX k
  let h := s.rf (Reg.FAB_SHADOW.HOME k)
  let s := (s.wf (Reg.FAB_SHADOW.SB_STATE k) 2).modShadow k fun x => { x with held := [], ring := 0 }
  let s := (x.held.foldl (fun s u => s.takeUpdate u) s).raise Ev.FAB_HANDBACK_FAIL h []
  if x.ring == 0 then s else s.finishCmd (x.ring - 1) x.tag 0x96 (Reply.of 8)

/-- R465: the home asks for resynchronisation: all configuration and state of its points goes to it, at RESYNC_GBPS. -/
def State.startResync (k : Nat) (s : State) : State :=
  let h := s.rf (Reg.FAB_SHADOW.HOME k)
  let l := s.homePts h
  let n := l.foldl (fun a i => a + 36 + 88 + 40 + 80 * (s.slotsOf i).length) 0
  let gbps := max 1 (s.rf Reg.FAB_OWN_TIMING.RESYNC_GBPS)
  let s := l.foldl (fun s i => (s.replConfigTo h i false).replEntry i h fun _ => true) s
  s.replFlush.modShadow k fun x =>
    { x with resync := true, resyncAt := s.tim.now + (n * 8 * 2 ^ 32 + gbps * 10 ^ 9 - 1) / (gbps * 10 ^ 9) }

/-- R465: resynchronisation ends. -/
def State.endResync (k : Nat) (s : State) : State :=
  let x := s.shadowX k
  let h := s.rf (Reg.FAB_SHADOW.HOME k)
  if !x.resync || s.rf (Reg.FAB_SHADOW.SB_STATE k) != 2 || s.tim.now < x.resyncAt then s
  else
    let s := (s.modShadow k fun x => { x with resync := false, resyncDone := true }).handover h 4 h 0 true
    if s.rb Reg.FAB_OWN_CTRL.AUTO_BACK then s.startReturn k 0 0 else s

/-- R465: AUTO_BACK is set: the homes resynchronised already are offered their points. -/
def State.autoBack (was0 : Bool) (s : State) : State :=
  if !was0 || !s.rb Reg.FAB_OWN_CTRL.AUTO_BACK then s
  else (List.range 4).foldl (fun s k =>
    if s.rb (Reg.FAB_SHADOW.VALID k) && s.rf (Reg.FAB_SHADOW.SB_STATE k) == 2 && (s.shadowX k).resyncDone then s.startReturn k 0 0 else s) s

/-! Frames of class 0 received (R465, R467, R468, R472, R474, R478). -/

/-- R465: CTRL_LEAVE. -/
def State.takeLeave (f : Frame) (s : State) : State :=
  match s.shadowOf (f.p 0 0 24) with
  | some k => if f.p 4 8 24 == s.node && s.rf (Reg.FAB_SHADOW.SB_STATE k) == 0 then s.startTaking k (some (f.p 8 0 32)) else s
  | none => s

/-- R467, R468: one item of CTRL_ROUTE. -/
def State.takeRoute1 (who h : Nat) (withdraw : Bool) (s : State) : State :=
  if withdraw then s.unalias h
  else
    let s := s.installAlias h who
    if h == s.node && who != s.node && s.fab.homeSet then s.homeTaken who else s

def State.takeRoute (f : Frame) (s : State) : State :=
  (List.range (min 15 (f.p 0 24 8))).foldl (fun s k => s.takeRoute1 (f.p 0 0 24) (f.p (4 + 4 * k) 0 24) (f.p (4 + 4 * k) 24 1 == 1)) s

/-- R464, R465, R467: CTRL_HANDOVER. -/
def State.takeHandover (f : Frame) (s : State) : State :=
  let op := f.p 0 0 3
  let h := f.p 4 0 24
  let final := f.p 8 0 32
  let s := match s.shadowOf f.src with
    | some k => s.modShadow k fun x => { x with contact := s.tim.now }
    | none => s
  if h == s.node then
    match op with
    | 0 => if f.p 0 3 1 == 1 then s.homeTaken f.src else s
    | 1 =>
      if s.rf Reg.FAB_OWN_STAT.HOME_STATE != 2 then s
      else (s.wf Reg.FAB_OWN_STAT.HOME_STATE 3).onFab fun x => { x with homeAt := s.tim.now, homeFinal := final + 1 }
    | 2 => if s.rf Reg.FAB_OWN_STAT.HOME_STATE == 1 then s.homeLost f.src else s
    | _ => s
  else match s.shadowOf h with
    | none => s
    | some k =>
      let st := s.rf (Reg.FAB_SHADOW.SB_STATE k)
      match op with
      | 1 => if st == 0 then s.startTaking k (some final) else s
      | 2 => if st == 3 && f.src == h then s.returned k else s
      | 3 => if st == 2 && f.src == h then s.startResync k else s
      | _ => s

/-- R475: JOINING follows the active bank. -/
def State.joinFollow (s : State) : State := s.wf Reg.FAB_EPOCH_STAT2.JOINING (b2n s.joining)

/-- R474: an epoch's switch. -/
def State.epochAct (e issuer : Nat) (s : State) : State :=
  let tag := s.rf Reg.FAB_EPOCH_STAT.SHADOW_TAG
  if e ≤ s.rf Reg.FAB_EPOCH_CUR.EPOCH then s
  else if tag != e then (s.bump Reg.FAB_EPOCH_MISS_CNT.COUNT).raise Ev.FAB_EPOCH_MISS issuer [e, tag]
  else
    let s := s.onFab fun f => { f with active := f.shadow }
    (((s.wf Reg.FAB_EPOCH_CUR.EPOCH e).joinFollow).dirtyMod).raise Ev.FAB_EPOCH issuer [e, tag]

/-- R474: an epoch announced. -/
def State.epochTake (e issuer tSwitch : Nat) (s : State) : State :=
  if e ≤ s.rf Reg.FAB_EPOCH_CUR.EPOCH then s
  else if tSwitch < s.wt then (s.bump Reg.FAB_EPOCH_LATE_CNT.COUNT).epochAct e issuer
  else s.onFab fun f => { f with epochs := f.epochs ++ [(e, tSwitch, issuer)] }

/-- R478, R483: milliseconds that a held quench still lasts. -/
def State.quenchRemain (s : State) (k : Nat) : Nat := ((tget 0 s.fab.quenchEnd k - s.tim.now) * 1000 + (2 ^ 32 - 1)) / 2 ^ 32

/-- A quench is held, or its place is free, at entry `k`. -/
def State.putQuench (k target mask dur id issuer : Nat) (valid : Bool) (s : State) : State :=
  let s := ((s.wf (Reg.FAB_QUENCH_STAT.TARGET k) target).wf (Reg.FAB_QUENCH_STAT.CLASS_MASK k) mask).wf (Reg.FAB_QUENCH_STAT.ISSUER k) issuer
  let s := ((s.wf (Reg.FAB_QUENCH_STAT.VALID k) (b2n valid)).wf (Reg.FAB_QUENCH_STAT.QUENCH_ID k) id).wf (Reg.FAB_QUENCH_STAT.REMAIN_MS k) dur
  s.onFab fun f => { f with quenchEnd := tset 0 f.quenchEnd k (if valid then s.tim.now + ofMs dur else 0) }

/-- R478: a quench installed, replaced or released. -/
def State.quenchTake (target mask dur id issuer : Nat) (s : State) : State :=
  let valid := (List.range 16).filter fun k => s.rb (Reg.FAB_QUENCH_STAT.VALID k)
  let mine := valid.find? fun k => s.rf (Reg.FAB_QUENCH_STAT.ISSUER k) == issuer && s.rf (Reg.FAB_QUENCH_STAT.QUENCH_ID k) == id
  let ev (s : State) : State := s.raise Ev.FAB_QUENCH issuer [id, target, mask, dur]
  match mine with
  | some k => if dur == 0 then ev (s.putQuench k 0 0 0 0 0 false) else ev (s.putQuench k target mask dur id issuer true)
  | none =>
    if dur == 0 then s
    else match (List.range 16).find? fun k => !s.rb (Reg.FAB_QUENCH_STAT.VALID k) with
      | some k => ev (s.putQuench k target mask dur id issuer true)
      | none =>
        let k := valid.foldl (fun b k => if tget 0 s.fab.quenchEnd k < tget 0 s.fab.quenchEnd b then k else b) 0
        ev ((s.bump Reg.FAB_QUENCH_OVF_CNT.COUNT).putQuench k target mask dur id issuer true)

/-- R472: CTRL_QUENCH. -/
def State.takeQuench (f : Frame) (s : State) : State :=
  s.quenchTake (f.p 0 0 24) (f.p 0 24 8) (f.p 4 0 16) (f.p 4 16 16) (f.p 8 0 24)

/-! Replication received (R462, R463, R473). -/

/-- R462: this node may hold the record of a tag as a shadow sent by a node. -/
def State.mayShadow (s : State) (tag src : Nat) : Bool :=
  let i := tagIdx tag
  let h := tagNode tag
  let p := s.pt i
  idxOk i && (tag >>> 23) % 2 ^ 17 == 0 &&
    (if h == s.node then src != s.node && (s.rf Reg.FAB_OWN_STAT.HOME_STATE == 2 || s.rf Reg.FAB_OWN_STAT.HOME_STATE == 3) &&
        (fget Pt.KIND p == kNone || (fbit Pt.SHADOW p && (s.px i).home == 0))
      else src == h && (fget Pt.KIND p == kNone || (fbit Pt.SHADOW p && (s.px i).home == h)))

def State.replReject (tag h : Nat) (s : State) : State := (s.bump Reg.FAB_REPL_REJ_CNT.COUNT).raise Ev.FAB_REPL_REJECT tag [h]

/-- The first pair of words that is no twin. -/
def badPair (l : List (Nat × Nat)) : Option (Nat × Nat) := l.find? fun b => !twinOk b.1 b.2

/-- R473, R587: an entry with a failed twin is not stored. -/
def State.replTwin (tag : Nat) (b : Nat × Nat) (s : State) : State := (s.bump Reg.PNT_TWIN_CNT.COUNT).twinEvent tag 6 b.2 b.1

/-- R462: one REPL_CONFIG entry: the tag, whether it deletes, the configuration half, the condition records. -/
def State.replConfigTake (src tag : Nat) (del : Bool) (cfg recs nc : Nat) (s : State) : State :=
  let i := tagIdx tag
  let h := tagNode tag
  let own := h == s.node
  if !s.mayShadow tag src then s.replReject tag h
  else if del then
    if fget Pt.KIND (s.pt i) == kNone then s
    else
      let s := (s.dropPoint i).dirtyMod
      match s.shadowOf h with
      | some k => s.shadowEnd k
      | none => s
  else
    let rec_ (k : Nat) : Rec 64 := BitVec.ofNat 512 (recs >>> (512 * k))
    let conds := (List.range nc).map rec_
    let twins (r : Rec 64) : List (Nat × Nat) := [0, 64, 128, 192, 256, 320].map fun o => (fget ⟨o, 32⟩ r, fget ⟨o + 32, 32⟩ r)
    match badPair ((cfg % 2 ^ 32, cfg / 2 ^ 32 % 2 ^ 32) :: (conds.map twins).flatten) with
    | some b => s.replTwin tag b
    | none =>
      let p : Rec 128 := BitVec.ofNat 1024 (cfg % 2 ^ 512)
      let p := fput Pt.PEER_NODE src (fput Pt.PEER_EN 1 p)
      let slots := maskSlots (fget Pt.COND_MASK p)
      match s.allotConds i (fget Pt.COND_MASK p) with
      | none => s.replReject tag h
      | some base =>
        if slots.length != nc then s.replReject tag h
        else
          let (k, s) := if own then (some 4, s) else s.shadowFor h
          if k.isNone then s.replReject tag h
          else
            let gen := fget Pt.CFG_GEN p
            let s := s.commitPoint i base { expert := true, p := p, conds := slots.zip conds } true (if own then 0 else h)
            (s.modPt i fun q => Pt.seal (fput Pt.CFG_GEN gen q)).dirtyMod

/-- R463, R65: one REPL_STATE entry stored in a shadow; `e`: the entry's bytes. -/
def State.replStateTake (e nc : Nat) (s : State) : State :=
  let g (off lo w : Nat) : Nat := (e >>> (8 * off + lo)) % 2 ^ w
  let tag := g 0 0 64
  let i := tagIdx tag
  let h := tagNode tag
  let items := (List.range nc).map fun k => (40 + 16 * k)
  if !(fbit Pt.SHADOW (s.pt i) && fget Pt.KIND (s.pt i) != kNone && (s.px i).home == (if h == s.node then 0 else h)) then
    s.bump Reg.FAB_REPL_REJ_CNT.COUNT
  else match badPair ((g 8 0 32, g 0xC 0 32) :: items.map fun o => (g o 0 32, g (o + 4) 0 32)) with
  | some b => s.replTwin tag b
  | none =>
    let q := g 0x10 0 8
    let s := s.modPt i fun p =>
      fput Pt.LAST_SEQ (g 0x20 0 64) (fput Pt.T_SRC (g 0x18 0 64) (fput Pt.T_RX s.wt (Pt.store (g 8 0 32) p)))
    let s := s.modPx i fun x => { x with
      own := q &&& 0x0E, srcQ := q &&& 0xC0, disputed := q / 16 % 2, unconf := q / 32 % 2 * 2, start := 0 }
    let s := items.foldl (fun s o =>
      match s.condOf i (g (o + 8) 0 4) with
      | some c => (s.setCond c (Cond.putState (g o 0 32) (s.cond c))).modCondX c (fput Ext.SHELVE_S (g (o + 12) 0 20))
      | none => s) s
    (s.mirrorBits i).modPt i (fput Pt.QUALITY q)

/-- R463: the SEQ of a REPL_STATE frame stored. -/
def State.replStored (src seq : Nat) (s : State) : State :=
  match s.shadowOf src with
  | some k => s.modShadow k fun x => { x with stored := seq + 1 }
  | none => s.onFab fun f => { f with homeStored := seq + 1 }

/-! Mirrors received (R167, R168, R471, R473, R553). -/

/-- R167, R168, R471, R553: one ALM_MIRROR entry. -/
def State.mirrorTake (late : Bool) (e : Nat) (sub : Nat → Nat → State → State) (s : State) : State :=
  let g (off lo w : Nat) : Nat := (e >>> (8 * off + lo)) % 2 ^ w
  let n := g 8 16 16
  let r := s.mir n
  if !fbit Mir.VALID r || fget Mir.TAG r != g 0 0 64 || fget Mir.SLOT r != g 8 0 4 || g 8 13 1 == 1 then s
  else
    let prio := g 8 4 3
    let st := g 8 7 4
    let act := g 8 11 1 == 1
    let refresh := g 8 12 1 == 1
    let was := fbit Mir.LOST r
    let moved := fget Mir.STATE r != st || fget Mir.PRIO r != prio || fbit Mir.ACTIVE r != act
    let old := fget Mir.STATE r
    let r := fput Mir.PRIO prio (fput Mir.STATE st (fput Mir.ACTIVE (b2n act) (fput Mir.LOST 0 (fput Mir.T_RX s.wt r))))
    let s := (s.setMir n r).onSec fun x => { x with lostAt := tset 0 x.lostAt n 0 }
    let s := if was then (match s.causeOf (memberKey true n) with
        | some c => s.causeTake c act s.wt s.alm.seq
        | none => s) else s
    let s := if moved then s.toSectors
        { mirror := true, idx := tagIdx (g 0 0 64), tag := g 0 0 64, slot := g 8 0 4, cond := n, old := old, new := st
          base := if st < 4 then st else 0, active := act, prio := prio, qual := 0, fleet := false, seq := g 0x10 0 64, t := g 0x18 0 64 }
      else s
    let sb := g 0xC 0 24
    let s := if sb != 0 && tget 0 s.sec.mirStand n != sb then
        sub sb n (s.onSec fun x => { x with mirStand := tset 0 x.mirStand n sb }) else s
    if refresh then s
    else match s.sec.acks.find? fun a => a.1 == n with
      | none => s
      | some a => (s.onSec fun x => { x with acks := x.acks.erase a }).finishCmd a.2.1 a.2.2.1 0x20 (Reply.of (if late then 9 else 0))

/-- R471: one ALM_SUBSCRIBE entry from a node. -/
def State.subscribeTake (src e : Nat) (s : State) : State :=
  let g (off lo w : Nat) : Nat := (e >>> (8 * off + lo)) % 2 ^ w
  let tag := g 0 0 64
  let i := tagIdx tag
  let x : Sub := ⟨i, g 8 0 4, src, g 8 16 16, s.tim.now⟩
  let same (y : Sub) : Bool := y.node == x.node && y.entry == x.entry
  if !idxOk i || !(tagNode tag == s.node || (s.px i).home == tagNode tag) then s
  else if g 8 4 1 == 1 then
    s.onFab fun f => { f with subs := f.subs.filter fun y => !(same y && y.idx == x.idx && y.slot == x.slot) }
  else
    let rest := s.fab.subs.filter fun y => !same y
    if 262144 ≤ rest.length then s.mirrorSend x false true 0 0
    else s.onFab fun f => { f with subs := rest ++ [x] }

end Sys2Proof.Machine
end

