-- ==== Sys2Proof/Machine/FrameOps.lean ====
section
/-! DEFINITION. What a node does with a frame that is for it (R394, R399 to R405, R448, R449, R455 to R460, R468, R472, R473, R520). -/

namespace Sys2Proof.Machine

/-! Sequence windows (R455, R456). -/

/-- What a window says of a SEQ: not seen (SEQ values skipped), delivered already, too old. -/
inductive Verdict where
  | new (skipped : Nat)
  | dup
  | old
  deriving DecidableEq, Repr

def SeqWin.judge (w : SeqWin) (seq : Nat) : Verdict :=
  let up := (seq + 2 ^ 32 - w.high) % 2 ^ 32
  let down := (w.high + 2 ^ 32 - seq) % 2 ^ 32
  if up != 0 && decide (up < 2 ^ 31) then .new (up - 1)
  else if 4096 ≤ down then .old
  else if w.seen.contains seq then .dup else .new 0

/-- A SEQ is delivered: the window moves up to it. -/
def SeqWin.take (w : SeqWin) (seq : Nat) : SeqWin :=
  let up := (seq + 2 ^ 32 - w.high) % 2 ^ 32
  let high := if up < 2 ^ 31 then seq else w.high
  { w with high := high, seen := (seq :: w.seen).filter fun x => decide ((high + 2 ^ 32 - x) % 2 ^ 32 < 4096) }

def State.winOf (s : State) (node cls : Nat) : Option SeqWin := s.fab.wins.find? fun w => w.node == node && w.cls == cls

/-- The verdict on a frame. A pair of source and class seen for the first time starts its window at the frame's SEQ. -/
def State.seqJudge (s : State) (f : Frame) : Verdict :=
  match s.winOf f.src f.cls with
  | some w => w.judge f.seq
  | none => .new 0

/-- A frame's SEQ counts as delivered; its pair is the one used last. -/
def State.winTake (f : Frame) (s : State) : State :=
  let w := (match s.winOf f.src f.cls with
    | some w => w
    | none => { node := f.src, cls := f.cls, high := f.seq, seen := [] }).take f.seq
  s.onFab fun x => { x with
    wins := (w :: x.wins.filter fun y => !(y.node == f.src && y.cls == f.cls)).take 65536
    pairs := x.pairs.filter fun p => !(p.f.src == f.src && p.f.cls == f.cls && decide (4096 ≤ (w.high + 2 ^ 32 - p.f.seq) % 2 ^ 32) &&
      decide ((w.high + 2 ^ 32 - p.f.seq) % 2 ^ 32 < 2 ^ 31)) }

/-! Payloads. -/

/-- R399: the class of a payload type. -/
def ptypeClass (p : Nat) : Option Nat :=
  if 1 ≤ p && p ≤ 5 then some 0
  else if (0x10 ≤ p && p ≤ 0x12) || (0x18 ≤ p && p ≤ 0x1A) then some 1
  else if p == 0x20 then some 2
  else if p == 0x30 then some 3
  else if p == 0x40 || p == 0x42 then some 4
  else if p == 0x50 then some 5
  else if p == 0x60 then some 6
  else if p == 0x70 || p == 0x71 then some 7
  else none

/-- R400, R473: the entries of a counted payload: offset, and items of an entry with a variable tail; none where COUNT is 0 or
LEN cannot hold them. `ncOf`: NC of the entry at an offset; an entry has `base + per × NC` bytes. -/
def entriesFrom (f : Frame) (base per : Nat) (ncOf : Nat → Nat) : (count off : Nat) → Option (List (Nat × Nat))
  | 0, _ => some []
  | n + 1, off =>
    let nc := ncOf off
    let next := off + base + per * nc
    if f.len < next || 16 < nc then none
    else (entriesFrom f base per ncOf n next).map fun l => (off, nc) :: l

def entries (f : Frame) (base per : Nat) (ncOf : Nat → Nat) : Option (List (Nat × Nat)) :=
  if f.p 0 0 16 == 0 then none else entriesFrom f base per ncOf (f.p 0 0 16) 8



end Sys2Proof.Machine

namespace Sys2Proof

open Machine

def Frame.stateEntries (f : Frame) : Option (List (Nat × Nat)) := entries f 40 16 fun o => f.p (o + 0x10) 8 5
def Frame.configEntries (f : Frame) : Option (List (Nat × Nat)) := entries f 80 64 fun o => f.p (o + 8) 0 5
def Frame.fixed (f : Frame) (n : Nat) : Option (List Nat) := (entries f n 0 fun _ => 0).map fun l => l.map Prod.fst

/-- R38, R94, R458: the twin checks of a payload that carries twins. -/
def Frame.twinsOk (f : Frame) : Bool :=
  let ok (o : Nat) : Bool := twinOk (f.p o 0 32) (f.p (o + 4) 0 32)
  match f.ptype with
  | 0x40 => !f.twin || ((f.fixed 32).getD []).all fun o => ok (o + 8)
  | 0x20 => !f.twin || ok 8
  | 0x42 => (f.stateEntries.getD []).all fun e => ok (e.1 + 8) && (List.range e.2).all fun k => ok (e.1 + 40 + 16 * k)
  | 0x71 => (f.configEntries.getD []).all fun e => f.p (e.1 + 8) 8 1 == 1 || (ok (e.1 + 0x10) &&
      (List.range e.2).all fun k => [0, 8, 16, 24, 32, 40].all fun o => ok (e.1 + 0x50 + 64 * k + o))
  | _ => true

/-- R400 to R403: the update of a PNT_UPDATE entry or of a LOOP_OUT payload. -/
def Frame.updAt (f : Frame) (o pair now : Nat) (i : Nat) : Upd :=
  if f.ptype == 0x20 then
    { idx := i, v := f.p 8 0 32, vn := f.p 0xC 0 32, twin := f.twin, qual := 0, tSrc := f.p 0x10 0 64, src := f.src, tRx := now
      pair := pair }
  else
    { idx := i, v := f.p (o + 8) 0 32, vn := f.p (o + 0xC) 0 32, twin := f.twin, qual := f.p (o + 0x10) 0 8
      tSrc := f.p (o + 0x18) 0 64, src := f.src, tRx := now, pair := pair }

/-- R191: the block of a CMW_BLOCK payload. -/
def Frame.block (f : Frame) : CBlk :=
  { ch := f.p 0 16 16, fmt := f.p 0 14 2, discont := f.p 0 13 1 == 1, n := f.p 0 0 13, seq := some (f.p 4 0 32), t := f.p 8 0 64
    rate := f.p 0x10 0 32, qual := f.p 0x14 0 8, src := f.src, data := f.payload >>> 256, scaled := false }

end Sys2Proof

namespace Sys2Proof.Machine

/-- R401, R468: what a point tag of an entry names here: a point, nothing of this node's, or no point held for an aliased home. -/
inductive Named where
  | point (i : Nat)
  | unconf
  | bad
  | aliased
  deriving DecidableEq, Repr

def State.named (s : State) (tag : Nat) : Named :=
  let i := tagIdx tag
  let h := tagNode tag
  if (tag >>> 23) % 2 ^ 17 != 0 || !idxOk i then .bad
  else if h == s.node then (if (s.px i).home == 0 then .point i else .unconf)
  else if s.answersFor h then (if (s.px i).home == h && s.kind i != kNone then .point i else .aliased)
  else .bad

/-- An entry that names a point; the others are counted. -/
def State.onNamed (tag : Nat) (f : Nat → State → State) (s : State) : State :=
  match s.named tag with
  | .point i => f i s
  | .unconf => s.bump Reg.PNT_UNCONF_DROP_CNT.COUNT
  | .bad => s.bump Reg.FAB_TAG_BAD_CNT.COUNT
  | .aliased => s.bump Reg.FAB_ALIAS_DISCARD_CNT.COUNT


/-- R459: the points that a dual-ring frame names. -/
def State.pairPoints (s : State) (f : Frame) : List Nat :=
  let tags := if f.ptype == 0x20 then [f.p 0 0 64]
    else if f.ptype == 0x40 then ((f.fixed 32).getD []).map fun o => f.p o 0 64 else []
  tags.filterMap fun t => match s.named t with
    | .point i => some i
    | _ => none

/-- R459, R460: a pair whose clockwise copy was delivered before the other came: its points take or lose DISPUTED. -/
def State.pairMark (f : Frame) (agree : Bool) (s : State) : State :=
  (s.pairPoints f).foldl (fun s i =>
    (s.modPx i fun x => { x with disputed := if agree then x.disputed % 2 else x.disputed ||| 2 }).requal i) s

/-- R458: two copies agree: their digests are the same. -/
def copiesAgree (a b : Frame) : Bool := digestOf a == digestOf b

/-- R459: two copies differ. -/
def State.disagree (f : Frame) (s : State) : State :=
  (s.bump Reg.FAB_COPY_DISAGREE_CNT.COUNT).raise Ev.FAB_COPY_DISAGREE f.src [f.cls, f.ptype, f.seq]


/-- R553, R118: an acknowledgement that reaches the home. -/
def State.ackTake (tag slot : Nat) (s : State) : State :=
  s.onNamed tag fun i s =>
    match s.condOf i slot with
    | some c => if fbit Pt.SHADOW (s.pt i) then s else (s.inputs [(i, slot, c)] fun _ _ q s => s.modCs q CS.ack).2
    | none => s

/-- R471: a subscription at the home, or at its standby: a standby that only shadows the point keeps it too. -/
def State.subscribeTag (tag src e : Nat) (s : State) : State :=
  if (tag >>> 23) % 2 ^ 17 == 0 && idxOk (tagIdx tag) && tagNode tag != 0 && (s.px (tagIdx tag)).home == tagNode tag then
    s.subscribeTake src e
  else s.onNamed tag fun _ s => s.subscribeTake src e

/-- R394: a payload that its block does not take. -/
def State.ptypeBad (s : State) : State := s.bump Reg.FAB_PTYPE_BAD_CNT.COUNT

/-- Every entry of a payload is taken, in order; a payload with no valid entries is not taken (R394). -/
def State.eachEntry (l : Option (List Nat)) (g : Nat → State → State) (s : State) : State :=
  match l with
  | none => s.ptypeBad
  | some l => l.foldl (fun s o => g o s) s

/-- A payload reaches its block. `pair`: what its dual-ring pair says of it (R460); `alias_`: it is addressed to a home that this
node answers for (R468). -/
def State.takePayload (f : Frame) (pair : Nat) (alias_ : Bool) (s : State) : State :=
  match f.ptype with
  | 0x01 => s.takeQuench f
  | 0x02 => s.takeLeave f
  | 0x03 => s.epochTake (f.p 0 0 32) (f.p 4 0 24) (f.p 8 0 64)
  | 0x04 => s.takeRoute f
  | 0x05 => s.takeHandover f
  | 0x10 =>
    if alias_ then s.bump Reg.FAB_ALIAS_DISCARD_CNT.COUNT
    else s.eachEntry (f.fixed 32) fun o s => s.mirrorTake f.late (f.p o 0 256) fun dst n s => s.subscribe dst n false
  | 0x11 => s.eachEntry (f.fixed 16) fun o s => s.subscribeTag (f.p o 0 64) f.src (f.p o 0 128)
  | 0x12 => s.eachEntry (f.fixed 16) fun o s => s.ackTake (f.p o 0 64) (f.p (o + 8) 0 4)
  | 0x18 => if alias_ then s.bump Reg.FAB_ALIAS_DISCARD_CNT.COUNT else s.stationStatus f.src (f.p 0 0 1 == 1)
  | 0x19 =>
    if alias_ then s.bump Reg.FAB_ALIAS_DISCARD_CNT.COUNT else s.stationEvent f.src (f.p 0 0 4) (f.p 0 16 11) (f.p 4 0 32)
  | 0x1A => if alias_ then s.bump Reg.FAB_ALIAS_DISCARD_CNT.COUNT else s
  | 0x20 => s.onNamed (f.p 0 0 64) fun i s => s.toTile (f.updAt 0 pair s.wt i)
  | 0x40 => s.eachEntry (f.fixed 32) fun o s => s.onNamed (f.p o 0 64) fun i s => s.toTile (f.updAt o pair s.wt i)
  | 0x42 =>
    match f.stateEntries with
    | none => s.ptypeBad
    | some l => (l.foldl (fun s e => s.replStateTake (f.p e.1 0 (8 * (40 + 16 * e.2))) e.2) s).replStored f.src f.seq
  | 0x50 => s.onCmw fun w => { w with inq := w.inq ++ [f.block] }
  | 0x60 | 0x70 =>
    let r := f.p 0 0 16
    let n := f.p 0 16 14
    let c := s.ring r
    if !isRing c 4 || fget Ring.SRC c != 0 || f.len < 4 + n then s.ptypeBad else s.outItem r (f.p 4 0 (8 * n)) n
  | 0x71 =>
    match f.configEntries with
    | none => s.ptypeBad
    | some l => l.foldl (fun s e => s.replConfigTake f.src (f.p e.1 0 64) (f.p (e.1 + 8) 8 1 == 1) (f.p (e.1 + 0x10) 0 512)
        (f.p (e.1 + 0x50) 0 (512 * e.2)) e.2) s
  | _ => s

/-- R31: the full tiles that a frame feeds. -/
def State.fedFull (s : State) (f : Frame) : List Nat :=
  if f.cls == 4 then (((s.pairPoints f).map tileOf).eraseDups).filter s.tileFull else []

/-- R31, R407: a frame that its block has taken gives its coins back, or later where a tile queue that it feeds is full. -/
def State.taken (q : QFr) (s : State) : State :=
  let full := s.fedFull q.f
  if !full.isEmpty && q.coin && !s.copyLeft q then
    match q.ingress with
    | some p => s.onPts fun x => { x with owed := x.owed ++ [(p, coins q.f, full)] }
    | none => s.released q
  else s.released q

/-- A frame for this node is delivered (R394). -/
def State.deliverNow (q : QFr) (pair : Nat) (s : State) : State :=
  ((s.winTake q.f).takePayload q.f pair (!q.f.bcast && q.f.dst != s.node)).taken q

def State.pairOf (s : State) (f : Frame) : Option Pair :=
  s.fab.pairs.find? fun p => p.f.src == f.src && p.f.cls == f.cls && p.f.seq == f.seq

def State.dropPair (f : Frame) (s : State) : State :=
  s.onFab fun x => { x with pairs := x.pairs.filter fun p => !(p.f.src == f.src && p.f.cls == f.cls && p.f.seq == f.seq) }

def State.addPair (q : QFr) (st : Nat) (s : State) : State :=
  s.onFab fun x => { x with pairs := x.pairs ++ [⟨q.f, s.tim.now, q.src, st⟩] }

def State.dupDrop (q : QFr) (s : State) : State := (s.bump Reg.FAB_DUP_CNT.COUNT).released q

/-- R456, R458: one of two dual-ring copies. -/
def State.deliverDual (q : QFr) (s : State) : State :=
  let f := q.f
  if !f.twinsOk then (s.bump Reg.WLD_TWIN_CNT.COUNT).released q
  else match s.pairOf f with
    | none =>
      match s.seqJudge f with
      | .dup => s.dupDrop q
      | .old => (s.bump Reg.FAB_DUP_OLD_CNT.COUNT).released q
      | .new _ => if f.ccw then s.addPair q 1 else (s.addPair q 0).deliverNow q 0
    | some p =>
      let agree := copiesAgree p.f f
      if p.f.ccw == f.ccw then (if p.st == 1 then s.released q else s.dupDrop q)
      else
        let s := s.dropPair f
        match p.st with
        | 0 => ((if agree then s else s.disagree f).pairMark p.f agree).dupDrop q
        | 1 =>
          let s := s.released { q with f := p.f, src := p.port, tIn := p.at_ }
          (if agree then s else s.disagree f).deliverNow q (if agree then 1 else 2)
        | _ => if agree then s.dupDrop q else (s.disagree f).deliverNow q 2

/-- R456: a frame for this node passes its sequence window. -/
def State.deliverSeq (q : QFr) (s : State) : State :=
  let f := q.f
  if f.dual then s.deliverDual q
  else match s.seqJudge f with
    | .new n => (if f.cls < 3 then s else s.bump Reg.FAB_SEQ_GAP_CNT.COUNT n).deliverNow q 0
    | .dup => if f.cls < 3 then s.dupDrop q else s.deliverNow q 0
    | .old => if f.cls < 3 then (s.bump Reg.FAB_DUP_OLD_CNT.COUNT).released q else s.deliverNow q 0

/-- R394, R399, R449: a frame for this node: its type, its budget, its window. -/
def State.deliver (q : QFr) (s : State) : State :=
  if ptypeClass q.f.ptype != some q.f.cls then s.ptypeBad.released q
  else match s.spendHere q.delay q.f with
    | (none, s) => s.released q
    | (some f, s) => s.deliverSeq { q with f := f }

/-- R448: a broadcast frame. A node has seen those that it originated (log entry 41). -/
def State.deliverBcast (q : QFr) (s : State) : State :=
  let f := q.f
  if f.src == s.node then s.released q
  else match s.seqJudge f with
  | .dup => s.released q
  | .old => (s.bump Reg.FAB_DUP_OLD_CNT.COUNT).released q
  | .new _ =>
    let s := s.winTake f
    let s := if f.hops == 255 then (s.bump Reg.FAB_HOP_DROP_CNT.COUNT).raiseSlow 1 Ev.FAB_HOP_DROP f.dst [f.src, f.cls]
      else if s.node == 0 then s else s.flood q
    let s := if ptypeClass f.ptype == some 0 then s.takePayload f 0 false else s.ptypeBad
    s.released q

end Sys2Proof.Machine
end

