-- ==== Sys2Proof/Machine/Eth.lean ====
section
/-! DEFINITION. Ethernet-mode ports (R386, R421 to R426): acceptance, update datagrams, sampled values, parser rules, PTP. What PTP's
messages hold and how its slave computes come from IEEE 1588-2019 (PRESUMED, log entry 44). -/

namespace Sys2Proof.Machine

/-- R421: a frame that is not accepted. -/
def State.ethDrop (s : State) : State := s.bump Reg.FAB_ETH_DROP_CNT.COUNT

/-- An Ethernet frame sent; only the last of each kind is kept. -/
def State.ethSend (p kind v : Nat) (s : State) : State :=
  s.onFab fun f => { f with ethSent := tset 0 f.ethSent (8 * p + kind) (v + 1) }

def State.macOf (s : State) (p : Nat) : Nat := s.rf (Reg.FAB_ETH.MAC_LO p) + s.rf (Reg.FAB_ETH.MAC_HI p) * 2 ^ 32
/-- The four words of an IPv6 address, the word at the lowest offset most significant (log entry 44). -/
def State.ip6Of (s : State) (p : Nat) : Nat :=
  ((s.rf (Reg.FAB_ETH.IPV6_0 p) * 2 ^ 32 + s.rf (Reg.FAB_ETH.IPV6_1 p)) * 2 ^ 32 + s.rf (Reg.FAB_ETH.IPV6_2 p)) * 2 ^ 32 +
    s.rf (Reg.FAB_ETH.IPV6_3 p)

/-- R421: a frame's destination and tag are accepted. -/
def State.ethAccepts (s : State) (p : Nat) (f : EthFrame) : Bool :=
  let d := f.dst
  64 ≤ f.len && f.len ≤ 9238 && f.fcsOk &&
    (d == s.macOf p || d == 0xFFFFFFFFFFFF || (s.rb (Reg.FAB_ETH.PTP_L2 p) && (d == 0x011B19000000 || d == 0x0180C200000E)) ||
      d == 0x01005E000181 || d == 0x333300000181 || d == 0x3333FF000000 + s.ip6Of p % 2 ^ 24 ||
      (0x010CCD040000 ≤ d && d ≤ 0x010CCD0401FF)) &&
    (match f.vid with
      | none => true
      | some v => v == 0 || (s.rb (Reg.FAB_ETH.VLAN_EN p) && v == s.rf (Reg.FAB_ETH.VID p)))

/-! Numbers in a datagram. -/

/-- `n` bytes from offset `o`, most or least significant first. -/
def bytesAt (big : Bool) (v o n : Nat) : Nat :=
  (List.range n).foldl (fun a k => a * 256 + (v >>> (8 * (o + (if big then k else n - 1 - k)))) % 256) 0

/-- 48-bit seconds and nanoseconds as watch time (R425, R426). -/
def ptpWt (sec ns : Nat) : Nat := ((sec + 2 ^ 64 - 946684800) % 2 ^ 32) * 2 ^ 32 + ns * 2 ^ 32 / 1000000000

/-- R423, R400, R401: an update datagram. -/
def State.updDatagram (v len : Nat) (s : State) : State :=
  let b (o n : Nat) : Nat := bytesAt true v o n
  let count := b 4 4 % 65536
  if len < 4 || b 0 1 != 1 then s.ethDrop
  else if len < 12 || count == 0 || len < 12 + 32 * count then s.ptypeBad
  else
    let twin := b 3 1 % 2 == 1
    (List.range count).foldl (fun s k =>
      let o := 12 + 32 * k
      s.onNamed (b o 8) fun i s => s.toTile
        { idx := i, v := b (o + 8) 4, vn := b (o + 12) 4, twin := twin, qual := b (o + 16) 4 % 256, tSrc := b (o + 24) 8, src := s.node
          tRx := s.wt, pair := 0 }) s

/-- R425: the value of a record as binary32. -/
def parsedValue (big : Bool) (fmt v o : Nat) : Nat :=
  match fmt with
  | 0 => fofInt f32 (sext 16 (bytesAt big v o 2))
  | 1 => fofInt f32 (sext 32 (bytesAt big v o 4))
  | _ => bytesAt big v o 4

/-- R425: a timestamp. -/
def parsedTime (big : Bool) (fmt v o now : Nat) : Nat :=
  match fmt with
  | 0 => now
  | 1 => bytesAt big v o 8
  | _ => ptpWt (bytesAt big v o 6) (bytesAt big v (o + 6) 4)

/-- R425: the records of a datagram under parser rule `n`. -/
def State.parseDatagram (n v len : Nat) (s : State) : State :=
  let big := s.rb (Reg.FAB_PARSE.BIG_END n)
  let skip := s.rf (Reg.FAB_PARSE.HDR_SKIP n)
  let rl := s.rf (Reg.FAB_PARSE.REC_LEN n)
  let ts := s.rf (Reg.FAB_PARSE.TS_OFS n)
  let per := s.rb (Reg.FAB_PARSE.TS_PER_REC n)
  if rl == 0 then s
  else (List.range ((len - skip) / rl)).foldl (fun s k =>
    let o := skip + k * rl
    let i := bytesAt big v (o + s.rf (Reg.FAB_PARSE.IDX_OFS n)) (if s.rb (Reg.FAB_PARSE.IDX32 n) then 4 else 2) +
      s.rf (Reg.FAB_PARSE.BASE_IDX n)
    let bad := s.rb (Reg.FAB_PARSE.QUAL_EN n) &&
      bytesAt big v (o + s.rf (Reg.FAB_PARSE.QUAL_OFS n)) 1 &&& s.rf (Reg.FAB_PARSE.QUAL_BAD_MASK n) != 0
    if !idxOk i then s.bump Reg.FAB_TAG_BAD_CNT.COUNT
    else s.toTile
      { idx := i, v := parsedValue big (s.rf (Reg.FAB_PARSE.VFMT n)) v (o + s.rf (Reg.FAB_PARSE.VAL_OFS n)), vn := 0, twin := false
        qual := if bad then 128 else 0
        tSrc := parsedTime big (s.rf (Reg.FAB_PARSE.TSFMT n)) v (if per then o + ts else ts) s.wt, src := s.node, tRx := s.wt
        pair := 0 }) s

/-! Sampled values (R424). -/

/-- The sample time of an ASDU that arrives at watch time `now`. -/
def svTime (a : Asdu) (now : Nat) : Nat :=
  if a.synch == 0 || a.rate == 0 then now
  else
    let f := a.smpCnt * 2 ^ 32 / a.rate
    (now + 2 ^ 64 - f) / 2 ^ 32 * 2 ^ 32 % 2 ^ 64 + f

/-- One element goes to its target: a sample of a channel, or an update of a point. -/
def State.svPut (n : Nat) (e : SvElem) (t : Nat) (s : State) : State :=
  let q := (if e.invalid then 128 else 0) + (if e.above then 64 else 0)
  let x := fofInt f32 (sext 32 e.value)
  let g := s.rf (Reg.FAB_SV.TARGET n)
  if s.rb (Reg.FAB_SV.TGT n) then
    s.toTile { idx := g, v := fmul f32 x (s.rf (Reg.FAB_SV.SCALE n)), vn := 0, twin := false, qual := q, tSrc := t, src := s.node
               tRx := s.wt, pair := 0 }
  else
    let ch := g % 65536
    let c := s.chan ch
    let b : CBlk :=
      { ch := ch, fmt := 2, discont := false, n := 1, seq := none, t := t, rate := fget Chan.RATE_CHZ c, qual := q, src := s.node
        data := fmul f32 x (fget Chan.SCALE c), scaled := true }
    s.onCmw fun w => { w with inq := w.inq ++ [b] }

/-- One ASDU of a stream: the entries that match it; of two for one target the higher. -/
def State.svTake (appid : Nat) (a : Asdu) (s : State) : State :=
  let hit := (List.range 256).filter fun n =>
    s.rb (Reg.FAB_SV.VALID n) && s.rf (Reg.FAB_SV.APPID n) == appid && s.rf (Reg.FAB_SV.SVID_CRC n) == a.svid
  let good := hit.filter fun n => s.rf (Reg.FAB_SV.CONFREV n) == a.confRev
  let target (n : Nat) : Bool × Nat := (s.rb (Reg.FAB_SV.TGT n), s.rf (Reg.FAB_SV.TARGET n))
  let s := if good.length < hit.length then s.ethDrop else s
  let wins := good.filter fun n => !(good.any fun m => decide (n < m) && target m == target n)
  let t := svTime a s.wt
  wins.foldl (fun s n => match a.elems[s.rf (Reg.FAB_SV.ELEM n)]? with
    | some e => s.svPut n e t
    | none => s) s

/-! PTP (R426). -/

/-- The clockClass that a MASTER port announces. -/
def State.clockClass (s : State) : Nat :=
  let st := s.rf Reg.FAB_TIME_STAT.STATE
  let ptp := if s.rb Reg.FAB_TIME_CTRL.ROOT then s.rb Reg.FAB_TIME_CTRL.ROOT_SRC else s.fab.rootSrc == 1
  if st == 2 && ptp then 6 else if st == 3 then 7 else 248

/-- This node takes its time from PTP on port `p`. -/
def State.ptpRoot (s : State) (p : Nat) : Bool :=
  s.rb Reg.FAB_TIME_CTRL.ROOT && s.rb Reg.FAB_TIME_CTRL.ROOT_SRC && s.rf Reg.FAB_TIME_CTRL.PTP_PORT == p

/-- A correction in 2^-16 ns as a span. -/
def corrSpan (c : Int) : Int := divEven (c * 2 ^ 16) 1000000000

/-- The time of a Sync is known: `t1` − received `t2`. The offset acts once the path delay is known, and a Delay_Req goes out. -/
def State.ptpSynced (p seq t1 t2 : Nat) (s : State) : State :=
  let d := wtDiff t1 t2
  let s := s.onFab fun f => { f with ptpSync := none, ptpDiff := -d, syncAt := s.tim.now, ptpReq := some (seq, s.wt) }
  let s := s.ethSend p 7 seq
  match s.fab.ptpDelay with
  | some pd => s.timeOffset (d + pd)
  | none => s

/-- A slave port's message. -/
def State.ptpSlave (p : Nat) (m : PtpMsg) (s : State) : State :=
  let mine := match s.fab.ptpBest with
    | some b => b.1 == m.src
    | none => false
  let at_ : Nat := (((ptpWt m.sec m.ns : Nat) : Int) + corrSpan m.corr).toNat % 2 ^ 64
  match m.typ with
  | 11 =>
    let best := match s.fab.ptpBest with
      | some b => if b.1 == m.src || b.2.1 < m.rank && s.tim.now < b.2.2 + ofS 3 then
          (if b.1 == m.src then (m.src, m.rank, s.tim.now) else b) else (m.src, m.rank, s.tim.now)
      | none => (m.src, m.rank, s.tim.now)
    let moved := (s.fab.ptpBest.map Prod.fst) != some best.1
    let s := s.onFab fun f => { f with
      ptpBest := some best, ptpSync := if moved then none else f.ptpSync, ptpReq := if moved then none else f.ptpReq
      ptpDelay := if moved then none else f.ptpDelay }
    if best.1 != m.src || !s.ptpRoot p then s
    else
      s.takeUtc (if m.utcValid then ofInt 16 m.utcOfs else s.rf Reg.FAB_TIME_UTC.UTC_OFS)
        (if m.utcValid then 1 else s.rf Reg.FAB_TIME_UTC.UTC_VALID) (b2n m.leap61) (b2n m.leap59)
  | 0 =>
    if !mine || !s.ptpRoot p then s
    else if m.twoStep then s.onFab fun f => { f with ptpSync := some (m.seq, s.wt) }
    else s.ptpSynced p m.seq at_ s.wt
  | 8 => match s.fab.ptpSync with
    | some y => if mine && y.1 == m.seq then s.ptpSynced p m.seq at_ y.2 else s
    | none => s
  | 9 => match s.fab.ptpReq with
    | some y =>
      if mine && y.1 == m.seq && m.req == p then
        let t4 : Nat := (((ptpWt m.sec m.ns : Nat) : Int) - corrSpan m.corr).toNat % 2 ^ 64
        s.onFab fun f => { f with ptpReq := none, ptpDelay := some ((f.ptpDiff + wtDiff t4 y.2) / 2) }
      else s
    | none => s
  | _ => s

/-- R426: a PTP message on a port. -/
def State.takePtp (p : Nat) (m : PtpMsg) (s : State) : State :=
  if m.domain != s.rf (Reg.FAB_ETH.PTP_DOMAIN p) then s
  else match s.rf (Reg.FAB_ETH.PTP_ROLE p) with
    | 1 => s.ptpSlave p m
    | 2 => if m.typ == 1 then s.ethSend p 6 s.wt else s
    | _ => s

/-- R422: an accepted frame, by the first row that matches. -/
def State.ethTake (p : Nat) (f : EthFrame) (s : State) : State :=
  let mine (v6 : Bool) (dst : Nat) : Bool := if v6 then dst == s.ip6Of p else dst == s.rf (Reg.FAB_ETH.IPV4 p)
  match f.body with
  | .ptpL2 m => if s.rb (Reg.FAB_ETH.PTP_L2 p) then s.takePtp p m else s.ethDrop
  | .sv appid l => if s.selfQuenched 5 then s.ethDrop else l.foldl (fun s a => s.svTake appid a) s
  | .arp a => if a == s.rf (Reg.FAB_ETH.IPV4 p) then s.ethSend p 1 a else s.ethDrop
  | .ns a => if a == s.ip6Of p then s.ethSend p 2 a else s.ethDrop
  | .udp v6 dst port ok v len ptp =>
    if port == 319 || port == 320 then (match ptp with
      | some m => s.takePtp p m
      | none => s)
    else if !ok || !mine v6 dst then s.ethDrop
    else if port == s.rf (Reg.FAB_ETH.UPD_PORT p) then (if s.selfQuenched 4 then s.ethDrop else s.updDatagram v len)
    else match (List.range 64).find? fun n => s.rb (Reg.FAB_PARSE.EN n) && s.rf (Reg.FAB_PARSE.UDP_PORT n) == port with
      | some n => if s.selfQuenched 4 then s.ethDrop else s.parseDatagram n v len
      | none => s.ethDrop
  | .other => s.ethDrop

/-- The coins of an Ethernet frame in its port's buffer (log entry 44). -/
def ethCoins (f : EthFrame) : Nat := (f.len + 63) / 64

/-- R421: the buffer of 4,096 coins of port `p`, as far as full tile queues hold its frames (R31), has no room for a frame. -/
def State.ethFull (s : State) (p : Nat) (f : EthFrame) : Bool :=
  decide (4096 < s.pts.owed.foldl (fun a o => if o.1 == p then a + o.2.1 else a) (ethCoins f))

/-- R31: the tiles before whose full queue more updates wait than in an earlier state. -/
def State.waitMore (s before : State) : List Nat :=
  (s.pts.waiting.map Prod.fst).filter fun k => decide ((tget [] before.pts.waiting k).length < (tget [] s.pts.waiting k).length)

/-- R31, R421: a frame stays in its port's buffer while updates of it wait at the full queues of tiles `l`. -/
def State.ethHeld (p : Nat) (f : EthFrame) (l : List Nat) (s : State) : State :=
  if l.isEmpty then s else s.onPts fun x => { x with owed := x.owed ++ [(p, ethCoins f, l)] }

/-- ETH_FRAME_RECEIVE (R421, R422): a frame on an Ethernet-mode port. -/
def execEthFrameReceive (t port : Nat) (f : EthFrame) (s : State) : Host.Outcome State Fault Refusal :=
  let s1 := s.at_ t
  if !s1.pwr.mainUp || 128 ≤ port || !s1.rb (Reg.FAB_PORT.MODE port) || s1.rf (Reg.FAB_PORT.STATE port) != 3 then s.done
  else if s1.ethAccepts port f && !s1.ethFull port f then
    ((s1.ethTake port f).ethHeld port f ((s1.ethTake port f).waitMore s1)).done
  else s1.ethDrop.done

/-- PTP_MASTER_SEND (R426): a MASTER port sends what is due: Announce each second, Sync with Follow_Up 16 times a second. -/
def execPtpMasterSend (t port : Nat) (s : State) : Host.Outcome State Fault Refusal :=
  let s1 := s.at_ t
  if !s1.pwr.mainUp || 128 ≤ port || !s1.rb (Reg.FAB_PORT.MODE port) || s1.rf (Reg.FAB_PORT.STATE port) != 3 ||
      s1.rf (Reg.FAB_ETH.PTP_ROLE port) != 2 then s.done
  else
    let now := s1.tim.now
    let due (l : Tab Nat) (d : Nat) : Bool := tget 0 l port == 0 || decide (tget 0 l port + d ≤ now + 1)
    let s1 := if due s1.fab.announceAt (2 ^ 32) then
        (s1.ethSend port 3 s1.clockClass).onFab fun f => { f with announceAt := tset 0 f.announceAt port (now + 1) } else s1
    let s1 := if due s1.fab.ptpSyncAt (2 ^ 28) then
        ((s1.ethSend port 4 s1.fab.ptpSeq).ethSend port 5 s1.wt).onFab fun f =>
          { f with ptpSyncAt := tset 0 f.ptpSyncAt port (now + 1), ptpSeq := (f.ptpSeq + 1) % 65536 }
      else s1
    s1.done

end Sys2Proof.Machine
end

