-- ==== Sys2Proof/Machine/Frames.lean ====
section
/-! DEFINITION. Frames through a node: reception (R387, R394, R410, R412, R413, R448, R479), egress (R419), waits (R447, R458), host
data (R518, R519). -/

namespace Sys2Proof.Machine

/-- R479: a frame of a quenched class from a neighbour that is quenched. -/
def State.ingressQuenched (s : State) (p : Nat) (f : Frame) : Bool :=
  f.cls != 0 && f.src == s.rf (Reg.FAB_PORT.PEER_NODE p) && (List.range 16).any fun k =>
    s.rb (Reg.FAB_QUENCH_STAT.VALID k) && s.rf (Reg.FAB_QUENCH_STAT.TARGET k) == f.src &&
      (s.rf (Reg.FAB_QUENCH_STAT.CLASS_MASK k) >>> f.cls) % 2 == 1

/-- R394, R468: a frame is for this node. -/
def State.isLocal (s : State) (f : Frame) : Bool :=
  f.dst != 0 && f.dst != 0xFFFFFF && (f.dst == s.node || ((f.cls == 1 || f.cls == 2 || f.cls == 4) && s.answersFor f.dst))

/-- A class 3 frame of time transfer: it goes down the time tree, not by route (R427). -/
def isSync (f : Frame) : Bool := f.cls == 3 && f.ptype == 0x30

/-- R413, R414: when a frame that is cut through departs: within the bound of its class after its ingress, by how much is a free
value (log entry 42), not before its port is free. -/
def State.cutStart (s : State) (q : QFr) (e : Nat) : Nat :=
  max (q.tIn + s.fresh.1 % ((if q.f.cls < 3 then 1932 else 2576) + 1)) (s.port e).busy

/-- R263, R413: the egress port through which a frame is cut through. -/
def State.cutPort (s : State) (q : QFr) : Option Nat :=
  let f := q.f
  if f.bcast || f.hops == 255 || s.node == 0 || isSync f || s.isLocal f || s.ingressQuenched q.src f then none
  else match s.egress f q.ingress with
    | .out e =>
      let x := s.port e
      let now := s.tim.now
      if s.rf (Reg.FAB_PORT.WIDTH e) ≤ s.rf (Reg.FAB_PORT.WIDTH q.src) && x.busy ≤ now && coins f ≤ x.credit f.cls && x.replay.isEmpty &&
          (3 ≤ f.cls || x.unack.length < 32767) && !(x.queue.any fun w => w.f.cls == f.cls) &&
          !((s.backlog e).any fun b => decide (s.levelOf b.1.cls ≤ s.levelOf f.cls)) && !x.overlaps (s.cutStart q e) (s.cutStart q e + s.wireTime e f)
      then some e else none
    | _ => none

/-- R413, R414: a frame is cut through. -/
def State.cutThrough (q : QFr) (e : Nat) (s : State) : State := s.fresh.2.transmit e q none (s.cutStart q e)

/-- R394, R443, R446, R448, R479: an intact frame that the link has accepted. -/
def State.route (q : QFr) (s : State) : State :=
  let f := q.f
  if s.ingressQuenched q.src f then (s.bump Reg.FAB_QUENCH_DROP_CNT.COUNT).released q
  else if isSync f then s.takeSync q q.src (s.wtOf q.tIn)
  else if f.bcast then s.deliverBcast q
  else if s.isLocal f then s.deliver q
  else if f.dst == 0 || f.dst == 0xFFFFFF then (s.bump Reg.FAB_ROUTE_MISS_CNT.COUNT).released q
  else if s.node == 0 then s.released q
  else if f.hops == 255 then
    ((s.bump Reg.FAB_HOP_DROP_CNT.COUNT).raiseSlow 1 Ev.FAB_HOP_DROP f.dst [f.src, f.cls]).released q
  else match s.cutPort q with
    | some e => s.cutThrough q e
    | none => (s.forward q true).2

/-- R387, R392, R394, R410, R412: a packet with prefix KIND and LSEQ and a body of `plen` bytes. -/
def State.receiveFrame (p kind lseq plen : Nat) (f : Frame) (s : State) : State :=
  let x := s.port p
  let hdrOk := f.hcrc == hcrcOf f && plen == 28 + f.len
  let fcsOk := f.fcs == fcsOf f
  let stomped := f.fcs == stompOf f
  let retried := kind == 1
  let free (s : State) : State := s.freeCoins p (f.cls % 8) (coins f)
  let again (s : State) : State := if retried then s.askAgain p else s
  let hdr (s : State) : State := s.bump Reg.FAB_HDR_ERR_CNT.COUNT
  let crc (s : State) : State := s.bump (Reg.FAB_PORT.PCNT_CRC p)
  let q : QFr := { f := f, src := p, tIn := s.tim.now - s.wireTime p f, delay := s.rf (Reg.FAB_PORT.LINK_DELAY p) }
  let accept (s : State) : State :=
    if retried then s.modPort p fun x => { x with expect := (x.expect + 1) % 65536, nak := false } else s
  let inOrder := !retried || lseq % 65536 == x.expect
  if kind != 1 && kind != 2 then hdr s
  else if !hdrOk || f.len < 64 || 9216 < f.len then again (free (crc (hdr s)))
  else if retried != decide (f.cls < 3) || 7 < f.cls || (f.bcast && f.cls != 0) then again (free (hdr s))
  else if stomped then
    let s := free (s.bump Reg.FAB_STOMP_CNT.COUNT)
    if inOrder then accept s else s
  else if !fcsOk then
    let s := s.bump Reg.FAB_FCS_ERR_CNT.COUNT
    match (if inOrder then s.cutPort q else none) with
    | some e => again (s.cutThrough { q with bad := true } e)
    | none => again (free (crc s))
  else if !inOrder then
    let back := (x.expect + 65536 - lseq % 65536) % 65536
    if back ≤ 32767 then (free s).modPort p fun x => { x with txWord := some (x.creditWord false), creditAt := s.tim.now }
    else again (free s)
  else (accept s).route q

/-- FRAME_RECEIVE (R394): a packet has arrived whole on port `port`; `hcrc`, `fcs`: the checks of its frame as received. -/
def execFrameReceive (t port kind lseq plen : Nat) (f : Frame) (hcrc fcs : Nat) (s : State) : Host.Outcome State Fault Refusal :=
  let s1 := s.at_ t
  if !s1.pwr.mainUp || !s1.portUp port then s.done else (s1.receiveFrame port kind lseq plen { f with hcrc := hcrc, fcs := fcs }).done

/-- EGRESS_SEND (R417 to R420): port `port` sends its next frame. -/
def execEgressSend (t port : Nat) (s : State) : Host.Outcome State Fault Refusal :=
  let s1 := s.at_ t
  if !s1.pwr.mainUp then s.done else (s1.poolServe.egressNext port).done

/-- PAIR_WAIT_EXPIRE (R458): the first counter-clockwise copy whose wait is over is delivered. -/
def execPairWaitExpire (t : Nat) (s : State) : Host.Outcome State Fault Refusal :=
  let s1 := s.at_ t
  match s1.fab.pairs.find? fun p => p.st == 1 && decide (p.at_ + ofUs (s1.rf Reg.FAB_RING_CTRL.PAIR_WAIT_US) ≤ s1.tim.now) with
  | none => s.done
  | some p =>
    let s1 := s1.onFab fun x => { x with pairs := x.pairs.map fun y => if y == p then { y with st := 2 } else y }
    ((s1.bump Reg.FAB_PAIR_TMO_CNT.COUNT).deliverNow { f := p.f, src := p.port, tIn := p.at_, delay := 0 } 0).done

/-- REROUTE_WAIT_EXPIRE (R447): the first frame that has waited 1 ms for an UP egress is dropped. -/
def execRerouteWaitExpire (t : Nat) (s : State) : Host.Outcome State Fault Refusal :=
  let s1 := s.at_ t
  match s1.fab.waiting.find? fun w => decide (w.2 ≤ s1.tim.now) with
  | none => s.done
  | some w =>
    let s1 := s1.onFab fun x => { x with waiting := x.waiting.erase w }
    (((s1.bump Reg.FAB_ROUTE_DOWN_CNT.COUNT).raiseSlow 0 Ev.FAB_ROUTE_MISS w.1.f.dst [1]).released w.1 |>.dataDone w.1 8).done

/-- DATA_IN_SEND (R518, R519): the next fetched entry of DATA_IN ring `ring`; `data`: the buffer's bytes. -/
def execDataInSend (t ring data : Nat) (dmaErr : Bool) (s : State) : Host.Outcome State Fault Refusal :=
  let s1 := s.at_ t
  let c := s1.ring ring
  match s1.hif.inflight.find? fun i => i.ring == ring && i.data && !i.disp with
  | none => s.done
  | some i =>
    let addr := i.desc.toNat % 2 ^ 64
    let len := (i.desc.toNat >>> 64) % 2 ^ 14
    let fn := fget Ring.FUNC c
    let cls := fget Ring.DCLASS c
    if !s1.pwr.mainUp || s1.selfQuenched cls then s.done
    else match s1.hostDenied (fbit Ring.WORLD c) addr len with
      | some reg => ((s1.denied fn 0 3 (reg + 2 ^ 31) 0).complete i (Reply.of 3)).done
      | none =>
        if len == 0 || 9212 < len then (s1.complete i (Reply.range 8)).done
        else if dmaErr then ((s1.bump Reg.HIF_DMA_ERR_CNT.COUNT).complete i (Reply.of 8)).done
        else
          let s1 := s1.onHif fun h => { h with inflight := h.inflight.map fun j => if j == i then { j with disp := true } else j }
          let i := { i with disp := true }
          let (ok, s1) := s1.originate
            { src := 128, cls := cls, ptype := if cls == 6 then 0x60 else 0x70, dst := some (fget Ring.DEST_NODE c)
              payload := fget Ring.DEST_RING c + len * 2 ^ 16 + (data % 2 ^ (8 * len)) * 2 ^ 32, len := 4 + len, ring := ring + 1
              tag := i.tag }
          (if ok then s1 else s1.complete i (Reply.of 8)).done

end Sys2Proof.Machine
end

