-- ==== Sys2Proof/Machine/Historian.lean ====
section
/-! DEFINITION. The historian: controllers, volumes and their legs, mounting, sealing, erasing, copying and reading
(R361 to R371, R561). -/

namespace Sys2Proof.Machine

/-! Controllers and legs. -/

/-- A controller is present and not FAILED. -/
def State.ctrlrUp (s : State) (n : Nat) : Bool := s.rb (Reg.HST_CTRLR.PRESENT n) && !s.rb (Reg.HST_CTRLR.FAILED n)

/-- The legs of a volume, lost or not: number and place. -/
def State.legsOf (s : State) (v : Nat) : List (Nat × Leg) :=
  match s.vol v with
  | none => []
  | some x => (0, x.leg0) :: (if s.rb (Reg.HST_VOL.MIRROR v) then [(1, x.leg1)] else [])

/-- The gauges of the HST block (R380). -/
def State.hstGauges (s : State) : State :=
  let vs := (tkeys s.hst.vols).filter fun v => s.rf (Reg.HST_VOL.STATE v) != 0
  let mib := vs.foldl (fun a v => a + s.rf (Reg.HST_VOL.SEG_COUNT v) * (1 + s.rf (Reg.HST_VOL.MIRROR v))) 0
  let s := (s.wf Reg.HST_VOL_USED.COUNT vs.length).wf Reg.HST_MANAGED_LO.MIB (mib % 2 ^ 32)
  (s.wf Reg.HST_MANAGED_HI.MIB (mib / 2 ^ 32)).wf Reg.HST_CTRLR_NOW.COUNT ((List.range 128).filter s.ctrlrUp).length

/-- The blocks of a namespace that the historian uses; none where it does not use it. -/
def State.nsSize (s : State) (ctrlr nsid : Nat) : Option Nat :=
  let n := tget 0 s.hst.nsBlocks (ctrlr * 2 ^ 32 + nsid)
  if n == 0 then none else some n

/-- R364: a leg's blocks touch those of a leg of another volume, or of this one's leg other than `skip`. -/
def State.legOverlap (s : State) (v skip segs : Nat) (l : Leg) : Bool :=
  (tkeys s.hst.vols).any fun w => s.rf (Reg.HST_VOL.STATE w) != 0 && (s.legsOf w).any fun p =>
    !(w == v && p.1 == skip) && p.2.ctrlr == l.ctrlr && p.2.nsid == l.nsid &&
      decide (p.2.slba < l.slba + segs * 256) && decide (l.slba < p.2.slba + s.rf (Reg.HST_VOL.SEG_COUNT w) * 256)

/-- R364: what is wrong with a new leg given at an offset of a descriptor. -/
def State.legFaults (s : State) (v skip segs off : Nat) (l : Leg) : List (Bool × Nat) := [
  (!s.ctrlrUp l.ctrlr, off),
  ((s.nsSize l.ctrlr l.nsid).isNone, off + 4),
  (decide ((s.nsSize l.ctrlr l.nsid).getD 0 < l.slba + segs * 256), off + 8),
  (s.legOverlap v skip segs l, off + 8)]

/-- The leg that a descriptor gives at an offset. -/
def legNamed (c : Cmd) (off : Nat) : Leg := ⟨c.f off 0 7, c.w (off + 4), c.d (off + 8), false⟩

/-- R369: the volume is current for the Ledger or written by a capture. -/
def State.volInUse (s : State) (v : Nat) : Bool :=
  (s.rb Reg.LDG_CUR.VALID && s.rf Reg.LDG_CUR.VOLUME == v) ||
    match s.vol v with
    | some x => x.capUse != 0
    | none => false

/-! Commands outstanding. -/

/-- A command leaves; those that waited for it are issued (R361; log entry 11). -/
def State.nvDone (n : Nat) (s : State) : State := s.onHst fun h => { h with nv := nvIssue s.tim.now (h.nv.eraseIdx n) }

/-- Commands that will not be completed leave; a flush that has no other leg to wait for is then written. -/
def State.nvDrop (p : NvCmd → Bool) (s : State) : State :=
  let out := s.hst.nv.filter p
  let s := s.onHst fun h => { h with nv := nvIssue s.tim.now (h.nv.filter fun c => !p c) }
  ((out.filter fun c => c.flush != 0).map fun c => c.flush - 1).eraseDups.foldl (fun s fl => s.flushWritten fl) s

/-- R366: the bytes of a segment are sealed for a volume, its generation and the segment's number. -/
def sealedSeg (v gen seg : Nat) (b : Nat) : Bool :=
  let t := b >>> (8 * 0xFF000)
  let w (k : Nat) : Nat := (t >>> (32 * k)) % 2 ^ 32
  w 0 == 0x4C494154 && w 1 == v && w 2 == gen && w 3 == seg && w 15 == crc32c 0 60 t && decide (w 5 ≤ 0xFF000) &&
    w 14 == crc32c 0 (w 5) b

/-- BODY_CRC of a segment's trailer. -/
def bodyCrc (b : Nat) : Nat := (b >>> (8 * 0xFF000 + 448)) % 2 ^ 32

/-- R371: which leg a read takes of what was read of both, and whether it is sealed there. -/
def readChoice (ok : Nat → Bool) (b0 b1 : Option Nat) : Option (Nat × Nat × Bool) :=
  match b0, b1 with
  | none, none => none
  | some x, none => some (0, x, ok x)
  | none, some y => some (1, y, ok y)
  | some x, some y => if !ok x && ok y then some (1, y, true) else some (0, x, ok x)

/-- R371, R561: one leg's read of a segment has ended: `seg` holds the segment's bytes, none where it could not be read.
With the last one the HST_READ command completes. -/
def State.readEnd (c : NvCmd) (seg : Option Nat) (s : State) : State :=
  let mine (d : NvCmd) : Bool := d.kind == .read && d.ring == c.ring && d.tag == c.tag
  match s.hst.nv.findIdx? mine with
  | some k => s.onHst fun h => { h with nv := h.nv.modify k fun d => { d with data := (seg.map (· + 1)).getD 0 } }
  | none =>
    match s.waiting c.ring c.tag 0x7D with
    | none => s
    | some i =>
      let d := i.desc.toNat
      let other := if c.data == 0 then none else some (c.data - 1)
      let (b0, b1) := if c.leg == 0 then (seg, other) else (other, seg)
      let gen := s.rf (Reg.HST_VOL.VOL_GEN c.vol)
      let ok := sealedSeg c.vol gen c.seg
      let differ := match b0, b1 with
        | some x, some y => ok x && ok y && bodyCrc x != bodyCrc y
        | _, _ => false
      let s := if differ then (s.bump Reg.HST_LEG_DISAGREE_CNT.COUNT).raise Ev.HST_LEG_DISAGREE c.vol [c.seg] else s
      match readChoice ok b0 b1 with
      | none => s.finishCmd c.ring c.tag 0x7D (Reply.of 8)
      | some (leg, b, sealed) =>
        let off := (d >>> 128) % 2 ^ 32
        let n := min ((d >>> 448) % 2 ^ 32) (2 ^ 20 - off)
        let s := s.levelA.hostPut ((d >>> 384) % 2 ^ 64) n ((b >>> (8 * off)) % 2 ^ (8 * n))
        s.finishCmd c.ring c.tag 0x7D (Reply.with2 (b2n sealed + 2 * leg) 0)

/-! Mounting (R368). -/

/-- R340 to R342, R374: where a record's time stands in its slot. -/
def recTimeAt (typ : Nat) : Nat := if typ == typChange then 0x20 else if typ == 0x12 then 0x18 else 0x10

/-- R345, R366: the end of the last existing slot of an open segment, from an offset on, with what a trailer says of the slots
before it; and whether a slot ends it that does not exist. Zero bytes up to the end of a 4 KiB block are padding (R354); a block
of zeros has not been written. -/
def segSlots (b : Nat) : Nat → Nat → Vol → Vol × Bool
  | 0, _, x => (x, false)
  | fuel + 1, off, x =>
    let w (k : Nat) : Nat := (b >>> (8 * (off + k))) % 2 ^ 32
    let n := 64 * ((w 4 >>> 8) % 2 ^ 14)
    let left := 4096 - off % 4096
    if 0xFF000 ≤ off then (x, false)
    else if (b >>> (8 * off)) % 2 ^ (8 * left) == 0 then (if left == 4096 then (x, false) else segSlots b fuel (off + left) x)
    else if n == 0 || decide (0xFF000 < off + n) then (x, true)
    else if w (n - 4) != 0x4C444756 || w 0 != w (n - 8) || w 0 % 2 == 1 || w (n - 12) != crc32c 4 (n - 12) (b >>> (8 * off)) then (x, true)
    else
      let typ := w 4 % 256
      let dw (k : Nat) : Nat := w k + w (k + 4) * 2 ^ 32
      let t := dw (recTimeAt typ)
      let q := dw 0x18
      let x := { x with
        slots := x.slots + 1, bodyEnd := off + n, tFirst := if x.slots == 0 then t else x.tFirst, tLast := t
        seqFirst := if typ != 2 then x.seqFirst else if x.seqFirst == 0 then q else min x.seqFirst q
        seqLast := if typ == 2 then max x.seqLast q else x.seqLast }
      segSlots b fuel (off + n) x

/-- R366, R368: a segment has the header of its volume. -/
def headedSeg (v gen seg : Nat) (b : Nat) : Bool :=
  let w (k : Nat) : Nat := (b >>> (32 * k)) % 2 ^ 32
  w 0 == 0x4D474553 && w 1 == v && w 2 == gen && w 4 == seg

/-- R369: the last segment of a volume is sealed. -/
def State.volFull (v : Nat) (s : State) : State :=
  if s.rf (Reg.HST_VOL.WRITE_PTR v) < s.rf (Reg.HST_VOL.SEG_COUNT v) || s.rf (Reg.HST_VOL.STATE v) != 2 then s
  else
    let s := (s.wf (Reg.HST_VOL.STATE v) 3).raise Ev.HST_VOL_FULL v [s.rf (Reg.HST_VOL.SEG_COUNT v)]
    let caps := (s.cmw.caps.filter fun c => fget Cap.VOLUME (s.capDef c.def_) == v).map fun c => c.def_
    let s := caps.foldl (fun s d => s.capEnd d 2 none) s
    s.rotate

/-- R366: WRITE_PTR as of a sealed segment, recorded in retained state. -/
def State.writePtr (v p : Nat) (s : State) : State :=
  let p := max p (s.rf (Reg.HST_VOL.WRITE_PTR v))
  ((s.wf (Reg.HST_VOL.WRITE_PTR v) p).onHst fun h => { h with ptrs := tset 0 h.ptrs v p }).volFull v

/-- R368: segments from WRITE_PTR on as they are read on each leg, by leg number (a leg not present or not read: none).
A segment is sealed when it is sealed on a leg (R371). -/
def State.mountSegs (v : Nat) : List (Option Nat × Option Nat) → State → State
  | [], s => s
  | (b0, b1) :: bs, s =>
    let p := s.rf (Reg.HST_VOL.WRITE_PTR v)
    let gen := s.rf (Reg.HST_VOL.VOL_GEN v)
    let any_ (f : Nat → Bool) : Bool := (b0.map f).getD false || (b1.map f).getD false
    if s.rf (Reg.HST_VOL.SEG_COUNT v) ≤ p then s
    else if any_ (sealedSeg v gen p) then State.mountSegs v bs (s.writePtr v (p + 1))
    else if any_ (headedSeg v gen p) then
      let one (leg : Nat) (b : Option Nat) (s : State) : State :=
        match b, s.vol v with
        | some b, some x =>
          if !headedSeg v gen p b then s
          else
            let l := if leg == 0 then x.leg0 else x.leg1
            let (y, bad) := segSlots b 16640 64 { x with
              seg := p, body := b, bodyEnd := 64, slots := 0, tFirst := 0, tLast := 0, seqFirst := 0, seqLast := 0 }
            let s := if bad then s.bump Reg.LDG_SLOT_BAD_CNT.COUNT else s
            s.nvAdd ⟨.trailer, l.ctrlr, l.nsid, v, leg, p, l.slba + p * 256 + 255, 1, segTrailer v gen y, 0, 0, 0, 0⟩
        | _, _ => s
      let s := one 1 b1 (one 0 b0 (s.bump Reg.HST_SEAL_CNT.COUNT))
      State.mountSegs v bs (s.writePtr v (p + 1))
    else s

/-- A volume that may be mounted: a leg of it is present (R368), every leg where it is FAILED (R369). -/
def State.mountable (s : State) (v : Nat) : Bool :=
  let st := s.rf (Reg.HST_VOL.STATE v)
  let here (p : Nat × Leg) : Bool := s.ctrlrUp p.2.ctrlr
  if st == 4 then (s.legsOf v).all here
  else (st == 2 || st == 3) && (s.volLegs v).any here

def State.mounted (s : State) (v : Nat) : Bool :=
  match s.vol v with
  | some x => x.mounted
  | none => false

/-- R368: the historian is ready when every present volume is mounted. -/
def State.hstReady (s : State) : State :=
  let left := (tkeys s.hst.vols).any fun v =>
    let st := s.rf (Reg.HST_VOL.STATE v)
    (st == 2 || st == 3) && s.mountable v && !s.mounted v
  if s.ready 16 || left then s else s.setReady 16

/-- A volume leaves the running HST_REMOUNT command, which completes with the last one. -/
def State.remounted (v : Nat) (ok : Bool) (s : State) : State :=
  match s.hst.remount with
  | none => s
  | some (vs, n, ring, tag) =>
    if !vs.contains v then s
    else
      let vs := vs.filter fun w => w != v
      let n := n + b2n ok
      if vs.isEmpty then
        (s.onHst fun h => { h with remount := none }).finishCmd ring tag 0x7B (Reply.with2 n 0)
      else s.onHst fun h => { h with remount := some (vs, n, ring, tag) }

/-- R371: the background copy of a leg: the next sealed segment is read from the other leg. -/
def State.copyStep (v : Nat) (s : State) : State :=
  match s.vol v with
  | none => s
  | some x =>
    let l := if x.syncLeg == 1 then x.leg1 else x.leg0
    if x.syncLeg == 0 || x.syncEnd ≤ x.syncNext then s
    else s.nvAdd ⟨.copyRead, l.ctrlr, l.nsid, v, 2 - x.syncLeg, x.syncNext, l.slba + x.syncNext * 256, 256, 0, 0, 0, 0, 0⟩

/-- R371: a segment read for the copy goes to the new leg. -/
def State.copyPut (c : NvCmd) (seg : Nat) (s : State) : State :=
  match s.vol c.vol with
  | none => s
  | some x =>
    let l := if x.syncLeg == 1 then x.leg0 else x.leg1
    s.nvAdd ⟨.copyWrite, l.ctrlr, l.nsid, c.vol, x.syncLeg - 1, c.seg, l.slba + c.seg * 256, 256, seg, 0, 0, 0, 0⟩

/-- R369: the legs of a volume are deallocated by Dataset Management. -/
def State.deallocate (v : Nat) (s : State) : State :=
  (s.volLegs v).foldl (fun s l =>
    s.nvAdd ⟨.dealloc, l.2.ctrlr, l.2.nsid, v, l.1, 0, l.2.slba, s.rf (Reg.HST_VOL.SEG_COUNT v) * 256, 0, 0, 0, 0, 0⟩) s

/-- The mounting of one volume. -/
def State.mountVol (v : Nat) (segs : List (Option Nat × Option Nat)) (s : State) : State :=
  let s := s.wf (Reg.HST_VOL.STATE v) (if s.rf (Reg.HST_VOL.WRITE_PTR v) < s.rf (Reg.HST_VOL.SEG_COUNT v) then 2 else 3)
  let s := if s.rf (Reg.HST_VOL.STATE v) == 2 then s.mountSegs v segs else s
  let s := s.modVol v fun x => { x with
    mounted := true, seg := s.rf (Reg.HST_VOL.WRITE_PTR v), segOpen := false, closing := false, body := 0, fill := 0 }
  (s.copyStep v).hstGauges.remounted v true

/-! Losses (R363, R369, R370). -/

/-- A volume becomes FAILED. -/
def State.volFail (v ctrlr : Nat) (s : State) : State :=
  let fls := ((s.hst.nv.filter fun c => c.vol == v && c.flush != 0).map fun c => c.flush - 1).eraseDups
  let s := (s.wf (Reg.HST_VOL.STATE v) 4).wf (Reg.HST_VOL.SYNCING v) 0
  let s := s.onHst fun h => { h with nv := nvIssue s.tim.now (h.nv.filter fun c => !(c.vol == v && c.kind.ordered)) }
  let s := s.modVol v fun x => { x with segOpen := false, body := 0, fill := 0, mounted := false, closing := false, syncLeg := 0 }
  let s := s.raise Ev.HST_VOL_FAILED v [ctrlr]
  let caps := (s.cmw.caps.filter fun c => fget Cap.VOLUME (s.capDef c.def_) == v).map fun c => c.def_
  let s := caps.foldl (fun s d => s.capEnd d 1 (some v)) s
  ((s.flushBack fls).rotate).remounted v false

/-- R366: a trailer is written on one leg, or its leg is lost: with the last one outstanding the segment is sealed. -/
def State.trailerDone (c : NvCmd) (s : State) : State :=
  if s.hst.nv.any fun d => d.kind == .trailer && d.vol == c.vol && d.seg == c.seg then s else s.writePtr c.vol (c.seg + 1)

/-- A leg of a volume is lost. -/
def State.legLost (v leg ctrlr : Nat) (s : State) : State :=
  let st := s.rf (Reg.HST_VOL.STATE v)
  match s.vol v with
  | none => s
  | some x =>
    let other := if leg == 0 then x.leg1 else x.leg0
    if st != 2 && st != 3 then s
    else if !s.rb (Reg.HST_VOL.MIRROR v) || other.lost then s.volFail v ctrlr
    else if x.syncLeg != 0 && x.syncLeg != leg + 1 then
      let s := s.modVol v fun x => if leg == 0 then { x with leg1 := { x.leg1 with lost := true } } else
        { x with leg0 := { x.leg0 with lost := true } }
      s.volFail v ctrlr
    else
      let s := s.modVol v fun x => if leg == 0 then { x with leg0 := { x.leg0 with lost := true }, syncLeg := 0 } else
        { x with leg1 := { x.leg1 with lost := true }, syncLeg := 0 }
      let s := ((s.wf (Reg.HST_VOL.DEGRADED v) 1).wf (Reg.HST_VOL.SYNCING v) 0).bump Reg.HST_LEG_LOST_CNT.COUNT
      let ends := s.hst.nv.filter fun c => c.vol == v && c.leg == leg && c.kind == .trailer
      let s := (s.raise Ev.HST_LEG_LOST v [leg, ctrlr]).nvDrop fun c =>
        c.vol == v && (c.leg == leg && c.kind.ordered || c.kind == .copyRead || c.kind == .copyWrite)
      ends.foldl (fun s c => s.trailerDone c) s

/-- The reads outstanding on a controller end without data. -/
def State.readsLost : Nat → Nat → State → State
  | 0, _, s => s
  | fuel + 1, n, s =>
    match s.hst.nv.findIdx? fun c => c.ctrlr == n && c.kind == .read with
    | none => s
    | some k =>
      match s.hst.nv[k]? with
      | none => s
      | some c => State.readsLost fuel n ((s.nvDone k).readEnd c none)

/-- R363: a controller is declared FAILED and every leg on it lost. -/
def State.ctrlrFail (n : Nat) (s : State) : State :=
  if s.rb (Reg.HST_CTRLR.FAILED n) then s
  else
    let s := (s.wf (Reg.HST_CTRLR.FAILED n) 1).hstGauges
    let lost := (tkeys s.hst.vols).flatMap fun v => ((s.volLegs v).filter fun p => p.2.ctrlr == n).map fun p => (v, p.1)
    let s := lost.foldl (fun s p => s.legLost p.1 p.2 n) s
    let s := s.readsLost s.hst.nv.length n
    let s := s.nvDrop fun c => c.ctrlr == n && (c.kind == .dealloc || c.kind == .abort)
    (s.onHst fun h => { h with failedAt := h.failedAt.filter fun p => p.1 != n }).hstReady

/-- R363: a command of a controller has failed; the third within 60 s fails the controller. -/
def State.cmdFailed (n : Nat) (s : State) : State :=
  let now := s.tim.now
  let s := s.onHst fun h => { h with failedAt := (h.failedAt.filter fun p => decide (now ≤ p.2 + ofS 60)) ++ [(n, now)] }
  if 3 ≤ (s.hst.failedAt.filter fun p => p.1 == n).length then s.ctrlrFail n else s

/-- A command that failed: a read ends without data, a write is given again (log entry 11). -/
def State.nvFailed (k : Nat) (c : NvCmd) (s : State) : State :=
  let s := if c.kind == .read then (s.nvDone k).readEnd c none
    else if c.kind == .abort then s.nvDone k
    else s.onHst fun h => { h with nv := h.nv.modify k fun d => { d with t := s.tim.now + 1 } }
  s.cmdFailed c.ctrlr

/-- R369: the deallocation of a volume is complete. -/
def State.deallocated (v : Nat) (s : State) : State :=
  if s.rf (Reg.HST_VOL.STATE v) != 1 then s
  else
    let s := (s.wf (Reg.HST_VOL.STATE v) 2).wf (Reg.HST_VOL.WRITE_PTR v) 0
    let s := s.onHst fun h => { h with ptrs := tset 0 h.ptrs v 0 }
    let s := (s.modVol v fun x => { x with mounted := true, seg := 0 }).raise Ev.HST_VOL_READY v [s.rf (Reg.HST_VOL.VOL_GEN v)]
    let due := s.hst.erases.filter fun e => e.1 == v
    let s := s.onHst fun h => { h with erases := h.erases.filter fun e => e.1 != v }
    let s := due.foldl (fun s e => s.finishCmd e.2.1 e.2.2 0x79 Reply.ok) s
    let gone := (s.volLegs v).filter fun p => !s.ctrlrUp p.2.ctrlr
    gone.foldl (fun s p => s.legLost v p.1 p.2.ctrlr) s

/-- R369: a controller is found again: the deallocation of its legs of volumes that are ERASING is given again. -/
def State.eraseAgain (n : Nat) (s : State) : State :=
  (tkeys s.hst.vols).foldl (fun s v =>
    if s.rf (Reg.HST_VOL.STATE v) == 1 && ((s.volLegs v).any fun l => l.2.ctrlr == n) &&
      !(s.hst.nv.any fun c => c.kind == .dealloc && c.vol == v) then s.deallocate v else s) s

/-- The command at a place of those outstanding, once issued. -/
def State.nvAt (s : State) (k : Nat) : Option NvCmd :=
  match s.hst.nv[k]? with
  | some c => if c.t == 0 then none else some c
  | none => none

/-! Rows. -/

/-- The checks of HST_VOL_CREATE (R364, R369, R561). -/
def specHstVolCreate (c : Cmd) : State → Spec :=
  fun s =>
    let v := c.f 8 0 10
    let mir := c.f 8 16 1 == 1
    let segs := c.w 0xC
    let legs := 1 + b2n mir
    let used := s.rf Reg.HST_MANAGED_LO.MIB + s.rf Reg.HST_MANAGED_HI.MIB * 2 ^ 32
    let l0 := legNamed c 0x10
    let l1 := legNamed c 0x20
    { op := 0x78, fault := faultAt ([
        (s.rf (Reg.HST_VOL.STATE v) != 0 || c.f 8 17 2 == 0, 8),
        (segs == 0 || decide (2 ^ 28 < segs) || decide (2 ^ 32 < used + segs * legs), 0xC)]
        ++ s.legFaults v 2 segs 0x10 l0
        ++ (if mir then (l1.ctrlr == l0.ctrlr, 0x20) :: s.legFaults v 2 segs 0x20 l1 else [])) }

/-- The effect of HST_VOL_CREATE (R364, R369, R561). -/
def bodyHstVolCreate (c : Cmd) : State → Option Reply × State :=
  (okWith fun s =>
      let v := c.f 8 0 10
      let l0 := legNamed c 0x10
      let l1 := if c.f 8 16 1 == 1 then legNamed c 0x20 else ⟨0, 0, 0, false⟩
      let s := ((s.wf (Reg.HST_VOL.STATE v) 1).wf (Reg.HST_VOL.MIRROR v) (c.f 8 16 1)).wf (Reg.HST_VOL.LEDGER v) (c.f 8 17 1)
      let s := ((s.wf (Reg.HST_VOL.CAPTURE v) (c.f 8 18 1)).wf (Reg.HST_VOL.SEG_COUNT v) (c.w 0xC)).wf (Reg.HST_VOL.VOL_GEN v) 1
      let s := s.setVol v (some ⟨l0, l1, 0, false, false, 0, 0, 0, 0, 0, 0, 0, 0, 0, 0, false, 0, 0, 0⟩)
      (s.deallocate v).hstGauges.dirtyHost)

/-- HST_VOL_CREATE (R364, R369, R561). -/
def execHstVolCreate (t : Nat) (c : Cmd) (s : State) : Host.Outcome State Fault Refusal :=
  (s.command t (specHstVolCreate c) c (bodyHstVolCreate c)).done

/-- The checks of HST_VOL_ERASE (R369, R561). -/
def specHstVolErase (c : Cmd) : State → Spec :=
  fun s =>
    let st := s.rf (Reg.HST_VOL.STATE (c.f 8 0 10))
    { op := 0x79, notReady := !(st == 2 || st == 3) }

/-- The effect of HST_VOL_ERASE (R369, R561). -/
def bodyHstVolErase (c : Cmd) : State → Option Reply × State :=
  fun s =>
      let v := c.f 8 0 10
      if s.volInUse v then (some (Reply.of 6), s)
      else
        let s := (s.wf (Reg.HST_VOL.STATE v) 1).wf (Reg.HST_VOL.VOL_GEN v) (s.rf (Reg.HST_VOL.VOL_GEN v) + 1)
        let s := s.nvDrop fun d => d.vol == v && d.kind.ordered
        let s := s.modVol v fun x => { x with segOpen := false, closing := false, body := 0, fill := 0, seg := 0, mounted := false }
        (none, ((s.deallocate v).onHst fun h => { h with erases := h.erases ++ [(v, c.ring, c.tag)] }).dirtyHost)

/-- HST_VOL_ERASE (R369, R561). -/
def execHstVolErase (t : Nat) (c : Cmd) (s : State) : Host.Outcome State Fault Refusal :=
  (s.command t (specHstVolErase c) c (bodyHstVolErase c)).done

/-- The checks of HST_VOL_DELETE (R369, R561). -/
def specHstVolDelete (_c : Cmd) : State → Spec :=
  fun _ => { op := 0x7A }

/-- The effect of HST_VOL_DELETE (R369, R561). -/
def bodyHstVolDelete (c : Cmd) : State → Option Reply × State :=
  fun s =>
    let v := c.f 8 0 10
    let named := ((List.range 16).any fun k => s.rb (Reg.LDG_ROT.VALID k) && s.rf (Reg.LDG_ROT.VOLUME k) == v) ||
      s.cmw.defs.any fun e => fbit Cap.VALID e.2 && fget Cap.VOLUME e.2 == v
    if s.rf (Reg.HST_VOL.STATE v) == 1 || s.volInUse v || named then (some (Reply.of 6), s)
    else
      let o := (Reg.HST_VOL.STATE v).off
      let s := s.nvDrop fun d => d.vol == v && d.kind.ordered
      let s := ((((s.wr o 0#32).wr (o + 4) 0#32).wr (o + 8) 0#32).wr (o + 12) 0#32).setVol v none
      let s := s.onHst fun h => { h with ptrs := tset 0 h.ptrs v 0 }
      (some Reply.ok, (s.hstGauges.remounted v false).dirtyHost)

/-- HST_VOL_DELETE (R369, R561). -/
def execHstVolDelete (t : Nat) (c : Cmd) (s : State) : Host.Outcome State Fault Refusal :=
  (s.command t (specHstVolDelete c) c (bodyHstVolDelete c)).done

/-- The checks of HST_REMOUNT (R368, R369, R561). -/
def specHstRemount (c : Cmd) : State → Spec :=
  fun s => { op := 0x7B, notReady := c.f 8 16 1 == 0 &&
      (!(s.legsOf (c.f 8 0 10)).all (fun p => s.ctrlrUp p.2.ctrlr) || decide (s.rf (Reg.HST_VOL.STATE (c.f 8 0 10)) < 2)) }

/-- The effect of HST_REMOUNT (R368, R369, R561). -/
def bodyHstRemount (c : Cmd) : State → Option Reply × State :=
  fun s =>
      if s.hst.remount.isSome then (some (Reply.of 6), s)
      else
        let named := if c.f 8 16 1 == 1 then tkeys s.hst.vols else [c.f 8 0 10]
        let there := (named.filter fun v => s.mounted v).length
        let todo := named.filter fun v => !s.mounted v && s.mountable v
        if todo.isEmpty then (some (Reply.with2 there 0), s)
        else (none, s.onHst fun h => { h with remount := some (todo, there, c.ring, c.tag) })

/-- HST_REMOUNT (R368, R369, R561): it completes once the volumes are mounted. -/
def execHstRemount (t : Nat) (c : Cmd) (s : State) : Host.Outcome State Fault Refusal :=
  (s.command t (specHstRemount c) c (bodyHstRemount c)).done

/-- The checks of HST_LEG_REPLACE (R371, R561). -/
def specHstLegReplace (c : Cmd) : State → Spec :=
  fun s =>
    let v := c.f 8 0 10
    let leg := c.f 8 16 1
    let segs := s.rf (Reg.HST_VOL.SEG_COUNT v)
    let l := legNamed c 0x10
    let legOf (k : Nat) : Leg := match s.vol v with
      | some x => if k == 0 then x.leg0 else x.leg1
      | none => ⟨0, 0, 0, false⟩
    { op := 0x7C
      notReady := !s.rb (Reg.HST_VOL.DEGRADED v) || !(legOf leg).lost || !s.mounted v
      fault := faultAt ((l.ctrlr == (legOf (1 - leg)).ctrlr, 0x10) :: s.legFaults v leg segs 0x10 l) }

/-- The effect of HST_LEG_REPLACE (R371, R561). -/
def bodyHstLegReplace (c : Cmd) : State → Option Reply × State :=
  (okWith fun s =>
      let v := c.f 8 0 10
      let leg := c.f 8 16 1
      let l := legNamed c 0x10
      let s := (s.modVol v fun x =>
        let x := if leg == 0 then { x with leg0 := l, syncLeg := 1 } else { x with leg1 := l, syncLeg := 2 }
        { x with syncNext := 0, syncEnd := s.rf (Reg.HST_VOL.WRITE_PTR v) }).wf (Reg.HST_VOL.SYNCING v) 1
      let s := match s.vol v with
        | some x =>
          if x.segOpen then s.nvAdd ⟨.write, l.ctrlr, l.nsid, v, leg, x.seg, l.slba + x.seg * 256, (x.fill + 4095) / 4096, x.body, 0, 0, 0, 0⟩
          else s
        | none => s
      (s.copyStep v).dirtyHost)

/-- HST_LEG_REPLACE (R371, R561). -/
def execHstLegReplace (t : Nat) (c : Cmd) (s : State) : Host.Outcome State Fault Refusal :=
  (s.command t (specHstLegReplace c) c (bodyHstLegReplace c)).done

/-- The checks of HST_READ (R371, R561). -/
def specHstRead (c : Cmd) : State → Spec :=
  fun s =>
    let v := c.f 8 0 10
    { op := 0x7D, need := min c.bufLen (2 ^ 20)
      fault := faultAt [
        (s.rf (Reg.HST_VOL.STATE v) == 0, 8),
        (decide (s.rf (Reg.HST_VOL.WRITE_PTR v) ≤ c.w 0xC), 0xC),
        (c.w 0x10 % 4096 != 0 || decide (2 ^ 20 ≤ c.w 0x10), 0x10),
        (c.bufLen % 4096 != 0, 0x38)] }

/-- The effect of HST_READ (R371, R561). -/
def bodyHstRead (c : Cmd) : State → Option Reply × State :=
  fun s =>
      let v := c.f 8 0 10
      let legs := (s.volLegs v).filter fun p => s.ctrlrUp p.2.ctrlr
      if legs.isEmpty then (some (Reply.of 1), s)
      else (none, legs.foldl (fun s p => s.nvAdd ⟨.read, p.2.ctrlr, p.2.nsid, v, p.1, c.w 0xC, p.2.slba + c.w 0xC * 256, 256, 0, 0,
        c.ring, c.tag, 0⟩) s)

/-- HST_READ (R371, R561): each present leg's segment is read. -/
def execHstRead (t : Nat) (c : Cmd) (s : State) : Host.Outcome State Fault Refusal :=
  (s.command t (specHstRead c) c (bodyHstRead c)).done

/-- NVME_COMPLETION (R361, R363, R366): the command at place `k` of those outstanding completes, with an error status or
not; `seg` holds what a read brought. -/
def execNvmeCompletion (t k : Nat) (ok : Bool) (seg : Nat) (s : State) : Host.Outcome State Fault Refusal :=
  let s1 := s.at_ t
  match s1.nvAt k with
  | none => s.done
  | some c =>
    if !ok then ((s1.bump Reg.HST_IO_ERR_CNT.COUNT).nvFailed k c).done
    else
      let s1 := s1.nvDone k
      match c.kind with
      | .read => (s1.readEnd c (some (seg % 2 ^ (8 * 2 ^ 20)))).done
      | .write | .flush => (if c.flush == 0 then s1 else s1.flushWritten (c.flush - 1)).done
      | .trailer => (s1.trailerDone c).done
      | .dealloc => (if s1.hst.nv.any fun d => d.kind == .dealloc && d.vol == c.vol then s1 else s1.deallocated c.vol).done
      | .copyRead => (s1.copyPut c (seg % 2 ^ (8 * 2 ^ 20))).done
      | .copyWrite => ((s1.modVol c.vol fun x => { x with syncNext := c.seg + 1 }).copyStep c.vol).done
      | .abort => s1.done

/-- NVME_TIMEOUT (R363): the command at place `k` has been outstanding for 5 s; `resetBad`: the controller's reset
failed. -/
def execNvmeTimeout (t k : Nat) (resetBad : Bool) (s : State) : Host.Outcome State Fault Refusal :=
  let s1 := s.at_ t
  match s1.nvAt k with
  | none => s.done
  | some c =>
    if s1.tim.now < c.t - 1 + ofS 5 then s.done
    else
      let s1 := (s1.bump Reg.HST_TIMEOUT_CNT.COUNT).nvFailed k c
      let s1 := if s1.ctrlrUp c.ctrlr then s1.nvAdd ⟨.abort, c.ctrlr, 0, 1024, 0, 0, 0, 0, 0, 0, 0, 0, 0⟩ else s1
      (if resetBad then s1.ctrlrFail c.ctrlr else s1).done

/-- CONTROLLER_ARRIVAL (R362): a controller with its serial number, root port, bus, device and function numbers, volatile
write cache, and its namespaces: NSID, blocks, whether the format is one the historian uses. -/
def execControllerArrival (t serial port bdf : Nat) (vwc : Bool) (ns : List (Nat × Nat × Bool)) (s : State) :
    Host.Outcome State Fault Refusal :=
  let s1 := s.at_ t
  let known := s1.hst.bound.find? fun p => p.2 == serial
  let num := match known with
    | some p => some p.1
    | none => (List.range 128).find? fun n => !s1.hst.bound.any fun p => p.1 == n
  match num with
  | none => s.done
  | some n =>
    if s1.ctrlrUp n || !s1.pwr.mainUp then s.done
    else
      let s1 := s1.onHst fun h => { h with
        bound := if known.isSome then h.bound else h.bound ++ [(n, serial)]
        nsBlocks := ns.foldl (fun m p => if p.2.2 then tset 0 m (n * 2 ^ 32 + p.1 % 2 ^ 32) p.2.1 else m)
          (h.nsBlocks.filter fun e => e.1 / 2 ^ 32 != n) }
      let s1 := ((s1.wf (Reg.HST_CTRLR.PRESENT n) 1).wf (Reg.HST_CTRLR.PORT n) port).wf (Reg.HST_CTRLR.VWC n) (b2n vwc)
      let s1 := (s1.wf (Reg.HST_CTRLR.FAILED n) 0).wf (Reg.HST_CTRLR.BDF n) bdf
      let s1 := (s1.bump Reg.HST_NS_REJECT_CNT.COUNT ((ns.filter fun p => !p.2.2).length)).hstGauges
      (s1.eraseAgain n).done

/-- VOLUME_MOUNT (R368): a volume is mounted, with its segments from WRITE_PTR on as read on its legs; where it is not one
to mount, only readiness is judged. -/
def execVolumeMount (t v : Nat) (segs : List (Option Nat × Option Nat)) (s : State) : Host.Outcome State Fault Refusal :=
  let s1 := s.at_ t
  if !s1.pwr.mainUp then s.done
  else
    let asked := match s1.hst.remount with
      | some r => r.1.contains v
      | none => false
    let st := s1.rf (Reg.HST_VOL.STATE v)
    let due := s1.mountable v && !s1.mounted v && (st != 4 || asked)
    (if due then s1.mountVol v segs else s1).hstReady.done

/-- DEALLOCATION_COMPLETE (R369): every deallocate command of the volume has completed. -/
def execDeallocationComplete (t v : Nat) (s : State) : Host.Outcome State Fault Refusal :=
  let s1 := s.at_ t
  if s1.rf (Reg.HST_VOL.STATE v) != 1 || !s1.pwr.mainUp then s.done
  else ((s1.nvDrop fun c => c.vol == v && c.kind == .dealloc).deallocated v).done

/-- LEG_SYNC_COMPLETE (R371): once every segment is copied. -/
def execLegSyncComplete (t v : Nat) (s : State) : Host.Outcome State Fault Refusal :=
  let s1 := s.at_ t
  let left := match s1.vol v with
    | some x => decide (x.syncNext < x.syncEnd)
    | none => false
  if !s1.rb (Reg.HST_VOL.SYNCING v) || !s1.pwr.mainUp || left then s.done
  else (((s1.wf (Reg.HST_VOL.SYNCING v) 0).wf (Reg.HST_VOL.DEGRADED v) 0).modVol v fun x => { x with syncLeg := 0 }).done

/-- CONTROLLER_PATH_LINK_DOWN (R363, R836). -/
def execControllerPathLinkDown (t n : Nat) (s : State) : Host.Outcome State Fault Refusal :=
  let s1 := s.at_ t
  if !s1.rb (Reg.HST_CTRLR.PRESENT n) || !s1.pwr.mainUp then s.done
  else ((s1.ctrlrFail n).wf (Reg.HST_CTRLR.PRESENT n) 0).hstGauges.done

end Sys2Proof.Machine
end

