-- ==== Sys2Proof/Machine/Host.lean ====
section
/-! DEFINITION. The host interface: ring commands, doorbells, fetching, completions, event output, DATA_OUT buffers,
MSI-X, function resets and quenches (R485 to R537, R546). -/

namespace Sys2Proof.Machine

/-- The checks of NOP (R546). -/
def specNop (_c : Cmd) : State → Spec :=
  fun _ => { op := 0x00 }

/-- The effect of NOP (R546). -/
def bodyNop (_c : Cmd) : State → Option Reply × State :=
  (okWith id)

/-- NOP (R546). -/
def execNop (t : Nat) (c : Cmd) (s : State) : Host.Outcome State Fault Refusal :=
  (s.command t (specNop c) c (bodyNop c)).done

/-- R528: a ring is quenched by its function's FN_QUENCH or by HIF_QUENCH. -/
def State.quenched (s : State) (r fn : Nat) : Bool :=
  s.rb (Reg.HIF_FN.FN_QUENCH fn) || (s.rb Reg.HIF_QUENCH.RING_EN && s.rf Reg.HIF_QUENCH.RING == r)

/-- The ring context that a RING_CREATE descriptor describes (R493, R546). -/
def ringOf (fn : Nat) (c : Cmd) : Rec 64 :=
  BitVec.ofNat 512 (pack [(Ring.TYPE, c.f 0x0C 0 3), (Ring.VALID, 1), (Ring.PIN, c.f 0x0C 4 1), (Ring.WORLD, b2n (secureFn fn)),
    (Ring.FUNC, fn), (Ring.LOG2N, c.f 0x0C 16 5), (Ring.WEIGHT, c.f 0x0C 24 8), (Ring.CPL_RING, c.f 0x10 0 16),
    (Ring.VECTOR, c.f 0x10 16 11), (Ring.VEC_EN, c.f 0x10 27 1), (Ring.BASE, c.d 0x18), (Ring.COAL_N, c.f 0x20 0 16),
    (Ring.COAL_US, c.f 0x20 16 16), (Ring.ARMED, 1),
    (Ring.BACKLOG_MAX, if c.f 0x0C 5 1 == 1 then c.f 0x24 0 21 else 65536), (Ring.DEST_NODE, c.f 0x28 0 24),
    (Ring.DCLASS, c.f 0x28 24 3), (Ring.SRC, c.f 0x28 28 2), (Ring.DEST_RING, c.f 0x2C 0 16), (Ring.CAP_DEF, c.f 0x2C 16 10)])

/-- R494: the first operand at fault among those that RING_CREATE and RING_TUNE share. -/
def State.tuneFault (s : State) (fn : Nat) (old : Bool) (c : Cmd) : List (Bool × Nat) := [
  (c.f 0x0C 24 8 == 0 || (c.f 0x0C 4 1 == 1 && !old && decide (2048 ≤ s.rf Reg.HIF_PIN_USED.COUNT)), 0x0C),
  (decide (s.rf (Reg.HIF_FN.NVEC fn) ≤ c.f 0x10 16 11), 0x10),
  (c.f 0x20 0 16 == 0, 0x20),
  (decide (1048576 < c.f 0x24 0 21), 0x24)]

/-- The checks of RING_CREATE (R494). -/
def specRingCreate (c : Cmd) : State → Spec :=
  fun s =>
    let fn := s.fnOf c
    let r := c.f 8 0 16
    let typ := c.f 0x0C 0 3
    let log := c.f 0x0C 16 5
    let cpl := s.ring (c.f 0x10 0 16)
    { op := 0x01
      ranges := if 6 ≤ log && log ≤ 16 then [(c.d 0x18, 2 ^ log * (if typ == 0 then 64 else 32))] else []
      fault := faultAt ([(decide (r < 130) || fbit Ring.VALID (s.ring r), 0x08),
        (decide (4 < typ) || decide (log < 6) || decide (16 < log), 0x0C)] ++ (s.tuneFault fn false c).take 1 ++
        [((typ == 0 || typ == 3) && !(isRing cpl 1 && fget Ring.FUNC cpl == fn), 0x10)] ++ (s.tuneFault fn false c).drop 1 ++
        [(typ == 3 && !(c.f 0x28 24 3 == 6 || c.f 0x28 24 3 == 7), 0x28), (typ == 4 && c.f 0x28 28 2 == 3, 0x28),
         (typ == 4 && c.f 0x28 28 2 == 2 && !fbit Cap.VALID (tget 0 s.cmw.defs (c.f 0x2C 16 10)), 0x2C)]) }

/-- The effect of RING_CREATE (R494). -/
def bodyRingCreate (c : Cmd) : State → Option Reply × State :=
  fun s =>
      let fn := s.fnOf c
      let r := c.f 8 0 16
      let s := (s.setRing r (fput Ring.QUENCHED (b2n (s.quenched r fn)) (ringOf fn c))).bump (Reg.HIF_FN.FN_RINGS fn)
      let s := if c.f 0x0C 4 1 == 1 then s.bump Reg.HIF_PIN_USED.COUNT else s
      (some ⟨0, 0, r⟩, s)

/-- RING_CREATE (R494). -/
def execRingCreate (t : Nat) (c : Cmd) (s : State) : Host.Outcome State Fault Refusal :=
  (s.command t (specRingCreate c) c (bodyRingCreate c)).done

/-- The checks of RING_DELETE (R495). -/
def specRingDelete (c : Cmd) : State → Spec :=
  let r := c.f 8 0 16
  fun s =>
    { op := 0x02, fault := faultAt [(decide (r < 130) || !fbit Ring.VALID (s.ring r) ||
        fget Ring.FUNC (s.ring r) != s.fnOf c, 0x08)] }

/-- The effect of RING_DELETE (R495). -/
def bodyRingDelete (c : Cmd) : State → Option Reply × State :=
  let r := c.f 8 0 16
  fun s =>
    let typ := fget Ring.TYPE (s.ring r)
    if typ == 1 && s.hif.rings.any fun e => (isRing e.2 0 || isRing e.2 3) && fget Ring.CPL_RING e.2 == r then
      (some (Reply.of 6), s)
    else if typ == 0 || typ == 3 then (none, s.onHif fun h => { h with deleting := h.deleting ++ [(r, c.ring, c.tag)] })
    else
      let s := match tget none s.hif.outBuf r with
        | some b => if b.items == 0 || !ringRuns (s.ring r) then s else s.outBack r b
        | none => s
      (some Reply.ok, s.ringGone r)

/-- RING_DELETE (R495): a CMD or DATA_IN ring with entries in flight ends after the last of them. -/
def execRingDelete (t : Nat) (c : Cmd) (s : State) : Host.Outcome State Fault Refusal :=
  (s.command t (specRingDelete c) c (bodyRingDelete c)).done

/-- The checks of RING_TUNE (R546). -/
def specRingTune (c : Cmd) : State → Spec :=
  let r := c.f 8 0 16
  fun s =>
    { op := 0x03, fault := faultAt ((decide (r < 130) || !fbit Ring.VALID (s.ring r) || fget Ring.FUNC (s.ring r) != s.fnOf c,
        0x08) :: s.tuneFault (s.fnOf c) (fbit Ring.PIN (s.ring r)) c) }

/-- The context that RING_TUNE leaves of `o` (R546). -/
def ringTuned (c : Cmd) (o : Rec 64) : Rec 64 :=
  fput Ring.PIN (c.f 0x0C 4 1) (fput Ring.WEIGHT (c.f 0x0C 24 8) (fput Ring.VECTOR (c.f 0x10 16 11)
    (fput Ring.VEC_EN (c.f 0x10 27 1) (fput Ring.COAL_N (c.f 0x20 0 16) (fput Ring.COAL_US (c.f 0x20 16 16)
      (fput Ring.BACKLOG_MAX (c.f 0x24 0 21) o))))))

/-- The effect of RING_TUNE (R546). -/
def bodyRingTune (c : Cmd) : State → Option Reply × State :=
  let r := c.f 8 0 16
  fun s =>
    let o := s.ring r
    let n := ringTuned c o
    let s := s.setRing r n
    let s := if fbit Ring.PIN o == fbit Ring.PIN n then s
      else if fbit Ring.PIN n then s.bump Reg.HIF_PIN_USED.COUNT else s.drop Reg.HIF_PIN_USED.COUNT
    (some Reply.ok, s.signal r)

/-- RING_TUNE (R546). -/
def execRingTune (t : Nat) (c : Cmd) (s : State) : Host.Outcome State Fault Refusal :=
  (s.command t (specRingTune c) c (bodyRingTune c)).done

/-- The checks of RING_QUERY (R546). -/
def specRingQuery (c : Cmd) : State → Spec :=
  let r := c.f 8 0 16
  fun s =>
    { op := 0x04, need := 64, hbm := [(0x1F40000000 + r * 0x40, 64)]
      fault := faultAt [(!secureFn (s.fnOf c) && fget Ring.FUNC (s.ring r) != s.fnOf c, 0x08)] }

/-- The effect of RING_QUERY (R546). -/
def bodyRingQuery (c : Cmd) : State → Option Reply × State :=
  let r := c.f 8 0 16
  (okWith fun s => s.bufPut c 64 (s.ring r).toNat)

/-- RING_QUERY (R546). -/
def execRingQuery (t : Nat) (c : Cmd) (s : State) : Host.Outcome State Fault Refusal :=
  (s.command t (specRingQuery c) c (bodyRingQuery c)).done

/-! Doorbells (R496 to R498, R523, R795). -/

/-- R527: a ring's context comes into the cache. -/
def State.touch (r : Nat) (s : State) : State :=
  if r < 130 || fbit Ring.PIN (s.ring r) then s
  else if s.hif.cache.contains r then s.onHif fun h => { h with cache := r :: h.cache.erase r }
  else (s.onHif fun h => { h with cache := (r :: h.cache).take (4096 - 130 - s.rf Reg.HIF_PIN_USED.COUNT) }).bump
    Reg.HIF_CTX_MISS_CNT.COUNT

/-- R523: a ring's vector is armed. -/
def State.arm (r : Nat) (s : State) : State :=
  let s := (s.modRing r (fput Ring.ARMED 1)).onHif fun h => { h with coalAt := tset 0 h.coalAt r 0, outPend := tset 0 h.outPend r 0 }
  s.signal r

/-- R497: the host's count for a ring. A count beyond the ring's size is an error of the host; it is dropped (R23, log
entry 13). -/
def State.takeCount (r v : Nat) (s : State) : State :=
  let c := s.ring r
  let m (a b : Nat) : Nat := (a + 2 ^ 32 - b) % 2 ^ 32
  let prod := fget Ring.PROD c
  let cons := fget Ring.CONS c
  if fget Ring.TYPE c == 1 || fget Ring.TYPE c == 2 then
    if v == cons || m prod cons < m v cons then s else (s.setRing r (fput Ring.CONS v c)).arm r
  else if v == prod || ringFree c < m v prod then s
  else
    let s := s.setRing r (fput Ring.PROD v c)
    if fget Ring.TYPE c == 4 then s.arm r else s

/-- R498: a doorbell write for a ring that is not owned or does not exist. A ring of the other world is a denial too
(R585). -/
def State.stray (fn r : Nat) (s : State) : State :=
  let s := s.bump Reg.HIF_DB_STRAY_CNT.COUNT
  let s := if fbit Ring.VALID (s.ring r) && fbit Ring.WORLD (s.ring r) != secureFn fn then s.denied fn 2 3 r 2 else s
  if s.hif.strayAt != 0 && decide (s.tim.now < s.hif.strayAt - 1 + ofS 1) then s
  else (s.onHif fun h => { h with strayAt := s.tim.now + 1 }).raise Ev.HIF_DB_STRAY fn [r]

/-- A doorbell write of function `fn` at BAR2 offset `off`, of `size` bytes. -/
def State.doorbell (fn off size v : Nat) (s : State) : State :=
  let r := off / 0x1000
  let o := off % 0x1000
  if size != 4 || (o != 0 && o != 4) then s.bump Reg.HIF_DB_BAD_CNT.COUNT
  else
    let c := s.ring r
    if !fbit Ring.VALID c || fget Ring.FUNC c != fn then s.stray fn r
    else
      let s := s.touch r
      if o == 0 then s.takeCount r (v % 2 ^ 32)
      else if v % 2 == 1 && (fget Ring.TYPE c == 1 || fget Ring.TYPE c == 2 || fget Ring.TYPE c == 4) then s.arm r
      else s

/-- DOORBELL_COUNT_WRITE (R496). -/
def execDoorbellCountWrite (t fn off size v : Nat) (s : State) : Host.Outcome State Fault Refusal :=
  if !s.pwr.mainUp then .next s else ((s.at_ t).doorbell fn off size v).done

/-- DOORBELL_ARM_WRITE (R496, R523). -/
def execDoorbellArmWrite (t fn off size v : Nat) (s : State) : Host.Outcome State Fault Refusal :=
  if !s.pwr.mainUp then .next s else ((s.at_ t).doorbell fn off size v).done

/-- R487, R498, R499, R795: what a 32-bit read of function `fn` at BAR2 offset `off` returns; it changes nothing. -/
def State.doorbellRead (s : State) (fn off : Nat) : Nat :=
  let c := s.ring (off / 0x1000)
  if !s.pwr.mainUp || !fbit Ring.VALID c || fget Ring.FUNC c != fn then 0
  else if off % 0x1000 == 0 then
    if fget Ring.TYPE c == 1 || fget Ring.TYPE c == 2 then fget Ring.PROD c else fget Ring.CONS c
  else if off % 0x1000 == 4 then
    fget Ring.VALID c + 2 * fget Ring.QUENCHED c + 4 * fget Ring.FAULT c + 8 * fget Ring.ARMED c
  else 0

/-! Fetching (R504, R524, R525, R527). -/

/-- Entries in flight that will complete on a CPL ring. -/
def State.owing (s : State) (cpl : Nat) : Nat :=
  (s.hif.inflight.filter fun i => fget Ring.CPL_RING (s.ring i.ring) == cpl).length

/-- R504, R528, R530, R531: a ring's next entry may be read; none for a CPL ring that is quenched or stopped by a DMA error. -/
def State.fetchable (s : State) (r : Nat) (c : Rec 64) : Bool :=
  let cpl := s.ring (fget Ring.CPL_RING c)
  let typ := fget Ring.TYPE c
  fbit Ring.VALID c && (typ == 0 || typ == 3 || typ == 4) && ringHeld c != 0 && ringRuns c &&
    !(s.hif.deleting.any fun d => d.1 == r) &&
    (typ == 4 || (fget Ring.INFLIGHT c < 256 && s.rf Reg.HIF_INFLIGHT.COUNT < 16384 && isRing cpl 1 &&
      ringRuns cpl && s.owing (fget Ring.CPL_RING c) < ringFree cpl))

/-- The rings that the fetch arbiter chooses among (R524, R525): the function as group, the ring as leaf. -/
def State.fetchIn (s : State) : List ArbIn :=
  (s.hif.rings.filter fun e => s.fetchable e.1 e.2).map fun e =>
    ⟨0, fget Ring.FUNC e.2, e.1, if fget Ring.TYPE e.2 == 0 then 64 else 32, fget Ring.WEIGHT e.2⟩

/-- The ring that the fetch arbiter serves next, and its rounds after that turn. -/
def State.fetchPick (s : State) : Option Nat × List AClass :=
  let gq (f : Nat) : Option Nat := if s.rb Reg.HIF_ARB.EXPERT then some (s.rf (Reg.HIF_FN.FQ f)) else none
  let p := arbPick (64 * s.rf Reg.HIF_ARB.UNIT64) false (fun _ => none) gq s.fetchIn arbFuel (arbSync s.fetchIn s.hif.fetchArb)
  (p.1.map ArbIn.key, p.2)

/-- DESCRIPTOR_FETCH (R504): the arbiter's ring and the entry read from it, `desc` (a DATA_IN or DATA_OUT entry in its
low 32 bytes). -/
def execDescriptorFetch (t : Nat) (desc : Rec 64) (s : State) : Host.Outcome State Fault Refusal :=
  let s1 := s.at_ t
  if !s1.pwr.mainUp || s1.pwr.failing || !s1.ready 8 then .next s
  else match s1.fetchPick with
    | (none, _) => .next s
    | (some r, arb) =>
      let c := s1.ring r
      let cons := (fget Ring.CONS c + 1) % 2 ^ 32
      let s1 := ((s1.onHif fun h => { h with fetchArb := arb }).touch r).setRing r (fput Ring.CONS cons c)
      let s1 := if fget Ring.TYPE c == 4 then
        s1.onHif fun h => { h with posted := h.posted ++ [(r, fget Ring.CONS c, desc.toNat % 2 ^ 64, (desc.toNat >>> 64) % 2 ^ 21)] }
      else
        let s1 := s1.onHif fun h => { h with inflight := h.inflight ++
          [⟨r, if fget Ring.TYPE c == 3 then desc &&& BitVec.ofNat 512 (2 ^ 256 - 1) else desc, fget Ring.TYPE c == 3, cons, false⟩] }
        ((s1.modRing r fun c => fput Ring.INFLIGHT (fget Ring.INFLIGHT c + 1) c).bump Reg.HIF_INFLIGHT.COUNT).bump
          (Reg.HIF_FN.FN_INFLIGHT (fget Ring.FUNC c))
      let s1 := s1.onHif fun h => { h with fetchArb := arbSync s1.fetchIn h.fetchArb }
      (s1.sweep 256 r).done

/-- COMPLETION_WRITE (R504, R528): the completions held for CPL ring `r` once its quench has cleared. -/
def execCompletionWrite (t r : Nat) (s : State) : Host.Outcome State Fault Refusal :=
  if s.hif.held.any fun e => e.1 == r && !fbit Ring.QUENCHED (s.ring r) then ((s.at_ t).unhold r).done else .next s

/-- EVENT_BACKLOG_DRAIN (R517). -/
def execEventBacklogDrain (t r : Nat) (s : State) : Host.Outcome State Fault Refusal :=
  if s.hif.backlog.any fun e => e.1 == r then ((s.at_ t).drain r).done else .next s

/-- VECTOR_COALESCE_EXPIRE (R523). -/
def execVectorCoalesceExpire (t r : Nat) (s : State) : Host.Outcome State Fault Refusal :=
  let s1 := s.at_ t
  let c := s1.ring r
  let due := tget 0 s1.hif.coalAt r
  if due == 0 || decide (s1.tim.now + 1 < due) || !fbit Ring.ARMED c || !fbit Ring.VEC_EN c || s1.pendEntries r == 0 then .next s
  else
    let s1 := (s1.setRing r (fput Ring.ARMED 0 c)).onHif fun h => { h with coalAt := tset 0 h.coalAt r 0 }
    (s1.sendVec (fget Ring.FUNC c) (fget Ring.VECTOR c)).done

/-- MSIX_UNMASK (R488, R796): a vector at or beyond NVEC does not exist. Unmasking goes with the function's MSI-X Enable
(log entry 14). -/
def execMsixUnmask (t fn vec : Nat) (s : State) : Host.Outcome State Fault Refusal :=
  if 65 ≤ fn || s.rf (Reg.HIF_FN.NVEC fn) ≤ vec then .next s
  else
    let k := vecKey fn vec
    let s1 := (s.at_ t).onHif fun h => { h with vecOpen := tset 0 h.vecOpen k 1, msixEn := tset 0 h.msixEn fn 1 }
    if tget 0 s1.hif.vecPend k == 0 then s1.done
    else ((s1.onHif fun h => { h with vecPend := tset 0 h.vecPend k 0 }).sendVec fn vec).done

/-- DATA_OUT_WRITEBACK (R522, R526, R528): 100 µs after a buffer's first item, once its ring is not quenched. A buffer whose next item
does not fit is written back as that item comes. -/
def execDataOutWriteback (t r : Nat) (s : State) : Host.Outcome State Fault Refusal :=
  let s1 := s.at_ t
  match tget none s1.hif.outBuf r with
  | some b =>
    if b.items == 0 || s1.tim.now < b.since + ofUs 100 || !ringRuns (s1.ring r) then .next s else (s1.outBack r b).done
  | none => .next s

/-- DMA_ERROR (R530): `status` is the TLP completion status. -/
def execDmaError (t r status : Nat) (s : State) : Host.Outcome State Fault Refusal :=
  let c := s.ring r
  if !fbit Ring.VALID c || fbit Ring.FAULT c then .next s
  else
    let s1 := ((s.at_ t).setRing r (fput Ring.FAULT 1 c)).bump Reg.HIF_DMA_ERR_CNT.COUNT
    let lost := s1.hif.held.filter fun e => e.1 == r
    let s1 := s1.onHif fun h => { h with held := h.held.filter fun e => e.1 != r }
    let s1 := lost.foldl (fun s e =>
      match s.hif.inflight.find? fun i => i.ring == e.2 % 65536 && i.tag == e.2 / 65536 % 65536 && i.disp with
      | some i => s.unflight i
      | none => s) s1
    (s1.raise Ev.HIF_RING_FAULT r [fget Ring.FUNC c, status]).done

/-! Function pages (R529, R535). -/

/-- R535: requester `req` reaches page `fn`; a denied access is counted. Requesters are functions; 65 the Keeper. -/
def State.pageOk (req fn off : Nat) (s : State) : Bool × State :=
  if secureFn req then (true, s)
  else if (fn == 0 && req == 1) || (s.blockSecure 3 && req == 1) then (false, s.denied req 1 3 off 1)
  else (req == fn || (req == 1 && fn != 0), s)

/-- R529: the reset of one function; `kind`: 0 FLR, 1 FN_RESET, 2 link reset. -/
def State.fnReset (kind fn : Nat) (s : State) : State :=
  let mine := (s.hif.rings.filter fun e => fget Ring.FUNC e.2 == fn).map Prod.fst
  let gone := (s.hif.inflight.filter fun i => mine.contains i.ring).length
  let s := s.onHif fun h => { h with
    inflight := h.inflight.filter fun i => !mine.contains i.ring
    held := h.held.filter fun e => !mine.contains (e.2 % 65536)
    deleting := h.deleting.filter fun d => !mine.contains d.1
    outBuf := h.outBuf.filter fun e => !mine.contains e.1
    vecOpen := h.vecOpen.filter fun e => e.1 / 2048 != fn
    vecPend := h.vecPend.filter fun e => e.1 / 2048 != fn
    msixEn := tset 0 h.msixEn fn 0 }
  let s := (s.drop Reg.HIF_INFLIGHT.COUNT gone).wf (Reg.HIF_FN.FN_INFLIGHT fn) 0
  let s := mine.foldl (fun s r => s.ringGone r) s
  let s := ((s.wf (Reg.HIF_FN.ADM_EN fn) 0).wf (Reg.HIF_FN.READY fn) 0).bump (Reg.HIF_FN.FN_RESET_CNT fn)
  let s := s.onLdg fun l => { l with view := match l.view with
    | some v => if v.1 == fn then none else some v
    | none => none }
  let idle : TwSeq := ⟨false, 0, 0, 0⟩
  let s := s.onWld fun w => { w with
    seqPF0 := if fn == 0 then idle else w.seqPF0, seqPF1 := if fn == 1 then idle else w.seqPF1 }
  s.raise Ev.HIF_FN_RESET fn [kind]

/-- R529: the functions that a reset of `fn` reaches. -/
def State.fnResets (kind fn : Nat) (s : State) : State :=
  (if kind == 2 then List.range 65 else if fn == 1 then (List.range 64).map (· + 1) else [fn]).foldl (fun s f => s.fnReset kind f) s

/-- FUNCTION_LEVEL_RESET (R529): `kind` 0 a PCIe FLR of `fn`, 1 a write of 1 to its FN_RESET by requester `req`, 2 a
link-down or hot reset of the host link. -/
def execFunctionLevelReset (t kind req fn : Nat) (s : State) : Host.Outcome State Fault Refusal :=
  let s1 := s.at_ t
  if !s1.pwr.mainUp || 2 < kind || 65 ≤ fn then .next s
  else
    let (ok, s1) := if kind == 1 then s1.pageOk req fn (0x190000 + fn * 0x1000) else (true, s1)
    if !ok then s1.done
    else
      let s1 := s1.fnResets kind fn
      (if kind == 2 then ((s1.wf Reg.HIF_LINK_STAT.GEN 0).wf Reg.HIF_LINK_STAT.WIDTH 0).wf Reg.HIF_LINK_STAT.FLIT 0 else s1).done

/-- QUENCHED of a ring follows FN_QUENCH and HIF_QUENCH. -/
def State.requench (s : State) : State :=
  s.hif.rings.foldl (fun s e => s.modRing e.1 (fput Ring.QUENCHED (b2n (s.quenched e.1 (fget Ring.FUNC e.2))))) s

/-- R528: FN_QUENCH of a function becomes `v`. -/
def State.fnQuench (fn : Nat) (v : Bool) (s : State) : State := (s.wf (Reg.HIF_FN.FN_QUENCH fn) (b2n v)).requench

/-- FN_QUENCH_WRITE (R528, R535). -/
def execFnQuenchWrite (t req fn : Nat) (v : Bool) (s : State) : Host.Outcome State Fault Refusal :=
  if !s.pwr.mainUp || 65 ≤ fn then .next s
  else
    let (ok, s1) := (s.at_ t).pageOk req fn (0x190000 + fn * 0x1000)
    (if ok then s1.fnQuench fn v else s1).done

/-- R535: the context of a function's admin ring. -/
def State.admRing (s : State) (fn : Nat) (cpl : Bool) : Rec 64 :=
  let base := if cpl then s.rf (Reg.HIF_FN.ADM_CPL_BASE_LO fn) + s.rf (Reg.HIF_FN.ADM_CPL_BASE_HI fn) * 2 ^ 32
    else s.rf (Reg.HIF_FN.ADM_CMD_BASE_LO fn) + s.rf (Reg.HIF_FN.ADM_CMD_BASE_HI fn) * 2 ^ 32
  BitVec.ofNat 512 (pack [(Ring.TYPE, b2n cpl), (Ring.VALID, 1), (Ring.WORLD, b2n (secureFn fn)), (Ring.FUNC, fn),
    (Ring.LOG2N, s.rf (if cpl then Reg.HIF_FN.CPL_LOG2N fn else Reg.HIF_FN.CMD_LOG2N fn)), (Ring.WEIGHT, 1),
    (Ring.CPL_RING, if cpl then 0 else 2 * fn + 1), (Ring.VECTOR, if cpl then s.rf (Reg.HIF_FN.VECTOR fn) else 0),
    (Ring.VEC_EN, if cpl then s.rf (Reg.HIF_FN.VEC_EN fn) else 0), (Ring.BASE, base), (Ring.COAL_N, 1), (Ring.ARMED, 1),
    (Ring.QUENCHED, b2n (s.quenched (2 * fn + b2n cpl) fn))])

/-- R535: ADM_EN of a function becomes `v`: the admin rings are created, or stopped. A ring whose region lies in the other
world is not created (R575). Before the host interface is ready the rings hold their doorbells for it (R532). -/
def State.admEn (fn : Nat) (v : Bool) (s : State) : State :=
  if s.rb (Reg.HIF_FN.ADM_EN fn) == v then s
  else if v then
    let a := s.admRing fn false
    let b := s.admRing fn true
    match [(fget Ring.BASE a, ringSize a * 64), (fget Ring.BASE b, ringSize b * 32)].findSome? fun r =>
        s.hostDenied (secureFn fn) r.1 r.2 with
    | some n => s.denied fn 0 3 (n + 2 ^ 31) 0
    | none =>
      ((((s.setRing (2 * fn) a).setRing (2 * fn + 1) b).bump (Reg.HIF_FN.FN_RINGS fn) 2).wf (Reg.HIF_FN.ADM_EN fn) 1).wf
        (Reg.HIF_FN.READY fn) (b2n (s.ready 8))
  else
    let gone := s.hif.inflight.filter fun i => i.ring == 2 * fn
    let s := s.onHif fun h => { h with
      inflight := h.inflight.filter fun i => i.ring != 2 * fn, held := h.held.filter fun e => e.2 % 65536 != 2 * fn }
    let s := (s.drop Reg.HIF_INFLIGHT.COUNT gone.length).drop (Reg.HIF_FN.FN_INFLIGHT fn) gone.length
    (((s.ringGone (2 * fn)).ringGone (2 * fn + 1)).wf (Reg.HIF_FN.ADM_EN fn) 0).wf (Reg.HIF_FN.READY fn) 0

/-- ADM_EN_WRITE (R535). -/
def execAdmEnWrite (t req fn : Nat) (v : Bool) (s : State) : Host.Outcome State Fault Refusal :=
  if !s.pwr.mainUp || 65 ≤ fn then .next s
  else
    let (ok, s1) := (s.at_ t).pageOk req fn (0x190000 + fn * 0x1000)
    (if ok then s1.admEn fn v else s1).done

/-- R528, R536: the word `v` written to HIF_QUENCH. -/
def State.hifQuench (v : Nat) (s : State) : State :=
  if (v / 2) % 2 == 1 && !fbit Ring.VALID (s.ring (v / 65536 % 65536)) then s.bump Reg.HIF_RANGE_REJECT_CNT.COUNT
  else (((s.wf Reg.HIF_QUENCH.EVT_ALL (v % 2)).wf Reg.HIF_QUENCH.RING_EN (v / 2 % 2)).wf Reg.HIF_QUENCH.RING (v / 65536)).requench

/-- HIF_QUENCH_WRITE (R528, R536): the word `v` written to HIF_QUENCH by requester `req`. -/
def execHifQuenchWrite (t req v : Nat) (s : State) : Host.Outcome State Fault Refusal :=
  if !s.pwr.mainUp then .next s
  else
    let s1 := s.at_ t
    if !secureFn req && s1.blockSecure 5 then
      if req == 1 then (s1.denied req 1 5 0x180004 1).done else .next s
    else (s1.hifQuench v).done

/-- R532: the host interface reports ready; the admin rings set up before it accept doorbells. -/
def State.hifReady (s : State) : State :=
  (List.range 65).foldl (fun s fn => if s.rb (Reg.HIF_FN.ADM_EN fn) then s.wf (Reg.HIF_FN.READY fn) 1 else s) (s.setReady 8)

/-- HOST_LINK_TRAINED (R532, R533): rate, lanes, flit mode; the host interface reports ready. -/
def execHostLinkTrained (t gen width : Nat) (flit : Bool) (s : State) : Host.Outcome State Fault Refusal :=
  if !s.pwr.mainUp then .next s
  else
    let s1 := (((s.at_ t).wf Reg.HIF_LINK_STAT.GEN gen).wf Reg.HIF_LINK_STAT.WIDTH width).wf Reg.HIF_LINK_STAT.FLIT (b2n flit)
    ((s1.onHif fun h => { h with ownRef := s1.rb Reg.PWR_CLK_CTRL.PCIE_SRIS }).hifReady).done

end Sys2Proof.Machine
end

