-- ==== Sys2Proof/Machine/ImgOps.lean ====
section
/-! DEFINITION. The retained image (R762 to R777): what a commit writes, which image a start chooses, the checkpoint blocks, and
what a restore puts into the tables. -/

namespace Sys2Proof.Machine

/-! Restored register fields (R28, R763 section 1). -/

/-- The bits of a register word that are restored. -/
def restMask (off : Nat) : Nat := fieldMask off fun f => f.rest != .no

/-- R785, R791: a register of the main domain: not of BCN, LIO, LTN, PWR, KPR or BKP. -/
def mainReg (off : Nat) : Bool :=
  let b := off >>> 16
  !(b == 6 || (decide (11 ≤ b) && decide (b ≤ 15)))

/-- Section REGS: the restored fields as they stand. -/
def State.imageRegs (s : State) : Tab Word :=
  s.regs.foldl (fun t e => tset (facWord e.1) t e.1 (maskInto (restMask e.1) e.2.toNat (facWord e.1))) []

/-- The restored fields of the registers `own` take the values of a section REGS; an unlisted one its factory value. -/
def State.restoreRegs (img : Tab Word) (own : Nat → Bool) (s : State) : State :=
  ((tkeys s.regs ++ tkeys img).filter own).foldl (fun s o =>
    s.wr o (maskInto (restMask o) (tget (facWord o) img o).toNat (s.rd o))) s

/-- The fields of the registers `own` that are not restored take their factory values. -/
def State.clearRegs (own : Nat → Bool) (s : State) : State :=
  ((tkeys s.regs).filter own).foldl (fun s o => s.wr o (maskInto (restMask o) (s.rd o).toNat (facWord o))) s

/-! What a section keeps of a record (R763). -/

def keepCond (r : Rec 64) : Rec 64 := fput ⟨416, 96⟩ 0 (fput ⟨320, 64⟩ 0 r)
def keepSect (r : Rec 128) : Rec 128 :=
  fput Sect.FO_LATCHED (fget Sect.FO_LATCHED r) (fput ⟨32, 480⟩ (fget ⟨32, 480⟩ Sect.factory) r)
def keepLink (r : Rec 4) : Rec 4 := fput Link.SUPP_CNT 0 (fput Link.HELD 0 r)
def keepCause (r : Rec 32) : Rec 32 := fput ⟨128, 128⟩ 0 (fput Cause.CSTATE 0 r)
def keepMir (r : Rec 32) : Rec 32 := fput Mir.T_RX 0 (fput ⟨77, 2⟩ 0 (fput ⟨68, 8⟩ 0 r))
def keepChan (r : Rec 64) : Rec 64 := fput ⟨320, 192⟩ 0 r
/-- A baseline header. -/
def keepBase (r : Rec 4096) : Rec 64 := BitVec.ofNat 512 r.toNat
/-- MODE, MODE_N, SP and SP_N of a loop. -/
def keepModes (r : Rec 512) : Rec 16 := BitVec.ofNat 128 (r.toNat >>> 2048)

/-- R39: runtime words 0x40 to 0x5F of a point. -/
def Pt.RUN : Fld := ⟨512, 256⟩
def keepRun (r : Rec 128) : Rec 32 := BitVec.ofNat 256 (fget Pt.RUN r)

/-- The configured points. -/
def State.configured (s : State) : List Nat := (s.pts.rec_.filter fun e => fget Pt.KIND e.2 != kNone).map Prod.fst

/-- R763: the image that a commit dispatched now would write; HCRC, a CRC over all of it, is a free value. -/
def State.imageNow (s : State) (gen hcrc : Nat) : Slot :=
  { gen := gen, t := s.clock, node := s.node, hcrc := hcrc, bad := false
    regs := s.imageRegs
    pts := tmap 0 (fun _ p => if fget Pt.KIND p == kNone then 0 else BitVec.ofNat 512 (fget Pt.CFG p)) s.pts.rec_
    homes := tmap 0 (fun _ x => x.home) s.pts.ext
    cond := tmap 0 (fun _ r => keepCond r) s.alm.cond, condX := s.alm.ext, owner := s.alm.owner
    sect := tmap Sect.factory (fun _ r => keepSect r) s.sec.sect, link := tmap 0 (fun _ r => keepLink r) s.sec.link
    cause := tmap 0 (fun _ r => keepCause r) s.sec.cause, edge := s.sec.edge, mir := tmap 0 (fun _ r => keepMir r) s.sec.mir
    chan := tmap Chan.factory (fun _ r => keepChan r) s.cmw.chan, band := s.cmw.band, spd := s.cmw.spd, bnd := s.cmw.bnd, defs := s.cmw.defs
    base := tmap (keepBase Base.factory) (fun _ r => keepBase r) s.cmw.base
    loops := tmap Loop.factoryHalf (fun _ r => BitVec.ofNat 2048 (fget Loop.HALF r)) s.ctl.rec_, comps := s.ctl.comp, sups := s.ctl.sup
    modes := tmap (keepModes Loop.factory) (fun _ r => keepModes r) s.ctl.rec_
    routes := s.fab.active, labels := s.ltn.labels, blocks := [], loopBlk := [] }

/-! Checkpoints (R773 to R775). -/

/-- The snapshot of block `b` now, without its write number. -/
def State.blockNow (s : State) (b : Nat) : Ckpt :=
  let is_ := s.configured.filter fun i => i / 1024 == b
  { bseq := 0, t := s.clock, lastSeq := is_.foldl (fun m i => max m (fget Pt.LAST_SEQ (s.pt i))) 0
    pts := is_.foldl (fun t i => tset 0 t i (keepRun (s.pt i))) []
    conds := is_.foldl (fun t i => (s.slotsOf i).foldl (fun t k =>
      tset 0 t k.2 (fget Cond.CSTATE (s.cond k.2) + fget Ext.SHELVE_S (s.condX k.2) * 2 ^ 32)) t) [] }

/-- R773: a block's existing copy with the higher write number. -/
def Slot.block (x : Slot) (b : Nat) : Option Ckpt :=
  match tget none x.blocks (2 * b), tget none x.blocks (2 * b + 1) with
  | some p, some q => some (if p.bseq < q.bseq then q else p)
  | some p, none => some p
  | none, q => q

/-- A block written into its copy by write number. -/
def Slot.putBlock (b : Nat) (k : Ckpt) (x : Slot) : Slot :=
  let n := ((x.block b).map fun o => o.bseq + 1).getD 0
  { x with blocks := tset none x.blocks (2 * b + n % 2) (some { k with bseq := n }) }

/-- R774: the loop block's copy in force, and its writing. -/
def Slot.loops_ (x : Slot) : Option LoopBlk :=
  match tget none x.loopBlk 0, tget none x.loopBlk 1 with
  | some p, some q => some (if p.bseq < q.bseq then q else p)
  | some p, none => some p
  | none, q => q

def State.loopNow (s : State) : LoopBlk :=
  { bseq := 0, t := s.clock, modes := tmap (keepModes Loop.factory) (fun _ r => keepModes r) s.ctl.rec_ }

def Slot.putLoops (k : LoopBlk) (x : Slot) : Slot :=
  let n := (x.loops_.map fun o => o.bseq + 1).getD 0
  { x with loopBlk := tset none x.loopBlk (n % 2) (some { k with bseq := n }) }

/-- The blocks that hold a configured point. -/
def State.blocksUsed (s : State) : List Nat := (s.configured.map fun i => i / 1024).eraseDups

def State.setSlot (k : Nat) (x : Option Slot) (s : State) : State :=
  s.onImg fun m => if k == 0 then { m with slot0 := x } else { m with slot1 := x }

/-- R775: a block is written into the slot in use. -/
def State.writeBlock (b : Nat) (s : State) : State :=
  let s := s.setSlot (s.img.use - 1) (some (s.inUse.putBlock b (s.blockNow b)))
  (s.onImg fun m => { m with ckptAt := tset 0 m.ckptAt b (s.tim.now + 1) }).bump Reg.SYS_CKPT_CNT.COUNT

def State.writeLoops (s : State) : State :=
  (s.setSlot (s.img.use - 1) (some (s.inUse.putLoops s.loopNow))).onImg fun m => { m with loopAt := s.tim.now + 1 }

/-! Commit records and the choice (R764 to R769). -/

/-- R764: the slot's image, if it is valid. -/
def State.valid (s : State) (k : Nat) : Option Slot := (s.slot k).filter fun x => !x.bad

/-- R765: the deciding record. -/
def State.deciding (s : State) : Option CRec := (s.img.recs.filter fun r => r.kind < 2).getLast?

/-- R765: a record names the image of slot `k`. -/
def CRec.names (r : CRec) (k : Nat) (x : Slot) : Bool := r.kind == 0 && r.slot == k && r.gen == x.gen && r.crc == x.hcrc

/-- R769: what a start restores: the slot, SOURCE, RETAIN_DISAGREE. -/
def State.choice (s : State) : Option Nat × Nat × Bool :=
  let d := s.deciding
  if d.any fun r => r.kind == 1 then (none, 2, false)
  else match s.valid 0, s.valid 1 with
    | none, none => (none, 0, false)
    | some _, none => (some 0, 1, false)
    | none, some _ => (some 1, 1, false)
    | some a, some b =>
      match d.filter fun r => r.names 0 a || r.names 1 b with
      | some r => (some r.slot, 1, false)
      | none =>
        if a.gen == b.gen && a.hcrc == b.hcrc then (some 0, 1, false)
        else match s.img.recs.reverse.find? fun r => r.names 0 a || r.names 1 b with
          | some r => (some r.slot, 1, false)
          | none => (some 0, 1, true)

/-- R769: a BEGIN record later than the deciding record. -/
def State.commitLost (s : State) : Bool := s.img.recs.getLast?.any fun r => r.kind == 2

/-- R766: the slot that the next commit writes. -/
def State.target (s : State) : Nat :=
  if s.img.use == 1 then 1
  else if s.img.use == 2 then 0
  else match s.valid 0, s.valid 1 with
    | some _, none => 1
    | some a, some b => if a.gen < b.gen then 0 else 1
    | _, _ => 0

def State.targetGauge (s : State) : State := s.wf Reg.SYS_COMMIT_STAT.TARGET s.target

/-- The number after that of the last commit record. -/
def State.recsEnd (s : State) : Nat := (s.img.recs.getLast?.map fun r => r.cseq + 1).getD 0

/-- The choice in force is to be restored, and shown. -/
def State.chooseShow (s : State) : State :=
  let s := s.onImg fun m => { m with use := m.chosen, asked := true }
  let m := s.img
  let s := ((s.wf Reg.SYS_RESTORE.SOURCE m.source).wf Reg.SYS_RESTORE.SLOT (m.chosen - 1)).wf Reg.SYS_RESTORE.RETAIN_DISAGREE (b2n m.disagree)
  (s.wf Reg.SYS_RESTORE_GEN.GEN s.inUse.gen).targetGauge

/-- R769: the choice is made and shown. -/
def State.choose (s : State) : State :=
  let (k, src, dis) := s.choice
  let s := if s.commitLost then s.wf Reg.SYS_RESTORE.COMMIT_LOST 1 else s
  (s.onImg fun m =>
    { m with chosen := (k.map (· + 1)).getD 0, source := src, disagree := dis, seen := s.recsEnd }).chooseShow

/-- R769, R782: at a start of the main domain the choice stands unless a commit record was written since. -/
def State.chooseMain (s : State) : State := if s.img.seen == s.recsEnd then s.chooseShow else s.choose

/-- R766: the next GEN. -/
def State.nextGen (s : State) : Nat :=
  let g := s.img.recs.foldl (fun m r => max m r.gen) 0
  let g := [0, 1].foldl (fun m k => max m ((s.valid k).map (·.gen) |>.getD 0)) g
  g + 1

/-- R765: a commit record. -/
def State.addRec (kind slot issuer gen crc : Nat) (s : State) : State :=
  let r : CRec := { cseq := (s.img.recs.getLast?.map fun r => r.cseq + 1).getD 0, kind := kind, slot := slot, issuer := issuer
                    gen := gen, crc := crc, t := s.clock }
  s.onImg fun m => { m with recs := (m.recs ++ [r]).drop (m.recs.length + 1 - 261120) }

/-! Commits (R766 to R768). -/

/-- Steps 1 to 3: the BEGIN record, the target's header erased, the sections as they stand. `ring` plus one and `tag`: the
command that waits for the commit. -/
def State.commitBegin (issuer ring tag : Nat) (s : State) : State :=
  let (crc, s) := s.fresh
  let k := s.target
  let gen := s.nextGen
  let img := s.imageNow gen (crc % 2 ^ 32)
  let s := (s.addRec 2 k issuer gen (crc % 2 ^ 32)).setSlot k none
  let s := s.onImg fun m =>
    { m with
      dirtyAt := 0
      run := some { target := k, issuer := issuer, img := img, host := s.rb Reg.SYS_COMMIT_STAT.DIRTY_HOST
                    mod_ := s.rb Reg.SYS_COMMIT_STAT.DIRTY_MOD, ring := ring, tag := tag } }
  ((s.wf Reg.SYS_COMMIT_STAT.BUSY 1).wf Reg.SYS_COMMIT_STAT.DIRTY_HOST 0).wf Reg.SYS_COMMIT_STAT.DIRTY_MOD 0

/-- R772: every point held UNCONFIRMED by RETAIN_DISAGREE is released, and the flag clears; answers how many. -/
def State.confirmAll (s : State) : Nat × State :=
  let is_ := (s.pts.ext.filter fun e => e.2.unconf / 4 % 2 == 1).map Prod.fst
  (is_.length, (is_.foldl (fun s i => (s.confirmPt i).requal i) s).wf Reg.SYS_RESTORE.RETAIN_DISAGREE 0)

/-- R685: the Lightship copies are written to the retained store. -/
def State.copiesOut (s : State) : State :=
  let mine := s.configured.filter fun i => localPt (s.pt i)
  let own (c : Nat) : Bool := mine.contains (tget 0 s.alm.owner c - 1) && tget 0 s.alm.owner c != 0
  s.onImg fun m =>
    { m with
      copyPts := mine.foldl (fun t i => tset Pt.factory t i
        (fput ⟨896, 128⟩ 0 (fput ⟨768, 64⟩ 0 (s.pt i)))) []
      copyCond := s.alm.cond.filter fun e => own e.1
      copyX := s.alm.ext.filter fun e => own e.1
      copyOwner := s.alm.owner.filter fun e => own e.1
      copyWatch := mine.foldl (fun t i =>
        tset 0 t i (if s.pwr.mainUp then s.watchesOf (sectorsOf (s.pt i)) else tget 0 s.pwr.watches i)) []
      copyAt := s.clock + 1 }

/-- Steps 4 to 6: the checkpoint pass, the header, the IMAGE record; the target becomes the slot in use. -/
def State.commitEnd (c : Commit) (s : State) : State :=
  let x := s.blocksUsed.foldl (fun x b => x.putBlock b (s.blockNow b)) c.img
  let n := s.blocksUsed.length
  let at_ := s.tim.now + 1
  let s := ((s.setSlot c.target (some ((x.putLoops s.loopNow).putLoops s.loopNow))).addRec 0 c.target c.issuer c.img.gen c.img.hcrc).onImg fun m =>
    { m with run := none, use := c.target + 1, commitAt := at_, loopAt := at_
             ckptAt := s.blocksUsed.foldl (fun t b => tset 0 t b at_) m.ckptAt }
  let s := (s.bump Reg.SYS_CKPT_CNT.COUNT n).bump Reg.SYS_COMMIT_CNT.COUNT
  let s := ((s.wf Reg.SYS_COMMIT_STAT.BUSY 0).wf Reg.SYS_COMMIT_GEN.GEN c.img.gen).wf Reg.SYS_RESTORE.FACTORY_PENDING 0
  let s := if s.rb Reg.SYS_RESTORE.RETAIN_DISAGREE then s.confirmAll.2 else s
  let s := s.copiesOut.targetGauge
  if c.ring == 0 then s else s.finishCmd (c.ring - 1) c.tag 0x09 ⟨0, 0, c.img.gen⟩

/-- R767: a running commit stops; what it would have written is pending again. A command still in flight completes with
ABORTED. -/
def State.commitStop (s : State) : State :=
  match s.img.run with
  | none => s
  | some c =>
    let s := s.onImg fun m => { m with run := none, dirtyAt := if c.host && m.dirtyAt == 0 then s.tim.now + 1 else m.dirtyAt }
    let s := s.wf Reg.SYS_COMMIT_STAT.BUSY 0
    let s := if c.host then s.wf Reg.SYS_COMMIT_STAT.DIRTY_HOST 1 else s
    let s := (if c.mod_ then s.wf Reg.SYS_COMMIT_STAT.DIRTY_MOD 1 else s).targetGauge
    if c.ring == 0 then s else s.finishCmd (c.ring - 1) c.tag 0x09 (Reply.of 8)

end Sys2Proof.Machine
end

