-- ==== Sys2Proof/Machine/KprOps.lean ====
section
/-! DEFINITION. Operations of the Keeper (R697 to R732): reset and mask ROM, update path, log, sessions, sensors, fans. -/

namespace Sys2Proof.Machine

/-! Banks (R697, R715 to R718). -/

def State.bank (s : State) (k : Nat) : Bank := if k == 0 then s.kpr.bank0 else s.kpr.bank1

def State.setBank (k : Nat) (b : Bank) (s : State) : State :=
  let s := s.onKpr fun p => if k == 0 then { p with bank0 := b } else { p with bank1 := b }
  (s.wf (if k == 0 then Reg.KPR_UPD_STAT.BANK0_OK else Reg.KPR_UPD_STAT.BANK1_OK) (b2n b.usable)).wf (Reg.KPR_BANK_VER.VERSION k)
    (if b.usable then b.version else 0)

/-- A bank marked unusable. -/
def State.spoilBank (k : Nat) (s : State) : State := s.setBank k { s.bank k with usable := false }

/-- A field of an image, policy or credential; a run of its bytes. -/
def nget (f : Fld) (d : Nat) : Nat := (d >>> f.lo) % 2 ^ f.w
def imgBytes (d o n : Nat) : Nat := (d >>> (8 * o)) % 2 ^ (8 * n)

/-- R716, R719: a bank's image verifies as FIRMWARE. -/
def State.bankVerifies (s : State) (k : Nat) : Bool :=
  let b := s.bank k
  b.usable && decide (s.kpr.svn ≤ b.svn) && (nget Img.NODE b.data == 0 || nget Img.NODE b.data == s.node)

/-- The bank that the firmware runs from, outside RECOVERY. -/
def State.executing (s : State) (k : Nat) : Bool := s.rf Reg.KPR_STAT.STATE != 2 && s.rf Reg.KPR_STAT.RUN_BANK == k

/-- The boot record written. -/
def State.setBoot (b : Boot) (s : State) : State :=
  ((s.onKpr fun k => { k with boot := some b }).wf Reg.KPR_STAT.ACTIVE_BANK b.active).wf Reg.KPR_STAT.TRIAL (b2n b.trial)

/-- Firmware runs and is not halted (R699, R726). -/
def State.keeperRuns (s : State) : Bool := s.ready 0 && !s.rb Reg.KPR_DBG_STAT.HALTED

/-! The trace (R727): where a packet stands is a free value, since the packets between are not given. -/

def State.tracePut (code a b : Nat) (s : State) : State :=
  if !s.rb Reg.KPR_TRACE_CTRL.EN then s
  else
    let (v, s) := s.fresh
    let (w, s) := s.fresh
    ((s.onKpr fun k => { k with trace := k.trace ++ [(code, a, b)] }).wf Reg.KPR_TRACE_PTR.OFFSET (v % 98304)).wf
      Reg.KPR_TRACE_PTR.WRAPPED (if s.rb Reg.KPR_TRACE_CTRL.WRAP then w else 0)

/-! The update path (R564, R716 to R718). -/

def State.updGauge (s : State) : State :=
  match s.kpr.update with
  | some u =>
    (((s.wf Reg.KPR_UPD_STAT.OPEN 1).wf Reg.KPR_UPD_STAT.SOURCE u.src).wf Reg.KPR_UPD_STAT.BANK u.bank).wf Reg.KPR_UPD_BYTES.BYTES u.done
  | none => (s.wf Reg.KPR_UPD_STAT.OPEN 0).wf Reg.KPR_UPD_BYTES.BYTES 0

/-- An open update closes; its bank is unusable. -/
def State.updClose (s : State) : State :=
  match s.kpr.update with
  | some u => ((s.onKpr fun k => { k with update := none }).spoilBank u.bank).updGauge
  | none => s

/-- The digest that an image, policy or credential signature covers, and its check. -/
def sigOk (key n d o : Nat) : Bool := Config.verify (Config.otpKey key) (sha384 n d) (imgBytes d o 96)

/-- R716: REASON. -/
def State.updReason (s : State) (u : Update) : Nat :=
  let d := (s.bank u.bank).data
  let body := d >>> (8 * 512)
  let policy := nget Img.TYPE d == 1
  if u.done < u.len || u.len != 512 + nget Img.BODY_LEN d then 3
  else if nget Img.IMAGIC d != 0x4D49504B || 1 < nget Img.TYPE d || !sigOk 0 0x1A0 d 0x1A0 || 64 < nget Img.SVN d ||
      imgBytes d 0x20 48 != sha384 (nget Img.BODY_LEN d) body || (nget Img.NODE d != 0 && nget Img.NODE d != s.node) then 1
  else if policy && (nget Img.BODY_LEN d != 224 || nget Pol.PMAGIC body != 0x57504C59 || !sigOk 1 0x80 body 0x80) then 1
  else if nget Img.SVN d < s.kpr.svn || (policy && decide (nget Pol.VERSION body < s.wld.highest)) then 2
  else 0

/-- R564, R718: why a subop is refused: status and DETAIL. `src` 0 mailbox, 1 management Ethernet; `arg` LEN or OFFSET. -/
def State.updRefuse (src sub bank arg n : Nat) (s : State) : Option (Nat × Nat) :=
  match sub with
  | 0 =>
    if arg == 0 || 8388608 < arg then some (5, 0x10)
    else if s.executing bank then some (11, 0)
    else if s.kpr.update.isSome then some (6, 0) else none
  | 1 =>
    match s.kpr.update with
    | none => some (1, 0)
    | some u =>
      if u.src != src then some (6, 0)
      else if arg != u.done || decide (u.len < arg + n) then some (5, 0x10)
      else if 65536 < n then some (5, 0x38) else none
  | 3 => if (s.bank bank).usable then none else some (1, 0)
  | _ =>
    match s.kpr.update with
    | none => some (1, 0)
    | some u => if u.src != src then some (6, 0) else none

/-- R718: the bank erased, the update open. -/
def State.updBegin (src bank len : Nat) (s : State) : State :=
  let s := match s.kpr.boot with
    | some b =>
      if b.active == bank && s.rf Reg.KPR_STAT.STATE != 2 then
        s.setBoot { b with active := s.rf Reg.KPR_STAT.RUN_BANK, trial := false } else s
    | none => s
  let u : Update := { src := src, bank := bank, len := len, done := 0, at_ := s.tim.now }
  (((s.setBank bank Bank.none_).onKpr fun k => { k with update := some u }).updGauge).raise Ev.KPR_UPD_BEGIN bank [src, len]

/-- R564: bytes programmed at the end of the data so far. -/
def State.updData (n data : Nat) (s : State) : State :=
  match s.kpr.update with
  | none => s
  | some u =>
    let b := s.bank u.bank
    let s := s.setBank u.bank { b with data := b.data + data % 2 ^ (8 * n) * 2 ^ (8 * u.done) }
    (s.onKpr fun k => { k with update := some { u with done := u.done + n, at_ := s.tim.now } }).updGauge

/-- R716, R717: verification and its outcome. VERSION and TYPE of an image whose header was not written are free values. -/
def State.updEnd (s : State) : Reply × State :=
  match s.kpr.update with
  | none => (Reply.of 1, s)
  | some u =>
    let reason := s.updReason u
    let b := s.bank u.bank
    let (x, s) := s.fresh
    let ver := if u.done < 12 then x % 2 ^ 32 else nget Img.VERSION b.data
    let typ := if u.done < 12 then x / 2 ^ 32 % 256 else nget Img.TYPE b.data
    let s := s.updClose.wf Reg.KPR_UPD_STAT.LAST_REASON reason
    let s := if reason == 0 && typ == 0 then s.setBank u.bank { b with usable := true, version := ver, svn := nget Img.SVN b.data } else s
    let body := imgBytes b.data 512 224
    let s := if reason == 0 && typ == 1 then
        (s.onWld fun w => { w with image := some (body, true) }).raise Ev.KPR_POLICY_STORED 0 [nget Pol.VERSION body] else s
    let s := s.raise Ev.KPR_UPD_END u.bank [reason, ver, typ]
    (if reason == 0 then Reply.ok else ⟨5, 8, reason⟩, s)

/-- R699, R700: a Keeper reset. -/
def State.keeperReset (cause : Nat) (s : State) : State :=
  let s := s.updClose
  let s := match s.kpr.nor with
    | some o => if o.src == 0 then s.finishCmd o.ring o.tag 0xA0 (Reply.of 1) else s
    | none => s
  let s := (s.commitStop.clearReady 0).onKpr fun k => { k with nor := none, logPend := [], chosen := false }
  let s := ((s.wf Reg.KPR_STAT.STATE 0).wf Reg.KPR_STAT.BOOT_CAUSE cause).wf Reg.KPR_DBG_STAT.HALTED 0
  (s.onWld fun w => { w with seqKpr := TwSeq.reset }).bcnSettle

/-- R717, R718, R720: activation. In RECOVERY no bank executes, and PREV keeps its value. -/
def State.updActivate (bank : Nat) (s : State) : State :=
  let rec_ := s.rf Reg.KPR_STAT.STATE == 2
  let run := s.rf Reg.KPR_STAT.RUN_BANK
  let old := s.kpr.boot.getD { active := bank, prev := bank, trial := false, relays := s.rf Reg.KPR_CTRL.RECOVERY_RELAYS }
  let s := if s.executing bank then s.setBoot { old with active := bank, trial := false }
    else s.setBoot { old with active := bank, prev := if rec_ then old.prev else run, trial := true }
  let s := s.raise Ev.KPR_UPD_ACTIVATE bank [(s.bank bank).version]
  if rec_ then s.keeperReset 4 else s

/-- The effect of an update subop that is not refused. -/
def State.updDo (src sub bank arg n data : Nat) (s : State) : Reply × State :=
  match sub with
  | 0 => (Reply.ok, s.updBegin src bank arg)
  | 1 => (Reply.ok, s.updData n data)
  | 2 => s.updEnd
  | 3 => (Reply.ok, s.updActivate bank)
  | _ => (Reply.ok, s.updClose)

/-! The mask ROM (R719, R720, R701, R713). -/

/-- A bank starts. -/
def State.bankStart (k : Nat) (s : State) : State :=
  ((s.wf Reg.KPR_STAT.RUN_BANK k).wf Reg.KPR_FW_VER.VERSION (s.bank k).version).onKpr fun p => { p with chosen := true }

/-- RECOVERY. -/
def State.recover (s : State) : State :=
  let s := ((s.wf Reg.KPR_STAT.STATE 2).wf Reg.KPR_FW_VER.VERSION 0).onKpr fun p => { p with chosen := true }
  s.bcnSettle.raise Ev.KPR_RECOVERY 0 [s.recoveryRelays]

/-- R719: the choice at a Keeper start. `corrupt`: bit k where the image in bank k no longer passes its checks. -/
def State.romBoot (corrupt : Nat) (s : State) : State :=
  let s := (List.range 2).foldl (fun s k => if corrupt.testBit k then s.spoilBank k else s.setBank k (s.bank k)) s
  let s := (s.onKpr fun k => { k with starts := k.starts + 1, pins := 0 }).wf Reg.KPR_STAT.SVN_CNT s.kpr.svn
  let cause := s.rf Reg.KPR_STAT.BOOT_CAUSE
  match s.kpr.boot with
  | none =>
    let k := if s.bankVerifies 0 && (!s.bankVerifies 1 || decide ((s.bank 1).version ≤ (s.bank 0).version)) then 0 else 1
    if s.bankVerifies k then
      (s.setBoot { active := k, prev := k, trial := false, relays := s.rf Reg.KPR_CTRL.RECOVERY_RELAYS }).bankStart k
    else s.recover
  | some b =>
    let s := s.setBoot b
    let other := 1 - b.active
    if b.trial && (cause == 1 || cause == 2) then
      ((s.setBoot { b with active := b.prev, trial := false }).bankStart b.prev).raise Ev.KPR_BOOT_FALLBACK b.prev [b.active, 1]
    else if s.bankVerifies b.active then s.bankStart b.active
    else if s.bankVerifies other then
      ((s.setBoot { b with active := other, trial := false }).bankStart other).raise Ev.KPR_BOOT_FALLBACK other [b.active, 0]
    else s.recover

/-- R699: the firmware is ready; the events that the restart owes (R698, R700, R728) and the trace's RESTART (R727). -/
def State.keeperUp (s : State) : State :=
  let s := (s.wf Reg.KPR_STAT.STATE 1).onKpr fun k => { k with readyAt := s.tim.now }
  let cause := s.rf Reg.KPR_STAT.BOOT_CAUSE
  let s := (s.tracePut 0x12 cause s.lwt).raise Ev.KPR_BOOT (s.rf Reg.KPR_STAT.RUN_BANK)
    [s.rf Reg.KPR_FW_VER.VERSION, cause, s.kpr.svn]
  let s := match s.kpr.owed with
    | some (code, arg) => (s.raise code 0 [arg]).onKpr fun k => { k with owed := none }
    | none => s
  s.setReady 0

/-! The Keeper log (R712, R713). -/

/-- One record written. -/
def State.logWrite (code t payload : Nat) (s : State) : State :=
  let k := s.kpr
  let no := s.rf Reg.KPR_LOG_NEXT.RECNO
  let start := k.starts % 65536
  let r : KRec := { recno := no, code := code, pinned := decide (k.pins < 4096), start := start, t := t, payload := payload }
  let old := if k.log.length < 4194304 then k.log
    else match k.log.find? fun r => !(r.pinned && r.start == start) with
      | some x => k.log.erase x
      | none => k.log.drop 1
  ((s.onKpr fun k => { k with log := old ++ [r], pins := k.pins + 1 }).wf Reg.KPR_LOG_NEXT.RECNO (no + 1)).tracePut 3 code no

/-- Every record that waits is written. -/
def State.logAll (s : State) : State :=
  let l := s.kpr.logPend
  l.foldl (fun s r => s.logWrite r.1 r.2.1 r.2.2) (s.onKpr fun k => { k with logPend := [] })

/-- R712: a record's 64 bytes. -/
def KRec.bytes (r : KRec) : Nat :=
  let v := r.recno + (r.code % 1024 + b2n r.pinned * 1024 + r.start * 65536) * 2 ^ 32 + r.t * 2 ^ 64 + r.payload % 2 ^ 224 * 2 ^ 128
  v + crc32c 0 56 v * 2 ^ 448 + 0x474F4C4B * 2 ^ 480

/-- R714: the records from FIRST on that fit in `room` bytes, and the oldest RECNO held. The log is held in ascending order. -/
def State.logRead (s : State) (first room : Nat) : List KRec × Nat :=
  (((s.kpr.log.filter fun r => decide (first ≤ r.recno)).take (room / 64)), (s.kpr.log.head?.map fun r => r.recno).getD 0)

def krecBytes (l : List KRec) : Nat := l.foldr (fun r v => r.bytes + v * 2 ^ 512) 0

/-- R730: the sensors as SENSOR_READ gives them. -/
def State.sensBytes (s : State) : Nat :=
  (List.range 340).foldr (fun k v => (s.rd (0xE1000 + 4 * k)).toNat + v * 2 ^ 32) 0

/-! Sessions (R722 to R724). Ports 0 and 1: management Ethernet; 2: the debug port. -/

def State.session (s : State) (p : Nat) : Option Session := tget none s.kpr.sessions p
def State.setSession (p : Nat) (x : Option Session) (s : State) : State :=
  let s := s.onKpr fun k => { k with sessions := tset none k.sessions p x }
  if p != 2 then s
  else (s.wf Reg.KPR_DBG_STAT.AUTH (b2n (x.any fun y => y.auth))).wf Reg.KPR_DBG_STAT.WORLD (b2n (x.any fun y => y.auth && y.secure))

/-- A session's event: 0 opened, 1 closed, 2 refused. -/
def State.sessionEvent (p what : Nat) (secure : Bool) (s : State) : State :=
  if p == 2 then s.raise Ev.KPR_DBG_AUTH 0 [what, b2n secure] else s.raise Ev.KPR_MGMT_SESSION p [what]

/-- A session closes. -/
def State.sessionClose (p : Nat) (s : State) : State :=
  match s.session p with
  | none => s
  | some x =>
    let s := s.setSession p none
    if x.auth then s.sessionEvent p 1 x.secure else s

/-- R722, R724: the port serves. -/
def State.portServes (s : State) (p : Nat) : Bool :=
  s.pwr.lshipUp &&
    (if p == 2 then s.rb Reg.KPR_DBG_CTRL.DBG_EN
    else decide (p < 2) && s.rb (if p == 0 then Reg.KPR_MGMT_CTRL.EN0 else Reg.KPR_MGMT_CTRL.EN1) &&
      s.rf (Reg.KPR_MGMT_IPV4.IPV4 p) != 0 && (s.keeperRuns || s.rf Reg.KPR_STAT.STATE == 2))

/-- A reply leaves a port. -/
def State.portReply (p op st res0 res1 len data : Nat) (s : State) : State :=
  let r : Sent := { op := op, st := st, res0 := res0, res1 := res1, len := len, data := data }
  s.onKpr fun k => { k with sent := tset none k.sent p (some r) }

/-- A reply to a mailbox subop over Ethernet. -/
def State.mailReply (p : Nat) (r : Reply) (s : State) : State :=
  s.portReply p 2 r.st (r.res % 2 ^ 32) (r.res / 2 ^ 32 % 2 ^ 32) 0 0

/-- R722: an authentication is refused; three within 60 s close a management port for 60 s. -/
def State.authFail (p : Nat) (secure : Bool) (s : State) : State :=
  let now := s.tim.now
  let s := ((s.bump Reg.KPR_AUTH_FAIL_CNT.COUNT).setSession p none).sessionEvent p 2 secure
  let s := s.portReply p 1 3 0 0 0 0
  if p == 2 then s
  else
    let l := ((p, now) :: s.kpr.failedAuth).filter fun e => decide (now < e.2 + ofS 60)
    if 3 ≤ (l.filter fun e => e.1 == p).length then
      s.onKpr fun k => { k with failedAuth := l.filter fun e => e.1 != p, refuse := tset 0 k.refuse p (now + ofS 60 + 1) }
    else s.onKpr fun k => { k with failedAuth := l }

/-- R723: a credential (224 bytes) is valid for a port, and the session signature (96 bytes) covers the nonce and node ID. -/
def State.credOk (s : State) (p nonce cred sig : Nat) : Bool :=
  let node := nget Cred.NODE cred
  let till := nget Cred.NOT_AFTER cred
  nget Cred.CMAGIC cred == 0x44435250 && sigOk 2 0x80 cred 0x80 && (node == 0 || node == s.node) &&
    decide (s.lwt ≤ till) && (!s.rb Reg.BKP_STAT.OSC_STOP || till == 2 ^ 64 - 1) &&
    nget Cred.KIND cred == (if p == 2 then 0 else 1) &&
    Config.verify (imgBytes cred 0x20 96) (sha384 51 (nonce + beBytes 3 s.node * 2 ^ 384)) sig

/-! Sensors (R705 to R707). -/

/-- The two limits of a sensor bound it: not those of the fans. -/
def limitedSens (n : Nat) : Bool := decide (n < 76) || n == 84
def isTemp (n : Nat) : Bool := decide (n < 24) || n == 84

/-- R706: how far inside a limit a flag clears: 2 °C, or 1 % of the limit. -/
def sensMargin (n limit : Nat) : Int × Nat :=
  if isTemp n then (2, 1) else
    let r := fratio f32 limit
    (((r.1.natAbs : Nat) : Int), r.2 * 100)

/-- R706: LOW, HIGH and FAULT of a sensor by a sample that is the third of its kind: the value (binary32); out of its
converter's range. -/
def State.sensFlags (s : State) (n value : Nat) (fault : Bool) : Nat × Nat × Nat :=
  let lo := s.rf (Reg.KPR_SENS.LIMIT_LO n)
  let hi := s.rf (Reg.KPR_SENS.LIMIT_HI n)
  let low := s.rf (Reg.KPR_SENS.LOW n)
  let high := s.rf (Reg.KPR_SENS.HIGH n)
  if fault || !ffinite f32 value || !limitedSens n then (low, high, b2n fault)
  else
    let v := fratio f32 value
    let l := fratio f32 lo
    let h := fratio f32 hi
    let low := if ratLt v l then 1 else if ratLe (ratAdd l (sensMargin n lo)) v then 0 else low
    let high := if ratLt h v then 1 else if ratLe v (ratSub h (sensMargin n hi)) then 0 else high
    (low, high, 0)

/-- EV784, at most once per second per sensor. -/
def State.sensEvent (n what value : Nat) (s : State) : State :=
  let last := tget 0 s.kpr.sensAt n
  if last != 0 && decide (s.tim.now + 1 < last + ofS 1) then s
  else (s.onKpr fun k => { k with sensAt := tset 0 k.sensAt n (s.tim.now + 1) }).raise Ev.KPR_SENS_LIMIT n [what, value]

/-! Fans (R709 to R711). -/

def State.fanState (s : State) (n : Nat) : Nat := s.rf (Reg.KPR_FAN.STATE n)

/-- R709: the curve drive. -/
def State.curveDrive (s : State) (n : Nat) : Nat :=
  let src := s.rf Reg.KPR_FAN_CURVE.CURVE_SRC
  let v := s.rf (Reg.KPR_SENS.VALUE src)
  if s.rb (Reg.KPR_SENS.FAULT src) || !ffinite f32 v then 100
  else
    let lo := s.rf Reg.KPR_FAN_CURVE.T_LO
    let hi := s.rf Reg.KPR_FAN_CURVE.T_HI
    let dmin := s.rf (Reg.KPR_FAN.DRIVE_MIN n)
    let t := fratio f32 v
    let den := t.2 * (hi - lo)
    let num := ((dmin * den : Nat) : Int) + (t.1 - ((lo * t.2 : Nat) : Int)) * ((100 - dmin : Nat) : Int)
    let x := (2 * num + ((den : Nat) : Int)) / ((2 * den : Nat) : Int)
    (clampI x ((dmin : Nat) : Int) ((s.rf (Reg.KPR_FAN.DRIVE_MAX n) : Nat) : Int)).toNat

/-- R711: an enabled fan is in FAN_STALL. -/
def State.anyStall (s : State) : Bool := (List.range 4).any fun m => s.rb (Reg.KPR_FAN.EN m) && s.fanState m == 5

/-- R709 to R711: the drive of a fan in its state. -/
def State.fanDrive (s : State) (n : Nat) : Nat :=
  match s.fanState n with
  | 1 => 100
  | 3 => if s.anyStall then 100 else if s.rb (Reg.KPR_FAN.EXPERT n) then s.rf (Reg.KPR_FAN.DRIVE_EXP n) else s.curveDrive n
  | 4 => if s.anyStall then 100 else tget 0 s.kpr.fanHeld n
  | _ => 0

/-- Some drives follow. -/
def State.fanDrives (ns : List Nat) (s : State) : State := ns.foldl (fun s n => s.wf (Reg.KPR_FAN.DRIVE n) (s.fanDrive n)) s

/-- A fan enters a state: its drive follows, and every drive where R711 begins or ends. -/
def State.fanTo (n st : Nat) (s : State) : State :=
  let was := s.anyStall
  let s := (s.wf (Reg.KPR_FAN.STATE n) st).onKpr fun k => { k with fanAt := tset 0 k.fanAt n (s.tim.now + 1) }
  s.fanDrives (if was == s.anyStall then [n] else List.range 4)

/-- R710: an attempt starts. -/
def State.fanStart (n attempt : Nat) (s : State) : State := (s.wf (Reg.KPR_FAN.ATTEMPT n) attempt).fanTo n 1

/-- R710: MAIN lost, or EN := 0. -/
def State.fanOff (n : Nat) (s : State) : State :=
  (((s.wf (Reg.KPR_FAN.CUR_WARN n) 0).wf (Reg.KPR_FAN.ATTEMPT n) 0).wf (Reg.KPR_FAN.RPM n) 0).fanTo n 0

/-- R710, R711: every enabled fan follows MAIN. -/
def State.fansFollow (s : State) : State :=
  let main := s.rb Reg.PWR_SUPPLY_STAT.MAIN_OK
  (List.range 4).foldl (fun s n =>
    let on := main && s.rb (Reg.KPR_FAN.EN n)
    if on && s.fanState n == 0 then s.fanStart n 0 else if !on && s.fanState n != 0 then s.fanOff n else s) s

/-- A fan's tachometer and current as read: FSTAT and the sensors FT and FI. -/
def State.fanRead (n rpm ma : Nat) (s : State) : State :=
  ((s.wf (Reg.KPR_FAN.RPM n) (min rpm 65535)).wf (Reg.KPR_SENS.VALUE (76 + n)) (fofInt f32 ((rpm : Nat) : Int))).wf
    (Reg.KPR_SENS.VALUE (80 + n)) (fofInt f32 ((ma : Nat) : Int))

/-- R710: the current is in band; the speed is below stall. -/
def State.fanInBand (s : State) (n ma : Nat) : Bool :=
  decide (s.rf (Reg.KPR_FAN.I_MIN_MA n) ≤ ma) && decide (ma ≤ s.rf (Reg.KPR_FAN.I_MAX_MA n))
def State.fanSlow (s : State) (n rpm : Nat) : Bool := decide (rpm < s.rf (Reg.KPR_FAN.STALL_RPM n))

/-- The instant at which a fan entered its state. -/
def State.fanSince (s : State) (n : Nat) : Nat := tget 0 s.kpr.fanAt n - 1

end Sys2Proof.Machine
end

