-- ==== Sys2Proof/Machine/LedgerCmd.lean ====
section
/-! DEFINITION. The Ledger's commands for histograms, the view, snapshots and the trip ledger (R332 to R335, R346 to R348, R359, R360, R561),
and the boundaries of the tiers (R338). -/

namespace Sys2Proof.Machine

/-- R334: why a set may not be written: the edges of an input buffer are finite and strictly ascending, and a VALID set has a tier. -/
def binsBad (b : Rec 64) : Option Nat :=
  let e (k : Nat) : Nat := binEdge b k
  match (List.range 15).find? fun k => !ffinite f32 (e (k + 1)) || (k != 0 && !flt f32 (e k) (e (k + 1))) with
  | some k => some (4 * (k + 1))
  | none => if fbit Bin.VALID b && fget Bin.TIER_MASK b == 0 then some 0 else none

/-- The checks of LDG_BINSET (R332, R334, R335). -/
def specLdgBinset (c : Cmd) : State → Spec :=
  let n := c.f 8 0 16
  let b : Rec 64 := BitVec.ofNat 512 (c.inp % 2 ^ 512) &&& ~~~ (BitVec.ofNat 512 0xFFFFFFE0)
  fun _ =>
    { op := 0x70, hbm := [(0x1E80000000 + 64 * n, 64)], fault := faultAt [(n == 0 || n == 0xFFFF, 8)], need := 64, bfault := binsBad b }

/-- The effect of LDG_BINSET (R332, R334, R335). -/
def bodyLdgBinset (c : Cmd) : State → Option Reply × State :=
  let n := c.f 8 0 16
  let b : Rec 64 := BitVec.ofNat 512 (c.inp % 2 ^ 512) &&& ~~~ (BitVec.ofNat 512 0xFFFFFFE0)
  okWith fun s =>
      let old := s.binSet n
      let s := (List.range 3).foldl (fun s tier =>
        s.onLdg fun l => { l with binOld := tset none l.binOld (n * 3 + tier) (s.untilNext tier old (tget none l.binOld (n * 3 + tier))) }) s
      s.onLdg fun l => { l with binSets := tset 0 l.binSets n b }

/-- LDG_BINSET (R332, R334, R335). -/
def execLdgBinset (t : Nat) (c : Cmd) (s : State) : Host.Outcome State Fault Refusal :=
  (s.command t (specLdgBinset c) c (bodyLdgBinset c)).done

/-- R331, R578: what the tally blocks and the live blocks of points copy from: the tallies, the point records, the
accumulators. -/
def hbmView (pins : List Nat) : List (Nat × Nat) := (0x1E80400000, 65536) :: (pins.map fun i => [hbmPt i, (0x1E00000000 + 384 * i, 384)]).flatten

/-- The checks of LDG_VIEW (R348). -/
def specLdgView (c : Cmd) : State → Spec :=
  let n := c.f 8 0 13
  let a := c.d 0x10
  let pins := (List.range (min n 4096)).map fun k => c.bw (4 * k)
  fun s =>
    { op := 0x71, ranges := if a == 0 then [] else [(a, 65536 + 128 * n)], hbm := if a == 0 then [] else hbmView pins
      fault := faultAt [(decide (4096 < n), 8), (a % 4096 != 0, 0x10)], need := 4 * n
      bfault := ((List.range pins.length).find? fun k => !idxOk (pins.getD k 0) || s.kind (pins.getD k 0) == kNone).map fun k => 4 * k }

/-- The effect of LDG_VIEW (R348). -/
def bodyLdgView (c : Cmd) : State → Option Reply × State :=
  let n := c.f 8 0 13
  let a := c.d 0x10
  let pins := (List.range (min n 4096)).map fun k => c.bw (4 * k)
  fun s =>
      let fn := s.fnOf c
      let other := match s.ldg.view with
        | some v => v.1 != fn && fn != 0
        | none => false
      if other then (some (Reply.of 6), s)
      else if a == 0 then (some Reply.ok, s.onLdg fun l => { l with view := none, viewDue := [] })
      else
        let s := s.onLdg fun l => { l with view := some (fn, a, pins), viewGen := [], viewAt := [], viewDue := [] }
        let s := (List.range 1024).foldl (fun s k =>
          s.viewPut k (64 * k) 64 56 (tallyBlock k (tget ⟨0, 0, 0, 0⟩ s.ldg.tally k))) s
        (some Reply.ok, pins.foldl (fun s i => s.livePut i) s)

/-- LDG_VIEW (R348): the region is given its blocks at once. -/
def execLdgView (t : Nat) (c : Cmd) (s : State) : Host.Outcome State Fault Refusal :=
  (s.command t (specLdgView c) c (bodyLdgView c)).done

/-- The checks of LDG_SNAPSHOT (R561). -/
def specLdgSnapshot (_c : Cmd) : State → Spec :=
  let pins (s : State) : List Nat := match s.ldg.view with
    | some v => v.2.2
    | none => []
  fun s => { op := 0x73, need := 65536 + 128 * (pins s).length, hbm := hbmView (pins s) }

/-- R346: block `k` of the view as it reads: its generation in both of its sequence fields, the second `back` bytes on. -/
def State.snapBlock (s : State) (k back v : Nat) : Nat := v + tget 0 s.ldg.viewGen k + tget 0 s.ldg.viewGen k * 2 ^ (8 * back)

/-- R561: the tally blocks of a snapshot. -/
def State.snapTallies (s : State) : Nat :=
  (List.range 1024).foldl (fun a k => a + s.snapBlock k 56 (tallyBlock k (tget ⟨0, 0, 0, 0⟩ s.ldg.tally k)) * 2 ^ (512 * k)) 0

/-- R561: the live blocks of a snapshot behind its tally blocks `v`. -/
def State.snapLive (pins : List Nat) (v : Nat) (s : State) : Nat × State :=
  pins.zipIdx.foldl (fun (p : Nat × State) e =>
    let (b, s1) := p.2.liveBlock e.1
    (p.1 + s.snapBlock (1024 + e.2) 120 b * 2 ^ (524288 + 1024 * e.2), s1)) (v, s)

/-- The effect of LDG_SNAPSHOT (R561). -/
def bodyLdgSnapshot (c : Cmd) : State → Option Reply × State :=
  let pins (s : State) : List Nat := match s.ldg.view with
    | some v => v.2.2
    | none => []
  fun s =>
    let l := pins s
    let (v, s) := s.snapLive l s.snapTallies
    (some ⟨0, 0, s.wt + (s.alm.seq % 2 ^ 32) * 2 ^ 64⟩, s.bufPut c (65536 + 128 * l.length) v)

/-- LDG_SNAPSHOT (R561): all blocks at one instant. -/
def execLdgSnapshot (t : Nat) (c : Cmd) (s : State) : Host.Outcome State Fault Refusal :=
  (s.command t (specLdgSnapshot c) c (bodyLdgSnapshot c)).done

/-- The checks of LDG_TRIP_ARM (R359, R360). -/
def specLdgTripArm (c : Cmd) : State → Spec :=
  let kind := c.f 8 0 2
  let mask := c.f 8 8 5
  let tag := c.d 0x10
  fun s =>
    { op := 0x74, obj := tag
      fault := faultAt [(mask == 0, 8), (kind == 0 && !s.tagOk tag, 0x10),
        (kind == 0 && (s.condOf (tagIdx tag) (c.f 0x18 0 4)).isNone, 0x18)] }

/-- The effect of LDG_TRIP_ARM (R359, R360). -/
def bodyLdgTripArm (c : Cmd) : State → Option Reply × State :=
  let kind := c.f 8 0 2
  let mask := c.f 8 8 5
  let tag := c.d 0x10
  fun s =>
      if s.rf Reg.LDG_TRIP_STAT.STATE == 2 then (some (Reply.of 6), s)
      else
        let s := s.onLdg fun l => { l with
          tripKind := kind, tripMask := mask, tripTag := tag, tripSlot := if kind == 1 then c.f 0x18 0 16 else c.f 0x18 0 4
          tripT := 0, tripRecs := [], tripPos := 0 }
        (some Reply.ok, (s.wf Reg.LDG_TRIP_STAT.STATE 1).wf Reg.LDG_TRIP_STAT.USED_MIB 0)

/-- LDG_TRIP_ARM (R359, R360). -/
def execLdgTripArm (t : Nat) (c : Cmd) (s : State) : Host.Outcome State Fault Refusal :=
  (s.command t (specLdgTripArm c) c (bodyLdgTripArm c)).done

/-- R338, R356: one tier's boundary: every accumulator of an interval that has ended closes, and every DISCRETE point with
histograms has its record; `keep`: those of the points that the Keeper evaluates. -/
def State.histBoundary (keep : Bool) (tier : Nat) (s : State) : State :=
  let w := tierStart tier s.evalNow
  let prev := w - tierSec tier * 2 ^ 32
  let mine (s : State) (i : Nat) : Bool := if keep then s.keeperHas i else s.evaluates i
  let disc := (s.pts.rec_.filter fun e =>
    fget Pt.KIND e.2 == kDiscrete && mine s e.1 && (s.binsOf e.1 tier prev).isSome &&
      (tget none s.ldg.acc (e.1 * 3 + tier)).isNone).map Prod.fst
  let s := disc.foldl (fun s i =>
    s.onLdg fun l => { l with acc := tset none l.acc (i * 3 + tier) (some (Acc1.open_ true prev (fget Pt.VALUE (s.pt i)))) }) s
  let open_ := (s.ldg.acc.filter fun e =>
    e.1 % 3 == tier && (e.2.any fun a => decide (a.tStart < w)) && s.keeperHas (e.1 / 3) == keep).map fun e => e.1 / 3
  let s := open_.foldl (fun s i => s.histTurn i tier w) s
  let s := s.onLdg fun l => { l with tierAt := tset 0 l.tierAt (if keep then tier + 3 else tier) (w + 1) }
  if keep then s
  else s.onLdg fun l => { l with
    setOld := l.setOld.filter fun e => !(e.1 % 3 == tier && e.2.any fun o => decide (o.2 ≤ prev))
    binOld := l.binOld.filter fun e => !(e.1 % 3 == tier && e.2.any fun o => decide (o.2 ≤ prev)) }

/-- R338: an update received before a boundary is still on its way to its point. -/
def State.updBefore (keep : Bool) (w : Nat) (s : State) : Bool :=
  if keep then s.pwr.upds.any fun u => decide (u.tRx < w) else s.pts.queues.any fun e => e.2.any fun u => decide (u.tRx < w)

/-- The boundaries of one side that have come since the last one served; updates received before a boundary enter first (R338). -/
def State.histBoundaries (keep : Bool) (s : State) : State :=
  (List.range 3).foldl (fun s tier =>
    let w := tierStart tier s.evalNow
    if tget 0 s.ldg.tierAt (if keep then tier + 3 else tier) == w + 1 || s.updBefore keep w then s else s.histBoundary keep tier) s

/-- HIST_BOUNDARY (R335, R338, R356, R357): the boundaries that have come since the last one served, of the main domain and, in
Lightship operation, of the Ledger's Lightship part. -/
def execHistBoundary (t : Nat) (s : State) : Host.Outcome State Fault Refusal :=
  let s1 := s.at_ t
  let main := s1.pwr.mainUp && !s1.pwr.failing
  let lship := s1.rb Reg.PWR_LSHIP_STAT.LSHIP_OP
  if !main && !lship then s.done
  else
    let s1 := if main then s1.histBoundaries false else s1
    (if lship then s1.keep (State.histBoundaries true) else s1).done

end Sys2Proof.Machine
end

