-- ==== Sys2Proof/Machine/RestOps.lean ====
section
/-! DEFINITION. Restoring (R122, R123, R178, R215, R265, R266, R688, R690, R770 to R777): points and conditions from their
checkpoint blocks or from the Lightship copies, tables, loops, the first sequence number, the sector stage's counts. -/

namespace Sys2Proof.Machine

/-- R122, R776: a retained time is usable at a restore now. -/
def State.usableT (s : State) (t : Nat) : Bool :=
  let h := s.rf Reg.PNT_RETAIN_VALID.RETAIN_H
  h != 0 && !s.rb Reg.BKP_STAT.OSC_STOP && decide (t ≤ s.clock) && decide (s.clock - t < h * 3600 * 2 ^ 32)

/-! What stays of the point table. -/

def tonly {α : Type} (p : Nat → Bool) (t : Tab α) : Tab α := t.filter fun e => p e.1

/-- R108: the coarse wheel's links made for the timers that stay. -/
def State.relink (s : State) : State :=
  (s.alm.due.filter fun e => s.isCoarse e.1).foldl (fun s e => s.wheelPut e.1 e.2.2) s

/-- Only the points `is_` keep their records, conditions and timers. -/
def State.onlyPts (is_ : List Nat) (s : State) : State :=
  let own (c : Nat) : Bool := tget 0 s.alm.owner c != 0 && is_.contains (tget 0 s.alm.owner c - 1)
  let cond := tonly own s.alm.cond
  let runs := (cond.filter fun e => fbit Cond.RUN e.2 && !fbit Cond.COARSE e.2).map fun e => fget Cond.TIMER_ID e.2
  let s := (s.onAlm fun a =>
    { Alm.reset with
      cond := cond, ext := tonly own a.ext, owner := tonly own a.owner, due := tonly own a.due, ids := runs, seq := a.seq
      actTick := tonly own a.actTick, actSeq := tonly own a.actSeq, noRate := tonly own a.noRate
      firstVal := tonly own a.firstVal, dead := tonly own a.dead, shelvedAt := tonly own a.shelvedAt }).relink
  s.onPts fun p => { Pts.reset with rec_ := tonly is_.contains p.rec_, ext := tonly is_.contains p.ext }

/-- ALM gauges and SYS_UNCONF_PTS as the tables give them. -/
def State.almGauges (s : State) : State :=
  let cs := s.alm.cond.map fun e => CS.of (fget Cond.CSTATE e.2)
  let coarse := (s.alm.cond.filter fun e => fbit Cond.RUN e.2 && fbit Cond.COARSE e.2).length
  let s := (s.wf Reg.ALM_UNCONF_NOW.COUNT (cs.filter (·.unconf)).length).wf Reg.ALM_QHOLD_NOW.COUNT (cs.filter (·.qhold)).length
  let s := (s.wf Reg.ALM_TIMER_USED.FINE_USED s.alm.ids.length).wf Reg.ALM_COARSE_USED.COARSE_USED coarse
  let s := s.wf Reg.ALM_TIMER_PEAK.PEAK (max (s.rf Reg.ALM_TIMER_PEAK.PEAK) s.alm.ids.length)
  let s := s.wf Reg.SYS_UNCONF_PTS.COUNT (s.pts.ext.filter fun e => e.2.unconf / 4 % 2 == 1).length
  (List.range 64).foldl (fun s t =>
    let f := Reg.ALM_COND_FREE.FREE t
    s.wf f ((facWord f.off).toNat % 2 ^ f.w - (s.alm.owner.filter fun e => condTile e.1 == t).length)) s

/-! Points (R122, R123, R772). -/

/-- A condition restored: its configuration; its retained entry, if any, and whether that is usable. -/
def State.restoreCond (i c : Nat) (cfg : Rec 64) (x : Rec 16) (kept : Option Nat) (usable : Bool) (s : State) : State :=
  let w := kept.getD 0
  let o := CS.of (w % 2 ^ 32)
  let ok := usable && kept.isSome
  let v := if ok then { o with suppr := false, noval := true }
    else { CS.of 0 with unconf := true, noval := true, oos := kept.isSome && o.oos }
  let s := s.setCond c (Cond.putState v.word cfg)
  let s := s.setCondX c (fput Ext.SHELVE_S (if ok then w / 2 ^ 32 else 0) x)
  s.onAlm fun a => { a with owner := tset 0 a.owner c (i + 1), firstVal := tset 0 a.firstVal c (if ok then 1 else 2) }

/-- R37: the configuration half of a point to be restored, checked: the half to use, whether it is lost, the state. -/
def State.checkCfg (i cfg : Nat) (s : State) : Nat × Bool × State :=
  if cfgIntact cfg then (cfg, false, s)
  else
    let kept := ((afind s.inUse.pts i).map BitVec.toNat).getD (fget Pt.CFG Pt.factory)
    let lost := !cfgIntact kept
    (if lost then cfg else kept, lost,
      (s.bump Reg.PNT_CFG_CRC_CNT.COUNT).raise Ev.PNT_CFG_CORRUPT (s.tagOf i) [b2n lost])

/-- A point restored: its configuration half; its retained runtime words, if usable; its conditions by `f`. `unconf`: R772. -/
def State.restorePoint (i home : Nat) (cfg : Nat) (run : Option (Rec 32)) (unconf : Bool) (f : Nat → State → State)
    (s : State) : State :=
  let (cfg, lost, s) := s.checkCfg i cfg
  let p := fput Pt.CFG cfg Pt.factory
  let p := match run with
    | some r => fput Pt.RUN r.toNat p
    | none => p
  let q := fget Pt.QUALITY p
  let s := (s.setPt i p).setPx i { PtX.zero with
    home := home, start := s.clock + 1, own := q &&& 2, srcQ := q &&& 0xC0, unconf := (if unconf then 4 else 0) + b2n lost }
  let s := (s.slotsOf i).foldl (fun s k => f k.2 s) s
  (s.mirrorBits i).requal i

/-- A point of an image. -/
def State.restoreImgPt (x : Slot) (unconf : Bool) (i cfg : Nat) (s : State) : State :=
  let b := x.block (i / 1024)
  let usable := b.any fun k => s.usableT k.t
  let run := b.bind fun k => if usable && (tkeys k.pts).contains i then some (tget 0 k.pts i) else none
  s.restorePoint i (tget 0 x.homes i) cfg run unconf fun c s =>
    s.restoreCond i c (tget 0 x.cond c) (tget 0 x.condX c) (b.bind fun k => afind k.conds c) usable

/-- R690: the local points that the Keeper holds and that keep its copy through the restore: their condition records are free, or
theirs, in the image. -/
def State.keptPts (s : State) (x : Slot) : List Nat :=
  if !s.rb Reg.PWR_LSHIP_STAT.LSHIP_OP || s.img.use == 0 then []
  else s.configured.filter fun i => localPt (s.pt i) &&
    (s.slotsOf i).all fun k => tget 0 x.owner k.2 == 0 || tget 0 x.owner k.2 == i + 1

def State.restorePts (x : Slot) (s : State) : State :=
  let kept := s.keptPts x
  let un := s.rb Reg.SYS_RESTORE.RETAIN_DISAGREE
  let s := s.onlyPts kept
  let s := x.pts.foldl (fun s e => if kept.contains e.1 then s else s.restoreImgPt x un e.1 e.2.toNat) s
  (s.almGauges.tileGates).aiFollow

/-- R688, R770: the Keeper's copies from the retained store, none with factory values; forcing and simulation start clear (R39). -/
def State.restoreCopies (s : State) : State :=
  let m := if s.img.use == 0 then Img.reset else s.img
  let usable := m.copyAt != 0 && s.usableT (m.copyAt - 1)
  let s := s.onlyPts []
  let s := m.copyPts.foldl (fun s e =>
    s.restorePoint e.1 0 (fget Pt.CFG e.2) (if usable then some (keepRun e.2) else none) false fun c s =>
      s.restoreCond e.1 c (keepCond (tget 0 m.copyCond c)) (tget 0 m.copyX c)
        (if m.copyAt == 0 then none
          else some (fget Cond.CSTATE (tget 0 m.copyCond c) + fget Ext.SHELVE_S (tget 0 m.copyX c) * 2 ^ 32)) usable) s
  s.almGauges.aiFollow

/-! Tables, waveform engine, loops, routes (R178, R215, R265). -/

def State.restoreSecs (x : Slot) (s : State) : State :=
  s.onSec fun _ =>
    { Sec.reset with
      sect := x.sect, link := x.link, cause := x.cause, edge := x.edge
      mir := tmap 0 (fun _ r => if fbit Mir.VALID r then fput Mir.LOST 1 r else r) x.mir }

/-- R215: a checkpointed set under the restored header; without a checkpoint its counts are zero. -/
def State.restoreCmw (x : Slot) (s : State) : State :=
  let ck := if s.img.use == 0 then [] else s.cmw.ckpt
  let sets := (tkeys ck ++ tkeys x.base).eraseDups
  let at_ (n : Nat) : Rec 4096 := fput ⟨0, 512⟩ (tget (keepBase Base.factory) x.base n).toNat (tget Base.factory ck n)
  s.onCmw fun c =>
    { Cmw.reset with
      chan := x.chan, band := x.band, spd := x.spd, bnd := x.bnd, defs := x.defs
      base := sets.foldl (fun t n => tset Base.factory t n (at_ n)) [], ckpt := c.ckpt, ckptAt := c.ckptAt }

/-- The retained output of a loop's OUTPUT point, if usable (R265, R266, R776). -/
def State.retainedOut (s : State) (x : Slot) (kept : List Nat) (h : Rec 256) : Option Int :=
  let i := fget Loop.OUT_IDX h
  let b := x.block (i / 1024)
  if fget Pt.KIND (s.pt i) == kNone then none
  else if kept.contains i || (b.any fun k => s.usableT k.t && (tkeys k.pts).contains i) then some (qOf h (fget Pt.VALUE (s.pt i)))
  else none

def State.restoreLoops (x : Slot) (kept : List Nat) (s : State) : State :=
  let blk := x.loops_.filter fun k => s.usableT k.t
  let modes := match blk with
    | some k => k.modes
    | none => x.modes
  let s := s.onCtl fun _ => { Ctl.reset with comp := x.comps, sup := x.sups }
  let s := x.loops.foldl (fun s e =>
    let r : Rec 512 := BitVec.ofNat 4096 (e.2.toNat + (tget (keepModes Loop.factory) modes e.1).toNat * 2 ^ 2048)
    s.loopRestore e.1 r (s.retainedOut x kept e.2)) s
  s.ctlGauges

/-! The first sequence number (R777). -/

/-- The records of a list and the highest SEQ among them. -/
def maxSeqOf (l : List LRec) : Nat := l.foldl (fun m r => max m r.seq) 0

/-- F: the greater of SEQ_MARK and one more than the highest LAST_SEQ or SEQ held. -/
def State.firstSeq (s : State) : Nat :=
  let ofSlot (k : Nat) : Nat := match s.slot k with
    | some x => x.blocks.foldl (fun m e => max m ((e.2.map (·.lastSeq)).getD 0)) 0
    | none => 0
  let pts (l : Tab (Rec 128)) : Nat := l.foldl (fun m e => max m (fget Pt.LAST_SEQ e.2)) 0
  let top := [ofSlot 0, ofSlot 1, pts s.pts.rec_, pts s.img.copyPts, maxSeqOf s.ldg.pfArea, maxSeqOf s.ldg.spool].foldl max 0
  max s.img.seqMark (top + 1)

/-! The sector stage (R178). -/

/-- Counts, flags, first-out arming and causes from the conditions as they stand. -/
def State.rebuildSectors (s : State) : State :=
  let s := (s.configured.filter fun i => !fbit Pt.SHADOW (s.pt i)).foldl (fun s i =>
    (s.slotsOf i).foldl (fun s k =>
      let v := s.cs k.2
      if v.shown == 0 && !v.active then s
      else s.reMember k.2 (some ⟨v.shown, s.prio k.2, v.active, sectorsOf (s.pt i)⟩) false) s) s
  let s := (tkeys s.sec.sect).foldl (fun s n =>
    let s := s.sectFlags n
    let r := s.sect n
    s.setSect n (fput Sect.FO_ARMED (if fbit Sect.FO_LATCHED r then 0 else fget Sect.WHOLLY_NORMAL r) r)) s
  let s := s.sec.cause.foldl (fun s e =>
    if fbit Cause.VALID e.2 && !fbit Cause.MIRROR e.2 && (s.cs (fget Cause.CAUSE e.2)).active then
      (s.causeState e.1 2).fanOut e.1 true s.alm.seq
    else s) s
  let off := s.alm.cond.filter fun e => (CS.of (fget Cond.CSTATE e.2)).suppr &&
    (fget Link.SUPP_CNT (s.link e.1) == 0 || !s.rb Reg.SEC_CTRL.SUPP_EN)
  (s.onSec fun x => { x with supIn := x.supIn ++ off.map fun e => (e.1, false, s.alm.seq) }).edgeGauges

/-! The whole restore (R771). -/

/-- R791: the restored fields of the Lightship domain, and the Lantern's labels (R763 section 10). -/
def State.restoreLship (s : State) : State :=
  (s.restoreRegs s.inUse.regs fun o => !mainReg o).onLtn fun l => { l with labels := s.inUse.labels }

/-- R770, R771, R776, R777: the chosen image, or factory values, put into the main domain; RT_UNUSABLE, SEQ_MARK and the gauges
follow. -/
def State.restoreAll (s : State) : State :=
  let x := s.inUse
  let s := s.restoreRegs x.regs fun o => mainReg o && decide (o < 0x180000)
  let kept := s.keptPts x
  let s := ((s.restorePts x).restoreSecs x).restoreCmw x
  let s := (s.restoreLoops x kept).onFab fun f => { f with active := x.routes, shadow := [] }
  let f := s.firstSeq
  let s := ((s.onAlm fun a => { a with seq := f }).wf Reg.ALM_SEQ_LO.SEQ_LO (f % 2 ^ 32)).setMark (f + 2 ^ 32)
  let none_ := x.blocks.all fun e => e.2.isNone
  (((s.wf Reg.SYS_RESTORE.RT_UNUSABLE (b2n (s.rb Reg.BKP_STAT.OSC_STOP || none_))).cmwGauges).edgeGauges).targetGauge

end Sys2Proof.Machine
end

