-- ==== Sys2Proof/Machine/PwrOps.lean ====
section
/-! DEFINITION. The power domains (R667 to R692): feeds, the failure of MAIN, Lightship operation, the stop and start of the
Lightship domain, the world policy (R581). -/

namespace Sys2Proof.Machine

/-- The marks in the backup registers (R655, R681): MAIN_CLEAN, and the Lantern's UNCLEAN. -/
def bkpMainClean : RFld := ⟨0xF10CC, 0, 1⟩
def bkpLtnUnclean : RFld := ⟨0xF10CC, 1, 1⟩

/-! Feeds (R667 to R673). -/

/-- R668: the feed that is usable. -/
def State.feedOf (s : State) : Nat :=
  if s.rb Reg.PWR_SUPPLY_STAT.EMER_OK then 0 else if s.rb Reg.PWR_SUPPLY_STAT.MAIN_OK then 1 else 2

/-- R672: the supercapacitor low warning clears at a feed, or at 10.0 V. -/
def State.scapClear (s : State) : State :=
  if s.rb Reg.PWR_SUPPLY_STAT.SCAP_LOW && (s.feedOf != 2 || decide (10000 ≤ s.rf Reg.PWR_SCAP_MV.MV)) then
    (s.wf Reg.PWR_SUPPLY_STAT.SCAP_LOW 0).panelResume
  else s

/-- The store as measured, in mV. -/
def State.scapRead (mv : Nat) (s : State) : State := s.wf Reg.PWR_SCAP_MV.MV mv

/-- R668, R670, R672, R687: LSHIP_SRC, the charger, the warning and the Lightship rules follow the supplies. -/
def State.feedSettle (s : State) : State :=
  let old := s.rf Reg.PWR_SUPPLY_STAT.LSHIP_SRC
  let new := s.feedOf
  let mv := s.rf Reg.PWR_SCAP_MV.MV
  if old == new then s.scapClear
  else
    let s := (s.wf Reg.PWR_SUPPLY_STAT.LSHIP_SRC new).raise Ev.PWR_FEED 0 [old, new, mv]
    let s := s.onPwr fun p => { p with charging := if new == 2 then false else if old == 2 then decide (mv < 16000) else p.charging }
    let s := s.scapClear
    if s.rb Reg.LIO_STAT.LOGIC_SRC then s.lrules else s

/-! Lightship operation (R301, R660, R684 to R688). -/

/-- The local points that the Keeper evaluates. -/
def State.keeperPts (s : State) : List Nat := s.configured.filter s.keeperHas

/-- R660: SSTATE of each sector that is the primary sector of a local point, by the rules of R149. -/
def State.keeperSectors (s : State) : Tab Nat :=
  let is_ := s.keeperPts
  let prim (i : Nat) : Nat := fget Pt.PRI_SECTOR (s.pt i)
  (is_.map prim).eraseDups.foldl (fun t n =>
    let r := (is_.filter fun i => prim i == n).foldl (fun r i => (s.slotsOf i).foldl (fun r k =>
      let v := s.cs k.2
      Sect.count true (contrib ⟨v.shown, s.prio k.2, v.active, [n]⟩ false) r) r) Sect.factory
    tset 0 t n (1 + fget Sect.SSTATE (Sect.flags false r))) []

/-- R660: the Lantern takes the Keeper's states. -/
def State.keeperShow (s : State) : State :=
  let k := s.keeperSectors
  if k == s.ltn.keeperSt then s else (s.onLtn fun l => { l with keeperSt := k }).composeAsk

/-- R301, R341, R356, R359, R687: the changes that the Keeper's evaluation has made go to the Ledger's Lightship part, the trip
ledger, the Beacon, the Lantern and the rules. -/
def State.keeperPass (s : State) : State :=
  let out := s.pwr.out
  if out.isEmpty then s
  else
    let s := s.onPwr fun p => { p with out := [] }
    let s := out.foldl (fun s c =>
      let was := tget 0 s.pwr.act c.cond == 1
      let s := s.onPwr fun p => { p with act := tset 0 p.act c.cond (b2n c.active) }
      let s := s.keep fun s => s.changeRec c false was
      let s := if c.active && !was && s.tripMatches c (sectorsOf (s.pt c.idx)) then s.tripTrigger c.t else s
      if c.annunciates then (watchList (tget 0 s.pwr.watches c.idx)).foldl (fun s w => s.bcnWatch w c.prio false) s else s) s
    (s.lrules).keeperShow

/-- R684, R685: Lightship operation begins; the Keeper's first number. -/
def State.lshipBegin (seq : Nat) (s : State) : State :=
  let s := s.wf Reg.PWR_LSHIP_STAT.LSHIP_OP 1
  let is_ := s.keeperPts
  let s := s.onPwr fun p =>
    { p with
      seq := seq, changes := 0, upds := [], out := [], scanAt := 0
      watches := is_.foldl (fun t i =>
        tset 0 t i (if p.mainUp then s.watchesOf (sectorsOf (s.pt i)) else tget 0 s.img.copyWatch i)) []
      act := is_.foldl (fun t i => (s.slotsOf i).foldl (fun t k => tset 0 t k.2 (b2n (s.cs k.2).active)) t) [] }
  let s := s.onLdg fun l => { l with
    tierAt := (List.range 3).foldl (fun t k => tset 0 t (k + 3) (tierStart k s.lwt + 1)) l.tierAt }
  (s.raise Ev.PWR_LSHIP_START 0 [s.rf Reg.PWR_LSHIP_STAT.LPOINTS, s.rf Reg.PWR_LSHIP_STAT.LRULES]).lightSettle

/-- R625: the side that refreshes the outputs changes. -/
def State.logicTo (side : Nat) (s : State) : State :=
  if s.rf Reg.LIO_STAT.LOGIC_SRC == side then s
  else (s.wf Reg.LIO_STAT.LOGIC_SRC side).lioEvent Ev.LIO_LOGIC_SRC 0 [side]

/-- R660: the Lantern's source is the Keeper. `cause` as in EV707. -/
def State.sourceToKeeper (cause : Nat) (s : State) : State :=
  ((s.wf Reg.LTN_STAT.SRC 1).fallbackTile cause).keeperShow

/-! The failure of MAIN (R679 to R683). -/

/-- R626, R628: outputs whose LSHIP_ACT is SAFE enter their safe state; a pulse pair whose LSHIP_ACT is KEEPER starts no new
pulse (R687). -/
def State.lshipOutputs (s : State) : State :=
  let s := (List.range 16).foldl (fun s n => if s.rf (Reg.LIO_AO.LSHIP_ACT n) == 1 then s.aoSafe n else s) s
  (List.range 32).foldl (fun s ch =>
    if s.rf (Reg.LIO_DIO.LSHIP_ACT ch) == 1 then s.dioSafe ch
    else if s.rf (Reg.LIO_DIO.LSHIP_ACT ch) == 2 && s.rf (Reg.LIO_DIO.MODE ch) == 2 && !(s.pulse (ch / 2)).on then s.pulseCut (ch / 2)
    else s) s

/-- R357, R680: the Ledger at P: NVMe writes abandoned, accumulators dropped, the buffer into the power-fail area. -/
def State.ledgerFail (s : State) : State :=
  let s := if s.ldg.tripKind == 2 then s.tripTrigger s.clock else s
  let s := (s.onHst fun h => { h with nv := [] }).onLdg fun l => { l with
    pfArea := l.writing.map Prod.snd ++ l.buf, pfValid := false, writing := [], buf := [], flushCmds := [], flushDue := false, acc := [] }
  s.bufGauge

/-- R680, R681 steps 1 to 3: instant P. -/
def State.powerFail (s : State) : State :=
  let now := s.tim.now
  let ready := s.rf Reg.SYS_READY.READY
  let s := s.commitStop
  let s := (tkeys s.ctl.rec_).foldl (fun s l => s.tuneEnd l 4) s
  let s := (s.cmw.caps.map fun c => c.def_).foldl (fun s d => s.capOver d 1 none) s
  let s := s.onPwr fun p => { p with failing := true, failAt := now, step := 1, was := ready }
  let s := s.wf Reg.PWR_SUPPLY_STAT.MAIN_STATE 3
  let s := s.wf Reg.SYS_READY.READY (ready % 256)
  let s := (List.range 4).foldl (fun s n => s.wf (Reg.SYS_PORT_READY.UP n) 0) s
  let s := s.ledgerFail
  let s := if s.rf Reg.FAB_OWN_STAT.HOME_STATE == 0 then s.startLeave 1 else s.replFlush.leaveFrame 1
  let s := (s.logicTo 1).lshipOutputs
  let s := if s.rb Reg.PWR_LSHIP_STAT.LSHIP_OP then s else s.lshipBegin (s.alm.seq + 2 ^ 24)
  let s := (s.sourceToKeeper 1).lrules
  s.stationsLost

/-- R785: the registers that the main domain holds and loses: not SYS_READY, the spool's and the trip ledger's fill (in the
retained store), the volumes' bindings. -/
def mainOwn (o : Nat) : Bool :=
  mainReg o && o != 0 && o != 0x70014 && o != 0x7001C && !(decide (0x81000 ≤ o) && decide (o < 0x85000))

/-- R681 step 9: the main domain stops; its event is of the Lightship part. What the Lightship domain, the retained store and the surroundings hold stays. -/
def State.mainStop (s : State) : State :=
  let lwt := s.lwt
  let s := (s.onTim fun m => { m with lwtBase := lwt, lwtAt := m.now }).wtBreak
  let s := (s.onPwr fun p => { p with mainUp := false, failing := false }).wf Reg.PWR_SUPPLY_STAT.MAIN_STATE 0
  let s := s.clearRegs mainOwn
  let locals := if s.rb Reg.PWR_LSHIP_STAT.LSHIP_OP then s.configured.filter fun i => localPt (s.pt i) else []
  let s := (s.onlyPts locals).onHif fun h => { Hif.reset with mem := h.mem, vecSent := h.vecSent }
  let s := s.onWld fun w => { Wld.reset with highest := w.highest, image := w.image, sClassed := w.sClassed, lkSecure := w.lkSecure }
  let s := s.onLdg fun l =>
    { Ldg.reset with
      pos := l.pos, lbuf := l.lbuf, spool := l.spool, pfArea := l.pfArea, pfValid := l.pfValid, spoolPos := l.spoolPos
      tripPos := l.tripPos, tripKind := l.tripKind, tripMask := l.tripMask, tripTag := l.tripTag, tripSlot := l.tripSlot
      tripT := l.tripT, tripRecs := l.tripRecs, binSets := l.binSets, acc := tonly (fun k => locals.contains (k / 3)) l.acc
      tierAt := tonly (fun k => decide (3 ≤ k)) l.tierAt, actTime := tonly (fun c => locals.contains (tget 0 s.alm.owner c - 1)) l.actTime
      passAt := l.passAt }
  let s := s.onHst fun h =>
    { Hst.reset with
      vols := tmap none (fun _ v => v.map fun x => { x with mounted := false, segOpen := false, closing := false, capUse := 0 }) h.vols
      bound := h.bound, nsBlocks := h.nsBlocks, failedAt := h.failedAt, ptrs := h.ptrs }
  let s := ((s.onFab fun _ => Fab.reset).onSec fun _ => Sec.reset).onCtl fun _ => Ctl.reset
  let s := s.onCmw fun c => { Cmw.reset with ckpt := c.ckpt, ckptAt := c.ckptAt }
  let s := s.onImg fun m => { m with run := none, dirtyAt := 0, ckptAt := [], loopAt := 0 }
  let s := (s.wf Reg.PWR_CLK_STAT.FREF_OK 0).wf Reg.PWR_CLK_STAT.CORE_LOCK 0
  let s := ((s.tileGates).oeGates).wf Reg.PWR_FFT_AWAKE.COUNT 0
  s.stationsLost

/-- R683: the main rails fall before step 8: the records of the power-fail area are lost. -/
def State.uncleanStop (step : Nat) (s : State) : State :=
  let n := s.ldg.pfArea.length + s.ldg.buf.length + s.ldg.writing.length
  let s := (s.onPwr fun p => { p with step := step, lost := n }).onLdg fun l => { l with pfArea := [], pfValid := false }
  s.mainStop.raise Ev.PWR_MAIN_STOP 0 [step]

/-- R357, R681 steps 4 to 9: the failure sequence runs to its end. Records that the buffer has taken since P follow the image,
up to 8 MiB. -/
def State.cleanStop (s : State) : State :=
  let more := s.ldg.buf.filter fun r => r.typ != typHist
  let area := more.foldl (fun l r => if recBytes l + 64 * r.len64 ≤ 0x800000 then l ++ [r] else l) s.ldg.pfArea
  let s := s.onLdg fun l => { l with pfArea := area, pfValid := true, buf := [] }
  let s := s.wf bkpMainClean 1
  let s := s.onPwr fun p => { p with step := 9 }
  s.mainStop.raise Ev.PWR_MAIN_STOP 0 [9]

/-! The Lightship domain (R655, R673, R688, R701, R781). -/

/-- The registers that a stop of the Lightship domain resets: not the backup domain's, nor the Keeper log's next number and
the store's reserve, which the retained store holds. -/
def lshipOwn (o : Nat) : Bool := !mainReg o && o >>> 16 != 15 && o != 0xE0018 && o != 0xE0030

/-- R673: the Lightship domain stops; every output stage is unpowered. -/
def State.lshipStop (s : State) : State :=
  let s := if s.pwr.mainUp then s.uncleanStop (max 1 s.pwr.step) else s
  let lwt := s.lwt
  let s := ((s.updClose.commitStop).panelLost).trimBreak
  let s := s.wf bkpLtnUnclean (s.rf Reg.LTN_STAT.UNCLEAN)
  let s := s.onImg fun m => { m with lwtSaved := lwt }
  let s := (s.onlyPts []).onPts fun _ => Pts.reset
  let s := ((s.onLio fun _ => Lio.reset).onBcn fun _ => Bcn.reset).onLdg fun l => { l with lbuf := [], acc := [], tierAt := [], actTime := [] }
  let s := s.onLtn fun l => { Ltn.reset with
    copy := l.copy, retTiles := l.retTiles, labels := l.labels, width := l.width, height := l.height, starts := l.starts }
  let s := s.onKpr fun k =>
    { Kpr.reset with
      log := k.log, starts := k.starts, bank0 := k.bank0, bank1 := k.bank1, boot := k.boot, svn := k.svn, trace := k.trace }
  let s := s.clearRegs lshipOwn
  (s.wf Reg.SYS_READY.READY 0).onPwr fun p => { Pwr.reset with step := p.step, lost := p.lost }

/-- R321, R656, R684, R688, R777, R781 steps 2 to 5: the firmware runs for the first time since the domain's power good. -/
def State.lshipStart (s : State) : State :=
  let s := if s.pwr.mainUp then s else s.restoreCopies
  let f := s.firstSeq
  let s := s.setMark (f + 2 ^ 32)
  let s := if s.rf (Reg.BKP_REG.WORD 0) == 0x4B524142 then s
    else (s.wf (Reg.BKP_REG.WORD 0) 0x4B524142).wf bkpMainClean 1
  let s := (((s.keeperUp).setReady 1).setReady 4).tileGates.ruleGauge
  let s := s.panelStart
  let s := ((s.logicTo 1).lshipBegin f).sourceToKeeper 1
  let s := s.statesShown.bcnRestart
  (s.setReady 3).fansFollow

/-! The world policy (R580, R581, R584). -/

/-- Bit `b` of a policy's bytes from `o` on, for each of `n` entries. -/
def polBits (p o n b : Nat) : Nat := (List.range n).foldl (fun m k => m + (imgBytes p (o + k) 1 / 2 ^ b % 2) * 2 ^ k) 0

/-- R581: the Keeper applies a policy; its outcome's record in the Keeper log has a code that the manual does not give. -/
def State.policyApply (s : State) : State :=
  let src := match s.wld.image with
    | none => 0
    | some (p, ok) =>
      if nget Pol.PMAGIC p != 0x57504C59 || !ok || (nget Pol.NODE p != 0 && nget Pol.NODE p != s.node) then 2
      else if nget Pol.VERSION p < s.wld.highest then 3 else 1
  let p := (s.wld.image.map Prod.fst).getD 0
  let s := s.clearRegs fun o => o >>> 16 == 0xA
  let s := if src != 1 then s.onWld fun w => { w with sClassed := true, lkSecure := true }
    else
      let sec := polBits p 0x10 48 0 ||| 1
      let fix := polBits p 0x10 48 1 ||| 1
      let hs := polBits p 0x40 64 0
      let hf := polBits p 0x40 64 1
      let s := (s.wf Reg.WLD_BLOCK_LO.SECURE sec).wf Reg.WLD_BLOCK_HI.SECURE (sec / 2 ^ 32)
      let s := (s.wf Reg.WLD_FIXED_LO.FIXED fix).wf Reg.WLD_FIXED_HI.FIXED (fix / 2 ^ 32)
      let s := (s.wf Reg.WLD_HBM_LO.SECURE hs).wf Reg.WLD_HBM_HI.SECURE (hs / 2 ^ 32)
      let s := (s.wf Reg.WLD_HBM_FIXED_LO.FIXED hf).wf Reg.WLD_HBM_FIXED_HI.FIXED (hf / 2 ^ 32)
      (s.wf Reg.WLD_POLICY_STAT.VERSION (nget Pol.VERSION p)).onWld fun w =>
        { w with sClassed := nget Pol.S_CLASSED p == 1, lkSecure := nget Pol.LK_SECURE p == 1, highest := nget Pol.VERSION p }
  let s := s.wf Reg.WLD_POLICY_STAT.SOURCE src
  let (c, s) := s.fresh
  let (v, s) := s.fresh
  s.onKpr fun k => { k with logPend := k.logPend ++ [(c % 1024, s.lwt, v % 2 ^ 224)] }

end Sys2Proof.Machine
end

