-- ==== Sys2Proof/Machine/Keeper.lean ====
section
/-! DEFINITION. The Keeper's rows: mailbox commands (R564, R714 to R718, R730), resets (R698 to R700), mask ROM (R719), management
Ethernet and debug (R722 to R726), sensors and fans (R706 to R711), log and store (R704, R713). -/

namespace Sys2Proof.Machine

/-! The mailbox (R564, R565, R718, R721). -/

/-- A mailbox command: SUBOP `sub` of block `blk`. -/
def mailSpec (sub blk : Nat) : Spec := { op := 0xA0, sub := some sub, blk := some blk }

/-- LEN or OFFSET; BANK. -/
def mailArg (c : Cmd) : Nat := c.w 0x10
def mailBank (c : Cmd) : Nat := c.f 8 8 1

/-- The checks of an update subop from the host. -/
def specUpd (sub : Nat) (c : Cmd) (s : State) : Spec :=
  let n := if sub == 1 then c.bufLen else 0
  let r := s.updRefuse 0 sub (mailBank c) (mailArg c) n
  { mailSpec sub 43 with
    notReady := r == some (1, 0), need := min n 65536
    fault := match r with
      | some (5, d) => some (Reply.range d)
      | _ => none }

/-- The effect of an update subop from the host. -/
def bodyUpd (sub : Nat) (c : Cmd) (s : State) : Option Reply × State :=
  let n := if sub == 1 then c.bufLen else 0
  match s.updRefuse 0 sub (mailBank c) (mailArg c) n with
  | some (st, d) => (some ⟨st, d, 0⟩, s)
  | none =>
    if s.rb Reg.KPR_DBG_STAT.HALTED then
      let o : NorOp := { src := 0, ring := c.ring, tag := c.tag, sub := sub, bank := mailBank c, arg := mailArg c, n := n, data := c.inp }
      (none, s.onKpr fun k => { k with nor := some o })
    else
      let (r, s) := s.updDo 0 sub (mailBank c) (mailArg c) n c.inp
      (some r, s)

/-- An update subop from the host. While the Keeper is halted, a program or erase that has begun stays in service (R565), and the
Keeper takes nothing else. -/
def State.updCommand (t sub : Nat) (c : Cmd) (s : State) : State :=
  if s.rb Reg.KPR_DBG_STAT.HALTED && (1 < sub || s.kpr.nor.isSome) then s else s.command t (specUpd sub c) c (bodyUpd sub c)

/-- UPDATE_BEGIN (R564, R718). -/
def execUpdateBegin (t : Nat) (c : Cmd) (s : State) : Host.Outcome State Fault Refusal := (s.updCommand t 0 c).done

/-- UPDATE_DATA (R564). -/
def execUpdateData (t : Nat) (c : Cmd) (s : State) : Host.Outcome State Fault Refusal := (s.updCommand t 1 c).done

/-- UPDATE_END (R564, R716, R717). -/
def execUpdateEnd (t : Nat) (c : Cmd) (s : State) : Host.Outcome State Fault Refusal := (s.updCommand t 2 c).done

/-- UPDATE_ACTIVATE (R564, R717, R718). -/
def execUpdateActivate (t : Nat) (c : Cmd) (s : State) : Host.Outcome State Fault Refusal := (s.updCommand t 3 c).done

/-- UPDATE_CANCEL (R564, R718). -/
def execUpdateCancel (t : Nat) (c : Cmd) (s : State) : Host.Outcome State Fault Refusal := (s.updCommand t 6 c).done

/-- The checks of LOG_READ (R564). -/
def specLogRead (c : Cmd) (s : State) : Spec := { mailSpec 4 42 with need := 64 * (s.logRead (c.w 0x10) c.bufLen).1.length }

/-- The effect of LOG_READ (R564, R714). -/
def bodyLogRead (c : Cmd) (s : State) : Option Reply × State :=
  let l := s.logRead (c.w 0x10) c.bufLen
  (some (Reply.with2 l.1.length l.2), s.bufPut c (64 * l.1.length) (krecBytes l.1))

/-- LOG_READ (R564, R714). -/
def execLogRead (t : Nat) (c : Cmd) (s : State) : Host.Outcome State Fault Refusal :=
  if s.rb Reg.KPR_DBG_STAT.HALTED then s.done else (s.command t (specLogRead c) c (bodyLogRead c)).done

/-- The checks of SENSOR_READ (R564). -/
def specSensorRead (_c : Cmd) (_s : State) : Spec := { mailSpec 5 42 with need := 1360 }

/-- The effect of SENSOR_READ (R564, R730). -/
def bodySensorRead (c : Cmd) (s : State) : Option Reply × State := (some (Reply.with2 1360 0), s.bufPut c 1360 s.sensBytes)

/-- SENSOR_READ (R564, R730). -/
def execSensorRead (t : Nat) (c : Cmd) (s : State) : Host.Outcome State Fault Refusal :=
  if s.rb Reg.KPR_DBG_STAT.HALTED then s.done else (s.command t (specSensorRead c) c (bodySensorRead c)).done

/-- UPDATE_IDLE_TIMEOUT (R718). -/
def execUpdateIdleTimeout (t : Nat) (s : State) : Host.Outcome State Fault Refusal :=
  let s1 := s.at_ t
  match s1.kpr.update with
  | some u => if s1.keeperRuns && decide (u.at_ + ofS 600 ≤ s1.tim.now) then s1.updClose.done else s.done
  | none => s.done

/-- A program or erase in service ends with a reply. -/
def State.norReply (o : NorOp) (r : Reply) (s : State) : State :=
  let s := s.onKpr fun k => { k with nor := none }
  if o.src == 0 then s.finishCmd o.ring o.tag 0xA0 r else s.mailReply o.ring r

/-- NOR_WINDOW_EXPIRE (R565, R721, R726): the unlock pair (`what` 1) or the command (2) in service misses its window. -/
def execNorWindowExpire (t what : Nat) (s : State) : Host.Outcome State Fault Refusal :=
  let s1 := s.at_ t
  match s1.kpr.nor with
  | none => s.done
  | some o =>
    let s1 := (s1.bump Reg.KPR_SEQ_ABORT_CNT.COUNT).raise Ev.KPR_SEQ_ABORT 0 [if what == 2 then 2 else 1]
    ((s1.updClose).norReply o (Reply.of 12)).done

/-! Resets and the mask ROM (R698 to R702, R719, R720). -/

/-- R699: the Keeper's firmware runs or starts. -/
def State.keeperLive (s : State) : Bool := s.pwr.lshipUp && s.kpr.chosen && s.rf Reg.KPR_STAT.STATE != 2

/-- R726: the session that debug rights rest on. -/
def State.debugSecure (s : State) : Bool := (s.session 2).any fun x => x.auth && x.secure

/-- KEEPER_RESET (R699, R724): a reset from the debug port. -/
def execKeeperReset (t : Nat) (s : State) : Host.Outcome State Fault Refusal :=
  let s1 := s.at_ t
  if !s1.pwr.lshipUp || !s1.debugSecure then s.done else (s1.keeperReset 5).done

/-- KEEPER_WATCHDOG (R700, R726): the firmware has not refreshed it for TIMEOUT_MS. -/
def execKeeperWatchdog (w : Lapse) (s : State) : Host.Outcome State Fault Refusal :=
  let s1 := s.at_ w.now
  let paused := s1.rb Reg.KPR_DBG_STAT.HALTED && s1.rb Reg.KPR_DBG_STAT.AUTH && s1.rb Reg.KPR_DBG_CTRL.DBG_WDOG_PAUSE
  if !s1.keeperLive || paused || decide (s1.tim.now < w.last + ofMs (s1.rf Reg.KPR_WDOG.TIMEOUT_MS)) then s.done
  else
    let s1 := ((s1.bump Reg.KPR_WDOG_CNT.COUNT).keeperReset 1).onKpr fun k => { k with owed := some (Ev.KPR_WDOG, s1.rf Reg.KPR_WDOG.TIMEOUT_MS) }
    s1.done

/-- LOCKSTEP_FAULT (R698): the cores differ at program counter `pc`. -/
def execLockstepFault (t pc : Nat) (s : State) : Host.Outcome State Fault Refusal :=
  let s1 := s.at_ t
  if !s1.keeperLive then s.done
  else
    (((s1.bump Reg.KPR_LOCKSTEP_CNT.COUNT).keeperReset 2).onKpr fun k => { k with owed := some (Ev.KPR_LOCKSTEP, pc) }).done

/-- ECC_ERROR (R699): uncorrectable in core SRAM. -/
def execEccError (t : Nat) (s : State) : Host.Outcome State Fault Refusal :=
  let s1 := s.at_ t
  if !s1.keeperLive then s.done else (s1.keeperReset 3).done

/-- MASK_ROM_BOOT (R713, R719): after a reset of the Keeper; `corrupt`: the banks that no longer verify. -/
def execMaskRomBoot (t corrupt : Nat) (s : State) : Host.Outcome State Fault Refusal :=
  let s1 := s.at_ t
  if !s1.pwr.lshipUp || s1.kpr.chosen then s.done else (s1.romBoot corrupt).done

/-- R685, R688, R699: Lightship copies that fail their check are loaded from the retained store; a point that is not there is
gone. -/
def State.reloadCopies (bad : List Nat) (s : State) : State :=
  let bad := s.keeperPts.filter bad.contains
  if bad.isEmpty then s
  else
    let m := if s.img.use == 0 then Img.reset else s.img
    let usable := m.copyAt != 0 && s.usableT (m.copyAt - 1)
    let s := s.onlyPts (s.configured.filter fun i => !bad.contains i)
    let s := (bad.filter fun i => (tkeys m.copyPts).contains i).foldl (fun s i =>
      let p := tget Pt.factory m.copyPts i
      s.restorePoint i 0 (fget Pt.CFG p) (if usable then some (keepRun p) else none) false fun c s =>
        s.restoreCond i c (keepCond (tget 0 m.copyCond c)) (tget 0 m.copyX c)
          (some (fget Cond.CSTATE (tget 0 m.copyCond c) + fget Ext.SHELVE_S (tget 0 m.copyX c) * 2 ^ 32)) usable) s
    s.tileGates.keeperShow

/-- KEEPER_READY (R688, R698 to R700, R778): the restarted firmware is ready; `bad`: the points whose Lightship copies fail their
check, while no main domain holds them too. After a start in RECOVERY the domain's functions start now. -/
def execKeeperReady (t : Nat) (bad : List Nat) (s : State) : Host.Outcome State Fault Refusal :=
  let s1 := s.at_ t
  if !s1.keeperLive || s1.ready 0 then s.done
  else if !s1.ready 1 then s1.lshipStart.done
  else (s1.keeperUp.reloadCopies (if s1.pwr.mainUp then [] else bad)).done

/-- TRIAL_END (R719). -/
def execTrialEnd (t : Nat) (s : State) : Host.Outcome State Fault Refusal :=
  let s1 := s.at_ t
  match s1.kpr.boot with
  | none => s.done
  | some b =>
    if !b.trial || !s1.keeperRuns || decide (s1.tim.now < s1.kpr.readyAt + ofS 600) then s.done
    else
      let k := s1.rf Reg.KPR_STAT.RUN_BANK
      let n := max s1.kpr.svn (s1.bank k).svn
      let s1 := (s1.setBoot { b with trial := false }).onKpr fun x => { x with svn := n }
      ((s1.wf Reg.KPR_STAT.SVN_CNT n).raise Ev.KPR_TRIAL_END k [n]).done

/-! Management Ethernet and the debug port (R722 to R726). -/

/-- The port takes a message of connection `conn`. -/
def State.portTakes (s : State) (p conn : Nat) : Bool :=
  s.portServes p && tget 0 s.kpr.refuse p == 0 && ((s.session p).all fun x => x.conn == conn)

/-- MGMT_HELLO (R722, R724): on port `p` (2: debug, whose reply shows KPR_FW_VER too), connection `conn`. The nonce is a free
value. -/
def execMgmtHello (t p conn : Nat) (s : State) : Host.Outcome State Fault Refusal :=
  let s1 := s.at_ t
  if !s1.portTakes p conn then s.done
  else
    let (v, s1) := s1.fresh
    let nonce := v % 2 ^ 384
    let x := (s1.session p).getD { conn := conn, nonce := 0, auth := false, secure := false, notAfter := 0, at_ := 0 }
    let s1 := s1.setSession p (some { x with nonce := nonce, at_ := s1.tim.now })
    (s1.portReply p 0 0 (if p == 2 then s1.rf Reg.KPR_FW_VER.VERSION else 0) 0 51 (beBytes 3 s1.node + nonce * 2 ^ 24)).done

/-- MGMT_AUTH (R722 to R724): a credential (224 bytes) and a signature (96 bytes). -/
def execMgmtAuth (t p conn cred sig : Nat) (s : State) : Host.Outcome State Fault Refusal :=
  let s1 := s.at_ t
  if !s1.portTakes p conn then s.done
  else
    let secure := nget Cred.WORLD cred == 1
    match s1.session p with
    | none => (s1.authFail p secure).done
    | some x =>
      if !s1.credOk p x.nonce cred sig then (s1.authFail p secure).done
      else
        let x := { x with auth := true, secure := secure, notAfter := nget Cred.NOT_AFTER cred, at_ := s1.tim.now }
        (((s1.setSession p (some x)).sessionEvent p 0 secure).portReply p 1 0 0 0 0 0).done

/-- A mailbox subop over Ethernet: `n` bytes of data. -/
def State.mgmtMail (p sub bank arg n data : Nat) (s : State) : State :=
  if sub == 4 then
    let (l, oldest) := s.logRead arg 65536
    s.portReply p 2 0 l.length oldest (64 * l.length) (krecBytes l)
  else if sub == 5 then s.portReply p 2 0 1360 0 1360 s.sensBytes
  else match s.updRefuse 1 sub bank arg n with
    | some (st, _) => s.mailReply p (Reply.of st)
    | none =>
      let (r, s) := s.updDo 1 sub bank arg n data
      s.mailReply p r

/-- MGMT_MAILBOX (R564, R569, R720, R722). -/
def execMgmtMailbox (t p conn sub bank arg n data : Nat) (s : State) : Host.Outcome State Fault Refusal :=
  let s1 := s.at_ t
  if 1 < p || 1 < bank || !s1.portTakes p conn then s.done
  else
    match s1.session p with
    | none => (s1.mailReply p (Reply.of 3)).done
    | some x =>
      let s1 := s1.setSession p (some { x with at_ := s1.tim.now })
      let blk := if sub == 4 || sub == 5 then 42 else 43
      if !x.auth || (!x.secure && s1.blockSecure blk) then (s1.mailReply p (Reply.of 3)).done
      else if s1.rf Reg.KPR_STAT.STATE == 2 && (sub == 4 || sub == 5) then (s1.mailReply p (Reply.of 1)).done
      else if 6 < sub then (s1.mailReply p (Reply.range 8)).done
      else (s1.mgmtMail p sub bank arg n data).done

/-- MGMT_CLOSE (R722, R724). -/
def execMgmtClose (t p conn : Nat) (s : State) : Host.Outcome State Fault Refusal :=
  let s1 := s.at_ t
  if (s1.session p).any fun x => x.conn == conn then ((s1.sessionClose p).portReply p 3 0 0 0 0 0).done else s.done

/-- MGMT_SESSION_IDLE (R722). -/
def execMgmtSessionIdle (t p : Nat) (s : State) : Host.Outcome State Fault Refusal :=
  let s1 := s.at_ t
  match s1.session p with
  | some x => if p < 2 && decide (x.at_ + ofS 60 ≤ s1.tim.now) then (s1.sessionClose p).done else s.done
  | none => s.done

/-- MGMT_LOCKOUT_END (R722). -/
def execMgmtLockoutEnd (t p : Nat) (s : State) : Host.Outcome State Fault Refusal :=
  let s1 := s.at_ t
  let u := tget 0 s1.kpr.refuse p
  if u == 0 || decide (s1.tim.now < u - 1) then s.done
  else (s1.onKpr fun k => { k with refuse := tset 0 k.refuse p 0 }).done

/-- MGMT_ARP_ICMP_ECHO (R722): a request to port `p`, `kind` 0 ARP, 1 ICMPv4 echo of `n` bytes; the answer carries the port's
address or the data back. -/
def execMgmtArpIcmpEcho (t p kind n data : Nat) (s : State) : Host.Outcome State Fault Refusal :=
  let s1 := s.at_ t
  if 1 < p || 1 < kind || !s1.portServes p then s.done
  else if kind == 0 then (s1.portReply p 0x100 0 (s1.rf (Reg.KPR_MGMT_IPV4.IPV4 p)) 0 0 0).done
  else (s1.portReply p 0x101 0 0 0 n (data % 2 ^ (8 * n))).done

/-- DEBUG_HALT (R726). -/
def execDebugHalt (t : Nat) (s : State) : Host.Outcome State Fault Refusal :=
  let s1 := s.at_ t
  if !s1.debugSecure || !s1.keeperLive || s1.rb Reg.KPR_DBG_STAT.HALTED then s.done
  else ((s1.wf Reg.KPR_DBG_STAT.HALTED 1).raise Ev.KPR_DBG_HALT 0 [0]).done

/-- DEBUG_RUN (R565, R726): run, or a step of one instruction, after which the halt stands. A program or erase in service goes
on. -/
def execDebugRun (t : Nat) (step : Bool) (s : State) : Host.Outcome State Fault Refusal :=
  let s1 := s.at_ t
  if !s1.debugSecure || !s1.rb Reg.KPR_DBG_STAT.HALTED then s.done
  else if step then s1.done
  else
    let s1 := (s1.wf Reg.KPR_DBG_STAT.HALTED 0).raise Ev.KPR_DBG_HALT 0 [1]
    match s1.kpr.nor with
    | none => s1.done
    | some o =>
      let (r, s1) := s1.updDo o.src o.sub o.bank o.arg o.n o.data
      (s1.norReply o r).done

/-- DEBUG_SESSION_EXPIRE (R724): NOT_AFTER has passed. -/
def execDebugSessionExpire (t : Nat) (s : State) : Host.Outcome State Fault Refusal :=
  let s1 := s.at_ t
  match s1.session 2 with
  | some x => if x.auth && decide (x.notAfter < s1.lwt) then (s1.sessionClose 2).done else s.done
  | none => s.done

/-! Sensors and fans (R705 to R711). -/

/-- R608, R705: CIN's temperature by its resistance in Ω (both binary32), and whether it is beyond its range. -/
def cinTemp (ohm free : Nat) : Nat × Bool :=
  let (v, lim) := rtdTemp (ratDiv (fratio f32 ohm) (1000, 1)) free
  (v, lim || ratLt (fratio f32 v) (-40, 1) || ratLt (125, 1) (fratio f32 v))

/-- R705: what a sensor reads: CIN is a resistance, every other sensor a value in its unit; and whether it is out of range. -/
def State.sensRead (n raw : Nat) (s : State) : (Nat × Bool) × State :=
  if n != 84 then ((raw, false), s)
  else
    let (free, s) := s.fresh
    (cinTemp raw free, s)

/-- SENSOR_LIMIT (R705 to R707, R726): a sample of sensor `n`, the third of its kind: `raw` is its value, CIN's resistance; `fault`:
it reads outside its converter's range. -/
def execSensorLimit (t n raw : Nat) (fault : Bool) (s : State) : Host.Outcome State Fault Refusal :=
  let s1 := s.at_ t
  if !s1.pwr.lshipUp || 84 < n then s.done
  else
    let ((value, out), s1) := s1.sensRead n raw
    let fault := fault || out
    let s1 := s1.wf (Reg.KPR_SENS.VALUE n) value
    if !s1.keeperRuns then s1.done
    else
      let (low, high, flt_) := s1.sensFlags n value fault
      let was := [(0, Reg.KPR_SENS.LOW n, low), (1, Reg.KPR_SENS.HIGH n, high), (2, Reg.KPR_SENS.FAULT n, flt_)]
      (was.foldl (fun s e =>
        let old := s.rf e.2.1
        let s := s.wf e.2.1 e.2.2
        if old == e.2.2 then s else s.sensEvent n (if e.2.2 == 1 then e.1 else 3) value) s1).done

/-- FAN_START_JUDGE (R710): fan `n` in STARTING turns at `rpm`, drawing `ma`. -/
def execFanStartJudge (t n rpm ma : Nat) (s : State) : Host.Outcome State Fault Refusal :=
  let s1 := s.at_ t
  let t0 := s1.fanSince n
  let now := s1.tim.now
  if 3 < n || s1.fanState n != 1 || !s1.keeperRuns || decide (now < t0 + ofS 2) then s.done
  else if !s1.fanSlow n rpm then ((s1.fanRead n rpm ma).fanTo n 3).done
  else if now < t0 + ofS 3 then s.done
  else
    let s1 := s1.fanRead n rpm ma
    let a := s1.rf (Reg.KPR_FAN.ATTEMPT n)
    (if a < 3 then s1.fanTo n 2 else (s1.fanTo n 5).raise Ev.KPR_FAN_STALL n [a, ma]).done

/-- FAN_RETRY_WAIT_END (R710). -/
def execFanRetryWaitEnd (t n : Nat) (s : State) : Host.Outcome State Fault Refusal :=
  let s1 := s.at_ t
  if 3 < n || s1.fanState n != 2 || !s1.keeperRuns || decide (s1.tim.now < s1.fanSince n + ofS 10) then s.done
  else (s1.fanStart n (s1.rf (Reg.KPR_FAN.ATTEMPT n) + 1)).done

/-- FAN_STALL_DETECT (R710): for 1 s the fan has turned at `rpm` and drawn `ma`. -/
def execFanStallDetect (t n rpm ma : Nat) (s : State) : Host.Outcome State Fault Refusal :=
  let s1 := s.at_ t
  let st := s1.fanState n
  if 3 < n || !(st == 3 || st == 4) || !s1.keeperRuns || decide (s1.tim.now < s1.fanSince n + ofS 1) then s.done
  else
    let s1 := s1.fanRead n rpm ma
    let slow := s1.fanSlow n rpm
    let band := s1.fanInBand n ma
    let stall (s : State) : State := (s.fanTo n 5).raise Ev.KPR_FAN_STALL n [s.rf (Reg.KPR_FAN.ATTEMPT n), ma]
    if st == 4 then (if band then s1 else stall s1).done
    else if slow && !band then (stall s1).done
    else if slow then
      let d := min 100 (s1.rf (Reg.KPR_FAN.DRIVE n) + 20)
      (((s1.onKpr fun k => { k with fanHeld := tset 0 k.fanHeld n d }).fanTo n 4).raise Ev.KPR_TACH_LOST n [d]).done
    else if !band && !s1.rb (Reg.KPR_FAN.CUR_WARN n) then
      ((s1.wf (Reg.KPR_FAN.CUR_WARN n) 1).raise Ev.KPR_FAN_CURRENT n [ma]).done
    else (if band then s1.wf (Reg.KPR_FAN.CUR_WARN n) 0 else s1).done

/-- FAN_TACH_RECOVER (R710): for 10 s the fan has turned at `rpm`, at or above STALL_RPM. -/
def execFanTachRecover (t n rpm ma : Nat) (s : State) : Host.Outcome State Fault Refusal :=
  let s1 := s.at_ t
  if 3 < n || s1.fanState n != 4 || s1.fanSlow n rpm || !s1.keeperRuns || decide (s1.tim.now < s1.fanSince n + ofS 10) then s.done
  else (((s1.fanRead n rpm ma).fanTo n 3).raise Ev.KPR_FAN_OK n [rpm]).done

/-- FAN_CURVE_UPDATE (R709, R726). -/
def execFanCurveUpdate (t : Nat) (s : State) : Host.Outcome State Fault Refusal :=
  let s1 := s.at_ t
  if !s1.keeperRuns then s.done else (s1.fanDrives ((List.range 4).filter fun n => s1.fanState n == 3)).done

/-! The log and the store (R703, R704, R712, R713). -/

/-- KEEPER_LOG_WRITE (R712, R713, R720, R726): the next record. -/
def execKeeperLogWrite (t : Nat) (s : State) : Host.Outcome State Fault Refusal :=
  let s1 := s.at_ t
  match s1.kpr.logPend with
  | (code, at_, p) :: l =>
    if !(s1.keeperRuns || s1.rf Reg.KPR_STAT.STATE == 2) then s.done
    else ((s1.onKpr fun k => { k with logPend := l }).logWrite code at_ p).done
  | [] => s.done

/-- R703, R704: what a region loses with a block: `items` names the entries that lay in it. -/
def State.regionLose (region : Nat) (items : List Nat) (s : State) : State :=
  let has (n : Nat) : Bool := items.contains n
  match region with
  | 0 => -- system area: 0 boot record (both copies), 1 world policy, 2 its highest version
    let s := if has 0 then s.onKpr fun k => { k with boot := none } else s
    s.onWld fun w => { w with image := if has 1 then none else w.image, highest := if has 2 then 0 else w.highest }
  | 1 => -- commit records, by CSEQ; 2^32: the mark slots
    let s := s.onImg fun m => { m with recs := m.recs.filter fun r => !has r.cseq }
    if has (2 ^ 32) then s.onImg fun m => { m with seqMark := 0 } else s
  | 2 => -- Lightship copies, by point
    s.onImg fun m => { m with copyPts := tonly (fun i => !has i) m.copyPts }
  | 3 => -- Lantern frame copy (0); controller bindings and WRITE_PTR values (1)
    let s := if has 0 then s.onLtn fun l => { l with copy := none } else s
    if has 1 then s.onHst fun h => { h with bound := [], ptrs := [] } else s
  | 4 => s.onLdg fun l => { l with pfArea := [], pfValid := false }
  | 5 => s.onKpr fun k => { k with log := k.log.filter fun r => !has r.recno }
  | 6 => s.onLdg fun l => { l with tripRecs := (l.tripRecs.zipIdx.filter fun e => !has e.2).map Prod.fst }
  | 7 => s.onLdg fun l => { l with spool := (l.spool.zipIdx.filter fun e => !has e.2).map Prod.fst }
  | 8 => s.onCmw fun c => { c with ckpt := tonly (fun n => !has n) c.ckpt }
  | 9 | 10 => -- an image: 0 a section or the header; 1 + 2 b + c a checkpoint copy; 2^20 + c a loop block copy
    match s.slot (region - 9) with
    | none => s
    | some x =>
      s.setSlot (region - 9) (some { x with
        bad := x.bad || has 0, blocks := tonly (fun k => !has (k + 1)) x.blocks, loopBlk := tonly (fun k => !has (2 ^ 20 + k)) x.loopBlk })
  | _ => s

/-- R703: the region of a store offset, numbered as `regionLose` has them; 11: the reserve; none: unassigned. -/
def storeRegion (off : Nat) : Option Nat :=
  if off < 0x1000000 then some 0
  else if off < 0x2000000 then some 1
  else if off < 0x3000000 then some 2
  else if off < 0x4000000 then some 3
  else if off < 0x4800000 then some 4
  else if off < 0x10000000 then none
  else if off < 0x20000000 then some 5
  else if off < 0x30000000 then some 6
  else if off < 0x40000000 then none
  else if off < 0x60000000 then some 7
  else if off < 0x100000000 then none
  else if off < 0x200000000 then some 8
  else if off < 0x500000000 then some 9
  else if off < 0x800000000 then some 10
  else if off < 0x1000000000 then some 11
  else none

/-- STORE_BLOCK_RETIRE (R703, R704): the block at `off` is retired; the region's entries `items` lay in it; the reserve that remains
is `pct` %. EV812's region number is that of R703's table order. -/
def execStoreBlockRetire (t off : Nat) (items : List Nat) (pct : Nat) (s : State) : Host.Outcome State Fault Refusal :=
  let s1 := s.at_ t
  match storeRegion off with
  | none => s.done
  | some r =>
    if !s1.pwr.lshipUp then s.done
    else
      let none_ := s1.rf Reg.KPR_STORE_SPARE.PCT == 0
      let s1 := (s1.bump Reg.KPR_STORE_ERR_CNT.COUNT).wf Reg.KPR_STORE_SPARE.PCT (min pct (s1.rf Reg.KPR_STORE_SPARE.PCT))
      ((s1.regionLose r items).raise Ev.KPR_STORE_ERR off [r, b2n none_]).done

/-! The sounder rail (R831). -/

/-- SOUNDER_FOLDBACK: SND+ folds back to 0.25 A. -/
def execSounderFoldback (t : Nat) (s : State) : Host.Outcome State Fault Refusal :=
  let s1 := s.at_ t
  if !s1.pwr.lshipUp || s1.kpr.foldAt != 0 then s.done
  else (s1.onKpr fun k => { k with foldAt := s1.tim.now + 1 }).done

/-- SOUNDER_FOLDBACK_END: 5 s have passed. -/
def execSounderFoldbackEnd (t : Nat) (s : State) : Host.Outcome State Fault Refusal :=
  let s1 := s.at_ t
  if s1.kpr.foldAt == 0 || decide (s1.tim.now < s1.kpr.foldAt - 1 + ofS 5) then s.done
  else (s1.onKpr fun k => { k with foldAt := 0 }).done

end Sys2Proof.Machine
end

