-- ==== Sys2Proof/Machine/Lantern.lean ====
section
/-! DEFINITION. The Lantern's rows: its commands (R562, R646, R651, R652), composition (R650), the refresh and its check
(R641 to R645), the panel's power sequences (R655 to R657), bias and temperature (R658, R659), the retained frame (R654). -/

namespace Sys2Proof.Machine

/-- The checks of LTN_TILE (R562, R646). -/
def specLtnTile (c : Cmd) : State → Spec :=
  fun s =>
    let valid := c.f 8 8 1 == 1
    let x := c.f 0x10 0 11
    let y := c.f 0x10 16 10
    let w := c.f 0x14 0 11
    let h := c.f 0x14 16 10
    { op := 0x80, fault := faultAt [
        (decide (s.ltnWidth ≤ x) || decide (s.ltnHeight ≤ y), 0x10),
        (decide (s.ltnWidth < x + w) || decide (s.ltnHeight < y + h) || (valid && (w == 0 || h == 0)), 0x14)] }

/-- The effect of LTN_TILE (R562, R646). -/
def bodyLtnTile (c : Cmd) : State → Option Reply × State :=
  (okWith fun s =>
      let n := c.f 8 0 8
      let s := (s.wf (Reg.LTN_TILE.SECTOR n) (c.f 0xC 0 16)).wf (Reg.LTN_TILE.VALID n) (c.f 8 8 1)
      let s := (s.wf (Reg.LTN_TILE.X n) (c.f 0x10 0 11)).wf (Reg.LTN_TILE.Y n) (c.f 0x10 16 10)
      let s := (s.wf (Reg.LTN_TILE.W n) (c.f 0x14 0 11)).wf (Reg.LTN_TILE.H n) (c.f 0x14 16 10)
      (s.onLtn fun l => { l with labels := tset 0 l.labels n (c.f 0x18 0 192) }).dirtyHost)

/-- LTN_TILE (R562, R646): the table changes; the tile is drawn with the next frame. -/
def execLtnTile (t : Nat) (c : Cmd) (s : State) : Host.Outcome State Fault Refusal :=
  (s.command t (specLtnTile c) c (bodyLtnTile c)).done

/-- The checks of LTN_FRAME_WRITE (R562, R651, R652). -/
def specLtnFrameWrite (c : Cmd) : State → Spec :=
  fun s =>
    let first := c.f 8 16 10
    let n := c.f 0xC 0 10
    { op := 0x81, need := n * (s.ltnWidth * 3 / 8)
      fault := faultAt [(decide (s.ltnHeight ≤ first), 8), (decide (s.ltnHeight < first + n), 0xC)] }

/-- The effect of LTN_FRAME_WRITE (R562, R651, R652). -/
def bodyLtnFrameWrite (c : Cmd) : State → Option Reply × State :=
  fun s =>
      let fb := c.f 8 0 1
      if s.rb Reg.LTN_STAT.MODE || s.rf Reg.LTN_STAT.FB_SHOWN == fb then (some (Reply.of 6), s)
      else
        let bits := 3 * s.ltnWidth
        let b := (List.range (c.f 0xC 0 10)).foldl (fun b k => tset 0 b (c.f 8 16 10 + k) ((c.inp >>> (bits * k)) % 2 ^ bits)) (s.fb fb)
        (some Reply.ok, s.setFb fb b)

/-- LTN_FRAME_WRITE (R562, R651, R652). -/
def execLtnFrameWrite (t : Nat) (c : Cmd) (s : State) : Host.Outcome State Fault Refusal :=
  (s.command t (specLtnFrameWrite c) c (bodyLtnFrameWrite c)).done

/-- The checks of LTN_SHOW (R562, R643, R651, R652, R654). -/
def specLtnShow (c : Cmd) : State → Spec :=
  fun s =>
    let mode := c.f 8 8 2
    { op := 0x82, fault := faultAt [(decide (1 < mode), 8), (mode == 0 && c.w 0x10 != s.fbCrc (c.f 8 0 1), 0x10)] }

/-- The effect of LTN_SHOW (R562, R643, R651, R652, R654). -/
def bodyLtnShow (c : Cmd) : State → Option Reply × State :=
  (okWith fun s =>
      let was := s.rf Reg.LTN_STAT.MODE
      let mode := c.f 8 8 2
      let s := s.wf Reg.LTN_STAT.MODE mode
      let s := if was == mode then s else (s.modeEvent 0).dirtyHost
      if mode == 1 then s.composeAsk
      else
        let fb := c.f 8 0 1
        let s := (s.setCrc fb (c.w 0x10)).onLtn fun l => { l with
          drawing := none, again := false, swap := false, marks := [], copyDue := s.tim.now + 1 }
        if s.rf Reg.LTN_STAT.FB_SHOWN == fb then s else s.swapAsk [])

/-- LTN_SHOW (R562, R643, R651, R652, R654). -/
def execLtnShow (t : Nat) (c : Cmd) (s : State) : Host.Outcome State Fault Refusal :=
  (s.command t (specLtnShow c) c (bodyLtnShow c)).done

/-- TILE_COMPOSE_DONE (R650, R654). -/
def execTileComposeDone (t : Nat) (s : State) : Host.Outcome State Fault Refusal :=
  let s1 := s.at_ t
  match s1.ltn.drawing with
  | none => s.done
  | some ds =>
    let s1 := (s1.drawInto (1 - s1.rf Reg.LTN_STAT.FB_SHOWN) ds).swapAsk ds
    let s1 := s1.onLtn fun l => { l with
      drawing := none
      retTiles := ds.foldl (fun m d => tset 0 m d.tile (d.cond + 8 * b2n d.lit + 16 * (if d.lit then d.fill else d.frame) + 1)) l.retTiles }
    (if s1.ltn.again then s1.composeStart s1.sstate else s1).done

/-- LIGHT_PHASE_EDGE (R648, R650): a character in use has reached a phase edge since the last one served. -/
def execLightPhaseEdge (t : Nat) (s : State) : Host.Outcome State Fault Refusal :=
  let s1 := s.at_ t
  let now := msOf s1.clock
  let chs := (s1.tiles.map fun n => s1.rf (Reg.LTN_STYLE.CHAR (s1.drawOf s1.sstate n).cond)).eraseDups
  let span := min 2000 (now - s1.ltn.phaseAt)
  let edge := (List.range span).any fun k => chs.any fun ch => charLit ch (now - k) != charLit ch (now - k - 1)
  if !edge || !s1.composes || !s1.rb Reg.LTN_STAT.MODE then s.done
  else ((s1.onLtn fun l => { l with phaseAt := now }).composeAsk).done

/-- R645: the row taken for a mismatch: 0 composed again, 1 retained copy, 2 tile mode, 3 white. -/
def State.crcRow (s : State) : Nat :=
  let fall := s.rb Reg.LTN_PANEL_CTRL.FALLBACK_TILE && !s.tiles.isEmpty
  if s.ltn.recRow != 0 && decide (s.ltn.recSweeps ≤ 3) then
    (match s.ltn.recRow - 1 with
    | 1 => if fall then 2 else 3
    | _ => 3)
  else if s.rb Reg.LTN_STAT.MODE then 0
  else if s.ltn.copy.isSome then 1
  else if fall then 2 else 3

/-- PANEL_SWEEP_CHECK (R642, R644, R645): the check at the start of a sweep. `flips`: bits of the shown buffer that a fault
has changed, by line. -/
def execPanelSweepCheck (t : Nat) (flips : List (Nat × Nat)) (s : State) : Host.Outcome State Fault Refusal :=
  let s1 := s.at_ t
  if s1.rf Reg.LTN_STAT.PSTATE != 2 || s1.ltn.line != 0 || s1.ltn.checked then s.done
  else
    let n := s1.rf Reg.LTN_STAT.FB_SHOWN
    let fb := (flips.filter fun f => decide (f.1 < s1.ltnHeight)).foldl (fun b f =>
      tmod 0 b f.1 fun v => v ^^^ (f.2 % 2 ^ (3 * s1.ltnWidth))) (s1.fb n)
    let s1 := (s1.setFb n fb).onLtn fun l => { l with checked := true, recSweeps := l.recSweeps + 1 }
    let crc := s1.fbCrc n
    if crc == s1.crcOf n then s1.done
    else
      let row := s1.crcRow
      let s1 := (s1.bump Reg.LTN_CRC_CNT.COUNT).raise Ev.LTN_CRC_MISMATCH n [s1.crcOf n, crc, row]
      let s1 := s1.onLtn fun l => { l with recRow := row + 1, recSweeps := 0 }
      (match row with
      | 0 => s1.composeStart s1.sstate
      | 1 =>
        match s1.ltn.copy with
        | some (b, k) => ((s1.setFb (1 - n) b).setCrc (1 - n) k).swapAsk []
        | none => s1
      | 2 => s1.fallbackTile 2
      | _ => (s1.drawInto (1 - n) []).swapAsk []).done

/-- R641: the bits of a line: header, pixels, trailer. `pol`: the VCOM level, which the manual gives no phase of. -/
def lineBits (pol y data width : Nat) : Nat := 1 + pol % 2 * 2 + (y + 1) * 64 + (data % 2 ^ (3 * width)) * 2 ^ 16

/-- R641: a line goes out. -/
def State.lineOut (y data : Nat) (s : State) : State :=
  let (pol, s) := s.fresh
  s.onLtn fun l => { l with sent := lineBits pol y data s.ltnWidth }

/-- R642: the line of least number that is dirty. -/
def firstDirty (d : List Nat) : Option Nat :=
  d.foldl (fun m y => match m with
    | none => some y
    | some x => some (min x y)) none

/-- R656 steps 3 to 8, R657 step 2: the next line of a white pass, with both supplies on; at a start the front light goes on
after it and the dirty lines of the retained image follow. -/
def State.passLine (s : State) : State :=
  if s.ltn.line < s.ltnHeight then
    ((s.lineOut s.ltn.line (whiteLine s.ltnWidth)).onLtn fun l => { l with line := l.line + 1, vdd := true, vddh := true }).lightSettle
  else if s.rf Reg.LTN_STAT.PSTATE != 1 then s
  else match firstDirty s.ltn.dirty with
    | none => s
    | some y =>
      (s.lineOut y (tget 0 (s.fb (s.rf Reg.LTN_STAT.FB_SHOWN)) y)).onLtn fun l => { l with dirty := l.dirty.filter fun z => z != y }

/-- PANEL_LINE_SENT (R641 to R643, R656, R657): a line ends; a requested swap takes effect. -/
def execPanelLineSent (t : Nat) (s : State) : Host.Outcome State Fault Refusal :=
  let s1 := s.at_ t
  let p := s1.rf Reg.LTN_STAT.PSTATE
  if p == 4 || (p == 1 && !s1.rb Reg.LTN_STAT.BIAS_FAULT &&
      decide (s1.ltn.startAt - 1 + ofMs (if s1.rb Reg.LTN_STAT.UNCLEAN then 70 else 40) ≤ s1.tim.now)) then
    s1.passLine.swapNow.done
  else if s1.rf Reg.LTN_STAT.PSTATE != 2 || s1.rb Reg.LTN_STAT.BIAS_FAULT then s.done
  else
    let first := firstDirty s1.ltn.dirty
    let y := first.getD s1.ltn.line
    let s1 := s1.lineOut y (tget 0 (s1.fb (s1.rf Reg.LTN_STAT.FB_SHOWN)) y)
    let s1 := match first with
      | some y => s1.onLtn fun l => { l with dirty := l.dirty.filter fun z => z != y }
      | none =>
        if s1.ltn.line + 1 < s1.ltnHeight then s1.onLtn fun l => { l with line := l.line + 1 }
        else (s1.onLtn fun l => { l with line := 0, checked := false }).bump Reg.LTN_PASS_CNT.COUNT
    s1.swapNow.done

/-- PANEL_START_DONE (R655, R656). -/
def execPanelStartDone (t : Nat) (s : State) : Host.Outcome State Fault Refusal :=
  let s1 := s.at_ t
  let wait := ofMs 40 + 2 * s1.passTime + (if s1.rb Reg.LTN_STAT.UNCLEAN then ofMs 30 else 0)
  if s1.rf Reg.LTN_STAT.PSTATE != 1 || s1.rb Reg.LTN_STAT.BIAS_FAULT || decide (s1.tim.now < s1.ltn.startAt - 1 + wait) then s.done
  else
    let s1 := (s1.wf Reg.LTN_STAT.UNCLEAN 0).panelState 2
    let s1 := s1.onLtn fun l => { l with vdd := true, vddh := true, line := 0, checked := false }
    ((s1.setReady 2).composeAsk).statesShown.done

/-- PANEL_STOP_DONE (R655, R657, R666). -/
def execPanelStopDone (t : Nat) (s : State) : Host.Outcome State Fault Refusal :=
  let s1 := s.at_ t
  if s1.rf Reg.LTN_STAT.PSTATE != 4 || decide (s1.tim.now < s1.ltn.stopAt - 1 + s1.passTime + ofMs 35) then s.done
  else ((s1.panelState 0).onLtn fun l => { l with vdd := false, vddh := false }).geomSettle.done

/-- LTN_BIAS_FAULT (R659): VDDH has stood at `mv` for 1 ms. -/
def execLtnBiasFault (t mv : Nat) (s : State) : Host.Outcome State Fault Refusal :=
  let s1 := s.at_ t
  let p := s1.rf Reg.LTN_STAT.PSTATE
  if !(p == 1 || p == 2) || 4500 ≤ mv || s1.rb Reg.LTN_STAT.BIAS_FAULT then s.done
  else
    let s1 := ((s1.wf Reg.LTN_STAT.BIAS_FAULT 1).bump Reg.LTN_BIAS_FAULT_CNT.COUNT).raise Ev.LTN_BIAS_FAULT 0 [mv]
    (s1.onLtn fun l => { l with biasAt := s1.tim.now + 1 }).done

/-- CHARGE_PUMP_RESTART (R659): the pump restarts and VDDH settles. -/
def execChargePumpRestart (t : Nat) (s : State) : Host.Outcome State Fault Refusal :=
  let s1 := s.at_ t
  if !s1.rb Reg.LTN_STAT.BIAS_FAULT || decide (s1.tim.now < s1.ltn.biasAt - 1 + ofMs 100) then s.done
  else ((s1.wf Reg.LTN_STAT.BIAS_FAULT 0).allDirty).done

/-- FRAME_COPY_WRITE (R654): the shown frame becomes the retained copy. -/
def execFrameCopyWrite (t : Nat) (s : State) : Host.Outcome State Fault Refusal :=
  let s1 := s.at_ t
  if s1.ltn.copyDue == 0 || s1.rb Reg.LTN_STAT.MODE || s1.ltn.swap then s.done
  else
    let n := s1.rf Reg.LTN_STAT.FB_SHOWN
    (s1.onLtn fun l => { l with copy := some (s1.fb n, s1.crcOf n), copyDue := 0 }).done

/-- R658: the band of a temperature in °C (binary32), from the band in force. -/
def bandOf (was temp : Nat) : Nat :=
  let edges : List Int := [0, 25, 50, 70]
  let x := fratio f32 temp
  let up := (edges.filter fun e => ratLe (e, 1) x).length
  let keep := (edges.filter fun e => ratLe (e - 2, 1) x).length
  if was < up then up else min was keep

/-- ln 2 in units of 2^-96. -/
def lnTwo : Nat := 0xb17217f7d1cf79abc9e3b398

/-- R658, R822: the temperature in °C (binary32) of the panel's 10 kΩ NTC sensor (B 3,435 K; 10 kΩ at 25 °C, PRESUMED, log
entry 88) at `ohm` / `den`; none where it reads open or out of range. -/
def ntcTemp (ohm den : Nat) : Option Nat :=
  if ohm < 200 * den || 400000 * den < ohm then none
  else
    let ln := log2Rat ohm (10000 * den) * (lnTwo : Int)
    let one : Int := 2 ^ 192
    let d := 343500 * one + 29815 * ln
    some (fofRat f32 (29815 * 3435 * one - 27315 * d / 100) d.toNat)

/-- PANEL_TEMPERATURE_CHANGE (R658, R822): the resistance in ohms that the panel's sensor now shows, `ohm` / `den`. -/
def execPanelTemperatureChange (t ohm den : Nat) (s : State) : Host.Outcome State Fault Refusal :=
  let s1 := s.at_ t
  if !s1.pwr.lshipUp then s.done
  else match ntcTemp ohm den with
    | some v =>
      let s1 := (s1.wf Reg.LTN_PTEMP.TEMP v).wf Reg.LTN_STAT.PTEMP_FAULT 0
      ((s1.onLtn fun l => { l with tempBand := bandOf l.tempBand v }).vcomSettle).done
    | none =>
      let was := s1.rb Reg.LTN_STAT.PTEMP_FAULT
      let s1 := (s1.wf Reg.LTN_STAT.PTEMP_FAULT 1).vcomSettle
      (if was then s1 else s1.raise Ev.LTN_PTEMP_FAULT 0 [ohm / den]).done

end Sys2Proof.Machine
end

