-- ==== Sys2Proof/Machine/Links.lean ====
section
/-! DEFINITION. The Apast link's rows: link words received and sent (R388 to R390, R407, R410, R411, R428), ports that train, come UP and
go down (R390, R391). -/

namespace Sys2Proof.Machine

/-- A link word that has arrived on an Apast port: discarded and counted when LWCRC fails (R388). -/
def State.onWord (t p typ word crc : Nat) (f : State → State) (s : State) : Host.Outcome State Fault Refusal :=
  let s1 := s.at_ t
  let st := s1.rf (Reg.FAB_PORT.STATE p)
  if !s1.pwr.mainUp || 128 ≤ p || s1.rb (Reg.FAB_PORT.MODE p) || st < 2 then s.done
  else if !lwOk word crc then (s1.wordBad p).done
  else if word % 16 != typ then s1.done
  else (f s1).done

/-- R391: an UP port has heard a valid link word. -/
def State.hear (p : Nat) (s : State) : State := s.modPort p fun x => { x with heard := s.tim.now }

/-- R407, R409, R411: a CREDIT word. -/
def State.takeCredit (p word : Nat) (s : State) : State :=
  let s := (s.hear p).modPort p fun x => { x with cumIn := wcounts word 4 }
  let ack := wfield word 0 16 16
  let covered (l : Nat) : Bool := wfield word 0 4 1 == 1 && decide ((ack + 65536 - l) % 65536 < 32768)
  let x := s.port p
  let gone := x.unack.filter fun u => covered u.1
  let rest := x.unack.filter fun u => !covered u.1
  let s := s.setPort p { x with
    unack := rest, replay := x.replay.filter fun u => !covered u.1, replays := if gone.isEmpty then x.replays else 0
    progress := if gone.isEmpty then x.progress else s.tim.now }
  let s := gone.foldl (fun s u => s.released u.2) s
  if wfield word 0 5 1 == 1 && !rest.isEmpty then s.replayFrom p rest else s

/-- CREDIT (R388, R407, R410): a CREDIT word arrives on port `port`. -/
def execCredit (t port word crc : Nat) (s : State) : Host.Outcome State Fault Refusal :=
  s.onWord t port 0 word crc fun s => if s.portUp port then s.takeCredit port word else s

/-- RETRY_TIMER_EXPIRE (R411): no ACK progress on port `port` for 2 × link delay + 4 µs. -/
def execRetryTimerExpire (t port : Nat) (s : State) : Host.Outcome State Fault Refusal :=
  let s1 := s.at_ t
  let x := s1.port port
  if !s1.pwr.mainUp || !s1.portUp port || x.unack.isEmpty ||
      s1.tim.now < x.progress + ofPs (2 * s1.rf (Reg.FAB_PORT.LINK_DELAY port)) + ofUs 4 then s.done
  else (s1.replayFrom port x.unack).done

/-- CREDIT_SEND (R389): a CREDIT word leaves when its content has changed, and at least every 2 µs. -/
def execCreditSend (t port : Nat) (s : State) : Host.Outcome State Fault Refusal :=
  let s1 := s.at_ t
  let x := s1.port port
  let w := x.creditWord false
  if !s1.pwr.mainUp || !s1.portUp port || (x.txWord == some w && s1.tim.now < x.creditAt + ofUs 2) then s.done
  else (s1.setPort port { x with txWord := some w, creditAt := s1.tim.now }).done

/-- DREQ (R389, R428): answered with a DRESP of its number, T_A and T_B. -/
def execDreq (t port word crc : Nat) (s : State) : Host.Outcome State Fault Refusal :=
  s.onWord t port 1 word crc fun s =>
    if s.portUp port then
      (s.hear port).sendWord port (2 + wfield word 0 16 16 * 2 ^ 16 + s.wt * 2 ^ 64 + s.wt * 2 ^ 128)
    else s

/-- DREQ_SEND (R389): every 62.5 ms. -/
def execDreqSend (t port : Nat) (s : State) : Host.Outcome State Fault Refusal :=
  let s1 := s.at_ t
  let x := s1.port port
  if !s1.pwr.mainUp || !s1.portUp port || (x.dreqAt != 0 && s1.tim.now < x.dreqAt + 2 ^ 28) then s.done
  else (s1.setPort port { x with
    txWord := some (lwSeal (1 + x.dseq * 2 ^ 16 + s1.wt * 2 ^ 64)), asked := [(x.dseq, s1.wt)], dseq := (x.dseq + 1) % 65536
    dreqAt := s1.tim.now }).done

/-- R428: a one-way delay in ps, and the mean shown; a negative mean is a value the manual does not state. -/
def State.takeDresp (p word : Nat) (s : State) : State :=
  let s := s.hear p
  let x := s.port p
  match x.asked.find? fun a => a.1 == wfield word 0 16 16 with
  | none => s
  | some a =>
    let d := wtDiff s.wt a.2 - wtDiff (wfield word 0x10 0 64) (wfield word 8 0 64)
    let ps := divEven (d * 1000000000000) (2 ^ 33) + sext 16 (s.rf (Reg.FAB_PORT.ASYM p))
    let l := (ps :: x.delays).take 16
    let mean := divEven (l.foldl (· + ·) 0) l.length
    let s := s.setPort p { x with asked := [], delays := l }
    if 0 ≤ mean then s.wf (Reg.FAB_PORT.LINK_DELAY p) (min mean.toNat (2 ^ 32 - 1))
    else
      let (v, s) := s.fresh
      s.wf (Reg.FAB_PORT.LINK_DELAY p) v

/-- DRESP (R428). -/
def execDresp (t port word crc : Nat) (s : State) : Host.Outcome State Fault Refusal :=
  s.onWord t port 2 word crc fun s => if s.portUp port then s.takeDresp port word else s

/-- R390: a port goes UP. -/
def State.comeUp (p word : Nat) (s : State) : State :=
  let node := wfield word 4 0 24
  let s := ((s.portState p 3).wf (Reg.FAB_PORT.PEER_SELF p) 0).wf (Reg.FAB_PORT.MISMATCH p) 0
  let s := (s.wf (Reg.FAB_PORT.PEER_NODE p) node).wf (Reg.FAB_PORT.PEER_PORT p) (wfield word 8 0 7)
  let now := s.tim.now
  let s := s.modPort p fun x => { PortQ.idle with
    allot := wcounts word 0xC, txWord := x.txWord, progress := now, heard := now, creditAt := now, initAt := now }
  let s := s.onFab fun f => { f with firstUp := if f.firstUp == 0 then now + 1 else f.firstUp }
  let s := (s.raise Ev.FAB_PORT_UP p [node, wfield word 8 8 2]).ringWrap p false
  let s := s.aliasesTo p
  let w := s.fab.waiting
  w.foldl (fun s e => match s.egress e.1.f e.1.ingress with
    | .out x => (s.onFab fun f => { f with waiting := f.waiting.erase e }).enqueue x e.1
    | _ => s) s

/-- R390: an INIT word in state INIT. -/
def State.takeInit (p word : Nat) (s : State) : State :=
  let s := s.modPort p fun x => { x with initAt := s.tim.now }
  let node := wfield word 4 0 24
  let w := wfield word 8 8 2
  let good := wfield word 0 8 8 == 1 && w == s.rf (Reg.FAB_PORT.WIDTH p)
  if node == s.node then
    if s.rb (Reg.FAB_PORT.PEER_SELF p) then s
    else (s.wf (Reg.FAB_PORT.PEER_SELF p) 1).raise Ev.FAB_PORT_SELF p [node, w]
  else if good then s.comeUp p word
  else if s.rb (Reg.FAB_PORT.MISMATCH p) then s
  else (s.wf (Reg.FAB_PORT.MISMATCH p) 1).raise Ev.FAB_PORT_MISMATCH p [node, w]

/-- INIT (R390). On an UP port an INIT word does not count as a valid link word (R453). -/
def execInit (t port word crc : Nat) (s : State) : Host.Outcome State Fault Refusal :=
  s.onWord t port 3 word crc fun s => if s.rf (Reg.FAB_PORT.STATE port) == 2 then s.takeInit port word else s

/-- INIT_SEND (R390): every 100 µs in state INIT. -/
def execInitSend (t port : Nat) (s : State) : Host.Outcome State Fault Refusal :=
  let s1 := s.at_ t
  let x := s1.port port
  if !s1.pwr.mainUp || 128 ≤ port || s1.rf (Reg.FAB_PORT.STATE port) != 2 || s1.tim.now < x.initSent + ofUs 100 then s.done
  else (s1.setPort port { x with txWord := some (s1.initWord port), initSent := s1.tim.now }).done

/-- INIT_TIMEOUT (R390): no valid INIT for 10 ms. -/
def execInitTimeout (t port : Nat) (s : State) : Host.Outcome State Fault Refusal :=
  let s1 := s.at_ t
  if !s1.pwr.mainUp || 128 ≤ port || s1.rf (Reg.FAB_PORT.STATE port) != 2 || s1.tim.now < (s1.port port).initAt + ofMs 10 then s.done
  else (s1.portLeave port 1).done

/-- LINK_TRAINED (R390): block lock and FEC alignment on all lanes of a port in TRAINING. -/
def execLinkTrained (t port : Nat) (s : State) : Host.Outcome State Fault Refusal :=
  let s1 := s.at_ t
  if !s1.pwr.mainUp || 128 ≤ port || s1.rf (Reg.FAB_PORT.STATE port) != 1 then s.done
  else if s1.rb (Reg.FAB_PORT.MODE port) then (s1.portState port 3).done
  else
    let s1 := s1.portState port 2
    (s1.modPort port fun x => { x with initAt := s1.tim.now, initSent := s1.tim.now, txWord := some (s1.initWord port) }).done

/-- PORT_LINK_DOWN (R391): a link-down condition of an UP port. An Apast port judges the absence of link words by the last one that it
heard (log entry 16). Retry exhaustion is judged by the replays (R411). -/
def execPortLinkDown (t : Nat) (down : LinkDown) (s : State) : Host.Outcome State Fault Refusal :=
  let s1 := s.at_ t
  let port := down.port
  let cause := down.cause
  if !s1.pwr.mainUp || 128 ≤ port || s1.rf (Reg.FAB_PORT.STATE port) != 3 then s.done
  else if s1.rb (Reg.FAB_PORT.MODE port) then (if cause < 2 then (s1.portLeave port 1).done else s.done)
  else if 2 < cause || (cause == 2 && decide (s1.tim.now < (s1.port port).heard + ofUs 8)) then s.done
  else (s1.portDown port).done

end Sys2Proof.Machine
end

