-- ==== Sys2Proof/Machine/Lio.lean ====
section
/-! DEFINITION. The rows of local field I/O: conversions and lead phases (R601 to R611), edges (R620, R621), supervision of
the output stages (R615, R623), HART (R617), the held twins (R624), the safe state (R625 to R627), pulses (R630, R631) and
demagnetisation (R632, R633). -/

namespace Sys2Proof.Machine

/-- R609: a cold-junction source fails or recovers for every thermocouple channel that uses it. -/
def State.cjFault (n : Nat) (bad : Bool) (s : State) : State :=
  let src := s.rf (Reg.LIO_AI.CJ_SRC n)
  let all := if src != 0 then [n] else (List.range 32).filter fun m =>
    m / 8 == n / 8 && s.rf (Reg.LIO_AI.TYPE m) == 2 && s.rf (Reg.LIO_AI.CJ_SRC m) == 0
  let rise := bad && all.any fun m => !s.rb (Reg.LIO_AI.CJ_FAULT m)
  let s := all.foldl (fun s m => (s.wf (Reg.LIO_AI.CJ_FAULT m) (b2n bad)).aiNote m) s
  if rise then s.lioEvent Ev.LIO_CJ_FAULT (if src == 0 then n / 8 else 0x100 + n) [src] else s

/-- R611: burn-out by consecutive conversions. -/
def State.burnout (n : Nat) (code : Int) (s : State) : State :=
  let rtd := s.rf (Reg.LIO_AI.TYPE n) == 1
  let on := s.rb (Reg.LIO_AI.BURNOUT n)
  let x := s.aix n
  let high := if (rtd || s.rf (Reg.LIO_AI.BURN n) != 0) && decide (99 * 8388608 ≤ 100 * code) then x.high + 1 else 0
  let low := if 100 * code < 98 * 8388608 then x.low + 1 else 0
  let s := s.modAix n fun x => { x with high := min high 2, low := min low 2 }
  if !on && decide (2 ≤ high) then
    ((s.wf (Reg.LIO_AI.BURNOUT n) 1).bump Reg.LIO_BURNOUT_CNT.COUNT).lioEvent Ev.LIO_AI_BURNOUT n [ofInt 24 code]
  else if on && decide (2 ≤ low) then s.wf (Reg.LIO_AI.BURNOUT n) 0
  else s

/-- R194: a conversion goes to the waveform channels that take the input. -/
def State.toWave (n v q : Nat) (s : State) : State :=
  if !s.rb (Reg.LIO_AI.CMW_EN n) || !s.pwr.mainUp || s.pwr.failing then s
  else
    let chs := (s.cmw.chan.filter fun e => fbit Chan.EN e.2 && fbit Chan.SRC_LOCAL e.2 && fget Chan.AI_CH e.2 == n).map Prod.fst
    chs.foldl (fun s ch =>
      let c := s.chan ch
      let b : CBlk :=
        { ch := ch, fmt := 2, discont := false, n := 1, seq := none, t := s.ioStamp s.wt, rate := fget Chan.RATE_CHZ c, qual := q
          src := s.node, data := v, scaled := false }
      s.onCmw fun w => { w with inq := w.inq ++ [b] }) s

/-- AI_CONVERSION (R601 to R611): input `n` converts the ratio num / den; `cj`: the terminal sensor of its connector block
in °C, none where it is open or out of range. -/
def execAiConversion (t n : Nat) (num : Int) (den : Nat) (cj : Option Nat) (s : State) : Host.Outcome State Fault Refusal :=
  let s1 := s.at_ t
  let typ := s1.rf (Reg.LIO_AI.TYPE n)
  if 31 < n || typ == 0 || 5 < typ || !s1.pwr.lshipUp then s.done
  else
    let code := clampI (roundRat (num * 8388608) (max den 1)) (-8388608) 8388607
    let s1 := s1.wf (Reg.LIO_AI.CODE n) (ofInt 24 code)
    let x := s1.aix n
    if x.clamp || decide (s1.tim.now ≤ x.until_) then s1.done
    else if x.settle != 0 || x.ovc != 0 then ((s1.modAix n fun x => { x with settle := x.settle - 1, ovc := x.ovc - 1 }).aiNote n).done
    else
      let s1 := s1.burnout n code
      let tcj := s1.coldJunction n cj
      let s1 := if typ == 2 then s1.cjFault n tcj.isNone else s1
      let s1 := match typ == 2 && s1.rf (Reg.LIO_AI.CJ_SRC n) == 0, cj with
        | true, some v => s1.wf (Reg.LIO_CJ.T_CJ (n / 8)) v
        | _, _ => s1
      let tc := tcj.getD (match s1.rf (Reg.LIO_AI.CJ_SRC n) with
        | 0 => s1.rf (Reg.LIO_CJ.T_CJ (n / 8))
        | 1 => operand (s1.pt (s1.rf (Reg.LIO_AI.CJ_IDX n)))
        | _ => s1.rf (Reg.LIO_AI.CJ_FIXED n))
      let (free, s1) := s1.fresh
      let (v, above) := s1.nativeOf n (code, 8388608) tc free
      let sat := (code == -8388608 || code == 8388607) && !s1.rb (Reg.LIO_AI.BURNOUT n)
      let s1 := (s1.wf (Reg.LIO_AI.NATIVE n) v).wf (Reg.LIO_AI.OVERRANGE n) (b2n (above || sat))
      let s1 := s1.toWave n v (s1.aiFaults n)
      if !s1.rb (Reg.LIO_AI.PNT_EN n) then s1.done
      else
        let r := fratio f32 v
        ((s1.modAix n fun x => { x with sum := x.sum + r.1 * ((2 ^ 149 / r.2 : Nat) : Int), n := x.n + 1, tLast := s1.ioStamp s1.clock }).aiNote n).done

/-- LEAD_PHASE (R607): the lead pair reads `pair` mΩ, none where it is open. -/
def execLeadPhase (t n : Nat) (pair : Option Nat) (s : State) : Host.Outcome State Fault Refusal :=
  let s1 := s.at_ t
  let x := s1.aix n
  let every := s1.rf (Reg.LIO_AI.LEAD_S n)
  if 31 < n || s1.rf (Reg.LIO_AI.TYPE n) != 1 || s1.rf (Reg.LIO_AI.WIRES n) != 1 || every == 0 || !s1.pwr.lshipUp ||
      (x.leadAt != 0 && decide (s1.tim.now < x.leadAt - 1 + ofS every)) then s.done
  else
    let period := 2 ^ 32 / odrRate (s1.rf (Reg.LIO_AI.ODR n))
    let s1 := s1.modAix n fun x => { x with leadAt := s1.tim.now + 1, until_ := s1.tim.now + ofMs 2 + 3 * period }
    match pair.filter fun m => decide (m ≤ 50000) with
    | some m => (((s1.wf (Reg.LIO_AI.R_LEAD_MOHM n) m).wf (Reg.LIO_AI.LEAD_FAULT n) 0)).done
    | none =>
      if s1.rb (Reg.LIO_AI.LEAD_FAULT n) then s1.done
      else (((s1.wf (Reg.LIO_AI.LEAD_FAULT n) 1).aiNote n).lioEvent Ev.LIO_AI_LEAD n [pair.getD 0xFFFFFFFF]).done

/-- AI_OVERVOLTAGE (R611): the clamp of input `n` begins or ceases to conduct. -/
def execAiOvervoltage (t n : Nat) (on : Bool) (s : State) : Host.Outcome State Fault Refusal :=
  let s1 := s.at_ t
  if 31 < n || !s1.pwr.lshipUp || (s1.aix n).clamp == on then s.done
  else if on then
    let was := s1.rb (Reg.LIO_AI.OVC n)
    let s1 := ((s1.modAix n fun x => { x with clamp := true, ovc := 0 }).wf (Reg.LIO_AI.OVC n) 1).bump Reg.LIO_OVC_CNT.COUNT
    let s1 := s1.aiNote n
    (if was then s1 else s1.lioEvent Ev.LIO_AI_OVC n []).done
  else (s1.modAix n fun x => { x with clamp := false, ovc := 3 }).done

/-- R312, R317, R325: what an accepted rising edge means to the Beacon. -/
def State.dioBeacon (ch : Nat) (s : State) : State :=
  let s := if s.rb Reg.BCN_CTRL.ACC_DIO_EN && s.rf Reg.BCN_CTRL.ACC_DIO == ch then (s.acceptAll 64).2 else s
  (List.range 8).foldl (fun s u =>
    if s.rb (Reg.BCN_DM.RESET_DIO_EN u) && s.rf (Reg.BCN_DM.RESET_DIO u) == ch then (s.dmInput u 2).2 else s) s

/-- DIO_EDGE_ACCEPT (R620, R621, R623): the levels of channels accepted in one sample. -/
def execDioEdgeAccept (t : Nat) (edges : List (Nat × Bool)) (s : State) : Host.Outcome State Fault Refusal :=
  let s1 := s.at_ t
  let new := edges.filter fun e => decide (e.1 < 48) && s1.rf (Reg.LIO_DIO.MODE e.1) != 3 && s1.rb (Reg.LIO_DIO.LEVEL e.1) != e.2
  if new.isEmpty || !s1.pwr.lshipUp then s.done
  else
    let at_ (ch : Nat) : Nat :=
      let first := s1.tim.now - ofUs (10 * s1.rf (Reg.LIO_DIO.DEB ch))
      s1.ioStamp (if s1.pwr.mainUp then s1.wtOf first else s1.lwtOf first)
    let s1 := new.foldl (fun s e => s.wf (Reg.LIO_DIO.LEVEL e.1) (b2n e.2)) s1
    let pts := s1.pts.rec_.filter fun e => fget Pt.KIND e.2 == kDiscrete && fbit Pt.DI_LOCAL e.2
    let s1 := pts.foldl (fun s e =>
      let lo := fget Pt.DI_CH e.2
      let ts := (new.filter fun c => decide (lo ≤ c.1) && decide (c.1 ≤ lo + fget Pt.DISC_BITS e.2)).map fun c => at_ c.1
      match ts with
      | [] => s
      | a :: as => s.localUpdate e.1 (s.dioState e.2) 0 (as.foldl min a)) s1
    let s1 := new.foldl (fun s e =>
      if s.rf (Reg.LIO_DIO.MODE e.1) == 1 || s.rf (Reg.LIO_DIO.MODE e.1) == 2 then
        let was := s.rb (Reg.LIO_DIO.RB_MISMATCH e.1)
        let s := s.rbCheck e.1
        if was && !s.rb (Reg.LIO_DIO.RB_MISMATCH e.1) then s.stageQual (16 + e.1) else s
      else s) s1
    (new.foldl (fun s e => if e.2 then s.dioBeacon e.1 else s) s1).bcnSettle.done

/-! Supervision of the output stages. -/

/-- A digital output channel. -/
def State.isDo (s : State) (ch : Nat) : Bool :=
  decide (ch < 32) && (s.rf (Reg.LIO_DIO.MODE ch) == 1 || s.rf (Reg.LIO_DIO.MODE ch) == 2) && s.pwr.lshipUp

/-- DO_OVERLOAD (R623). -/
def execDoOverload (t ch : Nat) (s : State) : Host.Outcome State Fault Refusal :=
  let s1 := s.at_ t
  if !s1.isDo ch || !s1.swOn ch then s.done
  else
    let s1 := (s1.doSwitch ch false).onLio fun l => { l with ovlAt := tset 0 l.ovlAt ch (s1.tim.now + 1) }
    let s1 := ((s1.wf (Reg.LIO_DIO.OVL ch) 1).bump Reg.LIO_DO_OVL_CNT.COUNT).lioEvent Ev.LIO_DO_OVL ch []
    (s1.stageQual (16 + ch)).done

/-- DO_OVERLOAD_RETRY (R623): every 100 ms; `gone`: the overload is gone. -/
def execDoOverloadRetry (t ch : Nat) (gone : Bool) (s : State) : Host.Outcome State Fault Refusal :=
  let s1 := s.at_ t
  if !s1.isDo ch || !s1.rb (Reg.LIO_DIO.OVL ch) || decide (s1.tim.now < tget 0 s1.lio.ovlAt ch - 1 + ofMs 100) then s.done
  else if !gone then (s1.onLio fun l => { l with ovlAt := tset 0 l.ovlAt ch (s1.tim.now + 1) }).done
  else
    let s1 := s1.wf (Reg.LIO_DIO.OVL ch) 0
    ((if s1.rb (Reg.LIO_DIO.CMD ch) then s1.turnOn ch else s1).stageQual (16 + ch)).done

/-- DO_READBACK_MISMATCH (R623). -/
def execDoReadbackMismatch (t ch : Nat) (s : State) : Host.Outcome State Fault Refusal :=
  let s1 := s.at_ t
  let at_ := tget 0 s1.lio.diffAt ch
  if !s1.isDo ch || at_ == 0 || s1.rb (Reg.LIO_DIO.RB_MISMATCH ch) ||
      decide (s1.tim.now < at_ - 1 + ofMs (s1.rf (Reg.LIO_DIO.RB_MS ch))) then s.done
  else
    let s1 := ((s1.wf (Reg.LIO_DIO.RB_MISMATCH ch) 1).bump Reg.LIO_RB_CNT.COUNT).lioEvent Ev.LIO_RB_MISMATCH ch
      [s1.rf (Reg.LIO_DIO.CMD ch), s1.rf (Reg.LIO_DIO.LEVEL ch)]
    (s1.stageQual (16 + ch)).done

/-- R614: the adaptive supply in mV once it has followed a terminal voltage; off where the output sinks. -/
def aoSupply (sink : Bool) (vTerm : Nat) : Nat := if sink then 0 else max 3000 (min 26000 (vTerm + 2000))

/-- AO_SUPERVISION (R614, R615): the measurements of output `n` that have stood for 10 ms: loop current in µA and terminal
voltage in mV, which the supply has followed; and the stage temperature in °C, `temp` / `den`. -/
def execAoSupervision (t n iUa vTerm : Nat) (temp : Int) (den : Nat) (s : State) : Host.Outcome State Fault Refusal :=
  let s1 := s.at_ t
  if 15 < n || !s1.rb (Reg.LIO_AO.EN n) || !s1.pwr.lshipUp then s.done
  else
    let sink := s1.rb (Reg.LIO_AO.SINK n)
    let vSup := aoSupply sink vTerm
    let s1 := ((s1.wf (Reg.LIO_AO.I_MEAS_UA n) iUa).wf (Reg.LIO_AO.V_SUP_MV n) vSup).wf (Reg.LIO_AO.V_TERM_MV n) vTerm
    let cmd := tget 0 s1.lio.aoCode n * 24000
    let i := iUa * 65536
    let top := decide (26000 ≤ vSup)
    let clear := if sink then decide (2000 ≤ vTerm) else decide (cmd ≤ i + 100 * 65536) && decide (i ≤ cmd + 100 * 65536)
    let isOpen := if sink then decide (vTerm < 500) else decide (1000 * 65536 ≤ cmd) && decide (10 * i < cmd) && top
    let isCompl := if sink then decide (500 ≤ vTerm) && decide (vTerm < 2000)
      else decide (cmd ≤ 10 * i) && decide (i + 100 * 65536 < cmd) && top
    let was := s1.rf (Reg.LIO_AO.OPEN n) + 2 * s1.rf (Reg.LIO_AO.COMPL n) + 4 * s1.rf (Reg.LIO_AO.THERM n)
    let next (set_ clear_ on : Bool) : Bool := set_ || (on && !clear_)
    let o := next isOpen clear (was % 2 == 1)
    let c := next isCompl clear (was / 2 % 2 == 1)
    let h := next (decide (150 * (den : Int) < temp)) (decide (temp < 135 * (den : Int))) (was / 4 == 1)
    let now := b2n o + 2 * b2n c + 4 * b2n h
    let s1 := ((s1.wf (Reg.LIO_AO.OPEN n) (b2n o)).wf (Reg.LIO_AO.COMPL n) (b2n c)).wf (Reg.LIO_AO.THERM n) (b2n h)
    let rises := ([0, 1, 2].filter fun k => now.testBit k && !was.testBit k).length
    let s1 := if rises == 0 then s1
      else (s1.bump Reg.LIO_AO_FAULT_CNT.COUNT rises).lioEvent Ev.LIO_AO_FAULT n [now, iUa, vTerm]
    (if now == was then s1 else s1.stageQual n).done

/-! HART. -/

def State.hartOn (s : State) (n : Nat) : Bool := decide (n < 16) && s.rb (Reg.LIO_AO.HART_EN n) && s.pwr.lshipUp

/-- HART_TRANSMIT_START (R616, R617). -/
def execHartTransmitStart (t n : Nat) (s : State) : Host.Outcome State Fault Refusal :=
  let s1 := s.at_ t
  let x := s1.hart n
  if !s1.hartOn n || hartMsg x.tx == 0 || x.started != 0 || s1.rb (Reg.LIO_AO.CD n) ||
      (x.carrierAt != 0 && decide (s1.tim.now < x.carrierAt - 1 + ofMs 10)) then s.done
  else (s1.setHart n { x with started := s1.tim.now + 1, sent := 0 }).done

/-- HART_TRANSMIT_END (R617). -/
def execHartTransmitEnd (t n : Nat) (s : State) : Host.Outcome State Fault Refusal :=
  let s1 := s.at_ t
  let x := s1.hart n
  let len := x.sent + hartMsg x.tx
  if !s1.hartOn n || x.started == 0 || decide ((s1.tim.now - (x.started - 1)) * 1200 < len * 11 * 2 ^ 32) then s.done
  else (s1.setHart n { x with tx := x.tx.drop (hartMsg x.tx), started := 0, sent := 0 }).done

/-- HART_BYTE_RECEIVE (R617): a character, with a parity error or not. -/
def execHartByteReceive (t n byte : Nat) (bad : Bool) (s : State) : Host.Outcome State Fault Refusal :=
  let s1 := s.at_ t
  if !s1.hartOn n then s.done
  else
    let s1 := s1.wf (Reg.LIO_AO.CD n) 1
    let x : HartX := { s1.hart n with carrierAt := s1.tim.now + 1 }
    let s1 := if bad then s1.hartErr n 0 else s1
    if 256 ≤ x.rx.length then ((s1.setHart n { x with rxAt := 0 }).hartErr n 1).done
    else (s1.setHart n { x with rx := x.rx ++ [byte % 256 + 512 * b2n bad], rxAt := s1.tim.now + 1 }).done

/-- HART_RX_GAP (R617): two character times have passed since the last received byte. -/
def execHartRxGap (t n : Nat) (s : State) : Host.Outcome State Fault Refusal :=
  let s1 := s.at_ t
  let x := s1.hart n
  if !s1.hartOn n || !s1.rb (Reg.LIO_AO.CD n) || decide ((s1.tim.now - (x.carrierAt - 1)) * 1200 ≤ 22 * 2 ^ 32) then s.done
  else
    let rx := if x.rxAt == 0 then x.rx else x.rx.modify (x.rx.length - 1) fun b => b ||| 1024
    ((s1.setHart n { x with rx := rx, rxAt := 0, carrierAt := s1.tim.now + 1 }).wf (Reg.LIO_AO.CD n) 0).done

/-! Held twins and the safe state. -/

/-- OUTPUT_TWIN_CHECK (R624): the 1 ms check. -/
def execOutputTwinCheck (t : Nat) (upsets : TwinUpsets) (s : State) : Host.Outcome State Fault Refusal :=
  let s1 := (s.at_ t).onLio fun l => { l with
    cmdUpset := upsets.transit.foldl (fun c u => if u.1 < 48 then tset 0 c u.1 (u.2 % 2 ^ 32) else c) l.cmdUpset }
  let bad := upsets.held.filter fun u => u.2 % 2 ^ 32 != 0 && (decide (u.1 < 16) || s1.isDo (u.1 - 16))
  if !s1.pwr.lshipUp then s.done
  else
    (bad.foldl (fun s u =>
      let ao := decide (u.1 < 16)
      let ch := if ao then u.1 else u.1 - 16
      let v := if ao then tget 0 s.lio.aoCode ch else tget 0 s.lio.sw ch
      let s := (s.bump Reg.LIO_TWIN_CNT.COUNT).twinEvent ch (if ao then 36 else 37) (twinOf v ^^^ (u.2 % 2 ^ 32)) v
      if ao then s.aoSafe ch else s.dioSafe ch) s1).done

/-- LIO_SAFE_ENTER (R625): no refresh for TMO_MS. -/
def execLioSafeEnter (w : Lapse) (s : State) : Host.Outcome State Fault Refusal :=
  let s1 := s.at_ w.now
  if s1.rb Reg.LIO_STAT.SAFE_ACTIVE || !s1.pwr.lshipUp || decide (s1.tim.now < w.last + ofMs (s1.rf Reg.LIO_SAFE_CTRL.TMO_MS)) then s.done
  else
    let s1 := ((s1.wf Reg.LIO_STAT.LOGIC_SILENT 1).wf Reg.LIO_STAT.SAFE_ACTIVE 1).bump Reg.LIO_SAFE_CNT.COUNT
    ((s1.lioEvent Ev.LIO_SAFE_ENTER 0 [s1.rf Reg.LIO_STAT.LOGIC_SRC]).allSafe).done

/-- LIO_SAFE_EXIT (R627). -/
def execLioSafeExit (t : Nat) (s : State) : Host.Outcome State Fault Refusal :=
  let s1 := s.at_ t
  if !s1.rb Reg.LIO_STAT.SAFE_ACTIVE || !s1.pwr.lshipUp then s.done
  else
    (((s1.wf Reg.LIO_STAT.LOGIC_SILENT 0).wf Reg.LIO_STAT.SAFE_ACTIVE 0).lioEvent Ev.LIO_SAFE_EXIT 0
      [s1.rf Reg.LIO_STAT.LOGIC_SRC]).done

/-! Pulses and shared feeds. -/

/-- PULSE_END (R630): a running pulse of pair `k` ends, or a waiting one starts. -/
def execPulseEnd (t k : Nat) (s : State) : Host.Outcome State Fault Refusal :=
  let s1 := s.at_ t
  let p := s1.pulse k
  if 15 < k || p.dir == 0 || !s1.pwr.lshipUp || decide (s1.tim.now < (if p.on then p.stop else p.start)) then s.done
  else if !p.on then (s1.pulseBegin k).done
  else (s1.pulseCut k).done

/-- LIO_PULSE_DROP (R631): at the first 10 ms tick at which the carry's age reaches HOLD_S. -/
def execLioPulseDrop (t k : Nat) (s : State) : Host.Outcome State Fault Refusal :=
  let s1 := s.at_ t
  let p := s1.pulse k
  let due := tick10 (s1.clock + (p.carryAt + ofS (s1.rf (Reg.LIO_PULSE.HOLD_S k))) - s1.tim.now)
  if 15 < k || (p.carR == 0 && p.carL == 0) || !s1.pwr.lshipUp || decide (s1.clock < due) then s.done
  else
    let s1 := (s1.setPulse k { p with carR := 0, carL := 0 }).bump Reg.LIO_PULSE_DROP_CNT.COUNT
    (s1.lioEvent Ev.LIO_PULSE_DROP k [b2n (p.carR == 0), (if p.carR == 0 then p.carL else p.carR) / 10]).done

/-- R633: a turn-on that waits for the shared feed of `ch` is tried again. -/
def State.grpRetry (ch : Nat) (s : State) (c : Nat) : State := if c / 2 == ch / 2 then (s.grpLeave c).turnOn c else s

/-- DEMAG_END (R632, R633): the clamp of a member stops conducting. -/
def execDemagEnd (t ch : Nat) (s : State) : Host.Outcome State Fault Refusal :=
  let s1 := s.at_ t
  if !s1.isDo ch || !s1.rb (Reg.LIO_DIO.DEMAG ch) then s.done
  else
    let us := usOf (s1.tim.now - tget 0 s1.lio.demagAt ch)
    let s1 := s1.wf (Reg.LIO_DIO.DEMAG ch) 0
    let s1 := if us ≤ 400 then s1 else (s1.bump Reg.LIO_DEMAG_LONG_CNT.COUNT).lioEvent Ev.LIO_DEMAG_LONG ch [us]
    (s1.lio.grpWait.foldl (fun s c => s.grpRetry ch c) s1).done

end Sys2Proof.Machine
end

