-- ==== Sys2Proof/Machine/Power.lean ====
section
/-! DEFINITION. The rows of the power domains and of Lightship operation (R667 to R692, R708). -/

namespace Sys2Proof.Machine

/-! Supplies and the store (R667 to R673). -/

/-- EMER_CHANGE (R667, R668, R673): EMER becomes valid or lost, at `mv`; the store stands at `store`. A feed that becomes valid
after the Lightship failure warning starts the domain afresh. -/
def execEmerChange (t : Nat) (valid : Bool) (mv store : Nat) (s : State) : Host.Outcome State Fault Refusal :=
  let s1 := s.at_ t
  let seen := if valid then decide (16500 ≤ mv) && decide (mv ≤ 32000) else decide (mv < 16000) || decide (33000 < mv)
  if !s1.pwr.lshipUp || s1.rb Reg.PWR_SUPPLY_STAT.EMER_OK == valid || !seen then s.done
  else
    let s1 := ((s1.wf Reg.PWR_EMER_MV.MV mv).scapRead store).wf Reg.PWR_SUPPLY_STAT.EMER_OK (b2n valid)
    let s1 := if valid then s1 else s1.raise Ev.PWR_EMER_LOST 0 [mv]
    (if valid && s1.pwr.warned then s1.lshipStop else s1.feedSettle).done

/-- FIELD_CHANGE (R667, R669). -/
def execFieldChange (t : Nat) (valid : Bool) (mv : Nat) (s : State) : Host.Outcome State Fault Refusal :=
  let s1 := s.at_ t
  let seen := if valid then decide (19000 ≤ mv) else decide (mv < 18000)
  if !s1.pwr.lshipUp || s1.rb Reg.PWR_SUPPLY_STAT.FIELD_OK == valid || !seen then s.done
  else
    let s1 := ((s1.wf Reg.PWR_FIELD_MV.MV mv).wf Reg.PWR_SUPPLY_STAT.FIELD_OK (b2n valid)).wf Reg.PWR_SUPPLY_STAT.FIELD_LOW (b2n !valid)
    (if valid then s1 else (s1.bump Reg.PWR_FIELD_LOW_CNT.COUNT).raise Ev.PWR_FIELD_LOW 0 [mv]).done

/-- PWR_SCAP_LOW (R670, R672). -/
def execPwrScapLow (t mv : Nat) (s : State) : Host.Outcome State Fault Refusal :=
  let s1 := s.at_ t
  if !s1.pwr.lshipUp || s1.feedOf != 2 || 9000 < mv || s1.rb Reg.PWR_SUPPLY_STAT.SCAP_LOW then s.done
  else
    let s1 := ((s1.scapRead mv).wf Reg.PWR_SUPPLY_STAT.SCAP_LOW 1).bump Reg.PWR_SCAP_LOW_CNT.COUNT
    ((s1.raise Ev.PWR_SCAP_LOW 0 [mv]).panelRetain).lshipFlush.done

/-- PWR_LSHIP_FAIL (R670, R673, R685): what the Keeper writes to the retained store; its log at once (R713). -/
def execPwrLshipFail (t mv : Nat) (s : State) : Host.Outcome State Fault Refusal :=
  let s1 := s.at_ t
  if !s1.pwr.lshipUp || s1.feedOf != 2 || 7000 < mv || s1.pwr.warned then s.done
  else
    let s1 := (((s1.scapRead mv).bump Reg.PWR_LSHIP_FAIL_CNT.COUNT).raise Ev.PWR_LSHIP_FAIL 0 [mv]).panelStop
    let s1 := (s1.copiesOut).onImg fun m => { m with lwtSaved := s1.lwt }
    ((s1.lshipFlush.logAll).onPwr fun p => { p with warned := true }).done

/-- LIGHTSHIP_STOP (R670, R673): the store is at FLOOR, and no feed is valid. -/
def execLightshipStop (t : Nat) (s : State) : Host.Outcome State Fault Refusal :=
  let s1 := s.at_ t
  if !s1.pwr.lshipUp || s1.feedOf != 2 then s.done else s1.lshipStop.done

/-- SCAP_FULL (R670). -/
def execScapFull (t : Nat) (s : State) : Host.Outcome State Fault Refusal :=
  let s1 := s.at_ t
  if !s1.pwr.lshipUp then s.done
  else (((s1.scapRead 16000).scapClear).onPwr fun p => { p with charging := false }).done

/-- SCAP_CHARGE_RESTART (R670): the store stands at `mv`, below 15.8 V, and a feed is valid. -/
def execScapChargeRestart (t mv : Nat) (s : State) : Host.Outcome State Fault Refusal :=
  let s1 := s.at_ t
  if !s1.pwr.lshipUp || 15800 ≤ mv || s1.feedOf == 2 then s.done
  else (((s1.scapRead mv).scapClear).onPwr fun p => { p with charging := true }).done

/-! Clocks and gating (R676 to R678). -/

/-- LREF_LOSS (R676). -/
def execLrefLoss (t : Nat) (s : State) : Host.Outcome State Fault Refusal :=
  let s1 := s.at_ t
  if !s1.pwr.lshipUp || s1.rb Reg.PWR_CLK_STAT.LREF_FALLBACK then s.done
  else
    (((s1.wf Reg.PWR_CLK_STAT.LREF_OK 0).wf Reg.PWR_CLK_STAT.LREF_FALLBACK 1).raise Ev.PWR_CLK_FAULT 0 [2]).done

/-- LREF_RETURN (R676). -/
def execLrefReturn (t : Nat) (s : State) : Host.Outcome State Fault Refusal :=
  let s1 := s.at_ t
  if !s1.pwr.lshipUp then s.done
  else ((s1.wf Reg.PWR_CLK_STAT.LREF_OK 1).wf Reg.PWR_CLK_STAT.LREF_FALLBACK 0).done

/-- FFT_UNIT_GATE (R677, R678): a unit without a frame has been idle for 10 µs. -/
def execFftUnitGate (t : Nat) (s : State) : Host.Outcome State Fault Refusal :=
  let s1 := s.at_ t
  if !s1.pwr.mainUp || !s1.rb Reg.PWR_GATE_CTRL.FFT_GATE_EN || s1.rf Reg.PWR_FFT_AWAKE.COUNT ≤ s1.cmw.frames.length then s.done
  else (s1.drop Reg.PWR_FFT_AWAKE.COUNT).done

/-! Failure and return of MAIN (R679 to R692). -/

/-- R667, R679: MAIN is lost (causes 0 under-voltage, 1 over-voltage), or the main domain's clock (2 fabric reference, 3 core
PLL); MAIN at `mv`. A running main domain starts its failure sequence. -/
def State.mainLost (cause mv : Nat) (s : State) : State :=
  let s := (s.wf Reg.PWR_MAIN_MV.MV mv).onPwr fun p => { p with goodAt := s.tim.now + 1 }
  let s := if cause < 2 then s.wf Reg.PWR_SUPPLY_STAT.MAIN_OK 0
    else (s.wf (if cause == 2 then Reg.PWR_CLK_STAT.FREF_OK else Reg.PWR_CLK_STAT.CORE_LOCK) 0).raise Ev.PWR_CLK_FAULT 0 [cause - 2]
  let s := (s.bump Reg.PWR_FAIL_CNT.COUNT).raise Ev.PWR_FAIL_WARN 0 [min cause 2, mv]
  let s := if s.pwr.mainUp then s.powerFail else s
  s.feedSettle.fansFollow

/-- PWR_FAIL_WARN (R667, R676, R679 to R682): the warning, instant P; given again within the sequence, the sequence's end
(R681 steps 4 to 9). -/
def execPwrFailWarn (t cause mv store : Nat) (s : State) : Host.Outcome State Fault Refusal :=
  let s1 := s.at_ t
  if !s1.pwr.lshipUp || 3 < cause then s.done
  else if s1.pwr.failing then s1.cleanStop.done
  else if (cause < 2 && !s1.rb Reg.PWR_SUPPLY_STAT.MAIN_OK) || (2 ≤ cause && !s1.pwr.mainUp) ||
      (cause == 0 && decide (34000 ≤ mv)) || (cause == 1 && decide (mv ≤ 62000)) then s.done
  else ((s1.scapRead store).mainLost cause mv).done

/-- UNCLEAN_STOP (R683): the rails fall after step `step` of R681. -/
def execUncleanStop (t step : Nat) (s : State) : Host.Outcome State Fault Refusal :=
  let s1 := s.at_ t
  if !s1.pwr.failing || step == 0 || 7 < step then s.done else (s1.uncleanStop step).done

/-- PWR_MAIN_RETURN (R580, R581, R675, R676, R683, R689, R769, R780 to R782): instant M. MAIN stands at `mv`, the store at
`store`. After the Lightship failure warning the feed starts the Lightship domain afresh (R673). -/
def execPwrMainReturn (t mv store : Nat) (s : State) : Host.Outcome State Fault Refusal :=
  let s1 := s.at_ t
  if !s1.pwr.lshipUp || s1.pwr.mainUp || s1.rb Reg.KPR_THERM.TRIP || mv < 35000 || 60000 < mv ||
      (s1.pwr.goodAt != 0 && decide (s1.tim.now < s1.pwr.goodAt - 1 + ofMs (s1.rf Reg.PWR_CTRL.RESTART_MS))) then s.done
  else if s1.pwr.warned then s1.lshipStop.done
  else if !s1.ready 0 then s.done
  else
    let had := s1.rb Reg.PWR_SUPPLY_STAT.MAIN_OK
    let s1 := ((s1.wf Reg.PWR_MAIN_MV.MV mv).scapRead store).wf Reg.PWR_SUPPLY_STAT.MAIN_OK 1
    let s1 := (s1.wf Reg.PWR_CLK_STAT.FREF_OK 1).wf Reg.PWR_CLK_STAT.CORE_LOCK 1
    let s1 := if had then s1 else s1.pwronAsk 1
    let w := s1.lwt
    let s1 := ((s1.clearRegs mainOwn).onPwr fun p => { p with mainUp := true, failing := false }).onLdg fun l => { l with actTime := [] }
    let s1 := ((s1.setWt w (2 ^ 32)).wf Reg.PWR_SUPPLY_STAT.MAIN_STATE 1).raise Ev.PWR_MAIN_RETURN 0 [mv]
    let s1 := s1.feedSettle.fansFollow
    let s1 := s1.chooseMain
    let s1 := if s1.img.use == 0 then s1.restoreLship else s1
    let s1 := s1.restoreRegs s1.inUse.regs fun o => mainReg o
    let s1 := s1.policyApply
    let s1 := if s1.rf (Reg.BKP_REG.WORD 0) == 0x4B524142 && !s1.rb bkpMainClean then
        ((s1.wf Reg.PWR_SUPPLY_STAT.MAIN_UNCLEAN 1).bump Reg.PWR_UNCLEAN_CNT.COUNT).raise Ev.PWR_UNCLEAN 0 [s1.pwr.step, s1.pwr.lost]
      else s1
    let s1 := (s1.wf bkpMainClean 0).onPwr fun p => { p with step := 0, lost := 0 }
    (s1.tileGates.oeGates.ctlGauges).fftWake.done

/-- LSHIP_HANDBACK (R178, R661, R690, R778): instant H. -/
def execLshipHandback (t : Nat) (s : State) : Host.Outcome State Fault Refusal :=
  let s1 := s.at_ t
  if !s1.pwr.mainUp || s1.pwr.failing || !s1.ready 10 || s1.ready 12 then s.done
  else
    let s1 := s1.keeperPass
    let op := s1.rb Reg.PWR_LSHIP_STAT.LSHIP_OP
    let upds := s1.pwr.upds
    let n := s1.pwr.changes
    let s1 := (s1.wf Reg.PWR_LSHIP_STAT.LSHIP_OP 0).onPwr fun p => { p with upds := [], watches := [], act := [] }
    let s1 := s1.rebuildSectors
    let s1 := (s1.setReady 12).setReady 14
    let s1 := (s1.wf Reg.LTN_STAT.SRC 0).onLtn fun l => { l with keeperSt := [] }
    let s1 := (s1.lightSettle.statesShown).composeAsk
    let s1 := upds.foldl (fun s u => s.toTile u) s1
    (if op then s1.raise Ev.PWR_LSHIP_END 0 [n] else s1).done

/-- LOGIC_SIDE_RETURN (R266, R625, R691, R778): the control engine reports ready. -/
def execLogicSideReturn (t : Nat) (s : State) : Host.Outcome State Fault Refusal :=
  let s1 := s.at_ t
  if !s1.pwr.mainUp || s1.pwr.failing || !s1.ready 12 || s1.ready 15 then s.done
  else
    let s1 := s1.setReady 15
    (((tkeys s1.ctl.rec_).filter s1.loopOn).foldl (fun s l => s.planFirst l s.tim.now) s1 |>.logicTo 0).done

/-! Lightship evaluation (R684 to R687). -/

/-- R686: the earliest delay timer of a local point's condition that is due. -/
def State.keeperDue (s : State) : Option (Nat × Nat) :=
  earliest ((s.alm.due.filter fun e => s.keeperTimer e.1 && decide (e.2.2 ≤ s.lwt)).map fun e => (e.1, e.2.2))

/-- R51, R60, R97, R610, R621, R686: what falls at a millisecond tick. -/
def State.keeperTick (k : Nat) (s : State) : State :=
  let tick := tickAt 1 k
  let due := s.keeperPts.filter fun i => k % scanMs (s.scanOf (s.pt i)) == 0
  let s := due.foldl (fun s i => s.staleTick i tick) s
  let s := due.foldl (fun s i => s.readbackTick i tick) s
  (due.foldl (fun s i => s.deviationTick i tick) s).localTicks due k

/-- LSHIP_EVALUATE (R301, R686, R687, R726): the Keeper takes its next local update, or else the next timer that is due, or else
the present millisecond's tick. -/
def execLshipEvaluate (t : Nat) (s : State) : Host.Outcome State Fault Refusal :=
  let s1 := s.at_ t
  if !s1.rb Reg.PWR_LSHIP_STAT.LSHIP_OP || !s1.keeperRuns then s.done
  else
    let k := ticksBy 1 s1.lwt
    match s1.pwr.upds, s1.keeperDue with
    | u :: rest, _ =>
      let s1 := s1.onPwr fun p => { p with upds := rest }
      (if s1.keeperHas u.idx then (s1.keep fun s => s.applyUpdate u).keeperPass else s1).done
    | [], some (c, _) => (s1.keep fun s => s.delayFire (tget 0 s.alm.owner c - 1) c).keeperPass.done
    | [], none =>
      if k + 1 ≤ s1.pwr.scanAt then s1.keeperPass.done
      else ((s1.onPwr fun p => { p with scanAt := k + 1 }).keep (State.keeperTick k)).keeperPass.done

/-! The thermal trip (R708). -/

/-- THERMAL_TRIP (R679, R708): sensor `n` of T0 to T7 reads `value` (binary32), the third sample at or above 110.0 °C; MAIN behind
the open switch reads `mv`. -/
def execThermalTrip (t n value mv : Nat) (s : State) : Host.Outcome State Fault Refusal :=
  let s1 := s.at_ t
  if !s1.pwr.lshipUp || 7 < n || s1.rb Reg.KPR_THERM.TRIP || !fle f32 0x42DC0000 value then s.done
  else
    let s1 := ((s1.wf (Reg.KPR_SENS.VALUE n) value).wf Reg.KPR_THERM.TRIP 1).bump Reg.KPR_THERM_TRIP_CNT.COUNT
    let s1 := s1.raise Ev.KPR_THERM_TRIP n [value]
    (if s1.rb Reg.PWR_SUPPLY_STAT.MAIN_OK && !s1.pwr.failing then s1.mainLost 0 mv
      else ((s1.wf Reg.PWR_SUPPLY_STAT.MAIN_OK 0).onPwr fun p => { p with goodAt := s1.tim.now + 1 }).feedSettle.fansFollow).done

/-- THERMAL_CLEAR (R708): the highest of T0 to T7, sensor `n`, reads `value`, at or below 95.0 °C. -/
def execThermalClear (t n value : Nat) (s : State) : Host.Outcome State Fault Refusal :=
  let s1 := s.at_ t
  if !s1.pwr.lshipUp || 7 < n || !s1.rb Reg.KPR_THERM.TRIP || !fle f32 value 0x42BE0000 then s.done
  else
    ((((s1.wf (Reg.KPR_SENS.VALUE n) value).wf Reg.KPR_THERM.TRIP 0).onPwr fun p => { p with goodAt := s1.tim.now + 1 }).raise
      Ev.KPR_THERM_CLEAR n [value]).done

end Sys2Proof.Machine
end

