-- ==== Sys2Proof/Machine/Startup.lean ====
section
/-! DEFINITION. Start-up, the retained image and readiness (R762 to R782): the rows and the commands 0x08 to 0x0B (R546). -/

namespace Sys2Proof.Machine

/-! Commands (R546). -/

/-- The checks of SYS_STATUS (R546). -/
def specSysStatus (_c : Cmd) : State → Spec :=
  fun _ => { op := 0x08 }

/-- The effect of SYS_STATUS (R546). -/
def bodySysStatus (_c : Cmd) : State → Option Reply × State :=
  fun s =>
    (some ⟨0, 0, s.rf Reg.SYS_READY.READY + s.wt * 2 ^ 32 + (s.alm.seq % 2 ^ 32) * 2 ^ 96⟩, s)

/-- SYS_STATUS (R546): SYS_READY, watch time, the low word of the next sequence number. -/
def execSysStatus (t : Nat) (c : Cmd) (s : State) : Host.Outcome State Fault Refusal :=
  (s.command t (specSysStatus c) c (bodySysStatus c)).done

/-- The checks of CFG_COMMIT (R546, R766). -/
def specCfgCommit (_c : Cmd) : State → Spec :=
  fun _ => { op := 0x09 }

/-- The effect of CFG_COMMIT (R546, R766). -/
def bodyCfgCommit (c : Cmd) : State → Option Reply × State :=
  fun s =>
    if s.img.run.isSome then (some (Reply.of 6), s) else (none, s.commitBegin 0 (c.ring + 1) c.tag)

/-- CFG_COMMIT (R546, R766): it completes with COMMIT_COMPLETE. -/
def execCfgCommit (t : Nat) (c : Cmd) (s : State) : Host.Outcome State Fault Refusal :=
  (s.command t (specCfgCommit c) c (bodyCfgCommit c)).done

/-- The checks of CFG_FACTORY (R546, R770). -/
def specCfgFactory (c : Cmd) : State → Spec :=
  fun _ => { op := 0x0A, fault := faultAt [(c.w 8 != 0x46414354, 8)] }

/-- The effect of CFG_FACTORY (R546, R770). -/
def bodyCfgFactory (_c : Cmd) : State → Option Reply × State :=
  okWith fun s =>
    (s.addRec 1 0 3 0 0).wf Reg.SYS_RESTORE.FACTORY_PENDING 1

/-- CFG_FACTORY (R546, R770). -/
def execCfgFactory (t : Nat) (c : Cmd) (s : State) : Host.Outcome State Fault Refusal :=
  (s.command t (specCfgFactory c) c (bodyCfgFactory c)).done

/-- The checks of CFG_CONFIRM (R546, R772). -/
def specCfgConfirm (_c : Cmd) : State → Spec :=
  fun s => { op := 0x0B, notReady := !s.rb Reg.SYS_RESTORE.RETAIN_DISAGREE }

/-- The effect of CFG_CONFIRM (R546, R772). -/
def bodyCfgConfirm (_c : Cmd) : State → Option Reply × State :=
  fun s =>
    let a := (s.slot 0).getD Slot.empty
    let (n, s) := (s.addRec 0 0 2 a.gen a.hcrc).confirmAll
    (some ⟨0, 0, n⟩, s)

/-- CFG_CONFIRM (R546, R772): the points released. -/
def execCfgConfirm (t : Nat) (c : Cmd) (s : State) : Host.Outcome State Fault Refusal :=
  (s.command t (specCfgConfirm c) c (bodyCfgConfirm c)).done

/-! Commits and checkpoints. -/

/-- COMMIT_COMPLETE (R766): steps 4 to 6 of the commit that runs. -/
def execCommitComplete (t : Nat) (s : State) : Host.Outcome State Fault Refusal :=
  let s1 := s.at_ t
  match s1.img.run with
  | some c => if s1.pwr.failing || !s1.pwr.mainUp then s.done else (s1.commitEnd c).done
  | none => s.done

/-- AUTO_COMMIT (R768). -/
def execAutoCommit (t : Nat) (s : State) : Host.Outcome State Fault Refusal :=
  let s1 := s.at_ t
  let auto := s1.rf Reg.SYS_CFG.AUTO_S
  let host := s1.rb Reg.SYS_COMMIT_STAT.DIRTY_HOST
  let mod_ := s1.rb Reg.SYS_COMMIT_STAT.DIRTY_MOD
  let now := s1.tim.now
  let due := (host && s1.img.dirtyAt != 0 && decide (s1.img.dirtyAt - 1 + ofS auto ≤ now)) ||
    (!host && mod_ && decide (s1.img.commitAt + ofS 86400 ≤ now))
  if auto == 0 || s1.img.run.isSome || s1.rb Reg.SYS_RESTORE.RETAIN_DISAGREE || !s1.ready 10 || !due then s.done
  else (s1.commitBegin 1 0 0).done

/-- R775: CKPT_S seconds have passed since a write, or none has taken place. -/
def State.ckptDue (s : State) (at_ : Nat) : Bool := at_ == 0 || decide (at_ - 1 + ofS (s.rf Reg.SYS_CFG.CKPT_S) ≤ s.tim.now)

/-- CHECKPOINT_WRITE (R773, R775): block `b`. -/
def execCheckpointWrite (t b : Nat) (s : State) : Host.Outcome State Fault Refusal :=
  let s1 := s.at_ t
  if !s1.ready 12 || s1.img.use == 0 || !s1.blocksUsed.contains b || !s1.ckptDue (tget 0 s1.img.ckptAt b) then s.done
  else (s1.writeBlock b).done

/-- LOOP_BLOCK_WRITE (R774): after a change of a MODE or SP, and once per CKPT_S. -/
def execLoopBlockWrite (t : Nat) (s : State) : Host.Outcome State Fault Refusal :=
  let s1 := s.at_ t
  let same := s1.inUse.loops_.any fun k => k.modes == s1.loopNow.modes
  if !s1.ready 12 || s1.img.use == 0 || (same && !s1.ckptDue s1.img.loopAt) then s.done else s1.writeLoops.done

/-! Starts. -/

/-- R668, R670, R735, R745: the supply of the Keeper's domain `src` is good: the sources, the reservoir at `store`, the clocks. -/
def State.lshipPower (src store : Nat) (s : State) : State :=
  let s := s.rtcNow
  let s := (s.onPwr fun p => { p with lshipUp := true, goodAt := if src == 1 then 0 else s.tim.now + 1 }).wf Reg.BKP_STAT.ON_VBAK 0
  let s := s.onTim fun m => { m with lwtBase := rtcWt s.bkp.rtc, lwtAt := m.now }
  let s := if src == 0 then s.wf Reg.PWR_SUPPLY_STAT.EMER_OK 1 else if src == 1 then (s.wf Reg.PWR_SUPPLY_STAT.MAIN_OK 1).pwronAsk 1 else s
  let s := if s.bkp.winBad then s else s.trimBegin
  let s := ((s.wf Reg.PWR_SUPPLY_STAT.LSHIP_SRC src).scapRead store).onPwr fun p => { p with charging := src != 2 && decide (store < 16000) }
  s.wf Reg.PWR_CLK_STAT.LREF_OK 1

/-- R769, R775: the retained image of the Keeper's domain is read. -/
def State.lshipImage (s : State) : State :=
  let s := (s.choose).restoreLship
  let s := s.restoreRegs s.inUse.regs mainReg
  (((s.wf Reg.LTN_STAT.UNCLEAN (s.rf bkpLtnUnclean)).wf bkpLtnUnclean 0).bkpUnlatch)

/-- LSHIP_POWER_GOOD (R321, R655, R675, R688, R719, R733, R769, R781 steps 1 to 5): instant L. `corrupt`: the firmware banks that
no longer verify; `src`: the feed, 0 EMER, 1 MAIN, 2 the store, which stands at `store` mV. -/
def execLshipPowerGood (t corrupt src store : Nat) (s : State) : Host.Outcome State Fault Refusal :=
  let s1 := s.at_ t
  if s1.pwr.lshipUp || 2 < src then s.done
  else
    let s1 := ((s1.lshipPower src store).lshipImage).romBoot corrupt
    (if s1.rf Reg.KPR_STAT.STATE == 2 then s1 else s1.lshipStart).done

/-- R358: the power-fail area moves into the spool. -/
def State.areaSpool (s : State) : State :=
  let (s, ev) := (s.onLdg fun l => { l with pfArea := [], pfValid := false }).spoolTake s.ldg.pfArea
  ev.foldl (fun s e => s.raise e.1 e.2.1 e.2.2) s

/-- R408, R439, R764, R776, R777: what was retained is restored: its records, the counts of free coins, the ports, the power-fail area. -/
def State.restoreMain (s : State) : State :=
  let s := (s.onLdg fun l => { l with binSets := [] }).restoreAll
  let s := s.onImg fun m => { m with asked := false, commitAt := s.tim.now }
  let on := (List.range 128).filter fun p => s.rb (Reg.FAB_PORT.EN p)
  let s := s.wf Reg.FAB_COIN_FREE.COINS (2621440 - on.foldl (fun a p => a + s.portReserve p) 0)
  let s := on.foldl (fun s p => s.portState p 1) s
  let s := if s.ldg.pfValid then s.areaSpool else s
  (s.tileGates.oeGates).wf Reg.PWR_SUPPLY_STAT.MAIN_STATE 2

/-- RESTORE_DONE (R408, R439, R764, R771, R776, R777, R778): the sections have been read; those that failed their CRC. -/
def execRestoreDone (t : Nat) (bad : List Nat) (s : State) : Host.Outcome State Fault Refusal :=
  let s1 := s.at_ t
  if !s1.pwr.mainUp || s1.pwr.failing || !s1.img.asked || s1.ready 10 then s.done
  else
    let fails := (bad.filter fun k => decide (1 ≤ k) && decide (k ≤ 10)).eraseDups
    if s1.img.use != 0 && !fails.isEmpty then
      let s1 := s1.setSlot (s1.img.use - 1) (some { s1.inUse with bad := true })
      let s1 := (s1.bump Reg.SYS_SECT_ERR_CNT.COUNT).wf Reg.SYS_RESTORE.SECT_RETRY 1
      let s1 := (s1.choose).restoreLship
      (s1.restoreRegs s1.inUse.regs fun o => decide (0x180000 ≤ o)).done
    else ((((s1.restoreMain.setReady 9).setReady 10).setReady 11).setReady 13).done

end Sys2Proof.Machine
end

