-- ==== Sys2Proof/Machine/RegRules.lean ====
section
/-! DEFINITION. Register writes by block: which words are not applied (R84, R141, R183, R326, R379, R441, R484, R536, R594, R639, R666,
R696, R732, R761, R784), and what an applied word brings about. -/

namespace Sys2Proof.Machine

/-! Words outside their range: `w` is the word that the write would leave at BAR0 offset `off`. -/

/-- Bits of a word. -/
def bits (w lo n : Nat) : Nat := (w >>> lo) % 2 ^ n

/-- A value lies outside a range. -/
def outside (lo hi x : Nat) : Bool := decide (x < lo) || decide (hi < x)

/-- R84: a word of a profile, judged against the profile's other words as they stand. -/
def State.profileBad (s : State) (off w : Nat) : Bool :=
  let o := off / 16 * 16
  let word (k : Nat) : Nat := if off == o + 4 * k then w else (s.rd (o + 4 * k)).toNat
  (profileFault (word 0) (word 1) (word 2) (word 3)).isSome

/-- R183. -/
def secBad (off w : Nat) : Bool :=
  if off == 0x30004 then outside 200 10000 (bits w 0 14)
  else if off == 0x30008 then decide (3600 < bits w 0 12)
  else if off < 0x31000 then false
  else if off % 16 == 0 then bits w 0 10 == 0 || decide (bits w 0 10 ≤ bits w 10 10)
  else if off % 16 == 4 then outside 1 3600 (bits w 0 12)
  else false

/-- R379: an entry with VALID names its volume. -/
def State.ldgBad (s : State) (off w : Nat) : Bool :=
  if off == 0x70004 then outside 64 3072 (bits w 0 12)
  else if off == 0x70008 then outside 10 10000 (bits w 0 14)
  else if off == 0x7000C || (0x70100 ≤ off && off < 0x70140) then bits w 10 1 == 1 && !s.rb (Reg.HST_VOL.LEDGER (bits w 0 10))
  else 0x71000 ≤ off && bits w 16 14 == 0

/-- R436, R441: a word of FAB_PORT[p]. -/
def State.portBad (s : State) (p off w : Nat) : Bool :=
  let on := s.rb (Reg.FAB_PORT.EN p)
  let old := (s.rd off).toNat
  let o := off % 64
  if o == 0 then
    if on then bits w 1 3 != bits old 1 3
    else bits w 0 1 == 1 && (s.wr off (BitVec.ofNat 32 w)).enableBad p
  else if 0x10 ≤ o && o < 0x20 then
    (on && w != old) || outside 1 32767 (bits w 0 16) || outside 1 32767 (bits w 16 16) || (o == 0x10 && decide (bits w 0 16 < 290))
  else 0x20 ≤ o && o < 0x38 && (List.range 4).any fun k => bits w (8 * k) 8 == 0

/-- R433 to R443, R480 to R484. -/
def State.fabBad (s : State) (off w : Nat) : Bool :=
  let o := off - 0x90000
  let old := (s.rd off).toNat
  if o == 0 then
    bits w 0 24 == 0xFFFFFF || (w != old && (List.range 128).any fun p => !s.rb (Reg.FAB_PORT.MODE p) && s.rf (Reg.FAB_PORT.STATE p) != 0)
  else if o == 4 then outside 1 144 (bits w 0 8)
  else if o == 0x10 then decide (6 < bits w 9 3)
  else if o == 0x14 then outside 100 1000000000 w
  else if o == 0x24 then !s.rootRtc || bits w 17 2 == 3
  else if 0x104 ≤ o && o < 0x120 then bits w 0 2 == 0
  else if o == 0x200 then outside 1 1000 (bits w 8 12)
  else if o == 0x204 then
    let x := bits w 0 24
    x == 0xFFFFFF || (x != 0 && x == s.node) || (x != bits old 0 24 && s.configured.any fun i => fbit Pt.PEER_EN (s.pt i))
  else if o == 0x208 then
    let loss := bits w 0 7
    outside 10 80 loss || outside 1 10 (bits w 8 4) || decide (loss < 3 * bits w 8 4) || outside 1 100 (bits w 16 7)
  else if 0x300 ≤ o && o < 0x380 then
    let k := (o - 0x300) / 8
    let ps := [bits w 0 7, bits w 8 7]
    o % 8 == 0 && bits w 15 1 == 1 && (ps.any fun p => !s.rb (Reg.FAB_PORT.EN p) || s.rb (Reg.FAB_PORT.MODE p) ||
      (List.range 16).any fun j => j != k && s.rb (Reg.FAB_RING.EN j) &&
        (s.rf (Reg.FAB_RING.PORT_CW j) == p || s.rf (Reg.FAB_RING.PORT_CCW j) == p))
  else if 0x1000 ≤ o && o < 0x3000 then s.portBad ((o - 0x1000) / 64) off w
  else if 0x3000 ≤ o && o < 0x3900 && o % 16 < 8 then (List.range 4).any fun k => bits w (8 * k) 8 == 0
  else if 0x4000 ≤ o && o < 0x6000 && o % 64 == 0x1C then
    bits w 16 2 == 3 || (bits w 16 2 == 1 && (o - 0x4000) / 64 != s.rf Reg.FAB_TIME_CTRL.PTP_PORT)
  else 0x6000 ≤ o && o < 0x6800 && o % 32 == 0 && (bits w 2 2 == 3 || bits w 4 2 == 3)

/-- R516, R533 to R536. -/
def State.hifBad (s : State) (off w : Nat) : Bool :=
  let o := off - 0x180000
  if o == 0 then outside 1 144 (bits w 0 8)
  else if 0x2000 ≤ o && o < 0x4000 then
    let n := (o - 0x2000) / 8
    let c := s.ring (bits w 0 16)
    bits w 16 1 == 1 && (!isRing c 2 || ((n == 528 || n == 634) && !fbit Ring.WORLD c))
  else if 0x10000 ≤ o then
    let fn := (o - 0x10000) / 0x1000
    let p := o % 0x1000
    if p == 0x18 then outside 6 16 (bits w 0 5) || outside 6 16 (bits w 8 5)
    else if p == 0x1C then
      let n := bits w 0 12
      let sum := (List.range 65).foldl (fun a f => a + if f == fn then n else s.rf (Reg.HIF_FN.NVEC f)) 0
      outside 1 2048 n || tget 0 s.hif.msixEn fn != 0 || (decide (s.rf (Reg.HIF_FN.NVEC fn) < n) && decide (2048 < sum))
    else p == 0x20 && bits w 0 8 == 0
  else false

/-- R599, R636, R639: a word of LIO_AI[n]. -/
def State.aiBad (s : State) (n off w : Nat) : Bool :=
  match off % 32 with
  | 0 => decide (5 < bits w 0 3) || bits w 3 2 == 3 || bits w 6 2 == 3 || bits w 8 2 == 3 ||
      (bits w 17 1 == 0 && s.rb (Reg.LIO_AI.PNT_EN n) && (s.aiPoint n).isSome) ||
      (bits w 18 1 == 0 && s.rb (Reg.LIO_AI.CMW_EN n) && (s.aiChan n).isSome)
  | 4 => !fle f32 0x41200000 w || !fle f32 w 0x44FA0000
  | 8 => decide (3600 < bits w 16 12)
  | 12 => bits w 0 2 == 3
  | _ => false

/-- R599, R618, R637, R639: a word of LIO_AO[n]. -/
def State.aoBad (s : State) (n off w : Nat) : Bool :=
  match off % 32 with
  | 0 => bits w 4 2 == 3 || (bits w 3 1 == 1 && bits w 2 1 == 0) ||
      (bits w 3 1 == 1 && !s.rb (Reg.LIO_AO.MULTIDROP n) && (s.outPoint n).isSome)
  | 4 => decide (24000 < bits w 0 15)
  | 8 => decide (24000 < bits w 16 15) || decide (bits w 16 15 ≤ bits w 0 15)
  | _ => false

/-- R599, R619, R632, R638, R639: DIO_CFG of channel `ch`. -/
def State.dioBad (s : State) (ch w : Nat) : Bool :=
  let mode := bits w 0 2
  let was := s.rf (Reg.LIO_DIO.MODE ch)
  let m := mate ch
  let above := match s.groupOf ch with
    | some g => bits w 15 1 == 1 && s.rb (Reg.LIO_DIO.SAFE_ON m) &&
        decide (s.rf (Reg.LIO_GROUP.LIMIT_MA g) < bits w 18 10 + s.rf (Reg.LIO_DIO.COIL_MA m))
    | none => false
  outside 1 6500 (bits w 2 13) || bits w 16 2 == 3 || decide (1000 < bits w 18 10) || above ||
    (decide (32 ≤ ch) && (mode == 1 || mode == 2)) || (mode == 2 && was != 2 && s.rf (Reg.LIO_DIO.MODE m) != 2) ||
    (mode != was && (s.outPoint (16 + ch)).isSome)

/-- R599, R618, R619, R632, R635 to R639. -/
def State.lioBad (s : State) (off w : Nat) : Bool :=
  let o := off - 0xB0000
  if o == 0 then outside 1 1000 (bits w 0 10)
  else if 0x100 ≤ o && o < 0x500 then s.aiBad ((o - 0x100) / 32) off w
  else if 0x500 ≤ o && o < 0x700 then s.aoBad ((o - 0x500) / 32) off w
  else if 0x800 ≤ o && o < 0xB00 then
    if o % 16 == 0 then s.dioBad ((o - 0x800) / 16) w else o % 16 == 8 && outside 1 1000 (bits w 0 10)
  else if 0xB00 ≤ o && o < 0xC00 then
    match o % 16 with
    | 0 => outside 1 1000 (bits w 0 10) || decide (10000 < bits w 10 14)
    | 4 => outside 1 600 (bits w 0 10)
    | 8 => outside 1 600000 (bits w 0 20)
    | _ => false
  else if 0xC00 ≤ o && o % 8 == 0 then
    let g := (o - 0xC00) / 8
    outside 1 2000 (bits w 2 11) ||
      (bits w 0 1 == 1 && !s.rb (Reg.LIO_GROUP.EN g) && s.rf (Reg.LIO_DIO.MODE (24 + 2 * g)) != s.rf (Reg.LIO_DIO.MODE (25 + 2 * g)))
  else false

/-- R663, R664, R666. -/
def ltnBad (off w : Nat) : Bool :=
  if off == 0xC0000 then outside 1 60 (bits w 4 6)
  else if off == 0xC0004 then bits w 0 11 % 8 != 0 || outside 8 1280 (bits w 0 11) || outside 1 800 (bits w 16 10)
  else 0xC0040 ≤ off && off < 0xC0058 && decide (4 < bits w 0 3)

/-- R694 to R696. A rule is judged whole, with its other words as they stand, once it is VALID. -/
def State.pwrBad (s : State) (off w : Nat) : Bool :=
  if off == 0xD0020 then outside 5 30 (bits w 0 5) || outside 100 10000 (bits w 16 14)
  else if off < 0xD0100 then false
  else
    let n := (off - 0xD0100) / 16
    let t := s.wr off (BitVec.ofNat 32 w)
    let ch := t.rf (Reg.PWR_LRULE.CH n)
    let a := t.rf (Reg.PWR_LRULE.VAL_ACTIVE n)
    let b := t.rf (Reg.PWR_LRULE.VAL_IDLE n)
    let i := t.rf (Reg.PWR_LRULE.IDX n)
    if !t.rb (Reg.PWR_LRULE.VALID n) then decide (31 < ch) || decide (24000 < a) || decide (24000 < b)
    else
      !localPt (s.pt i) || (s.condOf i (t.rf (Reg.PWR_LRULE.SLOT n))).isNone ||
        (if t.rb (Reg.PWR_LRULE.KIND n) then decide (31 < ch) || decide (1 < a) || decide (1 < b) || s.rf (Reg.LIO_DIO.MODE ch) == 2
         else decide (15 < ch) || decide (24000 < a) || decide (24000 < b) || s.rb (Reg.LIO_AO.MULTIDROP ch))

/-- R729 to R732. -/
def State.kprBad (s : State) (off w : Nat) : Bool :=
  let o := off - 0xE0000
  if o == 8 then outside 100 10000 (bits w 0 14)
  else if o == 0xC then bits w 16 16 == 0
  else if o == 0x200 then
    decide (bits w 8 8 ≤ bits w 0 8) || decide (100 < bits w 8 8) || !(decide (bits w 16 7 < 24) || bits w 16 7 == 84)
  else if 0x1000 ≤ o && o < 0x1550 then
    if o % 16 == 4 then !flt f32 w (s.rd (off + 4)).toNat else o % 16 == 8 && !flt f32 (s.rd (off - 4)).toNat w
  else if 0x2000 ≤ o then
    match o % 16 with
    | 0 => decide (100 < bits w 16 7) || decide (100 < bits w 24 7) || decide (bits w 16 7 < bits w 8 7)
    | 4 => bits w 0 16 == 0
    | 8 => decide (bits w 16 12 ≤ bits w 0 12)
    | _ => false
  else false

/-- R743, R759, R761. -/
def State.bkpBad (s : State) (off w : Nat) : Bool :=
  let o := off - 0xF0000
  if o == 0x40 then
    decide (sext 17 w < -32768) || decide (32768 < sext 17 w) || s.shiftBusy || s.setBusy
  else if o == 0x48 then decide (sext 17 w < -50000) || decide (50000 < sext 17 w) || s.rf Reg.BKP_TRIM_CTRL.TRIM_SRC != 0
  else if o == 0x4C then outside 1 4000 (bits w 8 12) || bits w 20 8 == 0
  else if o == 0x80 then decide (604800 < bits w 0 20)
  else o == 0x88 && bits w 8 8 == 0

/-- R784. -/
def sysBad (w : Nat) : Bool := (bits w 0 12 != 0 && outside 10 3600 (bits w 0 12)) || decide (bits w 16 8 < 10)

/-- A word places a field outside its range, or breaks a rule of its block. -/
def State.regBad (s : State) (off w : Nat) : Bool :=
  match off >>> 16 with
  | 0 => off == 0xC && sysBad w
  | 1 => if off == 0x10000 then decide (8760 < bits w 0 16) else 0x11400 ≤ off && s.profileBad off w
  | 2 => (off == 0x20004 && outside 1 86400 (bits w 0 17)) || (off == 0x20008 && decide (1048575 < bits w 0 21))
  | 3 => secBad off w
  | 6 => s.bcnBad off w
  | 7 => s.ldgBad off w
  | 9 => s.fabBad off w
  | 11 => s.lioBad off w
  | 12 => ltnBad off w
  | 13 => s.pwrBad off w
  | 14 => s.kprBad off w
  | 15 => s.bkpBad off w
  | b => 24 ≤ b && s.hifBad off w

/-- The counter of a block's writes that are not applied. -/
def rejectCnt (off : Nat) : Option RFld :=
  match off >>> 16 with
  | 0 => some Reg.SYS_RANGE_REJECT_CNT.COUNT
  | 1 => some Reg.ALM_RANGE_REJECT_CNT.COUNT
  | 2 => some Reg.ALM_RANGE_REJECT_CNT.COUNT
  | 3 => some Reg.SEC_RANGE_REJECT_CNT.COUNT
  | 6 => some Reg.BCN_RANGE_REJECT_CNT.COUNT
  | 7 => some Reg.LDG_RANGE_REJECT_CNT.COUNT
  | 9 => some Reg.FAB_RANGE_REJECT_CNT.COUNT
  | 10 => some Reg.WLD_RANGE_REJECT_CNT.COUNT
  | 11 => some Reg.LIO_RANGE_REJECT_CNT.COUNT
  | 12 => some Reg.LTN_RANGE_REJECT_CNT.COUNT
  | 13 => some Reg.PWR_RANGE_REJECT_CNT.COUNT
  | 14 => some Reg.KPR_RANGE_REJECT_CNT.COUNT
  | 15 => some Reg.BKP_RANGE_REJECT_CNT.COUNT
  | b => if 24 ≤ b then some Reg.HIF_RANGE_REJECT_CNT.COUNT else none

/-- A write that is not applied: its counter, and for a profile its event (R84). -/
def State.writeReject (off : Nat) (s : State) : State :=
  let s := match rejectCnt off with
    | some f => s.bump f
    | none => s
  if 0x11400 ≤ off && off < 0x11800 then s.raise Ev.PNT_PROFILE_REJECT ((off - 0x11000) / 16) [off % 16] else s

/-! Worlds (R576, R577, R582, R583). -/

/-- R575, R576: the host-memory ranges that functions now use, with the world of each. -/
def State.hostRanges (s : State) : List (Bool × Nat × Nat) :=
  let rings := (s.hif.rings.filter fun e => fbit Ring.VALID e.2).map fun e =>
    (fbit Ring.WORLD e.2, fget Ring.BASE e.2, ringSize e.2 * (if fget Ring.TYPE e.2 == 0 then 64 else 32))
  let view := match s.ldg.view with
    | some (fn, a, pins) => [(secureFn fn, a, 65536 + 128 * pins.length)]
    | none => []
  let flight := s.hif.inflight.map fun i =>
    let d := i.desc.toNat
    let w := fbit Ring.WORLD (s.ring i.ring)
    if i.data then (w, d % 2 ^ 64, (d >>> 64) % 2 ^ 14) else (w, (d >>> 384) % 2 ^ 64, (d >>> 448) % 2 ^ 32)
  let posted := s.hif.posted.map fun p => (fbit Ring.WORLD (s.ring p.1), p.2.2.1, p.2.2.2)
  let filling := s.hif.outBuf.filterMap fun e => e.2.map fun b => (fbit Ring.WORLD (s.ring e.1), b.addr, b.len)
  rings ++ view ++ flight ++ posted ++ filling

/-- R577: a word of a host memory region as staged. -/
def State.hregWord (s : State) (off : Nat) : Word :=
  let v := tget 0 s.wld.staged off
  if v == 0 then s.rd off else BitVec.ofNat 32 (v - 1)

/-- The staged words of a region and its word +0x0 take effect. -/
def State.hregStaged (off w : Nat) (s : State) : State :=
  (((s.wr (off + 4) (s.hregWord (off + 4))).wr (off + 8) (s.hregWord (off + 8))).wr (off + 12) (s.hregWord (off + 12))).wr off
    (BitVec.ofNat 32 w)

/-- R576, R577: word +0x0 of a region applies the staged words and itself. -/
def State.hregApply (off w : Nat) (s : State) : State :=
  let t := s.hregStaged off w
  let n := (off - 0xA1000) / 16
  let base := t.rf (Reg.WLD_HREG.BASE_LO n) + t.rf (Reg.WLD_HREG.BASE_HI n) * 2 ^ 20
  let limit := t.rf (Reg.WLD_HREG.LIMIT_LO n) + t.rf (Reg.WLD_HREG.LIMIT_HI n) * 2 ^ 20
  if (bits w 0 1 == 1 && decide (limit < base)) || (s.hostRanges.any fun r => (t.hostDenied r.1 r.2.1 r.2.2).isSome) then
    s.bump Reg.WLD_RANGE_REJECT_CNT.COUNT
  else t

/-- A register holds a field with access LK that software writes. -/
def holdsLk (off : Nat) : Bool :=
  match findReg off with
  | some r => r.fields.any fun f => f.lk
  | none => false

/-- R588: WLD_LOCK closes an open sequence of a register that holds an LK field. -/
def State.lockSeqs (s : State) : State :=
  let hit (q : TwSeq) : Bool := q.open_ && holdsLk q.off
  let shut (q : TwSeq) : TwSeq := if hit q then { q with open_ := false } else q
  let w := s.wld
  let n := ([w.seqPF0, w.seqPF1, w.seqKpr, w.seqDbg].filter hit).length
  (s.onWld fun w => { w with seqPF0 := shut w.seqPF0, seqPF1 := shut w.seqPF1, seqKpr := shut w.seqKpr, seqDbg := shut w.seqDbg }).bump
    Reg.WLD_RANGE_REJECT_CNT.COUNT n

/-- R577, R582, R583, R594: an applied word of the WLD block. -/
def State.wldApply (off w : Nat) (s : State) : State :=
  let old := (s.rd off).toNat
  let fixed (f : Nat) : Bool := (w ^^^ old) &&& (s.rd f).toNat != 0
  let put := s.wr off (BitVec.ofNat 32 w)
  if off == 0xA0000 then if bits old 0 1 == 1 || bits w 0 1 == 0 then s else put.lockSeqs
  else if off == 0xA0008 || off == 0xA000C then if fixed (off + 8) then s.bump Reg.WLD_RANGE_REJECT_CNT.COUNT else put
  else if off == 0xA0018 || off == 0xA001C then if fixed (off + 8) then s.bump Reg.WLD_RANGE_REJECT_CNT.COUNT else put
  else if off < 0xA1000 then s
  else if off % 16 == 0 then s.hregApply off w
  else s.onWld fun x => { x with staged := tset 0 x.staged off (w + 1) }

/-! What an applied word brings about. `put` writes the word. -/

/-- R164, R171: SEC_CTRL. -/
def State.secCtrl (w : Nat) (put : State → State) (s : State) : State :=
  let s := put (s.suppSwitch (bits w 0 1 == 1))
  if bits w 1 1 == 0 then s.floodsOff (watchList s.floodMask) else s

/-- R171, R183: a word of SEC_WATCH[n]; in flood the old values stay in force until the recount. -/
def State.watchWrite (off w : Nat) (put : State → State) (s : State) : State :=
  let n := (off - 0x31000) / 16
  let s := if s.inFlood n then let v := s.floodVals n; s.onSec fun x => { x with inForce := tset none x.inForce n (some v) } else s
  let s := put s
  if off % 16 == 0 && bits w 20 1 == 0 then s.floodsOff [n] else s

/-- R390, R441: word +0x0 of FAB_PORT[p]; EN moves last. -/
def State.portWrite (off w : Nat) (s : State) : State :=
  let p := (off - 0x91000) / 64
  let was := s.rb (Reg.FAB_PORT.EN p)
  let on := bits w 0 1 == 1
  let s := s.wr off (BitVec.ofNat 32 (w / 2 * 2 + b2n was))
  if on == was then s else if on then s.portEnable p else s.portDisable p

/-- R453, R481: FAB_RING[k]; the wrap flags follow its ports. -/
def State.ringWrite (k : Nat) (put : State → State) (s : State) : State :=
  let s := put s
  if !s.rb (Reg.FAB_RING.EN k) then (s.wf (Reg.FAB_RING.WRAP_CW k) 0).wf (Reg.FAB_RING.WRAP_CCW k) 0
  else
    let a := s.rf (Reg.FAB_RING.PORT_CW k)
    let b := s.rf (Reg.FAB_RING.PORT_CCW k)
    (s.ringWrap a (!s.portUp a)).ringWrap b (!s.portUp b)

/-- FAB registers. -/
def State.fabApply (off w : Nat) (put : State → State) (s : State) : State :=
  let o := off - 0x90000
  if o == 0x24 then (put s).utcFollow
  else if o == 0x204 then (put s).autoBack (!s.rb Reg.FAB_OWN_CTRL.AUTO_BACK)
  else if 0x300 ≤ o && o < 0x380 then s.ringWrite ((o - 0x300) / 8) put
  else if 0x1000 ≤ o && o < 0x3000 && o % 64 == 0 then s.portWrite off w
  else put s

/-- R618: AO_CFG. -/
def State.aoWrite (n : Nat) (put : State → State) (s : State) : State :=
  let was := s.rb (Reg.LIO_AO.MULTIDROP n)
  let s := put s
  let now := s.rb (Reg.LIO_AO.MULTIDROP n)
  if now == was then s
  else if now then (s.setDac n (dacCode (4000, 1))).wf (Reg.LIO_AO.PARKED n) 1
  else s.wf (Reg.LIO_AO.PARKED n) 0

/-- R619: DIO_CFG; a channel that leaves its output mode switches off first. -/
def State.dioWrite (ch w : Nat) (put : State → State) (s : State) : State :=
  let was := s.rf (Reg.LIO_DIO.MODE ch)
  if bits w 0 2 == was then put s
  else
    let s := if was == 2 then s.pulseCut (ch / 2) else s
    put (if was == 1 || was == 2 then s.doCommand ch false else s)

/-- LIO registers. -/
def State.lioApply (off w wo : Nat) (put : State → State) (s : State) : State :=
  let o := off - 0xB0000
  if 0x100 ≤ o && o < 0x500 then (if o % 32 < 0x14 then s.aiConfig ((o - 0x100) / 32) put else put s)
  else if 0x500 ≤ o && o < 0x700 && o % 32 == 0 then s.aoWrite ((o - 0x500) / 32) put
  else if 0x700 ≤ o && o < 0x800 && o % 16 == 0 then s.hartPush ((o - 0x700) / 16) wo
  else if 0x800 ≤ o && o < 0xB00 && o % 16 == 0 then s.dioWrite ((o - 0x800) / 16) w put
  else if 0xC00 ≤ o && o % 8 == 0 then
    let g := (o - 0xC00) / 8
    let s := put s
    s.wf (Reg.LIO_GROUP.FEED g) (b2n (s.rb (Reg.LIO_GROUP.EN g) && (s.swOn (24 + 2 * g) || s.swOn (25 + 2 * g))))
  else put s

/-- LTN registers (R655, R657, R666). -/
def State.ltnApply (off : Nat) (put : State → State) (s : State) : State :=
  let en := s.rb Reg.LTN_PANEL_CTRL.PANEL_EN
  let ret := s.rb Reg.LTN_PANEL_CTRL.RETAIN
  let s := put s
  if off == 0xC0000 then
    let s := s.vcomSettle
    let e := s.rb Reg.LTN_PANEL_CTRL.PANEL_EN
    let r := s.rb Reg.LTN_PANEL_CTRL.RETAIN
    let s := if e == en then s else if e then s.panelStart else s.panelStop
    if r == ret then s else if r then s.panelRetain else s.panelResume
  else if off == 0xC0004 then s.geomSettle
  else if off == 0xC0008 then s.lightSettle
  else s.composeAsk

/-- PWR registers (R678, R687). -/
def State.pwrApply (off : Nat) (put : State → State) (s : State) : State :=
  let s := put s
  if off == 0xD0024 then s.tileGates.oeGates.ctlGauges.fftWake
  else if 0xD0100 ≤ off then
    let s := s.ruleGauge
    if s.rb Reg.LIO_STAT.LOGIC_SRC then s.lrules else s
  else s

/-- KPR registers (R699, R709, R710, R729). RESTART reads as 0 again once the Keeper is reset. -/
def State.kprApply (off w wo : Nat) (put : State → State) (s : State) : State :=
  let o := off - 0xE0000
  let s := put s
  if o == 0x100 then
    let s := match s.kpr.boot with
      | some b => (s.setBoot { b with relays := bits w 8 8 }).bcnSettle
      | none => s
    if bits w 0 1 == 1 then (s.wf Reg.KPR_CTRL.RESTART 0).keeperReset 4 else s
  else if 0x2000 ≤ o && o < 0x2040 && o % 16 == 0 then
    let n := (o - 0x2000) / 16
    let s := s.fansFollow
    let s := if bits wo 2 1 == 1 && s.fanState n == 5 then s.fanStart n 0 else s
    if s.keeperRuns && s.rb (Reg.KPR_FAN.EXPERT n) then s.fanDrives [n] else s
  else s

/-- BKP registers (R739 to R745, R754, R755); `o` is the offset within the block. -/
def State.bkpApply (o w wo : Nat) (put : State → State) (s : State) : State :=
  match o with
  | 0x08 => if bits wo 0 1 == 1 then s.rtcCapture else s
  | 0x3C =>
    if bits w 0 1 == 0 then put s
    else (put s).rtcSet ((s.rf Reg.BKP_SET_SEC_LO.SEC + s.rf Reg.BKP_SET_SEC_HI.SEC * 2 ^ 32) * 32768 + s.rf Reg.BKP_SET_SUB.SUB) false
  | 0x40 => (put s).rtcShift (sext 17 w) false
  | 0x48 => put s.rtcNow
  | 0x4C =>
    let was := s.rf Reg.BKP_TRIM_CTRL.TRIM_SRC
    let s := put s
    if s.rf Reg.BKP_TRIM_CTRL.TRIM_SRC == was then s else s.trimBreak
  | 0x8C => if bits wo 5 1 == 1 && s.rb Reg.BKP_PWRON_CTRL.MODE then s.wf Reg.BKP_PWRON_STAT.ACTIVE 0 else s
  | o =>
    if o == 0x78 || o == 0x7C || o == 0x88 then
      let s := put s.rtcNow
      s.onBkp fun b => { b with alarmFrom := rtcSec b.rtc }
    else put s

/-- HIF registers; `req` asks (R528, R529, R535). -/
def State.hifApply (off w wo : Nat) (put : State → State) (s : State) : State :=
  let o := off - 0x180000
  if o == 4 then s.hifQuench w
  else if 0x10000 ≤ o && o % 0x1000 == 0 then
    let fn := (o - 0x10000) / 0x1000
    let q := bits w 1 1 == 1
    let s := if s.rb (Reg.HIF_FN.FN_QUENCH fn) == q then s else s.fnQuench fn q
    let s := s.admEn fn (bits w 0 1 == 1)
    if bits wo 2 1 == 1 then s.fnResets 1 fn else s
  else put s

/-- A word applied at BAR0 offset `off`, `wo` the write-only bits written; a change of a restored field is pending a commit
(R768). -/
def State.regApply (off w wo : Nat) (s : State) : State :=
  let dirty := (w ^^^ (s.rd off).toNat) &&& restMask off != 0
  let put (s : State) : State := s.wr off (BitVec.ofNat 32 w)
  let s := match off >>> 16 with
    | 1 => if 0x11000 ≤ off then (put s).aiFollow else put s
    | 2 => if off == 0x20008 then (put s).spillJudge else put s
    | 3 => if off == 0x30000 then s.secCtrl w put else if 0x31000 ≤ off then s.watchWrite off w put else put s
    | 5 => if off == 0x50000 then s.holdAll (bits w 0 1 == 1) else put s
    | 6 => (put s).bcnSettle
    | 7 => put (if 0x71000 ≤ off then s.reburst ((off - 0x71000) / 4) (bits w 16 14) else s)
    | 9 => s.fabApply off w put
    | 10 => s.wldApply off w
    | 11 => s.lioApply off w wo put
    | 12 => s.ltnApply off put
    | 13 => s.pwrApply off put
    | 14 => s.kprApply off w wo put
    | 15 => s.bkpApply (off - 0xF0000) w wo put
    | b => if 24 ≤ b then s.hifApply off w wo put else put s
  if dirty then s.dirtyHost else s

end Sys2Proof.Machine
end

