-- ==== Sys2Proof/Machine/Registers.lean ====
section
/-! DEFINITION. The register path (R567 to R594, R785 to R794): who reaches which register, denials, twin-write sequencers, what a write
applies and what a read returns; and the rows of registers. Requesters: 0 to 64 the functions, 65 the Keeper, 66 and 67 the
debug port in its session's world. Offsets are those of the requester's BAR0. -/

namespace Sys2Proof.Machine

/-! Access (R568, R724, R785, R787, R791, R792, R794). -/

/-- A requester can make accesses now. -/
def State.mayAccess (s : State) (req : Nat) : Bool :=
  if req ≤ 64 then s.pwr.mainUp
  else if req == 65 then s.keeperRuns
  else req < 68 && s.pwr.lshipUp && (s.session 2).any fun x => x.auth && x.secure == (req == 67)

/-- R794: the offset in the map of PF0 of an access by a requester; a VF reaches its own page only. -/
def regAddr (req off : Nat) : Option Nat :=
  if 2 ≤ req && req ≤ 64 then if off < 0x1000 then some (0x190000 + req * 0x1000 + off) else none else some off

/-- R791, R792: the block of a register is there. -/
def State.regServed (s : State) (off : Nat) : Bool :=
  if mainReg off then s.pwr.mainUp
  else s.pwr.lshipUp && !(off >>> 16 == 14 && s.rf Reg.KPR_STAT.STATE == 0)

/-- R787: the 32-bit accesses that an access of `size` bytes makes. -/
def accesses (off size : Nat) : List Nat :=
  if size == 4 && off % 4 == 0 then [off] else if size == 8 && off % 8 == 0 then [off, off + 4] else []

/-- R535, R585: an access reaches its register: false with the denial counted where that is due. -/
def State.regOpen (req off : Nat) (s : State) : Bool × State :=
  if 0x190000 ≤ off && off < 0x1D1000 then s.pageOk req ((off - 0x190000) / 0x1000) off
  else if secureFn req then (true, s)
  else
    match findReg off with
    | none => (true, s)
    | some r =>
      if r.fields.all fun f => s.blockSecure (fieldBlock off f.lo) then (false, s.denied req 1 (regBlock off) off 1) else (true, s)

/-! Reads (R139, R499, R617, R725, R789). -/

/-- R694: PWR_LOAD shows the input powers as measured: free values; a main domain that does not run draws none. -/
def State.loadSample (s : State) : State :=
  let (m, s) := s.fresh
  let (l, s) := s.fresh
  (s.wf Reg.PWR_LOAD.MAIN_W (if s.pwr.mainUp then m % 1024 else 0)).wf Reg.PWR_LOAD.LSHIP_CW (l % 65536)

/-- Fields that the model computes from due times when they are read (R318, R479, R617, R740 to R743). -/
def State.regFresh (off : Nat) (s : State) : State :=
  if 0x60A00 ≤ off && off < 0x60A80 then s.dmRemain
  else if 0x90400 ≤ off && off < 0x90500 && off % 16 == 12 then
    s.wf (Reg.FAB_QUENCH_STAT.REMAIN_MS ((off - 0x90400) / 16)) (s.quenchRemain ((off - 0x90400) / 16))
  else if 0xB0700 ≤ off && off < 0xB0800 then s.hartSettle ((off - 0xB0700) / 16)
  else if off == 0xF0000 then
    ((s.wf Reg.BKP_STAT.CAP_BUSY (b2n s.capBusy)).wf Reg.BKP_STAT.SHIFT_BUSY (b2n s.shiftBusy)).wf Reg.BKP_STAT.SET_BUSY (b2n s.setBusy)
  else if off == 0xD0014 then s.loadSample
  else s

/-- What a read of a register returns, and what it leaves; a quiet read leaves everything. -/
def State.regTake (off : Nat) (quiet : Bool) (s : State) : Nat × State :=
  let s := s.regFresh off
  let v := (s.rd off).toNat
  if 0xB0700 ≤ off && off < 0xB0800 && off % 16 == 4 then
    let (b, t) := s.hartPop ((off - 0xB0700) / 16)
    (b, if quiet then s else t)
  else if off == 0x20048 then
    (s.alm.seq % 2 ^ 32, if quiet then s else s.wf Reg.ALM_SEQ_HI.SEQ_HI (s.alm.seq / 2 ^ 32))
  else if quiet then (v, s)
  else if off == 0x20018 then (v, s.wf Reg.ALM_TIMER_PEAK.PEAK (s.rf Reg.ALM_TIMER_USED.FINE_USED))
  else
    let m := fieldMask off fun f => f.acc == .rc
    (v, if v &&& m == 0 then s else s.wr off (maskInto m 0 (s.rd off)))

/-- R22, R569: the fields of a register that are of secure blocks, for a non-secure requester. -/
def State.hidden (s : State) (req off : Nat) : List FieldDef :=
  if secureFn req || decide (0x190000 ≤ off) then []
  else ((findReg off).map fun r => r.fields.filter fun f => s.blockSecure (fieldBlock off f.lo)).getD []

/-- One 32-bit read (R22, R585, R786, R791, R792): where only a part of the register's fields is of a secure block, that part
reads as zero, and the access is denied for it. -/
def State.regRead1 (req off : Nat) (quiet : Bool) (s : State) : Nat × State :=
  match regAddr req off with
  | none => (0, s)
  | some o =>
    if !s.regServed o || (findReg o).isNone then (0, s)
    else
      let (ok, s) := s.regOpen req o
      if !ok then (0, s)
      else
        let h := s.hidden req o
        let (v, s) := s.regTake o (quiet || 66 ≤ req)
        match h with
        | [] => (v, s)
        | f :: _ => (v &&& (0xFFFFFFFF - h.foldl (fun m f => m ||| f.mask) 0), s.denied req 1 (fieldBlock o f.lo) o 1)

/-- A read: its value goes to the requester. -/
def State.regRead (req off size : Nat) (quiet : Bool) (s : State) : State :=
  if !s.mayAccess req then s
  else
    let (v, s) := (accesses off size).foldl (fun (p : Nat × State) o =>
      let (x, t) := p.2.regRead1 req o quiet
      (p.1 + x * 2 ^ (8 * (o - off)), t)) (0, s)
    s.onHif fun h => { h with readOut := tset 0 h.readOut req v }

/-! Applying a word (R26, R27, R572, R583, R585, R791). -/

/-- R27, R535: the fields that a requester's write reaches. -/
def writable (req off : Nat) (f : FieldDef) : Bool :=
  (f.acc == .rw || f.acc == .tw || f.acc == .wo || f.acc == .w1c) &&
    !(req != 0 && 0x190000 ≤ off && off < 0x1D1000 && (off % 0x1000 == 0x1C || off % 0x1000 == 0x20))

/-- R572, R585: a field that the non-secure world may not change. -/
def State.keptNs (s : State) (req off : Nat) (f : FieldDef) : Bool :=
  !secureFn req && off < 0x190000 && ((f.lk && s.wld.lkSecure) || s.blockSecure (fieldBlock off f.lo))

/-- R583, R791: a field that no write changes now. -/
def State.keptNow (s : State) (req off : Nat) (f : FieldDef) : Bool :=
  (f.lk && s.rb Reg.WLD_LOCK.LOCK) || (f.rest != .no && decide (req ≤ 64) && mainReg off && off < 0x180000 && !s.ready 10)

/-- The fields of `r` with `p` as a mask. -/
def regMask (r : RegDef) (p : FieldDef → Bool) : Nat := (r.fields.filter p).foldl (fun m f => m ||| f.mask) 0

/-- A word written to a register is applied to its fields, or not applied where it is out of range. -/
def State.regCommit (req off v : Nat) (s : State) : State :=
  match findReg off with
  | none => s
  | some r =>
    let old := (s.rd off).toNat
    let mine (f : FieldDef) : Bool := writable req off f
    let kept := r.fields.filter fun f => mine f && s.keptNs req off f && (v ^^^ old) &&& f.mask != 0
    let s := match kept with
      | [] => s
      | f :: _ => s.denied req 1 (fieldBlock off f.lo) off 1
    let free (f : FieldDef) : Bool := mine f && !s.keptNs req off f && !s.keptNow req off f
    let rw := regMask r fun f => free f && (f.acc == .rw || f.acc == .tw)
    let rw := if off == 0x40000 && bits v 8 8 == 0 then rw &&& 0xFFFF00FF else rw
    let wo := v &&& regMask r fun f => free f && f.acc == .wo
    let one := v &&& regMask r fun f => free f && f.acc == .w1c
    let new := (maskInto rw v (s.rd off)).toNat
    if (rw != 0 && s.regBad off new) || (off == 0xF0000 && bits one 0 1 == 1 && s.rb Reg.BKP_STAT.OSC_FAIL) then s.writeReject off
    else if rw == 0 && wo == 0 && one == 0 then s
    else
      let s := if one == 0 then s else s.wr off (maskInto one 0 (s.rd off))
      if rw == 0 && wo == 0 then s else s.regApply off (new &&& (0xFFFFFFFF - one)) wo

/-! Twin-write sequencers (R588). -/

def State.twSeq (s : State) (req : Nat) : TwSeq :=
  if req == 0 then s.wld.seqPF0 else if req == 1 then s.wld.seqPF1 else if req == 65 then s.wld.seqKpr else s.wld.seqDbg

def State.setTwSeq (req : Nat) (q : TwSeq) (s : State) : State :=
  s.onWld fun w =>
    if req == 0 then { w with seqPF0 := q } else if req == 1 then { w with seqPF1 := q }
    else if req == 65 then { w with seqKpr := q } else { w with seqDbg := q }

/-- The sequence is closed. -/
def State.seqShut (req : Nat) (s : State) : State := s.setTwSeq req { s.twSeq req with open_ := false }

/-- A pair that fails. -/
def State.pairFail (q : TwSeq) (second : Nat) (s : State) : State :=
  (s.bump Reg.WLD_TW_REG_CNT.COUNT).twinEvent q.off (regBlock q.off) second q.v

/-- More than 256 µs have passed: the sequence expires; one of the Keeper while it is halted also counts as aborted (R726). -/
def State.seqExpire (req : Nat) (s : State) : State :=
  let q := s.twSeq req
  if !q.open_ || decide (s.tim.now ≤ q.t + ofUs 256) then s
  else
    let s := ((s.seqShut req).bump Reg.WLD_TW_TMO_CNT.COUNT).twinEvent q.off (regBlock q.off) q.v q.v
    if req == 65 && s.rb Reg.KPR_DBG_STAT.HALTED then (s.bump Reg.KPR_SEQ_ABORT_CNT.COUNT).raise Ev.KPR_SEQ_ABORT 0 [0] else s

/-- A word of a register that holds a TW field. -/
def State.seqWrite (req off v : Nat) (s : State) : State :=
  let s := s.seqExpire req
  let q := s.twSeq req
  if q.open_ && q.off == off then
    let s := s.seqShut req
    if twinOk q.v v then s.regCommit req off q.v else s.pairFail q v
  else
    let s := if q.open_ then s.pairFail q v else s
    s.setTwSeq req ⟨true, off, v, s.tim.now⟩

/-- One 32-bit write (R583, R585, R588, R786, R791, R792). A non-secure debug session writes nothing (R724). -/
def State.regWrite1 (req off v : Nat) (s : State) : State :=
  match regAddr req off with
  | none => s
  | some o =>
    match findReg o with
    | none => s
    | some r =>
      if !s.regServed o || req == 66 then s
      else
        let (ok, s) := s.regOpen req o
        let fs := r.fields.filter (writable req o)
        if !ok || fs.isEmpty then s
        else if s.rb Reg.WLD_LOCK.LOCK && fs.all fun f => f.lk then
          if o >>> 16 == 10 then s.bump Reg.WLD_RANGE_REJECT_CNT.COUNT else s
        else if fs.any fun f => f.acc == .tw then s.seqWrite req o v
        else s.regCommit req o v

/-- A write (R787, R790). -/
def State.regWrite (req off size v : Nat) (s : State) : State :=
  if !s.mayAccess req then s
  else (accesses off size).foldl (fun s o => s.regWrite1 req o ((v >>> (8 * (o - off))) % 2 ^ 32)) s

/-- A register holds a TW field. -/
def isTw (off : Nat) : Bool :=
  match findReg off with
  | some r => r.fields.any fun f => f.acc == .tw
  | none => false

/-- The sequence of a requester is open at a register and in time. -/
def State.seqAt (s : State) (req off : Nat) : Bool :=
  let q := s.twSeq req
  q.open_ && q.off == off && decide (s.tim.now ≤ q.t + ofUs 256)

/-- A second word at a register whose sequence is open. -/
def State.secondWord (req off v : Nat) (s : State) : State := if s.seqAt req off then s.regWrite req off 4 v else s

/-! Rows. -/

/-- TWIN_WRITE_OPEN (R588): a first word. -/
def execTwinWriteOpen (t req off v : Nat) (s : State) : Host.Outcome State Fault Refusal :=
  let s1 := s.at_ t
  if !isTw off || s1.seqAt req off then s.done else (s1.regWrite req off 4 v).done

/-- TWIN_WRITE_CLOSE (R588): a second word. -/
def execTwinWriteClose (t req off v : Nat) (s : State) : Host.Outcome State Fault Refusal := ((s.at_ t).secondWord req off v).done

/-- TWIN_WRITE_TIMEOUT (R588). -/
def execTwinWriteTimeout (t req : Nat) (s : State) : Host.Outcome State Fault Refusal :=
  if 2 ≤ req && req ≤ 64 then s.done else ((s.at_ t).seqExpire req).done

/-- WLD_LOCK_SET (R583): the second word of WLD_LOCK. -/
def execWldLockSet (t req v : Nat) (s : State) : Host.Outcome State Fault Refusal := ((s.at_ t).secondWord req 0xA0000 v).done

/-- WLD_WORLD_CHANGE (R582): the second word of WLD_BLOCK_LO, WLD_BLOCK_HI, WLD_HBM_LO or WLD_HBM_HI, `k` from 0. -/
def execWldWorldChange (t req k v : Nat) (s : State) : Host.Outcome State Fault Refusal :=
  ((s.at_ t).secondWord req (0xA0008 + 4 * (k % 2) + 16 * (k / 2 % 2)) v).done

/-- WLD_HREG_APPLY (R576, R577): the second word of +0x0 of region `n`. -/
def execWldHregApply (t req n v : Nat) (s : State) : Host.Outcome State Fault Refusal :=
  if 256 ≤ n then s.done else ((s.at_ t).secondWord req (0xA1000 + 16 * n) v).done

/-- REGISTER_WRITE (R787, R790). -/
def execRegisterWrite (t req off size v : Nat) (s : State) : Host.Outcome State Fault Refusal :=
  ((s.at_ t).regWrite req off size v).done

/-- RC_FIELD_READ (R725, R786 to R789); `quiet`: a debug read. -/
def execRcFieldRead (t req off size : Nat) (quiet : Bool) (s : State) : Host.Outcome State Fault Refusal :=
  ((s.at_ t).regRead req off size quiet).done

/-- ALM_SEQ_LO_READ (R139, R788). -/
def execAlmSeqLoRead (t req : Nat) (quiet : Bool) (s : State) : Host.Outcome State Fault Refusal :=
  ((s.at_ t).regRead req 0x20048 4 quiet).done

/-- ALM_SPILL_EXIT_WRITE (R109). -/
def execAlmSpillExitWrite (t req v : Nat) (s : State) : Host.Outcome State Fault Refusal :=
  ((s.at_ t).regWrite req 0x20008 4 v).done

/-- SUPP_EN_CHANGE (R164): SEC_CTRL. -/
def execSuppEnChange (t req v : Nat) (s : State) : Host.Outcome State Fault Refusal :=
  ((s.at_ t).regWrite req 0x30000 4 v).bcnSettle.done

/-- FLOOD_EN_CLEAR (R171, R183): SEC_CTRL, or WCFG of watch `w`. -/
def execFloodEnClear (t req : Nat) (w : Option Nat) (v : Nat) (s : State) : Host.Outcome State Fault Refusal :=
  match w with
  | none => ((s.at_ t).regWrite req 0x30000 4 v).bcnSettle.done
  | some n => if 256 ≤ n then s.done else ((s.at_ t).regWrite req (0x31000 + 16 * n) 4 v).bcnSettle.done

/-- HOLD_ALL_SET (R258): the second word of CTL_HOLD_ALL. -/
def execHoldAllSet (t req v : Nat) (s : State) : Host.Outcome State Fault Refusal := ((s.at_ t).secondWord req 0x50000 v).done

/-- PANEL_EN_WRITE (R655): LTN_PANEL_CTRL. -/
def execPanelEnWrite (t req v : Nat) (s : State) : Host.Outcome State Fault Refusal := ((s.at_ t).regWrite req 0xC0000 4 v).done

/-- RETAIN_WRITE (R655): LTN_PANEL_CTRL. -/
def execRetainWrite (t req v : Nat) (s : State) : Host.Outcome State Fault Refusal := ((s.at_ t).regWrite req 0xC0000 4 v).done

/-- HART_TX_WRITE (R617). -/
def execHartTxWrite (t req n v : Nat) (s : State) : Host.Outcome State Fault Refusal :=
  if 16 ≤ n then s.done else ((s.at_ t).regWrite req (0xB0700 + 16 * n) 4 v).done

/-- HART_RX_READ (R617). -/
def execHartRxRead (t req n : Nat) (quiet : Bool) (s : State) : Host.Outcome State Fault Refusal :=
  if 16 ≤ n then s.done else ((s.at_ t).regRead req (0xB0704 + 16 * n) 4 quiet).done

/-- KPR_RESTART (R699): the second word of KPR_CTRL. -/
def execKprRestart (t req v : Nat) (s : State) : Host.Outcome State Fault Refusal := ((s.at_ t).secondWord req 0xE0100 v).done

/-- FAN_RESTART (R710): FCFG of fan `n`. -/
def execFanRestart (t req n v : Nat) (s : State) : Host.Outcome State Fault Refusal :=
  if 4 ≤ n then s.done else ((s.at_ t).regWrite req (0xE2000 + 16 * n) 4 v).done

/-- RTC_CAPTURE (R740): BKP_CAP_CTRL. -/
def execRtcCapture (t req v : Nat) (s : State) : Host.Outcome State Fault Refusal := ((s.at_ t).regWrite req 0xF0008 4 v).done

/-- RTC_SET (R742): the second word of BKP_SET_CTRL. -/
def execRtcSet (t req v : Nat) (s : State) : Host.Outcome State Fault Refusal := ((s.at_ t).secondWord req 0xF003C v).done

/-- RTC_SHIFT (R743): the second word of BKP_SHIFT. -/
def execRtcShift (t req v : Nat) (s : State) : Host.Outcome State Fault Refusal := ((s.at_ t).secondWord req 0xF0040 v).done

/-- PWRON_RELEASE (R754): BKP_PWRON_STAT. -/
def execPwronRelease (t req v : Nat) (s : State) : Host.Outcome State Fault Refusal := ((s.at_ t).regWrite req 0xF008C 4 v).done

/-- R590: a held twin at `off` whose words were upset by `a` and `b`: on a failure it is reloaded from the image in use, whose
copy is good when `img`, else from its factory value. -/
def State.heldTwin (off a b : Nat) (img : Bool) (s : State) : State :=
  let served := if mainReg off then s.pwr.mainUp else s.pwr.lshipUp
  let m := fieldMask off fun f => f.rest == .twin
  let v := (s.rd off).toNat ^^^ (a % 2 ^ 32)
  let n := (s.rdN off).toNat ^^^ (b % 2 ^ 32)
  if m == 0 || !served || (v ^^^ n) &&& m == m then s
  else
    let good := if img && s.img.use != 0 then (tget (facWord off) s.inUse.regs off).toNat else (facWord off).toNat
    ((s.wr off (maskInto m good (s.rd off))).bump Reg.WLD_HELD_TWIN_CNT.COUNT).twinEvent off (regBlock off) n v

/-- HELD_TWIN_SCRUB (R590): the registers of `upset` hold words that were upset: BAR0 offset, and the bits flipped in V and in
~V. -/
def execHeldTwinScrub (t : Nat) (upset : List (Nat × Nat × Nat)) (img : Bool) (s : State) : Host.Outcome State Fault Refusal :=
  let s1 := s.at_ t
  (upset.foldl (fun s e => s.heldTwin e.1 e.2.1 e.2.2 img) s1).done

end Sys2Proof.Machine
end

