-- ==== Sys2Proof/Machine/Topo.lean ====
section
/-! DEFINITION. The rows of a running fabric: ownership of points (R464 to R467), replication (R463), epochs and quenches (R474, R478),
time (R427, R431, R434, R752), and the fabric commands (R563). -/

namespace Sys2Proof.Machine

/-! Ownership. -/

/-- CONTACT_LOSS (R464, R465): the standby has heard nothing from home `k` of FAB_SHADOW for LOSS_MS. -/
def execContactLoss (t k : Nat) (s : State) : Host.Outcome State Fault Refusal :=
  let s1 := s.at_ t
  if !s1.pwr.mainUp || 4 ≤ k || !s1.rb (Reg.FAB_SHADOW.VALID k) || s1.rf (Reg.FAB_SHADOW.SB_STATE k) != 0 ||
      s1.tim.now < (s1.shadowX k).contact + ofMs (s1.rf Reg.FAB_OWN_TIMING.LOSS_MS) then s.done
  else (s1.startTaking k none).done

/-- TAKEOVER (R465 to R467): the wait of home `k` of FAB_SHADOW is over; 4: this node's own wait as a home. -/
def execTakeover (t k : Nat) (s : State) : Host.Outcome State Fault Refusal :=
  let s1 := s.at_ t
  if !s1.pwr.mainUp then s.done
  else if 4 ≤ k then (if s1.rf Reg.FAB_OWN_STAT.HOME_STATE == 3 then s1.takeBack else s1).done
  else if s1.rb (Reg.FAB_SHADOW.VALID k) && s1.rf (Reg.FAB_SHADOW.SB_STATE k) == 1 then (s1.takeover k).done else s1.done

/-- HANDBACK_TIMEOUT (R465): no ACCEPT within 100 ms. -/
def execHandbackTimeout (t k : Nat) (s : State) : Host.Outcome State Fault Refusal :=
  let s1 := s.at_ t
  if !s1.pwr.mainUp || 4 ≤ k || s1.rf (Reg.FAB_SHADOW.SB_STATE k) != 3 || s1.tim.now < (s1.shadowX k).entered + ofMs 100 then s.done
  else (s1.returnFails k).done

/-- HEARTBEAT_SEND (R464): every HB_MS, to the standby and to every home of FAB_SHADOW. -/
def execHeartbeatSend (t : Nat) (s : State) : Host.Outcome State Fault Refusal :=
  let s1 := s.at_ t
  if !s1.pwr.mainUp || s1.tim.now < s1.fab.beatAt + ofMs (s1.rf Reg.FAB_OWN_TIMING.HB_MS) then s.done
  else
    let s1 := s1.onFab fun f => { f with beatAt := s1.tim.now }
    let sb := s1.rf Reg.FAB_OWN_CTRL.STANDBY
    let s1 := if sb == 0 then s1 else s1.handover sb 0 s1.node 0 (decide (s1.rf Reg.FAB_OWN_STAT.HOME_STATE < 2))
    ((List.range 4).foldl (fun s k =>
      if s.rb (Reg.FAB_SHADOW.VALID k) then
        let h := s.rf (Reg.FAB_SHADOW.HOME k)
        s.handover h 0 h 0 (decide (2 ≤ s.rf (Reg.FAB_SHADOW.SB_STATE k)))
      else s) s1).done

/-- ALIAS_LEARN_TIMEOUT (R467): 100 ms after the first Apast port went UP. -/
def execAliasLearnTimeout (t : Nat) (s : State) : Host.Outcome State Fault Refusal :=
  let s1 := s.at_ t
  if !s1.pwr.mainUp || s1.fab.homeSet || s1.fab.firstUp == 0 || s1.tim.now + 1 < s1.fab.firstUp + ofMs 100 then s.done
  else s1.homeChoice.done

/-- REPL_FRAME_SEND (R463): the REPL_STATE entries that wait leave in a frame. -/
def execReplFrameSend (t : Nat) (s : State) : Host.Outcome State Fault Refusal :=
  let s1 := s.at_ t
  if !s1.pwr.mainUp || s1.fab.repl.isEmpty then s.done else s1.replSend.done

/-- RESYNC_COMPLETE (R465): all of home `k`'s configuration and state has been sent. -/
def execResyncComplete (t k : Nat) (s : State) : Host.Outcome State Fault Refusal :=
  let s1 := s.at_ t
  if !s1.pwr.mainUp || 4 ≤ k then s.done else (s1.endResync k).done

/-! Epochs and quenches. -/

/-- EPOCH_SWITCH (R474): the earliest announced epoch whose T_SWITCH has come. -/
def execEpochSwitch (t : Nat) (s : State) : Host.Outcome State Fault Refusal :=
  let s1 := s.at_ t
  let due := s1.fab.epochs.filter fun e => decide (e.2.1 ≤ s1.wt)
  let first := due.foldl (fun (b : Option (Nat × Nat × Nat)) e => match b with
    | some x => if e.2.1 < x.2.1 then some e else some x
    | none => some e) none
  match first with
  | none => s.done
  | some e =>
    if !s1.pwr.mainUp then s.done
    else ((s1.onFab fun f => { f with epochs := f.epochs.erase e }).epochAct e.1 e.2.2).done

/-- QUENCH_LAPSE (R478): quench `k` of FAB_QUENCH_STAT lapses. -/
def execQuenchLapse (t k : Nat) (s : State) : Host.Outcome State Fault Refusal :=
  let s1 := s.at_ t
  if !s1.pwr.mainUp || 16 ≤ k || !s1.rb (Reg.FAB_QUENCH_STAT.VALID k) || s1.tim.now < tget 0 s1.fab.quenchEnd k then s.done
  else
    let args := [s1.rf (Reg.FAB_QUENCH_STAT.QUENCH_ID k), s1.rf (Reg.FAB_QUENCH_STAT.TARGET k),
      s1.rf (Reg.FAB_QUENCH_STAT.CLASS_MASK k), 0]
    ((s1.putQuench k 0 0 0 0 0 false).raise Ev.FAB_QUENCH (s1.rf (Reg.FAB_QUENCH_STAT.ISSUER k)) args).done

/-! Time. -/

/-- TIME_SYNC_SEND (R427, R429): the root sends a TIME_SYNC on its TIME_DOWN ports. Its DEST_NODE is a free value. -/
def execTimeSyncSend (t : Nat) (s : State) : Host.Outcome State Fault Refusal :=
  let s1 := s.at_ t
  if !s1.pwr.mainUp || s1.node == 0 || !s1.rb Reg.FAB_TIME_CTRL.ROOT || s1.tim.now < s1.fab.syncSent + s1.syncSpan ||
      s1.rf Reg.FAB_COIN_FREE.COINS < 2 then s.done
  else
    let (d, s1) := s1.fresh
    let seq := tget 0 s1.fab.seqOut 3
    let n := s1.fab.syncSeq
    let s1 := s1.onFab fun f => { f with
      syncSent := s1.tim.now, syncSeq := (n + 1) % 65536, seqOut := tset 0 f.seqOut 3 ((seq + 1) % 2 ^ 32) }
    let src := s1.rf Reg.FAB_TIME_CTRL.ROOT_SRC
    let valid := if src == 0 && s1.rb Reg.BKP_STAT.OSC_STOP then 0 else s1.rf Reg.FAB_TIME_UTC.UTC_VALID
    let flags := s1.rf Reg.FAB_TIME_UTC.LEAP61 + 2 * s1.rf Reg.FAB_TIME_UTC.LEAP59 + 4 * valid + 8 * src + n * 2 ^ 16
    let payload := s1.node * 2 ^ 136 + flags * 2 ^ 160 + s1.rf Reg.FAB_TIME_UTC.UTC_OFS * 2 ^ 192
    if s1.selfQuenched 3 then (s1.bump Reg.FAB_QUENCH_DROP_CNT.COUNT).done
    else
      let f : Frame :=
        { dst := d % 2 ^ 24, src := s1.node, cls := 3, ptype := 0x30, seq := seq, twin := false, late := false, bcast := false
          dual := false, ccw := false, budget := s1.startBudget 3, hops := 0, len := 64, payload := payload }
      ((s1.drop Reg.FAB_COIN_FREE.COINS (coins f)).sendOut s1.timeDown { f := f, src := 134, tIn := s1.tim.now, delay := 0 }).done

/-- TIME_HOLDOVER (R431): no TIME_SYNC on either up port for 4 intervals. -/
def execTimeHoldover (t : Nat) (s : State) : Host.Outcome State Fault Refusal :=
  let s1 := s.at_ t
  let last := max s1.fab.syncAt s1.fab.sync2At
  if !s1.pwr.mainUp || s1.rootRtc || last == 0 || s1.tim.now < last + 4 * s1.syncSpan then s.done
  else ((s1.onFab fun f => { f with good := 0 }).timeState 3).done

/-- ROOT_RTC_COMPARE (R752): once per second a root on its RTC steers watch time to it. -/
def execRootRtcCompare (t : Nat) (s : State) : Host.Outcome State Fault Refusal :=
  let s1 := s.at_ t
  if !s1.pwr.mainUp || !s1.rootRtc || s1.tim.now < s1.fab.rtcAt + ofS 1 then s.done
  else
    let s1 := (s1.onFab fun f => { f with rtcAt := s1.tim.now }).rtcNow
    (s1.timeOffset s1.rtcError).done

/-- UTC_DAY_END_LEAP (R434): the UTC day whose end has a leap second is over. -/
def execUtcDayEndLeap (t : Nat) (s : State) : Host.Outcome State Fault Refusal :=
  let s1 := s.at_ t
  let up := s1.rb Reg.FAB_TIME_UTC.LEAP61
  let down := s1.rb Reg.FAB_TIME_UTC.LEAP59
  let ofs := sext 16 (s1.rf Reg.FAB_TIME_UTC.UTC_OFS) + (if up then 1 else -1)
  if !s1.pwr.mainUp || !(up || down) || (((s1.wt / 2 ^ 32 : Nat) : Int) - ofs) % 86400 != 0 then s.done
  else
    let s1 := ((s1.wf Reg.FAB_TIME_UTC.UTC_OFS (ofInt 16 ofs)).wf Reg.FAB_TIME_UTC.LEAP61 0).wf Reg.FAB_TIME_UTC.LEAP59 0
    s1.utcFollow.done

/-! The fabric commands (R563). -/

/-- R445: why a route entry may not be written. The ports and rings of an entry not in use name nothing. -/
def State.routeBad (s : State) (e : Rec 8) : Bool :=
  let plen := fget Route.PLEN e
  let kind := fget Route.KIND e
  let apast (p : Nat) : Bool := s.rb (Reg.FAB_PORT.EN p) && !s.rb (Reg.FAB_PORT.MODE p)
  decide (24 < plen) || fget Route.PREFIX e % 2 ^ (24 - plen) != 0 || kind == 3 ||
    (fbit Route.VALID e && ((kind == 0 && (!apast (fget Route.PORT e) || (fbit Route.ALT_EN e && !apast (fget Route.ALT e)))) ||
      (kind == 1 && !s.rb (Reg.FAB_RING.EN (fget Route.RING e)))))

/-- A route entry as stored: its reserved bits are zero. -/
def routeAt (v k : Nat) : Rec 8 := BitVec.ofNat 64 ((v >>> (64 * k)) &&& 0x001FFF7FFFFFFFFF)

/-- The checks of FAB_ROUTE_WRITE (R444, R445). -/
def specFabRouteWrite (c : Cmd) : State → Spec :=
  let first := c.f 8 0 12
  let n := c.f 0xC 0 13
  let ks := List.range (min n 4096)
  fun s =>
    { op := 0x90, fault := faultAt [(n == 0 || decide (4096 < first + n), 0xC)], need := 8 * n
      bfault := (ks.find? fun k => s.routeBad (routeAt c.inp k)).map fun k => 8 * k }

/-- The effect of FAB_ROUTE_WRITE (R444, R445). -/
def bodyFabRouteWrite (c : Cmd) : State → Option Reply × State :=
  let first := c.f 8 0 12
  let n := c.f 0xC 0 13
  let ks := List.range (min n 4096)
  okWith fun s =>
        (ks.foldl (fun s k => s.onFab fun f => { f with shadow := tset 0 f.shadow (first + k) (routeAt c.inp k) }) s).wf
          Reg.FAB_EPOCH_STAT.SHADOW_TAG 0

/-- FAB_ROUTE_WRITE (R444, R445). -/
def execFabRouteWrite (t : Nat) (c : Cmd) (s : State) : Host.Outcome State Fault Refusal :=
  (s.command t (specFabRouteWrite c) c (bodyFabRouteWrite c)).done

/-- The checks of FAB_ROUTE_READ (R444). -/
def specFabRouteRead (c : Cmd) : State → Spec :=
  let first := c.f 8 0 12
  let n := c.f 0xC 0 13
  fun _ =>
    { op := 0x91, fault := faultAt [(n == 0 || decide (4096 < first + n), 0xC)], need := 8 * n }

/-- The effect of FAB_ROUTE_READ (R444). -/
def bodyFabRouteRead (c : Cmd) : State → Option Reply × State :=
  let first := c.f 8 0 12
  let n := c.f 0xC 0 13
  fun s =>
      let shadow := c.f 0x10 0 1 == 1
      let bank := if shadow then s.fab.shadow else s.fab.active
      let v := (List.range n).foldl (fun a k => a + (tget 0 bank (first + k)).toNat * 2 ^ (64 * k)) 0
      let e := if shadow then s.rf Reg.FAB_EPOCH_STAT.SHADOW_TAG else s.rf Reg.FAB_EPOCH_CUR.EPOCH
      (some (Reply.with2 e 0), s.bufPut c (8 * n) v)

/-- FAB_ROUTE_READ (R444). -/
def execFabRouteRead (t : Nat) (c : Cmd) (s : State) : Host.Outcome State Fault Refusal :=
  (s.command t (specFabRouteRead c) c (bodyFabRouteRead c)).done

/-- The checks of FAB_ROUTE_COMMIT (R474). -/
def specFabRouteCommit (c : Cmd) : State → Spec :=
  fun s =>
    { op := 0x92, fault := faultAt [(decide (c.w 8 ≤ s.rf Reg.FAB_EPOCH_CUR.EPOCH), 8)] }

/-- The effect of FAB_ROUTE_COMMIT (R474). -/
def bodyFabRouteCommit (c : Cmd) : State → Option Reply × State :=
  okWith fun s =>
      s.wf Reg.FAB_EPOCH_STAT.SHADOW_TAG (c.w 8)

/-- FAB_ROUTE_COMMIT (R474). -/
def execFabRouteCommit (t : Nat) (c : Cmd) (s : State) : Host.Outcome State Fault Refusal :=
  (s.command t (specFabRouteCommit c) c (bodyFabRouteCommit c)).done

/-- The checks of FAB_EPOCH (R474). -/
def specFabEpoch (c : Cmd) : State → Spec :=
  fun s =>
    { op := 0x93
      fault := faultAt [(decide (c.w 8 ≤ s.rf Reg.FAB_EPOCH_CUR.EPOCH), 8), (decide (c.d 0x10 < s.wt + ofMs 1), 0x10)] }

/-- The effect of FAB_EPOCH (R474). -/
def bodyFabEpoch (c : Cmd) : State → Option Reply × State :=
  okWith fun s =>
        (s.control 0x03 none (c.w 8 + s.node * 2 ^ 32 + c.d 0x10 * 2 ^ 64)).epochTake (c.w 8) s.node (c.d 0x10)

/-- FAB_EPOCH (R474): broadcast, and taken by this node. -/
def execFabEpoch (t : Nat) (c : Cmd) (s : State) : Host.Outcome State Fault Refusal :=
  (s.command t (specFabEpoch c) c (bodyFabEpoch c)).done

/-- The checks of FAB_QUENCH (R478). -/
def specFabQuench (c : Cmd) : State → Spec :=
  let mask := c.f 8 24 8
  fun _ => { op := 0x94, fault := faultAt [(mask == 1, 8)] }

/-- The effect of FAB_QUENCH (R478). -/
def bodyFabQuench (c : Cmd) : State → Option Reply × State :=
  let mask := c.f 8 24 8
  okWith fun s =>
    (s.control 0x01 none (c.w 8 + c.w 0xC * 2 ^ 32 + s.node * 2 ^ 64)).quenchTake (c.f 8 0 24) mask (c.f 0xC 0 16) (c.f 0xC 16 16)
      s.node

/-- FAB_QUENCH (R478): broadcast, and held by this node. -/
def execFabQuench (t : Nat) (c : Cmd) (s : State) : Host.Outcome State Fault Refusal :=
  (s.command t (specFabQuench c) c (bodyFabQuench c)).done

/-- The checks of FAB_LEAVE (R467, R477). -/
def specFabLeave (_c : Cmd) : State → Spec :=
  fun s => { op := 0x95, notReady := s.rf Reg.FAB_OWN_CTRL.STANDBY == 0 }

/-- The effect of FAB_LEAVE (R467, R477). -/
def bodyFabLeave (_c : Cmd) : State → Option Reply × State :=
  fun s =>
    if s.rf Reg.FAB_OWN_STAT.HOME_STATE != 0 then (some (Reply.of 6), s) else (some Reply.ok, s.startLeave 0)

/-- FAB_LEAVE (R467, R477). -/
def execFabLeave (t : Nat) (c : Cmd) (s : State) : Host.Outcome State Fault Refusal :=
  (s.command t (specFabLeave c) c (bodyFabLeave c)).done

/-- The checks of FAB_HANDBACK (R465). -/
def specFabHandback (c : Cmd) : State → Spec :=
  let able (s : State) : Option Nat := (s.shadowOf (c.f 8 0 24)).filter fun k =>
    s.rf (Reg.FAB_SHADOW.SB_STATE k) == 2 && (s.shadowX k).resyncDone
  fun s => { op := 0x96, notReady := (able s).isNone }

/-- The effect of FAB_HANDBACK (R465). -/
def bodyFabHandback (c : Cmd) : State → Option Reply × State :=
  let able (s : State) : Option Nat := (s.shadowOf (c.f 8 0 24)).filter fun k =>
    s.rf (Reg.FAB_SHADOW.SB_STATE k) == 2 && (s.shadowX k).resyncDone
  fun s =>
    match able s with
    | some k => (none, s.startReturn k (c.ring + 1) c.tag)
    | none => (some (Reply.of 1), s)

/-- FAB_HANDBACK (R465). -/
def execFabHandback (t : Nat) (c : Cmd) (s : State) : Host.Outcome State Fault Refusal :=
  (s.command t (specFabHandback c) c (bodyFabHandback c)).done

/-- The checks of FAB_PORT_CTRL (R390, R441). -/
def specFabPortCtrl (c : Cmd) : State → Spec :=
  let p := c.f 8 0 7
  let op := c.f 8 8 2
  fun s => { op := 0x97, fault := faultAt [(op == 3 || (op == 1 && !s.rb (Reg.FAB_PORT.EN p) && s.enableBad p), 8)] }

/-- The effect of FAB_PORT_CTRL (R390, R441). -/
def bodyFabPortCtrl (c : Cmd) : State → Option Reply × State :=
  let p := c.f 8 0 7
  let op := c.f 8 8 2
  fun s =>
      let was := s.rb (Reg.FAB_PORT.EN p)
      let s := match op with
        | 0 => s.portDisable p
        | 1 => s.portEnable p
        | _ => if s.rf (Reg.FAB_PORT.STATE p) == 3 then s.portLeave p 1 else s
      let s := if s.rb (Reg.FAB_PORT.EN p) == was then s else s.dirtyHost
      (some (Reply.with2 (s.rf (Reg.FAB_PORT.STATE p)) 0), s)

/-- FAB_PORT_CTRL (R390, R441). -/
def execFabPortCtrl (t : Nat) (c : Cmd) (s : State) : Host.Outcome State Fault Refusal :=
  (s.command t (specFabPortCtrl c) c (bodyFabPortCtrl c)).done

/-- The checks of FAB_SV (R440, R563). -/
def specFabSv (c : Cmd) : State → Spec :=
  let point := c.f 0x10 21 1 == 1
  let target := c.f 0x18 0 23
  fun s =>
    let on := if point then idxOk target && s.kind target != kNone else fbit Chan.EN (s.chan (target % 65536))
    { op := 0x98, fault := faultAt [(c.f 0x10 22 1 == 1 && !on, 0x18)] }

/-- The effect of FAB_SV (R440, R563). -/
def bodyFabSv (c : Cmd) : State → Option Reply × State :=
  let n := c.f 8 0 8
  let target := c.f 0x18 0 23
  okWith fun s =>
      let put (o v : Nat) (s : State) : State := s.wr ((Reg.FAB_SV.APPID n).off + o) (BitVec.ofNat 32 v)
      ((((put 0 (c.f 0x10 0 23) s |> put 4 (c.w 0x14)) |> put 8 target) |> put 0xC (c.w 0x1C)) |> put 0x10 (c.w 0x20)).dirtyHost

/-- FAB_SV (R440, R563). -/
def execFabSv (t : Nat) (c : Cmd) (s : State) : Host.Outcome State Fault Refusal :=
  (s.command t (specFabSv c) c (bodyFabSv c)).done

end Sys2Proof.Machine
end

