-- ==== Sys2Proof/Machine/Dispatch.lean ====
section
/-! DEFINITION. The dispatcher: one arm for each command. -/

namespace Sys2Proof.Machine

/-- The effect of a command on everything but the queue. -/
def exec (i : Instr) (s : State) : Host.Outcome State Fault Refusal :=
  match i with
  | .nop t c => Sys2Proof.Machine.execNop t c s
  | .ringCreate t c => Sys2Proof.Machine.execRingCreate t c s
  | .ringDelete t c => Sys2Proof.Machine.execRingDelete t c s
  | .ringTune t c => Sys2Proof.Machine.execRingTune t c s
  | .ringQuery t c => Sys2Proof.Machine.execRingQuery t c s
  | .sysStatus t c => Sys2Proof.Machine.execSysStatus t c s
  | .cfgCommit t c => Sys2Proof.Machine.execCfgCommit t c s
  | .cfgFactory t c => Sys2Proof.Machine.execCfgFactory t c s
  | .cfgConfirm t c => Sys2Proof.Machine.execCfgConfirm t c s
  | .pntConfig t c => Sys2Proof.Machine.execPntConfig t c s
  | .pntConfigExpert t c => Sys2Proof.Machine.execPntConfigExpert t c s
  | .pntDelete t c => Sys2Proof.Machine.execPntDelete t c s
  | .pntRead t c => Sys2Proof.Machine.execPntRead t c s
  | .pntForce t c => Sys2Proof.Machine.execPntForce t c s
  | .pntUnforce t c => Sys2Proof.Machine.execPntUnforce t c s
  | .pntSimStart t c => Sys2Proof.Machine.execPntSimStart t c s
  | .pntSimValue t c => Sys2Proof.Machine.execPntSimValue t c s
  | .pntSimEnd t c => Sys2Proof.Machine.execPntSimEnd t c s
  | .pntOutput t c => Sys2Proof.Machine.execPntOutput t c s
  | .pntReset t c => Sys2Proof.Machine.execPntReset t c s
  | .pntVoteBind t c => Sys2Proof.Machine.execPntVoteBind t c s
  | .pntProfileWrite t c => Sys2Proof.Machine.execPntProfileWrite t c s
  | .pntProfileRead t c => Sys2Proof.Machine.execPntProfileRead t c s
  | .almAck t c => Sys2Proof.Machine.execAlmAck t c s
  | .almShelve t c => Sys2Proof.Machine.execAlmShelve t c s
  | .almUnshelve t c => Sys2Proof.Machine.execAlmUnshelve t c s
  | .almOos t c => Sys2Proof.Machine.execAlmOos t c s
  | .almReturn t c => Sys2Proof.Machine.execAlmReturn t c s
  | .almCondRead t c => Sys2Proof.Machine.execAlmCondRead t c s
  | .almAdaptHold t c => Sys2Proof.Machine.execAlmAdaptHold t c s
  | .secConfig t c => Sys2Proof.Machine.execSecConfig t c s
  | .secRead t c => Sys2Proof.Machine.execSecRead t c s
  | .secFoReset t c => Sys2Proof.Machine.execSecFoReset t c s
  | .secCauseSet t c => Sys2Proof.Machine.execSecCauseSet t c s
  | .secCauseDelete t c => Sys2Proof.Machine.execSecCauseDelete t c s
  | .secCauseRead t c => Sys2Proof.Machine.execSecCauseRead t c s
  | .secMirrorBind t c => Sys2Proof.Machine.execSecMirrorBind t c s
  | .cmwChannel t c => Sys2Proof.Machine.execCmwChannel t c s
  | .cmwBand t c => Sys2Proof.Machine.execCmwBand t c s
  | .cmwSpeedRef t c => Sys2Proof.Machine.execCmwSpeedRef t c s
  | .cmwBind t c => Sys2Proof.Machine.execCmwBind t c s
  | .cmwBaseline t c => Sys2Proof.Machine.execCmwBaseline t c s
  | .cmwCaptureDef t c => Sys2Proof.Machine.execCmwCaptureDef t c s
  | .cmwCaptureTrig t c => Sys2Proof.Machine.execCmwCaptureTrig t c s
  | .cmwCaptureStop t c => Sys2Proof.Machine.execCmwCaptureStop t c s
  | .cmwRead t c => Sys2Proof.Machine.execCmwRead t c s
  | .ctlLoopConfig t c => Sys2Proof.Machine.execCtlLoopConfig t c s
  | .ctlSupConfig t c => Sys2Proof.Machine.execCtlSupConfig t c s
  | .ctlMode t c => Sys2Proof.Machine.execCtlMode t c s
  | .ctlManOut t c => Sys2Proof.Machine.execCtlManOut t c s
  | .ctlSetpoint t c => Sys2Proof.Machine.execCtlSetpoint t c s
  | .ctlCompTable t c => Sys2Proof.Machine.execCtlCompTable t c s
  | .ctlSupReset t c => Sys2Proof.Machine.execCtlSupReset t c s
  | .ctlTuneStart t c => Sys2Proof.Machine.execCtlTuneStart t c s
  | .ctlTuneStop t c => Sys2Proof.Machine.execCtlTuneStop t c s
  | .ctlTuneRead t c => Sys2Proof.Machine.execCtlTuneRead t c s
  | .ctlLoopRead t c => Sys2Proof.Machine.execCtlLoopRead t c s
  | .ctlLoopDelete t c => Sys2Proof.Machine.execCtlLoopDelete t c s
  | .bcnTableWrite t c => Sys2Proof.Machine.execBcnTableWrite t c s
  | .bcnTableRead t c => Sys2Proof.Machine.execBcnTableRead t c s
  | .bcnAccept t c => Sys2Proof.Machine.execBcnAccept t c s
  | .bcnDm t c => Sys2Proof.Machine.execBcnDm t c s
  | .bcnUms t c => Sys2Proof.Machine.execBcnUms t c s
  | .bcnHostCall t c => Sys2Proof.Machine.execBcnHostCall t c s
  | .ldgBinset t c => Sys2Proof.Machine.execLdgBinset t c s
  | .ldgView t c => Sys2Proof.Machine.execLdgView t c s
  | .ldgFlush t c => Sys2Proof.Machine.execLdgFlush t c s
  | .ldgSnapshot t c => Sys2Proof.Machine.execLdgSnapshot t c s
  | .ldgTripArm t c => Sys2Proof.Machine.execLdgTripArm t c s
  | .ldgTripStop t c => Sys2Proof.Machine.execLdgTripStop t c s
  | .ldgTripTrigger t c => Sys2Proof.Machine.execLdgTripTrigger t c s
  | .ldgTripRead t c => Sys2Proof.Machine.execLdgTripRead t c s
  | .hstVolCreate t c => Sys2Proof.Machine.execHstVolCreate t c s
  | .hstVolErase t c => Sys2Proof.Machine.execHstVolErase t c s
  | .hstVolDelete t c => Sys2Proof.Machine.execHstVolDelete t c s
  | .hstRemount t c => Sys2Proof.Machine.execHstRemount t c s
  | .hstLegReplace t c => Sys2Proof.Machine.execHstLegReplace t c s
  | .hstRead t c => Sys2Proof.Machine.execHstRead t c s
  | .ltnTile t c => Sys2Proof.Machine.execLtnTile t c s
  | .ltnFrameWrite t c => Sys2Proof.Machine.execLtnFrameWrite t c s
  | .ltnShow t c => Sys2Proof.Machine.execLtnShow t c s
  | .fabRouteWrite t c => Sys2Proof.Machine.execFabRouteWrite t c s
  | .fabRouteRead t c => Sys2Proof.Machine.execFabRouteRead t c s
  | .fabRouteCommit t c => Sys2Proof.Machine.execFabRouteCommit t c s
  | .fabEpoch t c => Sys2Proof.Machine.execFabEpoch t c s
  | .fabQuench t c => Sys2Proof.Machine.execFabQuench t c s
  | .fabLeave t c => Sys2Proof.Machine.execFabLeave t c s
  | .fabHandback t c => Sys2Proof.Machine.execFabHandback t c s
  | .fabPortCtrl t c => Sys2Proof.Machine.execFabPortCtrl t c s
  | .fabSv t c => Sys2Proof.Machine.execFabSv t c s
  | .updateBegin t c => Sys2Proof.Machine.execUpdateBegin t c s
  | .updateData t c => Sys2Proof.Machine.execUpdateData t c s
  | .updateEnd t c => Sys2Proof.Machine.execUpdateEnd t c s
  | .updateActivate t c => Sys2Proof.Machine.execUpdateActivate t c s
  | .logRead t c => Sys2Proof.Machine.execLogRead t c s
  | .sensorRead t c => Sys2Proof.Machine.execSensorRead t c s
  | .updateCancel t c => Sys2Proof.Machine.execUpdateCancel t c s
  | .mgmtHello t p conn => Sys2Proof.Machine.execMgmtHello t p conn s
  | .mgmtAuth t p conn cred sig => Sys2Proof.Machine.execMgmtAuth t p conn cred sig s
  | .mgmtMailbox t p conn sub bank arg n data => Sys2Proof.Machine.execMgmtMailbox t p conn sub bank arg n data s
  | .mgmtClose t p conn => Sys2Proof.Machine.execMgmtClose t p conn s
  | .mgmtSessionIdle t p => Sys2Proof.Machine.execMgmtSessionIdle t p s
  | .mgmtLockoutEnd t p => Sys2Proof.Machine.execMgmtLockoutEnd t p s
  | .debugHalt t => Sys2Proof.Machine.execDebugHalt t s
  | .debugRun t step => Sys2Proof.Machine.execDebugRun t step s
  | .debugSessionExpire t => Sys2Proof.Machine.execDebugSessionExpire t s
  | .doorbellCountWrite t fn off size v => Sys2Proof.Machine.execDoorbellCountWrite t fn off size v s
  | .doorbellArmWrite t fn off size v => Sys2Proof.Machine.execDoorbellArmWrite t fn off size v s
  | .descriptorFetch t desc => Sys2Proof.Machine.execDescriptorFetch t desc s
  | .completionWrite t r => Sys2Proof.Machine.execCompletionWrite t r s
  | .eventBacklogDrain t r => Sys2Proof.Machine.execEventBacklogDrain t r s
  | .vectorCoalesceExpire t r => Sys2Proof.Machine.execVectorCoalesceExpire t r s
  | .msixUnmask t fn vec => Sys2Proof.Machine.execMsixUnmask t fn vec s
  | .dataInSend t ring data dmaErr => Sys2Proof.Machine.execDataInSend t ring data dmaErr s
  | .dataOutWriteback t r => Sys2Proof.Machine.execDataOutWriteback t r s
  | .dmaError t r status => Sys2Proof.Machine.execDmaError t r status s
  | .functionLevelReset t kind req fn => Sys2Proof.Machine.execFunctionLevelReset t kind req fn s
  | .fnQuenchWrite t req fn v => Sys2Proof.Machine.execFnQuenchWrite t req fn v s
  | .admEnWrite t req fn v => Sys2Proof.Machine.execAdmEnWrite t req fn v s
  | .hifQuenchWrite t req v => Sys2Proof.Machine.execHifQuenchWrite t req v s
  | .twinWriteOpen t req off v => Sys2Proof.Machine.execTwinWriteOpen t req off v s
  | .twinWriteClose t req off v => Sys2Proof.Machine.execTwinWriteClose t req off v s
  | .twinWriteTimeout t req => Sys2Proof.Machine.execTwinWriteTimeout t req s
  | .wldLockSet t req v => Sys2Proof.Machine.execWldLockSet t req v s
  | .wldWorldChange t req k v => Sys2Proof.Machine.execWldWorldChange t req k v s
  | .wldHregApply t req n v => Sys2Proof.Machine.execWldHregApply t req n v s
  | .registerWrite t req off size v => Sys2Proof.Machine.execRegisterWrite t req off size v s
  | .rcFieldRead t req off size quiet => Sys2Proof.Machine.execRcFieldRead t req off size quiet s
  | .almSeqLoRead t req quiet => Sys2Proof.Machine.execAlmSeqLoRead t req quiet s
  | .almSpillExitWrite t req v => Sys2Proof.Machine.execAlmSpillExitWrite t req v s
  | .suppEnChange t req v => Sys2Proof.Machine.execSuppEnChange t req v s
  | .floodEnClear t req w v => Sys2Proof.Machine.execFloodEnClear t req w v s
  | .holdAllSet t req v => Sys2Proof.Machine.execHoldAllSet t req v s
  | .panelEnWrite t req v => Sys2Proof.Machine.execPanelEnWrite t req v s
  | .retainWrite t req v => Sys2Proof.Machine.execRetainWrite t req v s
  | .hartTxWrite t req n v => Sys2Proof.Machine.execHartTxWrite t req n v s
  | .hartRxRead t req n quiet => Sys2Proof.Machine.execHartRxRead t req n quiet s
  | .kprRestart t req v => Sys2Proof.Machine.execKprRestart t req v s
  | .fanRestart t req n v => Sys2Proof.Machine.execFanRestart t req n v s
  | .rtcCapture t req v => Sys2Proof.Machine.execRtcCapture t req v s
  | .rtcSet t req v => Sys2Proof.Machine.execRtcSet t req v s
  | .rtcShift t req v => Sys2Proof.Machine.execRtcShift t req v s
  | .pwronRelease t req v => Sys2Proof.Machine.execPwronRelease t req v s
  | .pointUpdateApply t tile upset img => Sys2Proof.Machine.execPointUpdateApply t tile upset img s
  | .scanTick t => Sys2Proof.Machine.execScanTick t s
  | .delayTimerExpire t tile => Sys2Proof.Machine.execDelayTimerExpire t tile s
  | .coarseSlotServe t => Sys2Proof.Machine.execCoarseSlotServe t s
  | .shelveSweep t tile => Sys2Proof.Machine.execShelveSweep t tile s
  | .adaptSweep t tile => Sys2Proof.Machine.execAdaptSweep t tile s
  | .suppressionInput t => Sys2Proof.Machine.execSuppressionInput t s
  | .pointRecordScrub t p flips img => Sys2Proof.Machine.execPointRecordScrub t p flips img s
  | .heldTwinScrub t upset img => Sys2Proof.Machine.execHeldTwinScrub t upset img s
  | .sectorChangeProcess t => Sys2Proof.Machine.execSectorChangeProcess t s
  | .settleTimerExpire t => Sys2Proof.Machine.execSettleTimerExpire t s
  | .releaseTimerExpire t => Sys2Proof.Machine.execReleaseTimerExpire t s
  | .floodRecount t => Sys2Proof.Machine.execFloodRecount t s
  | .floodReleaseDone t => Sys2Proof.Machine.execFloodReleaseDone t s
  | .sectorAudit t flips supp => Sys2Proof.Machine.execSectorAudit t flips supp s
  | .edgeCompactionDone t => Sys2Proof.Machine.execEdgeCompactionDone t s
  | .mirrorTimeout t e => Sys2Proof.Machine.execMirrorTimeout t e s
  | .mirrorHoldExpire t e => Sys2Proof.Machine.execMirrorHoldExpire t e s
  | .mirrorRefreshSend t n => Sys2Proof.Machine.execMirrorRefreshSend t n s
  | .mirrorAckTimeout t => Sys2Proof.Machine.execMirrorAckTimeout t s
  | .cmwBlock t => Sys2Proof.Machine.execCmwBlock t s
  | .frameFeatures t => Sys2Proof.Machine.execFrameFeatures t s
  | .tachPulse t dio => Sys2Proof.Machine.execTachPulse t dio s
  | .speedStopped t ch => Sys2Proof.Machine.execSpeedStopped t ch s
  | .captureEnd t d => Sys2Proof.Machine.execCaptureEnd t d s
  | .baselineCheckpoint t => Sys2Proof.Machine.execBaselineCheckpoint t s
  | .loopEvaluate t l upset => Sys2Proof.Machine.execLoopEvaluate t l upset s
  | .loopFrameDepart t port => Sys2Proof.Machine.execLoopFrameDepart t port s
  | .stageTimerExpire t key => Sys2Proof.Machine.execStageTimerExpire t key s
  | .attendTimerExpire t key => Sys2Proof.Machine.execAttendTimerExpire t key s
  | .deadmanTimerExpire t u => Sys2Proof.Machine.execDeadmanTimerExpire t u s
  | .stationLostTimeout t n => Sys2Proof.Machine.execStationLostTimeout t n s
  | .bcnCallRepeat t station key => Sys2Proof.Machine.execBcnCallRepeat t station key s
  | .bcnStatus t node fault => Sys2Proof.Machine.execBcnStatus t node fault s
  | .bcnStationEvt t node evt key evtSeq => Sys2Proof.Machine.execBcnStationEvt t node evt key evtSeq s
  | .histBoundary t => Sys2Proof.Machine.execHistBoundary t s
  | .ledgerAgeFlush t => Sys2Proof.Machine.execLedgerAgeFlush t s
  | .lshipLedgerPass t => Sys2Proof.Machine.execLshipLedgerPass t s
  | .spoolReplay t => Sys2Proof.Machine.execSpoolReplay t s
  | .nvmeCompletion t k ok seg => Sys2Proof.Machine.execNvmeCompletion t k ok seg s
  | .nvmeTimeout t k resetBad => Sys2Proof.Machine.execNvmeTimeout t k resetBad s
  | .controllerArrival t serial port bdf vwc ns => Sys2Proof.Machine.execControllerArrival t serial port bdf vwc ns s
  | .volumeMount t v segs => Sys2Proof.Machine.execVolumeMount t v segs s
  | .deallocationComplete t v => Sys2Proof.Machine.execDeallocationComplete t v s
  | .legSyncComplete t v => Sys2Proof.Machine.execLegSyncComplete t v s
  | .frameReceive t port kind lseq plen f hcrc fcs => Sys2Proof.Machine.execFrameReceive t port kind lseq plen f hcrc fcs s
  | .egressSend t port => Sys2Proof.Machine.execEgressSend t port s
  | .pairWaitExpire t => Sys2Proof.Machine.execPairWaitExpire t s
  | .rerouteWaitExpire t => Sys2Proof.Machine.execRerouteWaitExpire t s
  | .credit t port word crc => Sys2Proof.Machine.execCredit t port word crc s
  | .retryTimerExpire t port => Sys2Proof.Machine.execRetryTimerExpire t port s
  | .creditSend t port => Sys2Proof.Machine.execCreditSend t port s
  | .dreq t port word crc => Sys2Proof.Machine.execDreq t port word crc s
  | .dreqSend t port => Sys2Proof.Machine.execDreqSend t port s
  | .dresp t port word crc => Sys2Proof.Machine.execDresp t port word crc s
  | .init t port word crc => Sys2Proof.Machine.execInit t port word crc s
  | .initSend t port => Sys2Proof.Machine.execInitSend t port s
  | .initTimeout t port => Sys2Proof.Machine.execInitTimeout t port s
  | .linkTrained t port => Sys2Proof.Machine.execLinkTrained t port s
  | .portLinkDown t down => Sys2Proof.Machine.execPortLinkDown t down s
  | .contactLoss t k => Sys2Proof.Machine.execContactLoss t k s
  | .takeover t k => Sys2Proof.Machine.execTakeover t k s
  | .handbackTimeout t k => Sys2Proof.Machine.execHandbackTimeout t k s
  | .heartbeatSend t => Sys2Proof.Machine.execHeartbeatSend t s
  | .aliasLearnTimeout t => Sys2Proof.Machine.execAliasLearnTimeout t s
  | .replFrameSend t => Sys2Proof.Machine.execReplFrameSend t s
  | .epochSwitch t => Sys2Proof.Machine.execEpochSwitch t s
  | .quenchLapse t k => Sys2Proof.Machine.execQuenchLapse t k s
  | .timeSyncSend t => Sys2Proof.Machine.execTimeSyncSend t s
  | .timeHoldover t => Sys2Proof.Machine.execTimeHoldover t s
  | .rootRtcCompare t => Sys2Proof.Machine.execRootRtcCompare t s
  | .ethFrameReceive t port f => Sys2Proof.Machine.execEthFrameReceive t port f s
  | .ptpMasterSend t port => Sys2Proof.Machine.execPtpMasterSend t port s
  | .aiConversion t n num den cj => Sys2Proof.Machine.execAiConversion t n num den cj s
  | .leadPhase t n pair => Sys2Proof.Machine.execLeadPhase t n pair s
  | .aiOvervoltage t n on => Sys2Proof.Machine.execAiOvervoltage t n on s
  | .dioEdgeAccept t edges => Sys2Proof.Machine.execDioEdgeAccept t edges s
  | .doOverload t ch => Sys2Proof.Machine.execDoOverload t ch s
  | .doOverloadRetry t ch gone => Sys2Proof.Machine.execDoOverloadRetry t ch gone s
  | .doReadbackMismatch t ch => Sys2Proof.Machine.execDoReadbackMismatch t ch s
  | .aoSupervision t n iUa vTerm temp den => Sys2Proof.Machine.execAoSupervision t n iUa vTerm temp den s
  | .hartTransmitStart t n => Sys2Proof.Machine.execHartTransmitStart t n s
  | .hartByteReceive t n byte bad => Sys2Proof.Machine.execHartByteReceive t n byte bad s
  | .outputTwinCheck t upsets => Sys2Proof.Machine.execOutputTwinCheck t upsets s
  | .lioSafeEnter w => Sys2Proof.Machine.execLioSafeEnter w s
  | .lioSafeExit t => Sys2Proof.Machine.execLioSafeExit t s
  | .pulseEnd t k => Sys2Proof.Machine.execPulseEnd t k s
  | .lioPulseDrop t k => Sys2Proof.Machine.execLioPulseDrop t k s
  | .demagEnd t ch => Sys2Proof.Machine.execDemagEnd t ch s
  | .tileComposeDone t => Sys2Proof.Machine.execTileComposeDone t s
  | .lightPhaseEdge t => Sys2Proof.Machine.execLightPhaseEdge t s
  | .panelSweepCheck t flips => Sys2Proof.Machine.execPanelSweepCheck t flips s
  | .panelStartDone t => Sys2Proof.Machine.execPanelStartDone t s
  | .panelStopDone t => Sys2Proof.Machine.execPanelStopDone t s
  | .ltnBiasFault t mv => Sys2Proof.Machine.execLtnBiasFault t mv s
  | .chargePumpRestart t => Sys2Proof.Machine.execChargePumpRestart t s
  | .frameCopyWrite t => Sys2Proof.Machine.execFrameCopyWrite t s
  | .pwrFailWarn t cause mv store => Sys2Proof.Machine.execPwrFailWarn t cause mv store s
  | .pwrMainReturn t mv store => Sys2Proof.Machine.execPwrMainReturn t mv store s
  | .emerChange t valid mv store => Sys2Proof.Machine.execEmerChange t valid mv store s
  | .fieldChange t valid mv => Sys2Proof.Machine.execFieldChange t valid mv s
  | .pwrScapLow t mv => Sys2Proof.Machine.execPwrScapLow t mv s
  | .pwrLshipFail t mv => Sys2Proof.Machine.execPwrLshipFail t mv s
  | .lightshipStop t => Sys2Proof.Machine.execLightshipStop t s
  | .scapFull t => Sys2Proof.Machine.execScapFull t s
  | .lrefLoss t => Sys2Proof.Machine.execLrefLoss t s
  | .lshipHandback t => Sys2Proof.Machine.execLshipHandback t s
  | .logicSideReturn t => Sys2Proof.Machine.execLogicSideReturn t s
  | .lshipEvaluate t => Sys2Proof.Machine.execLshipEvaluate t s
  | .thermalTrip t n value mv => Sys2Proof.Machine.execThermalTrip t n value mv s
  | .thermalClear t n value => Sys2Proof.Machine.execThermalClear t n value s
  | .keeperReset t => Sys2Proof.Machine.execKeeperReset t s
  | .keeperWatchdog w => Sys2Proof.Machine.execKeeperWatchdog w s
  | .lockstepFault t pc => Sys2Proof.Machine.execLockstepFault t pc s
  | .eccError t => Sys2Proof.Machine.execEccError t s
  | .maskRomBoot t corrupt => Sys2Proof.Machine.execMaskRomBoot t corrupt s
  | .trialEnd t => Sys2Proof.Machine.execTrialEnd t s
  | .updateIdleTimeout t => Sys2Proof.Machine.execUpdateIdleTimeout t s
  | .norWindowExpire t what => Sys2Proof.Machine.execNorWindowExpire t what s
  | .sensorLimit t n value fault => Sys2Proof.Machine.execSensorLimit t n value fault s
  | .fanStartJudge t n rpm ma => Sys2Proof.Machine.execFanStartJudge t n rpm ma s
  | .fanRetryWaitEnd t n => Sys2Proof.Machine.execFanRetryWaitEnd t n s
  | .fanStallDetect t n rpm ma => Sys2Proof.Machine.execFanStallDetect t n rpm ma s
  | .fanTachRecover t n rpm ma => Sys2Proof.Machine.execFanTachRecover t n rpm ma s
  | .fanCurveUpdate t => Sys2Proof.Machine.execFanCurveUpdate t s
  | .keeperLogWrite t => Sys2Proof.Machine.execKeeperLogWrite t s
  | .storeBlockRetire t off items pct => Sys2Proof.Machine.execStoreBlockRetire t off items pct s
  | .backupSwitchover t => Sys2Proof.Machine.execBackupSwitchover t s
  | .vbakMeasure t mv => Sys2Proof.Machine.execVbakMeasure t mv s
  | .backupPor t => Sys2Proof.Machine.execBackupPor t s
  | .crystalFail t => Sys2Proof.Machine.execCrystalFail t s
  | .trimWindowEnd t watch n segs cut => Sys2Proof.Machine.execTrimWindowEnd t watch n segs cut s
  | .calendarAlarm t => Sys2Proof.Machine.execCalendarAlarm t s
  | .pwronPulseEnd t => Sys2Proof.Machine.execPwronPulseEnd t s
  | .pwronHoldoffEnd t => Sys2Proof.Machine.execPwronHoldoffEnd t s
  | .lshipPowerGood t corrupt src store => Sys2Proof.Machine.execLshipPowerGood t corrupt src store s
  | .restoreDone t bad => Sys2Proof.Machine.execRestoreDone t bad s
  | .autoCommit t => Sys2Proof.Machine.execAutoCommit t s
  | .checkpointWrite t b => Sys2Proof.Machine.execCheckpointWrite t b s
  | .loopBlockWrite t => Sys2Proof.Machine.execLoopBlockWrite t s
  | .loopConfigScrub t l flips flipsSup img => Sys2Proof.Machine.execLoopConfigScrub t l flips flipsSup img s
  | .resyncComplete t k => Sys2Proof.Machine.execResyncComplete t k s
  | .controllerPathLinkDown t n => Sys2Proof.Machine.execControllerPathLinkDown t n s
  | .utcDayEndLeap t => Sys2Proof.Machine.execUtcDayEndLeap t s
  | .lrefReturn t => Sys2Proof.Machine.execLrefReturn t s
  | .crystalReturn t => Sys2Proof.Machine.execCrystalReturn t s
  | .scapChargeRestart t mv => Sys2Proof.Machine.execScapChargeRestart t mv s
  | .commitComplete t => Sys2Proof.Machine.execCommitComplete t s
  | .keeperReady t bad => Sys2Proof.Machine.execKeeperReady t bad s
  | .hostLinkTrained t gen width flit => Sys2Proof.Machine.execHostLinkTrained t gen width flit s
  | .panelTemperatureChange t ohm den => Sys2Proof.Machine.execPanelTemperatureChange t ohm den s
  | .panelLineSent t => Sys2Proof.Machine.execPanelLineSent t s
  | .hartRxGap t n => Sys2Proof.Machine.execHartRxGap t n s
  | .hartTransmitEnd t n => Sys2Proof.Machine.execHartTransmitEnd t n s
  | .mgmtArpIcmpEcho t p kind n data => Sys2Proof.Machine.execMgmtArpIcmpEcho t p kind n data s
  | .sounderFoldback t => Sys2Proof.Machine.execSounderFoldback t s
  | .sounderFoldbackEnd t => Sys2Proof.Machine.execSounderFoldbackEnd t s
  | .fftUnitGate t => Sys2Proof.Machine.execFftUnitGate t s
  | .uncleanStop t step => Sys2Proof.Machine.execUncleanStop t step s

end Sys2Proof.Machine
end

