-- ==== Sys2Proof/WellFormed.lean ====
section
/-! DEFINITION. Which commands are well formed: every operand lies where the manual numbers what it names (functions, rings, tiles,
ports, channels, loops, volumes, stations, bytes of a word). A command that is not well formed stands for nothing that can
happen to the module; `exec` answers on it all the same. -/

namespace Sys2Proof

/-- A ring number of 16 bits, and an input buffer no longer than its descriptor says (R500, R540). -/
def Cmd.wf (c : Cmd) : Bool := decide (c.ring < 65536) && decide (c.inp < 2 ^ (8 * ((c.desc.toNat >>> 448) % 2 ^ 32)))

/-- The header fields of a frame and the length of its payload (R392, R393). -/
def Frame.wf (f : Frame) : Bool :=
  decide (f.dst < 2 ^ 24) && decide (f.src < 2 ^ 24) && decide (f.cls < 8) && decide (f.ptype < 256) && decide (f.seq < 2 ^ 32) &&
    decide (f.budget < 2 ^ 24) && decide (f.hops < 256) && decide (f.len < 9217) && decide (f.payload < 2 ^ (8 * f.len)) &&
    decide (f.hcrc < 2 ^ 16) && decide (f.fcs < 2 ^ 32)

/-- The length and the addresses of an Ethernet frame (R421). -/
def EthFrame.wf (f : EthFrame) : Bool :=
  decide (f.len < 65536) && decide (f.dst < 2 ^ 48) && f.vid.all fun v => decide (v < 4096)

/-- A well-formed command. -/
def Instr.wf : Instr → Bool
  | .nop _ c => c.wf
  | .ringCreate _ c => c.wf
  | .ringDelete _ c => c.wf
  | .ringTune _ c => c.wf
  | .ringQuery _ c => c.wf
  | .sysStatus _ c => c.wf
  | .cfgCommit _ c => c.wf
  | .cfgFactory _ c => c.wf
  | .cfgConfirm _ c => c.wf
  | .pntConfig _ c => c.wf
  | .pntConfigExpert _ c => c.wf
  | .pntDelete _ c => c.wf
  | .pntRead _ c => c.wf
  | .pntForce _ c => c.wf
  | .pntUnforce _ c => c.wf
  | .pntSimStart _ c => c.wf
  | .pntSimValue _ c => c.wf
  | .pntSimEnd _ c => c.wf
  | .pntOutput _ c => c.wf
  | .pntReset _ c => c.wf
  | .pntVoteBind _ c => c.wf
  | .pntProfileWrite _ c => c.wf
  | .pntProfileRead _ c => c.wf
  | .almAck _ c => c.wf
  | .almShelve _ c => c.wf
  | .almUnshelve _ c => c.wf
  | .almOos _ c => c.wf
  | .almReturn _ c => c.wf
  | .almCondRead _ c => c.wf
  | .almAdaptHold _ c => c.wf
  | .secConfig _ c => c.wf
  | .secRead _ c => c.wf
  | .secFoReset _ c => c.wf
  | .secCauseSet _ c => c.wf
  | .secCauseDelete _ c => c.wf
  | .secCauseRead _ c => c.wf
  | .secMirrorBind _ c => c.wf
  | .cmwChannel _ c => c.wf
  | .cmwBand _ c => c.wf
  | .cmwSpeedRef _ c => c.wf
  | .cmwBind _ c => c.wf
  | .cmwBaseline _ c => c.wf
  | .cmwCaptureDef _ c => c.wf
  | .cmwCaptureTrig _ c => c.wf
  | .cmwCaptureStop _ c => c.wf
  | .cmwRead _ c => c.wf
  | .ctlLoopConfig _ c => c.wf
  | .ctlSupConfig _ c => c.wf
  | .ctlMode _ c => c.wf
  | .ctlManOut _ c => c.wf
  | .ctlSetpoint _ c => c.wf
  | .ctlCompTable _ c => c.wf
  | .ctlSupReset _ c => c.wf
  | .ctlTuneStart _ c => c.wf
  | .ctlTuneStop _ c => c.wf
  | .ctlTuneRead _ c => c.wf
  | .ctlLoopRead _ c => c.wf
  | .ctlLoopDelete _ c => c.wf
  | .bcnTableWrite _ c => c.wf
  | .bcnTableRead _ c => c.wf
  | .bcnAccept _ c => c.wf
  | .bcnDm _ c => c.wf
  | .bcnUms _ c => c.wf
  | .bcnHostCall _ c => c.wf
  | .ldgBinset _ c => c.wf
  | .ldgView _ c => c.wf
  | .ldgFlush _ c => c.wf
  | .ldgSnapshot _ c => c.wf
  | .ldgTripArm _ c => c.wf
  | .ldgTripStop _ c => c.wf
  | .ldgTripTrigger _ c => c.wf
  | .ldgTripRead _ c => c.wf
  | .hstVolCreate _ c => c.wf
  | .hstVolErase _ c => c.wf
  | .hstVolDelete _ c => c.wf
  | .hstRemount _ c => c.wf
  | .hstLegReplace _ c => c.wf
  | .hstRead _ c => c.wf
  | .ltnTile _ c => c.wf
  | .ltnFrameWrite _ c => c.wf
  | .ltnShow _ c => c.wf
  | .fabRouteWrite _ c => c.wf
  | .fabRouteRead _ c => c.wf
  | .fabRouteCommit _ c => c.wf
  | .fabEpoch _ c => c.wf
  | .fabQuench _ c => c.wf
  | .fabLeave _ c => c.wf
  | .fabHandback _ c => c.wf
  | .fabPortCtrl _ c => c.wf
  | .fabSv _ c => c.wf
  | .updateBegin _ c => c.wf
  | .updateData _ c => c.wf
  | .updateEnd _ c => c.wf
  | .updateActivate _ c => c.wf
  | .logRead _ c => c.wf
  | .sensorRead _ c => c.wf
  | .updateCancel _ c => c.wf
  | .mgmtHello _ p _ => decide (p < 3)
  | .mgmtAuth _ p _ cred sig => decide (p < 3) && decide (cred < 2 ^ 1792) && decide (sig < 2 ^ 768)
  | .mgmtMailbox _ p _ sub bank _ _ _ => decide (p < 2) && decide (sub < 16) && decide (bank < 2)
  | .mgmtClose _ p _ => decide (p < 3)
  | .mgmtSessionIdle _ p => decide (p < 2)
  | .mgmtLockoutEnd _ p => decide (p < 2)
  | .debugHalt _ => true
  | .debugRun _ _ => true
  | .debugSessionExpire _ => true
  | .doorbellCountWrite _ fn _ size v => decide (fn < 65) && decide (size < 9) && decide (v < 2 ^ 64)
  | .doorbellArmWrite _ fn _ size v => decide (fn < 65) && decide (size < 9) && decide (v < 2 ^ 64)
  | .descriptorFetch _ _ => true
  | .completionWrite _ r => decide (r < 65536)
  | .eventBacklogDrain _ r => decide (r < 65536)
  | .vectorCoalesceExpire _ r => decide (r < 65536)
  | .msixUnmask _ fn vec => decide (fn < 65) && decide (vec < 2048)
  | .dataInSend _ ring _ _ => decide (ring < 65536)
  | .dataOutWriteback _ r => decide (r < 65536)
  | .dmaError _ r status => decide (r < 65536) && decide (status < 16)
  | .functionLevelReset _ kind req fn => decide (kind < 3) && decide (req < 68) && decide (fn < 65)
  | .fnQuenchWrite _ req fn _ => decide (req < 68) && decide (fn < 65)
  | .admEnWrite _ req fn _ => decide (req < 68) && decide (fn < 65)
  | .hifQuenchWrite _ req v => decide (req < 68) && decide (v < 2 ^ 32)
  | .twinWriteOpen _ req _ v => decide (req < 68) && decide (v < 2 ^ 32)
  | .twinWriteClose _ req _ v => decide (req < 68) && decide (v < 2 ^ 32)
  | .twinWriteTimeout _ req => decide (req < 68)
  | .wldLockSet _ req v => decide (req < 68) && decide (v < 2 ^ 32)
  | .wldWorldChange _ req k v => decide (req < 68) && decide (k < 4) && decide (v < 2 ^ 32)
  | .wldHregApply _ req n v => decide (req < 68) && decide (n < 256) && decide (v < 2 ^ 32)
  | .registerWrite _ req _ size v => decide (req < 68) && decide (size < 9) && decide (v < 2 ^ 64)
  | .rcFieldRead _ req _ size _ => decide (req < 68) && decide (size < 9)
  | .almSeqLoRead _ req _ => decide (req < 68)
  | .almSpillExitWrite _ req v => decide (req < 68) && decide (v < 2 ^ 32)
  | .suppEnChange _ req v => decide (req < 68) && decide (v < 2 ^ 32)
  | .floodEnClear _ req w v => decide (req < 68) && (w.all fun n => decide (n < 256)) && decide (v < 2 ^ 32)
  | .holdAllSet _ req v => decide (req < 68) && decide (v < 2 ^ 32)
  | .panelEnWrite _ req v => decide (req < 68) && decide (v < 2 ^ 32)
  | .retainWrite _ req v => decide (req < 68) && decide (v < 2 ^ 32)
  | .hartTxWrite _ req n v => decide (req < 68) && decide (n < 16) && decide (v < 2 ^ 32)
  | .hartRxRead _ req n _ => decide (req < 68) && decide (n < 16)
  | .kprRestart _ req v => decide (req < 68) && decide (v < 2 ^ 32)
  | .fanRestart _ req n v => decide (req < 68) && decide (n < 4) && decide (v < 2 ^ 32)
  | .rtcCapture _ req v => decide (req < 68) && decide (v < 2 ^ 32)
  | .rtcSet _ req v => decide (req < 68) && decide (v < 2 ^ 32)
  | .rtcShift _ req v => decide (req < 68) && decide (v < 2 ^ 32)
  | .pwronRelease _ req v => decide (req < 68) && decide (v < 2 ^ 32)
  | .pointUpdateApply _ tile _ _ => decide (tile < 64)
  | .scanTick _ => true
  | .delayTimerExpire _ tile => decide (tile < 64)
  | .coarseSlotServe _ => true
  | .shelveSweep _ tile => decide (tile < 64)
  | .adaptSweep _ tile => decide (tile < 64)
  | .suppressionInput _ => true
  | .pointRecordScrub _ i flips _ => decide (i < 5242880) && decide (flips < 2 ^ 1024)
  | .heldTwinScrub _ _ _ => true
  | .sectorChangeProcess _ => true
  | .settleTimerExpire _ => true
  | .releaseTimerExpire _ => true
  | .floodRecount _ => true
  | .floodReleaseDone _ => true
  | .sectorAudit _ _ _ => true
  | .edgeCompactionDone _ => true
  | .mirrorTimeout _ e => decide (e < 67108864)
  | .mirrorHoldExpire _ e => decide (e < 67108864)
  | .mirrorRefreshSend _ n => decide (n < 65536)
  | .mirrorAckTimeout _ => true
  | .cmwBlock _ => true
  | .frameFeatures _ => true
  | .tachPulse _ dio => decide (dio < 48)
  | .speedStopped _ ch => decide (ch < 16384)
  | .captureEnd _ d => decide (d < 1024)
  | .baselineCheckpoint _ => true
  | .loopEvaluate _ l _ => decide (l < 4096)
  | .loopFrameDepart _ port => decide (port < 128)
  | .stageTimerExpire _ key => decide (key < 1320)
  | .attendTimerExpire _ key => decide (key < 1320)
  | .deadmanTimerExpire _ u => decide (u < 8)
  | .stationLostTimeout _ n => decide (n < 64)
  | .bcnCallRepeat _ station key => decide (station < 64) && decide (key < 1320)
  | .bcnStatus _ node _ => decide (node < 16777216)
  | .bcnStationEvt _ node evt key _ => decide (node < 16777216) && decide (evt < 256) && decide (key < 1320)
  | .histBoundary _ => true
  | .ledgerAgeFlush _ => true
  | .lshipLedgerPass _ => true
  | .spoolReplay _ => true
  | .nvmeCompletion _ _ _ _ => true
  | .nvmeTimeout _ _ _ => true
  | .controllerArrival _ _ port bdf _ _ => decide (port < 128) && decide (bdf < 65536)
  | .volumeMount _ v _ => decide (v < 1024)
  | .deallocationComplete _ v => decide (v < 1024)
  | .legSyncComplete _ v => decide (v < 1024)
  | .frameReceive _ port kind lseq plen f hcrc fcs => decide (port < 128) && decide (kind < 256) && decide (lseq < 65536) &&
    decide (plen < 65536) && f.wf && decide (hcrc < 65536) && decide (fcs < 2 ^ 32)
  | .egressSend _ port => decide (port < 128)
  | .pairWaitExpire _ => true
  | .rerouteWaitExpire _ => true
  | .credit _ port word crc => decide (port < 128) && decide (word < 2 ^ 224) && decide (crc < 2 ^ 32)
  | .retryTimerExpire _ port => decide (port < 128)
  | .creditSend _ port => decide (port < 128)
  | .dreq _ port word crc => decide (port < 128) && decide (word < 2 ^ 224) && decide (crc < 2 ^ 32)
  | .dreqSend _ port => decide (port < 128)
  | .dresp _ port word crc => decide (port < 128) && decide (word < 2 ^ 224) && decide (crc < 2 ^ 32)
  | .init _ port word crc => decide (port < 128) && decide (word < 2 ^ 224) && decide (crc < 2 ^ 32)
  | .initSend _ port => decide (port < 128)
  | .initTimeout _ port => decide (port < 128)
  | .linkTrained _ port => decide (port < 128)
  | .portLinkDown _ down => decide (down.port < 128) && decide (down.cause < 3)
  | .contactLoss _ k => decide (k < 4)
  | .takeover _ k => decide (k < 5)
  | .handbackTimeout _ k => decide (k < 4)
  | .heartbeatSend _ => true
  | .aliasLearnTimeout _ => true
  | .replFrameSend _ => true
  | .epochSwitch _ => true
  | .quenchLapse _ k => decide (k < 16)
  | .timeSyncSend _ => true
  | .timeHoldover _ => true
  | .rootRtcCompare _ => true
  | .ethFrameReceive _ port f => decide (port < 128) && f.wf
  | .ptpMasterSend _ port => decide (port < 128)
  | .aiConversion _ n _ den _ => decide (n < 32) && decide (0 < den)
  | .leadPhase _ n _ => decide (n < 32)
  | .aiOvervoltage _ n _ => decide (n < 32)
  | .dioEdgeAccept _ edges => (edges.all fun e => decide (e.1 < 48))
  | .doOverload _ ch => decide (ch < 32)
  | .doOverloadRetry _ ch _ => decide (ch < 32)
  | .doReadbackMismatch _ ch => decide (ch < 32)
  | .aoSupervision _ n _ _ _ den => decide (n < 16) && decide (0 < den)
  | .hartTransmitStart _ n => decide (n < 16)
  | .hartByteReceive _ n byte _ => decide (n < 16) && decide (byte < 256)
  | .outputTwinCheck _ _ => true
  | .lioSafeEnter w => decide (w.last ≤ w.now)
  | .lioSafeExit _ => true
  | .pulseEnd _ k => decide (k < 16)
  | .lioPulseDrop _ k => decide (k < 16)
  | .demagEnd _ ch => decide (ch < 32)
  | .tileComposeDone _ => true
  | .lightPhaseEdge _ => true
  | .panelSweepCheck _ _ => true
  | .panelStartDone _ => true
  | .panelStopDone _ => true
  | .ltnBiasFault _ mv => decide (mv < 131072)
  | .chargePumpRestart _ => true
  | .frameCopyWrite _ => true
  | .pwrFailWarn _ cause mv store => decide (cause < 4) && decide (mv < 131072) && decide (store < 65536)
  | .pwrMainReturn _ mv store => decide (mv < 131072) && decide (store < 65536)
  | .emerChange _ _ mv store => decide (mv < 131072) && decide (store < 65536)
  | .fieldChange _ _ mv => decide (mv < 131072)
  | .pwrScapLow _ mv => decide (mv < 131072)
  | .pwrLshipFail _ mv => decide (mv < 131072)
  | .lightshipStop _ => true
  | .scapFull _ => true
  | .lrefLoss _ => true
  | .lshipHandback _ => true
  | .logicSideReturn _ => true
  | .lshipEvaluate _ => true
  | .thermalTrip _ n value mv => decide (n < 85) && decide (value < 2 ^ 32) && decide (mv < 131072)
  | .thermalClear _ n value => decide (n < 85) && decide (value < 2 ^ 32)
  | .keeperReset _ => true
  | .keeperWatchdog w => decide (w.last ≤ w.now)
  | .lockstepFault _ pc => decide (pc < 2 ^ 32)
  | .eccError _ => true
  | .maskRomBoot _ corrupt => decide (corrupt < 4)
  | .trialEnd _ => true
  | .updateIdleTimeout _ => true
  | .norWindowExpire _ what => decide (what < 3)
  | .sensorLimit _ n value _ => decide (n < 85) && decide (value < 2 ^ 32)
  | .fanStartJudge _ n _ _ => decide (n < 4)
  | .fanRetryWaitEnd _ n => decide (n < 4)
  | .fanStallDetect _ n _ _ => decide (n < 4)
  | .fanTachRecover _ n _ _ => decide (n < 4)
  | .fanCurveUpdate _ => true
  | .keeperLogWrite _ => true
  | .storeBlockRetire _ _ _ pct => decide (pct < 101)
  | .backupSwitchover _ => true
  | .vbakMeasure _ mv => decide (mv < 131072)
  | .backupPor _ => true
  | .crystalFail _ => true
  | .trimWindowEnd _ _ n segs cut => cut || (segs.length == 100 && n == segs.foldl (· + ·) 0)
  | .calendarAlarm _ => true
  | .pwronPulseEnd _ => true
  | .pwronHoldoffEnd _ => true
  | .lshipPowerGood _ corrupt src store => decide (corrupt < 4) && decide (src < 3) && decide (store < 65536)
  | .restoreDone _ _ => true
  | .autoCommit _ => true
  | .checkpointWrite _ b => decide (b < 5120)
  | .loopBlockWrite _ => true
  | .loopConfigScrub _ l flips flipsSup _ => decide (l < 4096) && decide (flips < 2 ^ 1024) && decide (flipsSup < 2 ^ 512)
  | .resyncComplete _ k => decide (k < 4)
  | .controllerPathLinkDown _ n => decide (n < 128)
  | .utcDayEndLeap _ => true
  | .lrefReturn _ => true
  | .crystalReturn _ => true
  | .scapChargeRestart _ mv => decide (mv < 131072)
  | .commitComplete _ => true
  | .keeperReady _ _ => true
  | .hostLinkTrained _ gen width _ => decide (gen < 7) && decide (width < 17)
  | .panelTemperatureChange _ _ den => decide (0 < den)
  | .panelLineSent _ => true
  | .hartRxGap _ n => decide (n < 16)
  | .hartTransmitEnd _ n => decide (n < 16)
  | .mgmtArpIcmpEcho _ p kind _ _ => decide (p < 2) && decide (kind < 2)
  | .sounderFoldback _ => true
  | .sounderFoldbackEnd _ => true
  | .fftUnitGate _ => true
  | .uncleanStop _ step => decide (step < 10)

end Sys2Proof
end

