-- ==== Sys2Proof/Safety.lean ====
section
/-! DEFINITION. What the claims speak of: how a command's meaning ends, which host commands are accepted, which register words a
completion or the closing pass of a step may write, the canonical tables, and the parts of the state that each command leaves alone. -/

namespace Sys2Proof.Machine

/-! How a meaning ends. -/

/-- The meaning answers the next state that the closing pass leaves of `v` (R354, R495: a Ledger flush at its watermark, ring deletions
whose wait is over). -/
def Ends (o : Host.Outcome State Fault Refusal) (v : State) : Prop := o = .next v.settle

/-- The host command whose entry is `i` completes with the reply `r`, `v` being the state that its effect leaves (R503, R506). -/
def Completes (o : Host.Outcome State Fault Refusal) (i : Infl) (r : Reply) (v : State) : Prop := Ends o (v.reply i r)

/-- The host command whose entry is `i` is applied and stays in flight until its end (R506). -/
def StaysInFlight (o : Host.Outcome State Fault Refusal) (i : Infl) (v : State) : Prop := Ends o (v.holdCmd i)

/-! Host commands. -/

/-- What a row that serves one host descriptor says of it: its instant and descriptor, the checks before its effect, the effect with its
reply (none while the command stays in flight), when its block does not serve it yet, and what is due before it (R128). -/
structure HostCmd where
  t : Nat
  c : Cmd
  spec : State → Spec
  body : State → Option Reply × State
  waits : State → Bool := fun _ => false
  pre : State → State := fun s => s

/-- A command for point `i` has to wait: an update of the point waits in its tile, or the sector stage has no room (R61, R176). -/
def State.pointWaits (i : Nat) (s : State) : Bool := s.updWaits i || s.stageFull

/-- The host command that a row serves; none for the rows that serve none. -/
def hostCmd : Instr → Option HostCmd
  | .nop t c => some { t := t, c := c, spec := specNop c, body := bodyNop c }
  | .ringCreate t c => some { t := t, c := c, spec := specRingCreate c, body := bodyRingCreate c }
  | .ringDelete t c => some { t := t, c := c, spec := specRingDelete c, body := bodyRingDelete c }
  | .ringTune t c => some { t := t, c := c, spec := specRingTune c, body := bodyRingTune c }
  | .ringQuery t c => some { t := t, c := c, spec := specRingQuery c, body := bodyRingQuery c }
  | .sysStatus t c => some { t := t, c := c, spec := specSysStatus c, body := bodySysStatus c }
  | .cfgCommit t c => some { t := t, c := c, spec := specCfgCommit c, body := bodyCfgCommit c }
  | .cfgFactory t c => some { t := t, c := c, spec := specCfgFactory c, body := bodyCfgFactory c }
  | .cfgConfirm t c => some { t := t, c := c, spec := specCfgConfirm c, body := bodyCfgConfirm c }
  | .pntConfig t c => some { t := t, c := c, spec := specPntConfig c, body := bodyPntConfig c, waits := State.pointWaits (tagIdx (c.bw 0)), pre := State.turn t (tagIdx (c.bw 0)) }
  | .pntConfigExpert t c => some { t := t, c := c, spec := specPntConfigExpert c, body := bodyPntConfigExpert c, waits := State.pointWaits (tagIdx (c.bw 0)), pre := State.turn t (tagIdx (c.bw 0)) }
  | .pntDelete t c => some { t := t, c := c, spec := specPntDelete c, body := bodyPntDelete c, waits := State.pointWaits (tagIdx (c.d 8)), pre := State.turn t (tagIdx (c.d 8)) }
  | .pntRead t c => some { t := t, c := c, spec := specPntRead c, body := bodyPntRead c }
  | .pntForce t c => some { t := t, c := c, spec := specPntForce c, body := bodyPntForce c, waits := State.pointWaits (tagIdx (c.d 8)), pre := State.turn t (tagIdx (c.d 8)) }
  | .pntUnforce t c => some { t := t, c := c, spec := specPntUnforce c, body := bodyPntUnforce c, waits := State.pointWaits (tagIdx (c.d 8)), pre := State.turn t (tagIdx (c.d 8)) }
  | .pntSimStart t c => some { t := t, c := c, spec := specPntSimStart c, body := bodyPntSimStart c, waits := State.pointWaits (tagIdx (c.d 8)), pre := State.turn t (tagIdx (c.d 8)) }
  | .pntSimValue t c => some { t := t, c := c, spec := specPntSimValue c, body := bodyPntSimValue c, waits := State.pointWaits (tagIdx (c.d 8)), pre := State.turn t (tagIdx (c.d 8)) }
  | .pntSimEnd t c => some { t := t, c := c, spec := specPntSimEnd c, body := bodyPntSimEnd c, waits := State.pointWaits (tagIdx (c.d 8)), pre := State.turn t (tagIdx (c.d 8)) }
  | .pntOutput t c => some { t := t, c := c, spec := specPntOutput c, body := bodyPntOutput c, waits := State.pointWaits (tagIdx (c.d 8)), pre := State.turn t (tagIdx (c.d 8)) }
  | .pntReset t c => some { t := t, c := c, spec := specPntReset c, body := bodyPntReset c, waits := State.pointWaits (tagIdx (c.d 8)), pre := State.turn t (tagIdx (c.d 8)) }
  | .pntVoteBind t c => some { t := t, c := c, spec := specPntVoteBind c, body := bodyPntVoteBind c, waits := State.pointWaits (tagIdx (c.d 8)), pre := State.turn t (tagIdx (c.d 8)) }
  | .pntProfileWrite t c => some { t := t, c := c, spec := specPntProfileWrite c, body := bodyPntProfileWrite c }
  | .pntProfileRead t c => some { t := t, c := c, spec := specPntProfileRead c, body := bodyPntProfileRead c }
  | .almAck t c => some { t := t, c := c, spec := specAlmAck c, body := bodyAlmAck c, waits := State.pointWaits (if c.f 8 0 2 < 2 && !(c.f 8 0 2 == 0 && c.f 8 2 1 == 1) then tagIdx (c.d 0x10) else 2 ^ 23), pre := State.turn t (if c.f 8 0 2 < 2 && !(c.f 8 0 2 == 0 && c.f 8 2 1 == 1) then tagIdx (c.d 0x10) else 2 ^ 23) }
  | .almShelve t c => some { t := t, c := c, spec := specAlmShelve c, body := bodyAlmShelve c, waits := State.pointWaits (tagIdx (c.d 0x10)), pre := State.turn t (tagIdx (c.d 0x10)) }
  | .almUnshelve t c => some { t := t, c := c, spec := specAlmUnshelve c, body := bodyAlmUnshelve c, waits := State.pointWaits (tagIdx (c.d 0x10)), pre := State.turn t (tagIdx (c.d 0x10)) }
  | .almOos t c => some { t := t, c := c, spec := specAlmOos c, body := bodyAlmOos c, waits := State.pointWaits (tagIdx (c.d 0x10)), pre := State.turn t (tagIdx (c.d 0x10)) }
  | .almReturn t c => some { t := t, c := c, spec := specAlmReturn c, body := bodyAlmReturn c, waits := State.pointWaits (tagIdx (c.d 0x10)), pre := State.turn t (tagIdx (c.d 0x10)) }
  | .almCondRead t c => some { t := t, c := c, spec := specAlmCondRead c, body := bodyAlmCondRead c }
  | .almAdaptHold t c => some { t := t, c := c, spec := specAlmAdaptHold c, body := bodyAlmAdaptHold c, waits := State.pointWaits (tagIdx (c.d 0x10)), pre := State.turn t (tagIdx (c.d 0x10)) }
  | .secConfig t c => some { t := t, c := c, spec := specSecConfig c, body := bodySecConfig c }
  | .secRead t c => some { t := t, c := c, spec := specSecRead c, body := bodySecRead c }
  | .secFoReset t c => some { t := t, c := c, spec := specSecFoReset c, body := bodySecFoReset c }
  | .secCauseSet t c => some { t := t, c := c, spec := specSecCauseSet c, body := bodySecCauseSet c }
  | .secCauseDelete t c => some { t := t, c := c, spec := specSecCauseDelete c, body := bodySecCauseDelete c }
  | .secCauseRead t c => some { t := t, c := c, spec := specSecCauseRead c, body := bodySecCauseRead c }
  | .secMirrorBind t c => some { t := t, c := c, spec := specSecMirrorBind c, body := bodySecMirrorBind c }
  | .cmwChannel t c => some { t := t, c := c, spec := specCmwChannel c, body := bodyCmwChannel c }
  | .cmwBand t c => some { t := t, c := c, spec := specCmwBand c, body := bodyCmwBand c }
  | .cmwSpeedRef t c => some { t := t, c := c, spec := specCmwSpeedRef c, body := bodyCmwSpeedRef c }
  | .cmwBind t c => some { t := t, c := c, spec := specCmwBind c, body := bodyCmwBind c }
  | .cmwBaseline t c => some { t := t, c := c, spec := specCmwBaseline c, body := bodyCmwBaseline c }
  | .cmwCaptureDef t c => some { t := t, c := c, spec := specCmwCaptureDef c, body := bodyCmwCaptureDef c }
  | .cmwCaptureTrig t c => some { t := t, c := c, spec := specCmwCaptureTrig c, body := bodyCmwCaptureTrig c }
  | .cmwCaptureStop t c => some { t := t, c := c, spec := specCmwCaptureStop c, body := bodyCmwCaptureStop c }
  | .cmwRead t c => some { t := t, c := c, spec := specCmwRead c, body := bodyCmwRead c }
  | .ctlLoopConfig t c => some { t := t, c := c, spec := specCtlLoopConfig c, body := bodyCtlLoopConfig c }
  | .ctlSupConfig t c => some { t := t, c := c, spec := specCtlSupConfig c, body := bodyCtlSupConfig c }
  | .ctlMode t c => some { t := t, c := c, spec := specCtlMode c, body := bodyCtlMode c }
  | .ctlManOut t c => some { t := t, c := c, spec := specCtlManOut c, body := bodyCtlManOut c }
  | .ctlSetpoint t c => some { t := t, c := c, spec := specCtlSetpoint c, body := bodyCtlSetpoint c }
  | .ctlCompTable t c => some { t := t, c := c, spec := specCtlCompTable c, body := bodyCtlCompTable c }
  | .ctlSupReset t c => some { t := t, c := c, spec := specCtlSupReset c, body := bodyCtlSupReset c }
  | .ctlTuneStart t c => some { t := t, c := c, spec := specCtlTuneStart c, body := bodyCtlTuneStart c }
  | .ctlTuneStop t c => some { t := t, c := c, spec := specCtlTuneStop c, body := bodyCtlTuneStop c }
  | .ctlTuneRead t c => some { t := t, c := c, spec := specCtlTuneRead c, body := bodyCtlTuneRead c }
  | .ctlLoopRead t c => some { t := t, c := c, spec := specCtlLoopRead c, body := bodyCtlLoopRead c }
  | .ctlLoopDelete t c => some { t := t, c := c, spec := specCtlLoopDelete c, body := bodyCtlLoopDelete c }
  | .bcnTableWrite t c => some { t := t, c := c, spec := specBcnTableWrite c, body := bodyBcnTableWrite c }
  | .bcnTableRead t c => some { t := t, c := c, spec := specBcnTableRead c, body := bodyBcnTableRead c }
  | .bcnAccept t c => some { t := t, c := c, spec := specBcnAccept c, body := bodyBcnAccept c }
  | .bcnDm t c => some { t := t, c := c, spec := specBcnDm c, body := bodyBcnDm c }
  | .bcnUms t c => some { t := t, c := c, spec := specBcnUms c, body := bodyBcnUms c }
  | .bcnHostCall t c => some { t := t, c := c, spec := specBcnHostCall c, body := bodyBcnHostCall c }
  | .ldgBinset t c => some { t := t, c := c, spec := specLdgBinset c, body := bodyLdgBinset c }
  | .ldgView t c => some { t := t, c := c, spec := specLdgView c, body := bodyLdgView c }
  | .ldgFlush t c => some { t := t, c := c, spec := specLdgFlush c, body := bodyLdgFlush c }
  | .ldgSnapshot t c => some { t := t, c := c, spec := specLdgSnapshot c, body := bodyLdgSnapshot c }
  | .ldgTripArm t c => some { t := t, c := c, spec := specLdgTripArm c, body := bodyLdgTripArm c }
  | .ldgTripStop t c => some { t := t, c := c, spec := specLdgTripStop c, body := bodyLdgTripStop c }
  | .ldgTripTrigger t c => some { t := t, c := c, spec := specLdgTripTrigger c, body := bodyLdgTripTrigger c }
  | .ldgTripRead t c => some { t := t, c := c, spec := specLdgTripRead c, body := bodyLdgTripRead c }
  | .hstVolCreate t c => some { t := t, c := c, spec := specHstVolCreate c, body := bodyHstVolCreate c }
  | .hstVolErase t c => some { t := t, c := c, spec := specHstVolErase c, body := bodyHstVolErase c }
  | .hstVolDelete t c => some { t := t, c := c, spec := specHstVolDelete c, body := bodyHstVolDelete c }
  | .hstRemount t c => some { t := t, c := c, spec := specHstRemount c, body := bodyHstRemount c }
  | .hstLegReplace t c => some { t := t, c := c, spec := specHstLegReplace c, body := bodyHstLegReplace c }
  | .hstRead t c => some { t := t, c := c, spec := specHstRead c, body := bodyHstRead c }
  | .ltnTile t c => some { t := t, c := c, spec := specLtnTile c, body := bodyLtnTile c }
  | .ltnFrameWrite t c => some { t := t, c := c, spec := specLtnFrameWrite c, body := bodyLtnFrameWrite c }
  | .ltnShow t c => some { t := t, c := c, spec := specLtnShow c, body := bodyLtnShow c }
  | .fabRouteWrite t c => some { t := t, c := c, spec := specFabRouteWrite c, body := bodyFabRouteWrite c }
  | .fabRouteRead t c => some { t := t, c := c, spec := specFabRouteRead c, body := bodyFabRouteRead c }
  | .fabRouteCommit t c => some { t := t, c := c, spec := specFabRouteCommit c, body := bodyFabRouteCommit c }
  | .fabEpoch t c => some { t := t, c := c, spec := specFabEpoch c, body := bodyFabEpoch c }
  | .fabQuench t c => some { t := t, c := c, spec := specFabQuench c, body := bodyFabQuench c }
  | .fabLeave t c => some { t := t, c := c, spec := specFabLeave c, body := bodyFabLeave c }
  | .fabHandback t c => some { t := t, c := c, spec := specFabHandback c, body := bodyFabHandback c }
  | .fabPortCtrl t c => some { t := t, c := c, spec := specFabPortCtrl c, body := bodyFabPortCtrl c }
  | .fabSv t c => some { t := t, c := c, spec := specFabSv c, body := bodyFabSv c }
  | .updateBegin t c => some { t := t, c := c, spec := specUpd 0 c, body := bodyUpd 0 c, waits := fun s => s.rb Reg.KPR_DBG_STAT.HALTED && (1 < 0 || s.kpr.nor.isSome) }
  | .updateData t c => some { t := t, c := c, spec := specUpd 1 c, body := bodyUpd 1 c, waits := fun s => s.rb Reg.KPR_DBG_STAT.HALTED && (1 < 1 || s.kpr.nor.isSome) }
  | .updateEnd t c => some { t := t, c := c, spec := specUpd 2 c, body := bodyUpd 2 c, waits := fun s => s.rb Reg.KPR_DBG_STAT.HALTED && (1 < 2 || s.kpr.nor.isSome) }
  | .updateActivate t c => some { t := t, c := c, spec := specUpd 3 c, body := bodyUpd 3 c, waits := fun s => s.rb Reg.KPR_DBG_STAT.HALTED && (1 < 3 || s.kpr.nor.isSome) }
  | .logRead t c => some { t := t, c := c, spec := specLogRead c, body := bodyLogRead c, waits := fun s => s.rb Reg.KPR_DBG_STAT.HALTED }
  | .sensorRead t c => some { t := t, c := c, spec := specSensorRead c, body := bodySensorRead c, waits := fun s => s.rb Reg.KPR_DBG_STAT.HALTED }
  | .updateCancel t c => some { t := t, c := c, spec := specUpd 6 c, body := bodyUpd 6 c, waits := fun s => s.rb Reg.KPR_DBG_STAT.HALTED && (1 < 6 || s.kpr.nor.isSome) }
  | .mgmtHello _ _ _ => none
  | .mgmtAuth _ _ _ _ _ => none
  | .mgmtMailbox _ _ _ _ _ _ _ _ => none
  | .mgmtClose _ _ _ => none
  | .mgmtSessionIdle _ _ => none
  | .mgmtLockoutEnd _ _ => none
  | .debugHalt _ => none
  | .debugRun _ _ => none
  | .debugSessionExpire _ => none
  | .doorbellCountWrite _ _ _ _ _ => none
  | .doorbellArmWrite _ _ _ _ _ => none
  | .descriptorFetch _ _ => none
  | .completionWrite _ _ => none
  | .eventBacklogDrain _ _ => none
  | .vectorCoalesceExpire _ _ => none
  | .msixUnmask _ _ _ => none
  | .dataInSend _ _ _ _ => none
  | .dataOutWriteback _ _ => none
  | .dmaError _ _ _ => none
  | .functionLevelReset _ _ _ _ => none
  | .fnQuenchWrite _ _ _ _ => none
  | .admEnWrite _ _ _ _ => none
  | .hifQuenchWrite _ _ _ => none
  | .twinWriteOpen _ _ _ _ => none
  | .twinWriteClose _ _ _ _ => none
  | .twinWriteTimeout _ _ => none
  | .wldLockSet _ _ _ => none
  | .wldWorldChange _ _ _ _ => none
  | .wldHregApply _ _ _ _ => none
  | .registerWrite _ _ _ _ _ => none
  | .rcFieldRead _ _ _ _ _ => none
  | .almSeqLoRead _ _ _ => none
  | .almSpillExitWrite _ _ _ => none
  | .suppEnChange _ _ _ => none
  | .floodEnClear _ _ _ _ => none
  | .holdAllSet _ _ _ => none
  | .panelEnWrite _ _ _ => none
  | .retainWrite _ _ _ => none
  | .hartTxWrite _ _ _ _ => none
  | .hartRxRead _ _ _ _ => none
  | .kprRestart _ _ _ => none
  | .fanRestart _ _ _ _ => none
  | .rtcCapture _ _ _ => none
  | .rtcSet _ _ _ => none
  | .rtcShift _ _ _ => none
  | .pwronRelease _ _ _ => none
  | .pointUpdateApply _ _ _ _ => none
  | .scanTick _ => none
  | .delayTimerExpire _ _ => none
  | .coarseSlotServe _ => none
  | .shelveSweep _ _ => none
  | .adaptSweep _ _ => none
  | .suppressionInput _ => none
  | .pointRecordScrub _ _ _ _ => none
  | .heldTwinScrub _ _ _ => none
  | .sectorChangeProcess _ => none
  | .settleTimerExpire _ => none
  | .releaseTimerExpire _ => none
  | .floodRecount _ => none
  | .floodReleaseDone _ => none
  | .sectorAudit _ _ _ => none
  | .edgeCompactionDone _ => none
  | .mirrorTimeout _ _ => none
  | .mirrorHoldExpire _ _ => none
  | .mirrorRefreshSend _ _ => none
  | .mirrorAckTimeout _ => none
  | .cmwBlock _ => none
  | .frameFeatures _ => none
  | .tachPulse _ _ => none
  | .speedStopped _ _ => none
  | .captureEnd _ _ => none
  | .baselineCheckpoint _ => none
  | .loopEvaluate _ _ _ => none
  | .loopFrameDepart _ _ => none
  | .stageTimerExpire _ _ => none
  | .attendTimerExpire _ _ => none
  | .deadmanTimerExpire _ _ => none
  | .stationLostTimeout _ _ => none
  | .bcnCallRepeat _ _ _ => none
  | .bcnStatus _ _ _ => none
  | .bcnStationEvt _ _ _ _ _ => none
  | .histBoundary _ => none
  | .ledgerAgeFlush _ => none
  | .lshipLedgerPass _ => none
  | .spoolReplay _ => none
  | .nvmeCompletion _ _ _ _ => none
  | .nvmeTimeout _ _ _ => none
  | .controllerArrival _ _ _ _ _ _ => none
  | .volumeMount _ _ _ => none
  | .deallocationComplete _ _ => none
  | .legSyncComplete _ _ => none
  | .frameReceive _ _ _ _ _ _ _ _ => none
  | .egressSend _ _ => none
  | .pairWaitExpire _ => none
  | .rerouteWaitExpire _ => none
  | .credit _ _ _ _ => none
  | .retryTimerExpire _ _ => none
  | .creditSend _ _ => none
  | .dreq _ _ _ _ => none
  | .dreqSend _ _ => none
  | .dresp _ _ _ _ => none
  | .init _ _ _ _ => none
  | .initSend _ _ => none
  | .initTimeout _ _ => none
  | .linkTrained _ _ => none
  | .portLinkDown _ _ => none
  | .contactLoss _ _ => none
  | .takeover _ _ => none
  | .handbackTimeout _ _ => none
  | .heartbeatSend _ => none
  | .aliasLearnTimeout _ => none
  | .replFrameSend _ => none
  | .epochSwitch _ => none
  | .quenchLapse _ _ => none
  | .timeSyncSend _ => none
  | .timeHoldover _ => none
  | .rootRtcCompare _ => none
  | .ethFrameReceive _ _ _ => none
  | .ptpMasterSend _ _ => none
  | .aiConversion _ _ _ _ _ => none
  | .leadPhase _ _ _ => none
  | .aiOvervoltage _ _ _ => none
  | .dioEdgeAccept _ _ => none
  | .doOverload _ _ => none
  | .doOverloadRetry _ _ _ => none
  | .doReadbackMismatch _ _ => none
  | .aoSupervision _ _ _ _ _ _ => none
  | .hartTransmitStart _ _ => none
  | .hartByteReceive _ _ _ _ => none
  | .outputTwinCheck _ _ => none
  | .lioSafeEnter _ => none
  | .lioSafeExit _ => none
  | .pulseEnd _ _ => none
  | .lioPulseDrop _ _ => none
  | .demagEnd _ _ => none
  | .tileComposeDone _ => none
  | .lightPhaseEdge _ => none
  | .panelSweepCheck _ _ => none
  | .panelStartDone _ => none
  | .panelStopDone _ => none
  | .ltnBiasFault _ _ => none
  | .chargePumpRestart _ => none
  | .frameCopyWrite _ => none
  | .pwrFailWarn _ _ _ _ => none
  | .pwrMainReturn _ _ _ => none
  | .emerChange _ _ _ _ => none
  | .fieldChange _ _ _ => none
  | .pwrScapLow _ _ => none
  | .pwrLshipFail _ _ => none
  | .lightshipStop _ => none
  | .scapFull _ => none
  | .lrefLoss _ => none
  | .lshipHandback _ => none
  | .logicSideReturn _ => none
  | .lshipEvaluate _ => none
  | .thermalTrip _ _ _ _ => none
  | .thermalClear _ _ _ => none
  | .keeperReset _ => none
  | .keeperWatchdog _ => none
  | .lockstepFault _ _ => none
  | .eccError _ => none
  | .maskRomBoot _ _ => none
  | .trialEnd _ => none
  | .updateIdleTimeout _ => none
  | .norWindowExpire _ _ => none
  | .sensorLimit _ _ _ _ => none
  | .fanStartJudge _ _ _ _ => none
  | .fanRetryWaitEnd _ _ => none
  | .fanStallDetect _ _ _ _ => none
  | .fanTachRecover _ _ _ _ => none
  | .fanCurveUpdate _ => none
  | .keeperLogWrite _ => none
  | .storeBlockRetire _ _ _ _ => none
  | .backupSwitchover _ => none
  | .vbakMeasure _ _ => none
  | .backupPor _ => none
  | .crystalFail _ => none
  | .trimWindowEnd _ _ _ _ _ => none
  | .calendarAlarm _ => none
  | .pwronPulseEnd _ => none
  | .pwronHoldoffEnd _ => none
  | .lshipPowerGood _ _ _ _ => none
  | .restoreDone _ _ => none
  | .autoCommit _ => none
  | .checkpointWrite _ _ => none
  | .loopBlockWrite _ => none
  | .loopConfigScrub _ _ _ _ _ => none
  | .resyncComplete _ _ => none
  | .controllerPathLinkDown _ _ => none
  | .utcDayEndLeap _ => none
  | .lrefReturn _ => none
  | .crystalReturn _ => none
  | .scapChargeRestart _ _ => none
  | .commitComplete _ => none
  | .keeperReady _ _ => none
  | .hostLinkTrained _ _ _ _ => none
  | .panelTemperatureChange _ _ _ => none
  | .panelLineSent _ => none
  | .hartRxGap _ _ => none
  | .hartTransmitEnd _ _ => none
  | .mgmtArpIcmpEcho _ _ _ _ _ => none
  | .sounderFoldback _ => none
  | .sounderFoldbackEnd _ => none
  | .fftUnitGate _ => none
  | .uncleanStop _ _ => none

/-- At instant `t` the descriptor of `c` is the next of its ring and every check before its effect passes; `i` is its entry (R503, R506,
R539 to R545). -/
def Accepted (t : Nat) (sp : State → Spec) (c : Cmd) (s : State) (i : Infl) : Prop :=
  (s.at_ t).dispatchable (sp (s.at_ t)) c = some i ∧ ((s.at_ t).preCheck (sp (s.at_ t)) c).1 = none

/-- A write of requester `req` at BAR0 offset `off` reaches register `r` at `o` of the map of PF0: the requester may access the block, the
block is there, no lock and no denial bars it, and a field of the register takes writes (R27, R535, R583, R585, R786, R791, R794). -/
def WriteReaches (req off o : Nat) (r : RegDef) (a : State) : Prop :=
  a.mayAccess req = true ∧ off % 4 = 0 ∧ regAddr req off = some o ∧ findReg o = some r ∧ a.regServed o = true ∧ req ≠ 66 ∧
    a.regOpen req o = (true, a) ∧ (r.fields.filter (writable req o)).isEmpty = false ∧
    (a.rb Reg.WLD_LOCK.LOCK && (r.fields.filter (writable req o)).all fun f => f.lk) = false

/-- The register takes its words in twin (R588). -/
def TwinTaken (req o : Nat) (r : RegDef) : Bool := (r.fields.filter (writable req o)).any fun f => f.acc == .tw

/-- A second word `v` at `off` completes the open sequence of the requester, in time (R588). -/
def PairCloses (req off v : Nat) (r : RegDef) (a : State) : Prop :=
  WriteReaches req off off r a ∧ TwinTaken req off r = true ∧ a.seqAt req off = true ∧ twinOk (a.twSeq req).v (v % 2 ^ 32) = true

/-! Registers and tables. -/

/-- The register words that a completion, an event record, a denial the closing pass of a step or the passing of time may write: the Ledger's counters and
status, the two counters of full queues, the last denial, the pending commit, and the host interface's own block (R336 to R369, R489 to R545, R585, R767). -/
def closingReg (off : Nat) : Bool :=
  decide (0x180000 ≤ off) ||
    [Reg.SYS_COMMIT_STAT.DIRTY_HOST.off, Reg.LDG_CUR.VOLUME.off, Reg.LDG_STAT.SPOOLING.off, Reg.LDG_BUF_USED.BYTES.off,
      Reg.LDG_SPOOL_USED.KIB.off, Reg.LDG_TRIP_STAT.STATE.off, Reg.LDG_TRIP_STAT.USED_MIB.off, Reg.LDG_DROP_HIST_CNT.COUNT.off,
      Reg.LDG_DROP_CHG_CNT.COUNT.off, Reg.LDG_DROP_EVT_CNT.COUNT.off, Reg.LDG_FLUSH_CNT.COUNT.off, Reg.LDG_RATE_SKIP_CNT.COUNT.off,
      Reg.WLD_DENIED_CNT.COUNT.off, Reg.WLD_LAST_DENIED.FUNC.off, Reg.PNT_TILE_BUSY_CNT.COUNT.off,
      Reg.SEC_BACKPRESS_CNT.COUNT.off].contains off

/-- The tables with one canonical form are in it: host memory, the register words, the complements held beside them. -/
def Canonical (s : State) : Prop := Memory.wf s.hif.mem = true ∧ Regs.wf s.regs = true ∧ RegsN.wf s.regsN = true

/-- The entries of a ring that the module writes take up a byte of host memory (R491). -/
def ringHolds (c : Rec 64) (a : Nat) : Prop :=
  fbit Ring.VALID c = true ∧ (fget Ring.TYPE c = 1 ∨ fget Ring.TYPE c = 2 ∨ fget Ring.TYPE c = 4) ∧ fget Ring.BASE c ≤ a ∧
    a < fget Ring.BASE c + 32 * ringSize c

/-- The host has given the module a byte of its memory to write of its own accord: it lies in a CPL, EVT or DATA_OUT ring (R491), in the
Ledger view (R348) or in a DATA_OUT buffer (R522). -/
def State.mayStore (s : State) (a : Nat) : Prop :=
  (∃ e ∈ s.hif.rings, ringHolds e.2 a) ∨
  (∃ f b p, s.ldg.view = some (f, b, p) ∧ b ≤ a ∧ a < b + 0x90000) ∨
  (∃ p ∈ s.hif.posted, p.2.2.1 ≤ a ∧ a < p.2.2.1 + p.2.2.2) ∨
  (∃ e ∈ s.hif.outBuf, ∃ b, e.2 = some b ∧ b.addr ≤ a ∧ a < b.addr + b.len)

/-! What a command leaves alone. -/

/-- The parts of the state. -/
inductive Part where
  | time
  | registers
  | complements
  | hostInterface
  | worlds
  | ledger
  | historian
  | fabric
  | points
  | alarms
  | sectors
  | waveforms
  | loops
  | localIo
  | lantern
  | beacon
  | backup
  | images
  | power
  | keeper
  | freeValues
  deriving DecidableEq, Repr

/-- A part is the same in two states. -/
def Part.same (s u : State) : Part → Prop
  | .time => u.tim = s.tim
  | .registers => u.regs = s.regs
  | .complements => u.regsN = s.regsN
  | .hostInterface => u.hif = s.hif
  | .worlds => u.wld = s.wld
  | .ledger => u.ldg = s.ldg
  | .historian => u.hst = s.hst
  | .fabric => u.fab = s.fab
  | .points => u.pts = s.pts
  | .alarms => u.alm = s.alm
  | .sectors => u.sec = s.sec
  | .waveforms => u.cmw = s.cmw
  | .loops => u.ctl = s.ctl
  | .localIo => u.lio = s.lio
  | .lantern => u.ltn = s.ltn
  | .beacon => u.bcn = s.bcn
  | .backup => u.bkp = s.bkp
  | .images => u.img = s.img
  | .power => u.pwr = s.pwr
  | .keeper => u.kpr = s.kpr
  | .freeValues => u.free = s.free

/-- The parts that a command leaves as they are, whatever its operands and the state. -/
def leavesAlone : Instr → List Part
  | .nop _ _ => [.fabric, .alarms, .waveforms, .loops, .localIo, .lantern, .beacon, .backup, .images, .power]
  | .ringCreate _ _ => [.fabric, .alarms, .waveforms, .loops, .localIo, .lantern, .beacon, .backup, .images, .power]
  | .ringDelete _ _ => [.fabric, .alarms, .waveforms, .loops, .localIo, .lantern, .beacon, .backup, .images, .power]
  | .ringTune _ _ => [.fabric, .alarms, .waveforms, .loops, .localIo, .lantern, .beacon, .backup, .images, .power]
  | .ringQuery _ _ => [.fabric, .alarms, .waveforms, .loops, .localIo, .lantern, .beacon, .backup, .images, .power]
  | .sysStatus _ _ => [.fabric, .alarms, .waveforms, .loops, .localIo, .lantern, .beacon, .backup, .images, .power]
  | .cfgCommit _ _ => [.fabric, .alarms, .waveforms, .loops, .localIo, .lantern, .beacon, .backup, .power]
  | .cfgFactory _ _ => [.fabric, .alarms, .waveforms, .loops, .localIo, .lantern, .beacon, .backup, .power]
  | .cfgConfirm _ _ => [.fabric, .alarms, .waveforms, .loops, .localIo, .lantern, .beacon, .backup, .power]
  | .pntConfig _ _ => [.loops]
  | .pntConfigExpert _ _ => [.loops]
  | .pntDelete _ _ => [.loops]
  | .pntRead _ _ => [.fabric, .waveforms, .loops, .localIo, .lantern, .beacon, .backup]
  | .pntForce _ _ => [.loops, .lantern, .beacon, .backup]
  | .pntUnforce _ _ => [.loops, .lantern, .beacon, .backup]
  | .pntSimStart _ _ => [.loops, .lantern, .beacon, .backup]
  | .pntSimValue _ _ => [.loops, .lantern, .beacon, .backup]
  | .pntSimEnd _ _ => [.loops, .lantern, .beacon, .backup]
  | .pntOutput _ _ => [.loops, .lantern, .beacon, .backup]
  | .pntReset _ _ => [.loops, .localIo, .lantern, .beacon, .backup]
  | .pntVoteBind _ _ => [.waveforms, .loops, .localIo, .lantern, .beacon, .backup]
  | .pntProfileWrite _ _ => [.fabric, .alarms, .waveforms, .loops, .localIo, .lantern, .beacon, .backup, .power]
  | .pntProfileRead _ _ => [.fabric, .alarms, .waveforms, .loops, .localIo, .lantern, .beacon, .backup, .images, .power]
  | .almAck _ _ => [.waveforms, .loops, .localIo, .lantern, .beacon, .backup]
  | .almShelve _ _ => [.waveforms, .loops, .localIo, .lantern, .beacon, .backup]
  | .almUnshelve _ _ => [.waveforms, .loops, .localIo, .lantern, .beacon, .backup]
  | .almOos _ _ => [.waveforms, .loops, .localIo, .lantern, .beacon, .backup]
  | .almReturn _ _ => [.waveforms, .loops, .localIo, .lantern, .beacon, .backup]
  | .almCondRead _ _ => [.fabric, .waveforms, .loops, .localIo, .lantern, .beacon, .backup]
  | .almAdaptHold _ _ => [.waveforms, .loops, .localIo, .lantern, .beacon, .backup]
  | .secConfig _ _ => [.fabric, .alarms, .waveforms, .loops, .localIo, .beacon, .backup, .power]
  | .secRead _ _ => [.fabric, .alarms, .waveforms, .loops, .localIo, .lantern, .beacon, .backup, .images, .power]
  | .secFoReset _ _ => [.fabric, .alarms, .waveforms, .loops, .localIo, .beacon, .backup, .power]
  | .secCauseSet _ _ => [.fabric, .waveforms, .loops, .localIo, .lantern, .beacon, .backup, .power]
  | .secCauseDelete _ _ => [.fabric, .waveforms, .loops, .localIo, .lantern, .beacon, .backup, .power]
  | .secCauseRead _ _ => [.fabric, .alarms, .waveforms, .loops, .localIo, .lantern, .beacon, .backup, .images, .power]
  | .secMirrorBind _ _ => [.alarms, .waveforms, .loops, .localIo, .beacon, .backup, .power]
  | .cmwChannel _ _ => [.fabric, .alarms, .loops, .localIo, .lantern, .beacon, .backup, .power]
  | .cmwBand _ _ => [.fabric, .alarms, .loops, .localIo, .lantern, .beacon, .backup, .power]
  | .cmwSpeedRef _ _ => [.fabric, .alarms, .loops, .localIo, .lantern, .beacon, .backup, .power]
  | .cmwBind _ _ => [.fabric, .alarms, .loops, .localIo, .lantern, .beacon, .backup, .power]
  | .cmwBaseline _ _ => [.fabric, .alarms, .loops, .localIo, .lantern, .beacon, .backup, .power]
  | .cmwCaptureDef _ _ => [.fabric, .alarms, .loops, .localIo, .lantern, .beacon, .backup, .power]
  | .cmwCaptureTrig _ _ => [.fabric, .alarms, .loops, .localIo, .lantern, .beacon, .backup, .images, .power]
  | .cmwCaptureStop _ _ => [.fabric, .alarms, .loops, .localIo, .lantern, .beacon, .backup, .images, .power]
  | .cmwRead _ _ => [.fabric, .alarms, .waveforms, .loops, .localIo, .lantern, .beacon, .backup, .images, .power]
  | .ctlLoopConfig _ _ => [.fabric, .alarms, .waveforms, .localIo, .lantern, .beacon, .backup, .power]
  | .ctlSupConfig _ _ => [.fabric, .alarms, .waveforms, .localIo, .lantern, .beacon, .backup, .power]
  | .ctlMode _ _ => [.fabric, .alarms, .waveforms, .localIo, .lantern, .beacon, .backup, .power]
  | .ctlManOut _ _ => [.fabric, .alarms, .waveforms, .localIo, .lantern, .beacon, .backup, .images, .power]
  | .ctlSetpoint _ _ => [.fabric, .alarms, .waveforms, .localIo, .lantern, .beacon, .backup, .power]
  | .ctlCompTable _ _ => [.fabric, .alarms, .waveforms, .localIo, .lantern, .beacon, .backup, .power]
  | .ctlSupReset _ _ => [.fabric, .alarms, .waveforms, .localIo, .lantern, .beacon, .backup, .images, .power]
  | .ctlTuneStart _ _ => [.fabric, .alarms, .waveforms, .localIo, .lantern, .beacon, .backup, .images, .power]
  | .ctlTuneStop _ _ => [.fabric, .alarms, .waveforms, .localIo, .lantern, .beacon, .backup, .images, .power]
  | .ctlTuneRead _ _ => [.fabric, .alarms, .waveforms, .loops, .localIo, .lantern, .beacon, .backup, .images, .power]
  | .ctlLoopRead _ _ => [.fabric, .alarms, .waveforms, .loops, .localIo, .lantern, .beacon, .backup, .images, .power]
  | .ctlLoopDelete _ _ => [.fabric, .alarms, .waveforms, .localIo, .lantern, .beacon, .backup, .power]
  | .bcnTableWrite _ _ => [.fabric, .alarms, .waveforms, .loops, .localIo, .lantern, .beacon, .backup, .power]
  | .bcnTableRead _ _ => [.fabric, .alarms, .waveforms, .loops, .localIo, .lantern, .beacon, .backup, .images, .power]
  | .bcnAccept _ _ => [.alarms, .waveforms, .loops, .localIo, .lantern, .backup, .images, .power]
  | .bcnDm _ _ => [.fabric, .alarms, .waveforms, .loops, .localIo, .lantern, .backup, .images, .power]
  | .bcnUms _ _ => [.fabric, .alarms, .waveforms, .loops, .localIo, .lantern, .beacon, .backup, .power]
  | .bcnHostCall _ _ => [.alarms, .waveforms, .loops, .localIo, .lantern, .images, .power]
  | .ldgBinset _ _ => [.fabric, .alarms, .waveforms, .loops, .localIo, .lantern, .beacon, .backup, .images, .power]
  | .ldgView _ _ => [.fabric, .alarms, .waveforms, .loops, .localIo, .lantern, .beacon, .backup, .images, .power]
  | .ldgFlush _ _ => [.fabric, .alarms, .waveforms, .loops, .localIo, .lantern, .beacon, .backup, .images, .power]
  | .ldgSnapshot _ _ => [.fabric, .alarms, .waveforms, .loops, .localIo, .lantern, .beacon, .backup, .images, .power]
  | .ldgTripArm _ _ => [.fabric, .alarms, .waveforms, .loops, .localIo, .lantern, .beacon, .backup, .images, .power]
  | .ldgTripStop _ _ => [.fabric, .alarms, .waveforms, .loops, .localIo, .lantern, .beacon, .backup, .images, .power]
  | .ldgTripTrigger _ _ => [.fabric, .alarms, .waveforms, .loops, .localIo, .lantern, .beacon, .backup, .images, .power]
  | .ldgTripRead _ _ => [.fabric, .alarms, .waveforms, .loops, .localIo, .lantern, .beacon, .backup, .images, .power]
  | .hstVolCreate _ _ => [.fabric, .alarms, .waveforms, .loops, .localIo, .lantern, .beacon, .backup, .power]
  | .hstVolErase _ _ => [.fabric, .alarms, .waveforms, .loops, .localIo, .lantern, .beacon, .backup, .power]
  | .hstVolDelete _ _ => [.fabric, .alarms, .waveforms, .loops, .localIo, .lantern, .beacon, .backup, .power]
  | .hstRemount _ _ => [.fabric, .alarms, .waveforms, .loops, .localIo, .lantern, .beacon, .backup, .images, .power]
  | .hstLegReplace _ _ => [.fabric, .alarms, .waveforms, .loops, .localIo, .lantern, .beacon, .backup, .power]
  | .hstRead _ _ => [.fabric, .alarms, .waveforms, .loops, .localIo, .lantern, .beacon, .backup, .images, .power]
  | .ltnTile _ _ => [.fabric, .alarms, .waveforms, .loops, .localIo, .beacon, .backup, .power]
  | .ltnFrameWrite _ _ => [.fabric, .alarms, .waveforms, .loops, .localIo, .beacon, .backup, .images, .power]
  | .ltnShow _ _ => [.fabric, .alarms, .waveforms, .loops, .localIo, .beacon, .backup, .power]
  | .fabRouteWrite _ _ => [.alarms, .waveforms, .loops, .localIo, .lantern, .beacon, .backup, .images, .power]
  | .fabRouteRead _ _ => [.fabric, .alarms, .waveforms, .loops, .localIo, .lantern, .beacon, .backup, .images, .power]
  | .fabRouteCommit _ _ => [.fabric, .alarms, .waveforms, .loops, .localIo, .lantern, .beacon, .backup, .images, .power]
  | .fabEpoch _ _ => [.alarms, .waveforms, .loops, .localIo, .lantern, .beacon, .backup, .images, .power]
  | .fabQuench _ _ => [.alarms, .waveforms, .loops, .localIo, .lantern, .beacon, .backup, .images, .power]
  | .fabLeave _ _ => [.alarms, .waveforms, .loops, .localIo, .lantern, .beacon, .backup, .images, .power]
  | .fabHandback _ _ => [.alarms, .waveforms, .loops, .localIo, .lantern, .beacon, .backup, .images, .power]
  | .fabPortCtrl _ _ => [.alarms, .waveforms, .loops, .localIo, .lantern, .beacon, .backup, .power]
  | .fabSv _ _ => [.fabric, .alarms, .waveforms, .loops, .localIo, .lantern, .beacon, .backup, .power]
  | .updateBegin _ _ => [.fabric, .alarms, .waveforms, .loops, .localIo, .lantern, .beacon, .backup, .power]
  | .updateData _ _ => [.fabric, .alarms, .waveforms, .loops, .localIo, .lantern, .beacon, .backup, .power]
  | .updateEnd _ _ => [.fabric, .alarms, .waveforms, .loops, .localIo, .lantern, .beacon, .backup, .power]
  | .updateActivate _ _ => [.fabric, .alarms, .waveforms, .loops, .localIo, .lantern, .beacon, .backup, .power]
  | .logRead _ _ => [.fabric, .alarms, .waveforms, .loops, .localIo, .lantern, .beacon, .backup, .images, .power]
  | .sensorRead _ _ => [.fabric, .alarms, .waveforms, .loops, .localIo, .lantern, .beacon, .backup, .images, .power]
  | .updateCancel _ _ => [.fabric, .alarms, .waveforms, .loops, .localIo, .lantern, .beacon, .backup, .power]
  | .mgmtHello _ _ _ => [.fabric, .alarms, .waveforms, .loops, .localIo, .lantern, .beacon, .backup, .images, .power]
  | .mgmtAuth _ _ _ _ _ => [.fabric, .alarms, .waveforms, .loops, .localIo, .lantern, .beacon, .backup, .images, .power]
  | .mgmtMailbox _ _ _ _ _ _ _ _ => [.fabric, .alarms, .waveforms, .loops, .localIo, .lantern, .beacon, .backup, .power]
  | .mgmtClose _ _ _ => [.fabric, .alarms, .waveforms, .loops, .localIo, .lantern, .beacon, .backup, .images, .power]
  | .mgmtSessionIdle _ _ => [.fabric, .alarms, .waveforms, .loops, .localIo, .lantern, .beacon, .backup, .images, .power]
  | .mgmtLockoutEnd _ _ => [.fabric, .alarms, .waveforms, .loops, .localIo, .lantern, .beacon, .backup, .images, .power]
  | .debugHalt _ => [.fabric, .alarms, .waveforms, .loops, .localIo, .lantern, .beacon, .backup, .images, .power]
  | .debugRun _ _ => [.fabric, .alarms, .waveforms, .loops, .localIo, .lantern, .beacon, .backup, .power]
  | .debugSessionExpire _ => [.fabric, .alarms, .waveforms, .loops, .localIo, .lantern, .beacon, .backup, .images, .power]
  | .doorbellCountWrite _ _ _ _ _ => [.fabric, .alarms, .waveforms, .loops, .localIo, .lantern, .beacon, .backup, .images, .power]
  | .doorbellArmWrite _ _ _ _ _ => [.fabric, .alarms, .waveforms, .loops, .localIo, .lantern, .beacon, .backup, .images, .power]
  | .descriptorFetch _ _ => [.fabric, .alarms, .waveforms, .loops, .localIo, .lantern, .beacon, .backup, .images, .power]
  | .completionWrite _ _ => [.fabric, .alarms, .waveforms, .loops, .localIo, .lantern, .beacon, .backup, .images, .power]
  | .eventBacklogDrain _ _ => [.fabric, .alarms, .waveforms, .loops, .localIo, .lantern, .beacon, .backup, .images, .power]
  | .vectorCoalesceExpire _ _ => [.fabric, .alarms, .waveforms, .loops, .localIo, .lantern, .beacon, .backup, .images, .power]
  | .msixUnmask _ _ _ => [.fabric, .alarms, .waveforms, .loops, .localIo, .lantern, .beacon, .backup, .images, .power]
  | .dataInSend _ _ _ _ => [.alarms, .waveforms, .loops, .localIo, .lantern, .beacon, .backup, .images, .power]
  | .dataOutWriteback _ _ => [.fabric, .alarms, .waveforms, .loops, .localIo, .lantern, .beacon, .backup, .images, .power]
  | .dmaError _ _ _ => [.fabric, .alarms, .waveforms, .loops, .localIo, .lantern, .beacon, .backup, .images, .power]
  | .functionLevelReset _ _ _ _ => [.fabric, .alarms, .waveforms, .loops, .localIo, .lantern, .beacon, .backup, .images, .power]
  | .fnQuenchWrite _ _ _ _ => [.fabric, .alarms, .waveforms, .loops, .localIo, .lantern, .beacon, .backup, .images, .power]
  | .admEnWrite _ _ _ _ => [.fabric, .alarms, .waveforms, .loops, .localIo, .lantern, .beacon, .backup, .images, .power]
  | .hifQuenchWrite _ _ _ => [.fabric, .alarms, .waveforms, .loops, .localIo, .lantern, .beacon, .backup, .images, .power]
  | .twinWriteOpen _ _ _ _ => [.alarms, .waveforms, .beacon, .power]
  | .twinWriteClose _ _ _ _ => [.alarms, .waveforms, .beacon, .power]
  | .twinWriteTimeout _ _ => [.fabric, .alarms, .waveforms, .loops, .localIo, .lantern, .beacon, .backup, .images, .power]
  | .wldLockSet _ _ _ => [.alarms, .waveforms, .beacon, .power]
  | .wldWorldChange _ _ _ _ => [.alarms, .waveforms, .beacon, .power]
  | .wldHregApply _ _ _ _ => [.alarms, .waveforms, .beacon, .power]
  | .registerWrite _ _ _ _ _ => [.alarms, .waveforms, .beacon, .power]
  | .rcFieldRead _ _ _ _ _ => [.fabric, .alarms, .waveforms, .loops, .lantern, .beacon, .backup, .images, .power]
  | .almSeqLoRead _ _ _ => [.fabric, .alarms, .waveforms, .loops, .lantern, .beacon, .backup, .images, .power]
  | .almSpillExitWrite _ _ _ => [.alarms, .waveforms, .beacon, .power]
  | .suppEnChange _ _ _ => [.alarms, .waveforms, .beacon, .power]
  | .floodEnClear _ _ _ _ => [.alarms, .waveforms, .beacon, .power]
  | .holdAllSet _ _ _ => [.alarms, .waveforms, .beacon, .power]
  | .panelEnWrite _ _ _ => [.alarms, .waveforms, .beacon, .power]
  | .retainWrite _ _ _ => [.alarms, .waveforms, .beacon, .power]
  | .hartTxWrite _ _ _ _ => [.alarms, .waveforms, .beacon, .power]
  | .hartRxRead _ _ _ _ => [.fabric, .alarms, .waveforms, .loops, .lantern, .beacon, .backup, .images, .power]
  | .kprRestart _ _ _ => [.alarms, .waveforms, .beacon, .power]
  | .fanRestart _ _ _ _ => [.alarms, .waveforms, .beacon, .power]
  | .rtcCapture _ _ _ => [.alarms, .waveforms, .beacon, .power]
  | .rtcSet _ _ _ => [.alarms, .waveforms, .beacon, .power]
  | .rtcShift _ _ _ => [.alarms, .waveforms, .beacon, .power]
  | .pwronRelease _ _ _ => [.alarms, .waveforms, .beacon, .power]
  | .pointUpdateApply _ _ _ _ => [.loops, .lantern, .beacon, .backup]
  | .scanTick _ => [.loops, .lantern, .beacon, .backup]
  | .delayTimerExpire _ _ => [.waveforms, .loops, .localIo, .lantern, .beacon, .backup]
  | .coarseSlotServe _ => [.waveforms, .loops, .localIo, .lantern, .beacon, .backup]
  | .shelveSweep _ _ => [.waveforms, .loops, .localIo, .lantern, .beacon, .backup]
  | .adaptSweep _ _ => [.waveforms, .loops, .localIo, .lantern, .beacon, .backup]
  | .suppressionInput _ => [.waveforms, .loops, .localIo, .lantern, .beacon, .backup]
  | .pointRecordScrub _ _ _ _ => [.fabric, .alarms, .waveforms, .loops, .localIo, .lantern, .beacon, .backup, .images, .power]
  | .heldTwinScrub _ _ _ => [.fabric, .alarms, .waveforms, .loops, .localIo, .lantern, .beacon, .backup, .images, .power]
  | .sectorChangeProcess _ => [.loops, .images, .power]
  | .settleTimerExpire _ => [.fabric, .waveforms, .loops, .localIo, .lantern, .beacon, .backup, .images, .power]
  | .releaseTimerExpire _ => [.fabric, .waveforms, .loops, .localIo, .lantern, .beacon, .backup, .images, .power]
  | .floodRecount _ => [.fabric, .alarms, .waveforms, .loops, .localIo, .beacon, .backup, .images, .power]
  | .floodReleaseDone _ => [.alarms, .waveforms, .loops, .localIo, .images, .power]
  | .sectorAudit _ _ _ => [.fabric, .alarms, .waveforms, .loops, .localIo, .beacon, .backup, .images, .power]
  | .edgeCompactionDone _ => [.fabric, .alarms, .waveforms, .loops, .localIo, .lantern, .beacon, .backup, .images, .power]
  | .mirrorTimeout _ _ => [.fabric, .alarms, .waveforms, .loops, .localIo, .lantern, .beacon, .backup, .images, .power]
  | .mirrorHoldExpire _ _ => [.fabric, .waveforms, .loops, .localIo, .lantern, .beacon, .backup, .images, .power]
  | .mirrorRefreshSend _ _ => [.alarms, .waveforms, .loops, .localIo, .lantern, .beacon, .backup, .images, .power]
  | .mirrorAckTimeout _ => [.fabric, .alarms, .waveforms, .loops, .localIo, .lantern, .beacon, .backup, .images, .power]
  | .cmwBlock _ => [.fabric, .alarms, .loops, .localIo, .lantern, .beacon, .backup, .images, .power]
  | .frameFeatures _ => [.fabric, .alarms, .loops, .localIo, .lantern, .beacon, .backup, .images, .power]
  | .tachPulse _ _ => [.fabric, .alarms, .loops, .localIo, .lantern, .beacon, .backup, .images, .power]
  | .speedStopped _ _ => [.fabric, .alarms, .loops, .localIo, .lantern, .beacon, .backup, .images, .power]
  | .captureEnd _ _ => [.fabric, .alarms, .loops, .localIo, .lantern, .beacon, .backup, .images, .power]
  | .baselineCheckpoint _ => [.fabric, .alarms, .loops, .localIo, .lantern, .beacon, .backup, .images, .power]
  | .loopEvaluate _ _ _ => [.alarms, .waveforms, .lantern, .beacon, .backup, .images, .power]
  | .loopFrameDepart _ _ => [.alarms, .waveforms, .loops, .localIo, .lantern, .beacon, .backup, .images, .power]
  | .stageTimerExpire _ _ => [.alarms, .waveforms, .loops, .localIo, .lantern, .backup, .images, .power]
  | .attendTimerExpire _ _ => [.alarms, .waveforms, .loops, .localIo, .lantern, .backup, .images, .power]
  | .deadmanTimerExpire _ _ => [.alarms, .waveforms, .loops, .localIo, .lantern, .images, .power]
  | .stationLostTimeout _ _ => [.fabric, .alarms, .waveforms, .loops, .localIo, .lantern, .beacon, .backup, .images, .power]
  | .bcnCallRepeat _ _ _ => [.alarms, .waveforms, .loops, .localIo, .lantern, .backup, .images, .power]
  | .bcnStatus _ _ _ => [.alarms, .waveforms, .loops, .localIo, .lantern, .backup, .images, .power]
  | .bcnStationEvt _ _ _ _ _ => [.alarms, .waveforms, .loops, .localIo, .lantern, .backup, .images, .power]
  | .histBoundary _ => [.fabric, .alarms, .waveforms, .loops, .localIo, .lantern, .beacon, .backup, .images]
  | .ledgerAgeFlush _ => [.fabric, .alarms, .waveforms, .loops, .localIo, .lantern, .beacon, .backup, .images, .power]
  | .lshipLedgerPass _ => [.fabric, .alarms, .waveforms, .loops, .localIo, .lantern, .beacon, .backup, .images, .power]
  | .spoolReplay _ => [.fabric, .alarms, .waveforms, .loops, .localIo, .lantern, .beacon, .backup, .images, .power]
  | .nvmeCompletion _ _ _ _ => [.fabric, .alarms, .loops, .localIo, .lantern, .beacon, .backup, .images, .power]
  | .nvmeTimeout _ _ _ => [.fabric, .alarms, .loops, .localIo, .lantern, .beacon, .backup, .images, .power]
  | .controllerArrival _ _ _ _ _ _ => [.fabric, .alarms, .waveforms, .loops, .localIo, .lantern, .beacon, .backup, .images, .power]
  | .volumeMount _ _ _ => [.fabric, .alarms, .loops, .localIo, .lantern, .beacon, .backup, .images, .power]
  | .deallocationComplete _ _ => [.fabric, .alarms, .loops, .localIo, .lantern, .beacon, .backup, .images, .power]
  | .legSyncComplete _ _ => [.fabric, .alarms, .waveforms, .loops, .localIo, .lantern, .beacon, .backup, .images, .power]
  | .frameReceive _ _ _ _ _ _ _ _ => []
  | .egressSend _ _ => [.alarms, .waveforms, .loops, .localIo, .lantern, .beacon, .backup, .images, .power]
  | .pairWaitExpire _ => [.loops]
  | .rerouteWaitExpire _ => [.alarms, .waveforms, .loops, .localIo, .lantern, .beacon, .backup, .images, .power]
  | .credit _ _ _ _ => [.alarms, .waveforms, .loops, .localIo, .lantern, .beacon, .backup, .images, .power]
  | .retryTimerExpire _ _ => [.alarms, .waveforms, .loops, .localIo, .lantern, .beacon, .backup, .images, .power]
  | .creditSend _ _ => [.alarms, .waveforms, .loops, .localIo, .lantern, .beacon, .backup, .images, .power]
  | .dreq _ _ _ _ => [.alarms, .waveforms, .loops, .localIo, .lantern, .beacon, .backup, .images, .power]
  | .dreqSend _ _ => [.alarms, .waveforms, .loops, .localIo, .lantern, .beacon, .backup, .images, .power]
  | .dresp _ _ _ _ => [.alarms, .waveforms, .loops, .localIo, .lantern, .beacon, .backup, .images, .power]
  | .init _ _ _ _ => [.alarms, .waveforms, .loops, .localIo, .lantern, .beacon, .backup, .images, .power]
  | .initSend _ _ => [.alarms, .waveforms, .loops, .localIo, .lantern, .beacon, .backup, .images, .power]
  | .initTimeout _ _ => [.alarms, .waveforms, .loops, .localIo, .lantern, .beacon, .backup, .images, .power]
  | .linkTrained _ _ => [.alarms, .waveforms, .loops, .localIo, .lantern, .beacon, .backup, .images, .power]
  | .portLinkDown _ _ => [.alarms, .waveforms, .loops, .localIo, .lantern, .beacon, .backup, .images, .power]
  | .contactLoss _ _ => [.alarms, .waveforms, .loops, .localIo, .lantern, .beacon, .backup, .images, .power]
  | .takeover _ _ => [.loops, .beacon, .backup]
  | .handbackTimeout _ _ => [.loops, .lantern, .beacon, .backup]
  | .heartbeatSend _ => [.alarms, .waveforms, .loops, .localIo, .lantern, .beacon, .backup, .images, .power]
  | .aliasLearnTimeout _ => [.loops, .beacon, .backup]
  | .replFrameSend _ => [.alarms, .waveforms, .loops, .localIo, .lantern, .beacon, .backup, .images, .power]
  | .epochSwitch _ => [.alarms, .waveforms, .loops, .localIo, .lantern, .beacon, .backup, .images, .power]
  | .quenchLapse _ _ => [.alarms, .waveforms, .loops, .localIo, .lantern, .beacon, .backup, .images, .power]
  | .timeSyncSend _ => [.alarms, .waveforms, .loops, .localIo, .lantern, .beacon, .backup, .images, .power]
  | .timeHoldover _ => [.alarms, .waveforms, .loops, .localIo, .lantern, .beacon, .images, .power]
  | .rootRtcCompare _ => [.alarms, .waveforms, .localIo, .lantern, .beacon, .images, .power]
  | .ethFrameReceive _ _ _ => [.alarms, .localIo, .lantern, .beacon, .images, .power]
  | .ptpMasterSend _ _ => [.alarms, .waveforms, .loops, .localIo, .lantern, .beacon, .backup, .images, .power]
  | .aiConversion _ _ _ _ _ => [.fabric, .alarms, .loops, .lantern, .beacon, .backup, .images, .power]
  | .leadPhase _ _ _ => [.fabric, .alarms, .waveforms, .loops, .lantern, .beacon, .backup, .images, .power]
  | .aiOvervoltage _ _ _ => [.fabric, .alarms, .waveforms, .loops, .lantern, .beacon, .backup, .images, .power]
  | .dioEdgeAccept _ _ => [.loops, .lantern, .backup]
  | .doOverload _ _ => [.loops, .lantern, .beacon, .backup]
  | .doOverloadRetry _ _ _ => [.loops, .lantern, .beacon, .backup]
  | .doReadbackMismatch _ _ => [.loops, .lantern, .beacon, .backup]
  | .aoSupervision _ _ _ _ _ _ => [.loops, .lantern, .beacon, .backup]
  | .hartTransmitStart _ _ => [.fabric, .alarms, .waveforms, .loops, .lantern, .beacon, .backup, .images, .power]
  | .hartByteReceive _ _ _ _ => [.fabric, .alarms, .waveforms, .loops, .lantern, .beacon, .backup, .images, .power]
  | .outputTwinCheck _ _ => [.fabric, .alarms, .waveforms, .loops, .lantern, .beacon, .backup, .images, .power]
  | .lioSafeEnter _ => [.fabric, .alarms, .waveforms, .loops, .lantern, .beacon, .backup, .images, .power]
  | .lioSafeExit _ => [.fabric, .alarms, .waveforms, .loops, .lantern, .beacon, .backup, .images, .power]
  | .pulseEnd _ _ => [.fabric, .alarms, .waveforms, .loops, .lantern, .beacon, .backup, .images, .power]
  | .lioPulseDrop _ _ => [.fabric, .alarms, .waveforms, .loops, .lantern, .beacon, .backup, .images, .power]
  | .demagEnd _ _ => [.fabric, .alarms, .waveforms, .loops, .lantern, .beacon, .backup, .images, .power]
  | .tileComposeDone _ => [.fabric, .alarms, .waveforms, .loops, .localIo, .beacon, .backup, .images, .power]
  | .lightPhaseEdge _ => [.fabric, .alarms, .waveforms, .loops, .localIo, .beacon, .backup, .images, .power]
  | .panelSweepCheck _ _ => [.fabric, .alarms, .waveforms, .loops, .localIo, .beacon, .backup, .images, .power]
  | .panelStartDone _ => [.fabric, .alarms, .waveforms, .loops, .localIo, .beacon, .backup, .images, .power]
  | .panelStopDone _ => [.fabric, .alarms, .waveforms, .loops, .localIo, .beacon, .backup, .images, .power]
  | .ltnBiasFault _ _ => [.fabric, .alarms, .waveforms, .loops, .localIo, .beacon, .backup, .images, .power]
  | .chargePumpRestart _ => [.fabric, .alarms, .waveforms, .loops, .localIo, .beacon, .backup, .images, .power]
  | .frameCopyWrite _ => [.fabric, .alarms, .waveforms, .loops, .localIo, .beacon, .backup, .images, .power]
  | .pwrFailWarn _ _ _ _ => [.beacon]
  | .pwrMainReturn _ _ _ => []
  | .emerChange _ _ _ _ => []
  | .fieldChange _ _ _ => [.fabric, .alarms, .waveforms, .loops, .localIo, .lantern, .beacon, .backup, .images, .power]
  | .pwrScapLow _ _ => [.fabric, .alarms, .waveforms, .loops, .localIo, .beacon, .backup, .images, .power]
  | .pwrLshipFail _ _ => [.fabric, .alarms, .waveforms, .loops, .localIo, .beacon, .backup]
  | .lightshipStop _ => []
  | .scapFull _ => [.fabric, .alarms, .waveforms, .loops, .localIo, .beacon, .backup, .images]
  | .lrefLoss _ => [.fabric, .alarms, .waveforms, .loops, .localIo, .lantern, .beacon, .backup, .images, .power]
  | .lshipHandback _ => [.alarms, .waveforms, .loops, .images]
  | .logicSideReturn _ => [.fabric, .alarms, .waveforms, .lantern, .beacon, .backup, .images, .power]
  | .lshipEvaluate _ => [.loops]
  | .thermalTrip _ _ _ _ => [.alarms, .beacon, .backup]
  | .thermalClear _ _ _ => [.fabric, .alarms, .waveforms, .loops, .localIo, .lantern, .beacon, .backup, .images]
  | .keeperReset _ => [.fabric, .alarms, .waveforms, .loops, .localIo, .lantern, .beacon, .backup, .power]
  | .keeperWatchdog _ => [.fabric, .alarms, .waveforms, .loops, .localIo, .lantern, .beacon, .backup, .power]
  | .lockstepFault _ _ => [.fabric, .alarms, .waveforms, .loops, .localIo, .lantern, .beacon, .backup, .power]
  | .eccError _ => [.fabric, .alarms, .waveforms, .loops, .localIo, .lantern, .beacon, .backup, .power]
  | .maskRomBoot _ _ => [.fabric, .alarms, .waveforms, .loops, .localIo, .lantern, .beacon, .backup, .images, .power]
  | .trialEnd _ => [.fabric, .alarms, .waveforms, .loops, .localIo, .lantern, .beacon, .backup, .images, .power]
  | .updateIdleTimeout _ => [.fabric, .alarms, .waveforms, .loops, .localIo, .lantern, .beacon, .backup, .images, .power]
  | .norWindowExpire _ _ => [.fabric, .alarms, .waveforms, .loops, .localIo, .lantern, .beacon, .backup, .images, .power]
  | .sensorLimit _ _ _ _ => [.fabric, .alarms, .waveforms, .loops, .localIo, .lantern, .beacon, .backup, .images, .power]
  | .fanStartJudge _ _ _ _ => [.fabric, .alarms, .waveforms, .loops, .localIo, .lantern, .beacon, .backup, .images, .power]
  | .fanRetryWaitEnd _ _ => [.fabric, .alarms, .waveforms, .loops, .localIo, .lantern, .beacon, .backup, .images, .power]
  | .fanStallDetect _ _ _ _ => [.fabric, .alarms, .waveforms, .loops, .localIo, .lantern, .beacon, .backup, .images, .power]
  | .fanTachRecover _ _ _ _ => [.fabric, .alarms, .waveforms, .loops, .localIo, .lantern, .beacon, .backup, .images, .power]
  | .fanCurveUpdate _ => [.fabric, .alarms, .waveforms, .loops, .localIo, .lantern, .beacon, .backup, .images, .power]
  | .keeperLogWrite _ => [.fabric, .alarms, .waveforms, .loops, .localIo, .lantern, .beacon, .backup, .images, .power]
  | .storeBlockRetire _ _ _ _ => [.fabric, .alarms, .loops, .localIo, .beacon, .backup, .power]
  | .backupSwitchover _ => [.fabric, .alarms, .waveforms, .loops, .localIo, .lantern, .beacon, .images, .power]
  | .vbakMeasure _ _ => [.fabric, .alarms, .waveforms, .loops, .localIo, .lantern, .beacon, .images, .power]
  | .backupPor _ => [.fabric, .alarms, .waveforms, .loops, .localIo, .lantern, .beacon, .images, .power]
  | .crystalFail _ => [.fabric, .alarms, .waveforms, .loops, .localIo, .lantern, .beacon, .images, .power]
  | .trimWindowEnd _ _ _ _ _ => [.fabric, .alarms, .waveforms, .loops, .localIo, .lantern, .beacon, .images, .power]
  | .calendarAlarm _ => [.fabric, .alarms, .waveforms, .loops, .localIo, .lantern, .beacon, .images, .power]
  | .pwronPulseEnd _ => [.fabric, .alarms, .waveforms, .loops, .localIo, .lantern, .beacon, .images, .power]
  | .pwronHoldoffEnd _ => [.fabric, .alarms, .waveforms, .loops, .localIo, .lantern, .beacon, .images, .power]
  | .lshipPowerGood _ _ _ _ => [.waveforms, .loops]
  | .restoreDone _ _ => [.localIo, .beacon, .backup, .power]
  | .autoCommit _ => [.fabric, .alarms, .waveforms, .loops, .localIo, .lantern, .beacon, .backup, .power]
  | .checkpointWrite _ _ => [.fabric, .alarms, .waveforms, .loops, .localIo, .lantern, .beacon, .backup, .power]
  | .loopBlockWrite _ => [.fabric, .alarms, .waveforms, .loops, .localIo, .lantern, .beacon, .backup, .power]
  | .loopConfigScrub _ _ _ _ _ => [.fabric, .alarms, .waveforms, .localIo, .lantern, .beacon, .backup, .images, .power]
  | .resyncComplete _ _ => [.alarms, .waveforms, .loops, .localIo, .lantern, .beacon, .backup, .images, .power]
  | .controllerPathLinkDown _ _ => [.fabric, .alarms, .loops, .localIo, .lantern, .beacon, .backup, .images, .power]
  | .utcDayEndLeap _ => [.fabric, .alarms, .waveforms, .loops, .localIo, .lantern, .beacon, .backup, .images, .power]
  | .lrefReturn _ => [.fabric, .alarms, .waveforms, .loops, .localIo, .lantern, .beacon, .backup, .images, .power]
  | .crystalReturn _ => [.fabric, .alarms, .waveforms, .loops, .localIo, .lantern, .beacon, .images, .power]
  | .scapChargeRestart _ _ => [.fabric, .alarms, .waveforms, .loops, .localIo, .beacon, .backup, .images]
  | .commitComplete _ => [.fabric, .alarms, .waveforms, .loops, .localIo, .lantern, .beacon, .backup, .power]
  | .keeperReady _ _ => [.waveforms, .loops]
  | .hostLinkTrained _ _ _ _ => [.fabric, .alarms, .waveforms, .loops, .localIo, .lantern, .beacon, .backup, .images, .power]
  | .panelTemperatureChange _ _ _ => [.fabric, .alarms, .waveforms, .loops, .localIo, .beacon, .backup, .images, .power]
  | .panelLineSent _ => [.fabric, .alarms, .waveforms, .loops, .localIo, .beacon, .backup, .images, .power]
  | .hartRxGap _ _ => [.fabric, .alarms, .waveforms, .loops, .lantern, .beacon, .backup, .images, .power]
  | .hartTransmitEnd _ _ => [.fabric, .alarms, .waveforms, .loops, .lantern, .beacon, .backup, .images, .power]
  | .mgmtArpIcmpEcho _ _ _ _ _ => [.fabric, .alarms, .waveforms, .loops, .localIo, .lantern, .beacon, .backup, .images, .power]
  | .sounderFoldback _ => [.fabric, .alarms, .waveforms, .loops, .localIo, .lantern, .beacon, .backup, .images, .power]
  | .sounderFoldbackEnd _ => [.fabric, .alarms, .waveforms, .loops, .localIo, .lantern, .beacon, .backup, .images, .power]
  | .fftUnitGate _ => [.fabric, .alarms, .waveforms, .loops, .localIo, .lantern, .beacon, .backup, .images, .power]
  | .uncleanStop _ _ => [.localIo, .lantern, .beacon]

/-- The commands after which every register word outside the closing words is as before. -/
def leavesRegisters : Instr → Bool
  | .nop _ _ => false
  | .ringCreate _ _ => false
  | .ringDelete _ _ => false
  | .ringTune _ _ => false
  | .ringQuery _ _ => false
  | .sysStatus _ _ => false
  | .cfgCommit _ _ => false
  | .cfgFactory _ _ => false
  | .cfgConfirm _ _ => false
  | .pntConfig _ _ => false
  | .pntConfigExpert _ _ => false
  | .pntDelete _ _ => false
  | .pntRead _ _ => false
  | .pntForce _ _ => false
  | .pntUnforce _ _ => false
  | .pntSimStart _ _ => false
  | .pntSimValue _ _ => false
  | .pntSimEnd _ _ => false
  | .pntOutput _ _ => false
  | .pntReset _ _ => false
  | .pntVoteBind _ _ => false
  | .pntProfileWrite _ _ => false
  | .pntProfileRead _ _ => false
  | .almAck _ _ => false
  | .almShelve _ _ => false
  | .almUnshelve _ _ => false
  | .almOos _ _ => false
  | .almReturn _ _ => false
  | .almCondRead _ _ => false
  | .almAdaptHold _ _ => false
  | .secConfig _ _ => false
  | .secRead _ _ => false
  | .secFoReset _ _ => false
  | .secCauseSet _ _ => false
  | .secCauseDelete _ _ => false
  | .secCauseRead _ _ => false
  | .secMirrorBind _ _ => false
  | .cmwChannel _ _ => false
  | .cmwBand _ _ => false
  | .cmwSpeedRef _ _ => false
  | .cmwBind _ _ => false
  | .cmwBaseline _ _ => false
  | .cmwCaptureDef _ _ => false
  | .cmwCaptureTrig _ _ => false
  | .cmwCaptureStop _ _ => false
  | .cmwRead _ _ => false
  | .ctlLoopConfig _ _ => false
  | .ctlSupConfig _ _ => false
  | .ctlMode _ _ => false
  | .ctlManOut _ _ => false
  | .ctlSetpoint _ _ => false
  | .ctlCompTable _ _ => false
  | .ctlSupReset _ _ => false
  | .ctlTuneStart _ _ => false
  | .ctlTuneStop _ _ => false
  | .ctlTuneRead _ _ => false
  | .ctlLoopRead _ _ => false
  | .ctlLoopDelete _ _ => false
  | .bcnTableWrite _ _ => false
  | .bcnTableRead _ _ => false
  | .bcnAccept _ _ => false
  | .bcnDm _ _ => false
  | .bcnUms _ _ => false
  | .bcnHostCall _ _ => false
  | .ldgBinset _ _ => false
  | .ldgView _ _ => false
  | .ldgFlush _ _ => false
  | .ldgSnapshot _ _ => false
  | .ldgTripArm _ _ => false
  | .ldgTripStop _ _ => false
  | .ldgTripTrigger _ _ => false
  | .ldgTripRead _ _ => false
  | .hstVolCreate _ _ => false
  | .hstVolErase _ _ => false
  | .hstVolDelete _ _ => false
  | .hstRemount _ _ => false
  | .hstLegReplace _ _ => false
  | .hstRead _ _ => false
  | .ltnTile _ _ => false
  | .ltnFrameWrite _ _ => false
  | .ltnShow _ _ => false
  | .fabRouteWrite _ _ => false
  | .fabRouteRead _ _ => false
  | .fabRouteCommit _ _ => false
  | .fabEpoch _ _ => false
  | .fabQuench _ _ => false
  | .fabLeave _ _ => false
  | .fabHandback _ _ => false
  | .fabPortCtrl _ _ => false
  | .fabSv _ _ => false
  | .updateBegin _ _ => false
  | .updateData _ _ => false
  | .updateEnd _ _ => false
  | .updateActivate _ _ => false
  | .logRead _ _ => false
  | .sensorRead _ _ => false
  | .updateCancel _ _ => false
  | .mgmtHello _ _ _ => false
  | .mgmtAuth _ _ _ _ _ => false
  | .mgmtMailbox _ _ _ _ _ _ _ _ => false
  | .mgmtClose _ _ _ => false
  | .mgmtSessionIdle _ _ => false
  | .mgmtLockoutEnd _ _ => true
  | .debugHalt _ => false
  | .debugRun _ _ => false
  | .debugSessionExpire _ => false
  | .doorbellCountWrite _ _ _ _ _ => false
  | .doorbellArmWrite _ _ _ _ _ => false
  | .descriptorFetch _ _ => false
  | .completionWrite _ _ => true
  | .eventBacklogDrain _ _ => true
  | .vectorCoalesceExpire _ _ => true
  | .msixUnmask _ _ _ => true
  | .dataInSend _ _ _ _ => false
  | .dataOutWriteback _ _ => true
  | .dmaError _ _ _ => false
  | .functionLevelReset _ _ _ _ => false
  | .fnQuenchWrite _ _ _ _ => false
  | .admEnWrite _ _ _ _ => false
  | .hifQuenchWrite _ _ _ => false
  | .twinWriteOpen _ _ _ _ => false
  | .twinWriteClose _ _ _ _ => false
  | .twinWriteTimeout _ _ => false
  | .wldLockSet _ _ _ => false
  | .wldWorldChange _ _ _ _ => false
  | .wldHregApply _ _ _ _ => false
  | .registerWrite _ _ _ _ _ => false
  | .rcFieldRead _ _ _ _ _ => false
  | .almSeqLoRead _ _ _ => false
  | .almSpillExitWrite _ _ _ => false
  | .suppEnChange _ _ _ => false
  | .floodEnClear _ _ _ _ => false
  | .holdAllSet _ _ _ => false
  | .panelEnWrite _ _ _ => false
  | .retainWrite _ _ _ => false
  | .hartTxWrite _ _ _ _ => false
  | .hartRxRead _ _ _ _ => false
  | .kprRestart _ _ _ => false
  | .fanRestart _ _ _ _ => false
  | .rtcCapture _ _ _ => false
  | .rtcSet _ _ _ => false
  | .rtcShift _ _ _ => false
  | .pwronRelease _ _ _ => false
  | .pointUpdateApply _ _ _ _ => false
  | .scanTick _ => false
  | .delayTimerExpire _ _ => false
  | .coarseSlotServe _ => false
  | .shelveSweep _ _ => false
  | .adaptSweep _ _ => false
  | .suppressionInput _ => false
  | .pointRecordScrub _ _ _ _ => false
  | .heldTwinScrub _ _ _ => false
  | .sectorChangeProcess _ => false
  | .settleTimerExpire _ => false
  | .releaseTimerExpire _ => false
  | .floodRecount _ => false
  | .floodReleaseDone _ => false
  | .sectorAudit _ _ _ => false
  | .edgeCompactionDone _ => false
  | .mirrorTimeout _ _ => false
  | .mirrorHoldExpire _ _ => false
  | .mirrorRefreshSend _ _ => false
  | .mirrorAckTimeout _ => true
  | .cmwBlock _ => false
  | .frameFeatures _ => true
  | .tachPulse _ _ => false
  | .speedStopped _ _ => true
  | .captureEnd _ _ => false
  | .baselineCheckpoint _ => true
  | .loopEvaluate _ _ _ => false
  | .loopFrameDepart _ _ => false
  | .stageTimerExpire _ _ => false
  | .attendTimerExpire _ _ => false
  | .deadmanTimerExpire _ _ => false
  | .stationLostTimeout _ _ => false
  | .bcnCallRepeat _ _ _ => false
  | .bcnStatus _ _ _ => false
  | .bcnStationEvt _ _ _ _ _ => false
  | .histBoundary _ => true
  | .ledgerAgeFlush _ => true
  | .lshipLedgerPass _ => true
  | .spoolReplay _ => false
  | .nvmeCompletion _ _ _ _ => false
  | .nvmeTimeout _ _ _ => false
  | .controllerArrival _ _ _ _ _ _ => false
  | .volumeMount _ _ _ => false
  | .deallocationComplete _ _ => false
  | .legSyncComplete _ _ => false
  | .frameReceive _ _ _ _ _ _ _ _ => false
  | .egressSend _ _ => false
  | .pairWaitExpire _ => false
  | .rerouteWaitExpire _ => false
  | .credit _ _ _ _ => false
  | .retryTimerExpire _ _ => false
  | .creditSend _ _ => true
  | .dreq _ _ _ _ => false
  | .dreqSend _ _ => true
  | .dresp _ _ _ _ => false
  | .init _ _ _ _ => false
  | .initSend _ _ => true
  | .initTimeout _ _ => false
  | .linkTrained _ _ => false
  | .portLinkDown _ _ => false
  | .contactLoss _ _ => false
  | .takeover _ _ => false
  | .handbackTimeout _ _ => false
  | .heartbeatSend _ => false
  | .aliasLearnTimeout _ => false
  | .replFrameSend _ => false
  | .epochSwitch _ => false
  | .quenchLapse _ _ => false
  | .timeSyncSend _ => false
  | .timeHoldover _ => false
  | .rootRtcCompare _ => false
  | .ethFrameReceive _ _ _ => false
  | .ptpMasterSend _ _ => true
  | .aiConversion _ _ _ _ _ => false
  | .leadPhase _ _ _ => false
  | .aiOvervoltage _ _ _ => false
  | .dioEdgeAccept _ _ => false
  | .doOverload _ _ => false
  | .doOverloadRetry _ _ _ => false
  | .doReadbackMismatch _ _ => false
  | .aoSupervision _ _ _ _ _ _ => false
  | .hartTransmitStart _ _ => false
  | .hartByteReceive _ _ _ _ => false
  | .outputTwinCheck _ _ => false
  | .lioSafeEnter _ => false
  | .lioSafeExit _ => false
  | .pulseEnd _ _ => false
  | .lioPulseDrop _ _ => false
  | .demagEnd _ _ => false
  | .tileComposeDone _ => false
  | .lightPhaseEdge _ => true
  | .panelSweepCheck _ _ => false
  | .panelStartDone _ => false
  | .panelStopDone _ => false
  | .ltnBiasFault _ _ => false
  | .chargePumpRestart _ => false
  | .frameCopyWrite _ => true
  | .pwrFailWarn _ _ _ _ => false
  | .pwrMainReturn _ _ _ => false
  | .emerChange _ _ _ _ => false
  | .fieldChange _ _ _ => false
  | .pwrScapLow _ _ => false
  | .pwrLshipFail _ _ => false
  | .lightshipStop _ => false
  | .scapFull _ => false
  | .lrefLoss _ => false
  | .lshipHandback _ => false
  | .logicSideReturn _ => false
  | .lshipEvaluate _ => false
  | .thermalTrip _ _ _ _ => false
  | .thermalClear _ _ _ => false
  | .keeperReset _ => false
  | .keeperWatchdog _ => false
  | .lockstepFault _ _ => false
  | .eccError _ => false
  | .maskRomBoot _ _ => false
  | .trialEnd _ => false
  | .updateIdleTimeout _ => false
  | .norWindowExpire _ _ => false
  | .sensorLimit _ _ _ _ => false
  | .fanStartJudge _ _ _ _ => false
  | .fanRetryWaitEnd _ _ => false
  | .fanStallDetect _ _ _ _ => false
  | .fanTachRecover _ _ _ _ => false
  | .fanCurveUpdate _ => false
  | .keeperLogWrite _ => false
  | .storeBlockRetire _ _ _ _ => false
  | .backupSwitchover _ => false
  | .vbakMeasure _ _ => false
  | .backupPor _ => false
  | .crystalFail _ => false
  | .trimWindowEnd _ _ _ _ _ => false
  | .calendarAlarm _ => false
  | .pwronPulseEnd _ => false
  | .pwronHoldoffEnd _ => false
  | .lshipPowerGood _ _ _ _ => false
  | .restoreDone _ _ => false
  | .autoCommit _ => false
  | .checkpointWrite _ _ => false
  | .loopBlockWrite _ => true
  | .loopConfigScrub _ _ _ _ _ => false
  | .resyncComplete _ _ => false
  | .controllerPathLinkDown _ _ => false
  | .utcDayEndLeap _ => false
  | .lrefReturn _ => false
  | .crystalReturn _ => false
  | .scapChargeRestart _ _ => false
  | .commitComplete _ => false
  | .keeperReady _ _ => false
  | .hostLinkTrained _ _ _ _ => false
  | .panelTemperatureChange _ _ _ => false
  | .panelLineSent _ => false
  | .hartRxGap _ _ => false
  | .hartTransmitEnd _ _ => false
  | .mgmtArpIcmpEcho _ _ _ _ _ => true
  | .sounderFoldback _ => true
  | .sounderFoldbackEnd _ => true
  | .fftUnitGate _ => false
  | .uncleanStop _ _ => false

/-- The commands that write host memory only where `State.mayStore` says; the others are those that take or give a place there (ring
creation, the Ledger view, a DATA_OUT buffer), and the reads that write their own output buffer. -/
def storesInPlace : Instr → Bool
  | .nop _ _ => true
  | .ringCreate _ _ => false
  | .ringDelete _ _ => true
  | .ringTune _ _ => true
  | .ringQuery _ _ => false
  | .sysStatus _ _ => true
  | .cfgCommit _ _ => true
  | .cfgFactory _ _ => true
  | .cfgConfirm _ _ => true
  | .pntConfig _ _ => true
  | .pntConfigExpert _ _ => true
  | .pntDelete _ _ => true
  | .pntRead _ _ => false
  | .pntForce _ _ => true
  | .pntUnforce _ _ => true
  | .pntSimStart _ _ => true
  | .pntSimValue _ _ => true
  | .pntSimEnd _ _ => true
  | .pntOutput _ _ => true
  | .pntReset _ _ => true
  | .pntVoteBind _ _ => true
  | .pntProfileWrite _ _ => true
  | .pntProfileRead _ _ => true
  | .almAck _ _ => true
  | .almShelve _ _ => true
  | .almUnshelve _ _ => true
  | .almOos _ _ => true
  | .almReturn _ _ => true
  | .almCondRead _ _ => false
  | .almAdaptHold _ _ => true
  | .secConfig _ _ => true
  | .secRead _ _ => false
  | .secFoReset _ _ => true
  | .secCauseSet _ _ => true
  | .secCauseDelete _ _ => true
  | .secCauseRead _ _ => false
  | .secMirrorBind _ _ => true
  | .cmwChannel _ _ => true
  | .cmwBand _ _ => true
  | .cmwSpeedRef _ _ => true
  | .cmwBind _ _ => true
  | .cmwBaseline _ _ => false
  | .cmwCaptureDef _ _ => true
  | .cmwCaptureTrig _ _ => true
  | .cmwCaptureStop _ _ => true
  | .cmwRead _ _ => false
  | .ctlLoopConfig _ _ => true
  | .ctlSupConfig _ _ => true
  | .ctlMode _ _ => true
  | .ctlManOut _ _ => true
  | .ctlSetpoint _ _ => true
  | .ctlCompTable _ _ => true
  | .ctlSupReset _ _ => true
  | .ctlTuneStart _ _ => true
  | .ctlTuneStop _ _ => true
  | .ctlTuneRead _ _ => false
  | .ctlLoopRead _ _ => false
  | .ctlLoopDelete _ _ => true
  | .bcnTableWrite _ _ => true
  | .bcnTableRead _ _ => false
  | .bcnAccept _ _ => true
  | .bcnDm _ _ => true
  | .bcnUms _ _ => true
  | .bcnHostCall _ _ => true
  | .ldgBinset _ _ => true
  | .ldgView _ _ => false
  | .ldgFlush _ _ => true
  | .ldgSnapshot _ _ => false
  | .ldgTripArm _ _ => true
  | .ldgTripStop _ _ => true
  | .ldgTripTrigger _ _ => true
  | .ldgTripRead _ _ => false
  | .hstVolCreate _ _ => true
  | .hstVolErase _ _ => true
  | .hstVolDelete _ _ => true
  | .hstRemount _ _ => true
  | .hstLegReplace _ _ => true
  | .hstRead _ _ => true
  | .ltnTile _ _ => true
  | .ltnFrameWrite _ _ => true
  | .ltnShow _ _ => true
  | .fabRouteWrite _ _ => true
  | .fabRouteRead _ _ => false
  | .fabRouteCommit _ _ => true
  | .fabEpoch _ _ => true
  | .fabQuench _ _ => true
  | .fabLeave _ _ => true
  | .fabHandback _ _ => true
  | .fabPortCtrl _ _ => true
  | .fabSv _ _ => true
  | .updateBegin _ _ => true
  | .updateData _ _ => true
  | .updateEnd _ _ => true
  | .updateActivate _ _ => true
  | .logRead _ _ => false
  | .sensorRead _ _ => false
  | .updateCancel _ _ => true
  | .mgmtHello _ _ _ => true
  | .mgmtAuth _ _ _ _ _ => true
  | .mgmtMailbox _ _ _ _ _ _ _ _ => true
  | .mgmtClose _ _ _ => true
  | .mgmtSessionIdle _ _ => true
  | .mgmtLockoutEnd _ _ => true
  | .debugHalt _ => true
  | .debugRun _ _ => true
  | .debugSessionExpire _ => true
  | .doorbellCountWrite _ _ _ _ _ => true
  | .doorbellArmWrite _ _ _ _ _ => true
  | .descriptorFetch _ _ => false
  | .completionWrite _ _ => true
  | .eventBacklogDrain _ _ => true
  | .vectorCoalesceExpire _ _ => true
  | .msixUnmask _ _ _ => true
  | .dataInSend _ _ _ _ => true
  | .dataOutWriteback _ _ => true
  | .dmaError _ _ _ => true
  | .functionLevelReset _ _ _ _ => true
  | .fnQuenchWrite _ _ _ _ => true
  | .admEnWrite _ _ _ _ => false
  | .hifQuenchWrite _ _ _ => true
  | .twinWriteOpen _ _ _ _ => false
  | .twinWriteClose _ _ _ _ => false
  | .twinWriteTimeout _ _ => true
  | .wldLockSet _ _ _ => false
  | .wldWorldChange _ _ _ _ => false
  | .wldHregApply _ _ _ _ => false
  | .registerWrite _ _ _ _ _ => false
  | .rcFieldRead _ _ _ _ _ => true
  | .almSeqLoRead _ _ _ => true
  | .almSpillExitWrite _ _ _ => false
  | .suppEnChange _ _ _ => false
  | .floodEnClear _ _ _ _ => false
  | .holdAllSet _ _ _ => false
  | .panelEnWrite _ _ _ => false
  | .retainWrite _ _ _ => false
  | .hartTxWrite _ _ _ _ => false
  | .hartRxRead _ _ _ _ => true
  | .kprRestart _ _ _ => false
  | .fanRestart _ _ _ _ => false
  | .rtcCapture _ _ _ => false
  | .rtcSet _ _ _ => false
  | .rtcShift _ _ _ => false
  | .pwronRelease _ _ _ => false
  | .pointUpdateApply _ _ _ _ => true
  | .scanTick _ => true
  | .delayTimerExpire _ _ => true
  | .coarseSlotServe _ => true
  | .shelveSweep _ _ => true
  | .adaptSweep _ _ => true
  | .suppressionInput _ => true
  | .pointRecordScrub _ _ _ _ => true
  | .heldTwinScrub _ _ _ => true
  | .sectorChangeProcess _ => true
  | .settleTimerExpire _ => true
  | .releaseTimerExpire _ => true
  | .floodRecount _ => true
  | .floodReleaseDone _ => true
  | .sectorAudit _ _ _ => true
  | .edgeCompactionDone _ => true
  | .mirrorTimeout _ _ => true
  | .mirrorHoldExpire _ _ => true
  | .mirrorRefreshSend _ _ => true
  | .mirrorAckTimeout _ => true
  | .cmwBlock _ => true
  | .frameFeatures _ => true
  | .tachPulse _ _ => true
  | .speedStopped _ _ => true
  | .captureEnd _ _ => true
  | .baselineCheckpoint _ => true
  | .loopEvaluate _ _ _ => true
  | .loopFrameDepart _ _ => true
  | .stageTimerExpire _ _ => true
  | .attendTimerExpire _ _ => true
  | .deadmanTimerExpire _ _ => true
  | .stationLostTimeout _ _ => true
  | .bcnCallRepeat _ _ _ => true
  | .bcnStatus _ _ _ => true
  | .bcnStationEvt _ _ _ _ _ => true
  | .histBoundary _ => true
  | .ledgerAgeFlush _ => true
  | .lshipLedgerPass _ => true
  | .spoolReplay _ => true
  | .nvmeCompletion _ _ _ _ => false
  | .nvmeTimeout _ _ _ => false
  | .controllerArrival _ _ _ _ _ _ => true
  | .volumeMount _ _ _ => true
  | .deallocationComplete _ _ => true
  | .legSyncComplete _ _ => true
  | .frameReceive _ _ _ _ _ _ _ _ => true
  | .egressSend _ _ => true
  | .pairWaitExpire _ => true
  | .rerouteWaitExpire _ => true
  | .credit _ _ _ _ => true
  | .retryTimerExpire _ _ => true
  | .creditSend _ _ => true
  | .dreq _ _ _ _ => true
  | .dreqSend _ _ => true
  | .dresp _ _ _ _ => true
  | .init _ _ _ _ => true
  | .initSend _ _ => true
  | .initTimeout _ _ => true
  | .linkTrained _ _ => true
  | .portLinkDown _ _ => true
  | .contactLoss _ _ => true
  | .takeover _ _ => true
  | .handbackTimeout _ _ => true
  | .heartbeatSend _ => true
  | .aliasLearnTimeout _ => true
  | .replFrameSend _ => true
  | .epochSwitch _ => true
  | .quenchLapse _ _ => true
  | .timeSyncSend _ => true
  | .timeHoldover _ => true
  | .rootRtcCompare _ => true
  | .ethFrameReceive _ _ _ => true
  | .ptpMasterSend _ _ => true
  | .aiConversion _ _ _ _ _ => true
  | .leadPhase _ _ _ => true
  | .aiOvervoltage _ _ _ => true
  | .dioEdgeAccept _ _ => true
  | .doOverload _ _ => true
  | .doOverloadRetry _ _ _ => true
  | .doReadbackMismatch _ _ => true
  | .aoSupervision _ _ _ _ _ _ => true
  | .hartTransmitStart _ _ => true
  | .hartByteReceive _ _ _ _ => true
  | .outputTwinCheck _ _ => true
  | .lioSafeEnter _ => true
  | .lioSafeExit _ => true
  | .pulseEnd _ _ => true
  | .lioPulseDrop _ _ => true
  | .demagEnd _ _ => true
  | .tileComposeDone _ => true
  | .lightPhaseEdge _ => true
  | .panelSweepCheck _ _ => true
  | .panelStartDone _ => true
  | .panelStopDone _ => true
  | .ltnBiasFault _ _ => true
  | .chargePumpRestart _ => true
  | .frameCopyWrite _ => true
  | .pwrFailWarn _ _ _ _ => true
  | .pwrMainReturn _ _ _ => true
  | .emerChange _ _ _ _ => true
  | .fieldChange _ _ _ => true
  | .pwrScapLow _ _ => true
  | .pwrLshipFail _ _ => true
  | .lightshipStop _ => true
  | .scapFull _ => true
  | .lrefLoss _ => true
  | .lshipHandback _ => true
  | .logicSideReturn _ => true
  | .lshipEvaluate _ => true
  | .thermalTrip _ _ _ _ => true
  | .thermalClear _ _ _ => true
  | .keeperReset _ => true
  | .keeperWatchdog _ => true
  | .lockstepFault _ _ => true
  | .eccError _ => true
  | .maskRomBoot _ _ => true
  | .trialEnd _ => true
  | .updateIdleTimeout _ => true
  | .norWindowExpire _ _ => true
  | .sensorLimit _ _ _ _ => true
  | .fanStartJudge _ _ _ _ => true
  | .fanRetryWaitEnd _ _ => true
  | .fanStallDetect _ _ _ _ => true
  | .fanTachRecover _ _ _ _ => true
  | .fanCurveUpdate _ => true
  | .keeperLogWrite _ => true
  | .storeBlockRetire _ _ _ _ => true
  | .backupSwitchover _ => true
  | .vbakMeasure _ _ => true
  | .backupPor _ => true
  | .crystalFail _ => true
  | .trimWindowEnd _ _ _ _ _ => true
  | .calendarAlarm _ => true
  | .pwronPulseEnd _ => true
  | .pwronHoldoffEnd _ => true
  | .lshipPowerGood _ _ _ _ => true
  | .restoreDone _ _ => true
  | .autoCommit _ => true
  | .checkpointWrite _ _ => true
  | .loopBlockWrite _ => true
  | .loopConfigScrub _ _ _ _ _ => true
  | .resyncComplete _ _ => true
  | .controllerPathLinkDown _ _ => false
  | .utcDayEndLeap _ => true
  | .lrefReturn _ => true
  | .crystalReturn _ => true
  | .scapChargeRestart _ _ => true
  | .commitComplete _ => true
  | .keeperReady _ _ => true
  | .hostLinkTrained _ _ _ _ => true
  | .panelTemperatureChange _ _ _ => true
  | .panelLineSent _ => true
  | .hartRxGap _ _ => true
  | .hartTransmitEnd _ _ => true
  | .mgmtArpIcmpEcho _ _ _ _ _ => true
  | .sounderFoldback _ => true
  | .sounderFoldbackEnd _ => true
  | .fftUnitGate _ => true
  | .uncleanStop _ _ => true

/-- The commands that write their own output buffer (R540). -/
def readsToBuffer : Instr → Bool
  | .nop _ _ => false
  | .ringCreate _ _ => false
  | .ringDelete _ _ => false
  | .ringTune _ _ => false
  | .ringQuery _ _ => true
  | .sysStatus _ _ => false
  | .cfgCommit _ _ => false
  | .cfgFactory _ _ => false
  | .cfgConfirm _ _ => false
  | .pntConfig _ _ => false
  | .pntConfigExpert _ _ => false
  | .pntDelete _ _ => false
  | .pntRead _ _ => true
  | .pntForce _ _ => false
  | .pntUnforce _ _ => false
  | .pntSimStart _ _ => false
  | .pntSimValue _ _ => false
  | .pntSimEnd _ _ => false
  | .pntOutput _ _ => false
  | .pntReset _ _ => false
  | .pntVoteBind _ _ => false
  | .pntProfileWrite _ _ => false
  | .pntProfileRead _ _ => false
  | .almAck _ _ => false
  | .almShelve _ _ => false
  | .almUnshelve _ _ => false
  | .almOos _ _ => false
  | .almReturn _ _ => false
  | .almCondRead _ _ => true
  | .almAdaptHold _ _ => false
  | .secConfig _ _ => false
  | .secRead _ _ => true
  | .secFoReset _ _ => false
  | .secCauseSet _ _ => false
  | .secCauseDelete _ _ => false
  | .secCauseRead _ _ => true
  | .secMirrorBind _ _ => false
  | .cmwChannel _ _ => false
  | .cmwBand _ _ => false
  | .cmwSpeedRef _ _ => false
  | .cmwBind _ _ => false
  | .cmwBaseline _ _ => true
  | .cmwCaptureDef _ _ => false
  | .cmwCaptureTrig _ _ => false
  | .cmwCaptureStop _ _ => false
  | .cmwRead _ _ => true
  | .ctlLoopConfig _ _ => false
  | .ctlSupConfig _ _ => false
  | .ctlMode _ _ => false
  | .ctlManOut _ _ => false
  | .ctlSetpoint _ _ => false
  | .ctlCompTable _ _ => false
  | .ctlSupReset _ _ => false
  | .ctlTuneStart _ _ => false
  | .ctlTuneStop _ _ => false
  | .ctlTuneRead _ _ => true
  | .ctlLoopRead _ _ => true
  | .ctlLoopDelete _ _ => false
  | .bcnTableWrite _ _ => false
  | .bcnTableRead _ _ => true
  | .bcnAccept _ _ => false
  | .bcnDm _ _ => false
  | .bcnUms _ _ => false
  | .bcnHostCall _ _ => false
  | .ldgBinset _ _ => false
  | .ldgView _ _ => false
  | .ldgFlush _ _ => false
  | .ldgSnapshot _ _ => true
  | .ldgTripArm _ _ => false
  | .ldgTripStop _ _ => false
  | .ldgTripTrigger _ _ => false
  | .ldgTripRead _ _ => true
  | .hstVolCreate _ _ => false
  | .hstVolErase _ _ => false
  | .hstVolDelete _ _ => false
  | .hstRemount _ _ => false
  | .hstLegReplace _ _ => false
  | .hstRead _ _ => false
  | .ltnTile _ _ => false
  | .ltnFrameWrite _ _ => false
  | .ltnShow _ _ => false
  | .fabRouteWrite _ _ => false
  | .fabRouteRead _ _ => true
  | .fabRouteCommit _ _ => false
  | .fabEpoch _ _ => false
  | .fabQuench _ _ => false
  | .fabLeave _ _ => false
  | .fabHandback _ _ => false
  | .fabPortCtrl _ _ => false
  | .fabSv _ _ => false
  | .updateBegin _ _ => false
  | .updateData _ _ => false
  | .updateEnd _ _ => false
  | .updateActivate _ _ => false
  | .logRead _ _ => true
  | .sensorRead _ _ => true
  | .updateCancel _ _ => false
  | .mgmtHello _ _ _ => false
  | .mgmtAuth _ _ _ _ _ => false
  | .mgmtMailbox _ _ _ _ _ _ _ _ => false
  | .mgmtClose _ _ _ => false
  | .mgmtSessionIdle _ _ => false
  | .mgmtLockoutEnd _ _ => false
  | .debugHalt _ => false
  | .debugRun _ _ => false
  | .debugSessionExpire _ => false
  | .doorbellCountWrite _ _ _ _ _ => false
  | .doorbellArmWrite _ _ _ _ _ => false
  | .descriptorFetch _ _ => false
  | .completionWrite _ _ => false
  | .eventBacklogDrain _ _ => false
  | .vectorCoalesceExpire _ _ => false
  | .msixUnmask _ _ _ => false
  | .dataInSend _ _ _ _ => false
  | .dataOutWriteback _ _ => false
  | .dmaError _ _ _ => false
  | .functionLevelReset _ _ _ _ => false
  | .fnQuenchWrite _ _ _ _ => false
  | .admEnWrite _ _ _ _ => false
  | .hifQuenchWrite _ _ _ => false
  | .twinWriteOpen _ _ _ _ => false
  | .twinWriteClose _ _ _ _ => false
  | .twinWriteTimeout _ _ => false
  | .wldLockSet _ _ _ => false
  | .wldWorldChange _ _ _ _ => false
  | .wldHregApply _ _ _ _ => false
  | .registerWrite _ _ _ _ _ => false
  | .rcFieldRead _ _ _ _ _ => false
  | .almSeqLoRead _ _ _ => false
  | .almSpillExitWrite _ _ _ => false
  | .suppEnChange _ _ _ => false
  | .floodEnClear _ _ _ _ => false
  | .holdAllSet _ _ _ => false
  | .panelEnWrite _ _ _ => false
  | .retainWrite _ _ _ => false
  | .hartTxWrite _ _ _ _ => false
  | .hartRxRead _ _ _ _ => false
  | .kprRestart _ _ _ => false
  | .fanRestart _ _ _ _ => false
  | .rtcCapture _ _ _ => false
  | .rtcSet _ _ _ => false
  | .rtcShift _ _ _ => false
  | .pwronRelease _ _ _ => false
  | .pointUpdateApply _ _ _ _ => false
  | .scanTick _ => false
  | .delayTimerExpire _ _ => false
  | .coarseSlotServe _ => false
  | .shelveSweep _ _ => false
  | .adaptSweep _ _ => false
  | .suppressionInput _ => false
  | .pointRecordScrub _ _ _ _ => false
  | .heldTwinScrub _ _ _ => false
  | .sectorChangeProcess _ => false
  | .settleTimerExpire _ => false
  | .releaseTimerExpire _ => false
  | .floodRecount _ => false
  | .floodReleaseDone _ => false
  | .sectorAudit _ _ _ => false
  | .edgeCompactionDone _ => false
  | .mirrorTimeout _ _ => false
  | .mirrorHoldExpire _ _ => false
  | .mirrorRefreshSend _ _ => false
  | .mirrorAckTimeout _ => false
  | .cmwBlock _ => false
  | .frameFeatures _ => false
  | .tachPulse _ _ => false
  | .speedStopped _ _ => false
  | .captureEnd _ _ => false
  | .baselineCheckpoint _ => false
  | .loopEvaluate _ _ _ => false
  | .loopFrameDepart _ _ => false
  | .stageTimerExpire _ _ => false
  | .attendTimerExpire _ _ => false
  | .deadmanTimerExpire _ _ => false
  | .stationLostTimeout _ _ => false
  | .bcnCallRepeat _ _ _ => false
  | .bcnStatus _ _ _ => false
  | .bcnStationEvt _ _ _ _ _ => false
  | .histBoundary _ => false
  | .ledgerAgeFlush _ => false
  | .lshipLedgerPass _ => false
  | .spoolReplay _ => false
  | .nvmeCompletion _ _ _ _ => false
  | .nvmeTimeout _ _ _ => false
  | .controllerArrival _ _ _ _ _ _ => false
  | .volumeMount _ _ _ => false
  | .deallocationComplete _ _ => false
  | .legSyncComplete _ _ => false
  | .frameReceive _ _ _ _ _ _ _ _ => false
  | .egressSend _ _ => false
  | .pairWaitExpire _ => false
  | .rerouteWaitExpire _ => false
  | .credit _ _ _ _ => false
  | .retryTimerExpire _ _ => false
  | .creditSend _ _ => false
  | .dreq _ _ _ _ => false
  | .dreqSend _ _ => false
  | .dresp _ _ _ _ => false
  | .init _ _ _ _ => false
  | .initSend _ _ => false
  | .initTimeout _ _ => false
  | .linkTrained _ _ => false
  | .portLinkDown _ _ => false
  | .contactLoss _ _ => false
  | .takeover _ _ => false
  | .handbackTimeout _ _ => false
  | .heartbeatSend _ => false
  | .aliasLearnTimeout _ => false
  | .replFrameSend _ => false
  | .epochSwitch _ => false
  | .quenchLapse _ _ => false
  | .timeSyncSend _ => false
  | .timeHoldover _ => false
  | .rootRtcCompare _ => false
  | .ethFrameReceive _ _ _ => false
  | .ptpMasterSend _ _ => false
  | .aiConversion _ _ _ _ _ => false
  | .leadPhase _ _ _ => false
  | .aiOvervoltage _ _ _ => false
  | .dioEdgeAccept _ _ => false
  | .doOverload _ _ => false
  | .doOverloadRetry _ _ _ => false
  | .doReadbackMismatch _ _ => false
  | .aoSupervision _ _ _ _ _ _ => false
  | .hartTransmitStart _ _ => false
  | .hartByteReceive _ _ _ _ => false
  | .outputTwinCheck _ _ => false
  | .lioSafeEnter _ => false
  | .lioSafeExit _ => false
  | .pulseEnd _ _ => false
  | .lioPulseDrop _ _ => false
  | .demagEnd _ _ => false
  | .tileComposeDone _ => false
  | .lightPhaseEdge _ => false
  | .panelSweepCheck _ _ => false
  | .panelStartDone _ => false
  | .panelStopDone _ => false
  | .ltnBiasFault _ _ => false
  | .chargePumpRestart _ => false
  | .frameCopyWrite _ => false
  | .pwrFailWarn _ _ _ _ => false
  | .pwrMainReturn _ _ _ => false
  | .emerChange _ _ _ _ => false
  | .fieldChange _ _ _ => false
  | .pwrScapLow _ _ => false
  | .pwrLshipFail _ _ => false
  | .lightshipStop _ => false
  | .scapFull _ => false
  | .lrefLoss _ => false
  | .lshipHandback _ => false
  | .logicSideReturn _ => false
  | .lshipEvaluate _ => false
  | .thermalTrip _ _ _ _ => false
  | .thermalClear _ _ _ => false
  | .keeperReset _ => false
  | .keeperWatchdog _ => false
  | .lockstepFault _ _ => false
  | .eccError _ => false
  | .maskRomBoot _ _ => false
  | .trialEnd _ => false
  | .updateIdleTimeout _ => false
  | .norWindowExpire _ _ => false
  | .sensorLimit _ _ _ _ => false
  | .fanStartJudge _ _ _ _ => false
  | .fanRetryWaitEnd _ _ => false
  | .fanStallDetect _ _ _ _ => false
  | .fanTachRecover _ _ _ _ => false
  | .fanCurveUpdate _ => false
  | .keeperLogWrite _ => false
  | .storeBlockRetire _ _ _ _ => false
  | .backupSwitchover _ => false
  | .vbakMeasure _ _ => false
  | .backupPor _ => false
  | .crystalFail _ => false
  | .trimWindowEnd _ _ _ _ _ => false
  | .calendarAlarm _ => false
  | .pwronPulseEnd _ => false
  | .pwronHoldoffEnd _ => false
  | .lshipPowerGood _ _ _ _ => false
  | .restoreDone _ _ => false
  | .autoCommit _ => false
  | .checkpointWrite _ _ => false
  | .loopBlockWrite _ => false
  | .loopConfigScrub _ _ _ _ _ => false
  | .resyncComplete _ _ => false
  | .controllerPathLinkDown _ _ => false
  | .utcDayEndLeap _ => false
  | .lrefReturn _ => false
  | .crystalReturn _ => false
  | .scapChargeRestart _ _ => false
  | .commitComplete _ => false
  | .keeperReady _ _ => false
  | .hostLinkTrained _ _ _ _ => false
  | .panelTemperatureChange _ _ _ => false
  | .panelLineSent _ => false
  | .hartRxGap _ _ => false
  | .hartTransmitEnd _ _ => false
  | .mgmtArpIcmpEcho _ _ _ _ _ => false
  | .sounderFoldback _ => false
  | .sounderFoldbackEnd _ => false
  | .fftUnitGate _ => false
  | .uncleanStop _ _ => false

end Sys2Proof.Machine
end

