-- ==== Sys2Proof/Certificates/Slice0/Obligations.lean ====
section
/-! DEFINITION. The statements for the provers (OBLIGATIONS.json). `Completes`, `StaysInFlight` and `Ends` name the next state in which a
command is completed with a reply, stays in its block until its end, or simply ends; `Accepted` says that its descriptor is the next of
its ring and that every check before its effect passes. -/

open Sys2Proof Sys2Proof.Machine

/-- For every state with a command at the front of its queue, step of the state is exec of that command on the state with the rest of the
queue. -/
def Obligations.StepRunsFrontCommand : Prop :=
  ∀ (s : State) (c : Instr) (rest : List Instr), s.pending = c :: rest → step s = exec c { s with pending := rest }

/-- For every state whose queue of waiting commands is empty, step answers that same state. This is the model's convention for its queue
(log entry 1), not a rule of the spec. -/
def Obligations.EmptyQueueIdles : Prop := ∀ s : State, s.pending = [] → step s = .next s

/-- For every state with a command at the front of its queue, step answers a next state (no fault and no refusal), whose queue is the
rest of the old one and whose time is not earlier than before. -/
def Obligations.EveryStepTakesOneCommand : Prop :=
  ∀ (s : State) (c : Instr) (rest : List Instr), s.pending = c :: rest → ∃ u, step s = .next u ∧ u.pending = rest ∧ s.tim.now ≤ u.tim.now

/-- In the state after reset the list of host memory bytes, the list of register words and the list of held complements are each in their
canonical form: rising addresses and no entry that equals what an unlisted address reads as. -/
def Obligations.ResetIsCanonical : Prop := Canonical State.reset

/-- For every state in which host memory, the register words and their held complements are in canonical form, the next state of a step
is so too. With it, equal contents are equal data in every reachable state. -/
def Obligations.StepKeepsTablesCanonical : Prop := ∀ s u : State, Canonical s → step s = .next u → Canonical u

/-- For every command of the table, every state and all operands: if exec answers a next state, then each part of the state that
leavesAlone lists for that command (time, register words, their complements, host interface, worlds, Ledger, historian, fabric, points,
alarms, sectors, waveforms, loops, local I/O, Lantern, Beacon, backup domain, images, power, Keeper, free values) is the same in it as
before. -/
def Obligations.CommandsLeaveOtherPartsAlone : Prop :=
  ∀ (i : Instr) (s u : State) (p : Part), exec i s = .next u → p ∈ leavesAlone i → p.same s u

/-- For every command for which leavesRegisters holds, every state and all operands: if exec answers a next state, then every register
word whose offset is not one of those that the closing pass of every step may write (closingReg), and the complement held beside it, is
as before. -/
def Obligations.CommandsLeaveRegistersAlone : Prop :=
  ∀ (i : Instr) (s u : State), leavesRegisters i = true → exec i s = .next u →
    ∀ off, closingReg off = false → u.rd off = s.rd off ∧ u.rdN off = s.rdN off

/-- For every command for which storesInPlace holds, every state and every host address that the state gives the module no leave to store
to (no slot of a ring that it writes, no byte of the Ledger view, no DATA_OUT entry or buffer): after exec that byte reads as before, and
the address is still one that the module may not store to. -/
def Obligations.HostMemoryIsWrittenInPlace : Prop :=
  ∀ (i : Instr) (s u : State) (a : Nat), storesInPlace i = true → exec i s = .next u → ¬ s.mayStore a →
    ¬ u.mayStore a ∧ u.hostByte a = s.hostByte a

/-- For every read command (readsToBuffer), every state and every host address outside the places of mayStore and outside the buffer that
the descriptor gives (its address and length): after exec that byte reads as before. -/
def Obligations.ReadsWriteTheirBuffer : Prop :=
  ∀ (i : Instr) (h : HostCmd) (s u : State) (a : Nat), readsToBuffer i = true → hostCmd i = some h → exec i s = .next u →
    ¬ s.mayStore a → (a < h.c.buf ∨ h.c.buf + h.c.bufLen ≤ a) → u.hostByte a = s.hostByte a

/-- For every host command row: if its block does not serve it yet, exec answers the state as it is; if its descriptor is not the next of
its ring to be dispatched, exec answers the state with only what is due before it done (a sweep of its tile). Both with the closing pass
of every step. -/
def Obligations.CommandOutOfTurnHasNoEffect : Prop :=
  ∀ (i : Instr) (h : HostCmd) (s a : State), hostCmd i = some h → a = (h.pre s).at_ h.t →
    (h.waits s = true → Ends (exec i s) s) ∧
    (h.waits s = false → a.dispatchable (h.spec a) h.c = none → Ends (exec i s) (h.pre s))

/-- For every host command row in its turn whose checks answer a reply r and a state v: exec completes its entry with r on v; its effect
is not applied. -/
def Obligations.RefusedCommandCompletes : Prop :=
  ∀ (i : Instr) (h : HostCmd) (s a v : State) (x : Infl) (r : Reply), hostCmd i = some h → h.waits s = false → a = (h.pre s).at_ h.t →
    a.dispatchable (h.spec a) h.c = some x → a.preCheck (h.spec a) h.c = (some r, v) → Completes (exec i s) x r v

/-- The checks before the effect of a command, one after the other, each under the condition that the earlier ones pass: unknown opcode
or an admin command outside the admin rings (BAD_OPCODE), a secure command, block or object for a non-secure function (WORLD_DENIED,
counted and reported), block not ready or object not ready (NOT_READY), a broken twin operand (TWIN_MISMATCH, counted and reported), the
first operand at fault (RANGE), a buffer shorter than needed (RANGE, with the length needed), the first fault of the buffer (RANGE). -/
def Obligations.DescriptorChecksInOrder : Prop :=
  ∀ (sp : Spec) (c : Cmd) (s : State) (fn : Nat), fn = fget Ring.FUNC (s.ring c.ring) →
    (opInfo sp.op = none → s.preCheck sp c = (some (Reply.of 4), s)) ∧
    ∀ (o : OpInfo) (blk : Nat), opInfo sp.op = some o → blk = sp.blk.getD o.blk →
      (o.adm = true → 130 ≤ c.ring → s.preCheck sp c = (some (Reply.of 4), s)) ∧
      ((o.adm = true → c.ring < 130) →
        (secureFn fn = false →
          (o.sec = true ∨ s.blockSecure blk = true ∨ (sp.secObj = true ∧ s.wld.sClassed = true)) →
          s.preCheck sp c = (some (Reply.of 3), s.denied fn 0 blk (sp.op + c.ring * 2 ^ 16) 0)) ∧
        (secureFn fn = true → (∀ a n, s.hostDenied true a n = none) →
          (s.ready o.bit = false ∨ sp.notReady = true → s.preCheck sp c = (some (Reply.of 1), s)) ∧
          (s.ready o.bit = true → sp.notReady = false →
            (∀ k, (sp.twins.find? fun k => !twinOk (c.w k) (c.w (k + 4))) = some k →
              s.preCheck sp c = (some ⟨2, k, 0⟩, (s.bump sp.cnt).twinEvent sp.obj blk (c.w (k + 4)) (c.w k))) ∧
            ((∀ k ∈ sp.twins, twinOk (c.w k) (c.w (k + 4)) = true) → sp.btwins = [] →
              (∀ r, sp.fault = some r → s.preCheck sp c = (some r, s)) ∧
              (sp.fault = none → c.bufLen < sp.need → s.preCheck sp c = (some ⟨5, 0x38, sp.need⟩, s)) ∧
              (sp.fault = none → sp.need ≤ c.bufLen → (sp.need = 0 ∨ c.dmaErr = false) →
                s.preCheck sp c = (sp.bfault.map fun k => ⟨5, 0x30, k⟩, s))))))

/-- A command of the secure world, or of a secure block, that a non-secure function gives leaves the fabric, alarms, waveforms, loops,
local I/O, Lantern, Beacon, backup domain, images, power and every register word outside the closing pass as they were, and the points
and sectors as the instant finds them. A write or read of a 32-bit register of a secure block by a non-secure requester is only counted
and reported as a denial; the write changes no register, the read gives 0. -/
def Obligations.NonSecureRequestersAreContained : Prop :=
  (∀ (i : Instr) (h : HostCmd) (s b u a : State) (x : Infl) (o : OpInfo), b = h.pre s → a = b.at_ h.t → hostCmd i = some h → h.waits s = false →
    a.dispatchable (h.spec a) h.c = some x → opInfo (h.spec a).op = some o →
    o.sec = true ∨ a.blockSecure ((h.spec a).blk.getD o.blk) = true → secureFn (fget Ring.FUNC (b.ring h.c.ring)) = false →
    exec i s = .next u →
    u.pts = a.pts ∧ u.sec = a.sec ∧ u.fab = b.fab ∧ u.alm = b.alm ∧ u.cmw = b.cmw ∧ u.ctl = b.ctl ∧ u.lio = b.lio ∧ u.ltn = b.ltn ∧
      u.bcn = b.bcn ∧ u.bkp = b.bkp ∧ u.img = b.img ∧ u.pwr = b.pwr ∧ ∀ off, closingReg off = false → u.rd off = b.rd off) ∧
  (∀ t req off v s a r, a = s.at_ t → secureFn req = false → a.mayAccess req = true → regAddr req off = some off → off % 4 = 0 →
    off < 0x190000 → findReg off = some r → a.regServed off = true → req ≠ 66 →
    (∀ f ∈ r.fields, a.blockSecure (fieldBlock off f.lo) = true) →
    Ends (exec (.registerWrite t req off 4 v) s) (a.denied req 1 (regBlock off) off 1) ∧
    ∀ quiet, Ends (exec (.rcFieldRead t req off 4 quiet) s)
      ((a.denied req 1 (regBlock off) off 1).onHif fun h => { h with readOut := tset 0 h.readOut req 0 }))

/-- The 256-bit completion entry holds ring, tag, status, detail, result and head in their places with zeros between. Where the CPL ring
of the command runs, its 32 bytes with the phase of the pass are stored at the slot of PROD, every other byte of host memory reads as
before, PROD of the ring is one more (modulo 2^32), and the entry is in flight no longer. -/
def Obligations.CompletionTakesTheNextSlot : Prop :=
  (∀ (ring tag head st det res e : Nat), e = cplEntry ring tag head ⟨st, det, res⟩ →
    e % 2 ^ 16 = ring % 2 ^ 16 ∧ e / 2 ^ 16 % 2 ^ 16 = tag % 2 ^ 16 ∧ e / 2 ^ 32 % 2 ^ 8 = st % 2 ^ 8 ∧ e / 2 ^ 40 % 2 ^ 8 = 0 ∧
      e / 2 ^ 48 % 2 ^ 16 = det % 2 ^ 16 ∧ e / 2 ^ 64 % 2 ^ 160 = res % 2 ^ 160 ∧ e / 2 ^ 224 % 2 ^ 16 = head % 2 ^ 16 ∧
      e / 2 ^ 240 = 0) ∧
  (∀ (s : State) (i : Infl) (r : Reply) (c : Rec 64) (k e a : Nat), Canonical s → k = fget Ring.CPL_RING (s.ring i.ring) → c = s.ring k →
    k ≠ i.ring → isRing c 1 = true → ringRuns c = true → e = cplEntry i.ring i.tag i.head r →
    a = fget Ring.BASE c + fget Ring.PROD c % 2 ^ fget Ring.LOG2N c * 32 →
    (∀ n, n < 32 → (s.complete i r).hostByte (a + n) =
      BitVec.ofNat 8 ((e % 2 ^ 255 + (1 - fget Ring.PROD c / 2 ^ fget Ring.LOG2N c % 2) * 2 ^ 255) / 256 ^ n)) ∧
    (∀ b, b < a ∨ a + 32 ≤ b → (s.complete i r).hostByte b = s.hostByte b) ∧
    fget Ring.PROD ((s.complete i r).ring k) = (fget Ring.PROD c + 1) % 2 ^ 32 ∧
    (s.complete i r).hif.inflight = s.hif.inflight.erase i)

/-- While the CPL ring of a command is quenched and not faulted, its completion is held in the module: no byte of host memory changes, as
many commands are in flight as before and the held entry is last in line. Of a faulted CPL ring no byte of host memory changes and the
command is in flight no longer. -/
def Obligations.StoppedRingsTakeNoCompletion : Prop :=
  ∀ (s : State) (i : Infl) (r : Reply) (c : Rec 64) (k : Nat), k = fget Ring.CPL_RING (s.ring i.ring) → c = s.ring k → isRing c 1 = true →
    (fbit Ring.QUENCHED c = true → fbit Ring.FAULT c = false →
      (s.complete i r).hif.mem = s.hif.mem ∧ (s.complete i r).hif.inflight.length = s.hif.inflight.length ∧
        (s.complete i r).hif.held = s.hif.held ++ [(k, cplEntry i.ring i.tag i.head r)]) ∧
    (fbit Ring.FAULT c = true → (s.complete i r).hif.mem = s.hif.mem ∧ (s.complete i r).hif.inflight = s.hif.inflight.erase i)

/-- Each byte of a store to host memory reads as the byte stored and every byte outside it as before. A register field reads as the value
written (modulo its width), every field in another word or in other bits of the same word reads as before, and the complement of a word
held in twin is the complement of the word after every write. -/
def Obligations.WritesReadBack : Prop :=
  (∀ (s : State) (addr n v k : Nat), Canonical s → k < n → (s.hostPut addr n v).hostByte (addr + k) = BitVec.ofNat 8 (v / 256 ^ k)) ∧
  (∀ (s : State) (addr n v a : Nat), (a < addr ∨ addr + n ≤ a) → (s.hostPut addr n v).hostByte a = s.hostByte a) ∧
  (∀ (s : State) (f : RFld) (v : Nat), Canonical s → f.lo + f.w ≤ 32 → (s.wf f v).rf f = v % 2 ^ f.w) ∧
  (∀ (s : State) (f g : RFld) (v : Nat), Canonical s → (g.off ≠ f.off ∨ g.lo + g.w ≤ f.lo ∨ f.lo + f.w ≤ g.lo) →
    (s.wf f v).rf g = s.rf g) ∧
  (∀ (s : State) (off : Nat) (w : Word), Canonical s → holdsTwin off = true → (s.wr off w).rdN off = ~~~ (s.wr off w).rd off)

/-- Where the word that a write makes of a register breaks a range rule of its block, the write only adds one to the block's counter of
rejected writes (up to its largest value) and every other register word is as before. A register all of whose fields WLD_LOCK bars takes
no word: the state is as the instant finds it. -/
def Obligations.RejectedWritesChangeNothing : Prop :=
  (∀ (s : State) (req off v w : Nat) (r : RegDef) (f : RFld), Canonical s → findReg off = some r → rejectCnt off = some f →
    ¬ (0x11400 ≤ off ∧ off < 0x11800) → off ≠ 0x40000 → secureFn req = true → (∀ d ∈ r.fields, s.keptNow req off d = false) →
    regMask r (fun d => writable req off d && (d.acc == .rw || d.acc == .tw)) = w → w ≠ 0 →
    s.regBad off (maskInto w v (s.rd off)).toNat = true →
    s.regCommit req off v = s.bump f ∧ (s.regCommit req off v).rf f = min (s.rf f + 1) (2 ^ f.w - 1) ∧
      ∀ o, o ≠ f.off → (s.regCommit req off v).rd o = s.rd o) ∧
  (∀ (t req off v : Nat) (s a : State) (r : RegDef), a = s.at_ t → secureFn req = true → a.mayAccess req = true → off % 4 = 0 →
    regAddr req off = some off → findReg off = some r → off < 0x190000 → off >>> 16 ≠ 10 → a.rb Reg.WLD_LOCK.LOCK = true →
    (∀ f ∈ r.fields, f.lk = true) → Ends (exec (.registerWrite t req off 4 v) s) a)

/-- R141: A write of a secure requester that reaches ALM_SHELVE_MAX with a value outside 1 to 86,400 leaves SHELVE_MAX_S as it is and
adds one to ALM_RANGE_REJECT_CNT (up to its largest value). -/
def Obligations.ShelveMaxOutOfRangeIsNotApplied : Prop :=
  ∀ (t req v : Nat) (s a : State) (r : RegDef), a = s.at_ t → Canonical s → secureFn req = true → WriteReaches req 0x20004 0x20004 r a →
    a.ready 10 = true → (v % 2 ^ 17 = 0 ∨ 86400 < v % 2 ^ 17) →
    ∃ u, u = a.bump Reg.ALM_RANGE_REJECT_CNT.COUNT ∧ Ends (exec (.registerWrite t req 0x20004 4 v) s) u ∧
      u.rf Reg.ALM_SHELVE_MAX.SHELVE_MAX_S = s.rf Reg.ALM_SHELVE_MAX.SHELVE_MAX_S ∧
      u.rf Reg.ALM_RANGE_REJECT_CNT.COUNT = min (s.rf Reg.ALM_RANGE_REJECT_CNT.COUNT + 1) (2 ^ 32 - 1)

/-- R786: For every requester that may access the windows and every aligned offset at which no register lies: a read gives 0 and a write
changes nothing; neither has another effect and neither is counted. -/
def Obligations.ReservedOffsetsReadZero : Prop :=
  ∀ (t req off v : Nat) (quiet : Bool) (s a : State), a = s.at_ t → a.mayAccess req = true → off % 4 = 0 →
    (∀ o, regAddr req off = some o → findReg o = none) →
    Ends (exec (.rcFieldRead t req off 4 quiet) s) (a.onHif fun h => { h with readOut := tset 0 h.readOut req 0 }) ∧
    Ends (exec (.registerWrite t req off 4 v) s) a

/-- R499: For a VALID ring of the reading function while the main domain is up: DB_COUNT reads CONS for CMD (TYPE 0), DATA_IN (3) and
DATA_OUT (4) rings and PROD for CPL (1) and EVT (2) rings; DB_ARM reads VALID, QUENCHED, FAULT and ARMED in bits 0 to 3 and 0 in every
other bit. -/
def Obligations.DoorbellReadsShowTheCounts : Prop :=
  ∀ (s : State) (fn r : Nat) (c : Rec 64), c = s.ring r → s.pwr.mainUp = true → fbit Ring.VALID c = true → fget Ring.FUNC c = fn →
    (fget Ring.TYPE c = 0 ∨ fget Ring.TYPE c = 3 ∨ fget Ring.TYPE c = 4 → s.doorbellRead fn (0x1000 * r) = fget Ring.CONS c) ∧
    (fget Ring.TYPE c = 1 ∨ fget Ring.TYPE c = 2 → s.doorbellRead fn (0x1000 * r) = fget Ring.PROD c) ∧
    ∀ k, s.doorbellRead fn (0x1000 * r + 4) / 2 ^ k % 2 =
      if k = 0 then fget Ring.VALID c else if k = 1 then fget Ring.QUENCHED c else if k = 2 then fget Ring.FAULT c
      else if k = 3 then fget Ring.ARMED c else 0

/-- R333: For every point, bin set with rising edges and value x: bin 0 where x is below EDGE[1], bin k where EDGE[k] is at most x and x
is below EDGE[k + 1], for k from 1 to 14, and bin 15 where x is at least EDGE[15]. -/
def Obligations.LedgerBinsFollowTheEdges : Prop :=
  ∀ (p : Rec 128) (b : Rec 64) (v : Nat) (x : Int × Nat), x = fratio f32 v →
    (∀ j k, 1 ≤ j → j ≤ k → k ≤ 15 → ratLe (edgeOf p b j) (edgeOf p b k) = true) →
    (ratLe (edgeOf p b 1) x = false → binOf p b v = 0) ∧
    (∀ k, 1 ≤ k → k ≤ 14 → ratLe (edgeOf p b k) x = true → ratLe (edgeOf p b (k + 1)) x = false → binOf p b v = k) ∧
    (ratLe (edgeOf p b 15) x = true → binOf p b v = 15)

/-- R245: For every section of a loop, input and state: the output y as a Q1.15 integer lies from -32768 to 32767; unless it saturates,
32768 y - 16384 is at most the accumulator and the accumulator is below 32768 y + 16384, so a value exactly halfway goes up. -/
def Obligations.SectionOutputRoundsHalvesUp : Prop :=
  ∀ (k : Nat) (x acc y : Int) (any : Bool) (r : Rec 512),
    acc = fgetS (Loop.B0 k) r * x * ((2 ^ fget (Loop.SH k) r : Nat) : Int) + fgetS (Loop.S1 k) r → y = (runSecs none 0 k x any r).y →
    -32768 ≤ y ∧ y ≤ 32767 ∧ (-32768 < y → 32768 * y - 16384 ≤ acc) ∧ (y < 32767 → acc < 32768 * y + 16384)

/-- R151: WHOLLY_NORMAL of a sector record as the flags are derived is set if and only if CNT_ACT[0..3], CNT_UNACK[0..3] and CNT_HELD are
all zero. Counts of shelved, suppressed, out-of-service and unconfirmed members have no part in it. -/
def Obligations.WhollyNormalFollowsTheCounts : Prop :=
  ∀ (flood : Bool) (r : Rec 128), fbit Sect.WHOLLY_NORMAL (Sect.flags flood r) = true ↔
    (∀ k, k < 4 → fget (Sect.ACT k) r = 0 ∧ fget (Sect.UNACK k) r = 0) ∧ fget Sect.CNT_HELD r = 0

/-- R35: After reset every point record has CTRL = 7 and CTRL_N = 0xFFFFFFF8, so that its kind is NONE, zeros in all other configuration
bytes, and in CFG_CRC the CRC of those contents. An update of a tile's queue that is addressed to a NONE point is taken from the queue,
PNT_UNCONF_DROP_CNT is one more, and no point record changes. -/
def Obligations.UnconfiguredPointsDropUpdates : Prop :=
  (∀ i, fget Pt.CTRL (State.reset.pt i) = 7 ∧ fget Pt.CTRL_N (State.reset.pt i) = 0xFFFFFFF8 ∧ State.reset.kind i = kNone ∧
    (State.reset.pt i).toNat / 2 ^ 64 % 2 ^ 416 = 0 ∧
    fget Pt.CFG_CRC (State.reset.pt i) = crc32c 0 60 (fget Pt.CFG (State.reset.pt i))) ∧
  (∀ (t tile : Nat) (img : Bool) (s a b c : State) (u : Upd) (q : List Upd), a = s.at_ t → tget [] a.pts.queues tile = u :: q →
    a.runs 12 = true → a.stageFull = false → b = a.tilePop tile → c = b.minuteFirst tile → c.kind u.idx = kNone →
    Ends (exec (.pointUpdateApply t tile [] img) s) (c.bump Reg.PNT_UNCONF_DROP_CNT.COUNT).tileRoom ∧
    (c.bump Reg.PNT_UNCONF_DROP_CNT.COUNT).tileRoom.pts.rec_ = c.pts.rec_ ∧ b.pts.rec_ = s.pts.rec_ ∧
    (tget [] a.pts.waiting tile = [] → b.pts.queues = tset [] a.pts.queues tile q) ∧ (b.minuteDue tile = none → c = b))

/-- A command that its checks accept at its instant completes: NOP with the state as it is; RING_CREATE with the ring in the ring table;
RING_TUNE with weight, vector, coalescing and backlog limit as given and the base as before; RING_QUERY with the 64 bytes of the context
in its buffer; RING_DELETE of an EVT ring with the ring gone, of a CMD ring by waiting in the queue of deletions. -/
def Obligations.RingCommandsTakeEffect : Prop :=
  (∀ t c s i, Accepted t (specNop c) c s i → Completes (exec (.nop t c) s) i Reply.ok (s.at_ t)) ∧
  (∀ t c s i, Accepted t (specRingCreate c) c s i → ∃ v : State, Completes (exec (.ringCreate t c) s) i ⟨0, 0, c.f 8 0 16⟩ v ∧
    v.hif.rings = tset 0 s.hif.rings (c.f 8 0 16)
      (fput Ring.QUENCHED (b2n ((s.at_ t).quenched (c.f 8 0 16) ((s.at_ t).fnOf c))) (ringOf ((s.at_ t).fnOf c) c))) ∧
  (∀ t c s i, Accepted t (specRingTune c) c s i → ∃ (w : State) (n : Rec 64), Completes (exec (.ringTune t c) s) i Reply.ok (w.signal (c.f 8 0 16)) ∧
    w.hif.rings = tset 0 s.hif.rings (c.f 8 0 16) n ∧ fget Ring.WEIGHT n = c.f 0x0C 24 8 ∧ fget Ring.VECTOR n = c.f 0x10 16 11 ∧
    fget Ring.COAL_N n = c.f 0x20 0 16 ∧ fget Ring.COAL_US n = c.f 0x20 16 16 ∧ fget Ring.BACKLOG_MAX n = c.f 0x24 0 21 ∧
    fget Ring.BASE n = fget Ring.BASE (s.ring (c.f 8 0 16))) ∧
  (∀ t c s i, Accepted t (specRingQuery c) c s i → ∃ v : State, Completes (exec (.ringQuery t c) s) i Reply.ok v ∧
    v = (s.at_ t).levelA.hostPut c.buf 64 (s.ring (c.f 8 0 16)).toNat) ∧
  (∀ t c s i, Accepted t (specRingDelete c) c s i → fget Ring.TYPE (s.ring (c.f 8 0 16)) = 2 →
    Completes (exec (.ringDelete t c) s) i Reply.ok
      ((match tget none s.hif.outBuf (c.f 8 0 16) with
        | some b => if b.items == 0 || !ringRuns (s.ring (c.f 8 0 16)) then s.at_ t else (s.at_ t).outBack (c.f 8 0 16) b
        | none => s.at_ t).ringGone (c.f 8 0 16))) ∧
  (∀ t c s i, Accepted t (specRingDelete c) c s i → fget Ring.TYPE (s.ring (c.f 8 0 16)) = 0 →
    ∃ v : State, StaysInFlight (exec (.ringDelete t c) s) i v ∧ v.hif.deleting = s.hif.deleting ++ [(c.f 8 0 16, c.ring, c.tag)])

/-- A doorbell count or arm write of the owner of a VALID ring, the fetch of the descriptor that the arbiter picks, the writing of held
completions, the drain of a backlog, the expiry of a coalesced vector, the unmasking of a vector with and without a pending one, and the
write-back of a DATA_OUT buffer after 100 µs each answer the next state given. -/
def Obligations.RingTrafficTakesEffect : Prop :=
  (∀ t fn off v s a, a = s.at_ t → s.pwr.mainUp = true → off % 0x1000 = 0 → fbit Ring.VALID (a.ring (off / 0x1000)) = true →
    fget Ring.FUNC (a.ring (off / 0x1000)) = fn →
    Ends (exec (.doorbellCountWrite t fn off 4 v) s) ((a.touch (off / 0x1000)).takeCount (off / 0x1000) (v % 2 ^ 32))) ∧
  (∀ t fn off v s a, a = s.at_ t → s.pwr.mainUp = true → off % 0x1000 = 4 → v % 2 = 1 → fbit Ring.VALID (a.ring (off / 0x1000)) = true →
    fget Ring.FUNC (a.ring (off / 0x1000)) = fn → fget Ring.TYPE (a.ring (off / 0x1000)) ∈ [1, 2, 4] →
    Ends (exec (.doorbellArmWrite t fn off 4 v) s) ((a.touch (off / 0x1000)).arm (off / 0x1000))) ∧
  (∀ t desc s a r arb c v, a = s.at_ t → s.pwr.mainUp = true → s.pwr.failing = false → a.ready 8 = true → a.fetchPick = (some r, arb) →
    fget Ring.TYPE (a.ring r) ≠ 3 → fget Ring.TYPE (a.ring r) ≠ 4 → c = (fget Ring.CONS (a.ring r) + 1) % 2 ^ 32 →
    v = ((((((a.onHif fun h => { h with fetchArb := arb }).touch r).setRing r (fput Ring.CONS c (a.ring r))).onHif fun h =>
        { h with inflight := h.inflight ++ [⟨r, desc, false, c, false⟩] }).modRing r fun x =>
        fput Ring.INFLIGHT (fget Ring.INFLIGHT x + 1) x).bump Reg.HIF_INFLIGHT.COUNT).bump (Reg.HIF_FN.FN_INFLIGHT (fget Ring.FUNC (a.ring r))) →
    Ends (exec (.descriptorFetch t desc) s) ((v.onHif fun h => { h with fetchArb := arbSync v.fetchIn h.fetchArb }).sweep 256 r)) ∧
  (∀ t r e s, (r, e) ∈ s.hif.held → fbit Ring.QUENCHED (s.ring r) = false →
    Ends (exec (.completionWrite t r) s) ((s.at_ t).unhold r)) ∧
  (∀ t r l s, (r, l) ∈ s.hif.backlog → Ends (exec (.eventBacklogDrain t r) s) ((s.at_ t).drain r)) ∧
  (∀ t r s a c, a = s.at_ t → c = a.ring r → tget 0 a.hif.coalAt r ≠ 0 → tget 0 a.hif.coalAt r ≤ a.tim.now + 1 →
    fbit Ring.ARMED c = true → fbit Ring.VEC_EN c = true → a.pendEntries r ≠ 0 → ∃ v : State, v.hif.rings = tset 0 a.hif.rings r (fput Ring.ARMED 0 c) ∧
      Ends (exec (.vectorCoalesceExpire t r) s) (v.sendVec (fget Ring.FUNC c) (fget Ring.VECTOR c))) ∧
  (∀ t fn vec s, fn < 65 → vec < s.rf (Reg.HIF_FN.NVEC fn) → tget 0 s.hif.vecPend (vecKey fn vec) = 0 →
    ∃ v : State, Ends (exec (.msixUnmask t fn vec) s) v ∧ v.hif.vecOpen = tset 0 s.hif.vecOpen (vecKey fn vec) 1 ∧
      v.hif.vecSent = s.hif.vecSent) ∧
  (∀ t fn vec s, fn < 65 → vec < s.rf (Reg.HIF_FN.NVEC fn) → tget 0 s.hif.vecPend (vecKey fn vec) ≠ 0 →
    ∃ v : State, v.hif.vecPend = tset 0 s.hif.vecPend (vecKey fn vec) 0 ∧ v.hif.vecOpen = tset 0 s.hif.vecOpen (vecKey fn vec) 1 ∧
      Ends (exec (.msixUnmask t fn vec) s) (v.sendVec fn vec)) ∧
  (∀ t r b s a, a = s.at_ t → tget none a.hif.outBuf r = some b → b.items ≠ 0 → b.since + ofUs 100 ≤ a.tim.now → ringRuns (a.ring r) = true →
    Ends (exec (.dataOutWriteback t r) s) (a.outBack r b))

/-- A DATA_IN entry is sent as one frame of its class, a bus error faults its ring, a function-level reset, a write of FN_QUENCH, ADM_EN
or HIF_QUENCH by PF0 and the training of the host link each answer the next state given. -/
def Obligations.HostLinkRowsTakeEffect : Prop :=
  (∀ t ring data i s a, a = s.at_ t → s.pwr.mainUp = true → a.selfQuenched (fget Ring.DCLASS (a.ring ring)) = false →
    a.hif.inflight.find? (fun j => j.ring == ring && j.data && !j.disp) = some i →
    a.hostDenied (fbit Ring.WORLD (a.ring ring)) (i.desc.toNat % 2 ^ 64) ((i.desc.toNat >>> 64) % 2 ^ 14) = none →
    0 < (i.desc.toNat >>> 64) % 2 ^ 14 → (i.desc.toNat >>> 64) % 2 ^ 14 ≤ 9212 →
    ∃ (w v : State) (ok : Bool),
      w.hif.inflight = (a.hif.inflight.map fun j => if j == i then { j with disp := true } else j) ∧ State.originate
        { src := 128, cls := fget Ring.DCLASS (a.ring ring), ptype := if fget Ring.DCLASS (a.ring ring) == 6 then 0x60 else 0x70
          dst := some (fget Ring.DEST_NODE (a.ring ring)), len := 4 + (i.desc.toNat >>> 64) % 2 ^ 14, ring := ring + 1, tag := i.tag
          payload := fget Ring.DEST_RING (a.ring ring) + (i.desc.toNat >>> 64) % 2 ^ 14 * 2 ^ 16 +
            (data % 2 ^ (8 * ((i.desc.toNat >>> 64) % 2 ^ 14))) * 2 ^ 32 } w = (ok, v) ∧
      Ends (exec (.dataInSend t ring data false) s) (if ok then v else v.complete { i with disp := true } (Reply.of 8))) ∧
  (∀ t r status s, fbit Ring.VALID (s.ring r) = true → fbit Ring.FAULT (s.ring r) = false →
    ∃ v : State, Ends (exec (.dmaError t r status) s) (v.raise Ev.HIF_RING_FAULT r [fget Ring.FUNC (s.ring r), status]) ∧
      v.hif.held = s.hif.held.filter fun e => e.1 != r) ∧
  (∀ t fn s, s.pwr.mainUp = true → fn < 65 → Ends (exec (.functionLevelReset t 0 fn fn) s) ((s.at_ t).fnResets 0 fn)) ∧
  (∀ t fn v s, s.pwr.mainUp = true → fn < 65 → ∃ w : State, Ends (exec (.fnQuenchWrite t 0 fn v) s) w.requench ∧
    w = (s.at_ t).wf (Reg.HIF_FN.FN_QUENCH fn) (b2n v)) ∧
  (∀ t fn v s, s.pwr.mainUp = true → fn < 65 → Ends (exec (.admEnWrite t 0 fn v) s) ((s.at_ t).admEn fn v)) ∧
  (∀ t v s, s.pwr.mainUp = true → (v / 2 % 2 = 1 → fbit Ring.VALID (s.ring (v / 65536 % 65536)) = true) →
    ∃ w : State, Ends (exec (.hifQuenchWrite t 0 v) s) w.requench ∧
      w = (((s.at_ t).wf Reg.HIF_QUENCH.EVT_ALL (v % 2)).wf Reg.HIF_QUENCH.RING_EN (v / 2 % 2)).wf Reg.HIF_QUENCH.RING (v / 65536)) ∧
  (∀ t gen width flit s, s.pwr.mainUp = true → ∃ w : State,
    Ends (exec (.hostLinkTrained t gen width flit) s) ((w.onHif fun h => { h with ownRef := w.rb Reg.PWR_CLK_CTRL.PCIE_SRIS }).hifReady) ∧
    w = (((s.at_ t).wf Reg.HIF_LINK_STAT.GEN gen).wf Reg.HIF_LINK_STAT.WIDTH width).wf Reg.HIF_LINK_STAT.FLIT (b2n flit))

/-- A command that its checks accept at its instant answers the next state given: SYS_STATUS with readiness, watch time and sequence
number as its result, CFG_COMMIT as the commit that runs, CFG_FACTORY with a record and FACTORY_PENDING, CFG_CONFIRM with the points
released and their number. -/
def Obligations.ConfigurationCommandsTakeEffect : Prop :=
  (∀ t c s i, Accepted t (specSysStatus c) c s i → Completes (exec (.sysStatus t c) s) i
    ⟨0, 0, (s.at_ t).rf Reg.SYS_READY.READY + (s.at_ t).wt * 2 ^ 32 + ((s.at_ t).alm.seq % 2 ^ 32) * 2 ^ 96⟩ (s.at_ t)) ∧
  (∀ t c s i, Accepted t (specCfgCommit c) c s i → s.img.run = none →
    StaysInFlight (exec (.cfgCommit t c) s) i ((s.at_ t).commitBegin 0 (c.ring + 1) c.tag)) ∧
  (∀ t c s i, Accepted t (specCfgFactory c) c s i → ∃ v : State, Completes (exec (.cfgFactory t c) s) i Reply.ok v ∧
    v = ((s.at_ t).addRec 1 0 3 0 0).wf Reg.SYS_RESTORE.FACTORY_PENDING 1) ∧
  (∀ t c s i, Accepted t (specCfgConfirm c) c s i → ∃ n v, Completes (exec (.cfgConfirm t c) s) i ⟨0, 0, n⟩ v ∧
    (n, v) = ((s.at_ t).addRec 0 0 2 ((s.slot 0).getD Slot.empty).gen ((s.slot 0).getD Slot.empty).hcrc).confirmAll)

/-- The end of a commit, the automatic commit, the writing of a checkpoint block and of the loop block, power good of the Lightship and
the end of the restore (with and without a section at fault) each answer the next state given. -/
def Obligations.CommitAndStartRowsTakeEffect : Prop :=
  (∀ t c s, s.img.run = some c → s.pwr.mainUp = true → s.pwr.failing = false →
    Ends (exec (.commitComplete t) s) ((s.at_ t).commitEnd c)) ∧
  (∀ t s a, a = s.at_ t → 0 < a.rf Reg.SYS_CFG.AUTO_S → s.img.run = none → a.rb Reg.SYS_RESTORE.RETAIN_DISAGREE = false →
    a.ready 10 = true → a.rb Reg.SYS_COMMIT_STAT.DIRTY_HOST = true → a.img.dirtyAt ≠ 0 →
    a.img.dirtyAt - 1 + ofS (a.rf Reg.SYS_CFG.AUTO_S) ≤ a.tim.now → Ends (exec (.autoCommit t) s) (a.commitBegin 1 0 0)) ∧
  (∀ t b s a, a = s.at_ t → a.ready 12 = true → a.img.use ≠ 0 → b ∈ a.blocksUsed → a.ckptDue (tget 0 a.img.ckptAt b) = true →
    Ends (exec (.checkpointWrite t b) s) (a.writeBlock b)) ∧
  (∀ t s a, a = s.at_ t → a.ready 12 = true → a.img.use ≠ 0 → a.ckptDue a.img.loopAt = true →
    Ends (exec (.loopBlockWrite t) s) a.writeLoops) ∧
  (∀ t corrupt src store s a v, a = s.at_ t → s.pwr.lshipUp = false → src ≤ 2 → v = ((a.lshipPower src store).lshipImage).romBoot corrupt →
    (a.lshipPower src store).pwr.lshipUp = true ∧
    Ends (exec (.lshipPowerGood t corrupt src store) s) (if v.rf Reg.KPR_STAT.STATE = 2 then v else v.lshipStart)) ∧
  (∀ t bad s a, a = s.at_ t → s.pwr.mainUp = true → s.pwr.failing = false → s.img.asked = true → a.ready 10 = false →
    (∀ k ∈ bad, k = 0 ∨ 10 < k) → a.restoreMain.img.asked = false ∧ a.restoreMain.img.commitAt = a.tim.now ∧
      Ends (exec (.restoreDone t bad) s) ((((a.restoreMain.setReady 9).setReady 10).setReady 11).setReady 13)) ∧
  (∀ t bad s a u v, a = s.at_ t → s.pwr.mainUp = true → s.pwr.failing = false → s.img.asked = true → a.ready 10 = false → a.img.use ≠ 0 →
    (∃ k ∈ bad, 1 ≤ k ∧ k ≤ 10) → u = a.setSlot (a.img.use - 1) (some { a.inUse with bad := true }) →
    v = (((u.bump Reg.SYS_SECT_ERR_CNT.COUNT).wf Reg.SYS_RESTORE.SECT_RETRY 1).choose).restoreLship →
    Ends (exec (.restoreDone t bad) s) (v.restoreRegs v.inUse.regs fun o => decide (0x180000 ≤ o)))

/-- A command that its checks accept at its instant answers the next state given: the basic and the expert configuration of a point, its
deletion, its read into the buffer, the binding of a vote set, and the write and read of a profile. -/
def Obligations.PointConfigurationTakesEffect : Prop :=
  (∀ t c s i k a, k = tagIdx (c.bw 0) → a = (s.turn t k).at_ t → s.pointWaits k = false → Accepted t (specPntConfig c) c (s.turn t k) i →
    fbit Pt.SHADOW (a.pt k) = false → (fget Pt.KIND (a.pt k) == kOutput && fbit Pt.LOOP_OWNED (a.pt k)) = false →
    ∃ (v : State) (r : Reply), Completes (exec (.pntConfig t c) s) i r v ∧ r.det = 0 ∧ r.res = fget Pt.COND_BASE (v.pt k) ∧ (r.st = 0 ∨ r.st = 7) ∧
      v = ((a.commitPoint k ((a.allotConds k (fget Pt.COND_MASK (a.basicCfg k c).p)).getD 0) (a.basicCfg k c) false 0).dirtyHost).replConfig
        k false) ∧
  (∀ t c s i k a e, k = tagIdx (c.bw 0) → a = (s.turn t k).at_ t → e = expertCfg (c.inp >>> 128) (c.inp >>> 640) → s.pointWaits k = false →
    Accepted t (specPntConfigExpert c) c (s.turn t k) i → fbit Pt.SHADOW (a.pt k) = false →
    (fget Pt.KIND (a.pt k) == kOutput && fbit Pt.LOOP_OWNED (a.pt k)) = false →
    ∃ (v : State) (r : Reply), Completes (exec (.pntConfigExpert t c) s) i r v ∧ r.res = fget Pt.COND_BASE (v.pt k) ∧ (r.st = 0 ∨ r.st = 7) ∧
      v = ((a.commitPoint k (fget Pt.COND_BASE e.p) e false 0).dirtyHost).replConfig k false) ∧
  (∀ t c s i k a, k = tagIdx (c.d 8) → a = (s.turn t k).at_ t → s.pointWaits k = false → Accepted t (specPntDelete c) c (s.turn t k) i →
    fget Pt.KIND (a.pt k) ≠ kNone → fbit Pt.SHADOW (a.pt k) = false → fget Pt.KIND (a.pt k) ≠ kOutput → a.pointNamed k = false →
    Completes (exec (.pntDelete t c) s) i Reply.ok (((a.replConfig k true).dropPoint k).dirtyHost)) ∧
  (∀ t c s i k a cs xs, k = tagIdx (c.d 8) → a = (s.at_ t).condGuard k (s.at_ t).wt → Accepted t (specPntRead c) c s i →
    cs = (a.slotsOf k).foldr (fun e v => (a.cond e.2).toNat + v * 2 ^ 512) 0 → xs = (a.slotsOf k).foldr (fun e v => (a.condX e.2).toNat + v * 2 ^ 128) 0 →
    Completes (exec (.pntRead t c) s) i ⟨0, 0, (a.slotsOf k).length⟩ (a.bufPut c (128 + 80 * (a.slotsOf k).length)
      ((a.pt k).toNat + cs * 2 ^ 1024 + xs * 2 ^ (1024 + 512 * (a.slotsOf k).length)))) ∧
  (∀ t c s i k a, k = tagIdx (c.d 8) → a = (s.turn t k).at_ t → s.pointWaits k = false → Accepted t (specPntVoteBind c) c (s.turn t k) i →
    fbit Pt.SHADOW (a.pt k) = false → ∃ (v : State) (x : PtX), x.outlier = 0 ∧ x.degraded = false ∧ x.pair = none ∧ x.hasPrev = false ∧
      x.disputed % 2 = 0 ∧ Completes (exec (.pntVoteBind t c) s) i Reply.ok ((v.setPx k x).requal k).dirtyHost) ∧
  (∀ t c s i o, o = 0x11000 + 16 * c.f 0x10 0 7 → Accepted t (specPntProfileWrite c) c s i →
    ∃ v : State, Completes (exec (.pntProfileWrite t c) s) i Reply.ok v.aiFollow.dirtyHost ∧
      v = ((((s.at_ t).wr o (BitVec.ofNat 32 (c.w 0x18))).wr (o + 4) (BitVec.ofNat 32 (c.w 0x20))).wr (o + 8)
        (BitVec.ofNat 32 (c.w 0x28 % 2 ^ 16))).wr (o + 12) (BitVec.ofNat 32 (c.w 0x30 % 2 ^ 21))) ∧
  (∀ t c s i o a, o = 0x11000 + 16 * c.f 0x10 0 7 → a = s.at_ t → Accepted t (specPntProfileRead c) c s i →
    Completes (exec (.pntProfileRead t c) s) i ⟨0, 0, (a.rd o).toNat + (a.rd (o + 4)).toNat * 2 ^ 32 + (a.rd (o + 8)).toNat * 2 ^ 64 +
      (a.rd (o + 12)).toNat * 2 ^ 96⟩ a)

/-- A command that its checks accept at its instant answers the next state given, in which the point record and the ownership bits are as
stated: PNT_FORCE, PNT_UNFORCE, PNT_SIM_START, PNT_SIM_VALUE, PNT_SIM_END, PNT_OUTPUT and PNT_RESET. -/
def Obligations.PointOverridesTakeEffect : Prop :=
  (∀ t c s i k a, k = tagIdx (c.d 8) → a = (s.turn t k).at_ t → s.pointWaits k = false → Accepted t (specPntForce c) c (s.turn t k) i →
    ∃ r : Reply, (r.st = 0 ∨ r.st = 7) ∧ Completes (exec (.pntForce t c) s) i r ((((a.setValue k (c.w 0x10)).modPt k fun p =>
      fput Pt.STALE_AGE 0 (fput Pt.FORCE_VALUE_N (fget Pt.VALUE_N p) (fput Pt.FORCE_VALUE (fget Pt.VALUE p) p))).modPx k fun x =>
        ((x.setOwn 4 true).setOwn 8 false).setOwn 2 false).ownChange k true)) ∧
  (∀ t c s i k a, k = tagIdx (c.d 8) → a = (s.turn t k).at_ t → s.pointWaits k = false → Accepted t (specPntUnforce c) c (s.turn t k) i →
    ∃ r : Reply, (r.st = 0 ∨ r.st = 7) ∧ Completes (exec (.pntUnforce t c) s) i r (if (a.px k).own / 4 % 2 == 1 then
      (a.modPx k fun x => (x.setOwn 4 false).setOwn 2 true).ownChange k false else a)) ∧
  (∀ t c s i k a, k = tagIdx (c.d 8) → a = (s.turn t k).at_ t → s.pointWaits k = false → Accepted t (specPntSimStart c) c (s.turn t k) i →
    ∃ r : Reply, if (a.px k).own / 4 % 2 == 1 then r = Reply.of 6 ∧ Completes (exec (.pntSimStart t c) s) i r a else
      (r.st = 0 ∨ r.st = 7) ∧ Completes (exec (.pntSimStart t c) s) i r (((a.setValue k (c.w 0x10)).modPx k fun x =>
        (x.setOwn 8 true).setOwn 2 false).ownChange k true)) ∧
  (∀ t c s i k a, k = tagIdx (c.d 8) → a = (s.turn t k).at_ t → s.pointWaits k = false → Accepted t (specPntSimValue c) c (s.turn t k) i →
    ∃ r : Reply, (r.st = 0 ∨ r.st = 7) ∧ Completes (exec (.pntSimValue t c) s) i r (((a.setValue k (c.w 0x10)).modPx k fun x =>
      (x.setOwn 8 true).setOwn 2 false).ownChange k true)) ∧
  (∀ t c s i k a, k = tagIdx (c.d 8) → a = (s.turn t k).at_ t → s.pointWaits k = false → Accepted t (specPntSimEnd c) c (s.turn t k) i →
    ∃ r : Reply, (r.st = 0 ∨ r.st = 7) ∧ Completes (exec (.pntSimEnd t c) s) i r ((a.modPx k fun x =>
      (x.setOwn 8 false).setOwn 2 true).ownChange k false)) ∧
  (∀ t c s i k a w, k = tagIdx (c.d 8) → a = (s.turn t k).at_ t → s.pointWaits k = false → Accepted t (specPntOutput c) c (s.turn t k) i →
    fbit Pt.LOOP_OWNED (a.pt k) = false → w = a.applyUpdate ⟨k, c.w 0x10, twinOf (c.w 0x10), false, 0, a.wt, a.node, a.wt, 0⟩ →
    ∃ r : Reply, (r.st = 0 ∨ r.st = 7) ∧ Completes (exec (.pntOutput t c) s) i r (if fget Pt.DEST_TYPE (w.pt k) == 1 then
      (w.loopOut (fget Pt.DEST_NODE (w.pt k)) (fget Pt.DEST_INDEX (w.pt k)) (fget Pt.VALUE (w.pt k)) w.wt 0).2 else w)) ∧
  (∀ t c s i k a y w, k = tagIdx (c.d 8) → a = (s.turn t k).at_ t → s.pointWaits k = false → Accepted t (specPntReset c) c (s.turn t k) i →
    y = (if fget Pt.FORM (a.pt k) == 21 then 0 else (a.formInputs k).1.getD 0 0) → w = a.modPt k (fput Pt.AUX y) →
    ∃ r : Reply, (r.st = 0 ∨ r.st = 7) ∧ Completes (exec (.pntReset t c) s) i r
      (if (w.px k).overridden then w else w.applyResult k (some y) false (a.formInputs k).2 a.wt))

/-- A command that its checks accept at its instant answers the next state given: an acknowledgement of conditions and, forwarded, of a
mirror; shelving, unshelving, taking out of service and returning; the read of a condition; the hold of an adaptive limit. -/
def Obligations.AlarmCommandsTakeEffect : Prop :=
  (∀ t c s i a, a = (s.turn t (2 ^ 23)).at_ t → s.pointWaits (2 ^ 23) = false → Accepted t (specAlmAck c) c (s.turn t (2 ^ 23)) i →
    c.f 8 0 2 = 0 → c.f 8 2 1 = 1 → StaysInFlight (exec (.almAck t c) s) i ((a.ackForward (c.f 0x10 0 16)).onSec fun x =>
      { x with acks := x.acks ++ [(c.f 0x10 0 16, c.ring, c.tag, a.tim.now)] })) ∧
  (∀ t c s i a k n v, k = (if c.f 8 0 2 < 2 then tagIdx (c.d 0x10) else 2 ^ 23) → a = (s.turn t k).at_ t → s.pointWaits k = false →
    Accepted t (specAlmAck c) c (s.turn t k) i → (c.f 8 0 2 = 0 → c.f 8 2 1 = 0) →
    a.inputs (a.almTargets c) (fun _ _ q s => s.modCs q CS.ack) = (n, v) →
    Completes (exec (.almAck t c) s) i (Reply.with2 ((a.almTargets c).length + (a.ackMirrors c).length) n)
      ((a.ackMirrors c).foldl (fun s e => s.ackForward e) v)) ∧
  (∀ t c s i a k, k = tagIdx (c.d 0x10) → a = (s.turn t k).at_ t → s.pointWaits k = false → Accepted t (specAlmShelve c) c (s.turn t k) i →
    ∃ r : Reply, (r.st = 0 ∨ r.st = 7) ∧ r.res = (a.almTargets c).length ∧ Completes (exec (.almShelve t c) s) i r
      (a.inputs (a.almTargets c) fun _ _ q s =>
        let v := (s.modCs q fun x => { x with shelve := true }).modCondX q (fput Ext.SHELVE_S (c.f 0x1C 0 17))
        (v.onAlm fun x => { x with shelvedAt := tset 0 x.shelvedAt q (v.wt + 1) }).dirtyHost).2) ∧
  (∀ t c s i a k, k = tagIdx (c.d 0x10) → a = (s.turn t k).at_ t → s.pointWaits k = false → Accepted t (specAlmUnshelve c) c (s.turn t k) i →
    ∃ r : Reply, (r.st = 0 ∨ r.st = 7) ∧ r.res = (a.almTargets c).length ∧ Completes (exec (.almUnshelve t c) s) i r
      (a.inputs (a.almTargets c) fun _ _ q s => ((s.modCs q fun x => { x with shelve := false }).modCondX q
        (fput Ext.SHELVE_S 0)).dirtyHost).2) ∧
  (∀ t c s i a k, k = tagIdx (c.d 0x10) → a = (s.turn t k).at_ t → s.pointWaits k = false → Accepted t (specAlmOos c) c (s.turn t k) i →
    ∃ r : Reply, (r.st = 0 ∨ r.st = 7) ∧ r.res = (a.almTargets c).length ∧ Completes (exec (.almOos t c) s) i r
      (a.inputs (a.almTargets c) fun _ _ q s =>
        (((s.delayStop q).modCs q CS.outOfService).modCondX q (fput Ext.SHELVE_S 0)).dirtyHost).2) ∧
  (∀ t c s i a k, k = tagIdx (c.d 0x10) → a = (s.turn t k).at_ t → s.pointWaits k = false → Accepted t (specAlmReturn c) c (s.turn t k) i →
    ∃ r : Reply, (r.st = 0 ∨ r.st = 7) ∧ r.res = (a.almTargets c).length ∧ Completes (exec (.almReturn t c) s) i r
      (a.inputs (a.almTargets c) fun i k q s => s.returnToService i k q).2) ∧
  (∀ t c s i b a k l q w, b = s.at_ t → a = (b.almTargets c).foldl (fun v e => v.condGuard e.1 v.wt) b → Accepted t (specAlmCondRead c) c s i →
    a.almTargets c = (k, l, q) :: [] → w = fget Ext.K_ON (a.condX q) + fget Ext.K_HYST (a.condX q) * 2 ^ 8 + fget Ext.QUIET_MIN (a.condX q) * 2 ^ 16 →
    Completes (exec (.almCondRead t c) s) i ⟨0, 0, fget Cond.CSTATE (a.cond q) + fget Cond.ON_DELAY (a.cond q) * 2 ^ 32 +
      fget Cond.HYST (a.cond q) * 2 ^ 64 + w * 2 ^ 96 + q * 2 ^ 128⟩ (if c.bufLen == 0 then a else
        a.bufPut c 80 ((a.cond q).toNat + (a.condX q).toNat * 2 ^ 512))) ∧
  (∀ t c s i a k, k = tagIdx (c.d 0x10) → a = (s.turn t k).at_ t → s.pointWaits k = false → Accepted t (specAlmAdaptHold c) c (s.turn t k) i →
    ∃ r : Reply, (r.st = 0 ∨ r.st = 7) ∧ r.res = (a.almTargets c).length ∧ Completes (exec (.almAdaptHold t c) s) i r
      (a.inputs (a.almTargets c) fun _ _ q s => (s.modCond q fun r =>
        Cond.putCtrl (fget Cond.CCTRL (fput Cond.ADAPT_HOLD (c.f 0x1C 0 1) r)) r).dirtyHost).2)

/-- The application of a queued update, a scan tick, the expiry of a delay timer, the service of a coarse slot, the sweeps of shelving
and adaptation, a suppression input and the scrub of a point record that has lost its configuration each answer the next state given. -/
def Obligations.TileRowsTakeEffect : Prop :=
  (∀ t tile upset img s a u q b, a = s.at_ t → tget [] a.pts.queues tile = u :: q → a.runs 12 = true → a.stageFull = false →
    b = (a.tilePop tile).minuteFirst tile → Ends (exec (.pointUpdateApply t tile upset img) s)
      (((((b.condsRead u.idx u.tSrc upset img).condsWait (b.condsLost u.idx upset) true).takeUpdate u).condsWait
        (b.condsLost u.idx upset) false).tileRoom)) ∧
  (∀ t s a k, a = s.at_ t → k = ticksBy 1 a.wt → a.runs 12 = true → a.pts.scanAt ≤ k → a.stageFull = false →
    Ends (exec (.scanTick t) s) (((a.minutesFirst.onPts fun x => { x with scanAt := k + 1 }).scanTick k).localTicks (a.tickPoints k) k)) ∧
  (∀ t tile s a c d, a = s.at_ t → earliest (a.dueTimers fun o => decide (o < 2 ^ 26) && condTile o == tile) = some (c, d) →
    a.stageFull = false → Ends (exec (.delayTimerExpire t tile) s) ((a.minuteFirst tile).delayExpire c)) ∧
  (∀ t s a o tick, a = s.at_ t → earliest (a.dueTimers a.isCoarse) = some (o, tick) → a.stageFull = false →
    Ends (exec (.coarseSlotServe t) s) ((a.slotTimers tick).foldl (fun s o => s.coarseExpire o tick) a)) ∧
  (∀ t tile s a k, a = s.at_ t → k = a.wt / 2 ^ 32 → a.runs 12 = true → tget 0 a.alm.secAt tile ≤ k → a.stageFull = false →
    ∃ b : State, b = (a.minuteFirst tile).onAlm (fun x => { x with secAt := tset 0 x.secAt tile (k + 1) }) ∧
      Ends (exec (.shelveSweep t tile) s) ((b.tileConds tile).foldl (fun s e => s.shelveCount k e) b)) ∧
  (∀ t tile s a m, a = s.at_ t → a.minuteDue tile = some m → a.stageFull = false →
    Ends (exec (.adaptSweep t tile) s) (a.adaptSweep tile m)) ∧
  (∀ t s a b c on mark q o, a = s.at_ t → a.sec.supIn = (c, on, mark) :: q → a.stageFull = false →
    b = (a.minuteFirst (condTile c)).onSec (fun x => { x with supIn := q }) → o = tget 0 b.alm.owner c → o ≠ 0 →
    ∃ w : State, w = (if on && decide (mark < tget 0 b.alm.actSeq c) then b.bump Reg.SEC_EARLY_EFFECT_CNT.COUNT else b) ∧
      Ends (exec (.suppressionInput t) s)
        ((State.input (o - 1) w.wt (fun s => s.modCs c fun v => { v with suppr := on }) w).replState (o - 1))) ∧
  (∀ t k flips img s b kept, b = (s.at_ t).modPt k (fun p => fput Pt.CFG (fget Pt.CFG p ^^^ (flips % 2 ^ 512)) p) →
    b.scrubDue (tget 0 b.pts.scrubAt k) = true → cfgIntact (fget Pt.CFG (b.pt k)) = false →
    kept = ((afind b.inUse.pts k).map BitVec.toNat).getD (fget Pt.CFG Pt.factory) → ∃ w : State,
      w = (((b.onPts fun p => { p with scrubAt := tset 0 p.scrubAt k (b.tim.now + 1) }).bump Reg.PNT_CFG_CRC_CNT.COUNT).raise
        Ev.PNT_CFG_CORRUPT (b.tagOf k) [b2n (!(img && cfgIntact kept))]) ∧
      Ends (exec (.pointRecordScrub t k flips img) s) (if img && cfgIntact kept then w.modPt k (fput Pt.CFG kept)
        else (w.modPx k fun x => { x with unconf := x.unconf / 2 * 2 + 1 }).requal k))

/-- A command that its checks accept at its instant answers the next state given: SEC_CONFIG, SEC_READ, SEC_FO_RESET, SEC_CAUSE_SET (a
cause that has its run of edges, and one that must wait for a compaction), SEC_CAUSE_DELETE, SEC_CAUSE_READ, and SEC_MIRROR_BIND for a
binding and its end. -/
def Obligations.SectorCommandsTakeEffect : Prop :=
  (∀ t c s i n, n = c.f 8 0 16 → Accepted t (specSecConfig c) c s i →
    Completes (exec (.secConfig t c) s) i Reply.ok (((s.at_ t).sectorsBy [n] fun s => s.setSect n (fput Sect.FO_EN (c.f 0x0C 0 1)
      (fput Sect.EVT_EN (c.f 0x0C 1 1) (fput Sect.WATCH_MASK (c.f 0x10 0 256) (s.sect n))))).dirtyHost)) ∧
  (∀ t c s i, Accepted t (specSecRead c) c s i →
    Completes (exec (.secRead t c) s) i Reply.ok ((s.at_ t).bufPut c 128 ((s.at_ t).sect (c.f 8 0 16)).toNat)) ∧
  (∀ t c s i l, Accepted t (specSecFoReset c) c s i → (s.at_ t).foScope c = l →
    Completes (exec (.secFoReset t c) s) i ⟨0, 0, l.length⟩ ((l.foldl (fun s n => s.foReset n) (s.at_ t)).dirtyHost)) ∧
  (∀ t c s i a key n cnt v, a = s.at_ t → cnt = c.bufLen / 16 → Accepted t (specSecCauseSet c) c s i → (a.causeNamed c).1 = some key →
    a.causeOf key = some n → cnt ≤ fget Cause.EDGE_COUNT (a.cause n) →
    v = ((a.causeWrite c key n (fget Cause.EDGE_BASE (a.cause n)) false).edgeGauges).dirtyHost →
    Completes (exec (.secCauseSet t c) s) i { Reply.with2 n cnt with st := if a.alm.spills < v.alm.spills then 7 else 0 } v) ∧
  (∀ t c s i a key, a = s.at_ t → Accepted t (specSecCauseSet c) c s i → (a.causeNamed c).1 = some key →
    a.causeOf key = none → a.rb Reg.SEC_COMPACT_STAT.COMPACTING = true →
    Completes (exec (.secCauseSet t c) s) i (Reply.of 6) (a.wf Reg.SEC_COMPACT_STAT.COMPACTING 1)) ∧
  (∀ t c s i a key n b d, a = s.at_ t → Accepted t (specSecCauseDelete c) c s i → (a.causeNamed c).1 = some key → a.causeOf key = some n →
    b = (if fget Cause.CSTATE (a.cause n) % 2 == 1 then a.causeCancel n else a) →
    d = (if 2 ≤ fget Cause.CSTATE (a.cause n) then b.fanOut n false b.alm.seq else b) →
    Completes (exec (.secCauseDelete t c) s) i Reply.ok ((((d.dropEdges n).setCause n 0).setCauseRef key 0).edgeGauges).dirtyHost) ∧
  (∀ t c s i a key n x, a = s.at_ t → Accepted t (specSecCauseRead c) c s i → (a.causeNamed c).1 = some key → a.causeOf key = some n →
    x = (a.effects n).foldr (fun q v => a.tagOf (tget 0 a.alm.owner q - 1) + a.slotOf q * 2 ^ 64 + v * 2 ^ 128) 0 →
    Completes (exec (.secCauseRead t c) s) i ⟨0, 0, (a.effects n).length⟩ (a.bufPut c (32 + 16 * (a.effects n).length)
      ((fput Cause.RELEASE_MS (a.relMs n) (a.cause n)).toNat + x * 2 ^ 256))) ∧
  (∀ t c s i a e r, a = s.at_ t → e = c.f 8 0 16 → Accepted t (specSecMirrorBind c) c s i → c.f 8 16 1 = 0 →
    r = fput Mir.TAG (c.d 0x10) (fput Mir.SLOT (c.f 0x18 0 4) (fput Mir.SECTOR (c.f 0x1C 0 16) (fput Mir.VALID 1 (fput Mir.LOST 1 0)))) →
    Completes (exec (.secMirrorBind t c) s) i Reply.ok (((a.setMir e r).subscribe (tagNode (c.d 0x10)) e false).dirtyHost)) ∧
  (∀ t c s i a e, a = s.at_ t → e = c.f 8 0 16 → Accepted t (specSecMirrorBind c) c s i → c.f 8 16 1 = 1 →
    fget Mir.CAUSE_REF (a.mir e) = 0 → ∃ v : State, Completes (exec (.secMirrorBind t c) s) i Reply.ok
      (((v.setMir e 0).onSec fun x => { x with lostAt := tset 0 x.lostAt e 0 }).dirtyHost))

/-- The processing of a sector change, the settle and release timers of a cause, the recount and the release of a flood, the audit, the
end of a compaction, and the timers of mirrors and of forwarded acknowledgements each answer the next state given. -/
def Obligations.SectorRowsTakeEffect : Prop :=
  (∀ t s a, a = s.at_ t → a.sec.queue ≠ [] → Ends (exec (.sectorChangeProcess t) s) a.sectorNext.bcnSettle) ∧
  (∀ t s a o d, a = s.at_ t → a.causeDue 1 = some (o, d) → Ends (exec (.settleTimerExpire t) s) (a.causeExpire (o - 2 ^ 26))) ∧
  (∀ t s a o d, a = s.at_ t → a.causeDue 3 = some (o, d) → Ends (exec (.releaseTimerExpire t) s) (a.causeExpire (o - 2 ^ 26))) ∧
  (∀ t s a k, a = s.at_ t → k = a.wt / 2 ^ 32 → a.runs 12 = true → a.sec.recountAt ≤ k → Ends (exec (.floodRecount t) s)
    ((watchList a.floodMask).foldl (fun s w => s.recount w k) (a.onSec fun x => { x with recountAt := k + 1 }))) ∧
  (∀ t s a f, a = s.at_ t → a.sec.floods.find? (fun f => f.ended.isSome) = some f →
    Ends (exec (.floodReleaseDone t) s) (a.floodRelease f).bcnSettle) ∧
  (∀ t flips supp s a v, a = s.at_ t → a.runs 12 = true → (a.sec.auditAt = 0 ∨ a.sec.auditAt - 1 + ofS 60 ≤ a.tim.now) →
    v = supp.foldl (fun s f => s.modLink f.1 fun r => fput Link.SUPP_CNT (fget Link.SUPP_CNT r ^^^ f.2) r)
      (flips.foldl (fun s f => s.setSect f.1 (fput ⟨64, 448⟩ (fget ⟨64, 448⟩ (s.sect f.1) ^^^ f.2) (s.sect f.1)))
        (a.onSec fun x => { x with auditAt := a.tim.now + 1 })) →
    Ends (exec (.sectorAudit t flips supp) s) (v.audit (tkeys v.sec.sect) (tkeys v.sec.link))) ∧
  (∀ t s a, a = s.at_ t → a.rb Reg.SEC_COMPACT_STAT.COMPACTING = true →
    Ends (exec (.edgeCompactionDone t) s) (((((((a.otherCauses none).map fun e => (e.1, a.effects e.1)).foldl
      (fun (p : Nat × State) e => (p.1 + e.2.length, p.2.putEdges e.1 p.1 e.2)) (0, a.onSec fun x => { x with edge := [] })).2).wf
        Reg.SEC_COMPACT_STAT.COMPACTING 0).edgeGauges))) ∧
  (∀ t e s a r v, a = s.at_ t → r = a.mir e → fbit Mir.VALID r = true → fbit Mir.LOST r = false →
    fget Mir.T_RX r + ofMs (a.rf Reg.SEC_MIRROR_TMO.TMO_MS) ≤ a.wt →
    v = (a.setMir e (fput Mir.LOST 1 r)).onSec (fun x => { x with lostAt := tset 0 x.lostAt e (a.tim.now + 1) }) →
    Ends (exec (.mirrorTimeout t e) s) ((v.bump Reg.SEC_MIRROR_LOST_CNT.COUNT).raise Ev.SEC_MIRROR_LOST (fget Mir.TAG r) [e, fget Mir.SLOT r])) ∧
  (∀ t e s a n v, a = s.at_ t → tget 0 a.sec.lostAt e ≠ 0 → fbit Mir.LOST (a.mir e) = true →
    tget 0 a.sec.lostAt e - 1 + ofS (a.rf Reg.SEC_MIRROR_HOLD.HOLD_S) ≤ a.tim.now → a.causeOf (memberKey true e) = some n →
    v = a.onSec (fun x => { x with lostAt := tset 0 x.lostAt e 0 }) →
    Ends (exec (.mirrorHoldExpire t e) s) (v.causeTake n false a.wt a.alm.seq)) ∧
  (∀ t n s a x, a = s.at_ t → a.fab.subs[n]? = some x → a.answersSub x = true → x.sent + ofMs 100 ≤ a.tim.now →
    Ends (exec (.mirrorRefreshSend t n) s) (a.mirrorSend x true false (fget Pt.LAST_SEQ (a.pt x.idx)) (match a.condOf x.idx x.slot with
      | some q => fget Cond.T_CHANGE (a.cond q)
      | none => 0))) ∧
  (∀ t s a e r tag at_ l, a = s.at_ t → a.sec.acks = (e, r, tag, at_) :: l → at_ + ofMs (a.rf Reg.SEC_MIRROR_TMO.TMO_MS) ≤ a.tim.now →
    Ends (exec (.mirrorAckTimeout t) s) ((a.onSec fun x => { x with acks := l }).finishCmd r tag 0x20 (Reply.of 8)))

/-- A command that its checks accept at its instant answers the next state given: CMW_CHANNEL, CMW_BAND, CMW_SPEED_REF, CMW_BIND, the
four operations of CMW_BASELINE, CMW_CAPTURE_DEF, CMW_CAPTURE_TRIG, CMW_CAPTURE_STOP and CMW_READ. -/
def Obligations.WaveformCommandsTakeEffect : Prop :=
  (∀ t c s i ch a, a = s.at_ t → ch = c.f 8 0 16 → Accepted t (specCmwChannel c) c s i → (fbit Chan.EN (chanNamed c) = false ∨ fbit Chan.EXPERT (chanNamed c) = true) →
    ∃ v : State, Completes (exec (.cmwChannel t c) s) i (Reply.with2 (fget Chan.RING_BASE (v.chan ch)) (fget Chan.RING_GRAN (v.chan ch))) v ∧
      v = (a.writeChan ch (chanNamed c)).dirtyHost) ∧
  (∀ t c s i ch a n b, a = s.at_ t → ch = c.f 8 0 16 → Accepted t (specCmwChannel c) c s i → fbit Chan.EN (chanNamed c) = true →
    fbit Chan.EXPERT (chanNamed c) = false → n = granOf (chanNamed c) (preMs a.cmw.defs ch) → a.ringFor ch n = some b →
    ∃ v : State, Completes (exec (.cmwChannel t c) s) i (Reply.with2 (fget Chan.RING_BASE (v.chan ch)) (fget Chan.RING_GRAN (v.chan ch))) v ∧
      v = (a.writeChan ch (fput Chan.RING_BASE b (fput Chan.RING_GRAN n (chanNamed c)))).dirtyHost) ∧
  (∀ t c s i a, a = s.at_ t → Accepted t (specCmwBand c) c s i → fbit Chan.EN (a.chan (c.f 8 0 16)) = false →
    ∃ v : State, Completes (exec (.cmwBand t c) s) i Reply.ok v.dirtyHost ∧ v.cmw.band = (List.range (c.f 0x10 8 7)).foldl (fun (m : Tab (Rec 16)) k =>
      tset 0 m (64 * c.f 8 0 16 + c.f 0x10 0 6 + k)
        (((List.range (c.f 0x10 8 7)).map fun k => (BitVec.ofNat 128 (c.inp >>> (128 * k)) : Rec 16)).getD k 0)) a.cmw.band) ∧
  (∀ t c s i a e, a = s.at_ t → e = BitVec.ofNat 128 (c.f 0x10 0 128) → Accepted t (specCmwSpeedRef c) c s i →
    ((a.refUsers (c.f 8 0 12)).any fun r => fget Spd.SRC e == 0 || !orderFits r (fget Spd.MAX_RPM e)) = false →
    ∃ v : State, Completes (exec (.cmwSpeedRef t c) s) i Reply.ok (v.cmwGauges).dirtyHost ∧ v.cmw.spd = tset 0 a.cmw.spd (c.f 8 0 12) e) ∧
  (∀ t c s i a e, a = s.at_ t → e = BitVec.ofNat 128 (c.f 0x10 0 128) → Accepted t (specCmwBind c) c s i →
    ∃ v : State, Completes (exec (.cmwBind t c) s) i Reply.ok v.dirtyHost ∧
      v.cmw.bnd = tset 0 a.cmw.bnd (c.f 8 0 20) (if fbit Bnd.VALID e then e else 0)) ∧
  (∀ t c s i a o (b : Rec 4096), a = s.at_ t → o = a.base (c.f 8 0 19) → b = BitVec.ofNat 32768 c.inp →
    Accepted t (specCmwBaseline c) c s i → c.f 0x0C 0 2 = 0 → Completes (exec (.cmwBaseline t c) s) i Reply.ok (a.setBase (c.f 8 0 19)
      (fput Base.HEAD (fget Base.HEAD b) (if fget Base.AXES o != fget Base.AXES b then fput Base.BINS 0 o else o))).dirtyHost) ∧
  (∀ t c s i a, a = s.at_ t → Accepted t (specCmwBaseline c) c s i → c.f 0x0C 0 2 = 1 →
    Completes (exec (.cmwBaseline t c) s) i Reply.ok (a.setBase (c.f 8 0 19) (BitVec.ofNat 32768 c.inp)).dirtyHost) ∧
  (∀ t c s i a, a = s.at_ t → Accepted t (specCmwBaseline c) c s i → c.f 0x0C 0 2 = 2 →
    Completes (exec (.cmwBaseline t c) s) i Reply.ok (a.setBase (c.f 8 0 19) (fput Base.BINS 0 (a.base (c.f 8 0 19))))) ∧
  (∀ t c s i a, a = s.at_ t → Accepted t (specCmwBaseline c) c s i → c.f 0x0C 0 2 = 3 →
    Completes (exec (.cmwBaseline t c) s) i Reply.ok (a.bufPut c 4096 (a.base (c.f 8 0 19)).toNat)) ∧
  (∀ t c s i a d r u, a = s.at_ t → d = c.f 8 0 10 → r = capNamed c (a.capDef d) → Accepted t (specCmwCaptureDef c) c s i →
    a.capture d = none → State.growRings (tset 0 a.cmw.defs d r) (capChs r).eraseDups a = (none, u) →
    Completes (exec (.cmwCaptureDef t c) s) i Reply.ok (u.setDef d r).dirtyHost) ∧
  (∀ t c s i a d, a = s.at_ t → d = c.f 8 0 10 → Accepted t (specCmwCaptureTrig c) c s i →
    ∃ (v : State) (x y : Nat), Completes (exec (.cmwCaptureTrig t c) s) i ⟨0, 0, fget Cap.CAP_COUNT (v.capDef d)⟩ v ∧
      v = State.capTrigger d a.wt (x % 2 ^ 32) (y % 2 ^ 32) a.fresh.2.fresh.2) ∧
  (∀ t c s i a, a = s.at_ t → Accepted t (specCmwCaptureStop c) c s i →
    Completes (exec (.cmwCaptureStop t c) s) i Reply.ok (((capChs (a.capDef (c.f 8 0 10))).foldl (fun s ch => s.capSync (c.f 8 0 10) ch) a).capEnd
      (c.f 8 0 10) 1 none)) ∧
  (∀ t c s i a r x, a = s.at_ t → r = a.chan (c.f 8 0 16) → Accepted t (specCmwRead c) c s i →
    x = (List.range (fget Chan.NBANDS r)).foldr (fun k v => (tget 0 a.cmw.band (64 * c.f 8 0 16 + k)).toNat + v * 2 ^ 128) 0 →
    Completes (exec (.cmwRead t c) s) i ⟨0, 0, fget Chan.NBANDS r⟩ (a.bufPut c (64 + 16 * fget Chan.NBANDS r) (r.toNat + x * 2 ^ 512)))

/-- The placing of a block, the features of a frame, a tacho pulse, the stop of a speed reference, the end of a capture and the
checkpoint of the baselines each answer the next state given. -/
def Obligations.WaveformRowsTakeEffect : Prop :=
  (∀ t s a b l, a = s.at_ t → a.cmw.inq = b :: l → a.ready 14 = true →
    ∃ v : State, Ends (exec (.cmwBlock t) s) (v.placeBlock b) ∧ v = a.onCmw fun w => { w with inq := l }) ∧
  (∀ t s a f l, a = s.at_ t → a.cmw.frames = f :: l → a.ready 14 = true →
    ∃ v : State, Ends (exec (.frameFeatures t) s) (v.frameFeatures f) ∧ v = a.onCmw fun w => { w with frames := l }) ∧
  (∀ t d s a w, a = s.at_ t → w = stamp20 (a.ioStamp a.wt) → d ≤ 47 → a.rf (Reg.LIO_DIO.MODE d) = 3 → (tget 0 a.cmw.pulseAt d = 0 ∨
    tget 0 a.cmw.pulseAt d - 1 + max (ofUs (10 * a.rf (Reg.LIO_DIO.DEB d))) (ofUs 20) ≤ w) → ∃ v : State,
      v = a.onCmw (fun c => { c with pulseAt := tset 0 c.pulseAt d (w + 1) }) ∧ Ends (exec (.tachPulse t d) s) (v.tachPulse d w)) ∧
  (∀ t ch s a c e, a = s.at_ t → c = a.chan ch → e = tget 0 a.cmw.spd (fget Chan.SPEED_REF c) → a.ready 14 = true →
    fbit Chan.EN c = true → fbit Chan.ORDER_EN c = true → fget Spd.SRC e = 1 → fbit Chan.STOPPED c = false →
    tget 0 a.cmw.pulseAt (fget Spd.DIO_CH e) - 1 + pulseLimit e ≤ a.wt → Ends (exec (.speedStopped t ch) s) (a.chanStop ch)) ∧
  (∀ t d s a x e l, a = s.at_ t → a.capture d = some x → x.tEnd = some e → e ≤ a.wt → l = capChs (a.capDef d) →
    (∀ ch, ch ∈ l → (a.chx ch).started = true → e < fget Chan.T_NEXT (a.chan ch)) →
    Ends (exec (.captureEnd t d) s) ((l.foldl (fun s ch => s.capSync d ch) a).capEnd d 0 none)) ∧
  (∀ t s a, a = s.at_ t → a.ready 14 = true → a.cmw.ckptAt + a.rf Reg.CMW_CTRL.CKPT_MIN * 60 * 2 ^ 32 ≤ a.wt →
    ∃ v : State, Ends (exec (.baselineCheckpoint t) s) v ∧ v.cmw.ckpt = a.cmw.base ∧ v.cmw.ckptAt = a.wt ∧ v.cmw.base = a.cmw.base)

/-- A command that its checks accept at its instant answers the next state given: CTL_LOOP_CONFIG, CTL_SUP_CONFIG, CTL_MODE with and
without an output value, CTL_MAN_OUT, CTL_SETPOINT, CTL_COMP_TABLE and CTL_SUP_RESET. -/
def Obligations.LoopCommandsTakeEffect : Prop :=
  (∀ t c s i l a g h, a = s.at_ t → l = loopNo c → g = loopGiven c.inp → Accepted t (specCtlLoopConfig c) c s i →
    h = Loop.seal (fput Loop.CFG_GEN (fget Loop.CFG_GEN (a.loopProj l).half + 1) (if fbit Loop.EXPERT g then g else deriveLaw g)) →
    Completes (exec (.ctlLoopConfig t c) s) i Reply.ok
      (((if fbit Loop.EN h then (a.disown l (some (fget Loop.OUT_IDX h))).setOwned (fget Loop.OUT_IDX h) (some l)
        else a.disown l none).loopTake l (.config h)).dirtyHost)) ∧
  (∀ t c s i l a, a = s.at_ t → l = loopNo c → Accepted t (specCtlSupConfig c) c s i →
    Completes (exec (.ctlSupConfig t c) s) i Reply.ok
      ((a.loopTake l (.sup (supDerive (fget Loop.PERIOD (a.loopProj l).half) (supGiven c.inp)))).dirtyHost)) ∧
  (∀ t c s i l a, a = s.at_ t → l = loopNo c → Accepted t (specCtlMode c) c s i → (c.f 0x10 0 3 ≠ mMan ∨ c.f 0x0C 0 1 ≠ 1) →
    Completes (exec (.ctlMode t c) s) i ⟨0, 0, a.loopMode l⟩ (a.loopTake l (.mode (c.f 0x10 0 3) none)).dirtyHost) ∧
  (∀ t c s i l a, a = s.at_ t → l = loopNo c → Accepted t (specCtlMode c) c s i → c.f 0x10 0 3 = mMan → c.f 0x0C 0 1 = 1 →
    Completes (exec (.ctlMode t c) s) i ⟨0, 0, a.loopMode l⟩
      (a.loopTake l (.mode mMan (some (ofInt 16 (manGiven (a.loopProj l).half (c.w 0x18)).1)))).dirtyHost) ∧
  (∀ t c s i l a, a = s.at_ t → l = loopNo c → Accepted t (specCtlManOut c) c s i → (a.loopProj l).mode = mMan →
    Completes (exec (.ctlManOut t c) s) i Reply.ok (a.loopTake l (.manOut (ofInt 16 (manGiven (a.loopProj l).half (c.w 0x18)).1)))) ∧
  (∀ t c s i l a, a = s.at_ t → l = loopNo c → Accepted t (specCtlSetpoint c) c s i →
    (fbit Loop.SP_TRACK (a.loopProj l).half = false ∨ closedMode (a.loopProj l).mode = true) →
    Completes (exec (.ctlSetpoint t c) s) i Reply.ok (a.loopTake l (.setpoint (c.w 0x18))).dirtyHost) ∧
  (∀ t c s i l a, a = s.at_ t → l = loopNo c → Accepted t (specCtlCompTable c) c s i →
    Completes (exec (.ctlCompTable t c) s) i Reply.ok ((a.loopTake l (.comp (BitVec.ofNat 4096 c.inp))).dirtyHost)) ∧
  (∀ t c s i l a, a = s.at_ t → l = loopNo c → Accepted t (specCtlSupReset c) c s i →
    Completes (exec (.ctlSupReset t c) s) i Reply.ok (a.loopTake l .supReset))

/-- The accepted commands CTL_TUNE_START, CTL_TUNE_STOP, CTL_TUNE_READ, CTL_LOOP_READ and CTL_LOOP_DELETE, the evaluation of the loop
that is due, the departure of a loop frame and the scrub of a loop with intact and with lost configuration each answer the next state
given. -/
def Obligations.LoopTuningAndReadsTakeEffect : Prop :=
  (∀ t c s i l a, a = s.at_ t → l = loopNo c → Accepted t (specCtlTuneStart c) c s i → (a.loopProj l).tuning = false →
    Completes (exec (.ctlTuneStart t c) s) i Reply.ok (a.loopTake l (.tuneStart (tuneGiven c)))) ∧
  (∀ t c s i l a, a = s.at_ t → l = loopNo c → Accepted t (specCtlTuneStop c) c s i →
    Completes (exec (.ctlTuneStop t c) s) i Reply.ok (a.loopTake l .tuneStop)) ∧
  (∀ t c s i l a n, a = s.at_ t → l = loopNo c → n = c.f 0x14 0 17 → Accepted t (specCtlTuneRead c) c s i →
    ∃ x, Completes (exec (.ctlTuneRead t c) s) i ⟨0, 0, fget Sup.TUNE_CNT (a.loop l)⟩ (a.bufPut c (64 + 16 * n) x) ∧
      x = (List.range n).foldl (fun (y : Nat) k =>
        y + (tget (0 : Rec 16) a.ctl.smp (l * 65536 + c.f 0x10 0 17 + k)).toNat * 2 ^ (512 + 128 * k)) (a.tuneHead l)) ∧
  (∀ t c s i l a, a = s.at_ t → l = loopNo c → Accepted t (specCtlLoopRead c) c s i →
    Completes (exec (.ctlLoopRead t c) s) i Reply.ok (a.bufPut c 1600 ((a.loop l).toNat + (tget 0 a.ctl.comp l).toNat * 2 ^ 4096 +
      (a.sup l).toNat * 2 ^ 8192 + (tget (0 : Rec 512) a.ctl.hist l).toNat * 2 ^ 8704))) ∧
  (∀ t c s i l a, a = s.at_ t → l = loopNo c → Accepted t (specCtlLoopDelete c) c s i → a.innerProj l = none →
    Completes (exec (.ctlLoopDelete t c) s) i Reply.ok (((a.loopTake l .delete).disown l none).dirtyHost)) ∧
  (∀ t l s a cyc, a = s.at_ t → a.evalNext = some (cyc, l) → a.ready 15 = true → cyc ≤ cycOf a.wt → ∃ v : State,
    Ends (exec (.loopEvaluate t l 0) s) (v.loopEval l cyc ((v.loopX l).next - 1)) ∧
      v.ctl.started = tset 0 a.ctl.started (l / 256) (cyc + 1)) ∧
  (∀ t p s a u, a = s.at_ t → a.portUp p = true → (a.port p).busy ≤ a.tim.now → a.departLoop p = some u →
    Ends (exec (.loopFrameDepart t p) s) u) ∧
  (∀ t l fl fs img s a u v, a = s.at_ t → u = (if fs % 2 ^ 512 == 0 then a else a.setSup l (a.sup l ^^^ BitVec.ofNat 512 fs)) →
    u.scrubDue (tget 0 u.ctl.scrubAt l) = true → v = u.onCtl (fun c => { c with scrubAt := tset 0 c.scrubAt l (u.tim.now + 1) }) →
    Ends (exec (.loopConfigScrub t l fl fs img) s) ((v.scrubHalf l fl img).scrubSup l img)) ∧
  (∀ (l fl : Nat) (v : State) (h : Rec 256), h = v.half l ^^^ BitVec.ofNat 2048 fl →
    (∀ img, Loop.intact h = true → v.scrubHalf l fl img = v.modLoop l (fput Loop.HALF h.toNat)) ∧
    (Loop.intact h = false → v.scrubHalf l fl false = ((((v.bump Reg.CTL_CFG_CRC_CNT.COUNT).twinEvent l 18 (fget Loop.LCTRL_N h)
      (fget Loop.LCTRL h)).modLoop l (fput Loop.HALF h.toNat)).modLoopX l fun x => { x with lost := true })) ∧
    ∀ img, Sup.intact (v.sup l) = true → v.scrubSup l img = v)

/-- A command that its checks accept at its instant answers the next state given: BCN_TABLE_WRITE, BCN_TABLE_READ, BCN_ACCEPT of one key
and of all, BCN_DM, BCN_UMS and BCN_HOST_CALL. -/
def Obligations.BeaconCommandsTakeEffect : Prop :=
  (∀ t c s i, Accepted t (specBcnTableWrite c) c s i → ∃ v : State,
    Completes (exec (.bcnTableWrite t c) s) i Reply.ok (v.dirtyHost).bcnSettle ∧
    v = (bcnWords c).foldl (fun s x =>
      s.wrSoft x.1 (if c.f 8 0 4 == 4 && x.1 % 8 == 4 then 0xFFFFFF7F else 0xFFFFFFFF) (c.bw x.2)) (s.at_ t)) ∧
  (∀ t c s i, Accepted t (specBcnTableRead c) c s i → ∃ v : State, v = (s.at_ t).dmRemain ∧
    Completes (exec (.bcnTableRead t c) s) i Reply.ok (v.bufPut c (c.f 0x10 0 16 * (bcnTable (c.f 8 0 4)).2.2)
      (ofWordsLE ((bcnWords c).map fun x => v.rd x.1)))) ∧
  (∀ t c s i n v, Accepted t (specBcnAccept c) c s i → c.f 8 16 1 = 0 → (s.at_ t).acceptKey (c.f 8 0 11) 65 = (n, v) →
    Completes (exec (.bcnAccept t c) s) i ⟨0, 0, n⟩ v) ∧
  (∀ t c s i n v, Accepted t (specBcnAccept c) c s i → c.f 8 16 1 = 1 → (s.at_ t).acceptAll 65 = (n, v) →
    Completes (exec (.bcnAccept t c) s) i ⟨0, 0, n⟩ v) ∧
  (∀ t c s i v, Accepted t (specBcnDm c) c s i → (s.at_ t).dmInput (c.f 8 0 3) (c.f 8 8 2) = (false, v) →
    Completes (exec (.bcnDm t c) s) i ⟨0, 0, v.bcnSettle.rf (Reg.BCN_DM.STATE (c.f 8 0 3))⟩ v.bcnSettle) ∧
  (∀ t c s i, Accepted t (specBcnUms c) c s i →
    Completes (exec (.bcnUms t c) s) i Reply.ok ((s.at_ t).wf (Reg.BCN_RULE.UMS (c.f 8 0 8)) (c.f 8 8 1)).dirtyHost) ∧
  (∀ t c s i b v, Accepted t (specBcnHostCall c) c s i → (s.at_ t).bcnRequest (1288 + c.f 8 0 5) (c.f 8 0 5) = (b, v) →
    Completes (exec (.bcnHostCall t c) s) i (Reply.with2 (1288 + c.f 8 0 5) (b2n b)) v.bcnSettle)

/-- The stage timer (below and at the last stage), the attendance timer, the dead-man timer (pre-warning and alarm), the status and
events of stations, the loss of a station and the repetition of a call each answer the next state given. -/
def Obligations.BeaconRowsTakeEffect : Prop :=
  (∀ t key s a q, a = s.at_ t → a.seqDue key false = some q → q.last ≤ q.stage →
    Ends (exec (.stageTimerExpire t key) s) ((a.escalate q).raise Ev.BCN_STAGE key [q.stage]).bcnSettle) ∧
  (∀ t key s a q, a = s.at_ t → a.seqDue key false = some q → q.stage < q.last →
    Ends (exec (.stageTimerExpire t key) s) (a.escalate q).bcnSettle) ∧
  (∀ t key s a q, a = s.at_ t → a.seqDue key true = some q →
    Ends (exec (.attendTimerExpire t key) s) ((a.escalate q).bump Reg.BCN_ATTEND_EXP_CNT.COUNT).bcnSettle) ∧
  (∀ t u s a, a = s.at_ t → u < 8 → tget 0 a.bcn.dmDue u ≠ 0 → tget 0 a.bcn.dmDue u < a.clock → a.rf (Reg.BCN_DM.STATE u) = 1 →
    ∃ v : State, v = a.wf (Reg.BCN_DM.STATE u) 2 ∧ Ends (exec (.deadmanTimerExpire t u) s)
      ((v.dmTimer u (a.rf (Reg.BCN_DM.PREWARN_S u))).raise Ev.BCN_DM_PREWARN u [a.rf (Reg.BCN_DM.PREWARN_S u)]).bcnSettle) ∧
  (∀ t u s a, a = s.at_ t → u < 8 → tget 0 a.bcn.dmDue u ≠ 0 → tget 0 a.bcn.dmDue u < a.clock → a.rf (Reg.BCN_DM.STATE u) = 2 →
    ∃ v w : State, w = (a.wf (Reg.BCN_DM.REMAIN_S u) 0).onBcn (fun b => { b with dmDue := tset 0 b.dmDue u 0 }) ∧
      v = ((w.wf (Reg.BCN_DM.STATE u) 3).bump Reg.BCN_DM_ALARM_CNT.COUNT).raise Ev.BCN_DM_ALARM u [1280 + u] ∧
      Ends (exec (.deadmanTimerExpire t u) s) (v.bcnRequest (1280 + u) (v.rf (Reg.BCN_DM.TEMPLATE u))).2.bcnSettle) ∧
  (∀ t node fault s, s.pwr.mainUp = true → Ends (exec (.bcnStatus t node fault) s) ((s.at_ t).stationStatus node fault)) ∧
  (∀ t node evt key n s, s.pwr.mainUp = true → Ends (exec (.bcnStationEvt t node evt key n) s) ((s.at_ t).stationEvent node evt key n)) ∧
  (∀ t n s a, a = s.at_ t → n < 64 → a.stationLost n = false → tget 0 a.bcn.heard n + ofS 3 ≤ a.tim.now + 1 →
    Ends (exec (.stationLostTimeout t n) s) (a.stationLose n)) ∧
  (∀ t station key s a x v, a = s.at_ t → a.bcn.calls.find? (fun (x : BCall) => x.station == station && x.key == key) = some x →
    x.sent + ofS 1 ≤ a.tim.now → x.left = none → v = a.onBcn (fun b => { b with
      calls := (a.bcn.calls.filter fun (y : BCall) => !(y.station == station && y.key == key)) ++ [{ x with sent := a.tim.now }] }) →
    Ends (exec (.bcnCallRepeat t station key) s) (v.callSend station x.payload)) ∧
  (∀ t station key s a x v k, a = s.at_ t → a.bcn.calls.find? (fun (x : BCall) => x.station == station && x.key == key) = some x →
    x.sent + ofS 1 ≤ a.tim.now → x.left = some k → 1 < k → v = a.onBcn (fun b => { b with
      calls := (a.bcn.calls.filter fun (y : BCall) => !(y.station == station && y.key == key)) ++
        [{ x with sent := a.tim.now, left := some (k - 1) }] }) →
    Ends (exec (.bcnCallRepeat t station key) s) (v.callSend station x.payload)) ∧
  (∀ t station key s a x v k, a = s.at_ t → a.bcn.calls.find? (fun (x : BCall) => x.station == station && x.key == key) = some x →
    x.sent + ofS 1 ≤ a.tim.now → x.left = some k → k ≤ 1 → v = a.onBcn (fun b => { b with
      calls := (a.bcn.calls.filter fun (y : BCall) => !(y.station == station && y.key == key)) ++ [] }) →
    Ends (exec (.bcnCallRepeat t station key) s) (v.callSend station x.payload))

/-- A command that its checks accept at its instant answers the next state given: LDG_BINSET, LDG_VIEW (given, taken away, held by
another function), LDG_FLUSH (with nothing buffered, with records that the drives are given and with none), LDG_SNAPSHOT without and with
a view, LDG_TRIP_ARM (also while triggered), LDG_TRIP_STOP, LDG_TRIP_TRIGGER and LDG_TRIP_READ. -/
def Obligations.LedgerCommandsTakeEffect : Prop :=
  (∀ t c s i a b, a = s.at_ t → b = BitVec.ofNat 512 (c.inp % 2 ^ 512) &&& ~~~ (BitVec.ofNat 512 0xFFFFFFE0) → Accepted t (specLdgBinset c) c s i →
    Completes (exec (.ldgBinset t c) s) i Reply.ok (((List.range 3).foldl (fun v tier => v.onLdg fun l => { l with
      binOld := tset none l.binOld (c.f 8 0 16 * 3 + tier) (v.untilNext tier (a.binSet (c.f 8 0 16))
        (tget none l.binOld (c.f 8 0 16 * 3 + tier))) }) a).onLdg fun l => { l with binSets := tset 0 l.binSets (c.f 8 0 16) b })) ∧
  (∀ t c s i a, a = s.at_ t → Accepted t (specLdgView c) c s i →
    (a.ldg.view = none ∨ a.fnOf c = 0 ∨ ∃ x, a.ldg.view = some (a.fnOf c, x)) → c.d 0x10 = 0 →
    Completes (exec (.ldgView t c) s) i Reply.ok (a.onLdg fun l => { l with view := none, viewDue := [] })) ∧
  (∀ t c s i a w x, a = s.at_ t → Accepted t (specLdgView c) c s i → a.ldg.view = some (w, x) → w ≠ a.fnOf c → a.fnOf c ≠ 0 →
    Completes (exec (.ldgView t c) s) i (Reply.of 6) a) ∧
  (∀ t c s i a pins u, a = s.at_ t → Accepted t (specLdgView c) c s i →
    (a.ldg.view = none ∨ a.fnOf c = 0 ∨ ∃ x, a.ldg.view = some (a.fnOf c, x)) → c.d 0x10 ≠ 0 →
    pins = (List.range (min (c.f 8 0 13) 4096)).map (fun k => c.bw (4 * k)) →
    u = a.onLdg (fun l => { l with view := some (a.fnOf c, c.d 0x10, pins), viewGen := [], viewAt := [], viewDue := [] }) →
    Completes (exec (.ldgView t c) s) i Reply.ok (pins.foldl (fun s i => s.livePut i) ((List.range 1024).foldl (fun s k =>
      s.viewPut k (64 * k) 64 56 (tallyBlock k (tget ⟨0, 0, 0, 0⟩ s.ldg.tally k))) u))) ∧
  (∀ t c s i, Accepted t (specLdgFlush c) c s i → s.ldg.buf = [] → Completes (exec (.ldgFlush t c) s) i Reply.ok (s.at_ t)) ∧
  (∀ t c s i a v, a = s.at_ t → Accepted t (specLdgFlush c) c s i → a.ldg.buf ≠ [] → v = a.ledgerFlush →
    (v.volClosing && !v.ldg.buf.isEmpty) = false → (v.hst.nv.any fun d => d.flush == a.ldg.flushNo + 1) = false →
    Completes (exec (.ldgFlush t c) s) i Reply.ok v) ∧
  (∀ t c s i a v, a = s.at_ t → Accepted t (specLdgFlush c) c s i → a.ldg.buf ≠ [] → v = a.ledgerFlush →
    (v.volClosing && !v.ldg.buf.isEmpty) = false → (v.hst.nv.any fun d => d.flush == a.ldg.flushNo + 1) = true →
    StaysInFlight (exec (.ldgFlush t c) s) i (v.onLdg fun l => { l with flushCmds := l.flushCmds ++ [(a.ldg.flushNo, c.ring, c.tag)] })) ∧
  (∀ t c s i a, a = s.at_ t → Accepted t (specLdgSnapshot c) c s i → a.ldg.view = none →
    Completes (exec (.ldgSnapshot t c) s) i ⟨0, 0, a.wt + (a.alm.seq % 2 ^ 32) * 2 ^ 64⟩ (a.bufPut c 65536 a.snapTallies)) ∧
  (∀ t c s i a x pins v w, a = s.at_ t → Accepted t (specLdgSnapshot c) c s i → a.ldg.view = some (x, pins) →
    (v, w) = a.snapLive pins.2 a.snapTallies →
    Completes (exec (.ldgSnapshot t c) s) i ⟨0, 0, w.wt + (w.alm.seq % 2 ^ 32) * 2 ^ 64⟩ (w.bufPut c (65536 + 128 * pins.2.length) v)) ∧
  (∀ t c s i a, a = s.at_ t → Accepted t (specLdgTripArm c) c s i → a.rf Reg.LDG_TRIP_STAT.STATE ≠ 2 →
    Completes (exec (.ldgTripArm t c) s) i Reply.ok (((a.onLdg fun l => { l with
      tripKind := c.f 8 0 2, tripMask := c.f 8 8 5, tripTag := c.d 0x10, tripSlot := if c.f 8 0 2 == 1 then c.f 0x18 0 16 else c.f 0x18 0 4
      tripT := 0, tripRecs := [], tripPos := 0 }).wf Reg.LDG_TRIP_STAT.STATE 1).wf Reg.LDG_TRIP_STAT.USED_MIB 0)) ∧
  (∀ t c s i a, a = s.at_ t → Accepted t (specLdgTripArm c) c s i → a.rf Reg.LDG_TRIP_STAT.STATE = 2 →
    Completes (exec (.ldgTripArm t c) s) i (Reply.of 6) a) ∧
  (∀ t c s i, Accepted t (specLdgTripStop c) c s i →
    Completes (exec (.ldgTripStop t c) s) i Reply.ok ((s.at_ t).wf Reg.LDG_TRIP_STAT.STATE 4)) ∧
  (∀ t c s i a, a = s.at_ t → Accepted t (specLdgTripTrigger c) c s i →
    Completes (exec (.ldgTripTrigger t c) s) i ⟨0, 0, a.wt⟩ (a.tripTrigger a.wt)) ∧
  (∀ t c s i a n, a = s.at_ t → n = recBytes a.ldg.tripRecs → Accepted t (specLdgTripRead c) c s i →
    Completes (exec (.ldgTripRead t c) s) i ⟨0, 0, a.rf Reg.LDG_TRIP_STAT.STATE + n * 2 ^ 32 + a.ldg.tripT * 2 ^ 64⟩
      (a.bufPut c (min c.bufLen (n - c.w 0x10)) (tripBytes a.ldg.tripRecs >>> (8 * c.w 0x10))))

/-- The boundaries of the history in normal and in Lightship operation, the flush by age, the pass of the Lightship's records with the
main domain up and down, and the replay of the spool each answer the next state given. -/
def Obligations.LedgerRowsTakeEffect : Prop :=
  (∀ t s a, a = s.at_ t → a.pwr.mainUp = true → a.pwr.failing = false → a.rb Reg.PWR_LSHIP_STAT.LSHIP_OP = false →
    Ends (exec (.histBoundary t) s) (a.histBoundaries false)) ∧
  (∀ t s a, a = s.at_ t → a.pwr.mainUp = false → a.rb Reg.PWR_LSHIP_STAT.LSHIP_OP = true →
    Ends (exec (.histBoundary t) s) (a.keep (State.histBoundaries true))) ∧
  (∀ t s a, a = s.at_ t → a.pwr.mainUp = true → a.pwr.failing = false → a.rb Reg.PWR_LSHIP_STAT.LSHIP_OP = true →
    Ends (exec (.histBoundary t) s) ((a.histBoundaries false).keep (State.histBoundaries true))) ∧
  (∀ t s a r l, a = s.at_ t → a.ldg.buf = r :: l → a.pwr.mainUp = true → a.pwr.failing = false →
    r.tIn + ofMs (a.rf Reg.LDG_FLUSH_AGE.AGE_MS) ≤ a.wt → Ends (exec (.ledgerAgeFlush t) s) a.ledgerFlush) ∧
  (∀ t s a, a = s.at_ t → a.pwr.lshipUp = true → a.pwr.mainUp = true → a.ldg.passAt + ofMs 10 ≤ a.tim.now → a.ldg.lbuf = [] →
    ∃ v : State, Ends (exec (.lshipLedgerPass t) s) v ∧ v.ldg.lbuf = [] ∧ v.ldg.passAt = a.tim.now ∧ v.ldg.buf = a.ldg.buf) ∧
  (∀ t s a l, a = s.at_ t → a.pwr.lshipUp = true → a.pwr.mainUp = true → a.ldg.passAt + ofMs 10 ≤ a.tim.now → a.ldg.lbuf = l →
    ∃ (u v : State) (ev : EvList), u = a.onLdg (fun x => { x with lbuf := [], passAt := a.tim.now }) ∧
      l.foldl (fun (p : State × EvList) r => ((p.1.bufTake r).1, p.2 ++ (p.1.bufTake r).2)) (u, []) = (v, ev) ∧
      Ends (exec (.lshipLedgerPass t) s) (ev.foldl (fun s e => s.raise e.1 e.2.1 e.2.2) v)) ∧
  (∀ t s a, a = s.at_ t → a.pwr.lshipUp = true → a.pwr.mainUp = false → a.ldg.passAt + ofS 10 ≤ a.tim.now →
    Ends (exec (.lshipLedgerPass t) s) (a.lshipFlush.onLdg fun l => { l with passAt := a.tim.now })) ∧
  (∀ t s a n u rest all v, a = s.at_ t → a.ldg.spool ≠ [] → a.pwr.mainUp = true → a.pwr.failing = false → a.ledgerVol = some n →
    all = withSlots a.ldg.pos (a.ldg.spool.map fun r => { r with replay := true }) → a.volFlush n 0 all = (u, rest) →
      v = u.onLdg (fun l => { l with spool := rest.map Prod.fst, pos := l.pos + (all.length - rest.length) }) →
      Ends (exec (.spoolReplay t) s) ((((v.wf Reg.LDG_SPOOL_USED.KIB (recBytes v.ldg.spool / 1024)).wf Reg.LDG_STAT.REPLAYING
        (b2n (!rest.isEmpty))).wf Reg.LDG_STAT.SPOOLING 0).wf Reg.LDG_STAT.NO_VOLUME 0))

/-- A command that its checks accept at its instant answers the next state given: HST_VOL_CREATE, HST_VOL_ERASE (free and in use),
HST_VOL_DELETE, HST_REMOUNT (to mount and mounted already), HST_LEG_REPLACE (with and without a segment open) and HST_READ (with and
without a leg that answers). -/
def Obligations.HistorianCommandsTakeEffect : Prop :=
  (∀ t c s i a n u, a = s.at_ t → n = c.f 8 0 10 → Accepted t (specHstVolCreate c) c s i →
    u = (((((a.wf (Reg.HST_VOL.STATE n) 1).wf (Reg.HST_VOL.MIRROR n) (c.f 8 16 1)).wf (Reg.HST_VOL.LEDGER n) (c.f 8 17 1)).wf
      (Reg.HST_VOL.CAPTURE n) (c.f 8 18 1)).wf (Reg.HST_VOL.SEG_COUNT n) (c.w 0xC)).wf (Reg.HST_VOL.VOL_GEN n) 1 →
    Completes (exec (.hstVolCreate t c) s) i Reply.ok ((((u.setVol n (some ⟨legNamed c 0x10, if c.f 8 16 1 == 1 then legNamed c 0x20 else
      ⟨0, 0, 0, false⟩, 0, false, false, 0, 0, 0, 0, 0, 0, 0, 0, 0, 0, false, 0, 0, 0⟩)).deallocate n).hstGauges).dirtyHost)) ∧
  (∀ t c s i n a u, a = s.at_ t → n = c.f 8 0 10 → Accepted t (specHstVolErase c) c s i → a.volInUse n = false →
    u = ((((a.wf (Reg.HST_VOL.STATE n) 1).wf (Reg.HST_VOL.VOL_GEN n) (a.rf (Reg.HST_VOL.VOL_GEN n) + 1)).nvDrop
      fun d => d.vol == n && d.kind.ordered).modVol n fun x =>
        { x with segOpen := false, closing := false, body := 0, fill := 0, seg := 0, mounted := false }) →
    StaysInFlight (exec (.hstVolErase t c) s) i (((u.deallocate n).onHst fun h => { h with erases := h.erases ++ [(n, c.ring, c.tag)] }).dirtyHost)) ∧
  (∀ t c s i n a, a = s.at_ t → n = c.f 8 0 10 → Accepted t (specHstVolErase c) c s i → a.volInUse n = true →
    Completes (exec (.hstVolErase t c) s) i (Reply.of 6) a) ∧
  (∀ t c s i n a u, a = s.at_ t → n = c.f 8 0 10 → Accepted t (specHstVolDelete c) c s i → a.rf (Reg.HST_VOL.STATE n) ≠ 1 →
    a.volInUse n = false → ((List.range 16).any fun k => a.rb (Reg.LDG_ROT.VALID k) && a.rf (Reg.LDG_ROT.VOLUME k) == n) = false →
    (a.cmw.defs.any fun e => fbit Cap.VALID e.2 && fget Cap.VOLUME e.2 == n) = false → u = a.nvDrop (fun d => d.vol == n && d.kind.ordered) →
    ∃ v : State, v = ((((u.wr (Reg.HST_VOL.STATE n).off 0#32).wr ((Reg.HST_VOL.STATE n).off + 4) 0#32).wr ((Reg.HST_VOL.STATE n).off + 8)
        0#32).wr ((Reg.HST_VOL.STATE n).off + 12) 0#32).setVol n none ∧
      Completes (exec (.hstVolDelete t c) s) i Reply.ok
        ((((v.onHst fun h => { h with ptrs := tset 0 h.ptrs n 0 }).hstGauges).remounted n false).dirtyHost)) ∧
  (∀ t c s i a l m, a = s.at_ t → Accepted t (specHstRemount c) c s i → a.hst.remount = none →
    l = (if c.f 8 16 1 == 1 then tkeys a.hst.vols else [c.f 8 0 10]) → m = l.filter (fun v => !a.mounted v && a.mountable v) → m ≠ [] →
    StaysInFlight (exec (.hstRemount t c) s) i
      (a.onHst fun h => { h with remount := some (m, (l.filter fun v => a.mounted v).length, c.ring, c.tag) })) ∧
  (∀ t c s i a l, a = s.at_ t → Accepted t (specHstRemount c) c s i → a.hst.remount = none →
    l = (if c.f 8 16 1 == 1 then tkeys a.hst.vols else [c.f 8 0 10]) → l.filter (fun v => !a.mounted v && a.mountable v) = [] →
    Completes (exec (.hstRemount t c) s) i (Reply.with2 (l.filter fun v => a.mounted v).length 0) a) ∧
  (∀ t c s i a n u, a = s.at_ t → n = c.f 8 0 10 → Accepted t (specHstLegReplace c) c s i →
    u = (a.modVol n fun x => { (if c.f 8 16 1 == 0 then { x with leg0 := legNamed c 0x10, syncLeg := 1 }
      else { x with leg1 := legNamed c 0x10, syncLeg := 2 }) with syncNext := 0, syncEnd := a.rf (Reg.HST_VOL.WRITE_PTR n) }).wf
        (Reg.HST_VOL.SYNCING n) 1 →
    ((u.vol n = none ∨ ∃ x, u.vol n = some x ∧ x.segOpen = false) →
      Completes (exec (.hstLegReplace t c) s) i Reply.ok ((u.copyStep n).dirtyHost)) ∧
    (∀ x l, u.vol n = some x → x.segOpen = true → l = legNamed c 0x10 → Completes (exec (.hstLegReplace t c) s) i Reply.ok (((u.nvAdd
      ⟨.write, l.ctrlr, l.nsid, n, c.f 8 16 1, x.seg, l.slba + x.seg * 256, (x.fill + 4095) / 4096, x.body, 0, 0, 0, 0⟩).copyStep n).dirtyHost))) ∧
  (∀ t c s i a n l, a = s.at_ t → n = c.f 8 0 10 → Accepted t (specHstRead c) c s i →
    l = (a.volLegs n).filter (fun p => a.ctrlrUp p.2.ctrlr) → l ≠ [] → StaysInFlight (exec (.hstRead t c) s) i (l.foldl (fun v p =>
      v.nvAdd ⟨.read, p.2.ctrlr, p.2.nsid, n, p.1, c.w 0xC, p.2.slba + c.w 0xC * 256, 256, 0, 0, c.ring, c.tag, 0⟩) a)) ∧
  (∀ t c s i a n, a = s.at_ t → n = c.f 8 0 10 → Accepted t (specHstRead c) c s i →
    (a.volLegs n).filter (fun p => a.ctrlrUp p.2.ctrlr) = [] → Completes (exec (.hstRead t c) s) i (Reply.of 1) a)

/-- A completion of a drive with an error, of a read, of a flush write and of a trailer, a timeout, the arrival of a known controller,
the mounting of a volume, the end of a deallocation and of a leg's synchronisation, and the loss of a controller's path each answer the
next state given. -/
def Obligations.HistorianRowsTakeEffect : Prop :=
  (∀ t k seg s a c, a = s.at_ t → a.nvAt k = some c → Ends (exec (.nvmeCompletion t k false seg) s)
    ((a.bump Reg.HST_IO_ERR_CNT.COUNT).nvFailed k c)) ∧
  (∀ t k seg s a c, a = s.at_ t → a.nvAt k = some c → c.kind = .read → Ends (exec (.nvmeCompletion t k true seg) s)
    ((a.nvDone k).readEnd c (some (seg % 2 ^ (8 * 2 ^ 20))))) ∧
  (∀ t k seg s a c, a = s.at_ t → a.nvAt k = some c → (c.kind = .write ∨ c.kind = .flush) → Ends (exec (.nvmeCompletion t k true seg) s)
    (if c.flush == 0 then a.nvDone k else (a.nvDone k).flushWritten (c.flush - 1))) ∧
  (∀ t k seg s a c, a = s.at_ t → a.nvAt k = some c → c.kind = .trailer →
    Ends (exec (.nvmeCompletion t k true seg) s) ((a.nvDone k).trailerDone c)) ∧
  (∀ t k seg s a c, a = s.at_ t → a.nvAt k = some c → c.kind = .copyRead →
    Ends (exec (.nvmeCompletion t k true seg) s) ((a.nvDone k).copyPut c (seg % 2 ^ (8 * 2 ^ 20)))) ∧
  (∀ t k seg s a c, a = s.at_ t → a.nvAt k = some c → c.kind = .copyWrite → Ends (exec (.nvmeCompletion t k true seg) s)
    (((a.nvDone k).modVol c.vol fun x => { x with syncNext := c.seg + 1 }).copyStep c.vol)) ∧
  (∀ t k seg s a c u, a = s.at_ t → a.nvAt k = some c → c.kind = .dealloc → u = a.nvDone k →
    (u.hst.nv.any fun d => d.kind == .dealloc && d.vol == c.vol) = false →
    Ends (exec (.nvmeCompletion t k true seg) s) (u.deallocated c.vol)) ∧
  (∀ t k bad s a c u v, a = s.at_ t → a.nvAt k = some c → c.t - 1 + ofS 5 ≤ a.tim.now →
    u = (a.bump Reg.HST_TIMEOUT_CNT.COUNT).nvFailed k c →
    v = (if u.ctrlrUp c.ctrlr then u.nvAdd ⟨.abort, c.ctrlr, 0, 1024, 0, 0, 0, 0, 0, 0, 0, 0, 0⟩ else u) →
    Ends (exec (.nvmeTimeout t k bad) s) (if bad then v.ctrlrFail c.ctrlr else v)) ∧
  (∀ t serial port bdf vwc s a n u v, a = s.at_ t → a.pwr.mainUp = true → (a.hst.bound.find? fun p => p.2 == serial) = some (n, serial) →
    a.ctrlrUp n = false → u = a.onHst (fun h => { h with nsBlocks := h.nsBlocks.filter fun e => e.1 / 2 ^ 32 != n }) →
    v = (((((u.wf (Reg.HST_CTRLR.PRESENT n) 1).wf (Reg.HST_CTRLR.PORT n) port).wf (Reg.HST_CTRLR.VWC n) (b2n vwc)).wf
      (Reg.HST_CTRLR.FAILED n) 0).wf (Reg.HST_CTRLR.BDF n) bdf) →
    Ends (exec (.controllerArrival t serial port bdf vwc []) s) (((v.bump Reg.HST_NS_REJECT_CNT.COUNT 0).hstGauges).eraseAgain n)) ∧
  (∀ t n segs s a, a = s.at_ t → a.pwr.mainUp = true → a.mountable n = true → a.mounted n = false → a.rf (Reg.HST_VOL.STATE n) ≠ 4 →
    Ends (exec (.volumeMount t n segs) s) (a.mountVol n segs).hstReady) ∧
  (∀ t n s a, a = s.at_ t → a.pwr.mainUp = true → a.rf (Reg.HST_VOL.STATE n) = 1 →
    Ends (exec (.deallocationComplete t n) s) ((a.nvDrop fun c => c.vol == n && c.kind == .dealloc).deallocated n)) ∧
  (∀ t n s a, a = s.at_ t → a.pwr.mainUp = true → a.rb (Reg.HST_VOL.SYNCING n) = true → (∀ x, a.vol n = some x → x.syncEnd ≤ x.syncNext) →
    Ends (exec (.legSyncComplete t n) s)
      (((a.wf (Reg.HST_VOL.SYNCING n) 0).wf (Reg.HST_VOL.DEGRADED n) 0).modVol n fun x => { x with syncLeg := 0 })) ∧
  (∀ t n s a, a = s.at_ t → a.pwr.mainUp = true → a.rb (Reg.HST_CTRLR.PRESENT n) = true →
    Ends (exec (.controllerPathLinkDown t n) s) ((a.ctrlrFail n).wf (Reg.HST_CTRLR.PRESENT n) 0).hstGauges)

/-- A command that its checks accept at its instant answers the next state given: LTN_TILE with the tile as given, LTN_FRAME_WRITE with
its lines (BUSY for the buffer shown or in tile mode), LTN_SHOW for tile mode and for a frame. -/
def Obligations.LanternCommandsTakeEffect : Prop :=
  (∀ t c s i a n u v, a = s.at_ t → n = c.f 8 0 8 → Accepted t (specLtnTile c) c s i →
    u = (a.wf (Reg.LTN_TILE.SECTOR n) (c.f 0xC 0 16)).wf (Reg.LTN_TILE.VALID n) (c.f 8 8 1) →
    v = (((u.wf (Reg.LTN_TILE.X n) (c.f 0x10 0 11)).wf (Reg.LTN_TILE.Y n) (c.f 0x10 16 10)).wf (Reg.LTN_TILE.W n) (c.f 0x14 0 11)).wf
      (Reg.LTN_TILE.H n) (c.f 0x14 16 10) →
    Completes (exec (.ltnTile t c) s) i Reply.ok (v.onLtn fun l => { l with labels := tset 0 l.labels n (c.f 0x18 0 192) }).dirtyHost) ∧
  (∀ t c s i a, a = s.at_ t → Accepted t (specLtnFrameWrite c) c s i → (a.rb Reg.LTN_STAT.MODE || a.rf Reg.LTN_STAT.FB_SHOWN == c.f 8 0 1) = true →
    Completes (exec (.ltnFrameWrite t c) s) i (Reply.of 6) a) ∧
  (∀ t c s i a, a = s.at_ t → Accepted t (specLtnFrameWrite c) c s i → a.rb Reg.LTN_STAT.MODE = false →
    a.rf Reg.LTN_STAT.FB_SHOWN ≠ c.f 8 0 1 → ∃ b, Completes (exec (.ltnFrameWrite t c) s) i Reply.ok (a.setFb (c.f 8 0 1) b) ∧
      b = (List.range (c.f 0xC 0 10)).foldl (fun b k =>
        tset 0 b (c.f 8 16 10 + k) ((c.inp >>> (3 * a.ltnWidth * k)) % 2 ^ (3 * a.ltnWidth))) (a.fb (c.f 8 0 1))) ∧
  (∀ t c s i a w, a = s.at_ t → Accepted t (specLtnShow c) c s i →
    w = (if a.rf Reg.LTN_STAT.MODE = c.f 8 8 2 then a.wf Reg.LTN_STAT.MODE (c.f 8 8 2)
      else ((a.wf Reg.LTN_STAT.MODE (c.f 8 8 2)).modeEvent 0).dirtyHost) →
    (c.f 8 8 2 = 1 → Completes (exec (.ltnShow t c) s) i Reply.ok w.composeAsk) ∧
    (c.f 8 8 2 = 0 → ∃ u v : State, u = w.setCrc (c.f 8 0 1) (c.w 0x10) ∧ v = u.onLtn (fun l => { l with
        drawing := none, again := false, swap := false, marks := [], copyDue := w.tim.now + 1 }) ∧
      Completes (exec (.ltnShow t c) s) i Reply.ok (if v.rf Reg.LTN_STAT.FB_SHOWN == c.f 8 0 1 then v else v.swapAsk [])))

/-- The end of a composition, a phase edge of a light character, the check of a sweep (intact and not), a line sent, the ends of the
panel's start and stop, a bias fault and the pump's restart, the retained copy of a frame and the panel's temperature each answer the
next state given. -/
def Obligations.LanternRowsTakeEffect : Prop :=
  (∀ t s a ds u v, a = s.at_ t → a.ltn.drawing = some ds → u = (a.drawInto (1 - a.rf Reg.LTN_STAT.FB_SHOWN) ds).swapAsk ds →
    v = u.onLtn (fun l => { l with drawing := none, retTiles := ds.foldl (fun m d =>
      tset 0 m d.tile (d.cond + 8 * b2n d.lit + 16 * (if d.lit then d.fill else d.frame) + 1)) l.retTiles }) →
    Ends (exec (.tileComposeDone t) s) (if v.ltn.again then v.composeStart v.sstate else v)) ∧
  (∀ t s a, a = s.at_ t → a.composes = true → a.rb Reg.LTN_STAT.MODE = true →
    ((List.range (min 2000 (msOf a.clock - a.ltn.phaseAt))).any fun k =>
      ((a.tiles.map fun n => a.rf (Reg.LTN_STYLE.CHAR (a.drawOf a.sstate n).cond)).eraseDups).any fun ch =>
        charLit ch (msOf a.clock - k) != charLit ch (msOf a.clock - k - 1)) = true → ∃ v : State,
    v = a.onLtn (fun l => { l with phaseAt := msOf a.clock }) ∧ Ends (exec (.lightPhaseEdge t) s) v.composeAsk) ∧
  (∀ t s a n v, a = s.at_ t → n = a.rf Reg.LTN_STAT.FB_SHOWN → a.rf Reg.LTN_STAT.PSTATE = 2 → a.ltn.line = 0 → a.ltn.checked = false →
    v = (a.setFb n (a.fb n)).onLtn (fun l => { l with checked := true, recSweeps := l.recSweeps + 1 }) → v.fbCrc n = v.crcOf n →
    Ends (exec (.panelSweepCheck t []) s) v) ∧
  (∀ t s a n v, a = s.at_ t → n = a.rf Reg.LTN_STAT.FB_SHOWN → a.rf Reg.LTN_STAT.PSTATE = 2 → a.ltn.line = 0 → a.ltn.checked = false →
    v = (a.setFb n (a.fb n)).onLtn (fun l => { l with checked := true, recSweeps := l.recSweeps + 1 }) → v.fbCrc n ≠ v.crcOf n → v.crcRow = 0 →
    ∃ w : State, w = ((v.bump Reg.LTN_CRC_CNT.COUNT).raise Ev.LTN_CRC_MISMATCH n [v.crcOf n, v.fbCrc n, 0]).onLtn
        (fun l => { l with recRow := 1, recSweeps := 0 }) ∧ Ends (exec (.panelSweepCheck t []) s) (w.composeStart w.sstate)) ∧
  (∀ t s a v, a = s.at_ t → a.rf Reg.LTN_STAT.PSTATE = 2 → a.rb Reg.LTN_STAT.BIAS_FAULT = false → firstDirty a.ltn.dirty = none →
    v = a.lineOut a.ltn.line (tget 0 (a.fb (a.rf Reg.LTN_STAT.FB_SHOWN)) a.ltn.line) → v.ltn.line + 1 < v.ltnHeight →
    Ends (exec (.panelLineSent t) s) (v.onLtn fun l => { l with line := l.line + 1 }).swapNow) ∧
  (∀ t s a y v, a = s.at_ t → a.rf Reg.LTN_STAT.PSTATE = 2 → a.rb Reg.LTN_STAT.BIAS_FAULT = false → firstDirty a.ltn.dirty = some y →
    v = a.lineOut y (tget 0 (a.fb (a.rf Reg.LTN_STAT.FB_SHOWN)) y) →
    Ends (exec (.panelLineSent t) s) (v.onLtn fun l => { l with dirty := l.dirty.filter fun z => z != y }).swapNow) ∧
  (∀ t s a, a = s.at_ t → a.rf Reg.LTN_STAT.PSTATE = 4 → Ends (exec (.panelLineSent t) s) a.passLine.swapNow) ∧
  (∀ t s a, a = s.at_ t → a.rf Reg.LTN_STAT.PSTATE = 1 → a.rb Reg.LTN_STAT.BIAS_FAULT = false →
    a.ltn.startAt - 1 + (ofMs 40 + 2 * a.passTime + (if a.rb Reg.LTN_STAT.UNCLEAN then ofMs 30 else 0)) ≤ a.tim.now → ∃ v : State,
    v = ((a.wf Reg.LTN_STAT.UNCLEAN 0).panelState 2).onLtn (fun l => { l with vdd := true, vddh := true, line := 0, checked := false }) ∧
    Ends (exec (.panelStartDone t) s) ((v.setReady 2).composeAsk).statesShown) ∧
  (∀ t s a, a = s.at_ t → a.rf Reg.LTN_STAT.PSTATE = 4 → a.ltn.stopAt - 1 + a.passTime + ofMs 35 ≤ a.tim.now →
    Ends (exec (.panelStopDone t) s) ((a.panelState 0).onLtn fun l => { l with vdd := false, vddh := false }).geomSettle) ∧
  (∀ t mv s a u, a = s.at_ t → (a.rf Reg.LTN_STAT.PSTATE = 1 ∨ a.rf Reg.LTN_STAT.PSTATE = 2) → mv < 4500 →
    a.rb Reg.LTN_STAT.BIAS_FAULT = false →
    u = ((a.wf Reg.LTN_STAT.BIAS_FAULT 1).bump Reg.LTN_BIAS_FAULT_CNT.COUNT).raise Ev.LTN_BIAS_FAULT 0 [mv] →
    Ends (exec (.ltnBiasFault t mv) s) (u.onLtn fun l => { l with biasAt := u.tim.now + 1 })) ∧
  (∀ t s a, a = s.at_ t → a.rb Reg.LTN_STAT.BIAS_FAULT = true → a.ltn.biasAt - 1 + ofMs 100 ≤ a.tim.now →
    Ends (exec (.chargePumpRestart t) s) (a.wf Reg.LTN_STAT.BIAS_FAULT 0).allDirty) ∧
  (∀ t s a n, a = s.at_ t → a.ltn.copyDue ≠ 0 → a.rb Reg.LTN_STAT.MODE = false → a.ltn.swap = false → n = a.rf Reg.LTN_STAT.FB_SHOWN →
    Ends (exec (.frameCopyWrite t) s) (a.onLtn fun l => { l with copy := some (a.fb n, a.crcOf n), copyDue := 0 })) ∧
  (∀ t ohm den x s a, a = s.at_ t → a.pwr.lshipUp = true → ntcTemp ohm den = some x → ∃ v : State,
    v = (a.wf Reg.LTN_PTEMP.TEMP x).wf Reg.LTN_STAT.PTEMP_FAULT 0 ∧
    Ends (exec (.panelTemperatureChange t ohm den) s) (v.onLtn fun l => { l with tempBand := bandOf l.tempBand x }).vcomSettle) ∧
  (∀ t ohm den s a, a = s.at_ t → a.pwr.lshipUp = true → ntcTemp ohm den = none → a.rb Reg.LTN_STAT.PTEMP_FAULT = false →
    Ends (exec (.panelTemperatureChange t ohm den) s)
      ((a.wf Reg.LTN_STAT.PTEMP_FAULT 1).vcomSettle.raise Ev.LTN_PTEMP_FAULT 0 [ohm / den]))

/-- A command that its checks accept at its instant answers the next state given: FAB_ROUTE_WRITE, FAB_ROUTE_READ of either bank,
FAB_ROUTE_COMMIT, FAB_EPOCH, FAB_QUENCH, FAB_LEAVE (BUSY outside HOME_STATE 0), FAB_HANDBACK, FAB_PORT_CTRL and FAB_SV. -/
def Obligations.FabricCommandsTakeEffect : Prop :=
  (∀ t c s i a, a = s.at_ t → Accepted t (specFabRouteWrite c) c s i → ∃ v : State,
    v = (List.range (min (c.f 0xC 0 13) 4096)).foldl (fun s k => s.onFab fun f =>
      { f with shadow := tset 0 f.shadow (c.f 8 0 12 + k) (routeAt c.inp k) }) a ∧
    Completes (exec (.fabRouteWrite t c) s) i Reply.ok (v.wf Reg.FAB_EPOCH_STAT.SHADOW_TAG 0)) ∧
  (∀ t c s i a, a = s.at_ t → Accepted t (specFabRouteRead c) c s i → c.f 0x10 0 1 = 1 → ∃ x,
    Completes (exec (.fabRouteRead t c) s) i (Reply.with2 (a.rf Reg.FAB_EPOCH_STAT.SHADOW_TAG) 0) (a.bufPut c (8 * c.f 0xC 0 13) x) ∧
    x = (List.range (c.f 0xC 0 13)).foldl (fun y k => y + (tget 0 a.fab.shadow (c.f 8 0 12 + k)).toNat * 2 ^ (64 * k)) 0) ∧
  (∀ t c s i a, a = s.at_ t → Accepted t (specFabRouteRead c) c s i → c.f 0x10 0 1 = 0 → ∃ x,
    Completes (exec (.fabRouteRead t c) s) i (Reply.with2 (a.rf Reg.FAB_EPOCH_CUR.EPOCH) 0) (a.bufPut c (8 * c.f 0xC 0 13) x) ∧
    x = (List.range (c.f 0xC 0 13)).foldl (fun y k => y + (tget 0 a.fab.active (c.f 8 0 12 + k)).toNat * 2 ^ (64 * k)) 0) ∧
  (∀ t c s i, Accepted t (specFabRouteCommit c) c s i →
    Completes (exec (.fabRouteCommit t c) s) i Reply.ok ((s.at_ t).wf Reg.FAB_EPOCH_STAT.SHADOW_TAG (c.w 8))) ∧
  (∀ t c s i a, a = s.at_ t → Accepted t (specFabEpoch c) c s i → Completes (exec (.fabEpoch t c) s) i Reply.ok
    ((a.control 0x03 none (c.w 8 + a.node * 2 ^ 32 + c.d 0x10 * 2 ^ 64)).epochTake (c.w 8) a.node (c.d 0x10))) ∧
  (∀ t c s i a, a = s.at_ t → Accepted t (specFabQuench c) c s i → Completes (exec (.fabQuench t c) s) i Reply.ok
    ((a.control 0x01 none (c.w 8 + c.w 0xC * 2 ^ 32 + a.node * 2 ^ 64)).quenchTake (c.f 8 0 24) (c.f 8 24 8) (c.f 0xC 0 16) (c.f 0xC 16 16)
      a.node)) ∧
  (∀ t c s i a, a = s.at_ t → Accepted t (specFabLeave c) c s i → a.rf Reg.FAB_OWN_STAT.HOME_STATE = 0 →
    Completes (exec (.fabLeave t c) s) i Reply.ok (a.startLeave 0)) ∧
  (∀ t c s i a, a = s.at_ t → Accepted t (specFabLeave c) c s i → a.rf Reg.FAB_OWN_STAT.HOME_STATE ≠ 0 →
    Completes (exec (.fabLeave t c) s) i (Reply.of 6) a) ∧
  (∀ t c s i a k, a = s.at_ t → Accepted t (specFabHandback c) c s i → a.shadowOf (c.f 8 0 24) = some k →
    a.rf (Reg.FAB_SHADOW.SB_STATE k) = 2 → (a.shadowX k).resyncDone = true →
    StaysInFlight (exec (.fabHandback t c) s) i (a.startReturn k (c.ring + 1) c.tag)) ∧
  (∀ t c s i a p v w, a = s.at_ t → p = c.f 8 0 7 → Accepted t (specFabPortCtrl c) c s i →
    v = (if c.f 8 8 2 = 0 then a.portDisable p else if c.f 8 8 2 = 1 then a.portEnable p
      else if a.rf (Reg.FAB_PORT.STATE p) = 3 then a.portLeave p 1 else a) →
    w = (if v.rb (Reg.FAB_PORT.EN p) = a.rb (Reg.FAB_PORT.EN p) then v else v.dirtyHost) →
    Completes (exec (.fabPortCtrl t c) s) i (Reply.with2 (w.rf (Reg.FAB_PORT.STATE p)) 0) w) ∧
  (∀ t c s i o, Accepted t (specFabSv c) c s i → o = (Reg.FAB_SV.APPID (c.f 8 0 8)).off → ∃ v : State,
    v = ((((s.at_ t).wr (o + 0) (BitVec.ofNat 32 (c.f 0x10 0 23))).wr (o + 4) (BitVec.ofNat 32 (c.w 0x14))).wr (o + 8)
      (BitVec.ofNat 32 (c.f 0x18 0 23))).wr (o + 0xC) (BitVec.ofNat 32 (c.w 0x1C)) ∧
    Completes (exec (.fabSv t c) s) i Reply.ok (v.wr (o + 0x10) (BitVec.ofNat 32 (c.w 0x20))).dirtyHost)

/-- A CREDIT, DREQ, DRESP and INIT word with a good and, for CREDIT, a bad check, the sending of CREDIT, DREQ and INIT words, the retry
timer, the INIT timeout, the training of a link and a link-down condition each answer the next state given. -/
def Obligations.LinkRowsTakeEffect : Prop :=
  (∀ t p w crc s a, a = s.at_ t → a.pwr.mainUp = true → p < 128 → a.portUp p = true → a.rb (Reg.FAB_PORT.MODE p) = false → lwOk w crc = true →
    w % 16 = 0 → Ends (exec (.credit t p w crc) s) (a.takeCredit p w)) ∧
  (∀ t p w crc s a i, i ∈ [Instr.credit t p w crc, .dreq t p w crc, .dresp t p w crc, .init t p w crc] → a = s.at_ t → a.pwr.mainUp = true →
    p < 128 → a.rb (Reg.FAB_PORT.MODE p) = false → 2 ≤ a.rf (Reg.FAB_PORT.STATE p) → lwOk w crc = false → Ends (exec i s) (a.wordBad p)) ∧
  (∀ t p s a, a = s.at_ t → a.pwr.mainUp = true → a.portUp p = true → (a.port p).unack ≠ [] →
    (a.port p).progress + ofPs (2 * a.rf (Reg.FAB_PORT.LINK_DELAY p)) + ofUs 4 ≤ a.tim.now →
    Ends (exec (.retryTimerExpire t p) s) (a.replayFrom p (a.port p).unack)) ∧
  (∀ t p s a, a = s.at_ t → a.pwr.mainUp = true → a.portUp p = true → (a.port p).creditAt + ofUs 2 ≤ a.tim.now →
    Ends (exec (.creditSend t p) s)
      (a.setPort p { a.port p with txWord := some ((a.port p).creditWord false), creditAt := a.tim.now })) ∧
  (∀ t p w crc s a, a = s.at_ t → a.pwr.mainUp = true → p < 128 → a.portUp p = true → a.rb (Reg.FAB_PORT.MODE p) = false → lwOk w crc = true →
    w % 16 = 1 → Ends (exec (.dreq t p w crc) s) ((a.hear p).sendWord p (2 + wfield w 0 16 16 * 2 ^ 16 + a.wt * 2 ^ 64 + a.wt * 2 ^ 128))) ∧
  (∀ t p s a, a = s.at_ t → a.pwr.mainUp = true → a.portUp p = true → ((a.port p).dreqAt = 0 ∨ (a.port p).dreqAt + 2 ^ 28 ≤ a.tim.now) →
    Ends (exec (.dreqSend t p) s) (a.setPort p { a.port p with
      txWord := some (lwSeal (1 + (a.port p).dseq * 2 ^ 16 + a.wt * 2 ^ 64)), asked := [((a.port p).dseq, a.wt)],
      dseq := ((a.port p).dseq + 1) % 65536, dreqAt := a.tim.now })) ∧
  (∀ t p w crc s a, a = s.at_ t → a.pwr.mainUp = true → p < 128 → a.portUp p = true → a.rb (Reg.FAB_PORT.MODE p) = false → lwOk w crc = true →
    w % 16 = 2 → Ends (exec (.dresp t p w crc) s) (a.takeDresp p w)) ∧
  (∀ t p w crc s a, a = s.at_ t → a.pwr.mainUp = true → p < 128 → a.rb (Reg.FAB_PORT.MODE p) = false → a.rf (Reg.FAB_PORT.STATE p) = 2 →
    lwOk w crc = true → w % 16 = 3 → Ends (exec (.init t p w crc) s) (a.takeInit p w)) ∧
  (∀ t p s a, a = s.at_ t → a.pwr.mainUp = true → p < 128 → a.rf (Reg.FAB_PORT.STATE p) = 2 → (a.port p).initSent + ofUs 100 ≤ a.tim.now →
    Ends (exec (.initSend t p) s) (a.setPort p { a.port p with txWord := some (a.initWord p), initSent := a.tim.now })) ∧
  (∀ t p s a, a = s.at_ t → a.pwr.mainUp = true → p < 128 → a.rf (Reg.FAB_PORT.STATE p) = 2 → (a.port p).initAt + ofMs 10 ≤ a.tim.now →
    Ends (exec (.initTimeout t p) s) (a.portLeave p 1)) ∧
  (∀ t p s a, a = s.at_ t → a.pwr.mainUp = true → p < 128 → a.rf (Reg.FAB_PORT.STATE p) = 1 → a.rb (Reg.FAB_PORT.MODE p) = true →
    Ends (exec (.linkTrained t p) s) (a.portState p 3)) ∧
  (∀ t p s a, a = s.at_ t → a.pwr.mainUp = true → p < 128 → a.rf (Reg.FAB_PORT.STATE p) = 1 → a.rb (Reg.FAB_PORT.MODE p) = false →
    ∃ v : State, v = a.portState p 2 ∧ Ends (exec (.linkTrained t p) s) (v.modPort p fun x =>
      { x with initAt := v.tim.now, initSent := v.tim.now, txWord := some (v.initWord p) })) ∧
  (∀ t p k s a, a = s.at_ t → a.pwr.mainUp = true → p < 128 → a.rf (Reg.FAB_PORT.STATE p) = 3 → a.rb (Reg.FAB_PORT.MODE p) = true → k < 2 →
    Ends (exec (.portLinkDown t ⟨p, k⟩) s) (a.portLeave p 1)) ∧
  (∀ t p k s a, a = s.at_ t → a.pwr.mainUp = true → p < 128 → a.rf (Reg.FAB_PORT.STATE p) = 3 → a.rb (Reg.FAB_PORT.MODE p) = false →
    (k < 2 ∨ (k = 2 ∧ (a.port p).heard + ofUs 8 ≤ a.tim.now)) → Ends (exec (.portLinkDown t ⟨p, k⟩) s) (a.portDown p))

/-- Each row of received frames and of a port's egress under the conditions stated answers the next state given, as do the waits for a
route and the rows of Ethernet ports and of the PTP master. -/
def Obligations.FrameRowsTakeEffect : Prop :=
  (∀ t p kind lseq plen f hcrc fcs s a, a = s.at_ t → a.pwr.mainUp = true → a.portUp p = true →
    Ends (exec (.frameReceive t p kind lseq plen f hcrc fcs) s) (a.receiveFrame p kind lseq plen { f with hcrc := hcrc, fcs := fcs })) ∧
  (∀ t p s a, a = s.at_ t → a.pwr.mainUp = true → Ends (exec (.egressSend t p) s) (a.poolServe.egressNext p)) ∧
  (∀ t s a p, a = s.at_ t →
    a.fab.pairs.find? (fun p => p.st == 1 && decide (p.at_ + ofUs (a.rf Reg.FAB_RING_CTRL.PAIR_WAIT_US) ≤ a.tim.now)) = some p →
    ∃ v : State, v = (a.onFab fun x => { x with pairs := x.pairs.map fun y => if y == p then { y with st := 2 } else y }).bump
        Reg.FAB_PAIR_TMO_CNT.COUNT ∧
      Ends (exec (.pairWaitExpire t) s) (v.deliverNow { f := p.f, src := p.port, tIn := p.at_, delay := 0 } 0)) ∧
  (∀ t s a w, a = s.at_ t → a.fab.waiting.find? (fun w => decide (w.2 ≤ a.tim.now)) = some w →
    ∃ v : State, v = (a.onFab fun x => { x with waiting := x.waiting.erase w }).bump Reg.FAB_ROUTE_DOWN_CNT.COUNT ∧
      Ends (exec (.rerouteWaitExpire t) s)
        (((v.raiseSlow 0 Ev.FAB_ROUTE_MISS w.1.f.dst [1]).released w.1).dataDone w.1 8)) ∧
  (∀ t p f s a, a = s.at_ t → a.pwr.mainUp = true → p < 128 → a.rb (Reg.FAB_PORT.MODE p) = true → a.rf (Reg.FAB_PORT.STATE p) = 3 →
    a.ethAccepts p f = true → a.ethFull p f = false → Ends (exec (.ethFrameReceive t p f) s)
      ((a.ethTake p f).ethHeld p f ((a.ethTake p f).waitMore a))) ∧
  (∀ t p f s a, a = s.at_ t → a.pwr.mainUp = true → p < 128 → a.rb (Reg.FAB_PORT.MODE p) = true → a.rf (Reg.FAB_PORT.STATE p) = 3 →
    (a.ethAccepts p f = false ∨ a.ethFull p f = true) → Ends (exec (.ethFrameReceive t p f) s) a.ethDrop) ∧
  (∀ t p s a u v, a = s.at_ t → a.pwr.mainUp = true → p < 128 → a.rb (Reg.FAB_PORT.MODE p) = true → a.rf (Reg.FAB_PORT.STATE p) = 3 →
    a.rf (Reg.FAB_ETH.PTP_ROLE p) = 2 →
    u = (if tget 0 a.fab.announceAt p = 0 ∨ tget 0 a.fab.announceAt p + 2 ^ 32 ≤ a.tim.now + 1 then
      (a.ethSend p 3 a.clockClass).onFab (fun f => { f with announceAt := tset 0 f.announceAt p (a.tim.now + 1) }) else a) →
    v = (if tget 0 u.fab.ptpSyncAt p = 0 ∨ tget 0 u.fab.ptpSyncAt p + 2 ^ 28 ≤ a.tim.now + 1 then
      ((u.ethSend p 4 u.fab.ptpSeq).ethSend p 5 u.wt).onFab (fun f =>
        { f with ptpSyncAt := tset 0 f.ptpSyncAt p (a.tim.now + 1), ptpSeq := (f.ptpSeq + 1) % 65536 }) else u) →
    Ends (exec (.ptpMasterSend t p) s) v)

/-- Each row of homes, standbys, replication, epochs, quenches, subscriptions and the fabric's time under the conditions stated answers
the next state given. -/
def Obligations.OwnershipRowsTakeEffect : Prop :=
  (∀ t k s a, a = s.at_ t → a.pwr.mainUp = true → k < 4 → a.rb (Reg.FAB_SHADOW.VALID k) = true → a.rf (Reg.FAB_SHADOW.SB_STATE k) = 0 →
    (a.shadowX k).contact + ofMs (a.rf Reg.FAB_OWN_TIMING.LOSS_MS) ≤ a.tim.now →
    Ends (exec (.contactLoss t k) s) (a.startTaking k none)) ∧
  (∀ t k s a, a = s.at_ t → a.pwr.mainUp = true → k < 4 → a.rb (Reg.FAB_SHADOW.VALID k) = true → a.rf (Reg.FAB_SHADOW.SB_STATE k) = 1 →
    Ends (exec (.takeover t k) s) (a.takeover k)) ∧
  (∀ t k s a, a = s.at_ t → a.pwr.mainUp = true → 4 ≤ k → a.rf Reg.FAB_OWN_STAT.HOME_STATE = 3 →
    Ends (exec (.takeover t k) s) a.takeBack) ∧
  (∀ t k s a, a = s.at_ t → a.pwr.mainUp = true → k < 4 → a.rf (Reg.FAB_SHADOW.SB_STATE k) = 3 →
    (a.shadowX k).entered + ofMs 100 ≤ a.tim.now → Ends (exec (.handbackTimeout t k) s) (a.returnFails k)) ∧
  (∀ t s a b w, a = s.at_ t → b = a.onFab (fun f => { f with beatAt := a.tim.now }) → a.pwr.mainUp = true →
    a.fab.beatAt + ofMs (a.rf Reg.FAB_OWN_TIMING.HB_MS) ≤ a.tim.now → b.rf Reg.FAB_OWN_CTRL.STANDBY ≠ 0 →
    w = b.handover (b.rf Reg.FAB_OWN_CTRL.STANDBY) 0 b.node 0 (decide (b.rf Reg.FAB_OWN_STAT.HOME_STATE < 2)) →
    (∀ k, k < 4 → w.rb (Reg.FAB_SHADOW.VALID k) = false) → Ends (exec (.heartbeatSend t) s) w) ∧
  (∀ t s a, a = s.at_ t → a.pwr.mainUp = true → a.fab.homeSet = false → a.fab.firstUp ≠ 0 → a.fab.firstUp + ofMs 100 ≤ a.tim.now + 1 →
    Ends (exec (.aliasLearnTimeout t) s) a.homeChoice) ∧
  (∀ t s a, a = s.at_ t → a.pwr.mainUp = true → a.fab.repl ≠ [] → Ends (exec (.replFrameSend t) s) a.replSend) ∧
  (∀ t k s a, a = s.at_ t → a.pwr.mainUp = true → k < 4 → Ends (exec (.resyncComplete t k) s) (a.endResync k)) ∧
  (∀ t s a e, a = s.at_ t → a.pwr.mainUp = true → a.fab.epochs = [e] → e.2.1 ≤ a.wt →
    Ends (exec (.epochSwitch t) s) ((a.onFab fun f => { f with epochs := [] }).epochAct e.1 e.2.2)) ∧
  (∀ t k s a, a = s.at_ t → a.pwr.mainUp = true → k < 16 → a.rb (Reg.FAB_QUENCH_STAT.VALID k) = true →
    tget 0 a.fab.quenchEnd k ≤ a.tim.now → Ends (exec (.quenchLapse t k) s)
      ((a.putQuench k 0 0 0 0 0 false).raise Ev.FAB_QUENCH (a.rf (Reg.FAB_QUENCH_STAT.ISSUER k))
        [a.rf (Reg.FAB_QUENCH_STAT.QUENCH_ID k), a.rf (Reg.FAB_QUENCH_STAT.TARGET k), a.rf (Reg.FAB_QUENCH_STAT.CLASS_MASK k), 0])) ∧
  (∀ t s a, a = s.at_ t → a.pwr.mainUp = true → a.node ≠ 0 → a.rb Reg.FAB_TIME_CTRL.ROOT = true →
    a.fab.syncSent + a.syncSpan ≤ a.tim.now → 2 ≤ a.rf Reg.FAB_COIN_FREE.COINS → ∃ w v : State, Ends (exec (.timeSyncSend t) s) v ∧ w = a.fresh.2.onFab (fun f => { f with
        syncSent := a.tim.now, syncSeq := (a.fab.syncSeq + 1) % 65536, seqOut := tset 0 f.seqOut 3 ((tget 0 a.fab.seqOut 3 + 1) % 2 ^ 32) }) ∧
      (w.selfQuenched 3 = true → v = w.bump Reg.FAB_QUENCH_DROP_CNT.COUNT) ∧
      (w.selfQuenched 3 = false → ∃ q : QFr, v = (w.drop Reg.FAB_COIN_FREE.COINS (coins q.f)).sendOut w.timeDown q ∧
        q.src = 134 ∧ q.f.cls = 3 ∧ q.f.ptype = 0x30 ∧ q.f.src = w.node ∧ q.f.seq = tget 0 a.fab.seqOut 3 ∧ q.f.len = 64)) ∧
  (∀ t s a, a = s.at_ t → a.pwr.mainUp = true → a.rootRtc = false → max a.fab.syncAt a.fab.sync2At ≠ 0 →
    max a.fab.syncAt a.fab.sync2At + 4 * a.syncSpan ≤ a.tim.now →
    Ends (exec (.timeHoldover t) s) ((a.onFab fun f => { f with good := 0 }).timeState 3)) ∧
  (∀ t s a, a = s.at_ t → a.pwr.mainUp = true → a.rootRtc = true → a.fab.rtcAt + ofS 1 ≤ a.tim.now →
    ∃ w : State, w = (a.onFab fun f => { f with rtcAt := a.tim.now }).rtcNow ∧
    Ends (exec (.rootRtcCompare t) s) (w.timeOffset w.rtcError)) ∧
  (∀ t s a, a = s.at_ t → a.pwr.mainUp = true → a.rb Reg.FAB_TIME_UTC.LEAP61 = true →
    (((a.wt / 2 ^ 32 : Nat) : Int) - (sext 16 (a.rf Reg.FAB_TIME_UTC.UTC_OFS) + 1)) % 86400 = 0 →
    Ends (exec (.utcDayEndLeap t) s) (((a.wf Reg.FAB_TIME_UTC.UTC_OFS (ofInt 16 (sext 16 (a.rf Reg.FAB_TIME_UTC.UTC_OFS) + 1))).wf
      Reg.FAB_TIME_UTC.LEAP61 0).wf Reg.FAB_TIME_UTC.LEAP59 0).utcFollow)

/-- Each row of the analogue and discrete inputs (conversions, lead measurement, clamps, edges, counters) under the conditions stated
answers the next state given. -/
def Obligations.LocalInputRowsTakeEffect : Prop :=
  (∀ t n num den cj s a, a = s.at_ t → n ≤ 31 → s.pwr.lshipUp = true → a.rf (Reg.LIO_AI.TYPE n) ≠ 0 → a.rf (Reg.LIO_AI.TYPE n) ≤ 5 →
    (a.aix n).clamp = true → Ends (exec (.aiConversion t n num den cj) s)
      (a.wf (Reg.LIO_AI.CODE n) (ofInt 24 (clampI (roundRat (num * 8388608) (max den 1)) (-8388608) 8388607)))) ∧
  (∀ t n num den cj s a, a = s.at_ t → n ≤ 31 → s.pwr.lshipUp = true → a.rf (Reg.LIO_AI.TYPE n) ≠ 0 → a.rf (Reg.LIO_AI.TYPE n) ≤ 5 →
    (a.aix n).clamp = false → (a.aix n).until_ < a.tim.now → ((a.aix n).settle ≠ 0 ∨ (a.aix n).ovc ≠ 0) →
    Ends (exec (.aiConversion t n num den cj) s) (((a.wf (Reg.LIO_AI.CODE n) (ofInt 24 (clampI (roundRat (num * 8388608) (max den 1))
      (-8388608) 8388607))).modAix n fun x => { x with settle := x.settle - 1, ovc := x.ovc - 1 }).aiNote n)) ∧
  (∀ t n num den cj s a c b, a = s.at_ t → n ≤ 31 → s.pwr.lshipUp = true → a.rf (Reg.LIO_AI.TYPE n) ∈ [1, 3, 4, 5] →
    (a.aix n).clamp = false → (a.aix n).until_ < a.tim.now → (a.aix n).settle = 0 → (a.aix n).ovc = 0 →
    c = clampI (roundRat (num * 8388608) (max den 1)) (-8388608) 8388607 →
    b = (a.wf (Reg.LIO_AI.CODE n) (ofInt 24 c)).burnout n c → ∃ (tc v : Nat) (above : Bool) (w : State),
      b.fresh.2.nativeOf n (c, 8388608) tc b.fresh.1 = (v, above) ∧
      w = (b.fresh.2.wf (Reg.LIO_AI.NATIVE n) v).wf (Reg.LIO_AI.OVERRANGE n)
        (b2n (above || ((c == -8388608 || c == 8388607) && !b.fresh.2.rb (Reg.LIO_AI.BURNOUT n)))) ∧
      ((w.toWave n v (w.aiFaults n)).rb (Reg.LIO_AI.PNT_EN n) = false →
        Ends (exec (.aiConversion t n num den cj) s) (w.toWave n v (w.aiFaults n))) ∧
      ((w.toWave n v (w.aiFaults n)).rb (Reg.LIO_AI.PNT_EN n) = true →
        ∃ u : State, u = w.toWave n v (w.aiFaults n) ∧ Ends (exec (.aiConversion t n num den cj) s) ((u.modAix n fun x =>
          { x with sum := x.sum + (fratio f32 v).1 * ((2 ^ 149 / (fratio f32 v).2 : Nat) : Int)
                   n := x.n + 1, tLast := u.ioStamp u.clock }).aiNote n))) ∧
  (∀ t n m s a, a = s.at_ t → n ≤ 31 → s.pwr.lshipUp = true → a.rf (Reg.LIO_AI.TYPE n) = 1 → a.rf (Reg.LIO_AI.WIRES n) = 1 →
    a.rf (Reg.LIO_AI.LEAD_S n) ≠ 0 → (a.aix n).leadAt = 0 → m ≤ 50000 → ∃ w : State,
      w = a.modAix n (fun x => { x with leadAt := a.tim.now + 1
                                        until_ := a.tim.now + ofMs 2 + 3 * (2 ^ 32 / odrRate (a.rf (Reg.LIO_AI.ODR n))) }) ∧
      Ends (exec (.leadPhase t n (some m)) s) ((w.wf (Reg.LIO_AI.R_LEAD_MOHM n) m).wf (Reg.LIO_AI.LEAD_FAULT n) 0)) ∧
  (∀ t n s a, a = s.at_ t → n ≤ 31 → s.pwr.lshipUp = true → (a.aix n).clamp = false → a.rb (Reg.LIO_AI.OVC n) = false →
    ∃ w : State, w = ((a.modAix n fun x => { x with clamp := true, ovc := 0 }).wf (Reg.LIO_AI.OVC n) 1).bump Reg.LIO_OVC_CNT.COUNT ∧
      Ends (exec (.aiOvervoltage t n true) s) ((w.aiNote n).lioEvent Ev.LIO_AI_OVC n [])) ∧
  (∀ t n s a, a = s.at_ t → n ≤ 31 → s.pwr.lshipUp = true → (a.aix n).clamp = true →
    Ends (exec (.aiOvervoltage t n false) s) (a.modAix n fun x => { x with clamp := false, ovc := 3 })) ∧
  (∀ t c l s a, a = s.at_ t → c < 48 → s.pwr.lshipUp = true → a.rf (Reg.LIO_DIO.MODE c) = 0 → a.rb (Reg.LIO_DIO.LEVEL c) = !l →
    a.pts.rec_.filter (fun e => fget Pt.KIND e.2 == kDiscrete && fbit Pt.DI_LOCAL e.2) = [] →
    (a.wf (Reg.LIO_DIO.LEVEL c) (b2n l)).rf (Reg.LIO_DIO.MODE c) = 0 → ∃ v : State, v = a.wf (Reg.LIO_DIO.LEVEL c) (b2n l) ∧
      Ends (exec (.dioEdgeAccept t [(c, l)]) s) ((if l then v.dioBeacon c else v).bcnSettle))

/-- Each row of the output stages (overload and retry, readback, supervision of an analogue output, HART, held twins, the safe state,
pulses, demagnetisation) under the conditions stated answers the next state given. -/
def Obligations.LocalOutputRowsTakeEffect : Prop :=
  (∀ t c s a, a = s.at_ t → a.isDo c = true → a.swOn c = true → ∃ w : State,
    w = (((a.doSwitch c false).onLio fun l => { l with ovlAt := tset 0 l.ovlAt c (a.tim.now + 1) }).wf
      (Reg.LIO_DIO.OVL c) 1).bump Reg.LIO_DO_OVL_CNT.COUNT ∧
    Ends (exec (.doOverload t c) s) ((w.lioEvent Ev.LIO_DO_OVL c []).stageQual (16 + c))) ∧
  (∀ t c s a, a = s.at_ t → a.isDo c = true → a.rb (Reg.LIO_DIO.OVL c) = true → tget 0 a.lio.ovlAt c - 1 + ofMs 100 ≤ a.tim.now →
    (a.wf (Reg.LIO_DIO.OVL c) 0).rb (Reg.LIO_DIO.CMD c) = true →
    Ends (exec (.doOverloadRetry t c true) s) (((a.wf (Reg.LIO_DIO.OVL c) 0).turnOn c).stageQual (16 + c))) ∧
  (∀ t c s a, a = s.at_ t → a.isDo c = true → a.rb (Reg.LIO_DIO.OVL c) = true → tget 0 a.lio.ovlAt c - 1 + ofMs 100 ≤ a.tim.now →
    Ends (exec (.doOverloadRetry t c false) s) (a.onLio fun l => { l with ovlAt := tset 0 l.ovlAt c (a.tim.now + 1) })) ∧
  (∀ t c s a, a = s.at_ t → a.isDo c = true → tget 0 a.lio.diffAt c ≠ 0 → a.rb (Reg.LIO_DIO.RB_MISMATCH c) = false →
    tget 0 a.lio.diffAt c - 1 + ofMs (a.rf (Reg.LIO_DIO.RB_MS c)) ≤ a.tim.now →
    ∃ w : State, w = (a.wf (Reg.LIO_DIO.RB_MISMATCH c) 1).bump Reg.LIO_RB_CNT.COUNT ∧
      Ends (exec (.doReadbackMismatch t c) s)
        ((w.lioEvent Ev.LIO_RB_MISMATCH c [a.rf (Reg.LIO_DIO.CMD c), a.rf (Reg.LIO_DIO.LEVEL c)]).stageQual (16 + c))) ∧
  (∀ t n iUa vTerm temp (den : Nat) s a w, a = s.at_ t → n ≤ 15 → a.pwr.lshipUp = true → a.rb (Reg.LIO_AO.EN n) = true → a.rb (Reg.LIO_AO.SINK n) = false →
    w = ((a.wf (Reg.LIO_AO.I_MEAS_UA n) iUa).wf (Reg.LIO_AO.V_SUP_MV n) (aoSupply false vTerm)).wf (Reg.LIO_AO.V_TERM_MV n) vTerm →
    w.rf (Reg.LIO_AO.OPEN n) = 0 → w.rf (Reg.LIO_AO.COMPL n) = 0 → w.rf (Reg.LIO_AO.THERM n) = 0 → temp ≤ 150 * (den : Int) →
    (tget 0 w.lio.aoCode n * 24000 = iUa * 65536 → Ends (exec (.aoSupervision t n iUa vTerm temp den) s)
      (((w.wf (Reg.LIO_AO.OPEN n) 0).wf (Reg.LIO_AO.COMPL n) 0).wf (Reg.LIO_AO.THERM n) 0)) ∧
    (1000 * 65536 ≤ tget 0 w.lio.aoCode n * 24000 → iUa = 0 → 26000 ≤ aoSupply false vTerm →
      Ends (exec (.aoSupervision t n iUa vTerm temp den) s) ((((((w.wf (Reg.LIO_AO.OPEN n) 1).wf (Reg.LIO_AO.COMPL n) 0).wf (Reg.LIO_AO.THERM n)
        0).bump Reg.LIO_AO_FAULT_CNT.COUNT 1).lioEvent Ev.LIO_AO_FAULT n [1, iUa, vTerm]).stageQual n))) ∧
  (∀ t n s a, a = s.at_ t → a.hartOn n = true → hartMsg (a.hart n).tx ≠ 0 → (a.hart n).started = 0 → a.rb (Reg.LIO_AO.CD n) = false →
    (a.hart n).carrierAt = 0 → Ends (exec (.hartTransmitStart t n) s) (a.setHart n { a.hart n with started := a.tim.now + 1, sent := 0 })) ∧
  (∀ t n s a, a = s.at_ t → a.hartOn n = true → (a.hart n).started ≠ 0 →
    ((a.hart n).sent + hartMsg (a.hart n).tx) * 11 * 2 ^ 32 ≤ (a.tim.now - ((a.hart n).started - 1)) * 1200 →
    Ends (exec (.hartTransmitEnd t n) s)
      (a.setHart n { a.hart n with tx := (a.hart n).tx.drop (hartMsg (a.hart n).tx), started := 0, sent := 0 })) ∧
  (∀ t n b s a w, a = s.at_ t → w = a.wf (Reg.LIO_AO.CD n) 1 → a.hartOn n = true → (w.hart n).rx.length < 256 →
    Ends (exec (.hartByteReceive t n b false) s) (w.setHart n
      { w.hart n with carrierAt := w.tim.now + 1, rx := (w.hart n).rx ++ [b % 256], rxAt := w.tim.now + 1 })) ∧
  (∀ t n b s a w, a = s.at_ t → w = a.wf (Reg.LIO_AO.CD n) 1 → a.hartOn n = true → 256 ≤ (w.hart n).rx.length →
    Ends (exec (.hartByteReceive t n b false) s)
      ((w.setHart n { w.hart n with carrierAt := w.tim.now + 1, rxAt := 0 }).hartErr n 1)) ∧
  (∀ t n s a, a = s.at_ t → a.hartOn n = true → a.rb (Reg.LIO_AO.CD n) = true → (a.hart n).rxAt = 0 →
    22 * 2 ^ 32 < (a.tim.now - ((a.hart n).carrierAt - 1)) * 1200 →
    Ends (exec (.hartRxGap t n) s) ((a.setHart n { a.hart n with carrierAt := a.tim.now + 1 }).wf (Reg.LIO_AO.CD n) 0)) ∧
  (∀ t c x s a, a = s.at_ t → a.pwr.lshipUp = true → c < 16 → x % 2 ^ 32 ≠ 0 →
    Ends (exec (.outputTwinCheck t ⟨[(c, x)], []⟩) s) (((a.bump Reg.LIO_TWIN_CNT.COUNT).twinEvent c 36
      (twinOf (tget 0 a.lio.aoCode c) ^^^ (x % 2 ^ 32)) (tget 0 a.lio.aoCode c)).aoSafe c)) ∧
  (∀ t c x s a, a = s.at_ t → a.pwr.lshipUp = true → c < 48 →
    Ends (exec (.outputTwinCheck t ⟨[], [(c, x)]⟩) s) (a.onLio fun l => { l with cmdUpset := tset 0 l.cmdUpset c (x % 2 ^ 32) })) ∧
  (∀ t last s a, a = s.at_ t → a.pwr.lshipUp = true → a.rb Reg.LIO_STAT.SAFE_ACTIVE = false →
    last + ofMs (a.rf Reg.LIO_SAFE_CTRL.TMO_MS) ≤ a.tim.now → ∃ w : State,
    w = ((a.wf Reg.LIO_STAT.LOGIC_SILENT 1).wf Reg.LIO_STAT.SAFE_ACTIVE 1).bump Reg.LIO_SAFE_CNT.COUNT ∧
    Ends (exec (.lioSafeEnter ⟨t, last⟩) s) (w.lioEvent Ev.LIO_SAFE_ENTER 0 [w.rf Reg.LIO_STAT.LOGIC_SRC]).allSafe) ∧
  (∀ t s a, a = s.at_ t → a.pwr.lshipUp = true → a.rb Reg.LIO_STAT.SAFE_ACTIVE = true → ∃ w : State,
    w = (a.wf Reg.LIO_STAT.LOGIC_SILENT 0).wf Reg.LIO_STAT.SAFE_ACTIVE 0 ∧
    Ends (exec (.lioSafeExit t) s) (w.lioEvent Ev.LIO_SAFE_EXIT 0 [a.rf Reg.LIO_STAT.LOGIC_SRC])) ∧
  (∀ t k s a, a = s.at_ t → a.pwr.lshipUp = true → k ≤ 15 → (a.pulse k).dir ≠ 0 → (a.pulse k).on = false →
    (a.pulse k).start ≤ a.tim.now → Ends (exec (.pulseEnd t k) s) (a.pulseBegin k)) ∧
  (∀ t k s a, a = s.at_ t → a.pwr.lshipUp = true → k ≤ 15 → (a.pulse k).dir ≠ 0 → (a.pulse k).on = true →
    (a.pulse k).stop ≤ a.tim.now → Ends (exec (.pulseEnd t k) s) (a.pulseCut k)) ∧
  (∀ t k s a, a = s.at_ t → a.pwr.lshipUp = true → k ≤ 15 → ((a.pulse k).carR ≠ 0 ∨ (a.pulse k).carL ≠ 0) →
    tick10 (a.clock + ((a.pulse k).carryAt + ofS (a.rf (Reg.LIO_PULSE.HOLD_S k))) - a.tim.now) ≤ a.clock → ∃ w : State,
      w = (a.setPulse k { a.pulse k with carR := 0, carL := 0 }).bump Reg.LIO_PULSE_DROP_CNT.COUNT ∧
      Ends (exec (.lioPulseDrop t k) s) (w.lioEvent Ev.LIO_PULSE_DROP k
        [b2n ((a.pulse k).carR == 0), (if (a.pulse k).carR == 0 then (a.pulse k).carL else (a.pulse k).carR) / 10])) ∧
  (∀ t c s a w, a = s.at_ t → w = a.wf (Reg.LIO_DIO.DEMAG c) 0 → a.isDo c = true → a.rb (Reg.LIO_DIO.DEMAG c) = true →
    usOf (a.tim.now - tget 0 a.lio.demagAt c) ≤ 400 →
    Ends (exec (.demagEnd t c) s) (w.lio.grpWait.foldl (fun s k => s.grpRetry c k) w))

/-- Each row of the power unit under the conditions stated answers the next state given. -/
def Obligations.PowerRowsTakeEffect : Prop :=
  (∀ t cause mv store s a, a = s.at_ t → s.pwr.lshipUp = true → s.pwr.failing = false → cause ≤ 3 →
    (cause < 2 → a.rb Reg.PWR_SUPPLY_STAT.MAIN_OK = true) → (2 ≤ cause → s.pwr.mainUp = true) →
    (cause = 0 → mv < 34000) → (cause = 1 → 62000 < mv) →
    Ends (exec (.pwrFailWarn t cause mv store) s) ((a.scapRead store).mainLost cause mv)) ∧
  (∀ t cause mv store s a, a = s.at_ t → s.pwr.lshipUp = true → s.pwr.failing = true → cause ≤ 3 →
    Ends (exec (.pwrFailWarn t cause mv store) s) a.cleanStop) ∧
  (∀ t k s, s.pwr.failing = true → k ≠ 0 → k ≤ 7 → Ends (exec (.uncleanStop t k) s) ((s.at_ t).uncleanStop k)) ∧
  (∀ t mv store s a b c d, a = s.at_ t → a.pwr.lshipUp = true → a.pwr.mainUp = false → a.pwr.warned = false →
    a.rb Reg.KPR_THERM.TRIP = false → 35000 ≤ mv → mv ≤ 60000 →
    (a.pwr.goodAt = 0 ∨ a.pwr.goodAt - 1 + ofMs (a.rf Reg.PWR_CTRL.RESTART_MS) ≤ a.tim.now) →
    a.ready 0 = true → a.rb Reg.PWR_SUPPLY_STAT.MAIN_OK = true →
    b = (((((a.wf Reg.PWR_MAIN_MV.MV mv).scapRead store).wf Reg.PWR_SUPPLY_STAT.MAIN_OK 1).wf Reg.PWR_CLK_STAT.FREF_OK 1).wf
      Reg.PWR_CLK_STAT.CORE_LOCK 1) →
    c = (((((((b.clearRegs mainOwn).onPwr fun p => { p with mainUp := true, failing := false }).onLdg fun l => { l with actTime := [] }).setWt
      b.lwt (2 ^ 32)).wf Reg.PWR_SUPPLY_STAT.MAIN_STATE 1).raise Ev.PWR_MAIN_RETURN 0 [mv]).feedSettle.fansFollow).chooseMain →
    c.img.use ≠ 0 → d = (c.restoreRegs c.inUse.regs fun o => mainReg o).policyApply →
    (d.rf (Reg.BKP_REG.WORD 0) ≠ 0x4B524142 ∨ d.rb bkpMainClean = true) →
    Ends (exec (.pwrMainReturn t mv store) s)
      (((d.wf bkpMainClean 0).onPwr fun p => { p with step := 0, lost := 0 }).tileGates.oeGates.ctlGauges).fftWake) ∧
  (∀ t ok mv store s a w, a = s.at_ t → s.pwr.lshipUp = true → a.rb Reg.PWR_SUPPLY_STAT.EMER_OK ≠ ok →
    w = ((a.wf Reg.PWR_EMER_MV.MV mv).scapRead store).wf Reg.PWR_SUPPLY_STAT.EMER_OK (b2n ok) →
    (ok = true → w.pwr.warned = false → 16500 ≤ mv → mv ≤ 32000 → Ends (exec (.emerChange t ok mv store) s) w.feedSettle) ∧
    (ok = true → w.pwr.warned = true → 16500 ≤ mv → mv ≤ 32000 → Ends (exec (.emerChange t ok mv store) s) w.lshipStop) ∧
    (ok = false → (mv < 16000 ∨ 33000 < mv) → Ends (exec (.emerChange t ok mv store) s) (w.raise Ev.PWR_EMER_LOST 0 [mv]).feedSettle)) ∧
  (∀ t ok mv s a w, a = s.at_ t → s.pwr.lshipUp = true → a.rb Reg.PWR_SUPPLY_STAT.FIELD_OK ≠ ok →
    w = ((a.wf Reg.PWR_FIELD_MV.MV mv).wf Reg.PWR_SUPPLY_STAT.FIELD_OK (b2n ok)).wf Reg.PWR_SUPPLY_STAT.FIELD_LOW (b2n !ok) →
    (ok = true → 19000 ≤ mv → Ends (exec (.fieldChange t ok mv) s) w) ∧
    (ok = false → mv < 18000 → Ends (exec (.fieldChange t ok mv) s) ((w.bump Reg.PWR_FIELD_LOW_CNT.COUNT).raise Ev.PWR_FIELD_LOW 0 [mv]))) ∧
  (∀ t mv s a, a = s.at_ t → s.pwr.lshipUp = true → a.feedOf = 2 → mv ≤ 9000 → a.rb Reg.PWR_SUPPLY_STAT.SCAP_LOW = false → ∃ w : State,
    w = ((a.scapRead mv).wf Reg.PWR_SUPPLY_STAT.SCAP_LOW 1).bump Reg.PWR_SCAP_LOW_CNT.COUNT ∧
    Ends (exec (.pwrScapLow t mv) s) ((w.raise Ev.PWR_SCAP_LOW 0 [mv]).panelRetain).lshipFlush) ∧
  (∀ t mv s a, a = s.at_ t → s.pwr.lshipUp = true → a.feedOf = 2 → mv ≤ 7000 → s.pwr.warned = false → ∃ w : State,
    w = (((a.scapRead mv).bump Reg.PWR_LSHIP_FAIL_CNT.COUNT).raise Ev.PWR_LSHIP_FAIL 0 [mv]).panelStop ∧
    Ends (exec (.pwrLshipFail t mv) s) (((w.copiesOut.onImg fun m => { m with lwtSaved := w.lwt }).lshipFlush.logAll).onPwr fun p =>
      { p with warned := true })) ∧
  (∀ t s a, a = s.at_ t → s.pwr.lshipUp = true → a.feedOf = 2 → Ends (exec (.lightshipStop t) s) a.lshipStop) ∧
  (∀ t s, s.pwr.lshipUp = true → Ends (exec (.scapFull t) s)
    ((((s.at_ t).scapRead 16000).scapClear).onPwr fun p => { p with charging := false })) ∧
  (∀ t mv s a, a = s.at_ t → s.pwr.lshipUp = true → mv < 15800 → a.feedOf ≠ 2 → Ends (exec (.scapChargeRestart t mv) s)
    (((a.scapRead mv).scapClear).onPwr fun p => { p with charging := true })) ∧
  (∀ t s a, a = s.at_ t → s.pwr.lshipUp = true → a.rb Reg.PWR_CLK_STAT.LREF_FALLBACK = false → Ends (exec (.lrefLoss t) s)
    (((a.wf Reg.PWR_CLK_STAT.LREF_OK 0).wf Reg.PWR_CLK_STAT.LREF_FALLBACK 1).raise Ev.PWR_CLK_FAULT 0 [2])) ∧
  (∀ t s, s.pwr.lshipUp = true → Ends (exec (.lrefReturn t) s)
    (((s.at_ t).wf Reg.PWR_CLK_STAT.LREF_OK 1).wf Reg.PWR_CLK_STAT.LREF_FALLBACK 0)) ∧
  (∀ t s a, a = s.at_ t → s.pwr.mainUp = true → a.rb Reg.PWR_GATE_CTRL.FFT_GATE_EN = true →
    a.cmw.frames.length < a.rf Reg.PWR_FFT_AWAKE.COUNT → Ends (exec (.fftUnitGate t) s) (a.drop Reg.PWR_FFT_AWAKE.COUNT)) ∧
  (∀ t s a b, a = s.at_ t → s.pwr.mainUp = true → s.pwr.failing = false → a.ready 10 = true → a.ready 12 = false → b = a.keeperPass →
    b.rb Reg.PWR_LSHIP_STAT.LSHIP_OP = false → b.pwr.upds = [] → ∃ w : State,
      w = (((b.wf Reg.PWR_LSHIP_STAT.LSHIP_OP 0).onPwr fun p => { p with upds := [], watches := [], act := [] }).rebuildSectors.setReady
        12).setReady 14 ∧
      Ends (exec (.lshipHandback t) s)
        (((w.wf Reg.LTN_STAT.SRC 0).onLtn fun l => { l with keeperSt := [] }).lightSettle.statesShown).composeAsk) ∧
  (∀ t s a, a = s.at_ t → s.pwr.mainUp = true → s.pwr.failing = false → a.ready 12 = true → a.ready 15 = false →
    tkeys a.ctl.rec_ = [] → (a.setReady 15).ctl.rec_ = [] → Ends (exec (.logicSideReturn t) s) ((a.setReady 15).logicTo 0)) ∧
  (∀ t s a u l, a = s.at_ t → a.rb Reg.PWR_LSHIP_STAT.LSHIP_OP = true → a.keeperRuns = true → a.pwr.upds = u :: l → ∃ w : State,
    w = a.onPwr (fun p => { p with upds := l }) ∧
    (w.keeperHas u.idx = true → Ends (exec (.lshipEvaluate t) s) (w.keep fun s => s.applyUpdate u).keeperPass) ∧
    (w.keeperHas u.idx = false → Ends (exec (.lshipEvaluate t) s) w)) ∧
  (∀ t s a k, a = s.at_ t → a.rb Reg.PWR_LSHIP_STAT.LSHIP_OP = true → a.keeperRuns = true → a.pwr.upds = [] → a.keeperDue = none →
    k = ticksBy 1 a.lwt + 1 → a.pwr.scanAt < k →
    Ends (exec (.lshipEvaluate t) s) ((a.onPwr fun p => { p with scanAt := k }).keep (State.keeperTick (k - 1))).keeperPass) ∧
  (∀ t n x mv s a w, a = s.at_ t → s.pwr.lshipUp = true → n ≤ 7 → a.rb Reg.KPR_THERM.TRIP = false → fle f32 0x42DC0000 x = true →
    w = (((a.wf (Reg.KPR_SENS.VALUE n) x).wf Reg.KPR_THERM.TRIP 1).bump Reg.KPR_THERM_TRIP_CNT.COUNT).raise Ev.KPR_THERM_TRIP n [x] →
    (w.rb Reg.PWR_SUPPLY_STAT.MAIN_OK = true → w.pwr.failing = false → Ends (exec (.thermalTrip t n x mv) s) (w.mainLost 0 mv)) ∧
    ((w.rb Reg.PWR_SUPPLY_STAT.MAIN_OK = false ∨ w.pwr.failing = true) →
      Ends (exec (.thermalTrip t n x mv) s)
        ((w.wf Reg.PWR_SUPPLY_STAT.MAIN_OK 0).onPwr fun p => { p with goodAt := w.tim.now + 1 }).feedSettle.fansFollow)) ∧
  (∀ t n x s a, a = s.at_ t → s.pwr.lshipUp = true → n ≤ 7 → a.rb Reg.KPR_THERM.TRIP = true → fle f32 x 0x42BE0000 = true →
    ∃ w : State, w = (a.wf (Reg.KPR_SENS.VALUE n) x).wf Reg.KPR_THERM.TRIP 0 ∧ Ends (exec (.thermalClear t n x) s)
      ((w.onPwr fun p => { p with goodAt := a.tim.now + 1 }).raise Ev.KPR_THERM_CLEAR n [x]))

/-- The mailbox commands that their checks accept answer the next state given: the updates from the host (begin, data, end, activate,
cancel), the log read, the sensor read, and the windows of their operations. -/
def Obligations.KeeperMailboxTakesEffect : Prop :=
  (∀ t c s i a, a = s.at_ t → s.rb Reg.KPR_DBG_STAT.HALTED = false → a.rb Reg.KPR_DBG_STAT.HALTED = false →
    Accepted t (specUpd 0 c) c s i → a.updRefuse 0 0 (mailBank c) (mailArg c) 0 = none →
    Completes (exec (.updateBegin t c) s) i Reply.ok (a.updBegin 0 (mailBank c) (mailArg c))) ∧
  (∀ t c s i a, a = s.at_ t → s.rb Reg.KPR_DBG_STAT.HALTED = false → a.rb Reg.KPR_DBG_STAT.HALTED = false →
    Accepted t (specUpd 1 c) c s i → a.updRefuse 0 1 (mailBank c) (mailArg c) c.bufLen = none →
    Completes (exec (.updateData t c) s) i Reply.ok (a.updData c.bufLen c.inp)) ∧
  (∀ t c s i a r w, a = s.at_ t → s.rb Reg.KPR_DBG_STAT.HALTED = false → a.rb Reg.KPR_DBG_STAT.HALTED = false →
    Accepted t (specUpd 2 c) c s i → a.updRefuse 0 2 (mailBank c) (mailArg c) 0 = none → (r, w) = a.updEnd →
    Completes (exec (.updateEnd t c) s) i r w) ∧
  (∀ t c s i a, a = s.at_ t → s.rb Reg.KPR_DBG_STAT.HALTED = false → a.rb Reg.KPR_DBG_STAT.HALTED = false →
    Accepted t (specUpd 3 c) c s i → a.updRefuse 0 3 (mailBank c) (mailArg c) 0 = none →
    Completes (exec (.updateActivate t c) s) i Reply.ok (a.updActivate (mailBank c))) ∧
  (∀ t c s i a, a = s.at_ t → s.rb Reg.KPR_DBG_STAT.HALTED = false → a.rb Reg.KPR_DBG_STAT.HALTED = false →
    Accepted t (specUpd 6 c) c s i → a.updRefuse 0 6 (mailBank c) (mailArg c) 0 = none →
    Completes (exec (.updateCancel t c) s) i Reply.ok a.updClose) ∧
  (∀ t c s i a k o, (k, o) ∈ [(0, Instr.updateBegin t c), (1, Instr.updateData t c)] → a = s.at_ t → s.kpr.nor = none →
    a.rb Reg.KPR_DBG_STAT.HALTED = true →
    Accepted t (specUpd k c) c s i → a.updRefuse 0 k (mailBank c) (mailArg c) (if k = 1 then c.bufLen else 0) = none →
    ∃ q : NorOp, q = { src := 0, ring := c.ring, tag := c.tag, sub := k, bank := mailBank c, arg := mailArg c,
                       n := if k = 1 then c.bufLen else 0, data := c.inp } ∧
      StaysInFlight (exec o s) i (a.onKpr fun x => { x with nor := some q })) ∧
  (∀ t c s i a, a = s.at_ t → s.rb Reg.KPR_DBG_STAT.HALTED = false → Accepted t (specLogRead c) c s i →
    Completes (exec (.logRead t c) s) i (Reply.with2 (a.logRead (c.w 0x10) c.bufLen).1.length (a.logRead (c.w 0x10) c.bufLen).2)
      (a.bufPut c (64 * (a.logRead (c.w 0x10) c.bufLen).1.length) (krecBytes (a.logRead (c.w 0x10) c.bufLen).1))) ∧
  (∀ t c s i a, a = s.at_ t → s.rb Reg.KPR_DBG_STAT.HALTED = false → Accepted t (specSensorRead c) c s i →
    Completes (exec (.sensorRead t c) s) i (Reply.with2 1360 0) (a.bufPut c 1360 a.sensBytes)) ∧
  (∀ t s a u, a = s.at_ t → a.kpr.update = some u → a.keeperRuns = true → u.at_ + ofS 600 ≤ a.tim.now →
    Ends (exec (.updateIdleTimeout t) s) a.updClose) ∧
  (∀ t k s a o, a = s.at_ t → a.kpr.nor = some o → Ends (exec (.norWindowExpire t k) s)
    ((((a.bump Reg.KPR_SEQ_ABORT_CNT.COUNT).raise Ev.KPR_SEQ_ABORT 0 [if k = 2 then 2 else 1]).updClose).norReply o (Reply.of 12)))

/-- Each row of sessions and of operations over a management or debug port under the conditions stated answers the next state given. -/
def Obligations.ManagementRowsTakeEffect : Prop :=
  (∀ t p conn s a x n w, a = s.at_ t → a.portTakes p conn = true → x = (a.fresh.2.session p).getD
      { conn := conn, nonce := 0, auth := false, secure := false, notAfter := 0, at_ := 0 } → n = a.fresh.1 % 2 ^ 384 →
    w = a.fresh.2.setSession p (some { x with nonce := n, at_ := a.fresh.2.tim.now }) →
    Ends (exec (.mgmtHello t p conn) s)
      (w.portReply p 0 0 (if p = 2 then w.rf Reg.KPR_FW_VER.VERSION else 0) 0 51 (beBytes 3 w.node + n * 2 ^ 24))) ∧
  (∀ t p conn cred sig s a x, a = s.at_ t → a.portTakes p conn = true → a.session p = some x → a.credOk p x.nonce cred sig = true →
    Ends (exec (.mgmtAuth t p conn cred sig) s)
      (((a.setSession p (some { x with auth := true, secure := nget Cred.WORLD cred == 1, notAfter := nget Cred.NOT_AFTER cred,
                                       at_ := a.tim.now })).sessionEvent p 0 (nget Cred.WORLD cred == 1)).portReply p 1 0 0 0 0 0)) ∧
  (∀ t p conn cred sig s a, a = s.at_ t → a.portTakes p conn = true →
    (a.session p = none ∨ ∃ x, a.session p = some x ∧ a.credOk p x.nonce cred sig = false) →
    Ends (exec (.mgmtAuth t p conn cred sig) s) (a.authFail p (nget Cred.WORLD cred == 1))) ∧
  (∀ t p conn sub bank arg n data s a x w, a = s.at_ t → p ≤ 1 → bank ≤ 1 → sub ≤ 6 → a.portTakes p conn = true →
    a.session p = some x → x.auth = true → w = a.setSession p (some { x with at_ := a.tim.now }) →
    (x.secure = true ∨ w.blockSecure (if sub = 4 ∨ sub = 5 then 42 else 43) = false) →
    (w.rf Reg.KPR_STAT.STATE ≠ 2 ∨ (sub ≠ 4 ∧ sub ≠ 5)) →
    Ends (exec (.mgmtMailbox t p conn sub bank arg n data) s) (w.mgmtMail p sub bank arg n data)) ∧
  (∀ t p conn sub bank arg n data s a x w, a = s.at_ t → p ≤ 1 → bank ≤ 1 → a.portTakes p conn = true →
    a.session p = some x → x.auth = false → w = a.setSession p (some { x with at_ := a.tim.now }) →
    Ends (exec (.mgmtMailbox t p conn sub bank arg n data) s) (w.mailReply p (Reply.of 3))) ∧
  (∀ t p conn s a x, a = s.at_ t → a.session p = some x → x.conn = conn →
    Ends (exec (.mgmtClose t p conn) s) ((a.sessionClose p).portReply p 3 0 0 0 0 0)) ∧
  (∀ t p s a x, a = s.at_ t → a.session p = some x → p < 2 → x.at_ + ofS 60 ≤ a.tim.now →
    Ends (exec (.mgmtSessionIdle t p) s) (a.sessionClose p)) ∧
  (∀ t p s a, a = s.at_ t → tget 0 a.kpr.refuse p ≠ 0 → tget 0 a.kpr.refuse p ≤ a.tim.now + 1 →
    Ends (exec (.mgmtLockoutEnd t p) s) (a.onKpr fun k => { k with refuse := tset 0 k.refuse p 0 })) ∧
  (∀ t p n data s a, a = s.at_ t → p ≤ 1 → a.portServes p = true →
    Ends (exec (.mgmtArpIcmpEcho t p 0 n data) s) (a.portReply p 0x100 0 (a.rf (Reg.KPR_MGMT_IPV4.IPV4 p)) 0 0 0) ∧
    Ends (exec (.mgmtArpIcmpEcho t p 1 n data) s) (a.portReply p 0x101 0 0 0 n (data % 2 ^ (8 * n)))) ∧
  (∀ t s a, a = s.at_ t → a.debugSecure = true → a.keeperLive = true → a.rb Reg.KPR_DBG_STAT.HALTED = false →
    Ends (exec (.debugHalt t) s) ((a.wf Reg.KPR_DBG_STAT.HALTED 1).raise Ev.KPR_DBG_HALT 0 [0])) ∧
  (∀ t s a w, a = s.at_ t → a.debugSecure = true → a.rb Reg.KPR_DBG_STAT.HALTED = true →
    w = (a.wf Reg.KPR_DBG_STAT.HALTED 0).raise Ev.KPR_DBG_HALT 0 [1] →
    (w.kpr.nor = none → Ends (exec (.debugRun t false) s) w) ∧
    (∀ o, w.kpr.nor = some o → ∃ (r : Reply) (v : State), w.updDo o.src o.sub o.bank o.arg o.n o.data = (r, v) ∧
      Ends (exec (.debugRun t false) s) (v.norReply o r)) ∧
    Ends (exec (.debugRun t true) s) a) ∧
  (∀ t s a x, a = s.at_ t → a.session 2 = some x → x.auth = true → x.notAfter < a.lwt →
    Ends (exec (.debugSessionExpire t) s) (a.sessionClose 2))

/-- Resets of the Keeper, sensors, fans, the Keeper log, the stores and the sounder rail: each row under the conditions stated answers
the next state given. -/
def Obligations.KeeperRowsTakeEffect : Prop :=
  (∀ t s a, a = s.at_ t → s.pwr.lshipUp = true → a.debugSecure = true → Ends (exec (.keeperReset t) s) (a.keeperReset 5)) ∧
  (∀ t last s a w, a = s.at_ t → a.keeperLive = true → a.rb Reg.KPR_DBG_STAT.HALTED = false →
    last + ofMs (a.rf Reg.KPR_WDOG.TIMEOUT_MS) ≤ a.tim.now → w = (a.bump Reg.KPR_WDOG_CNT.COUNT).keeperReset 1 →
    Ends (exec (.keeperWatchdog ⟨t, last⟩) s) (w.onKpr fun k => { k with owed := some (Ev.KPR_WDOG, a.rf Reg.KPR_WDOG.TIMEOUT_MS) })) ∧
  (∀ t pc s a, a = s.at_ t → a.keeperLive = true → Ends (exec (.lockstepFault t pc) s)
    (((a.bump Reg.KPR_LOCKSTEP_CNT.COUNT).keeperReset 2).onKpr fun k => { k with owed := some (Ev.KPR_LOCKSTEP, pc) })) ∧
  (∀ t s a, a = s.at_ t → a.keeperLive = true → Ends (exec (.eccError t) s) (a.keeperReset 3)) ∧
  (∀ t k s a, a = s.at_ t → s.pwr.lshipUp = true → a.kpr.chosen = false → Ends (exec (.maskRomBoot t k) s) (a.romBoot k)) ∧
  (∀ t bad s a, a = s.at_ t → a.keeperLive = true → a.ready 0 = false →
    (a.ready 1 = false → Ends (exec (.keeperReady t bad) s) a.lshipStart) ∧
    (a.ready 1 = true → Ends (exec (.keeperReady t bad) s) (a.keeperUp.reloadCopies (if a.pwr.mainUp then [] else bad)))) ∧
  (∀ t s a b k n, a = s.at_ t → a.kpr.boot = some b → b.trial = true → a.keeperRuns = true → a.kpr.readyAt + ofS 600 ≤ a.tim.now →
    k = a.rf Reg.KPR_STAT.RUN_BANK → n = max a.kpr.svn (a.bank k).svn → Ends (exec (.trialEnd t) s)
      ((((a.setBoot { b with trial := false }).onKpr fun x => { x with svn := n }).wf Reg.KPR_STAT.SVN_CNT n).raise Ev.KPR_TRIAL_END k [n])) ∧
  (∀ t n raw flt s a x out b w, a = s.at_ t → s.pwr.lshipUp = true → n ≤ 84 → ((x, out), b) = a.sensRead n raw →
    w = b.wf (Reg.KPR_SENS.VALUE n) x →
    (w.keeperRuns = false → Ends (exec (.sensorLimit t n raw flt) s) w) ∧
    (∀ lo hi f, w.keeperRuns = true → w.sensFlags n x (flt || out) = (lo, hi, f) → w.rf (Reg.KPR_SENS.LOW n) = lo →
      (w.wf (Reg.KPR_SENS.LOW n) lo).rf (Reg.KPR_SENS.HIGH n) = hi →
      ((w.wf (Reg.KPR_SENS.LOW n) lo).wf (Reg.KPR_SENS.HIGH n) hi).rf (Reg.KPR_SENS.FAULT n) = f →
      Ends (exec (.sensorLimit t n raw flt) s)
        (((w.wf (Reg.KPR_SENS.LOW n) lo).wf (Reg.KPR_SENS.HIGH n) hi).wf (Reg.KPR_SENS.FAULT n) f)) ∧
    (∀ lo hi f, w.keeperRuns = true → w.sensFlags n x (flt || out) = (lo, hi, f) → w.rf (Reg.KPR_SENS.LOW n) = lo →
      (w.wf (Reg.KPR_SENS.LOW n) lo).rf (Reg.KPR_SENS.HIGH n) = 0 → hi = 1 →
      (((w.wf (Reg.KPR_SENS.LOW n) lo).wf (Reg.KPR_SENS.HIGH n) hi).sensEvent n 1 x).rf (Reg.KPR_SENS.FAULT n) = f →
      Ends (exec (.sensorLimit t n raw flt) s)
        ((((w.wf (Reg.KPR_SENS.LOW n) lo).wf (Reg.KPR_SENS.HIGH n) hi).sensEvent n 1 x).wf (Reg.KPR_SENS.FAULT n) f))) ∧
  (∀ t n rpm ma s a, a = s.at_ t → n ≤ 3 → a.fanState n = 1 → a.keeperRuns = true → a.fanSince n + ofS 2 ≤ a.tim.now →
    (a.fanSlow n rpm = false → Ends (exec (.fanStartJudge t n rpm ma) s) ((a.fanRead n rpm ma).fanTo n 3)) ∧
    (a.fanSlow n rpm = true → a.fanSince n + ofS 3 ≤ a.tim.now → (a.fanRead n rpm ma).rf (Reg.KPR_FAN.ATTEMPT n) < 3 →
      Ends (exec (.fanStartJudge t n rpm ma) s) ((a.fanRead n rpm ma).fanTo n 2)) ∧
    (∀ k, a.fanSlow n rpm = true → a.fanSince n + ofS 3 ≤ a.tim.now → (a.fanRead n rpm ma).rf (Reg.KPR_FAN.ATTEMPT n) = k → 3 ≤ k →
      Ends (exec (.fanStartJudge t n rpm ma) s) (((a.fanRead n rpm ma).fanTo n 5).raise Ev.KPR_FAN_STALL n [k, ma]))) ∧
  (∀ t n s a, a = s.at_ t → n ≤ 3 → a.fanState n = 2 → a.keeperRuns = true → a.fanSince n + ofS 10 ≤ a.tim.now →
    Ends (exec (.fanRetryWaitEnd t n) s) (a.fanStart n (a.rf (Reg.KPR_FAN.ATTEMPT n) + 1))) ∧
  (∀ t n rpm ma s a w, a = s.at_ t → n ≤ 3 → a.fanState n = 3 → a.keeperRuns = true → a.fanSince n + ofS 1 ≤ a.tim.now →
    w = a.fanRead n rpm ma →
    (w.fanSlow n rpm = true → w.fanInBand n ma = false → Ends (exec (.fanStallDetect t n rpm ma) s)
      ((w.fanTo n 5).raise Ev.KPR_FAN_STALL n [w.rf (Reg.KPR_FAN.ATTEMPT n), ma])) ∧
    (∀ d, w.fanSlow n rpm = true → w.fanInBand n ma = true → d = min 100 (w.rf (Reg.KPR_FAN.DRIVE n) + 20) →
      Ends (exec (.fanStallDetect t n rpm ma) s)
        (((w.onKpr fun k => { k with fanHeld := tset 0 k.fanHeld n d }).fanTo n 4).raise Ev.KPR_TACH_LOST n [d])) ∧
    (w.fanSlow n rpm = false → w.fanInBand n ma = true →
      Ends (exec (.fanStallDetect t n rpm ma) s) (w.wf (Reg.KPR_FAN.CUR_WARN n) 0)) ∧
    (w.fanSlow n rpm = false → w.fanInBand n ma = false → w.rb (Reg.KPR_FAN.CUR_WARN n) = false →
      Ends (exec (.fanStallDetect t n rpm ma) s) ((w.wf (Reg.KPR_FAN.CUR_WARN n) 1).raise Ev.KPR_FAN_CURRENT n [ma]))) ∧
  (∀ t n rpm ma s a, a = s.at_ t → n ≤ 3 → a.fanState n = 4 → a.fanSlow n rpm = false → a.keeperRuns = true →
    a.fanSince n + ofS 10 ≤ a.tim.now →
    Ends (exec (.fanTachRecover t n rpm ma) s) (((a.fanRead n rpm ma).fanTo n 3).raise Ev.KPR_FAN_OK n [rpm])) ∧
  (∀ t s a, a = s.at_ t → a.keeperRuns = true →
    Ends (exec (.fanCurveUpdate t) s) (a.fanDrives ((List.range 4).filter fun n => a.fanState n == 3))) ∧
  (∀ t s a c i p l, a = s.at_ t → a.kpr.logPend = (c, i, p) :: l → a.keeperRuns = true →
    Ends (exec (.keeperLogWrite t) s) ((a.onKpr fun k => { k with logPend := l }).logWrite c i p)) ∧
  (∀ t off items pct s a r w, a = s.at_ t → s.pwr.lshipUp = true → storeRegion off = some r →
    w = (a.bump Reg.KPR_STORE_ERR_CNT.COUNT).wf Reg.KPR_STORE_SPARE.PCT (min pct (a.rf Reg.KPR_STORE_SPARE.PCT)) →
    Ends (exec (.storeBlockRetire t off items pct) s) ((w.regionLose r items).raise Ev.KPR_STORE_ERR off
      [r, b2n (a.rf Reg.KPR_STORE_SPARE.PCT == 0)])) ∧
  (∀ t s a, a = s.at_ t → s.pwr.lshipUp = true → a.kpr.foldAt = 0 →
    Ends (exec (.sounderFoldback t) s) (a.onKpr fun k => { k with foldAt := a.tim.now + 1 })) ∧
  (∀ t s a, a = s.at_ t → a.kpr.foldAt ≠ 0 → a.kpr.foldAt - 1 + ofS 5 ≤ a.tim.now →
    Ends (exec (.sounderFoldbackEnd t) s) (a.onKpr fun k => { k with foldAt := 0 }))

/-- Each row of register accesses under the conditions stated answers the next state given: a write that reaches a register that takes no
twin, reads with and without side effects, the read of a word part of whose fields is of a secure block (those read as zero and the
access is denied for them), and the rows that name one register. -/
def Obligations.RegisterAccessesTakeEffect : Prop :=
  (∀ t req off o v s a r, a = s.at_ t → WriteReaches req off o r a → TwinTaken req o r = false →
    Ends (exec (.registerWrite t req off 4 v) s) (a.regCommit req o (v % 2 ^ 32))) ∧
  (∀ t req v s a r, a = s.at_ t → WriteReaches req 0x20008 0x20008 r a → TwinTaken req 0x20008 r = false →
    Ends (exec (.almSpillExitWrite t req v) s) (a.regCommit req 0x20008 (v % 2 ^ 32))) ∧
  (∀ t req v s a r, a = s.at_ t → WriteReaches req 0x30000 0x30000 r a → TwinTaken req 0x30000 r = false →
    Ends (exec (.suppEnChange t req v) s) (a.regCommit req 0x30000 (v % 2 ^ 32)).bcnSettle ∧
    Ends (exec (.floodEnClear t req none v) s) (a.regCommit req 0x30000 (v % 2 ^ 32)).bcnSettle) ∧
  (∀ t req n v s a r, a = s.at_ t → n < 256 → WriteReaches req (0x31000 + 16 * n) (0x31000 + 16 * n) r a →
    TwinTaken req (0x31000 + 16 * n) r = false →
    Ends (exec (.floodEnClear t req (some n) v) s) (a.regCommit req (0x31000 + 16 * n) (v % 2 ^ 32)).bcnSettle) ∧
  (∀ t req v s a r, a = s.at_ t → WriteReaches req 0xC0000 0xC0000 r a → TwinTaken req 0xC0000 r = false →
    Ends (exec (.panelEnWrite t req v) s) (a.regCommit req 0xC0000 (v % 2 ^ 32)) ∧
    Ends (exec (.retainWrite t req v) s) (a.regCommit req 0xC0000 (v % 2 ^ 32))) ∧
  (∀ t req n v s a r, a = s.at_ t → n < 16 → WriteReaches req (0xB0700 + 16 * n) (0xB0700 + 16 * n) r a →
    TwinTaken req (0xB0700 + 16 * n) r = false →
    Ends (exec (.hartTxWrite t req n v) s) (a.regCommit req (0xB0700 + 16 * n) (v % 2 ^ 32))) ∧
  (∀ t req n v s a r, a = s.at_ t → n < 4 → WriteReaches req (0xE2000 + 16 * n) (0xE2000 + 16 * n) r a →
    TwinTaken req (0xE2000 + 16 * n) r = false →
    Ends (exec (.fanRestart t req n v) s) (a.regCommit req (0xE2000 + 16 * n) (v % 2 ^ 32))) ∧
  (∀ t req v s a r, a = s.at_ t → WriteReaches req 0xF0008 0xF0008 r a → TwinTaken req 0xF0008 r = false →
    Ends (exec (.rtcCapture t req v) s) (a.regCommit req 0xF0008 (v % 2 ^ 32))) ∧
  (∀ t req v s a r, a = s.at_ t → WriteReaches req 0xF008C 0xF008C r a → TwinTaken req 0xF008C r = false →
    Ends (exec (.pwronRelease t req v) s) (a.regCommit req 0xF008C (v % 2 ^ 32))) ∧
  (∀ t req off o quiet s a x b, a = s.at_ t → a.mayAccess req = true → off % 4 = 0 → regAddr req off = some o → a.regServed o = true →
    (findReg o).isSome = true → a.regOpen req o = (true, a) → a.hidden req o = [] → a.regTake o (quiet || decide (66 ≤ req)) = (x, b) →
    Ends (exec (.rcFieldRead t req off 4 quiet) s) (b.onHif fun h => { h with readOut := tset 0 h.readOut req x }) ∧
    (off = 0x20048 → Ends (exec (.almSeqLoRead t req quiet) s) (b.onHif fun h => { h with readOut := tset 0 h.readOut req x })) ∧
    (∀ n, n < 16 → off = 0xB0704 + 16 * n →
      Ends (exec (.hartRxRead t req n quiet) s) (b.onHif fun h => { h with readOut := tset 0 h.readOut req x }))) ∧
  (∀ t req off o quiet s a x y b w f l, a = s.at_ t → a.mayAccess req = true → off % 4 = 0 → regAddr req off = some o →
    a.regServed o = true → (findReg o).isSome = true → a.regOpen req o = (true, a) → a.hidden req o = f :: l →
    a.regTake o (quiet || decide (66 ≤ req)) = (x, b) → y = x &&& (2 ^ 32 - 1 - (f :: l).foldl (fun m g => m ||| g.mask) 0) →
    w = b.denied req 1 (fieldBlock o f.lo) o 1 →
    Ends (exec (.rcFieldRead t req off 4 quiet) s) (w.onHif fun h => { h with readOut := tset 0 h.readOut req y }))

/-- Each row of twin writes under the conditions stated answers the next state given: the first word, the second word that matches and
that does not, the expiry, the rows that take a second word, and the scrub of held twins. -/
def Obligations.TwinWritesTakeEffect : Prop :=
  (∀ t req off v s a r, a = s.at_ t → WriteReaches req off off r a → TwinTaken req off r = true → (a.twSeq req).open_ = false →
    isTw off = true → Ends (exec (.twinWriteOpen t req off v) s) (a.setTwSeq req ⟨true, off, v % 2 ^ 32, a.tim.now⟩)) ∧
  (∀ t req off v s a r, a = s.at_ t → PairCloses req off v r a →
    Ends (exec (.twinWriteClose t req off v) s) ((a.seqShut req).regCommit req off (a.twSeq req).v)) ∧
  (∀ t req off v s a r, a = s.at_ t → WriteReaches req off off r a → TwinTaken req off r = true → a.seqAt req off = true →
    twinOk (a.twSeq req).v (v % 2 ^ 32) = false →
    Ends (exec (.twinWriteClose t req off v) s) ((a.seqShut req).pairFail (a.twSeq req) (v % 2 ^ 32))) ∧
  (∀ t req s a, a = s.at_ t → req < 2 → (a.twSeq req).open_ = true → (a.twSeq req).t + ofUs 256 < a.tim.now →
    Ends (exec (.twinWriteTimeout t req) s) (((a.seqShut req).bump Reg.WLD_TW_TMO_CNT.COUNT).twinEvent (a.twSeq req).off
      (regBlock (a.twSeq req).off) (a.twSeq req).v (a.twSeq req).v)) ∧
  (∀ t req v s a r, a = s.at_ t →
    (PairCloses req 0xA0000 v r a →
      Ends (exec (.wldLockSet t req v) s) ((a.seqShut req).regCommit req 0xA0000 (a.twSeq req).v)) ∧
    (∀ k off, off = 0xA0008 + 4 * (k % 2) + 16 * (k / 2 % 2) → PairCloses req off v r a →
      Ends (exec (.wldWorldChange t req k v) s) ((a.seqShut req).regCommit req off (a.twSeq req).v)) ∧
    (∀ n, n < 256 → PairCloses req (0xA1000 + 16 * n) v r a →
      Ends (exec (.wldHregApply t req n v) s) ((a.seqShut req).regCommit req (0xA1000 + 16 * n) (a.twSeq req).v)) ∧
    (PairCloses req 0x50000 v r a →
      Ends (exec (.holdAllSet t req v) s) ((a.seqShut req).regCommit req 0x50000 (a.twSeq req).v)) ∧
    (PairCloses req 0xE0100 v r a →
      Ends (exec (.kprRestart t req v) s) ((a.seqShut req).regCommit req 0xE0100 (a.twSeq req).v)) ∧
    (PairCloses req 0xF003C v r a →
      Ends (exec (.rtcSet t req v) s) ((a.seqShut req).regCommit req 0xF003C (a.twSeq req).v)) ∧
    (PairCloses req 0xF0040 v r a →
      Ends (exec (.rtcShift t req v) s) ((a.seqShut req).regCommit req 0xF0040 (a.twSeq req).v))) ∧
  (∀ t off x y img s a m v n, a = s.at_ t → (if mainReg off then a.pwr.mainUp else a.pwr.lshipUp) = true →
    m = fieldMask off (fun f => f.rest == .twin) → m ≠ 0 → v = (a.rd off).toNat ^^^ (x % 2 ^ 32) → n = (a.rdN off).toNat ^^^ (y % 2 ^ 32) →
    (v ^^^ n) &&& m ≠ m → (img = false ∨ a.img.use = 0) →
    Ends (exec (.heldTwinScrub t [(off, x, y)] img) s) (((a.wr off (maskInto m (facWord off).toNat (a.rd off))).bump
      Reg.WLD_HELD_TWIN_CNT.COUNT).twinEvent off (regBlock off) n v))

/-- Switchover, the measurement of the cell, power-on reset, the crystal's failure and return, the trim windows, the alarm and the
power-on pulse: each row under the conditions stated answers the next state given. -/
def Obligations.BackupRowsTakeEffect : Prop :=
  (∀ t s a, a = s.at_ t → s.pwr.lshipUp = true → Ends (exec (.backupSwitchover t) s) (a.wf Reg.BKP_STAT.ON_VBAK 0)) ∧
  (∀ t s a b c, a = s.at_ t → s.pwr.lshipUp = false → a.rb Reg.BKP_STAT.ON_VBAK = false →
    b = (a.wf Reg.BKP_STAT.ON_VBAK 1).bump Reg.BKP_SWO_CNT.COUNT → b.rb Reg.BKP_STAT.SWO = false → c = b.rtcNow.bkp.rtc →
    ∀ w : State, w = (((b.rtcNow.wf Reg.BKP_SWO_SUB.SUB (rtcSub c)).wf Reg.BKP_SWO_SEC_LO.SEC (rtcSec c)).wf Reg.BKP_SWO_SEC_HI.SEC
        (rtcSec c / 2 ^ 32)).wf Reg.BKP_STAT.SWO 1 →
      ∀ sec sub, sec = w.rf Reg.BKP_SWO_SEC_LO.SEC + w.rf Reg.BKP_SWO_SEC_HI.SEC * 2 ^ 32 → sub = w.rf Reg.BKP_SWO_SUB.SUB →
        Ends (exec (.backupSwitchover t) s)
          (w.bkpRaise Ev.BKP_SWITCHOVER sec [sub, w.rf Reg.BKP_SWO_CNT.COUNT] (rtcWt (sec * 32768 + sub) + 1))) ∧
  (∀ t mv s a w, a = s.at_ t → s.pwr.lshipUp = true → a.bkp.vbakNext ≤ a.tim.now →
    w = (a.wf Reg.BKP_VBAK_MV.MV (min mv 4095)).onBkp (fun b => { b with
      vbakLow := if mv < 2200 then a.bkp.vbakLow + 1 else 0
      vbakHigh := if 2300 ≤ mv then a.bkp.vbakHigh + 1 else 0
      vbakNext := a.tim.now + ofS 60 }) →
    (mv < 2200 → 2 ≤ a.bkp.vbakLow → w.rb Reg.BKP_STAT.VBAK_LOW = false →
      Ends (exec (.vbakMeasure t mv) s) ((w.wf Reg.BKP_STAT.VBAK_LOW 1).bkpRaise Ev.BKP_VBAK_LOW 0 [mv] 0)) ∧
    (2300 ≤ mv → 2 ≤ a.bkp.vbakHigh → Ends (exec (.vbakMeasure t mv) s) (w.wf Reg.BKP_STAT.VBAK_LOW 0)) ∧
    (2200 ≤ mv → mv < 2300 → Ends (exec (.vbakMeasure t mv) s) w)) ∧
  (∀ t s, Ends (exec (.backupPor t) s) (s.at_ t).bkpPor) ∧
  (∀ t s w, w = (s.at_ t).rtcNow → w.rb Reg.BKP_STAT.OSC_FAIL = false → Ends (exec (.crystalFail t) s)
    (((w.wf Reg.BKP_STAT.OSC_FAIL 1).wf Reg.BKP_STAT.OSC_STOP 1).bkpRaise Ev.BKP_OSC_STOP 0 [0] 0)) ∧
  (∀ t s, Ends (exec (.crystalReturn t) s) ((s.at_ t).rtcNow.wf Reg.BKP_STAT.OSC_FAIL 0)) ∧
  (∀ t watch n segs cut s a b m spread src r reason bad, a = (s.at_ t).rtcNow → src = a.rf Reg.BKP_TRIM_CTRL.TRIM_SRC →
    r = (if src = 0 then watch else a.bkp.winWatch) → bad = (cut || segs.length != 100 || a.bkp.winBad || !a.pwr.lshipUp || (r && (a.bkp.wtBad || !a.wtQualifies))) →
    b = a.fresh.2.fresh.2 → m = (if bad then sext 17 a.fresh.1 else trimMeasured n) →
    spread = (if bad then a.fresh.2.fresh.1 % 2 ^ 20 else trimSpread segs) → reason = b.trimReason r bad m spread →
    ∀ w : State, w = ((((b.wf Reg.BKP_TRIM_MEAS.M (if m.natAbs ≤ 65535 then ofInt 17 m else a.fresh.1)).wf Reg.BKP_TRIM_MEAS.SRC
        (if r then 2 else 1)).wf Reg.BKP_TRIM_MEAS.REASON reason).wf Reg.BKP_TRIM_SPREAD.SPREAD (min spread (2 ^ 20 - 1))).trimBegin →
      ∀ v : State, v = (if reason = 0 then (if src = 0 then w else (w.wf Reg.BKP_TRIM.TRIM (ofInt 17 m)).wf Reg.BKP_STAT.TRIM_VALID 1).bkpRaise
          Ev.BKP_TRIM 0 [if r then 2 else 1, ofInt 32 b.trim, ofInt 32 (if src = 0 then b.trim else m)] 0
        else w.bkpRaise Ev.BKP_TRIM_REJECT 0 [if r then 2 else 1, reason, ofInt 32 m] 0) →
      Ends (exec (.trimWindowEnd t watch n segs cut) s) (if r = true ∧ bad = false then v.rtcAuto else v)) ∧
  (∀ t s, Ends (exec (.calendarAlarm t) s) (s.at_ t).rtcNow.alarmCheck) ∧
  (∀ t s a, a = s.at_ t → a.bkp.pulseEnd ≠ 0 → a.bkp.pulseEnd ≤ a.tim.now + 1 → Ends (exec (.pwronPulseEnd t) s)
    ((a.wf Reg.BKP_PWRON_STAT.ACTIVE 0).onBkp fun b =>
      { b with pulseEnd := 0, holdEnd := a.bkp.pulseEnd + ofS (a.rf Reg.BKP_PWRON_CTRL.HOLDOFF_S) })) ∧
  (∀ t s a w, a = s.at_ t → a.bkp.holdEnd ≠ 0 → a.bkp.holdEnd ≤ a.tim.now + 1 → w = a.onBkp (fun b => { b with holdEnd := 0 }) →
    (w.rb Reg.BKP_PWRON_STAT.PENDING = true → Ends (exec (.pwronHoldoffEnd t) s) (w.wf Reg.BKP_PWRON_STAT.PENDING 0).pwronAssert) ∧
    (w.rb Reg.BKP_PWRON_STAT.PENDING = false → Ends (exec (.pwronHoldoffEnd t) s) w))
end

