-- ==== Sys2Proof/Laws/Fields.lean ====
section
/-! SUPPORT. Bit fields of a record: a field reads as it was written, and a write leaves every other field alone. -/

namespace Sys2Proof

open Sys2Proof.Machine

theorem testBit_fget {n : Nat} (f : Fld) (r : BitVec n) (i : Nat) :
    (fget f r).testBit i = (decide (i < f.w) && r.getLsbD (f.lo + i)) := by
  unfold fget
  rw [Nat.testBit_mod_two_pow, Nat.testBit_shiftRight, BitVec.testBit_toNat]

theorem getLsbD_fput {n : Nat} (f : Fld) (v : Nat) (r : BitVec n) (i : Nat) (hi : i < n) :
    (fput f v r).getLsbD i = if f.lo ≤ i ∧ i < f.lo + f.w then v.testBit (i - f.lo) else r.getLsbD i := by
  unfold fput
  rw [BitVec.getLsbD_or, BitVec.getLsbD_and, BitVec.getLsbD_not, BitVec.getLsbD_ofNat, BitVec.getLsbD_ofNat,
    Nat.testBit_shiftLeft, Nat.testBit_shiftLeft, Nat.testBit_two_pow_sub_one, Nat.testBit_mod_two_pow]
  by_cases h1 : f.lo ≤ i
  · by_cases h2 : i < f.lo + f.w
    · have h3 : i - f.lo < f.w := by omega
      simp [hi, h1, h2, h3]
    · have h3 : ¬ i - f.lo < f.w := by omega
      simp [hi, h1, h2, h3]
  · simp [hi, h1]

/-- A field reads as written. -/
theorem fget_fput_self {n : Nat} (f : Fld) (v : Nat) (r : BitVec n) (h : f.lo + f.w ≤ n) : fget f (fput f v r) = v % 2 ^ f.w := by
  apply Nat.eq_of_testBit_eq
  intro i
  rw [testBit_fget, Nat.testBit_mod_two_pow]
  by_cases hi : i < f.w
  · rw [getLsbD_fput _ _ _ _ (by omega), if_pos (by omega), Nat.add_sub_cancel_left]
  · simp [hi]

/-- A write leaves the other fields of its record alone. -/
theorem fget_fput_ne {n : Nat} (g f : Fld) (v : Nat) (r : BitVec n) (h : g.lo + g.w ≤ f.lo ∨ f.lo + f.w ≤ g.lo) :
    fget g (fput f v r) = fget g r := by
  apply Nat.eq_of_testBit_eq
  intro i
  rw [testBit_fget, testBit_fget]
  by_cases hi : i < g.w
  · by_cases hn : g.lo + i < n
    · rw [getLsbD_fput _ _ _ _ hn, if_neg (by omega)]
    · rw [BitVec.getLsbD_of_ge _ _ (by omega), BitVec.getLsbD_of_ge _ _ (by omega)]
  · simp [hi]

end Sys2Proof
end

