-- ==== Sys2Proof/Laws/Tab.lean ====
section
/-! SUPPORT. What reading and writing a sparse table does: a read after a write, and the canonical form kept. -/

namespace Sys2Proof.Machine

variable {α : Type}

theorem tget_tins_self (d v : α) (t : Tab α) (k : Nat) : tget d (tins v t k) k = v := by
  induction t with
  | nil => simp [tins, tget]
  | cons e t ih =>
    obtain ⟨i, w⟩ := e
    simp only [tins]
    split
    · simp [tget]
    · split
      · simp [tget]
      · rename_i h
        simp [tget, ih]
        intro e
        exact absurd (by simp [e]) h

theorem tget_tins_ne (d v : α) (t : Tab α) {j k : Nat} (h : j ≠ k) : tget d (tins v t k) j = tget d t j := by
  induction t with
  | nil => simp [tins, tget, Ne.symm h]
  | cons e t ih =>
    obtain ⟨i, w⟩ := e
    simp only [tins]
    split
    · simp [tget, Ne.symm h]
    · split
      · rename_i e
        have e : i = k := by simpa using e
        subst e
        simp [tget, Ne.symm h]
      · simp [tget, ih]

theorem tget_tdel_ne (d : α) (t : Tab α) {j k : Nat} (h : j ≠ k) : tget d (tdel t k) j = tget d t j := by
  induction t with
  | nil => rfl
  | cons e t ih =>
    obtain ⟨i, w⟩ := e
    simp only [tdel]
    split
    · rename_i e
      have e : i = k := by simpa using e
      subst e
      simp [tget, Ne.symm h]
    · simp [tget, ih]

theorem tget_below [DecidableEq α] {d : Nat → α} {lo : Nat} {t : Tab α} (h : twfFrom d lo t = true) {k : Nat} (hk : k < lo) (e : α) :
    tget e t k = e := by
  induction t generalizing lo with
  | nil => rfl
  | cons p t ih =>
    obtain ⟨i, v⟩ := p
    simp only [twfFrom, Bool.and_eq_true, decide_eq_true_eq] at h
    have : i ≠ k := by omega
    simp [tget, this]
    exact ih h.2 (by omega)

theorem tget_tdel_self [DecidableEq α] {d : Nat → α} {lo : Nat} {t : Tab α} (h : twfFrom d lo t = true) (k : Nat) (e : α) :
    tget e (tdel t k) k = e := by
  induction t generalizing lo with
  | nil => rfl
  | cons p t ih =>
    obtain ⟨i, v⟩ := p
    simp only [twfFrom, Bool.and_eq_true, decide_eq_true_eq] at h
    simp only [tdel]
    split
    · rename_i c
      have c : i = k := by simpa using c
      exact tget_below h.2 (by omega) e
    · rename_i c
      have c : i ≠ k := by simpa using c
      simp [tget, c]
      exact ih h.2

/-- A read of another key after a write. -/
theorem tget_tset_ne [DecidableEq α] (d v : α) (t : Tab α) {j k : Nat} (h : j ≠ k) : tget d (tset d t k v) j = tget d t j := by
  unfold tset
  split
  · exact tget_tdel_ne d t h
  · exact tget_tins_ne d v t h

theorem tget_tset_ne' [DecidableEq α] (d e v : α) (t : Tab α) {j k : Nat} (h : j ≠ k) : tget e (tset d t k v) j = tget e t j := by
  unfold tset
  split
  · exact tget_tdel_ne e t h
  · exact tget_tins_ne e v t h

/-- A read of the key after a write, in a canonical table. -/
theorem tget_tset_self [DecidableEq α] {d : Nat → α} {t : Tab α} (h : twf d t = true) (k : Nat) (v : α) :
    tget (d k) (tset (d k) t k v) k = v := by
  unfold tset
  split
  · rename_i e
    rw [e]
    exact tget_tdel_self h k (d k)
  · exact tget_tins_self (d k) v t k

/-- A read of the key after a write of what is not the table's default, in any table. -/
theorem tget_tset_some [DecidableEq α] (d v : α) (t : Tab α) (k : Nat) (h : v ≠ d) : tget d (tset d t k v) k = v := by
  unfold tset
  rw [if_neg h]
  exact tget_tins_self d v t k

theorem twfFrom_weaken [DecidableEq α] {d : Nat → α} {a b : Nat} {t : Tab α} (h : twfFrom d b t = true) (hab : a ≤ b) :
    twfFrom d a t = true := by
  cases t with
  | nil => rfl
  | cons p t =>
    obtain ⟨i, v⟩ := p
    simp only [twfFrom, Bool.and_eq_true, decide_eq_true_eq] at h ⊢
    exact ⟨⟨by omega, h.1.2⟩, h.2⟩

theorem twfFrom_tdel [DecidableEq α] {d : Nat → α} {lo : Nat} {t : Tab α} (h : twfFrom d lo t = true) (k : Nat) :
    twfFrom d lo (tdel t k) = true := by
  induction t generalizing lo with
  | nil => rfl
  | cons p t ih =>
    obtain ⟨i, v⟩ := p
    simp only [twfFrom, Bool.and_eq_true, decide_eq_true_eq] at h
    simp only [tdel]
    split
    · exact twfFrom_weaken h.2 (by omega)
    · simp only [twfFrom, Bool.and_eq_true, decide_eq_true_eq]
      exact ⟨h.1, ih h.2⟩

theorem twfFrom_tins [DecidableEq α] {d : Nat → α} {lo : Nat} {t : Tab α} (h : twfFrom d lo t = true) (k : Nat) (v : α)
    (hk : lo ≤ k) (hv : v ≠ d k) : twfFrom d lo (tins v t k) = true := by
  induction t generalizing lo with
  | nil => simp [tins, twfFrom, hk, hv]
  | cons p t ih =>
    obtain ⟨i, w⟩ := p
    simp only [twfFrom, Bool.and_eq_true, decide_eq_true_eq] at h
    simp only [tins]
    split
    · simp only [twfFrom, Bool.and_eq_true, decide_eq_true_eq]
      exact ⟨⟨hk, hv⟩, ⟨by omega, h.1.2⟩, h.2⟩
    · split
      · rename_i c
        have c : i = k := by simpa using c
        subst c
        simp only [twfFrom, Bool.and_eq_true, decide_eq_true_eq]
        exact ⟨⟨hk, hv⟩, h.2⟩
      · rename_i c
        have c : i ≠ k := by simpa using c
        simp only [twfFrom, Bool.and_eq_true, decide_eq_true_eq]
        exact ⟨h.1, ih h.2 (by omega)⟩

/-- A write keeps the canonical form. -/
theorem twf_tset [DecidableEq α] {d : Nat → α} {t : Tab α} (h : twf d t = true) (k : Nat) (v : α) :
    twf d (tset (d k) t k v) = true := by
  unfold tset
  split
  · exact twfFrom_tdel h k
  · rename_i e
    exact twfFrom_tins h k v (Nat.zero_le k) e

theorem twfFrom_filter [DecidableEq α] {d : Nat → α} {lo : Nat} {t : Tab α} (h : twfFrom d lo t = true) (p : Nat × α → Bool) :
    twfFrom d lo (t.filter p) = true := by
  induction t generalizing lo with
  | nil => rfl
  | cons q t ih =>
    obtain ⟨i, v⟩ := q
    simp only [twfFrom, Bool.and_eq_true, decide_eq_true_eq] at h
    rw [List.filter_cons]
    split
    · simp only [twfFrom, Bool.and_eq_true, decide_eq_true_eq]
      exact ⟨h.1, ih h.2⟩
    · exact twfFrom_weaken (ih h.2) (by omega)

/-- Dropping entries keeps the canonical form. -/
theorem twf_filter [DecidableEq α] {d : Nat → α} {t : Tab α} (h : twf d t = true) (p : Nat × α → Bool) : twf d (t.filter p) = true :=
  twfFrom_filter h p

/-- Bytes written keep the canonical form of host memory. -/
theorem memPut_wf (n : Nat) : ∀ (addr v : Nat) (m : Tab Byte), Memory.wf m = true → Memory.wf (memPut addr n v m) = true := by
  induction n with
  | zero => exact fun _ _ _ h => h
  | succ n ih => exact fun addr v m h => ih _ _ _ (twf_tset (d := fun _ => 0#8) h addr _)

/-- A byte outside those written reads as before. -/
theorem memPut_ne (n : Nat) : ∀ (addr v : Nat) (m : Tab Byte) (a : Nat), (a < addr ∨ addr + n ≤ a) →
    tget 0#8 (memPut addr n v m) a = tget 0#8 m a := by
  induction n with
  | zero => exact fun _ _ _ _ _ => rfl
  | succ n ih =>
    intro addr v m a h
    have e : tget 0#8 (memPut (addr + 1) n (v / 256) (tset 0#8 m addr (BitVec.ofNat 8 v))) a
        = tget 0#8 (tset 0#8 m addr (BitVec.ofNat 8 v)) a := ih _ _ _ _ (by omega)
    exact e.trans (tget_tset_ne _ _ _ (by omega))

/-- A byte of those written. -/
theorem memPut_at (n : Nat) : ∀ (addr v : Nat) (m : Tab Byte) (k : Nat), Memory.wf m = true → k < n →
    tget 0#8 (memPut addr n v m) (addr + k) = BitVec.ofNat 8 (v / 256 ^ k) := by
  induction n with
  | zero => exact fun _ _ _ _ _ h => absurd h (Nat.not_lt_zero _)
  | succ n ih =>
    intro addr v m k hm hk
    have hm' : Memory.wf (tset 0#8 m addr (BitVec.ofNat 8 v)) = true := twf_tset (d := fun _ => 0#8) hm addr _
    cases k with
    | zero =>
      have e : tget 0#8 (memPut (addr + 1) n (v / 256) (tset 0#8 m addr (BitVec.ofNat 8 v))) addr
          = tget 0#8 (tset 0#8 m addr (BitVec.ofNat 8 v)) addr := memPut_ne n _ _ _ _ (by omega)
      rw [Nat.add_zero, Nat.pow_zero, Nat.div_one]
      exact e.trans (tget_tset_self (d := fun _ => 0#8) hm addr _)
    | succ k =>
      have e := ih (addr + 1) (v / 256) (tset 0#8 m addr (BitVec.ofNat 8 v)) k hm' (by omega)
      rw [show addr + 1 + k = addr + (k + 1) by omega] at e
      refine e.trans ?_
      rw [Nat.div_div_eq_div_mul, Nat.pow_succ, Nat.mul_comm]

end Sys2Proof.Machine
end

