-- ==== Sys2Proof/Laws/Kept.lean ====
section
/-! SUPPORT. What a step leaves alone. `Kept m s u`: from `s` to `u` the queue of waiting commands is the same, time has not run back,
the tables that were canonical are so still, and every group of the state outside the set `m` (bit 0 for the first group) is the same.
Each operation of the model has one lemma, named after it, that says so for its own set. -/

namespace Sys2Proof.Machine

set_option Elab.async false

/-- Host memory is written only where `State.mayStore` says, and no place is added to it. -/
def Out (s u : State) : Prop := ∀ a, ¬ s.mayStore a → ¬ u.mayStore a ∧ u.hostByte a = s.hostByte a

theorem Out.refl (s : State) : Out s s := fun _ h => ⟨h, rfl⟩

theorem Out.trans {s t u : State} (h : Out s t) (k : Out t u) : Out s u := fun a w =>
  ⟨(k a (h a w).1).1, (k a (h a w).1).2.trans (h a w).2⟩

theorem Out.of_eq {s u : State} 
    (h : (u.hif.mem, u.hif.rings, u.hif.posted, u.hif.outBuf) = (s.hif.mem, s.hif.rings, s.hif.posted, s.hif.outBuf))
    (k : u.ldg.view = s.ldg.view) : Out s u := by
  simp only [Prod.mk.injEq] at h
  intro a w
  unfold State.mayStore State.hostByte at *
  rw [h.1, h.2.1, h.2.2.1, h.2.2.2, k]
  exact ⟨w, rfl⟩

structure Kept (m : Nat) (s u : State) : Prop where
  out : m.testBit 23 = false → Out s u
  pending : u.pending = s.pending
  now : s.tim.now ≤ u.tim.now
  mem : Memory.wf s.hif.mem = true → Memory.wf u.hif.mem = true
  cRegs : Regs.wf s.regs = true → Regs.wf u.regs = true
  cRegsN : RegsN.wf s.regsN = true → RegsN.wf u.regsN = true
  memory : m.testBit 21 = false → u.hif.mem = s.hif.mem
  rd : m.testBit 1 = false → ∀ off, closingReg off = false → u.rd off = s.rd off
  rdN : m.testBit 2 = false → ∀ off, closingReg off = false → u.rdN off = s.rdN off
  tim : m.testBit 0 = false → u.tim = s.tim
  regs : m.testBit 1 = false → m.testBit 22 = false → u.regs = s.regs
  regsN : m.testBit 2 = false → m.testBit 22 = false → u.regsN = s.regsN
  hif : m.testBit 3 = false → u.hif = s.hif
  wld : m.testBit 4 = false → u.wld = s.wld
  ldg : m.testBit 5 = false → u.ldg = s.ldg
  hst : m.testBit 6 = false → u.hst = s.hst
  fab : m.testBit 7 = false → u.fab = s.fab
  pts : m.testBit 8 = false → u.pts = s.pts
  alm : m.testBit 9 = false → u.alm = s.alm
  sec : m.testBit 10 = false → u.sec = s.sec
  cmw : m.testBit 11 = false → u.cmw = s.cmw
  ctl : m.testBit 12 = false → u.ctl = s.ctl
  lio : m.testBit 13 = false → u.lio = s.lio
  ltn : m.testBit 14 = false → u.ltn = s.ltn
  bcn : m.testBit 15 = false → u.bcn = s.bcn
  bkp : m.testBit 16 = false → u.bkp = s.bkp
  img : m.testBit 17 = false → u.img = s.img
  pwr : m.testBit 18 = false → u.pwr = s.pwr
  kpr : m.testBit 19 = false → u.kpr = s.kpr
  free : m.testBit 20 = false → u.free = s.free

theorem testBit_sub {k m i : Nat} (h : k ||| m = m) (hi : m.testBit i = false) : k.testBit i = false := by
  rw [← h, Nat.testBit_or, Bool.or_eq_false_iff] at hi
  exact hi.1

theorem lor_sub {k a m : Nat} (h1 : k ||| a = a) (h2 : a ||| m = m) : k ||| m = m := by
  rw [← h2, ← Nat.or_assoc, h1]

theorem Kept.refl (m : Nat) (s : State) : Kept m s s where
  out _ := Out.refl s
  pending := rfl
  now := Nat.le_refl _
  mem h := h
  cRegs h := h
  cRegsN h := h
  memory _ := rfl
  rd _ _ _ := rfl
  rdN _ _ _ := rfl
  tim _ := rfl
  regs _ _ := rfl
  regsN _ _ := rfl
  hif _ := rfl
  wld _ := rfl
  ldg _ := rfl
  hst _ := rfl
  fab _ := rfl
  pts _ := rfl
  alm _ := rfl
  sec _ := rfl
  cmw _ := rfl
  ctl _ := rfl
  lio _ := rfl
  ltn _ := rfl
  bcn _ := rfl
  bkp _ := rfl
  img _ := rfl
  pwr _ := rfl
  kpr _ := rfl
  free _ := rfl

/-- One operation more. -/
theorem Kept.step {k m : Nat} {s0 s u : State} (h : Kept k s u) (h0 : Kept m s0 s) (hm : k ||| m = m) : Kept m s0 u where
  out w := (h0.out w).trans (h.out (testBit_sub hm w))
  pending := h.pending.trans h0.pending
  now := Nat.le_trans h0.now h.now
  mem w := h.mem (h0.mem w)
  cRegs w := h.cRegs (h0.cRegs w)
  cRegsN w := h.cRegsN (h0.cRegsN w)
  memory w := (h.memory (testBit_sub hm w)).trans (h0.memory w)
  rd w off c := (h.rd (testBit_sub hm w) off c).trans (h0.rd w off c)
  rdN w off c := (h.rdN (testBit_sub hm w) off c).trans (h0.rdN w off c)
  tim w := (h.tim (testBit_sub hm w)).trans (h0.tim w)
  regs w x := (h.regs (testBit_sub hm w) (testBit_sub hm x)).trans (h0.regs w x)
  regsN w x := (h.regsN (testBit_sub hm w) (testBit_sub hm x)).trans (h0.regsN w x)
  hif w := (h.hif (testBit_sub hm w)).trans (h0.hif w)
  wld w := (h.wld (testBit_sub hm w)).trans (h0.wld w)
  ldg w := (h.ldg (testBit_sub hm w)).trans (h0.ldg w)
  hst w := (h.hst (testBit_sub hm w)).trans (h0.hst w)
  fab w := (h.fab (testBit_sub hm w)).trans (h0.fab w)
  pts w := (h.pts (testBit_sub hm w)).trans (h0.pts w)
  alm w := (h.alm (testBit_sub hm w)).trans (h0.alm w)
  sec w := (h.sec (testBit_sub hm w)).trans (h0.sec w)
  cmw w := (h.cmw (testBit_sub hm w)).trans (h0.cmw w)
  ctl w := (h.ctl (testBit_sub hm w)).trans (h0.ctl w)
  lio w := (h.lio (testBit_sub hm w)).trans (h0.lio w)
  ltn w := (h.ltn (testBit_sub hm w)).trans (h0.ltn w)
  bcn w := (h.bcn (testBit_sub hm w)).trans (h0.bcn w)
  bkp w := (h.bkp (testBit_sub hm w)).trans (h0.bkp w)
  img w := (h.img (testBit_sub hm w)).trans (h0.img w)
  pwr w := (h.pwr (testBit_sub hm w)).trans (h0.pwr w)
  kpr w := (h.kpr (testBit_sub hm w)).trans (h0.kpr w)
  free w := (h.free (testBit_sub hm w)).trans (h0.free w)

theorem Kept.mono {k m : Nat} {s u : State} (h : Kept k s u) (hm : k ||| m = m) : Kept m s u := h.step (Kept.refl m s) hm

/-- What an operation keeps, with what is known of the places it writes. -/
theorem Kept.withOut {m k : Nat} {s u : State} (h : Kept k s u) (o : Out s u) (hm : k = m ||| 8388608) : Kept m s u :=
  have g {i : Nat} (hi : i ≠ 23) (w : m.testBit i = false) : k.testBit i = false := by
    have e : Nat.testBit 8388608 i = false := by
      rw [show (8388608 : Nat) = 2 ^ 23 from rfl, Nat.testBit_two_pow]
      exact decide_eq_false fun e => hi e.symm
    rw [hm, Nat.testBit_or, w, e]
    rfl
  { out := fun _ => o
    pending := h.pending
    now := h.now
    mem := h.mem
    cRegs := h.cRegs
    cRegsN := h.cRegsN
    memory := fun w => h.memory (g (by decide) w)
    rd := fun w => h.rd (g (by decide) w)
    rdN := fun w => h.rdN (g (by decide) w)

    tim := fun w => h.tim (g (by decide) w)
    regs := fun w x => h.regs (g (by decide) w) (g (by decide) x)
    regsN := fun w x => h.regsN (g (by decide) w) (g (by decide) x)
    hif := fun w => h.hif (g (by decide) w)
    wld := fun w => h.wld (g (by decide) w)
    ldg := fun w => h.ldg (g (by decide) w)
    hst := fun w => h.hst (g (by decide) w)
    fab := fun w => h.fab (g (by decide) w)
    pts := fun w => h.pts (g (by decide) w)
    alm := fun w => h.alm (g (by decide) w)
    sec := fun w => h.sec (g (by decide) w)
    cmw := fun w => h.cmw (g (by decide) w)
    ctl := fun w => h.ctl (g (by decide) w)
    lio := fun w => h.lio (g (by decide) w)
    ltn := fun w => h.ltn (g (by decide) w)
    bcn := fun w => h.bcn (g (by decide) w)
    bkp := fun w => h.bkp (g (by decide) w)
    img := fun w => h.img (g (by decide) w)
    pwr := fun w => h.pwr (g (by decide) w)
    kpr := fun w => h.kpr (g (by decide) w)
    free := fun w => h.free (g (by decide) w) }

theorem Kept.snd {α : Type} {m : Nat} {s0 u : State} {p : α × State} {x : α} (e : p = (x, u)) (h : Kept m s0 p.2) :
    Kept m s0 u := by
  rw [e] at h
  exact h

theorem Kept.fst {α : Type} {m : Nat} {s0 u : State} {p : State × α} {x : α} (e : p = (u, x)) (h : Kept m s0 p.1) :
    Kept m s0 u := by
  rw [e] at h
  exact h

theorem Kept.thd {α β : Type} {m : Nat} {s0 u : State} {p : α × β × State} {x : α} {y : β} (e : p = (x, y, u))
    (h : Kept m s0 p.2.2) : Kept m s0 u := by
  rw [e] at h
  exact h

theorem Kept.opt {α : Type} {m : Nat} {s0 u : State} {p : Option (α × State)} {x : α} (e : p = some (x, u))
    (h : ∀ y ∈ p, Kept m s0 y.2) : Kept m s0 u := h (x, u) e

theorem Kept.ofId {m : Nat} {s0 u : State} (h : Kept m s0 u) : Kept m s0 (id u) := h

theorem Kept.ofFst {α : Type} {m : Nat} {s0 u : State} {p : State × α} {x : α} (e : p = (u, x)) (h : Kept m s0 u) :
    Kept m s0 p.1 := by
  rw [e]
  exact h

theorem Kept.ofSnd {α : Type} {m : Nat} {s0 u : State} {p : α × State} {x : α} (e : p = (x, u)) (h : Kept m s0 u) :
    Kept m s0 p.2 := by
  rw [e]
  exact h

theorem Kept.ofThd {α β : Type} {m : Nat} {s0 u : State} {p : α × β × State} {x : α} {y : β} (e : p = (x, y, u))
    (h : Kept m s0 u) : Kept m s0 p.2.2 := by
  rw [e]
  exact h

theorem Kept.call {m : Nat} {s0 z : State} {g : State → State} (hg : ∀ y, Kept m s0 y → Kept m s0 (g y))
    (h : Kept m s0 z) : Kept m s0 (g z) := hg z h

theorem Kept.call1 {α : Type} {m : Nat} {s0 z : State} {a : α} {g : α → State → State}
    (hg : ∀ a y, Kept m s0 y → Kept m s0 (g a y)) (h : Kept m s0 z) : Kept m s0 (g a z) := hg a z h

theorem Kept.fold {α : Type} {m : Nat} {s0 s : State} {l : List α} {f : State → α → State}
    (hf : ∀ u a, Kept m s0 u → Kept m s0 (f u a)) (h : Kept m s0 s) : Kept m s0 (l.foldl f s) := by
  induction l generalizing s with
  | nil => exact h
  | cons a l ih => exact ih (hf s a h)

theorem Kept.foldr {α : Type} {m : Nat} {s0 s : State} {l : List α} {f : α → State → State}
    (hf : ∀ a u, Kept m s0 u → Kept m s0 (f a u)) (h : Kept m s0 s) : Kept m s0 (l.foldr f s) := by
  induction l with
  | nil => exact h
  | cons a l ih => exact hf a _ ih

theorem Kept.foldSnd {α β : Type} {m : Nat} {s0 : State} {p : β × State} {l : List α} {f : β × State → α → β × State}
    (hf : ∀ u a, Kept m s0 u.2 → Kept m s0 (f u a).2) (h : Kept m s0 p.2) : Kept m s0 (l.foldl f p).2 := by
  induction l generalizing p with
  | nil => exact h
  | cons a l ih => exact ih (hf p a h)

theorem Kept.foldFst {α β : Type} {m : Nat} {s0 : State} {p : State × β} {l : List α} {f : State × β → α → State × β}
    (hf : ∀ u a, Kept m s0 u.1 → Kept m s0 (f u a).1) (h : Kept m s0 p.1) : Kept m s0 (l.foldl f p).1 := by
  induction l generalizing p with
  | nil => exact h
  | cons a l ih => exact ih (hf p a h)

/-- An outcome is a next state, which keeps. -/
def KeptO (m : Nat) (s : State) (o : Host.Outcome State Fault Refusal) : Prop := ∃ u, o = .next u ∧ Kept m s u

theorem KeptO.next {m : Nat} {s u : State} (h : Kept m s u) : KeptO m s (.next u) := ⟨u, rfl, h⟩

theorem KeptO.lift {k m : Nat} {s0 s : State} {o : Host.Outcome State Fault Refusal} (h : KeptO k s o) (h0 : Kept m s0 s)
    (hm : k ||| m = m) : KeptO m s0 o := by
  obtain ⟨u, e, h⟩ := h
  exact ⟨u, e, h.step h0 hm⟩

theorem State.onTim_kept {f : Tim → Tim} {s : State} (hf : ∀ h, h.now ≤ (f h).now) : Kept 1 s (s.onTim f) where
  out _ := Out.of_eq rfl rfl
  pending := rfl
  now := hf _
  mem h := h
  cRegs h := h
  cRegsN h := h
  memory _ := rfl
  rd _ _ _ := rfl
  rdN _ _ _ := rfl
  tim h := absurd h (by decide)
  regs _ _ := rfl
  regsN _ _ := rfl
  hif _ := rfl
  wld _ := rfl
  ldg _ := rfl
  hst _ := rfl
  fab _ := rfl
  pts _ := rfl
  alm _ := rfl
  sec _ := rfl
  cmw _ := rfl
  ctl _ := rfl
  lio _ := rfl
  ltn _ := rfl
  bcn _ := rfl
  bkp _ := rfl
  img _ := rfl
  pwr _ := rfl
  kpr _ := rfl
  free _ := rfl
theorem State.onRegs_kept {f : Tab Word → Tab Word} {s : State} (hf : ∀ h, Regs.wf h = true → Regs.wf (f h) = true) : Kept 4194306 s (s.onRegs f) where
  out _ := Out.of_eq rfl rfl
  pending := rfl
  now := Nat.le_refl _
  mem h := h
  cRegs h := hf _ h
  cRegsN h := h
  memory _ := rfl
  rd h := absurd h (by decide)
  rdN _ _ _ := rfl
  tim _ := rfl
  regs h _ := absurd h (by decide)
  regsN _ _ := rfl
  hif _ := rfl
  wld _ := rfl
  ldg _ := rfl
  hst _ := rfl
  fab _ := rfl
  pts _ := rfl
  alm _ := rfl
  sec _ := rfl
  cmw _ := rfl
  ctl _ := rfl
  lio _ := rfl
  ltn _ := rfl
  bcn _ := rfl
  bkp _ := rfl
  img _ := rfl
  pwr _ := rfl
  kpr _ := rfl
  free _ := rfl
theorem State.onRegsN_kept {f : Tab Word → Tab Word} {s : State} (hf : ∀ h, RegsN.wf h = true → RegsN.wf (f h) = true) : Kept 4194308 s (s.onRegsN f) where
  out _ := Out.of_eq rfl rfl
  pending := rfl
  now := Nat.le_refl _
  mem h := h
  cRegs h := h
  cRegsN h := hf _ h
  memory _ := rfl
  rd _ _ _ := rfl
  rdN h := absurd h (by decide)
  tim _ := rfl
  regs _ _ := rfl
  regsN h _ := absurd h (by decide)
  hif _ := rfl
  wld _ := rfl
  ldg _ := rfl
  hst _ := rfl
  fab _ := rfl
  pts _ := rfl
  alm _ := rfl
  sec _ := rfl
  cmw _ := rfl
  ctl _ := rfl
  lio _ := rfl
  ltn _ := rfl
  bcn _ := rfl
  bkp _ := rfl
  img _ := rfl
  pwr _ := rfl
  kpr _ := rfl
  free _ := rfl
theorem State.onHif_kept {f : Hif → Hif} {s : State} (hf : ∀ h, Memory.wf h.mem = true → Memory.wf (f h).mem = true) : Kept 10485768 s (s.onHif f) where
  out h := absurd h (by decide)
  pending := rfl
  now := Nat.le_refl _
  mem h := hf _ h
  cRegs h := h
  cRegsN h := h
  memory h := absurd h (by decide)
  rd _ _ _ := rfl
  rdN _ _ _ := rfl
  tim _ := rfl
  regs _ _ := rfl
  regsN _ _ := rfl
  hif h := absurd h (by decide)
  wld _ := rfl
  ldg _ := rfl
  hst _ := rfl
  fab _ := rfl
  pts _ := rfl
  alm _ := rfl
  sec _ := rfl
  cmw _ := rfl
  ctl _ := rfl
  lio _ := rfl
  ltn _ := rfl
  bcn _ := rfl
  bkp _ := rfl
  img _ := rfl
  pwr _ := rfl
  kpr _ := rfl
  free _ := rfl

theorem State.onHif_keptAt {f : Hif → Hif} {s : State} (hf : ∀ h, (f h).mem = h.mem) : Kept 8388616 s (s.onHif f) :=
  { State.onHif_kept fun h w => (hf h).symm ▸ w with
    memory := fun _ => hf _
    hif := fun h => absurd h (by decide) }

theorem State.onHif_kept' {f : Hif → Hif} {s : State} 
    (hf : ∀ h, ((f h).mem, (f h).rings, (f h).posted, (f h).outBuf) = (h.mem, h.rings, h.posted, h.outBuf)) : Kept 8 s (s.onHif f) :=
  { State.onHif_keptAt (f := f) (s := s) fun h => congrArg Prod.fst (hf h) with
    out := fun _ => Out.of_eq (hf _) rfl
    hif := fun h => absurd h (by decide) }

theorem State.onWld_kept {f : Wld → Wld} {s : State} : Kept 16 s (s.onWld f) where
  out _ := Out.of_eq rfl rfl
  pending := rfl
  now := Nat.le_refl _
  mem h := h
  cRegs h := h
  cRegsN h := h
  memory _ := rfl
  rd _ _ _ := rfl
  rdN _ _ _ := rfl
  tim _ := rfl
  regs _ _ := rfl
  regsN _ _ := rfl
  hif _ := rfl
  wld h := absurd h (by decide)
  ldg _ := rfl
  hst _ := rfl
  fab _ := rfl
  pts _ := rfl
  alm _ := rfl
  sec _ := rfl
  cmw _ := rfl
  ctl _ := rfl
  lio _ := rfl
  ltn _ := rfl
  bcn _ := rfl
  bkp _ := rfl
  img _ := rfl
  pwr _ := rfl
  kpr _ := rfl
  free _ := rfl
theorem State.onLdg_kept {f : Ldg → Ldg} {s : State} (hf : ∀ h, (f h).view = h.view) : Kept 32 s (s.onLdg f) where
  out _ := Out.of_eq rfl (hf _)
  pending := rfl
  now := Nat.le_refl _
  mem h := h
  cRegs h := h
  cRegsN h := h
  memory _ := rfl
  rd _ _ _ := rfl
  rdN _ _ _ := rfl
  tim _ := rfl
  regs _ _ := rfl
  regsN _ _ := rfl
  hif _ := rfl
  wld _ := rfl
  ldg h := absurd h (by decide)
  hst _ := rfl
  fab _ := rfl
  pts _ := rfl
  alm _ := rfl
  sec _ := rfl
  cmw _ := rfl
  ctl _ := rfl
  lio _ := rfl
  ltn _ := rfl
  bcn _ := rfl
  bkp _ := rfl
  img _ := rfl
  pwr _ := rfl
  kpr _ := rfl
  free _ := rfl

theorem State.onLdg_keptAt {f : Ldg → Ldg} {s : State} : Kept 8388640 s (s.onLdg f) where
  out h := absurd h (by decide)
  pending := rfl
  now := Nat.le_refl _
  mem h := h
  cRegs h := h
  cRegsN h := h
  memory _ := rfl
  rd _ _ _ := rfl
  rdN _ _ _ := rfl
  tim _ := rfl
  regs _ _ := rfl
  regsN _ _ := rfl
  hif _ := rfl
  wld _ := rfl
  ldg h := absurd h (by decide)
  hst _ := rfl
  fab _ := rfl
  pts _ := rfl
  alm _ := rfl
  sec _ := rfl
  cmw _ := rfl
  ctl _ := rfl
  lio _ := rfl
  ltn _ := rfl
  bcn _ := rfl
  bkp _ := rfl
  img _ := rfl
  pwr _ := rfl
  kpr _ := rfl
  free _ := rfl

theorem State.onHst_kept {f : Hst → Hst} {s : State} : Kept 64 s (s.onHst f) where
  out _ := Out.of_eq rfl rfl
  pending := rfl
  now := Nat.le_refl _
  mem h := h
  cRegs h := h
  cRegsN h := h
  memory _ := rfl
  rd _ _ _ := rfl
  rdN _ _ _ := rfl
  tim _ := rfl
  regs _ _ := rfl
  regsN _ _ := rfl
  hif _ := rfl
  wld _ := rfl
  ldg _ := rfl
  hst h := absurd h (by decide)
  fab _ := rfl
  pts _ := rfl
  alm _ := rfl
  sec _ := rfl
  cmw _ := rfl
  ctl _ := rfl
  lio _ := rfl
  ltn _ := rfl
  bcn _ := rfl
  bkp _ := rfl
  img _ := rfl
  pwr _ := rfl
  kpr _ := rfl
  free _ := rfl
theorem State.onFab_kept {f : Fab → Fab} {s : State} : Kept 128 s (s.onFab f) where
  out _ := Out.of_eq rfl rfl
  pending := rfl
  now := Nat.le_refl _
  mem h := h
  cRegs h := h
  cRegsN h := h
  memory _ := rfl
  rd _ _ _ := rfl
  rdN _ _ _ := rfl
  tim _ := rfl
  regs _ _ := rfl
  regsN _ _ := rfl
  hif _ := rfl
  wld _ := rfl
  ldg _ := rfl
  hst _ := rfl
  fab h := absurd h (by decide)
  pts _ := rfl
  alm _ := rfl
  sec _ := rfl
  cmw _ := rfl
  ctl _ := rfl
  lio _ := rfl
  ltn _ := rfl
  bcn _ := rfl
  bkp _ := rfl
  img _ := rfl
  pwr _ := rfl
  kpr _ := rfl
  free _ := rfl
theorem State.onPts_kept {f : Pts → Pts} {s : State} : Kept 256 s (s.onPts f) where
  out _ := Out.of_eq rfl rfl
  pending := rfl
  now := Nat.le_refl _
  mem h := h
  cRegs h := h
  cRegsN h := h
  memory _ := rfl
  rd _ _ _ := rfl
  rdN _ _ _ := rfl
  tim _ := rfl
  regs _ _ := rfl
  regsN _ _ := rfl
  hif _ := rfl
  wld _ := rfl
  ldg _ := rfl
  hst _ := rfl
  fab _ := rfl
  pts h := absurd h (by decide)
  alm _ := rfl
  sec _ := rfl
  cmw _ := rfl
  ctl _ := rfl
  lio _ := rfl
  ltn _ := rfl
  bcn _ := rfl
  bkp _ := rfl
  img _ := rfl
  pwr _ := rfl
  kpr _ := rfl
  free _ := rfl
theorem State.onAlm_kept {f : Alm → Alm} {s : State} : Kept 512 s (s.onAlm f) where
  out _ := Out.of_eq rfl rfl
  pending := rfl
  now := Nat.le_refl _
  mem h := h
  cRegs h := h
  cRegsN h := h
  memory _ := rfl
  rd _ _ _ := rfl
  rdN _ _ _ := rfl
  tim _ := rfl
  regs _ _ := rfl
  regsN _ _ := rfl
  hif _ := rfl
  wld _ := rfl
  ldg _ := rfl
  hst _ := rfl
  fab _ := rfl
  pts _ := rfl
  alm h := absurd h (by decide)
  sec _ := rfl
  cmw _ := rfl
  ctl _ := rfl
  lio _ := rfl
  ltn _ := rfl
  bcn _ := rfl
  bkp _ := rfl
  img _ := rfl
  pwr _ := rfl
  kpr _ := rfl
  free _ := rfl
theorem State.onSec_kept {f : Sec → Sec} {s : State} : Kept 1024 s (s.onSec f) where
  out _ := Out.of_eq rfl rfl
  pending := rfl
  now := Nat.le_refl _
  mem h := h
  cRegs h := h
  cRegsN h := h
  memory _ := rfl
  rd _ _ _ := rfl
  rdN _ _ _ := rfl
  tim _ := rfl
  regs _ _ := rfl
  regsN _ _ := rfl
  hif _ := rfl
  wld _ := rfl
  ldg _ := rfl
  hst _ := rfl
  fab _ := rfl
  pts _ := rfl
  alm _ := rfl
  sec h := absurd h (by decide)
  cmw _ := rfl
  ctl _ := rfl
  lio _ := rfl
  ltn _ := rfl
  bcn _ := rfl
  bkp _ := rfl
  img _ := rfl
  pwr _ := rfl
  kpr _ := rfl
  free _ := rfl
theorem State.onCmw_kept {f : Cmw → Cmw} {s : State} : Kept 2048 s (s.onCmw f) where
  out _ := Out.of_eq rfl rfl
  pending := rfl
  now := Nat.le_refl _
  mem h := h
  cRegs h := h
  cRegsN h := h
  memory _ := rfl
  rd _ _ _ := rfl
  rdN _ _ _ := rfl
  tim _ := rfl
  regs _ _ := rfl
  regsN _ _ := rfl
  hif _ := rfl
  wld _ := rfl
  ldg _ := rfl
  hst _ := rfl
  fab _ := rfl
  pts _ := rfl
  alm _ := rfl
  sec _ := rfl
  cmw h := absurd h (by decide)
  ctl _ := rfl
  lio _ := rfl
  ltn _ := rfl
  bcn _ := rfl
  bkp _ := rfl
  img _ := rfl
  pwr _ := rfl
  kpr _ := rfl
  free _ := rfl
theorem State.onCtl_kept {f : Ctl → Ctl} {s : State} : Kept 4096 s (s.onCtl f) where
  out _ := Out.of_eq rfl rfl
  pending := rfl
  now := Nat.le_refl _
  mem h := h
  cRegs h := h
  cRegsN h := h
  memory _ := rfl
  rd _ _ _ := rfl
  rdN _ _ _ := rfl
  tim _ := rfl
  regs _ _ := rfl
  regsN _ _ := rfl
  hif _ := rfl
  wld _ := rfl
  ldg _ := rfl
  hst _ := rfl
  fab _ := rfl
  pts _ := rfl
  alm _ := rfl
  sec _ := rfl
  cmw _ := rfl
  ctl h := absurd h (by decide)
  lio _ := rfl
  ltn _ := rfl
  bcn _ := rfl
  bkp _ := rfl
  img _ := rfl
  pwr _ := rfl
  kpr _ := rfl
  free _ := rfl
theorem State.onLio_kept {f : Lio → Lio} {s : State} : Kept 8192 s (s.onLio f) where
  out _ := Out.of_eq rfl rfl
  pending := rfl
  now := Nat.le_refl _
  mem h := h
  cRegs h := h
  cRegsN h := h
  memory _ := rfl
  rd _ _ _ := rfl
  rdN _ _ _ := rfl
  tim _ := rfl
  regs _ _ := rfl
  regsN _ _ := rfl
  hif _ := rfl
  wld _ := rfl
  ldg _ := rfl
  hst _ := rfl
  fab _ := rfl
  pts _ := rfl
  alm _ := rfl
  sec _ := rfl
  cmw _ := rfl
  ctl _ := rfl
  lio h := absurd h (by decide)
  ltn _ := rfl
  bcn _ := rfl
  bkp _ := rfl
  img _ := rfl
  pwr _ := rfl
  kpr _ := rfl
  free _ := rfl
theorem State.onLtn_kept {f : Ltn → Ltn} {s : State} : Kept 16384 s (s.onLtn f) where
  out _ := Out.of_eq rfl rfl
  pending := rfl
  now := Nat.le_refl _
  mem h := h
  cRegs h := h
  cRegsN h := h
  memory _ := rfl
  rd _ _ _ := rfl
  rdN _ _ _ := rfl
  tim _ := rfl
  regs _ _ := rfl
  regsN _ _ := rfl
  hif _ := rfl
  wld _ := rfl
  ldg _ := rfl
  hst _ := rfl
  fab _ := rfl
  pts _ := rfl
  alm _ := rfl
  sec _ := rfl
  cmw _ := rfl
  ctl _ := rfl
  lio _ := rfl
  ltn h := absurd h (by decide)
  bcn _ := rfl
  bkp _ := rfl
  img _ := rfl
  pwr _ := rfl
  kpr _ := rfl
  free _ := rfl
theorem State.onBcn_kept {f : Bcn → Bcn} {s : State} : Kept 32768 s (s.onBcn f) where
  out _ := Out.of_eq rfl rfl
  pending := rfl
  now := Nat.le_refl _
  mem h := h
  cRegs h := h
  cRegsN h := h
  memory _ := rfl
  rd _ _ _ := rfl
  rdN _ _ _ := rfl
  tim _ := rfl
  regs _ _ := rfl
  regsN _ _ := rfl
  hif _ := rfl
  wld _ := rfl
  ldg _ := rfl
  hst _ := rfl
  fab _ := rfl
  pts _ := rfl
  alm _ := rfl
  sec _ := rfl
  cmw _ := rfl
  ctl _ := rfl
  lio _ := rfl
  ltn _ := rfl
  bcn h := absurd h (by decide)
  bkp _ := rfl
  img _ := rfl
  pwr _ := rfl
  kpr _ := rfl
  free _ := rfl
theorem State.onBkp_kept {f : Bkp → Bkp} {s : State} : Kept 65536 s (s.onBkp f) where
  out _ := Out.of_eq rfl rfl
  pending := rfl
  now := Nat.le_refl _
  mem h := h
  cRegs h := h
  cRegsN h := h
  memory _ := rfl
  rd _ _ _ := rfl
  rdN _ _ _ := rfl
  tim _ := rfl
  regs _ _ := rfl
  regsN _ _ := rfl
  hif _ := rfl
  wld _ := rfl
  ldg _ := rfl
  hst _ := rfl
  fab _ := rfl
  pts _ := rfl
  alm _ := rfl
  sec _ := rfl
  cmw _ := rfl
  ctl _ := rfl
  lio _ := rfl
  ltn _ := rfl
  bcn _ := rfl
  bkp h := absurd h (by decide)
  img _ := rfl
  pwr _ := rfl
  kpr _ := rfl
  free _ := rfl
theorem State.onImg_kept {f : Img → Img} {s : State} : Kept 131072 s (s.onImg f) where
  out _ := Out.of_eq rfl rfl
  pending := rfl
  now := Nat.le_refl _
  mem h := h
  cRegs h := h
  cRegsN h := h
  memory _ := rfl
  rd _ _ _ := rfl
  rdN _ _ _ := rfl
  tim _ := rfl
  regs _ _ := rfl
  regsN _ _ := rfl
  hif _ := rfl
  wld _ := rfl
  ldg _ := rfl
  hst _ := rfl
  fab _ := rfl
  pts _ := rfl
  alm _ := rfl
  sec _ := rfl
  cmw _ := rfl
  ctl _ := rfl
  lio _ := rfl
  ltn _ := rfl
  bcn _ := rfl
  bkp _ := rfl
  img h := absurd h (by decide)
  pwr _ := rfl
  kpr _ := rfl
  free _ := rfl
theorem State.onPwr_kept {f : Pwr → Pwr} {s : State} : Kept 262144 s (s.onPwr f) where
  out _ := Out.of_eq rfl rfl
  pending := rfl
  now := Nat.le_refl _
  mem h := h
  cRegs h := h
  cRegsN h := h
  memory _ := rfl
  rd _ _ _ := rfl
  rdN _ _ _ := rfl
  tim _ := rfl
  regs _ _ := rfl
  regsN _ _ := rfl
  hif _ := rfl
  wld _ := rfl
  ldg _ := rfl
  hst _ := rfl
  fab _ := rfl
  pts _ := rfl
  alm _ := rfl
  sec _ := rfl
  cmw _ := rfl
  ctl _ := rfl
  lio _ := rfl
  ltn _ := rfl
  bcn _ := rfl
  bkp _ := rfl
  img _ := rfl
  pwr h := absurd h (by decide)
  kpr _ := rfl
  free _ := rfl
theorem State.onKpr_kept {f : Kpr → Kpr} {s : State} : Kept 524288 s (s.onKpr f) where
  out _ := Out.of_eq rfl rfl
  pending := rfl
  now := Nat.le_refl _
  mem h := h
  cRegs h := h
  cRegsN h := h
  memory _ := rfl
  rd _ _ _ := rfl
  rdN _ _ _ := rfl
  tim _ := rfl
  regs _ _ := rfl
  regsN _ _ := rfl
  hif _ := rfl
  wld _ := rfl
  ldg _ := rfl
  hst _ := rfl
  fab _ := rfl
  pts _ := rfl
  alm _ := rfl
  sec _ := rfl
  cmw _ := rfl
  ctl _ := rfl
  lio _ := rfl
  ltn _ := rfl
  bcn _ := rfl
  bkp _ := rfl
  img _ := rfl
  pwr _ := rfl
  kpr h := absurd h (by decide)
  free _ := rfl

theorem State.fresh_kept {s : State} : Kept 1048576 s s.fresh.2 where
  out _ := Out.of_eq rfl rfl
  pending := rfl
  now := Nat.le_refl _
  mem h := h
  cRegs h := h
  cRegsN h := h
  memory _ := rfl
  rd _ _ _ := rfl
  rdN _ _ _ := rfl
  tim _ := rfl
  regs _ _ := rfl
  regsN _ _ := rfl
  hif _ := rfl
  wld _ := rfl
  ldg _ := rfl
  hst _ := rfl
  fab _ := rfl
  pts _ := rfl
  alm _ := rfl
  sec _ := rfl
  cmw _ := rfl
  ctl _ := rfl
  lio _ := rfl
  ltn _ := rfl
  bcn _ := rfl
  bkp _ := rfl
  img _ := rfl
  pwr _ := rfl
  kpr _ := rfl
  free h := absurd h (by decide)

/-! Register words of the closing pass. -/

theorem closingReg_high {off : Nat} (h : 0x180000 ≤ off) : closingReg off = true := by
  unfold closingReg
  rw [decide_eq_true h, Bool.true_or]

theorem off_ne {f : RFld} {off : Nat} (h : closingReg f.off = true) (c : closingReg off = false) : off ≠ f.off := by
  intro e
  rw [e, h] at c
  exact absurd c (by decide)


theorem State.wr_kept {off : Nat} {w : Word} {s : State} : Kept 4194310 s (State.wr off w s) := by
  have h1 : Kept 4194306 s (s.onRegs fun t => tset (facWord off) t off w) :=
    State.onRegs_kept fun t ht => twf_tset (d := facWord) ht off w
  have h2 (u : State) : Kept 4194308 u (u.onRegsN fun t => tset (~~~ facWord off) t off (~~~ w)) :=
    State.onRegsN_kept fun t ht => twf_tset (d := fun off => ~~~ facWord off) ht off (~~~ w)
  unfold State.wr
  dsimp only
  split
  · exact (h2 _).step (h1.mono rfl) rfl
  · exact h1.mono rfl

theorem wr_rd {f : RFld} {w : Word} {s : State} {off : Nat} (h : off ≠ f.off) :
    (State.wr f.off w s).rd off = s.rd off ∧ (State.wr f.off w s).rdN off = s.rdN off := by
  unfold State.wr
  dsimp only
  split
  · exact ⟨tget_tset_ne' _ _ _ _ h, tget_tset_ne' _ _ _ _ h⟩
  · exact ⟨tget_tset_ne' _ _ _ _ h, rfl⟩

theorem State.wf_closing {f : RFld} {v : Nat} {s : State} (h : closingReg f.off = true) : Kept 4194304 s (s.wf f v) :=
  have k := State.wr_kept (off := f.off) (w := fput ⟨f.lo, f.w⟩ v (s.rd f.off)) (s := s)
  { out := fun _ => k.out (by decide)
    pending := k.pending
    now := k.now
    mem := k.mem
    cRegs := k.cRegs
    cRegsN := k.cRegsN
    memory := fun _ => k.memory (by decide)
    rd := fun _ _ c => (wr_rd (off_ne h c)).1
    rdN := fun _ _ c => (wr_rd (off_ne h c)).2
    regs := fun _ x => absurd x (by decide)
    regsN := fun _ x => absurd x (by decide)
    tim := fun _ => k.tim (by decide)
    hif := fun _ => k.hif (by decide)
    wld := fun _ => k.wld (by decide)
    ldg := fun _ => k.ldg (by decide)
    hst := fun _ => k.hst (by decide)
    fab := fun _ => k.fab (by decide)
    pts := fun _ => k.pts (by decide)
    alm := fun _ => k.alm (by decide)
    sec := fun _ => k.sec (by decide)
    cmw := fun _ => k.cmw (by decide)
    ctl := fun _ => k.ctl (by decide)
    lio := fun _ => k.lio (by decide)
    ltn := fun _ => k.ltn (by decide)
    bcn := fun _ => k.bcn (by decide)
    bkp := fun _ => k.bkp (by decide)
    img := fun _ => k.img (by decide)
    pwr := fun _ => k.pwr (by decide)
    kpr := fun _ => k.kpr (by decide)
    free := fun _ => k.free (by decide) }

theorem State.bump_closing {f : RFld} {n : Nat} {s : State} (h : closingReg f.off = true) : Kept 4194304 s (s.bump f n) :=
  State.wf_closing h

theorem State.drop_closing {f : RFld} {n : Nat} {s : State} (h : closingReg f.off = true) : Kept 4194304 s (s.drop f n) :=
  State.wf_closing h


/-! Places in host memory. -/

theorem Out.onHif {s : State} {f : Hif → Hif} (h1 : (f s.hif).mem = s.hif.mem) (h2 : (f s.hif).rings = s.hif.rings)
    (h3 : (f s.hif).posted = s.hif.posted) (h4 : (f s.hif).outBuf = s.hif.outBuf) : Out s (s.onHif f) :=
  Out.of_eq (u := s.onHif f) (Prod.ext h1 (Prod.ext h2 (Prod.ext h3 h4))) rfl

theorem Out.onLdg {s : State} {f : Ldg → Ldg} (h : (f s.ldg).view = s.ldg.view) : Out s (s.onLdg f) := Out.of_eq (u := s.onLdg f) rfl h

theorem mem_tins {α : Type} {e : Nat × α} {v : α} {k : Nat} : ∀ {t : Tab α}, e ∈ tins v t k → e ∈ t ∨ e = (k, v)
  | [], h => Or.inr (List.mem_singleton.1 h)
  | (i, w) :: t, h => by
    unfold tins at h
    split at h
    · rcases List.mem_cons.1 h with h | h
      · exact Or.inr h
      · exact Or.inl h
    · split at h
      · rcases List.mem_cons.1 h with h | h
        · exact Or.inr h
        · exact Or.inl (List.mem_cons_of_mem _ h)
      · rcases List.mem_cons.1 h with h | h
        · exact Or.inl (h ▸ List.mem_cons_self)
        · rcases mem_tins h with h | h
          · exact Or.inl (List.mem_cons_of_mem _ h)
          · exact Or.inr h

theorem mem_tdel {α : Type} {e : Nat × α} {k : Nat} : ∀ {t : Tab α}, e ∈ tdel t k → e ∈ t
  | [], h => h
  | (i, w) :: t, h => by
    unfold tdel at h
    split at h
    · exact List.mem_cons_of_mem _ h
    · rcases List.mem_cons.1 h with h | h
      · exact h ▸ List.mem_cons_self
      · exact List.mem_cons_of_mem _ (mem_tdel h)

/-- An entry after a table is set: one of before, or the one set. -/
theorem mem_tset {α : Type} [DecidableEq α] {d v : α} {k : Nat} {t : Tab α} {e : Nat × α} (h : e ∈ tset d t k v) :
    e ∈ t ∨ (e = (k, v) ∧ v ≠ d) := by
  unfold tset at h
  split at h
  · exact Or.inl (mem_tdel h)
  · rcases mem_tins h with h | h
    · exact Or.inl h
    · exact Or.inr ⟨h, ‹_›⟩

/-- What an unset key reads as, or an entry. -/
theorem tget_mem {α : Type} {d : α} {k : Nat} : ∀ {t : Tab α}, tget d t k ≠ d → (k, tget d t k) ∈ t
  | [], h => absurd rfl h
  | (i, w) :: t, h => by
    unfold tget at h ⊢
    split
    · rename_i e
      rw [beq_iff_eq.1 e]
      exact List.mem_cons_self
    · rename_i e
      rw [if_neg e] at h
      exact List.mem_cons_of_mem _ (tget_mem h)

theorem fbit_zero (f : Fld) : fbit f (0 : Rec 64) = false := by
  unfold fbit fget
  rw [show BitVec.toNat (0 : Rec 64) = 0 from BitVec.toNat_ofNat 0 512 |>.trans (Nat.zero_mod _), Nat.zero_shiftRight, Nat.zero_mod]
  rfl

/-- A ring that exists is listed. -/
theorem ring_listed {s : State} {r : Nat} (h : fbit Ring.VALID (s.ring r) = true) : (r, s.ring r) ∈ s.hif.rings := by
  refine tget_mem (d := 0) ?_
  intro e
  rw [State.ring, e, fbit_zero] at h
  exact Bool.false_ne_true h

/-- Two contexts take up the same place. -/
def samePlace (c d : Rec 64) : Prop :=
  fbit Ring.VALID c = fbit Ring.VALID d ∧ fget Ring.TYPE c = fget Ring.TYPE d ∧ fget Ring.BASE c = fget Ring.BASE d ∧
    fget Ring.LOG2N c = fget Ring.LOG2N d

theorem samePlace.holds {c d : Rec 64} (h : samePlace c d) {a : Nat} (w : ringHolds c a) : ringHolds d a := by
  unfold ringHolds ringSize at *
  rw [← h.1, ← h.2.1, ← h.2.2.1, ← h.2.2.2]
  exact w

/-- The other fields of a context do not change its place. -/
theorem samePlace_fput (f : Fld) (v : Nat) (c : Rec 64) (h : (4 ≤ f.lo ∧ f.lo + f.w ≤ 16) ∨ (24 ≤ f.lo ∧ f.lo + f.w ≤ 64) ∨ 128 ≤ f.lo) :
    samePlace (fput f v c) c := by
  have g (x : Fld) (d : x.lo + x.w ≤ f.lo ∨ f.lo + f.w ≤ x.lo) : fget x (fput f v c) = fget x c := fget_fput_ne x f v c d
  refine ⟨congrArg (fun x => x != 0) (g Ring.VALID ?_), g _ ?_, g _ ?_, g _ ?_⟩ <;> simp only [Ring.VALID, Ring.TYPE, Ring.BASE, Ring.LOG2N] <;> omega

theorem samePlace.trans {b c d : Rec 64} (h : samePlace b c) (k : samePlace c d) : samePlace b d :=
  ⟨h.1.trans k.1, h.2.1.trans k.2.1, h.2.2.1.trans k.2.2.1, h.2.2.2.trans k.2.2.2⟩

/-- A context set to one that takes up the same place. -/
theorem Out.setRing {s : State} {r : Nat} {c : Rec 64} (h : samePlace c (s.ring r)) : Out s (s.setRing r c) := by
  intro a w
  refine ⟨fun m => w ?_, rfl⟩
  rcases m with ⟨e, he, hh⟩ | m
  · rcases mem_tset he with he | ⟨rfl, -⟩
    · exact Or.inl ⟨e, he, hh⟩
    · exact Or.inl ⟨_, ring_listed (h.1 ▸ hh.1), h.holds hh⟩
  · exact Or.inr m

theorem Out.modRing {s : State} {r : Nat} {f : Rec 64 → Rec 64} (h : samePlace (f (s.ring r)) (s.ring r)) : Out s (s.modRing r f) :=
  Out.setRing h

/-- Bytes written where the module may write. -/
theorem Out.hostPut {s : State} {addr n v : Nat} (h : ∀ a, addr ≤ a → a < addr + n → s.mayStore a) : Out s (s.hostPut addr n v) := by
  intro a w
  refine ⟨w, memPut_ne n addr v s.hif.mem a ?_⟩
  by_cases h1 : a < addr
  · exact Or.inl h1
  · by_cases h2 : addr + n ≤ a
    · exact Or.inr h2
    · exact absurd (h a (Nat.not_lt.1 h1) (Nat.not_le.1 h2)) w

/-- The host interface with fewer places and the same memory. -/
theorem Out.fewer {s : State} {f : Hif → Hif} (hm : (f s.hif).mem = s.hif.mem) (hr : ∀ e ∈ (f s.hif).rings, e ∈ s.hif.rings)
    (hp : ∀ e ∈ (f s.hif).posted, e ∈ s.hif.posted) (ho : ∀ e ∈ (f s.hif).outBuf, e.2 = none ∨ e ∈ s.hif.outBuf) : Out s (s.onHif f) := by
  intro a w
  refine ⟨fun m => w ?_, congrArg (fun t => tget 0#8 t a) hm⟩
  rcases m with ⟨e, he, h⟩ | h | ⟨p, hp', h⟩ | ⟨e, he, b, hb, h⟩
  · exact Or.inl ⟨e, hr e he, h⟩
  · exact Or.inr (Or.inl h)
  · exact Or.inr (Or.inr (Or.inl ⟨p, hp p hp', h⟩))
  · rcases ho e he with x | x
    · rw [hb] at x
      cases x
    · exact Or.inr (Or.inr (Or.inr ⟨e, x, b, hb, h⟩))

/-- The slot of an entry lies in its ring. -/
theorem slot_holds {c : Rec 64} (n : Nat) {a : Nat} (hv : fbit Ring.VALID c = true)
    (ht : fget Ring.TYPE c = 1 ∨ fget Ring.TYPE c = 2 ∨ fget Ring.TYPE c = 4) (h1 : fget Ring.BASE c + (n % ringSize c) * 32 ≤ a)
    (h2 : a < fget Ring.BASE c + (n % ringSize c) * 32 + 32) : ringHolds c a := by
  have : n % ringSize c < ringSize c := Nat.mod_lt _ (Nat.two_pow_pos _)
  exact ⟨hv, ht, by omega, by omega⟩

/-- The Ledger with the same view, or none. -/
theorem Out.lessView {s : State} {f : Ldg → Ldg} (hv : ∀ l x b p, (f l).view = some (x, b, p) → l.view = some (x, b, p)) : Out s (s.onLdg f) := by
  intro a w
  refine ⟨fun m => w ?_, rfl⟩
  rcases m with m | ⟨x, b, p, h, m⟩ | m
  · exact Or.inl m
  · exact Or.inr (Or.inl ⟨x, b, p, hv _ _ _ _ h, m⟩)
  · exact Or.inr (Or.inr m)

theorem Kept.out_ {m : Nat} {s u : State} (h : Kept m s u) (hm : m.testBit 23 = false := by rfl) : Out s u := h.out hm

theorem Out.places {s u : State} (hm : u.hif.mem = s.hif.mem) (hv : u.ldg.view = s.ldg.view) (hr : u.hif.rings = s.hif.rings)
    (hp : ∀ e ∈ u.hif.posted, e ∈ s.hif.posted)
    (ho : ∀ e ∈ u.hif.outBuf, e ∈ s.hif.outBuf ∨ ∀ b, e.2 = some b → ∀ a, b.addr ≤ a → a < b.addr + b.len → s.mayStore a) : Out s u := by
  intro a w
  refine ⟨fun m => w ?_, congrArg (fun t => tget 0#8 t a) hm⟩
  rcases m with m | m | ⟨p, h, m⟩ | ⟨e, he, b, hb, m⟩
  · exact Or.inl (hr ▸ m)
  · exact Or.inr (Or.inl (hv ▸ m))
  · exact Or.inr (Or.inr (Or.inl ⟨p, hp p h, m⟩))
  · rcases ho e he with x | x
    · exact Or.inr (Or.inr (Or.inr ⟨e, x, b, hb, m⟩))
    · exact x b hb a m.1 m.2


end Sys2Proof.Machine
end

