-- ==== Sys2Proof/Laws/KeptOps.lean ====
section
/-! SUPPORT. What the operations of Machine/Ops.lean leave alone. -/

set_option linter.tactic.unusedName false

namespace Sys2Proof.Machine

set_option Elab.async false

theorem State.keep_kept {m : Nat} {s0 : State} {f : State → State} {s : State} (h0 : Kept m s0 s) (hm : 262144 ||| m = m) (hf : ∀ (x0 : State), Kept m s0 x0 → Kept m s0 (f x0)) : Kept m s0 (State.keep f s) := by
  unfold State.keep
  repeat' first
    | (intro)
    | with_reducible assumption
    | with_reducible exact Kept.refl _ _
    | exact Eq.refl _
    | (with_reducible refine Kept.ofId ?_)
    | exact lor_sub (by rfl) hm
    | (with_reducible apply Kept.step State.onPwr_kept)
    | (with_reducible apply hf)

theorem State.wf_kept {f : RFld} {v : Nat} {s : State} : Kept 4194310 s (State.wf f v s) := by
  unfold State.wf
  repeat' first
    | (intro)
    | with_reducible assumption
    | with_reducible exact Kept.refl _ _
    | exact Eq.refl _
    | (with_reducible apply Kept.step State.wr_kept)

theorem State.bump_kept {f : RFld} {s : State} {by_ : optParam Nat 1} : Kept 4194310 s (State.bump f s by_) := by
  unfold State.bump
  repeat' first
    | (intro)
    | with_reducible assumption
    | with_reducible exact Kept.refl _ _
    | exact Eq.refl _
    | (with_reducible apply Kept.step State.wf_kept)

theorem State.busyUs_kept {f : RFld} {at_ : Nat} {s : State} : Kept 4194310 s (State.busyUs f at_ s) := by
  unfold State.busyUs
  split
  · exact Kept.refl _ _
  · exact State.bump_kept

theorem State.busyUs_closing {f : RFld} {at_ : Nat} {s : State} (h : closingReg f.off = true) :
    Kept 4194304 s (State.busyUs f at_ s) := by
  unfold State.busyUs
  split
  · exact Kept.refl _ _
  · exact State.bump_closing h

theorem State.at__kept {t : Nat} {s : State} : Kept 4195585 s (State.at_ t s) := by
  unfold State.at_
  repeat' first
    | (intro)
    | with_reducible assumption
    | with_reducible exact Kept.refl _ _
    | exact Eq.refl _
    | (with_reducible apply Kept.step (State.busyUs_closing ?_))
    | (with_reducible apply Kept.step State.onSec_kept)
    | (with_reducible apply Kept.step State.onPts_kept)
    | (with_reducible apply Kept.step (State.onTim_kept ?_))
    | exact Nat.le_refl _
    | exact Nat.le_max_left _ _
    | exact closingReg_high (Nat.le_trans (by decide) (Nat.le_add_right _ _))

theorem State.drop_kept {f : RFld} {s : State} {by_ : optParam Nat 1} : Kept 4194310 s (State.drop f s by_) := by
  unfold State.drop
  repeat' first
    | (intro)
    | with_reducible assumption
    | with_reducible exact Kept.refl _ _
    | exact Eq.refl _
    | (with_reducible apply Kept.step State.wf_kept)

theorem State.hostPut_kept {addr : Nat} {n : Nat} {v : Nat} {s : State} : Kept 10485768 s (State.hostPut addr n v s) :=
  State.onHif_kept fun h w => memPut_wf n addr v h.mem w

theorem State.setRing_kept {r : Nat} {c : Rec 64} {s : State} : Kept 8388616 s (State.setRing r c s) := by
  unfold State.setRing
  repeat' first
    | (intro)
    | with_reducible assumption
    | with_reducible exact Kept.refl _ _
    | exact Eq.refl _
    | (with_reducible apply Kept.step (State.onHif_keptAt ?_))

theorem State.modRing_kept {r : Nat} {f : Rec 64 → Rec 64} {s : State} : Kept 8388616 s (State.modRing r f s) := by
  unfold State.modRing
  repeat' first
    | (intro)
    | with_reducible assumption
    | with_reducible exact Kept.refl _ _
    | exact Eq.refl _
    | (with_reducible apply Kept.step State.setRing_kept)

theorem State.sendVec_kept {fn : Nat} {vec : Nat} {s : State} : Kept 8 s (State.sendVec fn vec s) := by
  unfold State.sendVec
  repeat' first
    | (intro)
    | with_reducible assumption
    | with_reducible exact Kept.refl _ _
    | exact Eq.refl _
    | split
    | (with_reducible apply Kept.step (State.onHif_kept' ?_))
    | (with_reducible refine Kept.snd (by with_reducible assumption) ?_)
    | (with_reducible refine Kept.fst (by with_reducible assumption) ?_)

theorem State.signal_kept0 {r : Nat} {s : State} : Kept 8388616 s (State.signal r s) := by
  unfold State.signal
  repeat' first
    | (intro)
    | with_reducible assumption
    | with_reducible exact Kept.refl _ _
    | exact Eq.refl _
    | (extract_lets +onlyGivenNames x
       first
       | (have hx : Kept 8388616 s x := ?_
          clear_value x
          rotate_left
          subst x
          rotate_left)
       | clear_value x)
    | split
    | (with_reducible apply Kept.step State.sendVec_kept)
    | (with_reducible apply Kept.step State.setRing_kept)
    | (with_reducible apply Kept.step (State.onHif_kept' ?_))
    | (with_reducible refine Kept.snd (by with_reducible assumption) ?_)
    | (with_reducible refine Kept.fst (by with_reducible assumption) ?_)

theorem State.signal_out {r : Nat} {s : State} : Out s (State.signal r s) := by
  unfold State.signal
  dsimp only
  split
  · exact Out.refl s
  · split
    · have h1 : Out s (s.setRing r (fput Ring.ARMED 0 (s.ring r))) := Out.setRing (samePlace_fput _ _ _ (by decide))
      have h2 := h1.trans (State.sendVec_kept (fn := fget Ring.FUNC (s.ring r)) (vec := fget Ring.VECTOR (s.ring r))).out_
      exact h2.trans (Out.onHif rfl rfl rfl rfl)
    · split
      · exact Out.onHif rfl rfl rfl rfl
      · exact Out.refl s

theorem State.signal_kept {r : Nat} {s : State} : Kept 8 s (State.signal r s) :=
  State.signal_kept0.withOut State.signal_out rfl

theorem State.entryPut_kept {r : Nat} {e : Nat} {s : State} : Kept 10485768 s (State.entryPut r e s) := by
  unfold State.entryPut
  repeat' first
    | (intro)
    | with_reducible assumption
    | with_reducible exact Kept.refl _ _
    | exact Eq.refl _
    | (with_reducible apply Kept.step State.setRing_kept)
    | (with_reducible apply Kept.step State.hostPut_kept)

theorem State.cplPut_kept0 {cpl : Nat} {e : Nat} {s : State} : Kept 10485768 s (State.cplPut cpl e s) := by
  unfold State.cplPut
  repeat' first
    | (intro)
    | with_reducible assumption
    | with_reducible exact Kept.refl _ _
    | exact Eq.refl _
    | (extract_lets +onlyGivenNames x
       first
       | (have hx : Kept 10485768 s x := ?_
          clear_value x
          rotate_left
          subst x
          rotate_left)
       | clear_value x)
    | split
    | (with_reducible apply Kept.step State.entryPut_kept)
    | (with_reducible apply Kept.step State.signal_kept)
    | (with_reducible apply Kept.step (State.onHif_kept' ?_))
    | (with_reducible refine Kept.snd (by with_reducible assumption) ?_)
    | (with_reducible refine Kept.fst (by with_reducible assumption) ?_)

/-- A context of a ring that exists, put back with another field. -/
theorem setRing_ring {s : State} {r : Nat} {c : Rec 64} (h : samePlace c (s.ring r)) (hv : fbit Ring.VALID (s.ring r) = true) :
    (s.setRing r c).ring r = c := by
  refine tget_tset_some (0 : Rec 64) _ s.hif.rings r fun z => ?_
  have w := h.1
  rw [z, hv] at w
  exact absurd w (by rw [fbit_zero]; exact Bool.false_ne_true)

theorem hostPut_ring (addr n v r : Nat) (s : State) : (s.hostPut addr n v).ring r = s.ring r := by
  dsimp only [State.hostPut, State.onHif, State.ring]

/-- An entry written to a ring that the module writes. -/
theorem State.entryPut_out {r e : Nat} {s : State} (hv : fbit Ring.VALID (s.ring r) = true)
    (ht : fget Ring.TYPE (s.ring r) = 1 ∨ fget Ring.TYPE (s.ring r) = 2 ∨ fget Ring.TYPE (s.ring r) = 4) :
    Out s (s.entryPut r e) ∧ samePlace ((s.entryPut r e).ring r) (s.ring r) := by
  have p := samePlace_fput Ring.PROD (fget Ring.PROD (s.ring r) + 1) (s.ring r) (by decide)
  unfold State.entryPut
  dsimp only
  generalize e % 2 ^ 255 + phaseOf (s.ring r) (fget Ring.PROD (s.ring r)) * 2 ^ 255 = v
  have h1 : Out s (s.hostPut (fget Ring.BASE (s.ring r) + (fget Ring.PROD (s.ring r) % ringSize (s.ring r)) * 32) 32 v) :=
    Out.hostPut fun a ha hb => Or.inl ⟨_, ring_listed hv, slot_holds _ hv ht ha hb⟩
  have q := hostPut_ring (fget Ring.BASE (s.ring r) + (fget Ring.PROD (s.ring r) % ringSize (s.ring r)) * 32) 32 v r s
  generalize s.hostPut _ 32 v = u at h1 q ⊢
  rw [← q] at p hv ⊢
  exact ⟨h1.trans (Out.setRing p), (setRing_ring p hv).symm ▸ p⟩

theorem isRing_place {c d : Rec 64} {k : Nat} (h : isRing c k = true) (p : samePlace d c) : isRing d k = true := by
  unfold isRing at *
  rw [p.1, p.2.1]
  exact h

theorem isRing_valid {c : Rec 64} {k : Nat} (h : isRing c k = true) : fbit Ring.VALID c = true ∧ fget Ring.TYPE c = k := by
  unfold isRing at h
  rw [Bool.and_eq_true, beq_iff_eq] at h
  exact h

theorem State.cplPut_out {cpl : Nat} {e : Nat} {s : State} : Out s (State.cplPut cpl e s) := by
  unfold State.cplPut
  dsimp only
  split
  · exact Out.refl s
  · rename_i h
    rw [Bool.not_eq_true', Bool.not_eq_false] at h
    split
    · exact Out.refl s
    · split
      · exact Out.onHif rfl rfl rfl rfl
      · exact (State.entryPut_out (isRing_valid h).1 (Or.inl (isRing_valid h).2)).1.trans State.signal_kept.out_

theorem State.cplPut_kept {cpl : Nat} {e : Nat} {s : State} : Kept 2097160 s (State.cplPut cpl e s) :=
  State.cplPut_kept0.withOut State.cplPut_out rfl

theorem State.unflight_kept0 {i : Infl} {s : State} : Kept 12582920 s (State.unflight i s) := by
  unfold State.unflight
  repeat' first
    | (intro)
    | with_reducible assumption
    | with_reducible exact Kept.refl _ _
    | exact Eq.refl _
    | split
    | (with_reducible apply Kept.step State.setRing_kept)
    | (with_reducible apply Kept.step (State.drop_closing ?_))
    | (with_reducible apply Kept.step (State.onHif_kept' ?_))
    | exact closingReg_high (Nat.le_trans (by decide) (Nat.le_add_right _ _))
    | (with_reducible refine Kept.snd (by with_reducible assumption) ?_)
    | (with_reducible refine Kept.fst (by with_reducible assumption) ?_)

theorem State.unflight_out {i : Infl} {s : State} : Out s (State.unflight i s) := by
  have h0 : Out s (s.onHif fun h => { h with inflight := h.inflight.erase i }) := Out.onHif rfl rfl rfl rfl
  refine h0.trans ?_
  unfold State.unflight
  dsimp only
  refine Out.trans ?_ ((State.drop_kept (f := Reg.HIF_FN.FN_INFLIGHT _)).out_)
  refine Out.trans ?_ ((State.drop_kept (f := Reg.HIF_INFLIGHT.COUNT)).out_)
  split
  · exact Out.setRing (samePlace_fput _ _ _ (by decide))
  · exact Out.refl _

theorem State.unflight_kept {i : Infl} {s : State} : Kept 4194312 s (State.unflight i s) :=
  State.unflight_kept0.withOut State.unflight_out rfl

theorem State.complete_kept {i : Infl} {r : Reply} {s : State} : Kept 6291464 s (State.complete i r s) := by
  unfold State.complete
  repeat' first
    | (intro)
    | with_reducible assumption
    | with_reducible exact Kept.refl _ _
    | exact Eq.refl _
    | (extract_lets +onlyGivenNames x
       first
       | (have hx : Kept 6291464 s x := ?_
          clear_value x
          rotate_left
          subst x
          rotate_left)
       | clear_value x)
    | split
    | (with_reducible apply Kept.step State.unflight_kept)
    | (with_reducible apply Kept.step State.cplPut_kept)
    | (with_reducible apply Kept.step (State.onHif_kept' ?_))
    | (with_reducible refine Kept.snd (by with_reducible assumption) ?_)
    | (with_reducible refine Kept.fst (by with_reducible assumption) ?_)

theorem State.finishCmd_kept {ring : Nat} {tag : Nat} {op : Nat} {r : Reply} {s : State} : Kept 6291464 s (State.finishCmd ring tag op r s) := by
  unfold State.finishCmd
  repeat' first
    | (intro)
    | with_reducible assumption
    | with_reducible exact Kept.refl _ _
    | exact Eq.refl _
    | split
    | (with_reducible apply Kept.step State.complete_kept)
    | (with_reducible refine Kept.snd (by with_reducible assumption) ?_)
    | (with_reducible refine Kept.fst (by with_reducible assumption) ?_)

theorem State.tripTake_kept {r : LRec} {s : State} : Kept 4194336 s (State.tripTake r s).1 := by
  unfold State.tripTake
  repeat' first
    | (intro)
    | with_reducible assumption
    | with_reducible exact Kept.refl _ _
    | exact Eq.refl _
    | (extract_lets +onlyGivenNames x
       first
       | (have hx : Kept 4194336 s x := ?_
          clear_value x
          rotate_left
          subst x
          rotate_left)
       | clear_value x)
    | split
    | (with_reducible apply Kept.step (State.wf_closing ?_))
    | (with_reducible apply Kept.step (State.onLdg_kept ?_))
    | exact closingReg_high (Nat.le_trans (by decide) (Nat.le_add_right _ _))
    | (with_reducible refine Kept.snd (by with_reducible assumption) ?_)
    | (with_reducible refine Kept.fst (by with_reducible assumption) ?_)

theorem State.dropRec_kept {r : LRec} {s : State} : Kept 4194304 s (State.dropRec r s).1 := by
  unfold State.dropRec
  repeat' first
    | (intro)
    | with_reducible assumption
    | with_reducible exact Kept.refl _ _
    | exact Eq.refl _
    | split
    | (with_reducible apply Kept.step (State.bump_closing ?_))
    | (with_reducible apply Kept.step (State.wf_closing ?_))
    | exact closingReg_high (Nat.le_trans (by decide) (Nat.le_add_right _ _))
    | (with_reducible refine Kept.snd (by with_reducible assumption) ?_)
    | (with_reducible refine Kept.fst (by with_reducible assumption) ?_)

theorem State.bufGauge_kept {s : State} : Kept 4194304 s (State.bufGauge s) := by
  unfold State.bufGauge
  repeat' first
    | (intro)
    | with_reducible assumption
    | with_reducible exact Kept.refl _ _
    | exact Eq.refl _
    | (with_reducible apply Kept.step (State.wf_closing ?_))
    | exact closingReg_high (Nat.le_trans (by decide) (Nat.le_add_right _ _))

theorem State.bufTake_kept {r : LRec} {s : State} : Kept 4194336 s (State.bufTake r s).1 := by
  unfold State.bufTake
  repeat' first
    | (intro)
    | with_reducible assumption
    | with_reducible exact Kept.refl _ _
    | exact Eq.refl _
    | (extract_lets +onlyGivenNames x
       first
       | (have hx : Kept 4194336 s x := ?_
          clear_value x
          rotate_left
          subst x
          rotate_left)
       | clear_value x)
    | split
    | (with_reducible apply Kept.step State.dropRec_kept)
    | (with_reducible apply Kept.step (State.wf_closing ?_))
    | (with_reducible apply Kept.step (State.onLdg_kept ?_))
    | exact closingReg_high (Nat.le_trans (by decide) (Nat.le_add_right _ _))
    | (with_reducible refine Kept.snd (by with_reducible assumption) ?_)
    | (with_reducible refine Kept.fst (by with_reducible assumption) ?_)

theorem State.spoolTake_kept {rs : List LRec} {s : State} : Kept 4194336 s (State.spoolTake rs s).1 := by
  unfold State.spoolTake
  repeat' first
    | (intro)
    | with_reducible assumption
    | with_reducible exact Kept.refl _ _
    | exact Eq.refl _
    | split
    | (with_reducible apply Kept.step State.dropRec_kept)
    | (with_reducible apply Kept.step (State.wf_closing ?_))
    | (with_reducible apply Kept.step (State.onLdg_kept ?_))
    | exact closingReg_high (Nat.le_trans (by decide) (Nat.le_add_right _ _))
    | (with_reducible refine Kept.fold ?_ ?_)
    | (with_reducible refine Kept.foldSnd ?_ ?_)
    | (with_reducible refine Kept.foldFst ?_ ?_)
    | (with_reducible refine Kept.snd (by with_reducible assumption) ?_)
    | (with_reducible refine Kept.fst (by with_reducible assumption) ?_)

theorem State.lshipSpool_kept {s : State} : Kept 4194336 s (State.lshipSpool s).1 := by
  unfold State.lshipSpool
  repeat' first
    | (intro)
    | with_reducible assumption
    | with_reducible exact Kept.refl _ _
    | exact Eq.refl _
    | (with_reducible apply Kept.step State.spoolTake_kept)
    | (with_reducible apply Kept.step (State.onLdg_kept ?_))

theorem State.lbufTake_kept {r : LRec} {s : State} : Kept 4194336 s (State.lbufTake r s) := by
  unfold State.lbufTake
  repeat' first
    | (intro)
    | with_reducible assumption
    | with_reducible exact Kept.refl _ _
    | exact Eq.refl _
    | (extract_lets +onlyGivenNames x
       first
       | (have hx : Kept 4194336 s x := ?_
          clear_value x
          rotate_left
          subst x
          rotate_left)
       | clear_value x)
    | split
    | (with_reducible apply Kept.step State.lshipSpool_kept)
    | (with_reducible apply Kept.step (State.onLdg_kept ?_))
    | (with_reducible refine Kept.snd (by with_reducible assumption) ?_)
    | (with_reducible refine Kept.fst (by with_reducible assumption) ?_)

theorem State.creditTokens_kept {s : State} : Kept 32 s (State.creditTokens s) := by
  unfold State.creditTokens
  repeat' first
    | (intro)
    | with_reducible assumption
    | with_reducible exact Kept.refl _ _
    | exact Eq.refl _
    | (extract_lets +onlyGivenNames x
       first
       | (have hx : Kept 32 s x := ?_
          clear_value x
          rotate_left
          subst x
          rotate_left)
       | clear_value x)
    | split
    | (with_reducible apply Kept.step (State.onLdg_kept ?_))
    | (with_reducible refine Kept.fold ?_ ?_)
    | (with_reducible refine Kept.foldSnd ?_ ?_)
    | (with_reducible refine Kept.foldFst ?_ ?_)
    | (with_reducible refine Kept.snd (by with_reducible assumption) ?_)
    | (with_reducible refine Kept.fst (by with_reducible assumption) ?_)

theorem State.reburst_kept {code : Nat} {burst : Nat} {s : State} : Kept 32 s (State.reburst code burst s) := by
  unfold State.reburst
  repeat' first
    | (intro)
    | with_reducible assumption
    | with_reducible exact Kept.refl _ _
    | exact Eq.refl _
    | (with_reducible apply Kept.step State.creditTokens_kept)
    | (with_reducible apply Kept.step (State.onLdg_kept ?_))

theorem State.viewPut_kept0 {k : Nat} {off : Nat} {n : Nat} {back : Nat} {v : Nat} {s : State} : Kept 10485800 s (State.viewPut k off n back v s) := by
  unfold State.viewPut
  repeat' first
    | (intro)
    | with_reducible assumption
    | with_reducible exact Kept.refl _ _
    | exact Eq.refl _
    | split
    | (with_reducible apply Kept.step State.hostPut_kept)
    | (with_reducible apply Kept.step (State.onLdg_kept ?_))
    | (with_reducible refine Kept.snd (by with_reducible assumption) ?_)
    | (with_reducible refine Kept.fst (by with_reducible assumption) ?_)

theorem State.viewPut_out {k off n back v : Nat} {s : State} : Out s (State.viewPut k off n back v s) := by
  unfold State.viewPut
  split
  · exact Out.refl s
  · rename_i f addr p e
    split
    · exact Out.refl s
    · rename_i hb
      dsimp only
      have h0 : Out s (s.onLdg fun l => { l with viewGen := tset 0 l.viewGen k ((tget 0 s.ldg.viewGen k + 2) % 2 ^ 32) }) := Out.onLdg rfl
      refine h0.trans (Out.hostPut fun a ha hb' => Or.inr (Or.inl ⟨f, addr, p, e, ?_, ?_⟩)) <;> omega

theorem State.viewPut_kept {k : Nat} {off : Nat} {n : Nat} {back : Nat} {v : Nat} {s : State} : Kept 2097192 s (State.viewPut k off n back v s) :=
  State.viewPut_kept0.withOut State.viewPut_out rfl

theorem State.tallyUp_kept {code : Nat} {t : Nat} {skip : Bool} {s : State} : Kept 2097192 s (State.tallyUp code t skip s) := by
  unfold State.tallyUp
  repeat' first
    | (intro)
    | with_reducible assumption
    | with_reducible exact Kept.refl _ _
    | exact Eq.refl _
    | (with_reducible apply Kept.step State.viewPut_kept)
    | (with_reducible apply Kept.step (State.onLdg_kept ?_))

theorem State.ldgSkip_kept {code : Nat} {t : Nat} {s : State} : Kept 2097192 s (State.ldgSkip code t s) := by
  unfold State.ldgSkip
  repeat' first
    | (intro)
    | with_reducible assumption
    | with_reducible exact Kept.refl _ _
    | exact Eq.refl _
    | (with_reducible apply Kept.step State.tallyUp_kept)
    | (with_reducible apply Kept.step (State.onLdg_kept ?_))

theorem State.ldgEvent_kept {code : Nat} {t : Nat} {payload : Nat} {s : State} : Kept 6291496 s (State.ldgEvent code t payload s).1 := by
  unfold State.ldgEvent
  repeat' first
    | (intro)
    | with_reducible assumption
    | with_reducible exact Kept.refl _ _
    | exact Eq.refl _
    | (extract_lets +onlyGivenNames x
       first
       | (have hx : Kept 6291496 s x := ?_
          clear_value x
          rotate_left
          subst x
          rotate_left)
       | clear_value x)
    | split
    | (with_reducible apply Kept.step State.ldgSkip_kept)
    | (with_reducible apply Kept.step State.tallyUp_kept)
    | (with_reducible apply Kept.step State.creditTokens_kept)
    | (with_reducible apply Kept.step State.lbufTake_kept)
    | (with_reducible apply Kept.step State.bufTake_kept)
    | (with_reducible apply Kept.step State.tripTake_kept)
    | (with_reducible apply Kept.step (State.bump_closing ?_))
    | (with_reducible apply Kept.step (State.onLdg_kept ?_))
    | exact closingReg_high (Nat.le_trans (by decide) (Nat.le_add_right _ _))
    | (with_reducible refine Kept.snd (by with_reducible assumption) ?_)
    | (with_reducible refine Kept.fst (by with_reducible assumption) ?_)

theorem State.flushAsk_kept {code : Nat} {s : State} : Kept 4194336 s (State.flushAsk code s) := by
  unfold State.flushAsk
  repeat' first
    | (intro)
    | with_reducible assumption
    | with_reducible exact Kept.refl _ _
    | exact Eq.refl _
    | split
    | (with_reducible apply Kept.step State.lshipSpool_kept)
    | (with_reducible apply Kept.step (State.onLdg_kept ?_))
    | (with_reducible refine Kept.snd (by with_reducible assumption) ?_)
    | (with_reducible refine Kept.fst (by with_reducible assumption) ?_)

theorem State.klogTake_kept {code : Nat} {payload : Nat} {s : State} : Kept 524288 s (State.klogTake code payload s) := by
  unfold State.klogTake
  repeat' first
    | (intro)
    | with_reducible assumption
    | with_reducible exact Kept.refl _ _
    | exact Eq.refl _
    | split
    | (with_reducible apply Kept.step State.onKpr_kept)
    | (with_reducible refine Kept.snd (by with_reducible assumption) ?_)
    | (with_reducible refine Kept.fst (by with_reducible assumption) ?_)

theorem State.evtPut_kept0 {r : Nat} {es : List Nat} {seq : Option Nat} {s : State} : Kept 14680072 s (State.evtPut r es seq s).1 := by
  have hz : True := trivial
  unfold State.evtPut
  repeat' first
    | (intro)
    | with_reducible assumption
    | with_reducible exact Kept.refl _ _
    | exact Eq.refl _
    | (extract_lets +onlyGivenNames x
       first
       | (have hx : Kept 14680072 s x := ?_
          clear_value x
          rotate_left
          subst x
          rotate_left)
       | (have hz : ∀ y, Kept 14680072 s y → Kept 14680072 s (x y) := ?_
          clear_value x
          rotate_left
          unfold x
          clear x
          rotate_left)
       | (have hz : ∀ a y, Kept 14680072 s y → Kept 14680072 s (x a y) := ?_
          clear_value x
          rotate_left
          unfold x
          clear x
          rotate_left)
       | (have hz : ∀ a b y, Kept 14680072 s y → Kept 14680072 s (x a b y) := ?_
          clear_value x
          rotate_left
          unfold x
          clear x
          rotate_left)
       | (have hz : ∀ a b c y, Kept 14680072 s y → Kept 14680072 s (x a b c y) := ?_
          clear_value x
          rotate_left
          unfold x
          clear x
          rotate_left)
       | clear_value x)
    | split
    | (with_reducible apply Kept.step State.entryPut_kept)
    | (with_reducible apply Kept.step State.signal_kept)
    | (with_reducible apply Kept.step State.modRing_kept)
    | (with_reducible apply Kept.step State.setRing_kept)
    | (with_reducible apply Kept.step (State.bump_closing ?_))
    | (with_reducible apply Kept.step (State.wf_closing ?_))
    | (with_reducible apply Kept.step (State.onHif_kept' ?_))
    | exact closingReg_high (Nat.le_trans (by decide) (Nat.le_add_right _ _))
    | (with_reducible refine Kept.fold ?_ ?_)
    | (with_reducible refine Kept.foldSnd ?_ ?_)
    | (with_reducible refine Kept.foldFst ?_ ?_)
    | (with_reducible refine Kept.snd (by with_reducible assumption) ?_)
    | (with_reducible refine Kept.fst (by with_reducible assumption) ?_)
    | (with_reducible apply hz)
    | (with_reducible refine Kept.call (by with_reducible assumption) ?_)
    | (with_reducible refine Kept.call1 (by with_reducible assumption) ?_)

theorem entries_out {r : Nat} {l : List Nat} : ∀ {s : State}, isRing (s.ring r) 2 = true → Out s (l.foldl (fun s e => s.entryPut r e) s) := by
  induction l with
  | nil => exact fun _ => Out.refl _
  | cons e l ih =>
    intro s h
    have q := State.entryPut_out (e := e) (isRing_valid h).1 (Or.inr (Or.inl (isRing_valid h).2))
    exact q.1.trans (ih (isRing_place h q.2))

theorem State.evtPut_out {r : Nat} {es : List Nat} {seq : Option Nat} {s : State} : Out s (State.evtPut r es seq s).1 := by
  unfold State.evtPut
  dsimp only
  split
  · exact Out.refl s
  · rename_i h
    rw [Bool.not_eq_true', Bool.not_eq_false] at h
    have p (v : Nat) := samePlace_fput Ring.LOST v (s.ring r) (by decide)
    generalize (if (fget Ring.LOST (s.ring r) == 0) = true then es else
      lossEntry (fget Ring.LOST (s.ring r)) (tget (0, 0) s.hif.lostSeq r).1 (tget (0, 0) s.hif.lostSeq r).2 :: es) = all
    have hl : Out s ((s.modRing r (fput Ring.LOST 0)).onHif fun h => { h with lostSeq := tset (0, 0) h.lostSeq r (0, 0) }) :=
      (Out.modRing (p 0)).trans (Out.onHif rfl rfl rfl rfl)
    have hr : isRing (((s.modRing r (fput Ring.LOST 0)).onHif fun h => { h with lostSeq := tset (0, 0) h.lostSeq r (0, 0) }).ring r) 2
        = true := by
      have e : ((s.modRing r (fput Ring.LOST 0)).onHif fun h => { h with lostSeq := tset (0, 0) h.lostSeq r (0, 0) }).ring r
          = fput Ring.LOST 0 (s.ring r) := setRing_ring (p 0) (isRing_valid h).1
      rw [e]
      exact isRing_place h (p 0)
    split
    · exact (hl.trans (entries_out hr)).trans State.signal_kept.out_
    · split
      · exact (hl.trans (Out.onHif rfl rfl rfl rfl)).trans State.wf_kept.out_
      · refine Out.trans ?_ (State.bump_kept (f := Reg.HIF_EV_DROP_CNT.COUNT)).out_
        refine (Out.setRing (p (min (fget Ring.LOST (s.ring r) + es.length) 0xFFFFFFFF))).trans ?_
        split
        · exact Out.onHif rfl rfl rfl rfl
        · exact Out.refl _

theorem State.evtPut_kept {r : Nat} {es : List Nat} {seq : Option Nat} {s : State} : Kept 6291464 s (State.evtPut r es seq s).1 :=
  State.evtPut_kept0.withOut State.evtPut_out rfl

theorem raiseN_kept {a0 : Nat} {a1 : Nat} {a2 : Nat} {a3 : Nat} {a4 : List Nat} {a5 : State} : Kept 6815784 a5 (raiseN a0 a1 a2 a3 a4 a5) := by
  induction a0 generalizing a1 a2 a3 a4 a5 with
  | zero =>
    unfold raiseN
    repeat' first
      | (intro)
      | with_reducible assumption
      | with_reducible exact Kept.refl _ _
      | exact Eq.refl _
      | (extract_lets +onlyGivenNames x
         first
         | (have hx : Kept 6815784 a5 x := ?_
            clear_value x
            rotate_left
            subst x
            rotate_left)
         | clear_value x)
      | split
      | (with_reducible apply Kept.step State.evtPut_kept)
      | (with_reducible apply Kept.step State.klogTake_kept)
      | (with_reducible apply Kept.step State.flushAsk_kept)
      | (with_reducible apply Kept.step State.ldgEvent_kept)
      | (with_reducible apply Kept.step ih)
      | (with_reducible refine Kept.fold ?_ ?_)
      | (with_reducible refine Kept.foldSnd ?_ ?_)
      | (with_reducible refine Kept.foldFst ?_ ?_)
      | (with_reducible refine Kept.snd (by with_reducible assumption) ?_)
      | (with_reducible refine Kept.fst (by with_reducible assumption) ?_)

  | succ n ih =>
    unfold raiseN
    repeat' first
      | (intro)
      | with_reducible assumption
      | with_reducible exact Kept.refl _ _
      | exact Eq.refl _
      | (extract_lets +onlyGivenNames x
         first
         | (have hx : Kept 6815784 a5 x := ?_
            clear_value x
            rotate_left
            subst x
            rotate_left)
         | clear_value x)
      | split
      | (with_reducible apply Kept.step State.evtPut_kept)
      | (with_reducible apply Kept.step State.klogTake_kept)
      | (with_reducible apply Kept.step State.flushAsk_kept)
      | (with_reducible apply Kept.step State.ldgEvent_kept)
      | (with_reducible apply Kept.step ih)
      | (with_reducible refine Kept.fold ?_ ?_)
      | (with_reducible refine Kept.foldSnd ?_ ?_)
      | (with_reducible refine Kept.foldFst ?_ ?_)
      | (with_reducible refine Kept.snd (by with_reducible assumption) ?_)
      | (with_reducible refine Kept.fst (by with_reducible assumption) ?_)

theorem State.raiseAt_kept {t : Nat} {code : Nat} {obj : Nat} {args : List Nat} {s : State} : Kept 6815784 s (State.raiseAt t code obj args s) := by
  unfold State.raiseAt
  repeat' first
    | (intro)
    | with_reducible assumption
    | with_reducible exact Kept.refl _ _
    | exact Eq.refl _
    | (with_reducible apply Kept.step raiseN_kept)

theorem State.raise_kept {code : Nat} {obj : Nat} {args : List Nat} {s : State} : Kept 6815784 s (State.raise code obj args s) := by
  unfold State.raise
  repeat' first
    | (intro)
    | with_reducible assumption
    | with_reducible exact Kept.refl _ _
    | exact Eq.refl _
    | (with_reducible apply Kept.step State.raiseAt_kept)

theorem State.lshipFlush_kept {s : State} : Kept 6815784 s (State.lshipFlush s) := by
  unfold State.lshipFlush
  repeat' first
    | (intro)
    | with_reducible assumption
    | with_reducible exact Kept.refl _ _
    | exact Eq.refl _
    | (with_reducible apply Kept.step State.raise_kept)
    | (with_reducible apply Kept.step State.lshipSpool_kept)
    | (with_reducible refine Kept.fold ?_ ?_)
    | (with_reducible refine Kept.foldSnd ?_ ?_)
    | (with_reducible refine Kept.foldFst ?_ ?_)

theorem State.ldgTake_kept {r : LRec} {s : State} : Kept 6815784 s (State.ldgTake r s) := by
  unfold State.ldgTake
  repeat' first
    | (intro)
    | with_reducible assumption
    | with_reducible exact Kept.refl _ _
    | exact Eq.refl _
    | split
    | (with_reducible apply Kept.step State.raise_kept)
    | (with_reducible apply Kept.step State.lbufTake_kept)
    | (with_reducible apply Kept.step State.bufTake_kept)
    | (with_reducible apply Kept.step State.tripTake_kept)
    | (with_reducible refine Kept.fold ?_ ?_)
    | (with_reducible refine Kept.foldSnd ?_ ?_)
    | (with_reducible refine Kept.foldFst ?_ ?_)
    | (with_reducible refine Kept.snd (by with_reducible assumption) ?_)
    | (with_reducible refine Kept.fst (by with_reducible assumption) ?_)

theorem State.entriesPut_kept {rings : List Nat} {e : Nat} {seq : Option Nat} {s : State} : Kept 6815784 s (State.entriesPut rings e seq s) := by
  unfold State.entriesPut
  repeat' first
    | (intro)
    | with_reducible assumption
    | with_reducible exact Kept.refl _ _
    | exact Eq.refl _
    | split
    | (with_reducible apply Kept.step State.raise_kept)
    | (with_reducible apply Kept.step State.evtPut_kept)
    | (with_reducible refine Kept.fold ?_ ?_)
    | (with_reducible refine Kept.foldSnd ?_ ?_)
    | (with_reducible refine Kept.foldFst ?_ ?_)
    | (with_reducible refine Kept.snd (by with_reducible assumption) ?_)
    | (with_reducible refine Kept.fst (by with_reducible assumption) ?_)

theorem State.denied_kept {fn : Nat} {path : Nat} {block : Nat} {obj1 : Nat} {arg2 : Nat} {s : State} : Kept 6815800 s (State.denied fn path block obj1 arg2 s) := by
  unfold State.denied
  repeat' first
    | (intro)
    | with_reducible assumption
    | with_reducible exact Kept.refl _ _
    | exact Eq.refl _
    | (extract_lets +onlyGivenNames x
       first
       | (have hx : Kept 6815800 s x := ?_
          clear_value x
          rotate_left
          subst x
          rotate_left)
       | clear_value x)
    | split
    | (with_reducible apply Kept.step State.raise_kept)
    | (with_reducible apply Kept.step State.ldgSkip_kept)
    | (with_reducible apply Kept.step (State.bump_closing ?_))
    | (with_reducible apply Kept.step (State.wf_closing ?_))
    | (with_reducible apply Kept.step State.onWld_kept)
    | exact closingReg_high (Nat.le_trans (by decide) (Nat.le_add_right _ _))
    | (with_reducible refine Kept.snd (by with_reducible assumption) ?_)
    | (with_reducible refine Kept.fst (by with_reducible assumption) ?_)

theorem State.twinEvent_kept {obj : Nat} {block : Nat} {second : Nat} {first : Nat} {s : State} : Kept 6815784 s (State.twinEvent obj block second first s) := by
  unfold State.twinEvent
  repeat' first
    | (intro)
    | with_reducible assumption
    | with_reducible exact Kept.refl _ _
    | exact Eq.refl _
    | (with_reducible apply Kept.step State.raise_kept)

theorem State.setReady_kept {n : Nat} {s : State} : Kept 6815790 s (State.setReady n s) := by
  unfold State.setReady
  repeat' first
    | (intro)
    | with_reducible assumption
    | with_reducible exact Kept.refl _ _
    | exact Eq.refl _
    | split
    | (with_reducible apply Kept.step State.raise_kept)
    | (with_reducible apply Kept.step State.wf_kept)
    | (with_reducible refine Kept.snd (by with_reducible assumption) ?_)
    | (with_reducible refine Kept.fst (by with_reducible assumption) ?_)

theorem State.clearReady_kept {n : Nat} {s : State} : Kept 4194310 s (State.clearReady n s) := by
  unfold State.clearReady
  repeat' first
    | (intro)
    | with_reducible assumption
    | with_reducible exact Kept.refl _ _
    | exact Eq.refl _
    | split
    | (with_reducible apply Kept.step State.wf_kept)
    | (with_reducible refine Kept.snd (by with_reducible assumption) ?_)
    | (with_reducible refine Kept.fst (by with_reducible assumption) ?_)

theorem State.dirtyHost_kept {s : State} : Kept 4325376 s (State.dirtyHost s) := by
  unfold State.dirtyHost
  repeat' first
    | (intro)
    | with_reducible assumption
    | with_reducible exact Kept.refl _ _
    | exact Eq.refl _
    | (with_reducible apply Kept.step (State.wf_closing ?_))
    | (with_reducible apply Kept.step State.onImg_kept)
    | exact closingReg_high (Nat.le_trans (by decide) (Nat.le_add_right _ _))

theorem State.dirtyMod_kept {s : State} : Kept 4194304 s (State.dirtyMod s) := by
  unfold State.dirtyMod
  repeat' first
    | (intro)
    | with_reducible assumption
    | with_reducible exact Kept.refl _ _
    | exact Eq.refl _
    | (with_reducible apply Kept.step (State.wf_closing ?_))
    | exact closingReg_high (Nat.le_trans (by decide) (Nat.le_add_right _ _))

end Sys2Proof.Machine
end

