-- ==== Sys2Proof/Laws/Regs.lean ====
section
/-! SUPPORT. Register words and fields: a field reads as it was written, and a write leaves every other field and word alone. -/

namespace Sys2Proof.Machine

theorem State.rf_eq (s : State) (f : RFld) : s.rf f = fget ⟨f.lo, f.w⟩ (s.rd f.off) := rfl

/-- A register word reads as written. -/
theorem State.rd_wr_self {s : State} (h : Regs.wf s.regs = true) (off : Nat) (w : Word) : (s.wr off w).rd off = w := by
  have e : tget (facWord off) (tset (facWord off) s.regs off w) off = w := tget_tset_self (d := facWord) h off w
  unfold State.wr
  dsimp only
  split
  · exact e
  · exact e

/-- A write leaves every other register word alone. -/
theorem State.rd_wr_ne {s : State} {off o : Nat} (h : o ≠ off) (w : Word) : (s.wr off w).rd o = s.rd o := by
  unfold State.wr
  dsimp only
  split
  · exact tget_tset_ne' _ _ _ _ h
  · exact tget_tset_ne' _ _ _ _ h

/-- The complement of a register word that is held as a twin is written with it. -/
theorem State.rdN_wr_self {s : State} (h : RegsN.wf s.regsN = true) {off : Nat} (t : holdsTwin off = true) (w : Word) :
    (s.wr off w).rdN off = ~~~ w := by
  have e : tget (~~~ facWord off) (tset (~~~ facWord off) s.regsN off (~~~ w)) off = ~~~ w :=
    tget_tset_self (d := fun o => ~~~ facWord o) h off (~~~ w)
  unfold State.wr
  dsimp only
  rw [if_pos t]
  exact e

/-- A register field reads as written. -/
theorem State.rf_wf_self {s : State} (h : Regs.wf s.regs = true) (f : RFld) (v : Nat) (b : f.lo + f.w ≤ 32) :
    (s.wf f v).rf f = v % 2 ^ f.w := by
  unfold State.wf
  rw [State.rf_eq, State.rd_wr_self h]
  exact fget_fput_self ⟨f.lo, f.w⟩ v _ b

/-- A write of a register field leaves every other word alone. -/
theorem State.rf_wf_ne {s : State} {g f : RFld} (h : g.off ≠ f.off) (v : Nat) : (s.wf f v).rf g = s.rf g := by
  unfold State.wf
  rw [State.rf_eq, State.rd_wr_ne h, State.rf_eq]

/-- A write of a register field leaves the other fields of its word alone. -/
theorem State.rf_wf_other {s : State} (h : Regs.wf s.regs = true) {g f : RFld} (e : g.off = f.off)
    (d : g.lo + g.w ≤ f.lo ∨ f.lo + f.w ≤ g.lo) (v : Nat) : (s.wf f v).rf g = s.rf g := by
  unfold State.wf
  rw [State.rf_eq, e, State.rd_wr_self h, State.rf_eq, e]
  exact fget_fput_ne _ _ _ _ d

theorem State.wf_wf {s : State} (h : Regs.wf s.regs = true) (f : RFld) (v : Nat) : Regs.wf (s.wf f v).regs = true :=
  (State.wr_kept).cRegs h

theorem State.wr_wf {s : State} (h : Regs.wf s.regs = true) (off : Nat) (w : Word) : Regs.wf (s.wr off w).regs = true :=
  (State.wr_kept).cRegs h

/-- A counter counts, and holds at its largest value. -/
theorem State.rf_bump_self {s : State} (h : Regs.wf s.regs = true) (f : RFld) (n : Nat) (b : f.lo + f.w ≤ 32) :
    (s.bump f n).rf f = min (s.rf f + n) (2 ^ f.w - 1) := by
  unfold State.bump
  rw [State.rf_wf_self h f _ b]
  have : 0 < 2 ^ f.w := Nat.two_pow_pos _
  exact Nat.mod_eq_of_lt (by omega)

theorem State.rf_bump_ne {s : State} {g f : RFld} (h : g.off ≠ f.off) (n : Nat) : (s.bump f n).rf g = s.rf g :=
  State.rf_wf_ne h _

/-- A register field that no closing pass writes reads as before. -/
theorem Kept.rf {m : Nat} {s u : State} (h : Kept m s u) (hm : m.testBit 1 = false) (f : RFld) (c : closingReg f.off = false) :
    u.rf f = s.rf f := by
  rw [State.rf_eq, h.rd hm f.off c, State.rf_eq]

end Sys2Proof.Machine
end

