-- ==== Sys2Proof/Laws/State.lean ====
section
/-! SUPPORT. Each update of one group of the state, read at each group. -/

namespace Sys2Proof.Machine

variable (s : State)

@[simp] theorem State.onTim_tim (f : Tim → Tim) : (s.onTim f).tim = f s.tim := rfl
@[simp] theorem State.onTim_regs (f : Tim → Tim) : (s.onTim f).regs = s.regs := rfl
@[simp] theorem State.onTim_regsN (f : Tim → Tim) : (s.onTim f).regsN = s.regsN := rfl
@[simp] theorem State.onTim_hif (f : Tim → Tim) : (s.onTim f).hif = s.hif := rfl
@[simp] theorem State.onTim_wld (f : Tim → Tim) : (s.onTim f).wld = s.wld := rfl
@[simp] theorem State.onTim_ldg (f : Tim → Tim) : (s.onTim f).ldg = s.ldg := rfl
@[simp] theorem State.onTim_hst (f : Tim → Tim) : (s.onTim f).hst = s.hst := rfl
@[simp] theorem State.onTim_fab (f : Tim → Tim) : (s.onTim f).fab = s.fab := rfl
@[simp] theorem State.onTim_pts (f : Tim → Tim) : (s.onTim f).pts = s.pts := rfl
@[simp] theorem State.onTim_alm (f : Tim → Tim) : (s.onTim f).alm = s.alm := rfl
@[simp] theorem State.onTim_sec (f : Tim → Tim) : (s.onTim f).sec = s.sec := rfl
@[simp] theorem State.onTim_cmw (f : Tim → Tim) : (s.onTim f).cmw = s.cmw := rfl
@[simp] theorem State.onTim_ctl (f : Tim → Tim) : (s.onTim f).ctl = s.ctl := rfl
@[simp] theorem State.onTim_lio (f : Tim → Tim) : (s.onTim f).lio = s.lio := rfl
@[simp] theorem State.onTim_ltn (f : Tim → Tim) : (s.onTim f).ltn = s.ltn := rfl
@[simp] theorem State.onTim_bcn (f : Tim → Tim) : (s.onTim f).bcn = s.bcn := rfl
@[simp] theorem State.onTim_bkp (f : Tim → Tim) : (s.onTim f).bkp = s.bkp := rfl
@[simp] theorem State.onTim_img (f : Tim → Tim) : (s.onTim f).img = s.img := rfl
@[simp] theorem State.onTim_pwr (f : Tim → Tim) : (s.onTim f).pwr = s.pwr := rfl
@[simp] theorem State.onTim_kpr (f : Tim → Tim) : (s.onTim f).kpr = s.kpr := rfl
@[simp] theorem State.onTim_free (f : Tim → Tim) : (s.onTim f).free = s.free := rfl
@[simp] theorem State.onTim_pending (f : Tim → Tim) : (s.onTim f).pending = s.pending := rfl
@[simp] theorem State.onRegs_tim (f : Tab Word → Tab Word) : (s.onRegs f).tim = s.tim := rfl
@[simp] theorem State.onRegs_regs (f : Tab Word → Tab Word) : (s.onRegs f).regs = f s.regs := rfl
@[simp] theorem State.onRegs_regsN (f : Tab Word → Tab Word) : (s.onRegs f).regsN = s.regsN := rfl
@[simp] theorem State.onRegs_hif (f : Tab Word → Tab Word) : (s.onRegs f).hif = s.hif := rfl
@[simp] theorem State.onRegs_wld (f : Tab Word → Tab Word) : (s.onRegs f).wld = s.wld := rfl
@[simp] theorem State.onRegs_ldg (f : Tab Word → Tab Word) : (s.onRegs f).ldg = s.ldg := rfl
@[simp] theorem State.onRegs_hst (f : Tab Word → Tab Word) : (s.onRegs f).hst = s.hst := rfl
@[simp] theorem State.onRegs_fab (f : Tab Word → Tab Word) : (s.onRegs f).fab = s.fab := rfl
@[simp] theorem State.onRegs_pts (f : Tab Word → Tab Word) : (s.onRegs f).pts = s.pts := rfl
@[simp] theorem State.onRegs_alm (f : Tab Word → Tab Word) : (s.onRegs f).alm = s.alm := rfl
@[simp] theorem State.onRegs_sec (f : Tab Word → Tab Word) : (s.onRegs f).sec = s.sec := rfl
@[simp] theorem State.onRegs_cmw (f : Tab Word → Tab Word) : (s.onRegs f).cmw = s.cmw := rfl
@[simp] theorem State.onRegs_ctl (f : Tab Word → Tab Word) : (s.onRegs f).ctl = s.ctl := rfl
@[simp] theorem State.onRegs_lio (f : Tab Word → Tab Word) : (s.onRegs f).lio = s.lio := rfl
@[simp] theorem State.onRegs_ltn (f : Tab Word → Tab Word) : (s.onRegs f).ltn = s.ltn := rfl
@[simp] theorem State.onRegs_bcn (f : Tab Word → Tab Word) : (s.onRegs f).bcn = s.bcn := rfl
@[simp] theorem State.onRegs_bkp (f : Tab Word → Tab Word) : (s.onRegs f).bkp = s.bkp := rfl
@[simp] theorem State.onRegs_img (f : Tab Word → Tab Word) : (s.onRegs f).img = s.img := rfl
@[simp] theorem State.onRegs_pwr (f : Tab Word → Tab Word) : (s.onRegs f).pwr = s.pwr := rfl
@[simp] theorem State.onRegs_kpr (f : Tab Word → Tab Word) : (s.onRegs f).kpr = s.kpr := rfl
@[simp] theorem State.onRegs_free (f : Tab Word → Tab Word) : (s.onRegs f).free = s.free := rfl
@[simp] theorem State.onRegs_pending (f : Tab Word → Tab Word) : (s.onRegs f).pending = s.pending := rfl
@[simp] theorem State.onRegsN_tim (f : Tab Word → Tab Word) : (s.onRegsN f).tim = s.tim := rfl
@[simp] theorem State.onRegsN_regs (f : Tab Word → Tab Word) : (s.onRegsN f).regs = s.regs := rfl
@[simp] theorem State.onRegsN_regsN (f : Tab Word → Tab Word) : (s.onRegsN f).regsN = f s.regsN := rfl
@[simp] theorem State.onRegsN_hif (f : Tab Word → Tab Word) : (s.onRegsN f).hif = s.hif := rfl
@[simp] theorem State.onRegsN_wld (f : Tab Word → Tab Word) : (s.onRegsN f).wld = s.wld := rfl
@[simp] theorem State.onRegsN_ldg (f : Tab Word → Tab Word) : (s.onRegsN f).ldg = s.ldg := rfl
@[simp] theorem State.onRegsN_hst (f : Tab Word → Tab Word) : (s.onRegsN f).hst = s.hst := rfl
@[simp] theorem State.onRegsN_fab (f : Tab Word → Tab Word) : (s.onRegsN f).fab = s.fab := rfl
@[simp] theorem State.onRegsN_pts (f : Tab Word → Tab Word) : (s.onRegsN f).pts = s.pts := rfl
@[simp] theorem State.onRegsN_alm (f : Tab Word → Tab Word) : (s.onRegsN f).alm = s.alm := rfl
@[simp] theorem State.onRegsN_sec (f : Tab Word → Tab Word) : (s.onRegsN f).sec = s.sec := rfl
@[simp] theorem State.onRegsN_cmw (f : Tab Word → Tab Word) : (s.onRegsN f).cmw = s.cmw := rfl
@[simp] theorem State.onRegsN_ctl (f : Tab Word → Tab Word) : (s.onRegsN f).ctl = s.ctl := rfl
@[simp] theorem State.onRegsN_lio (f : Tab Word → Tab Word) : (s.onRegsN f).lio = s.lio := rfl
@[simp] theorem State.onRegsN_ltn (f : Tab Word → Tab Word) : (s.onRegsN f).ltn = s.ltn := rfl
@[simp] theorem State.onRegsN_bcn (f : Tab Word → Tab Word) : (s.onRegsN f).bcn = s.bcn := rfl
@[simp] theorem State.onRegsN_bkp (f : Tab Word → Tab Word) : (s.onRegsN f).bkp = s.bkp := rfl
@[simp] theorem State.onRegsN_img (f : Tab Word → Tab Word) : (s.onRegsN f).img = s.img := rfl
@[simp] theorem State.onRegsN_pwr (f : Tab Word → Tab Word) : (s.onRegsN f).pwr = s.pwr := rfl
@[simp] theorem State.onRegsN_kpr (f : Tab Word → Tab Word) : (s.onRegsN f).kpr = s.kpr := rfl
@[simp] theorem State.onRegsN_free (f : Tab Word → Tab Word) : (s.onRegsN f).free = s.free := rfl
@[simp] theorem State.onRegsN_pending (f : Tab Word → Tab Word) : (s.onRegsN f).pending = s.pending := rfl
@[simp] theorem State.onHif_tim (f : Hif → Hif) : (s.onHif f).tim = s.tim := rfl
@[simp] theorem State.onHif_regs (f : Hif → Hif) : (s.onHif f).regs = s.regs := rfl
@[simp] theorem State.onHif_regsN (f : Hif → Hif) : (s.onHif f).regsN = s.regsN := rfl
@[simp] theorem State.onHif_hif (f : Hif → Hif) : (s.onHif f).hif = f s.hif := rfl
@[simp] theorem State.onHif_wld (f : Hif → Hif) : (s.onHif f).wld = s.wld := rfl
@[simp] theorem State.onHif_ldg (f : Hif → Hif) : (s.onHif f).ldg = s.ldg := rfl
@[simp] theorem State.onHif_hst (f : Hif → Hif) : (s.onHif f).hst = s.hst := rfl
@[simp] theorem State.onHif_fab (f : Hif → Hif) : (s.onHif f).fab = s.fab := rfl
@[simp] theorem State.onHif_pts (f : Hif → Hif) : (s.onHif f).pts = s.pts := rfl
@[simp] theorem State.onHif_alm (f : Hif → Hif) : (s.onHif f).alm = s.alm := rfl
@[simp] theorem State.onHif_sec (f : Hif → Hif) : (s.onHif f).sec = s.sec := rfl
@[simp] theorem State.onHif_cmw (f : Hif → Hif) : (s.onHif f).cmw = s.cmw := rfl
@[simp] theorem State.onHif_ctl (f : Hif → Hif) : (s.onHif f).ctl = s.ctl := rfl
@[simp] theorem State.onHif_lio (f : Hif → Hif) : (s.onHif f).lio = s.lio := rfl
@[simp] theorem State.onHif_ltn (f : Hif → Hif) : (s.onHif f).ltn = s.ltn := rfl
@[simp] theorem State.onHif_bcn (f : Hif → Hif) : (s.onHif f).bcn = s.bcn := rfl
@[simp] theorem State.onHif_bkp (f : Hif → Hif) : (s.onHif f).bkp = s.bkp := rfl
@[simp] theorem State.onHif_img (f : Hif → Hif) : (s.onHif f).img = s.img := rfl
@[simp] theorem State.onHif_pwr (f : Hif → Hif) : (s.onHif f).pwr = s.pwr := rfl
@[simp] theorem State.onHif_kpr (f : Hif → Hif) : (s.onHif f).kpr = s.kpr := rfl
@[simp] theorem State.onHif_free (f : Hif → Hif) : (s.onHif f).free = s.free := rfl
@[simp] theorem State.onHif_pending (f : Hif → Hif) : (s.onHif f).pending = s.pending := rfl
@[simp] theorem State.onWld_tim (f : Wld → Wld) : (s.onWld f).tim = s.tim := rfl
@[simp] theorem State.onWld_regs (f : Wld → Wld) : (s.onWld f).regs = s.regs := rfl
@[simp] theorem State.onWld_regsN (f : Wld → Wld) : (s.onWld f).regsN = s.regsN := rfl
@[simp] theorem State.onWld_hif (f : Wld → Wld) : (s.onWld f).hif = s.hif := rfl
@[simp] theorem State.onWld_wld (f : Wld → Wld) : (s.onWld f).wld = f s.wld := rfl
@[simp] theorem State.onWld_ldg (f : Wld → Wld) : (s.onWld f).ldg = s.ldg := rfl
@[simp] theorem State.onWld_hst (f : Wld → Wld) : (s.onWld f).hst = s.hst := rfl
@[simp] theorem State.onWld_fab (f : Wld → Wld) : (s.onWld f).fab = s.fab := rfl
@[simp] theorem State.onWld_pts (f : Wld → Wld) : (s.onWld f).pts = s.pts := rfl
@[simp] theorem State.onWld_alm (f : Wld → Wld) : (s.onWld f).alm = s.alm := rfl
@[simp] theorem State.onWld_sec (f : Wld → Wld) : (s.onWld f).sec = s.sec := rfl
@[simp] theorem State.onWld_cmw (f : Wld → Wld) : (s.onWld f).cmw = s.cmw := rfl
@[simp] theorem State.onWld_ctl (f : Wld → Wld) : (s.onWld f).ctl = s.ctl := rfl
@[simp] theorem State.onWld_lio (f : Wld → Wld) : (s.onWld f).lio = s.lio := rfl
@[simp] theorem State.onWld_ltn (f : Wld → Wld) : (s.onWld f).ltn = s.ltn := rfl
@[simp] theorem State.onWld_bcn (f : Wld → Wld) : (s.onWld f).bcn = s.bcn := rfl
@[simp] theorem State.onWld_bkp (f : Wld → Wld) : (s.onWld f).bkp = s.bkp := rfl
@[simp] theorem State.onWld_img (f : Wld → Wld) : (s.onWld f).img = s.img := rfl
@[simp] theorem State.onWld_pwr (f : Wld → Wld) : (s.onWld f).pwr = s.pwr := rfl
@[simp] theorem State.onWld_kpr (f : Wld → Wld) : (s.onWld f).kpr = s.kpr := rfl
@[simp] theorem State.onWld_free (f : Wld → Wld) : (s.onWld f).free = s.free := rfl
@[simp] theorem State.onWld_pending (f : Wld → Wld) : (s.onWld f).pending = s.pending := rfl
@[simp] theorem State.onLdg_tim (f : Ldg → Ldg) : (s.onLdg f).tim = s.tim := rfl
@[simp] theorem State.onLdg_regs (f : Ldg → Ldg) : (s.onLdg f).regs = s.regs := rfl
@[simp] theorem State.onLdg_regsN (f : Ldg → Ldg) : (s.onLdg f).regsN = s.regsN := rfl
@[simp] theorem State.onLdg_hif (f : Ldg → Ldg) : (s.onLdg f).hif = s.hif := rfl
@[simp] theorem State.onLdg_wld (f : Ldg → Ldg) : (s.onLdg f).wld = s.wld := rfl
@[simp] theorem State.onLdg_ldg (f : Ldg → Ldg) : (s.onLdg f).ldg = f s.ldg := rfl
@[simp] theorem State.onLdg_hst (f : Ldg → Ldg) : (s.onLdg f).hst = s.hst := rfl
@[simp] theorem State.onLdg_fab (f : Ldg → Ldg) : (s.onLdg f).fab = s.fab := rfl
@[simp] theorem State.onLdg_pts (f : Ldg → Ldg) : (s.onLdg f).pts = s.pts := rfl
@[simp] theorem State.onLdg_alm (f : Ldg → Ldg) : (s.onLdg f).alm = s.alm := rfl
@[simp] theorem State.onLdg_sec (f : Ldg → Ldg) : (s.onLdg f).sec = s.sec := rfl
@[simp] theorem State.onLdg_cmw (f : Ldg → Ldg) : (s.onLdg f).cmw = s.cmw := rfl
@[simp] theorem State.onLdg_ctl (f : Ldg → Ldg) : (s.onLdg f).ctl = s.ctl := rfl
@[simp] theorem State.onLdg_lio (f : Ldg → Ldg) : (s.onLdg f).lio = s.lio := rfl
@[simp] theorem State.onLdg_ltn (f : Ldg → Ldg) : (s.onLdg f).ltn = s.ltn := rfl
@[simp] theorem State.onLdg_bcn (f : Ldg → Ldg) : (s.onLdg f).bcn = s.bcn := rfl
@[simp] theorem State.onLdg_bkp (f : Ldg → Ldg) : (s.onLdg f).bkp = s.bkp := rfl
@[simp] theorem State.onLdg_img (f : Ldg → Ldg) : (s.onLdg f).img = s.img := rfl
@[simp] theorem State.onLdg_pwr (f : Ldg → Ldg) : (s.onLdg f).pwr = s.pwr := rfl
@[simp] theorem State.onLdg_kpr (f : Ldg → Ldg) : (s.onLdg f).kpr = s.kpr := rfl
@[simp] theorem State.onLdg_free (f : Ldg → Ldg) : (s.onLdg f).free = s.free := rfl
@[simp] theorem State.onLdg_pending (f : Ldg → Ldg) : (s.onLdg f).pending = s.pending := rfl
@[simp] theorem State.onHst_tim (f : Hst → Hst) : (s.onHst f).tim = s.tim := rfl
@[simp] theorem State.onHst_regs (f : Hst → Hst) : (s.onHst f).regs = s.regs := rfl
@[simp] theorem State.onHst_regsN (f : Hst → Hst) : (s.onHst f).regsN = s.regsN := rfl
@[simp] theorem State.onHst_hif (f : Hst → Hst) : (s.onHst f).hif = s.hif := rfl
@[simp] theorem State.onHst_wld (f : Hst → Hst) : (s.onHst f).wld = s.wld := rfl
@[simp] theorem State.onHst_ldg (f : Hst → Hst) : (s.onHst f).ldg = s.ldg := rfl
@[simp] theorem State.onHst_hst (f : Hst → Hst) : (s.onHst f).hst = f s.hst := rfl
@[simp] theorem State.onHst_fab (f : Hst → Hst) : (s.onHst f).fab = s.fab := rfl
@[simp] theorem State.onHst_pts (f : Hst → Hst) : (s.onHst f).pts = s.pts := rfl
@[simp] theorem State.onHst_alm (f : Hst → Hst) : (s.onHst f).alm = s.alm := rfl
@[simp] theorem State.onHst_sec (f : Hst → Hst) : (s.onHst f).sec = s.sec := rfl
@[simp] theorem State.onHst_cmw (f : Hst → Hst) : (s.onHst f).cmw = s.cmw := rfl
@[simp] theorem State.onHst_ctl (f : Hst → Hst) : (s.onHst f).ctl = s.ctl := rfl
@[simp] theorem State.onHst_lio (f : Hst → Hst) : (s.onHst f).lio = s.lio := rfl
@[simp] theorem State.onHst_ltn (f : Hst → Hst) : (s.onHst f).ltn = s.ltn := rfl
@[simp] theorem State.onHst_bcn (f : Hst → Hst) : (s.onHst f).bcn = s.bcn := rfl
@[simp] theorem State.onHst_bkp (f : Hst → Hst) : (s.onHst f).bkp = s.bkp := rfl
@[simp] theorem State.onHst_img (f : Hst → Hst) : (s.onHst f).img = s.img := rfl
@[simp] theorem State.onHst_pwr (f : Hst → Hst) : (s.onHst f).pwr = s.pwr := rfl
@[simp] theorem State.onHst_kpr (f : Hst → Hst) : (s.onHst f).kpr = s.kpr := rfl
@[simp] theorem State.onHst_free (f : Hst → Hst) : (s.onHst f).free = s.free := rfl
@[simp] theorem State.onHst_pending (f : Hst → Hst) : (s.onHst f).pending = s.pending := rfl
@[simp] theorem State.onFab_tim (f : Fab → Fab) : (s.onFab f).tim = s.tim := rfl
@[simp] theorem State.onFab_regs (f : Fab → Fab) : (s.onFab f).regs = s.regs := rfl
@[simp] theorem State.onFab_regsN (f : Fab → Fab) : (s.onFab f).regsN = s.regsN := rfl
@[simp] theorem State.onFab_hif (f : Fab → Fab) : (s.onFab f).hif = s.hif := rfl
@[simp] theorem State.onFab_wld (f : Fab → Fab) : (s.onFab f).wld = s.wld := rfl
@[simp] theorem State.onFab_ldg (f : Fab → Fab) : (s.onFab f).ldg = s.ldg := rfl
@[simp] theorem State.onFab_hst (f : Fab → Fab) : (s.onFab f).hst = s.hst := rfl
@[simp] theorem State.onFab_fab (f : Fab → Fab) : (s.onFab f).fab = f s.fab := rfl
@[simp] theorem State.onFab_pts (f : Fab → Fab) : (s.onFab f).pts = s.pts := rfl
@[simp] theorem State.onFab_alm (f : Fab → Fab) : (s.onFab f).alm = s.alm := rfl
@[simp] theorem State.onFab_sec (f : Fab → Fab) : (s.onFab f).sec = s.sec := rfl
@[simp] theorem State.onFab_cmw (f : Fab → Fab) : (s.onFab f).cmw = s.cmw := rfl
@[simp] theorem State.onFab_ctl (f : Fab → Fab) : (s.onFab f).ctl = s.ctl := rfl
@[simp] theorem State.onFab_lio (f : Fab → Fab) : (s.onFab f).lio = s.lio := rfl
@[simp] theorem State.onFab_ltn (f : Fab → Fab) : (s.onFab f).ltn = s.ltn := rfl
@[simp] theorem State.onFab_bcn (f : Fab → Fab) : (s.onFab f).bcn = s.bcn := rfl
@[simp] theorem State.onFab_bkp (f : Fab → Fab) : (s.onFab f).bkp = s.bkp := rfl
@[simp] theorem State.onFab_img (f : Fab → Fab) : (s.onFab f).img = s.img := rfl
@[simp] theorem State.onFab_pwr (f : Fab → Fab) : (s.onFab f).pwr = s.pwr := rfl
@[simp] theorem State.onFab_kpr (f : Fab → Fab) : (s.onFab f).kpr = s.kpr := rfl
@[simp] theorem State.onFab_free (f : Fab → Fab) : (s.onFab f).free = s.free := rfl
@[simp] theorem State.onFab_pending (f : Fab → Fab) : (s.onFab f).pending = s.pending := rfl
@[simp] theorem State.onPts_tim (f : Pts → Pts) : (s.onPts f).tim = s.tim := rfl
@[simp] theorem State.onPts_regs (f : Pts → Pts) : (s.onPts f).regs = s.regs := rfl
@[simp] theorem State.onPts_regsN (f : Pts → Pts) : (s.onPts f).regsN = s.regsN := rfl
@[simp] theorem State.onPts_hif (f : Pts → Pts) : (s.onPts f).hif = s.hif := rfl
@[simp] theorem State.onPts_wld (f : Pts → Pts) : (s.onPts f).wld = s.wld := rfl
@[simp] theorem State.onPts_ldg (f : Pts → Pts) : (s.onPts f).ldg = s.ldg := rfl
@[simp] theorem State.onPts_hst (f : Pts → Pts) : (s.onPts f).hst = s.hst := rfl
@[simp] theorem State.onPts_fab (f : Pts → Pts) : (s.onPts f).fab = s.fab := rfl
@[simp] theorem State.onPts_pts (f : Pts → Pts) : (s.onPts f).pts = f s.pts := rfl
@[simp] theorem State.onPts_alm (f : Pts → Pts) : (s.onPts f).alm = s.alm := rfl
@[simp] theorem State.onPts_sec (f : Pts → Pts) : (s.onPts f).sec = s.sec := rfl
@[simp] theorem State.onPts_cmw (f : Pts → Pts) : (s.onPts f).cmw = s.cmw := rfl
@[simp] theorem State.onPts_ctl (f : Pts → Pts) : (s.onPts f).ctl = s.ctl := rfl
@[simp] theorem State.onPts_lio (f : Pts → Pts) : (s.onPts f).lio = s.lio := rfl
@[simp] theorem State.onPts_ltn (f : Pts → Pts) : (s.onPts f).ltn = s.ltn := rfl
@[simp] theorem State.onPts_bcn (f : Pts → Pts) : (s.onPts f).bcn = s.bcn := rfl
@[simp] theorem State.onPts_bkp (f : Pts → Pts) : (s.onPts f).bkp = s.bkp := rfl
@[simp] theorem State.onPts_img (f : Pts → Pts) : (s.onPts f).img = s.img := rfl
@[simp] theorem State.onPts_pwr (f : Pts → Pts) : (s.onPts f).pwr = s.pwr := rfl
@[simp] theorem State.onPts_kpr (f : Pts → Pts) : (s.onPts f).kpr = s.kpr := rfl
@[simp] theorem State.onPts_free (f : Pts → Pts) : (s.onPts f).free = s.free := rfl
@[simp] theorem State.onPts_pending (f : Pts → Pts) : (s.onPts f).pending = s.pending := rfl
@[simp] theorem State.onAlm_tim (f : Alm → Alm) : (s.onAlm f).tim = s.tim := rfl
@[simp] theorem State.onAlm_regs (f : Alm → Alm) : (s.onAlm f).regs = s.regs := rfl
@[simp] theorem State.onAlm_regsN (f : Alm → Alm) : (s.onAlm f).regsN = s.regsN := rfl
@[simp] theorem State.onAlm_hif (f : Alm → Alm) : (s.onAlm f).hif = s.hif := rfl
@[simp] theorem State.onAlm_wld (f : Alm → Alm) : (s.onAlm f).wld = s.wld := rfl
@[simp] theorem State.onAlm_ldg (f : Alm → Alm) : (s.onAlm f).ldg = s.ldg := rfl
@[simp] theorem State.onAlm_hst (f : Alm → Alm) : (s.onAlm f).hst = s.hst := rfl
@[simp] theorem State.onAlm_fab (f : Alm → Alm) : (s.onAlm f).fab = s.fab := rfl
@[simp] theorem State.onAlm_pts (f : Alm → Alm) : (s.onAlm f).pts = s.pts := rfl
@[simp] theorem State.onAlm_alm (f : Alm → Alm) : (s.onAlm f).alm = f s.alm := rfl
@[simp] theorem State.onAlm_sec (f : Alm → Alm) : (s.onAlm f).sec = s.sec := rfl
@[simp] theorem State.onAlm_cmw (f : Alm → Alm) : (s.onAlm f).cmw = s.cmw := rfl
@[simp] theorem State.onAlm_ctl (f : Alm → Alm) : (s.onAlm f).ctl = s.ctl := rfl
@[simp] theorem State.onAlm_lio (f : Alm → Alm) : (s.onAlm f).lio = s.lio := rfl
@[simp] theorem State.onAlm_ltn (f : Alm → Alm) : (s.onAlm f).ltn = s.ltn := rfl
@[simp] theorem State.onAlm_bcn (f : Alm → Alm) : (s.onAlm f).bcn = s.bcn := rfl
@[simp] theorem State.onAlm_bkp (f : Alm → Alm) : (s.onAlm f).bkp = s.bkp := rfl
@[simp] theorem State.onAlm_img (f : Alm → Alm) : (s.onAlm f).img = s.img := rfl
@[simp] theorem State.onAlm_pwr (f : Alm → Alm) : (s.onAlm f).pwr = s.pwr := rfl
@[simp] theorem State.onAlm_kpr (f : Alm → Alm) : (s.onAlm f).kpr = s.kpr := rfl
@[simp] theorem State.onAlm_free (f : Alm → Alm) : (s.onAlm f).free = s.free := rfl
@[simp] theorem State.onAlm_pending (f : Alm → Alm) : (s.onAlm f).pending = s.pending := rfl
@[simp] theorem State.onSec_tim (f : Sec → Sec) : (s.onSec f).tim = s.tim := rfl
@[simp] theorem State.onSec_regs (f : Sec → Sec) : (s.onSec f).regs = s.regs := rfl
@[simp] theorem State.onSec_regsN (f : Sec → Sec) : (s.onSec f).regsN = s.regsN := rfl
@[simp] theorem State.onSec_hif (f : Sec → Sec) : (s.onSec f).hif = s.hif := rfl
@[simp] theorem State.onSec_wld (f : Sec → Sec) : (s.onSec f).wld = s.wld := rfl
@[simp] theorem State.onSec_ldg (f : Sec → Sec) : (s.onSec f).ldg = s.ldg := rfl
@[simp] theorem State.onSec_hst (f : Sec → Sec) : (s.onSec f).hst = s.hst := rfl
@[simp] theorem State.onSec_fab (f : Sec → Sec) : (s.onSec f).fab = s.fab := rfl
@[simp] theorem State.onSec_pts (f : Sec → Sec) : (s.onSec f).pts = s.pts := rfl
@[simp] theorem State.onSec_alm (f : Sec → Sec) : (s.onSec f).alm = s.alm := rfl
@[simp] theorem State.onSec_sec (f : Sec → Sec) : (s.onSec f).sec = f s.sec := rfl
@[simp] theorem State.onSec_cmw (f : Sec → Sec) : (s.onSec f).cmw = s.cmw := rfl
@[simp] theorem State.onSec_ctl (f : Sec → Sec) : (s.onSec f).ctl = s.ctl := rfl
@[simp] theorem State.onSec_lio (f : Sec → Sec) : (s.onSec f).lio = s.lio := rfl
@[simp] theorem State.onSec_ltn (f : Sec → Sec) : (s.onSec f).ltn = s.ltn := rfl
@[simp] theorem State.onSec_bcn (f : Sec → Sec) : (s.onSec f).bcn = s.bcn := rfl
@[simp] theorem State.onSec_bkp (f : Sec → Sec) : (s.onSec f).bkp = s.bkp := rfl
@[simp] theorem State.onSec_img (f : Sec → Sec) : (s.onSec f).img = s.img := rfl
@[simp] theorem State.onSec_pwr (f : Sec → Sec) : (s.onSec f).pwr = s.pwr := rfl
@[simp] theorem State.onSec_kpr (f : Sec → Sec) : (s.onSec f).kpr = s.kpr := rfl
@[simp] theorem State.onSec_free (f : Sec → Sec) : (s.onSec f).free = s.free := rfl
@[simp] theorem State.onSec_pending (f : Sec → Sec) : (s.onSec f).pending = s.pending := rfl
@[simp] theorem State.onCmw_tim (f : Cmw → Cmw) : (s.onCmw f).tim = s.tim := rfl
@[simp] theorem State.onCmw_regs (f : Cmw → Cmw) : (s.onCmw f).regs = s.regs := rfl
@[simp] theorem State.onCmw_regsN (f : Cmw → Cmw) : (s.onCmw f).regsN = s.regsN := rfl
@[simp] theorem State.onCmw_hif (f : Cmw → Cmw) : (s.onCmw f).hif = s.hif := rfl
@[simp] theorem State.onCmw_wld (f : Cmw → Cmw) : (s.onCmw f).wld = s.wld := rfl
@[simp] theorem State.onCmw_ldg (f : Cmw → Cmw) : (s.onCmw f).ldg = s.ldg := rfl
@[simp] theorem State.onCmw_hst (f : Cmw → Cmw) : (s.onCmw f).hst = s.hst := rfl
@[simp] theorem State.onCmw_fab (f : Cmw → Cmw) : (s.onCmw f).fab = s.fab := rfl
@[simp] theorem State.onCmw_pts (f : Cmw → Cmw) : (s.onCmw f).pts = s.pts := rfl
@[simp] theorem State.onCmw_alm (f : Cmw → Cmw) : (s.onCmw f).alm = s.alm := rfl
@[simp] theorem State.onCmw_sec (f : Cmw → Cmw) : (s.onCmw f).sec = s.sec := rfl
@[simp] theorem State.onCmw_cmw (f : Cmw → Cmw) : (s.onCmw f).cmw = f s.cmw := rfl
@[simp] theorem State.onCmw_ctl (f : Cmw → Cmw) : (s.onCmw f).ctl = s.ctl := rfl
@[simp] theorem State.onCmw_lio (f : Cmw → Cmw) : (s.onCmw f).lio = s.lio := rfl
@[simp] theorem State.onCmw_ltn (f : Cmw → Cmw) : (s.onCmw f).ltn = s.ltn := rfl
@[simp] theorem State.onCmw_bcn (f : Cmw → Cmw) : (s.onCmw f).bcn = s.bcn := rfl
@[simp] theorem State.onCmw_bkp (f : Cmw → Cmw) : (s.onCmw f).bkp = s.bkp := rfl
@[simp] theorem State.onCmw_img (f : Cmw → Cmw) : (s.onCmw f).img = s.img := rfl
@[simp] theorem State.onCmw_pwr (f : Cmw → Cmw) : (s.onCmw f).pwr = s.pwr := rfl
@[simp] theorem State.onCmw_kpr (f : Cmw → Cmw) : (s.onCmw f).kpr = s.kpr := rfl
@[simp] theorem State.onCmw_free (f : Cmw → Cmw) : (s.onCmw f).free = s.free := rfl
@[simp] theorem State.onCmw_pending (f : Cmw → Cmw) : (s.onCmw f).pending = s.pending := rfl
@[simp] theorem State.onCtl_tim (f : Ctl → Ctl) : (s.onCtl f).tim = s.tim := rfl
@[simp] theorem State.onCtl_regs (f : Ctl → Ctl) : (s.onCtl f).regs = s.regs := rfl
@[simp] theorem State.onCtl_regsN (f : Ctl → Ctl) : (s.onCtl f).regsN = s.regsN := rfl
@[simp] theorem State.onCtl_hif (f : Ctl → Ctl) : (s.onCtl f).hif = s.hif := rfl
@[simp] theorem State.onCtl_wld (f : Ctl → Ctl) : (s.onCtl f).wld = s.wld := rfl
@[simp] theorem State.onCtl_ldg (f : Ctl → Ctl) : (s.onCtl f).ldg = s.ldg := rfl
@[simp] theorem State.onCtl_hst (f : Ctl → Ctl) : (s.onCtl f).hst = s.hst := rfl
@[simp] theorem State.onCtl_fab (f : Ctl → Ctl) : (s.onCtl f).fab = s.fab := rfl
@[simp] theorem State.onCtl_pts (f : Ctl → Ctl) : (s.onCtl f).pts = s.pts := rfl
@[simp] theorem State.onCtl_alm (f : Ctl → Ctl) : (s.onCtl f).alm = s.alm := rfl
@[simp] theorem State.onCtl_sec (f : Ctl → Ctl) : (s.onCtl f).sec = s.sec := rfl
@[simp] theorem State.onCtl_cmw (f : Ctl → Ctl) : (s.onCtl f).cmw = s.cmw := rfl
@[simp] theorem State.onCtl_ctl (f : Ctl → Ctl) : (s.onCtl f).ctl = f s.ctl := rfl
@[simp] theorem State.onCtl_lio (f : Ctl → Ctl) : (s.onCtl f).lio = s.lio := rfl
@[simp] theorem State.onCtl_ltn (f : Ctl → Ctl) : (s.onCtl f).ltn = s.ltn := rfl
@[simp] theorem State.onCtl_bcn (f : Ctl → Ctl) : (s.onCtl f).bcn = s.bcn := rfl
@[simp] theorem State.onCtl_bkp (f : Ctl → Ctl) : (s.onCtl f).bkp = s.bkp := rfl
@[simp] theorem State.onCtl_img (f : Ctl → Ctl) : (s.onCtl f).img = s.img := rfl
@[simp] theorem State.onCtl_pwr (f : Ctl → Ctl) : (s.onCtl f).pwr = s.pwr := rfl
@[simp] theorem State.onCtl_kpr (f : Ctl → Ctl) : (s.onCtl f).kpr = s.kpr := rfl
@[simp] theorem State.onCtl_free (f : Ctl → Ctl) : (s.onCtl f).free = s.free := rfl
@[simp] theorem State.onCtl_pending (f : Ctl → Ctl) : (s.onCtl f).pending = s.pending := rfl
@[simp] theorem State.onLio_tim (f : Lio → Lio) : (s.onLio f).tim = s.tim := rfl
@[simp] theorem State.onLio_regs (f : Lio → Lio) : (s.onLio f).regs = s.regs := rfl
@[simp] theorem State.onLio_regsN (f : Lio → Lio) : (s.onLio f).regsN = s.regsN := rfl
@[simp] theorem State.onLio_hif (f : Lio → Lio) : (s.onLio f).hif = s.hif := rfl
@[simp] theorem State.onLio_wld (f : Lio → Lio) : (s.onLio f).wld = s.wld := rfl
@[simp] theorem State.onLio_ldg (f : Lio → Lio) : (s.onLio f).ldg = s.ldg := rfl
@[simp] theorem State.onLio_hst (f : Lio → Lio) : (s.onLio f).hst = s.hst := rfl
@[simp] theorem State.onLio_fab (f : Lio → Lio) : (s.onLio f).fab = s.fab := rfl
@[simp] theorem State.onLio_pts (f : Lio → Lio) : (s.onLio f).pts = s.pts := rfl
@[simp] theorem State.onLio_alm (f : Lio → Lio) : (s.onLio f).alm = s.alm := rfl
@[simp] theorem State.onLio_sec (f : Lio → Lio) : (s.onLio f).sec = s.sec := rfl
@[simp] theorem State.onLio_cmw (f : Lio → Lio) : (s.onLio f).cmw = s.cmw := rfl
@[simp] theorem State.onLio_ctl (f : Lio → Lio) : (s.onLio f).ctl = s.ctl := rfl
@[simp] theorem State.onLio_lio (f : Lio → Lio) : (s.onLio f).lio = f s.lio := rfl
@[simp] theorem State.onLio_ltn (f : Lio → Lio) : (s.onLio f).ltn = s.ltn := rfl
@[simp] theorem State.onLio_bcn (f : Lio → Lio) : (s.onLio f).bcn = s.bcn := rfl
@[simp] theorem State.onLio_bkp (f : Lio → Lio) : (s.onLio f).bkp = s.bkp := rfl
@[simp] theorem State.onLio_img (f : Lio → Lio) : (s.onLio f).img = s.img := rfl
@[simp] theorem State.onLio_pwr (f : Lio → Lio) : (s.onLio f).pwr = s.pwr := rfl
@[simp] theorem State.onLio_kpr (f : Lio → Lio) : (s.onLio f).kpr = s.kpr := rfl
@[simp] theorem State.onLio_free (f : Lio → Lio) : (s.onLio f).free = s.free := rfl
@[simp] theorem State.onLio_pending (f : Lio → Lio) : (s.onLio f).pending = s.pending := rfl
@[simp] theorem State.onLtn_tim (f : Ltn → Ltn) : (s.onLtn f).tim = s.tim := rfl
@[simp] theorem State.onLtn_regs (f : Ltn → Ltn) : (s.onLtn f).regs = s.regs := rfl
@[simp] theorem State.onLtn_regsN (f : Ltn → Ltn) : (s.onLtn f).regsN = s.regsN := rfl
@[simp] theorem State.onLtn_hif (f : Ltn → Ltn) : (s.onLtn f).hif = s.hif := rfl
@[simp] theorem State.onLtn_wld (f : Ltn → Ltn) : (s.onLtn f).wld = s.wld := rfl
@[simp] theorem State.onLtn_ldg (f : Ltn → Ltn) : (s.onLtn f).ldg = s.ldg := rfl
@[simp] theorem State.onLtn_hst (f : Ltn → Ltn) : (s.onLtn f).hst = s.hst := rfl
@[simp] theorem State.onLtn_fab (f : Ltn → Ltn) : (s.onLtn f).fab = s.fab := rfl
@[simp] theorem State.onLtn_pts (f : Ltn → Ltn) : (s.onLtn f).pts = s.pts := rfl
@[simp] theorem State.onLtn_alm (f : Ltn → Ltn) : (s.onLtn f).alm = s.alm := rfl
@[simp] theorem State.onLtn_sec (f : Ltn → Ltn) : (s.onLtn f).sec = s.sec := rfl
@[simp] theorem State.onLtn_cmw (f : Ltn → Ltn) : (s.onLtn f).cmw = s.cmw := rfl
@[simp] theorem State.onLtn_ctl (f : Ltn → Ltn) : (s.onLtn f).ctl = s.ctl := rfl
@[simp] theorem State.onLtn_lio (f : Ltn → Ltn) : (s.onLtn f).lio = s.lio := rfl
@[simp] theorem State.onLtn_ltn (f : Ltn → Ltn) : (s.onLtn f).ltn = f s.ltn := rfl
@[simp] theorem State.onLtn_bcn (f : Ltn → Ltn) : (s.onLtn f).bcn = s.bcn := rfl
@[simp] theorem State.onLtn_bkp (f : Ltn → Ltn) : (s.onLtn f).bkp = s.bkp := rfl
@[simp] theorem State.onLtn_img (f : Ltn → Ltn) : (s.onLtn f).img = s.img := rfl
@[simp] theorem State.onLtn_pwr (f : Ltn → Ltn) : (s.onLtn f).pwr = s.pwr := rfl
@[simp] theorem State.onLtn_kpr (f : Ltn → Ltn) : (s.onLtn f).kpr = s.kpr := rfl
@[simp] theorem State.onLtn_free (f : Ltn → Ltn) : (s.onLtn f).free = s.free := rfl
@[simp] theorem State.onLtn_pending (f : Ltn → Ltn) : (s.onLtn f).pending = s.pending := rfl
@[simp] theorem State.onBcn_tim (f : Bcn → Bcn) : (s.onBcn f).tim = s.tim := rfl
@[simp] theorem State.onBcn_regs (f : Bcn → Bcn) : (s.onBcn f).regs = s.regs := rfl
@[simp] theorem State.onBcn_regsN (f : Bcn → Bcn) : (s.onBcn f).regsN = s.regsN := rfl
@[simp] theorem State.onBcn_hif (f : Bcn → Bcn) : (s.onBcn f).hif = s.hif := rfl
@[simp] theorem State.onBcn_wld (f : Bcn → Bcn) : (s.onBcn f).wld = s.wld := rfl
@[simp] theorem State.onBcn_ldg (f : Bcn → Bcn) : (s.onBcn f).ldg = s.ldg := rfl
@[simp] theorem State.onBcn_hst (f : Bcn → Bcn) : (s.onBcn f).hst = s.hst := rfl
@[simp] theorem State.onBcn_fab (f : Bcn → Bcn) : (s.onBcn f).fab = s.fab := rfl
@[simp] theorem State.onBcn_pts (f : Bcn → Bcn) : (s.onBcn f).pts = s.pts := rfl
@[simp] theorem State.onBcn_alm (f : Bcn → Bcn) : (s.onBcn f).alm = s.alm := rfl
@[simp] theorem State.onBcn_sec (f : Bcn → Bcn) : (s.onBcn f).sec = s.sec := rfl
@[simp] theorem State.onBcn_cmw (f : Bcn → Bcn) : (s.onBcn f).cmw = s.cmw := rfl
@[simp] theorem State.onBcn_ctl (f : Bcn → Bcn) : (s.onBcn f).ctl = s.ctl := rfl
@[simp] theorem State.onBcn_lio (f : Bcn → Bcn) : (s.onBcn f).lio = s.lio := rfl
@[simp] theorem State.onBcn_ltn (f : Bcn → Bcn) : (s.onBcn f).ltn = s.ltn := rfl
@[simp] theorem State.onBcn_bcn (f : Bcn → Bcn) : (s.onBcn f).bcn = f s.bcn := rfl
@[simp] theorem State.onBcn_bkp (f : Bcn → Bcn) : (s.onBcn f).bkp = s.bkp := rfl
@[simp] theorem State.onBcn_img (f : Bcn → Bcn) : (s.onBcn f).img = s.img := rfl
@[simp] theorem State.onBcn_pwr (f : Bcn → Bcn) : (s.onBcn f).pwr = s.pwr := rfl
@[simp] theorem State.onBcn_kpr (f : Bcn → Bcn) : (s.onBcn f).kpr = s.kpr := rfl
@[simp] theorem State.onBcn_free (f : Bcn → Bcn) : (s.onBcn f).free = s.free := rfl
@[simp] theorem State.onBcn_pending (f : Bcn → Bcn) : (s.onBcn f).pending = s.pending := rfl
@[simp] theorem State.onBkp_tim (f : Bkp → Bkp) : (s.onBkp f).tim = s.tim := rfl
@[simp] theorem State.onBkp_regs (f : Bkp → Bkp) : (s.onBkp f).regs = s.regs := rfl
@[simp] theorem State.onBkp_regsN (f : Bkp → Bkp) : (s.onBkp f).regsN = s.regsN := rfl
@[simp] theorem State.onBkp_hif (f : Bkp → Bkp) : (s.onBkp f).hif = s.hif := rfl
@[simp] theorem State.onBkp_wld (f : Bkp → Bkp) : (s.onBkp f).wld = s.wld := rfl
@[simp] theorem State.onBkp_ldg (f : Bkp → Bkp) : (s.onBkp f).ldg = s.ldg := rfl
@[simp] theorem State.onBkp_hst (f : Bkp → Bkp) : (s.onBkp f).hst = s.hst := rfl
@[simp] theorem State.onBkp_fab (f : Bkp → Bkp) : (s.onBkp f).fab = s.fab := rfl
@[simp] theorem State.onBkp_pts (f : Bkp → Bkp) : (s.onBkp f).pts = s.pts := rfl
@[simp] theorem State.onBkp_alm (f : Bkp → Bkp) : (s.onBkp f).alm = s.alm := rfl
@[simp] theorem State.onBkp_sec (f : Bkp → Bkp) : (s.onBkp f).sec = s.sec := rfl
@[simp] theorem State.onBkp_cmw (f : Bkp → Bkp) : (s.onBkp f).cmw = s.cmw := rfl
@[simp] theorem State.onBkp_ctl (f : Bkp → Bkp) : (s.onBkp f).ctl = s.ctl := rfl
@[simp] theorem State.onBkp_lio (f : Bkp → Bkp) : (s.onBkp f).lio = s.lio := rfl
@[simp] theorem State.onBkp_ltn (f : Bkp → Bkp) : (s.onBkp f).ltn = s.ltn := rfl
@[simp] theorem State.onBkp_bcn (f : Bkp → Bkp) : (s.onBkp f).bcn = s.bcn := rfl
@[simp] theorem State.onBkp_bkp (f : Bkp → Bkp) : (s.onBkp f).bkp = f s.bkp := rfl
@[simp] theorem State.onBkp_img (f : Bkp → Bkp) : (s.onBkp f).img = s.img := rfl
@[simp] theorem State.onBkp_pwr (f : Bkp → Bkp) : (s.onBkp f).pwr = s.pwr := rfl
@[simp] theorem State.onBkp_kpr (f : Bkp → Bkp) : (s.onBkp f).kpr = s.kpr := rfl
@[simp] theorem State.onBkp_free (f : Bkp → Bkp) : (s.onBkp f).free = s.free := rfl
@[simp] theorem State.onBkp_pending (f : Bkp → Bkp) : (s.onBkp f).pending = s.pending := rfl
@[simp] theorem State.onImg_tim (f : Img → Img) : (s.onImg f).tim = s.tim := rfl
@[simp] theorem State.onImg_regs (f : Img → Img) : (s.onImg f).regs = s.regs := rfl
@[simp] theorem State.onImg_regsN (f : Img → Img) : (s.onImg f).regsN = s.regsN := rfl
@[simp] theorem State.onImg_hif (f : Img → Img) : (s.onImg f).hif = s.hif := rfl
@[simp] theorem State.onImg_wld (f : Img → Img) : (s.onImg f).wld = s.wld := rfl
@[simp] theorem State.onImg_ldg (f : Img → Img) : (s.onImg f).ldg = s.ldg := rfl
@[simp] theorem State.onImg_hst (f : Img → Img) : (s.onImg f).hst = s.hst := rfl
@[simp] theorem State.onImg_fab (f : Img → Img) : (s.onImg f).fab = s.fab := rfl
@[simp] theorem State.onImg_pts (f : Img → Img) : (s.onImg f).pts = s.pts := rfl
@[simp] theorem State.onImg_alm (f : Img → Img) : (s.onImg f).alm = s.alm := rfl
@[simp] theorem State.onImg_sec (f : Img → Img) : (s.onImg f).sec = s.sec := rfl
@[simp] theorem State.onImg_cmw (f : Img → Img) : (s.onImg f).cmw = s.cmw := rfl
@[simp] theorem State.onImg_ctl (f : Img → Img) : (s.onImg f).ctl = s.ctl := rfl
@[simp] theorem State.onImg_lio (f : Img → Img) : (s.onImg f).lio = s.lio := rfl
@[simp] theorem State.onImg_ltn (f : Img → Img) : (s.onImg f).ltn = s.ltn := rfl
@[simp] theorem State.onImg_bcn (f : Img → Img) : (s.onImg f).bcn = s.bcn := rfl
@[simp] theorem State.onImg_bkp (f : Img → Img) : (s.onImg f).bkp = s.bkp := rfl
@[simp] theorem State.onImg_img (f : Img → Img) : (s.onImg f).img = f s.img := rfl
@[simp] theorem State.onImg_pwr (f : Img → Img) : (s.onImg f).pwr = s.pwr := rfl
@[simp] theorem State.onImg_kpr (f : Img → Img) : (s.onImg f).kpr = s.kpr := rfl
@[simp] theorem State.onImg_free (f : Img → Img) : (s.onImg f).free = s.free := rfl
@[simp] theorem State.onImg_pending (f : Img → Img) : (s.onImg f).pending = s.pending := rfl
@[simp] theorem State.onPwr_tim (f : Pwr → Pwr) : (s.onPwr f).tim = s.tim := rfl
@[simp] theorem State.onPwr_regs (f : Pwr → Pwr) : (s.onPwr f).regs = s.regs := rfl
@[simp] theorem State.onPwr_regsN (f : Pwr → Pwr) : (s.onPwr f).regsN = s.regsN := rfl
@[simp] theorem State.onPwr_hif (f : Pwr → Pwr) : (s.onPwr f).hif = s.hif := rfl
@[simp] theorem State.onPwr_wld (f : Pwr → Pwr) : (s.onPwr f).wld = s.wld := rfl
@[simp] theorem State.onPwr_ldg (f : Pwr → Pwr) : (s.onPwr f).ldg = s.ldg := rfl
@[simp] theorem State.onPwr_hst (f : Pwr → Pwr) : (s.onPwr f).hst = s.hst := rfl
@[simp] theorem State.onPwr_fab (f : Pwr → Pwr) : (s.onPwr f).fab = s.fab := rfl
@[simp] theorem State.onPwr_pts (f : Pwr → Pwr) : (s.onPwr f).pts = s.pts := rfl
@[simp] theorem State.onPwr_alm (f : Pwr → Pwr) : (s.onPwr f).alm = s.alm := rfl
@[simp] theorem State.onPwr_sec (f : Pwr → Pwr) : (s.onPwr f).sec = s.sec := rfl
@[simp] theorem State.onPwr_cmw (f : Pwr → Pwr) : (s.onPwr f).cmw = s.cmw := rfl
@[simp] theorem State.onPwr_ctl (f : Pwr → Pwr) : (s.onPwr f).ctl = s.ctl := rfl
@[simp] theorem State.onPwr_lio (f : Pwr → Pwr) : (s.onPwr f).lio = s.lio := rfl
@[simp] theorem State.onPwr_ltn (f : Pwr → Pwr) : (s.onPwr f).ltn = s.ltn := rfl
@[simp] theorem State.onPwr_bcn (f : Pwr → Pwr) : (s.onPwr f).bcn = s.bcn := rfl
@[simp] theorem State.onPwr_bkp (f : Pwr → Pwr) : (s.onPwr f).bkp = s.bkp := rfl
@[simp] theorem State.onPwr_img (f : Pwr → Pwr) : (s.onPwr f).img = s.img := rfl
@[simp] theorem State.onPwr_pwr (f : Pwr → Pwr) : (s.onPwr f).pwr = f s.pwr := rfl
@[simp] theorem State.onPwr_kpr (f : Pwr → Pwr) : (s.onPwr f).kpr = s.kpr := rfl
@[simp] theorem State.onPwr_free (f : Pwr → Pwr) : (s.onPwr f).free = s.free := rfl
@[simp] theorem State.onPwr_pending (f : Pwr → Pwr) : (s.onPwr f).pending = s.pending := rfl
@[simp] theorem State.onKpr_tim (f : Kpr → Kpr) : (s.onKpr f).tim = s.tim := rfl
@[simp] theorem State.onKpr_regs (f : Kpr → Kpr) : (s.onKpr f).regs = s.regs := rfl
@[simp] theorem State.onKpr_regsN (f : Kpr → Kpr) : (s.onKpr f).regsN = s.regsN := rfl
@[simp] theorem State.onKpr_hif (f : Kpr → Kpr) : (s.onKpr f).hif = s.hif := rfl
@[simp] theorem State.onKpr_wld (f : Kpr → Kpr) : (s.onKpr f).wld = s.wld := rfl
@[simp] theorem State.onKpr_ldg (f : Kpr → Kpr) : (s.onKpr f).ldg = s.ldg := rfl
@[simp] theorem State.onKpr_hst (f : Kpr → Kpr) : (s.onKpr f).hst = s.hst := rfl
@[simp] theorem State.onKpr_fab (f : Kpr → Kpr) : (s.onKpr f).fab = s.fab := rfl
@[simp] theorem State.onKpr_pts (f : Kpr → Kpr) : (s.onKpr f).pts = s.pts := rfl
@[simp] theorem State.onKpr_alm (f : Kpr → Kpr) : (s.onKpr f).alm = s.alm := rfl
@[simp] theorem State.onKpr_sec (f : Kpr → Kpr) : (s.onKpr f).sec = s.sec := rfl
@[simp] theorem State.onKpr_cmw (f : Kpr → Kpr) : (s.onKpr f).cmw = s.cmw := rfl
@[simp] theorem State.onKpr_ctl (f : Kpr → Kpr) : (s.onKpr f).ctl = s.ctl := rfl
@[simp] theorem State.onKpr_lio (f : Kpr → Kpr) : (s.onKpr f).lio = s.lio := rfl
@[simp] theorem State.onKpr_ltn (f : Kpr → Kpr) : (s.onKpr f).ltn = s.ltn := rfl
@[simp] theorem State.onKpr_bcn (f : Kpr → Kpr) : (s.onKpr f).bcn = s.bcn := rfl
@[simp] theorem State.onKpr_bkp (f : Kpr → Kpr) : (s.onKpr f).bkp = s.bkp := rfl
@[simp] theorem State.onKpr_img (f : Kpr → Kpr) : (s.onKpr f).img = s.img := rfl
@[simp] theorem State.onKpr_pwr (f : Kpr → Kpr) : (s.onKpr f).pwr = s.pwr := rfl
@[simp] theorem State.onKpr_kpr (f : Kpr → Kpr) : (s.onKpr f).kpr = f s.kpr := rfl
@[simp] theorem State.onKpr_free (f : Kpr → Kpr) : (s.onKpr f).free = s.free := rfl
@[simp] theorem State.onKpr_pending (f : Kpr → Kpr) : (s.onKpr f).pending = s.pending := rfl
@[simp] theorem State.fresh_snd_tim : s.fresh.2.tim = s.tim := rfl
@[simp] theorem State.fresh_snd_regs : s.fresh.2.regs = s.regs := rfl
@[simp] theorem State.fresh_snd_regsN : s.fresh.2.regsN = s.regsN := rfl
@[simp] theorem State.fresh_snd_hif : s.fresh.2.hif = s.hif := rfl
@[simp] theorem State.fresh_snd_wld : s.fresh.2.wld = s.wld := rfl
@[simp] theorem State.fresh_snd_ldg : s.fresh.2.ldg = s.ldg := rfl
@[simp] theorem State.fresh_snd_hst : s.fresh.2.hst = s.hst := rfl
@[simp] theorem State.fresh_snd_fab : s.fresh.2.fab = s.fab := rfl
@[simp] theorem State.fresh_snd_pts : s.fresh.2.pts = s.pts := rfl
@[simp] theorem State.fresh_snd_alm : s.fresh.2.alm = s.alm := rfl
@[simp] theorem State.fresh_snd_sec : s.fresh.2.sec = s.sec := rfl
@[simp] theorem State.fresh_snd_cmw : s.fresh.2.cmw = s.cmw := rfl
@[simp] theorem State.fresh_snd_ctl : s.fresh.2.ctl = s.ctl := rfl
@[simp] theorem State.fresh_snd_lio : s.fresh.2.lio = s.lio := rfl
@[simp] theorem State.fresh_snd_ltn : s.fresh.2.ltn = s.ltn := rfl
@[simp] theorem State.fresh_snd_bcn : s.fresh.2.bcn = s.bcn := rfl
@[simp] theorem State.fresh_snd_bkp : s.fresh.2.bkp = s.bkp := rfl
@[simp] theorem State.fresh_snd_img : s.fresh.2.img = s.img := rfl
@[simp] theorem State.fresh_snd_pwr : s.fresh.2.pwr = s.pwr := rfl
@[simp] theorem State.fresh_snd_kpr : s.fresh.2.kpr = s.kpr := rfl
@[simp] theorem State.fresh_snd_free : s.fresh.2.free = s.free + 1 := rfl
@[simp] theorem State.fresh_snd_pending : s.fresh.2.pending = s.pending := rfl
@[simp] theorem State.wr_tim (off : Nat) (w : Word) : (s.wr off w).tim = s.tim := by
  unfold State.wr
  dsimp only
  split <;> rfl
@[simp] theorem State.wf_tim (f : RFld) (v : Nat) : (s.wf f v).tim = s.tim := State.wr_tim s _ _
@[simp] theorem State.bump_tim (f : RFld) (n : Nat) : (s.bump f n).tim = s.tim := State.wr_tim s _ _
@[simp] theorem State.drop_tim (f : RFld) (n : Nat) : (s.drop f n).tim = s.tim := State.wr_tim s _ _
@[simp] theorem State.wr_hif (off : Nat) (w : Word) : (s.wr off w).hif = s.hif := by
  unfold State.wr
  dsimp only
  split <;> rfl
@[simp] theorem State.wf_hif (f : RFld) (v : Nat) : (s.wf f v).hif = s.hif := State.wr_hif s _ _
@[simp] theorem State.bump_hif (f : RFld) (n : Nat) : (s.bump f n).hif = s.hif := State.wr_hif s _ _
@[simp] theorem State.drop_hif (f : RFld) (n : Nat) : (s.drop f n).hif = s.hif := State.wr_hif s _ _
@[simp] theorem State.wr_wld (off : Nat) (w : Word) : (s.wr off w).wld = s.wld := by
  unfold State.wr
  dsimp only
  split <;> rfl
@[simp] theorem State.wf_wld (f : RFld) (v : Nat) : (s.wf f v).wld = s.wld := State.wr_wld s _ _
@[simp] theorem State.bump_wld (f : RFld) (n : Nat) : (s.bump f n).wld = s.wld := State.wr_wld s _ _
@[simp] theorem State.drop_wld (f : RFld) (n : Nat) : (s.drop f n).wld = s.wld := State.wr_wld s _ _
@[simp] theorem State.wr_ldg (off : Nat) (w : Word) : (s.wr off w).ldg = s.ldg := by
  unfold State.wr
  dsimp only
  split <;> rfl
@[simp] theorem State.wf_ldg (f : RFld) (v : Nat) : (s.wf f v).ldg = s.ldg := State.wr_ldg s _ _
@[simp] theorem State.bump_ldg (f : RFld) (n : Nat) : (s.bump f n).ldg = s.ldg := State.wr_ldg s _ _
@[simp] theorem State.drop_ldg (f : RFld) (n : Nat) : (s.drop f n).ldg = s.ldg := State.wr_ldg s _ _
@[simp] theorem State.wr_hst (off : Nat) (w : Word) : (s.wr off w).hst = s.hst := by
  unfold State.wr
  dsimp only
  split <;> rfl
@[simp] theorem State.wf_hst (f : RFld) (v : Nat) : (s.wf f v).hst = s.hst := State.wr_hst s _ _
@[simp] theorem State.bump_hst (f : RFld) (n : Nat) : (s.bump f n).hst = s.hst := State.wr_hst s _ _
@[simp] theorem State.drop_hst (f : RFld) (n : Nat) : (s.drop f n).hst = s.hst := State.wr_hst s _ _
@[simp] theorem State.wr_fab (off : Nat) (w : Word) : (s.wr off w).fab = s.fab := by
  unfold State.wr
  dsimp only
  split <;> rfl
@[simp] theorem State.wf_fab (f : RFld) (v : Nat) : (s.wf f v).fab = s.fab := State.wr_fab s _ _
@[simp] theorem State.bump_fab (f : RFld) (n : Nat) : (s.bump f n).fab = s.fab := State.wr_fab s _ _
@[simp] theorem State.drop_fab (f : RFld) (n : Nat) : (s.drop f n).fab = s.fab := State.wr_fab s _ _
@[simp] theorem State.wr_pts (off : Nat) (w : Word) : (s.wr off w).pts = s.pts := by
  unfold State.wr
  dsimp only
  split <;> rfl
@[simp] theorem State.wf_pts (f : RFld) (v : Nat) : (s.wf f v).pts = s.pts := State.wr_pts s _ _
@[simp] theorem State.bump_pts (f : RFld) (n : Nat) : (s.bump f n).pts = s.pts := State.wr_pts s _ _
@[simp] theorem State.drop_pts (f : RFld) (n : Nat) : (s.drop f n).pts = s.pts := State.wr_pts s _ _
@[simp] theorem State.wr_alm (off : Nat) (w : Word) : (s.wr off w).alm = s.alm := by
  unfold State.wr
  dsimp only
  split <;> rfl
@[simp] theorem State.wf_alm (f : RFld) (v : Nat) : (s.wf f v).alm = s.alm := State.wr_alm s _ _
@[simp] theorem State.bump_alm (f : RFld) (n : Nat) : (s.bump f n).alm = s.alm := State.wr_alm s _ _
@[simp] theorem State.drop_alm (f : RFld) (n : Nat) : (s.drop f n).alm = s.alm := State.wr_alm s _ _
@[simp] theorem State.wr_sec (off : Nat) (w : Word) : (s.wr off w).sec = s.sec := by
  unfold State.wr
  dsimp only
  split <;> rfl
@[simp] theorem State.wf_sec (f : RFld) (v : Nat) : (s.wf f v).sec = s.sec := State.wr_sec s _ _
@[simp] theorem State.bump_sec (f : RFld) (n : Nat) : (s.bump f n).sec = s.sec := State.wr_sec s _ _
@[simp] theorem State.drop_sec (f : RFld) (n : Nat) : (s.drop f n).sec = s.sec := State.wr_sec s _ _
@[simp] theorem State.wr_cmw (off : Nat) (w : Word) : (s.wr off w).cmw = s.cmw := by
  unfold State.wr
  dsimp only
  split <;> rfl
@[simp] theorem State.wf_cmw (f : RFld) (v : Nat) : (s.wf f v).cmw = s.cmw := State.wr_cmw s _ _
@[simp] theorem State.bump_cmw (f : RFld) (n : Nat) : (s.bump f n).cmw = s.cmw := State.wr_cmw s _ _
@[simp] theorem State.drop_cmw (f : RFld) (n : Nat) : (s.drop f n).cmw = s.cmw := State.wr_cmw s _ _
@[simp] theorem State.wr_ctl (off : Nat) (w : Word) : (s.wr off w).ctl = s.ctl := by
  unfold State.wr
  dsimp only
  split <;> rfl
@[simp] theorem State.wf_ctl (f : RFld) (v : Nat) : (s.wf f v).ctl = s.ctl := State.wr_ctl s _ _
@[simp] theorem State.bump_ctl (f : RFld) (n : Nat) : (s.bump f n).ctl = s.ctl := State.wr_ctl s _ _
@[simp] theorem State.drop_ctl (f : RFld) (n : Nat) : (s.drop f n).ctl = s.ctl := State.wr_ctl s _ _
@[simp] theorem State.wr_lio (off : Nat) (w : Word) : (s.wr off w).lio = s.lio := by
  unfold State.wr
  dsimp only
  split <;> rfl
@[simp] theorem State.wf_lio (f : RFld) (v : Nat) : (s.wf f v).lio = s.lio := State.wr_lio s _ _
@[simp] theorem State.bump_lio (f : RFld) (n : Nat) : (s.bump f n).lio = s.lio := State.wr_lio s _ _
@[simp] theorem State.drop_lio (f : RFld) (n : Nat) : (s.drop f n).lio = s.lio := State.wr_lio s _ _
@[simp] theorem State.wr_ltn (off : Nat) (w : Word) : (s.wr off w).ltn = s.ltn := by
  unfold State.wr
  dsimp only
  split <;> rfl
@[simp] theorem State.wf_ltn (f : RFld) (v : Nat) : (s.wf f v).ltn = s.ltn := State.wr_ltn s _ _
@[simp] theorem State.bump_ltn (f : RFld) (n : Nat) : (s.bump f n).ltn = s.ltn := State.wr_ltn s _ _
@[simp] theorem State.drop_ltn (f : RFld) (n : Nat) : (s.drop f n).ltn = s.ltn := State.wr_ltn s _ _
@[simp] theorem State.wr_bcn (off : Nat) (w : Word) : (s.wr off w).bcn = s.bcn := by
  unfold State.wr
  dsimp only
  split <;> rfl
@[simp] theorem State.wf_bcn (f : RFld) (v : Nat) : (s.wf f v).bcn = s.bcn := State.wr_bcn s _ _
@[simp] theorem State.bump_bcn (f : RFld) (n : Nat) : (s.bump f n).bcn = s.bcn := State.wr_bcn s _ _
@[simp] theorem State.drop_bcn (f : RFld) (n : Nat) : (s.drop f n).bcn = s.bcn := State.wr_bcn s _ _
@[simp] theorem State.wr_bkp (off : Nat) (w : Word) : (s.wr off w).bkp = s.bkp := by
  unfold State.wr
  dsimp only
  split <;> rfl
@[simp] theorem State.wf_bkp (f : RFld) (v : Nat) : (s.wf f v).bkp = s.bkp := State.wr_bkp s _ _
@[simp] theorem State.bump_bkp (f : RFld) (n : Nat) : (s.bump f n).bkp = s.bkp := State.wr_bkp s _ _
@[simp] theorem State.drop_bkp (f : RFld) (n : Nat) : (s.drop f n).bkp = s.bkp := State.wr_bkp s _ _
@[simp] theorem State.wr_img (off : Nat) (w : Word) : (s.wr off w).img = s.img := by
  unfold State.wr
  dsimp only
  split <;> rfl
@[simp] theorem State.wf_img (f : RFld) (v : Nat) : (s.wf f v).img = s.img := State.wr_img s _ _
@[simp] theorem State.bump_img (f : RFld) (n : Nat) : (s.bump f n).img = s.img := State.wr_img s _ _
@[simp] theorem State.drop_img (f : RFld) (n : Nat) : (s.drop f n).img = s.img := State.wr_img s _ _
@[simp] theorem State.wr_pwr (off : Nat) (w : Word) : (s.wr off w).pwr = s.pwr := by
  unfold State.wr
  dsimp only
  split <;> rfl
@[simp] theorem State.wf_pwr (f : RFld) (v : Nat) : (s.wf f v).pwr = s.pwr := State.wr_pwr s _ _
@[simp] theorem State.bump_pwr (f : RFld) (n : Nat) : (s.bump f n).pwr = s.pwr := State.wr_pwr s _ _
@[simp] theorem State.drop_pwr (f : RFld) (n : Nat) : (s.drop f n).pwr = s.pwr := State.wr_pwr s _ _
@[simp] theorem State.wr_kpr (off : Nat) (w : Word) : (s.wr off w).kpr = s.kpr := by
  unfold State.wr
  dsimp only
  split <;> rfl
@[simp] theorem State.wf_kpr (f : RFld) (v : Nat) : (s.wf f v).kpr = s.kpr := State.wr_kpr s _ _
@[simp] theorem State.bump_kpr (f : RFld) (n : Nat) : (s.bump f n).kpr = s.kpr := State.wr_kpr s _ _
@[simp] theorem State.drop_kpr (f : RFld) (n : Nat) : (s.drop f n).kpr = s.kpr := State.wr_kpr s _ _
@[simp] theorem State.wr_free (off : Nat) (w : Word) : (s.wr off w).free = s.free := by
  unfold State.wr
  dsimp only
  split <;> rfl
@[simp] theorem State.wf_free (f : RFld) (v : Nat) : (s.wf f v).free = s.free := State.wr_free s _ _
@[simp] theorem State.bump_free (f : RFld) (n : Nat) : (s.bump f n).free = s.free := State.wr_free s _ _
@[simp] theorem State.drop_free (f : RFld) (n : Nat) : (s.drop f n).free = s.free := State.wr_free s _ _
@[simp] theorem State.wr_pending (off : Nat) (w : Word) : (s.wr off w).pending = s.pending := by
  unfold State.wr
  dsimp only
  split <;> rfl
@[simp] theorem State.wf_pending (f : RFld) (v : Nat) : (s.wf f v).pending = s.pending := State.wr_pending s _ _
@[simp] theorem State.bump_pending (f : RFld) (n : Nat) : (s.bump f n).pending = s.pending := State.wr_pending s _ _
@[simp] theorem State.drop_pending (f : RFld) (n : Nat) : (s.drop f n).pending = s.pending := State.wr_pending s _ _
@[simp] theorem State.onTim_rd (f : Tim → Tim) (off : Nat) : (s.onTim f).rd off = s.rd off := rfl
@[simp] theorem State.onTim_rdN (f : Tim → Tim) (off : Nat) : (s.onTim f).rdN off = s.rdN off := rfl
@[simp] theorem State.onTim_rf (f : Tim → Tim) (r : RFld) : (s.onTim f).rf r = s.rf r := rfl
@[simp] theorem State.onTim_rb (f : Tim → Tim) (r : RFld) : (s.onTim f).rb r = s.rb r := rfl
@[simp] theorem State.onHif_rd (f : Hif → Hif) (off : Nat) : (s.onHif f).rd off = s.rd off := rfl
@[simp] theorem State.onHif_rdN (f : Hif → Hif) (off : Nat) : (s.onHif f).rdN off = s.rdN off := rfl
@[simp] theorem State.onHif_rf (f : Hif → Hif) (r : RFld) : (s.onHif f).rf r = s.rf r := rfl
@[simp] theorem State.onHif_rb (f : Hif → Hif) (r : RFld) : (s.onHif f).rb r = s.rb r := rfl
@[simp] theorem State.onWld_rd (f : Wld → Wld) (off : Nat) : (s.onWld f).rd off = s.rd off := rfl
@[simp] theorem State.onWld_rdN (f : Wld → Wld) (off : Nat) : (s.onWld f).rdN off = s.rdN off := rfl
@[simp] theorem State.onWld_rf (f : Wld → Wld) (r : RFld) : (s.onWld f).rf r = s.rf r := rfl
@[simp] theorem State.onWld_rb (f : Wld → Wld) (r : RFld) : (s.onWld f).rb r = s.rb r := rfl
@[simp] theorem State.onLdg_rd (f : Ldg → Ldg) (off : Nat) : (s.onLdg f).rd off = s.rd off := rfl
@[simp] theorem State.onLdg_rdN (f : Ldg → Ldg) (off : Nat) : (s.onLdg f).rdN off = s.rdN off := rfl
@[simp] theorem State.onLdg_rf (f : Ldg → Ldg) (r : RFld) : (s.onLdg f).rf r = s.rf r := rfl
@[simp] theorem State.onLdg_rb (f : Ldg → Ldg) (r : RFld) : (s.onLdg f).rb r = s.rb r := rfl
@[simp] theorem State.onHst_rd (f : Hst → Hst) (off : Nat) : (s.onHst f).rd off = s.rd off := rfl
@[simp] theorem State.onHst_rdN (f : Hst → Hst) (off : Nat) : (s.onHst f).rdN off = s.rdN off := rfl
@[simp] theorem State.onHst_rf (f : Hst → Hst) (r : RFld) : (s.onHst f).rf r = s.rf r := rfl
@[simp] theorem State.onHst_rb (f : Hst → Hst) (r : RFld) : (s.onHst f).rb r = s.rb r := rfl
@[simp] theorem State.onFab_rd (f : Fab → Fab) (off : Nat) : (s.onFab f).rd off = s.rd off := rfl
@[simp] theorem State.onFab_rdN (f : Fab → Fab) (off : Nat) : (s.onFab f).rdN off = s.rdN off := rfl
@[simp] theorem State.onFab_rf (f : Fab → Fab) (r : RFld) : (s.onFab f).rf r = s.rf r := rfl
@[simp] theorem State.onFab_rb (f : Fab → Fab) (r : RFld) : (s.onFab f).rb r = s.rb r := rfl
@[simp] theorem State.onPts_rd (f : Pts → Pts) (off : Nat) : (s.onPts f).rd off = s.rd off := rfl
@[simp] theorem State.onPts_rdN (f : Pts → Pts) (off : Nat) : (s.onPts f).rdN off = s.rdN off := rfl
@[simp] theorem State.onPts_rf (f : Pts → Pts) (r : RFld) : (s.onPts f).rf r = s.rf r := rfl
@[simp] theorem State.onPts_rb (f : Pts → Pts) (r : RFld) : (s.onPts f).rb r = s.rb r := rfl
@[simp] theorem State.onAlm_rd (f : Alm → Alm) (off : Nat) : (s.onAlm f).rd off = s.rd off := rfl
@[simp] theorem State.onAlm_rdN (f : Alm → Alm) (off : Nat) : (s.onAlm f).rdN off = s.rdN off := rfl
@[simp] theorem State.onAlm_rf (f : Alm → Alm) (r : RFld) : (s.onAlm f).rf r = s.rf r := rfl
@[simp] theorem State.onAlm_rb (f : Alm → Alm) (r : RFld) : (s.onAlm f).rb r = s.rb r := rfl
@[simp] theorem State.onSec_rd (f : Sec → Sec) (off : Nat) : (s.onSec f).rd off = s.rd off := rfl
@[simp] theorem State.onSec_rdN (f : Sec → Sec) (off : Nat) : (s.onSec f).rdN off = s.rdN off := rfl
@[simp] theorem State.onSec_rf (f : Sec → Sec) (r : RFld) : (s.onSec f).rf r = s.rf r := rfl
@[simp] theorem State.onSec_rb (f : Sec → Sec) (r : RFld) : (s.onSec f).rb r = s.rb r := rfl
@[simp] theorem State.onCmw_rd (f : Cmw → Cmw) (off : Nat) : (s.onCmw f).rd off = s.rd off := rfl
@[simp] theorem State.onCmw_rdN (f : Cmw → Cmw) (off : Nat) : (s.onCmw f).rdN off = s.rdN off := rfl
@[simp] theorem State.onCmw_rf (f : Cmw → Cmw) (r : RFld) : (s.onCmw f).rf r = s.rf r := rfl
@[simp] theorem State.onCmw_rb (f : Cmw → Cmw) (r : RFld) : (s.onCmw f).rb r = s.rb r := rfl
@[simp] theorem State.onCtl_rd (f : Ctl → Ctl) (off : Nat) : (s.onCtl f).rd off = s.rd off := rfl
@[simp] theorem State.onCtl_rdN (f : Ctl → Ctl) (off : Nat) : (s.onCtl f).rdN off = s.rdN off := rfl
@[simp] theorem State.onCtl_rf (f : Ctl → Ctl) (r : RFld) : (s.onCtl f).rf r = s.rf r := rfl
@[simp] theorem State.onCtl_rb (f : Ctl → Ctl) (r : RFld) : (s.onCtl f).rb r = s.rb r := rfl
@[simp] theorem State.onLio_rd (f : Lio → Lio) (off : Nat) : (s.onLio f).rd off = s.rd off := rfl
@[simp] theorem State.onLio_rdN (f : Lio → Lio) (off : Nat) : (s.onLio f).rdN off = s.rdN off := rfl
@[simp] theorem State.onLio_rf (f : Lio → Lio) (r : RFld) : (s.onLio f).rf r = s.rf r := rfl
@[simp] theorem State.onLio_rb (f : Lio → Lio) (r : RFld) : (s.onLio f).rb r = s.rb r := rfl
@[simp] theorem State.onLtn_rd (f : Ltn → Ltn) (off : Nat) : (s.onLtn f).rd off = s.rd off := rfl
@[simp] theorem State.onLtn_rdN (f : Ltn → Ltn) (off : Nat) : (s.onLtn f).rdN off = s.rdN off := rfl
@[simp] theorem State.onLtn_rf (f : Ltn → Ltn) (r : RFld) : (s.onLtn f).rf r = s.rf r := rfl
@[simp] theorem State.onLtn_rb (f : Ltn → Ltn) (r : RFld) : (s.onLtn f).rb r = s.rb r := rfl
@[simp] theorem State.onBcn_rd (f : Bcn → Bcn) (off : Nat) : (s.onBcn f).rd off = s.rd off := rfl
@[simp] theorem State.onBcn_rdN (f : Bcn → Bcn) (off : Nat) : (s.onBcn f).rdN off = s.rdN off := rfl
@[simp] theorem State.onBcn_rf (f : Bcn → Bcn) (r : RFld) : (s.onBcn f).rf r = s.rf r := rfl
@[simp] theorem State.onBcn_rb (f : Bcn → Bcn) (r : RFld) : (s.onBcn f).rb r = s.rb r := rfl
@[simp] theorem State.onBkp_rd (f : Bkp → Bkp) (off : Nat) : (s.onBkp f).rd off = s.rd off := rfl
@[simp] theorem State.onBkp_rdN (f : Bkp → Bkp) (off : Nat) : (s.onBkp f).rdN off = s.rdN off := rfl
@[simp] theorem State.onBkp_rf (f : Bkp → Bkp) (r : RFld) : (s.onBkp f).rf r = s.rf r := rfl
@[simp] theorem State.onBkp_rb (f : Bkp → Bkp) (r : RFld) : (s.onBkp f).rb r = s.rb r := rfl
@[simp] theorem State.onImg_rd (f : Img → Img) (off : Nat) : (s.onImg f).rd off = s.rd off := rfl
@[simp] theorem State.onImg_rdN (f : Img → Img) (off : Nat) : (s.onImg f).rdN off = s.rdN off := rfl
@[simp] theorem State.onImg_rf (f : Img → Img) (r : RFld) : (s.onImg f).rf r = s.rf r := rfl
@[simp] theorem State.onImg_rb (f : Img → Img) (r : RFld) : (s.onImg f).rb r = s.rb r := rfl
@[simp] theorem State.onPwr_rd (f : Pwr → Pwr) (off : Nat) : (s.onPwr f).rd off = s.rd off := rfl
@[simp] theorem State.onPwr_rdN (f : Pwr → Pwr) (off : Nat) : (s.onPwr f).rdN off = s.rdN off := rfl
@[simp] theorem State.onPwr_rf (f : Pwr → Pwr) (r : RFld) : (s.onPwr f).rf r = s.rf r := rfl
@[simp] theorem State.onPwr_rb (f : Pwr → Pwr) (r : RFld) : (s.onPwr f).rb r = s.rb r := rfl
@[simp] theorem State.onKpr_rd (f : Kpr → Kpr) (off : Nat) : (s.onKpr f).rd off = s.rd off := rfl
@[simp] theorem State.onKpr_rdN (f : Kpr → Kpr) (off : Nat) : (s.onKpr f).rdN off = s.rdN off := rfl
@[simp] theorem State.onKpr_rf (f : Kpr → Kpr) (r : RFld) : (s.onKpr f).rf r = s.rf r := rfl
@[simp] theorem State.onKpr_rb (f : Kpr → Kpr) (r : RFld) : (s.onKpr f).rb r = s.rb r := rfl
@[simp] theorem State.fresh_rd (off : Nat) : s.fresh.2.rd off = s.rd off := rfl
@[simp] theorem State.fresh_rdN (off : Nat) : s.fresh.2.rdN off = s.rdN off := rfl
@[simp] theorem State.fresh_rf (r : RFld) : s.fresh.2.rf r = s.rf r := rfl
@[simp] theorem State.fresh_rb (r : RFld) : s.fresh.2.rb r = s.rb r := rfl

end Sys2Proof.Machine
end

