-- ==== Sys2Proof/Laws/At.lean ====
section
/-! SUPPORT. The state at the instant of a command, read at each part. -/

namespace Sys2Proof.Machine

variable (s : State) (t : Nat)

@[simp] theorem State.at_hif : (s.at_ t).hif = s.hif := State.at__kept.hif rfl
@[simp] theorem State.at_wld : (s.at_ t).wld = s.wld := State.at__kept.wld rfl
@[simp] theorem State.at_ldg : (s.at_ t).ldg = s.ldg := State.at__kept.ldg rfl
@[simp] theorem State.at_hst : (s.at_ t).hst = s.hst := State.at__kept.hst rfl
@[simp] theorem State.at_fab : (s.at_ t).fab = s.fab := State.at__kept.fab rfl
@[simp] theorem State.at_alm : (s.at_ t).alm = s.alm := State.at__kept.alm rfl
@[simp] theorem State.at_cmw : (s.at_ t).cmw = s.cmw := State.at__kept.cmw rfl
@[simp] theorem State.at_ctl : (s.at_ t).ctl = s.ctl := State.at__kept.ctl rfl
@[simp] theorem State.at_lio : (s.at_ t).lio = s.lio := State.at__kept.lio rfl
@[simp] theorem State.at_ltn : (s.at_ t).ltn = s.ltn := State.at__kept.ltn rfl
@[simp] theorem State.at_bcn : (s.at_ t).bcn = s.bcn := State.at__kept.bcn rfl
@[simp] theorem State.at_bkp : (s.at_ t).bkp = s.bkp := State.at__kept.bkp rfl
@[simp] theorem State.at_img : (s.at_ t).img = s.img := State.at__kept.img rfl
@[simp] theorem State.at_pwr : (s.at_ t).pwr = s.pwr := State.at__kept.pwr rfl
@[simp] theorem State.at_kpr : (s.at_ t).kpr = s.kpr := State.at__kept.kpr rfl
@[simp] theorem State.at_free : (s.at_ t).free = s.free := State.at__kept.free rfl
@[simp] theorem State.at_pending : (s.at_ t).pending = s.pending := State.at__kept.pending

@[simp] theorem State.at_now : (s.at_ t).tim.now = max s.tim.now t := by
  unfold State.at_ State.busyUs
  dsimp only
  repeat' split
  all_goals simp

theorem State.at_rd {off : Nat} (c : closingReg off = false) : (s.at_ t).rd off = s.rd off := State.at__kept.rd rfl off c

theorem State.at_rf {f : RFld} (c : closingReg f.off = false) : (s.at_ t).rf f = s.rf f := State.at__kept.rf rfl f c

theorem State.at_rb {f : RFld} (c : closingReg f.off = false) : (s.at_ t).rb f = s.rb f := by
  unfold State.rb
  rw [State.at_rf s t c]

theorem State.at_wf (h : Regs.wf s.regs = true) : Regs.wf (s.at_ t).regs = true := State.at__kept.cRegs h

@[simp] theorem State.at_ring (r : Nat) : (s.at_ t).ring r = s.ring r := by
  unfold State.ring
  rw [State.at_hif]

end Sys2Proof.Machine
end

