-- ==== Sys2Proof/Laws/KeptCmd.lean ====
section
/-! SUPPORT. What the operations of Machine/Cmd.lean leave alone. -/

set_option linter.tactic.unusedName false

namespace Sys2Proof.Machine

set_option Elab.async false

theorem State.preCheck_kept {sp : Spec} {c : Cmd} {s : State} : Kept 6815806 s (State.preCheck sp c s).2 := by
  have hz : True := trivial
  unfold State.preCheck
  repeat' first
    | (intro)
    | with_reducible assumption
    | with_reducible exact Kept.refl _ _
    | exact Eq.refl _
    | (extract_lets +onlyGivenNames x
       first
       | (have hx : Kept 6815806 s x := ?_
          clear_value x
          rotate_left
          subst x
          rotate_left)
       | (have hx : Kept 6815806 s x.2 := ?_
          clear_value x
          rotate_left
          subst x
          rotate_left)
       | (have hx : Kept 6815806 s x.1 := ?_
          clear_value x
          rotate_left
          subst x
          rotate_left)
       | (have hz : ∀ y, Kept 6815806 s y → Kept 6815806 s (x y) := ?_
          clear_value x
          rotate_left
          unfold x
          clear x
          rotate_left)
       | (have hz : ∀ a y, Kept 6815806 s y → Kept 6815806 s (x a y) := ?_
          clear_value x
          rotate_left
          unfold x
          clear x
          rotate_left)
       | (have hz : ∀ a b y, Kept 6815806 s y → Kept 6815806 s (x a b y) := ?_
          clear_value x
          rotate_left
          unfold x
          clear x
          rotate_left)
       | (have hz : ∀ a b c y, Kept 6815806 s y → Kept 6815806 s (x a b c y) := ?_
          clear_value x
          rotate_left
          unfold x
          clear x
          rotate_left)
       | (have hz : ∀ a b c d y, Kept 6815806 s y → Kept 6815806 s (x a b c d y) := ?_
          clear_value x
          rotate_left
          unfold x
          clear x
          rotate_left)
       | (have hz : ∀ a, Kept 6815806 s (x a) := ?_
          clear_value x
          rotate_left
          unfold x
          clear x
          rotate_left)
       | (have hz : ∀ a b, Kept 6815806 s (x a b) := ?_
          clear_value x
          rotate_left
          unfold x
          clear x
          rotate_left)
       | (have hz : ∀ a, Kept 6815806 s (x a).2 := ?_
          clear_value x
          rotate_left
          unfold x
          clear x
          rotate_left)
       | (have hz : ∀ a b c, Kept 6815806 s (x a b c).2 := ?_
          clear_value x
          rotate_left
          unfold x
          clear x
          rotate_left)
       | clear_value x)
    | split
    | (with_reducible apply Kept.step State.twinEvent_kept)
    | (with_reducible apply Kept.step State.denied_kept)
    | (with_reducible apply Kept.step State.bump_kept)
    | (with_reducible refine Kept.snd (by with_reducible assumption) ?_)
    | (with_reducible refine Kept.fst (by with_reducible assumption) ?_)
    | (with_reducible apply hz)
    | (with_reducible refine Kept.call (by with_reducible assumption) ?_)
    | (with_reducible refine Kept.call1 (by with_reducible assumption) ?_)

theorem State.opReply_kept {i : Infl} {s : State} : Kept 6815800 s (State.opReply i s).2 := by
  unfold State.opReply
  repeat' first
    | (intro)
    | with_reducible assumption
    | with_reducible exact Kept.refl _ _
    | exact Eq.refl _
    | (extract_lets +onlyGivenNames x
       first
       | (have hx : Kept 6815800 s x := ?_
          clear_value x
          rotate_left
          subst x
          rotate_left)
       | clear_value x)
    | split
    | (with_reducible apply Kept.step State.denied_kept)
    | (with_reducible refine Kept.snd (by with_reducible assumption) ?_)
    | (with_reducible refine Kept.fst (by with_reducible assumption) ?_)

theorem State.sweep_kept {a0 : Nat} {a1 : Nat} {a2 : State} : Kept 6815800 a2 (State.sweep a0 a1 a2) := by
  induction a0 generalizing a1 a2 with
  | zero =>
    unfold State.sweep
    repeat' first
      | (intro)
      | with_reducible assumption
      | with_reducible exact Kept.refl _ _
      | exact Eq.refl _
      | (extract_lets +onlyGivenNames x
         first
         | (have hx : Kept 6815800 a2 x := ?_
            clear_value x
            rotate_left
            subst x
            rotate_left)
         | clear_value x)
      | split
      | (with_reducible apply Kept.step State.opReply_kept)
      | (with_reducible apply Kept.step State.complete_kept)
      | (with_reducible apply Kept.step ih)
      | (with_reducible refine Kept.snd (by with_reducible assumption) ?_)
      | (with_reducible refine Kept.fst (by with_reducible assumption) ?_)

  | succ n ih =>
    unfold State.sweep
    repeat' first
      | (intro)
      | with_reducible assumption
      | with_reducible exact Kept.refl _ _
      | exact Eq.refl _
      | (extract_lets +onlyGivenNames x
         first
         | (have hx : Kept 6815800 a2 x := ?_
            clear_value x
            rotate_left
            subst x
            rotate_left)
         | clear_value x)
      | split
      | (with_reducible apply Kept.step State.opReply_kept)
      | (with_reducible apply Kept.step State.complete_kept)
      | (with_reducible apply Kept.step ih)
      | (with_reducible refine Kept.snd (by with_reducible assumption) ?_)
      | (with_reducible refine Kept.fst (by with_reducible assumption) ?_)

theorem State.reply_kept {i : Infl} {r : Reply} {s : State} : Kept 6815800 s (State.reply i r s) := by
  unfold State.reply
  repeat' first
    | (intro)
    | with_reducible assumption
    | with_reducible exact Kept.refl _ _
    | exact Eq.refl _
    | (with_reducible apply Kept.step State.sweep_kept)
    | (with_reducible apply Kept.step State.complete_kept)

theorem State.holdCmd_kept {i : Infl} {s : State} : Kept 6815800 s (State.holdCmd i s) := by
  unfold State.holdCmd
  repeat' first
    | (intro)
    | with_reducible assumption
    | with_reducible exact Kept.refl _ _
    | exact Eq.refl _
    | (with_reducible apply Kept.step State.sweep_kept)
    | (with_reducible apply Kept.step (State.onHif_kept' ?_))

theorem State.command_kept {m : Nat} {s0 : State} {t : Nat} {sp : State → Spec} {c : Cmd} {body : State → Option Reply × State} {s : State} (h0 : Kept m s0 s) (hm : 6817087 ||| m = m) (hf : ∀ (x0 : State), Kept m s0 x0 → Kept m s0 (body x0).2) : Kept m s0 (State.command t sp c body s) := by
  unfold State.command
  repeat' first
    | (intro)
    | with_reducible assumption
    | with_reducible exact Kept.refl _ _
    | exact Eq.refl _
    | (with_reducible refine Kept.ofId ?_)
    | (extract_lets +onlyGivenNames x
       first
       | (have hx : Kept m s0 x := ?_
          clear_value x
          rotate_left
          subst x
          rotate_left)
       | clear_value x)
    | split
    | exact lor_sub (by rfl) hm
    | (with_reducible apply Kept.step State.holdCmd_kept)
    | (with_reducible apply Kept.step State.reply_kept)
    | (with_reducible apply Kept.step State.preCheck_kept)
    | (with_reducible apply Kept.step State.at__kept)
    | (with_reducible apply hf)
    | (with_reducible refine Kept.snd (by with_reducible assumption) ?_)
    | (with_reducible refine Kept.fst (by with_reducible assumption) ?_)

theorem okWith_kept {m : Nat} {s0 : State} {f : State → State} {s : State} (h0 : Kept m s0 s) (_hm : 0 ||| m = m) (hf : ∀ (x0 : State), Kept m s0 x0 → Kept m s0 (f x0)) : Kept m s0 (okWith f s).2 := by
  unfold okWith
  repeat' first
    | (intro)
    | with_reducible assumption
    | with_reducible exact Kept.refl _ _
    | exact Eq.refl _
    | (with_reducible refine Kept.ofId ?_)
    | exact lor_sub (by rfl) hm
    | (with_reducible apply hf)

theorem State.drainN_kept0 {a0 : Nat} {a1 : Nat} {a2 : State} : Kept 14680072 a2 (State.drainN a0 a1 a2) := by
  induction a0 generalizing a1 a2 with
  | zero =>
    unfold State.drainN
    repeat' first
      | (intro)
      | with_reducible assumption
      | with_reducible exact Kept.refl _ _
      | exact Eq.refl _
      | (extract_lets +onlyGivenNames x
         first
         | (have hx : Kept 14680072 a2 x := ?_
            clear_value x
            rotate_left
            subst x
            rotate_left)
         | clear_value x)
      | split
      | (with_reducible apply Kept.step State.entryPut_kept)
      | (with_reducible apply Kept.step State.signal_kept)
      | (with_reducible apply Kept.step (State.wf_closing ?_))
      | (with_reducible apply Kept.step (State.onHif_kept' ?_))
      | (with_reducible apply Kept.step ih)
      | exact closingReg_high (Nat.le_trans (by decide) (Nat.le_add_right _ _))
      | (with_reducible refine Kept.fold ?_ ?_)
      | (with_reducible refine Kept.foldSnd ?_ ?_)
      | (with_reducible refine Kept.foldFst ?_ ?_)
      | (with_reducible refine Kept.snd (by with_reducible assumption) ?_)
      | (with_reducible refine Kept.fst (by with_reducible assumption) ?_)

  | succ n ih =>
    unfold State.drainN
    repeat' first
      | (intro)
      | with_reducible assumption
      | with_reducible exact Kept.refl _ _
      | exact Eq.refl _
      | (extract_lets +onlyGivenNames x
         first
         | (have hx : Kept 14680072 a2 x := ?_
            clear_value x
            rotate_left
            subst x
            rotate_left)
         | clear_value x)
      | split
      | (with_reducible apply Kept.step State.entryPut_kept)
      | (with_reducible apply Kept.step State.signal_kept)
      | (with_reducible apply Kept.step (State.wf_closing ?_))
      | (with_reducible apply Kept.step (State.onHif_kept' ?_))
      | (with_reducible apply Kept.step ih)
      | exact closingReg_high (Nat.le_trans (by decide) (Nat.le_add_right _ _))
      | (with_reducible refine Kept.fold ?_ ?_)
      | (with_reducible refine Kept.foldSnd ?_ ?_)
      | (with_reducible refine Kept.foldFst ?_ ?_)
      | (with_reducible refine Kept.snd (by with_reducible assumption) ?_)
      | (with_reducible refine Kept.fst (by with_reducible assumption) ?_)

theorem State.drainN_out {fuel r : Nat} {s : State} : Out s (State.drainN fuel r s) := by
  induction fuel generalizing s with
  | zero => exact Out.refl s
  | succ fuel ih =>
    unfold State.drainN
    dsimp only
    split
    · exact Out.refl s
    · rename_i h
      have hr : isRing (s.ring r) 2 = true := by
        simp only [Bool.or_eq_true, Bool.not_eq_true', not_or, Bool.not_eq_false] at h
        exact h.1.1
      split
      · exact Out.refl s
      · split
        · exact Out.refl s
        · refine Out.trans ?_ ih
          refine Out.trans ?_ State.signal_kept.out_
          refine Out.trans ?_ (State.wf_kept (f := Reg.HIF_BACKLOG_USED.COUNT)).out_
          exact (entries_out hr).trans (Out.onHif rfl rfl rfl rfl)

theorem State.drainN_kept {a0 : Nat} {a1 : Nat} {a2 : State} : Kept 6291464 a2 (State.drainN a0 a1 a2) :=
  State.drainN_kept0.withOut State.drainN_out rfl

theorem State.drain_kept {r : Nat} {s : State} : Kept 6291464 s (State.drain r s) := by
  unfold State.drain
  repeat' first
    | (intro)
    | with_reducible assumption
    | with_reducible exact Kept.refl _ _
    | exact Eq.refl _
    | (with_reducible apply Kept.step State.drainN_kept)

theorem State.unhold_kept {cpl : Nat} {s : State} : Kept 6291464 s (State.unhold cpl s) := by
  unfold State.unhold
  repeat' first
    | (intro)
    | with_reducible assumption
    | with_reducible exact Kept.refl _ _
    | exact Eq.refl _
    | (extract_lets +onlyGivenNames x
       first
       | (have hx : Kept 6291464 s x := ?_
          clear_value x
          rotate_left
          subst x
          rotate_left)
       | clear_value x)
    | split
    | (with_reducible apply Kept.step State.unflight_kept)
    | (with_reducible apply Kept.step State.cplPut_kept)
    | (with_reducible apply Kept.step (State.onHif_kept' ?_))
    | (with_reducible refine Kept.fold ?_ ?_)
    | (with_reducible refine Kept.foldSnd ?_ ?_)
    | (with_reducible refine Kept.foldFst ?_ ?_)
    | (with_reducible refine Kept.snd (by with_reducible assumption) ?_)
    | (with_reducible refine Kept.fst (by with_reducible assumption) ?_)

theorem State.levelA_kept {s : State} : Kept 6291464 s (State.levelA s) := by
  unfold State.levelA
  repeat' first
    | (intro)
    | with_reducible assumption
    | with_reducible exact Kept.refl _ _
    | exact Eq.refl _
    | (with_reducible apply Kept.step State.unhold_kept)
    | (with_reducible apply Kept.step State.drain_kept)
    | (with_reducible refine Kept.fold ?_ ?_)
    | (with_reducible refine Kept.foldSnd ?_ ?_)
    | (with_reducible refine Kept.foldFst ?_ ?_)

theorem State.bufPut_kept {c : Cmd} {n : Nat} {v : Nat} {s : State} : Kept 14680072 s (State.bufPut c n v s) := by
  unfold State.bufPut
  repeat' first
    | (intro)
    | with_reducible assumption
    | with_reducible exact Kept.refl _ _
    | exact Eq.refl _
    | (with_reducible apply Kept.step State.levelA_kept)
    | (with_reducible apply Kept.step State.hostPut_kept)

end Sys2Proof.Machine
end

