-- ==== Sys2Proof/Laws/KeptOperands.lean ====
section
/-! SUPPORT. What the operations of Machine/Operands.lean leave alone. -/

set_option linter.tactic.unusedName false

namespace Sys2Proof.Machine

set_option Elab.async false

theorem State.setPt_kept {i : Nat} {p : Rec 128} {s : State} : Kept 256 s (State.setPt i p s) := by
  unfold State.setPt
  repeat' first
    | (intro)
    | with_reducible assumption
    | with_reducible exact Kept.refl _ _
    | exact Eq.refl _
    | (with_reducible apply Kept.step State.onPts_kept)

theorem State.modPt_kept {i : Nat} {f : Rec 128 → Rec 128} {s : State} : Kept 256 s (State.modPt i f s) := by
  unfold State.modPt
  repeat' first
    | (intro)
    | with_reducible assumption
    | with_reducible exact Kept.refl _ _
    | exact Eq.refl _
    | (with_reducible apply Kept.step State.setPt_kept)

theorem State.setPx_kept {i : Nat} {p : PtX} {s : State} : Kept 256 s (State.setPx i p s) := by
  unfold State.setPx
  repeat' first
    | (intro)
    | with_reducible assumption
    | with_reducible exact Kept.refl _ _
    | exact Eq.refl _
    | (with_reducible apply Kept.step State.onPts_kept)

theorem State.modPx_kept {i : Nat} {f : PtX → PtX} {s : State} : Kept 256 s (State.modPx i f s) := by
  unfold State.modPx
  repeat' first
    | (intro)
    | with_reducible assumption
    | with_reducible exact Kept.refl _ _
    | exact Eq.refl _
    | (with_reducible apply Kept.step State.setPx_kept)

theorem State.setCond_kept {c : Nat} {r : Rec 64} {s : State} : Kept 512 s (State.setCond c r s) := by
  unfold State.setCond
  repeat' first
    | (intro)
    | with_reducible assumption
    | with_reducible exact Kept.refl _ _
    | exact Eq.refl _
    | (with_reducible apply Kept.step State.onAlm_kept)

theorem State.modCond_kept {c : Nat} {f : Rec 64 → Rec 64} {s : State} : Kept 512 s (State.modCond c f s) := by
  unfold State.modCond
  repeat' first
    | (intro)
    | with_reducible assumption
    | with_reducible exact Kept.refl _ _
    | exact Eq.refl _
    | (with_reducible apply Kept.step State.setCond_kept)

theorem State.setCondX_kept {c : Nat} {r : Rec 16} {s : State} : Kept 512 s (State.setCondX c r s) := by
  unfold State.setCondX
  repeat' first
    | (intro)
    | with_reducible assumption
    | with_reducible exact Kept.refl _ _
    | exact Eq.refl _
    | (with_reducible apply Kept.step State.onAlm_kept)

theorem State.modCondX_kept {c : Nat} {f : Rec 16 → Rec 16} {s : State} : Kept 512 s (State.modCondX c f s) := by
  unfold State.modCondX
  repeat' first
    | (intro)
    | with_reducible assumption
    | with_reducible exact Kept.refl _ _
    | exact Eq.refl _
    | (with_reducible apply Kept.step State.setCondX_kept)

theorem State.toTile_kept {u : Upd} {s : State} : Kept 256 s (State.toTile u s) := by
  unfold State.toTile
  repeat' first
    | (intro)
    | with_reducible assumption
    | with_reducible exact Kept.refl _ _
    | exact Eq.refl _
    | (extract_lets +onlyGivenNames x
       first
       | (have hx : Kept 256 s x := ?_
          clear_value x
          rotate_left
          subst x
          rotate_left)
       | clear_value x)
    | split
    | (with_reducible apply Kept.step State.onPts_kept)
    | (with_reducible refine Kept.snd (by with_reducible assumption) ?_)
    | (with_reducible refine Kept.fst (by with_reducible assumption) ?_)

theorem State.tilePop_kept {k : Nat} {s : State} : Kept 256 s (State.tilePop k s) := by
  unfold State.tilePop
  repeat' first
    | (intro)
    | with_reducible assumption
    | with_reducible exact Kept.refl _ _
    | exact Eq.refl _
    | split
    | (with_reducible apply Kept.step State.onPts_kept)
    | (with_reducible refine Kept.snd (by with_reducible assumption) ?_)
    | (with_reducible refine Kept.fst (by with_reducible assumption) ?_)

end Sys2Proof.Machine
end

