-- ==== Sys2Proof/Laws/KeptFlags.lean ====
section
/-! SUPPORT. What the operations of Machine/Flags.lean leave alone. -/

set_option linter.tactic.unusedName false

namespace Sys2Proof.Machine

set_option Elab.async false

theorem State.gauge_kept {f : RFld} {was : Bool} {is_ : Bool} {s : State} : Kept 4194310 s (State.gauge f was is_ s) := by
  unfold State.gauge
  repeat' first
    | (intro)
    | with_reducible assumption
    | with_reducible exact Kept.refl _ _
    | exact Eq.refl _
    | split
    | (with_reducible apply Kept.step State.drop_kept)
    | (with_reducible apply Kept.step State.bump_kept)
    | (with_reducible refine Kept.snd (by with_reducible assumption) ?_)
    | (with_reducible refine Kept.fst (by with_reducible assumption) ?_)

theorem State.setCs_kept {c : Nat} {v : CS} {s : State} : Kept 4194822 s (State.setCs c v s) := by
  unfold State.setCs
  repeat' first
    | (intro)
    | with_reducible assumption
    | with_reducible exact Kept.refl _ _
    | exact Eq.refl _
    | (with_reducible apply Kept.step State.gauge_kept)
    | (with_reducible apply Kept.step State.modCond_kept)

theorem State.modCs_kept {c : Nat} {f : CS → CS} {s : State} : Kept 4194822 s (State.modCs c f s) := by
  unfold State.modCs
  repeat' first
    | (intro)
    | with_reducible assumption
    | with_reducible exact Kept.refl _ _
    | exact Eq.refl _
    | (with_reducible apply Kept.step State.setCs_kept)

theorem State.requal_kept {i : Nat} {s : State} : Kept 256 s (State.requal i s) := by
  unfold State.requal
  repeat' first
    | (intro)
    | with_reducible assumption
    | with_reducible exact Kept.refl _ _
    | exact Eq.refl _
    | (with_reducible apply Kept.step State.modPt_kept)

theorem State.mirrorBits_kept {i : Nat} {s : State} : Kept 256 s (State.mirrorBits i s) := by
  unfold State.mirrorBits
  repeat' first
    | (intro)
    | with_reducible assumption
    | with_reducible exact Kept.refl _ _
    | exact Eq.refl _
    | (with_reducible apply Kept.step State.modPt_kept)
    | (with_reducible refine Kept.fold ?_ ?_)
    | (with_reducible refine Kept.foldSnd ?_ ?_)
    | (with_reducible refine Kept.foldFst ?_ ?_)

theorem State.tileGates_kept {s : State} : Kept 4194310 s (State.tileGates s) := by
  unfold State.tileGates
  repeat' first
    | (intro)
    | with_reducible assumption
    | with_reducible exact Kept.refl _ _
    | exact Eq.refl _
    | (with_reducible apply Kept.step State.wf_kept)
    | (with_reducible refine Kept.fold ?_ ?_)
    | (with_reducible refine Kept.foldSnd ?_ ?_)
    | (with_reducible refine Kept.foldFst ?_ ?_)

end Sys2Proof.Machine
end

