-- ==== Sys2Proof/Laws/KeptLedgerHist.lean ====
section
/-! SUPPORT. What the operations of Machine/LedgerHist.lean leave alone. -/

set_option linter.tactic.unusedName false

namespace Sys2Proof.Machine

set_option Elab.async false

theorem State.ofsUs_kept {t : Nat} {start : Nat} {s : State} : Kept 1048576 s (State.ofsUs t start s).2 := by
  unfold State.ofsUs
  repeat' first
    | (intro)
    | with_reducible assumption
    | with_reducible exact Kept.refl _ _
    | exact Eq.refl _
    | split
    | (with_reducible apply Kept.step State.fresh_kept)
    | (with_reducible refine Kept.snd (by with_reducible assumption) ?_)
    | (with_reducible refine Kept.fst (by with_reducible assumption) ?_)

theorem State.histBody_kept {i : Nat} {tier : Nat} {set : Nat} {a : Acc1} {s : State} : Kept 1048576 s (State.histBody i tier set a s).2 := by
  unfold State.histBody
  repeat' first
    | (intro)
    | with_reducible assumption
    | with_reducible exact Kept.refl _ _
    | exact Eq.refl _
    | split
    | (with_reducible apply Kept.step State.ofsUs_kept)
    | (with_reducible refine Kept.foldr ?_ ?_)
    | (with_reducible refine Kept.snd (by with_reducible assumption) ?_)
    | (with_reducible refine Kept.fst (by with_reducible assumption) ?_)

theorem State.histClose_kept {i : Nat} {tier : Nat} {set : Nat} {b : Nat} {a : Acc1} {s : State} : Kept 7864360 s (State.histClose i tier set b a s) := by
  unfold State.histClose
  repeat' first
    | (intro)
    | with_reducible assumption
    | with_reducible exact Kept.refl _ _
    | exact Eq.refl _
    | (extract_lets +onlyGivenNames x
       first
       | (have hx : Kept 7864360 s x := ?_
          clear_value x
          rotate_left
          subst x
          rotate_left)
       | clear_value x)
    | split
    | (with_reducible apply Kept.step State.histBody_kept)
    | (with_reducible apply Kept.step State.ldgTake_kept)
    | (with_reducible refine Kept.snd (by with_reducible assumption) ?_)
    | (with_reducible refine Kept.fst (by with_reducible assumption) ?_)

theorem State.histTurn_kept {i : Nat} {tier : Nat} {w : Nat} {s : State} : Kept 7864360 s (State.histTurn i tier w s) := by
  unfold State.histTurn
  repeat' first
    | (intro)
    | with_reducible assumption
    | with_reducible exact Kept.refl _ _
    | exact Eq.refl _
    | split
    | (with_reducible apply Kept.step State.histClose_kept)
    | (with_reducible apply Kept.step (State.onLdg_kept ?_))
    | (with_reducible refine Kept.snd (by with_reducible assumption) ?_)
    | (with_reducible refine Kept.fst (by with_reducible assumption) ?_)

theorem State.liveBlock_kept {i : Nat} {s : State} : Kept 1048576 s (State.liveBlock i s).2 := by
  unfold State.liveBlock
  repeat' first
    | (intro)
    | with_reducible assumption
    | with_reducible exact Kept.refl _ _
    | exact Eq.refl _
    | (with_reducible apply Kept.step State.histBody_kept)

theorem State.livePut_kept {i : Nat} {s : State} : Kept 3145768 s (State.livePut i s) := by
  unfold State.livePut
  repeat' first
    | (intro)
    | with_reducible assumption
    | with_reducible exact Kept.refl _ _
    | exact Eq.refl _
    | split
    | (with_reducible apply Kept.step State.liveBlock_kept)
    | (with_reducible apply Kept.step State.viewPut_kept)
    | (with_reducible apply Kept.step (State.onLdg_kept ?_))
    | (with_reducible refine Kept.snd (by with_reducible assumption) ?_)
    | (with_reducible refine Kept.fst (by with_reducible assumption) ?_)

theorem State.liveDue_kept {s : State} : Kept 3145768 s (State.liveDue s) := by
  unfold State.liveDue
  repeat' first
    | (intro)
    | with_reducible assumption
    | with_reducible exact Kept.refl _ _
    | exact Eq.refl _
    | (with_reducible apply Kept.step State.livePut_kept)
    | (with_reducible refine Kept.fold ?_ ?_)
    | (with_reducible refine Kept.foldSnd ?_ ?_)
    | (with_reducible refine Kept.foldFst ?_ ?_)

theorem State.histRebind_kept {i : Nat} {old : Rec 128} {s : State} : Kept 32 s (State.histRebind i old s) := by
  unfold State.histRebind
  repeat' first
    | (intro)
    | with_reducible assumption
    | with_reducible exact Kept.refl _ _
    | exact Eq.refl _
    | (extract_lets +onlyGivenNames x
       first
       | (have hx : Kept 32 s x := ?_
          clear_value x
          rotate_left
          subst x
          rotate_left)
       | clear_value x)
    | split
    | (with_reducible apply Kept.step (State.onLdg_kept ?_))
    | (with_reducible refine Kept.fold ?_ ?_)
    | (with_reducible refine Kept.foldSnd ?_ ?_)
    | (with_reducible refine Kept.foldFst ?_ ?_)
    | (with_reducible refine Kept.snd (by with_reducible assumption) ?_)
    | (with_reducible refine Kept.fst (by with_reducible assumption) ?_)

theorem State.histTake_kept {i : Nat} {tier : Nat} {d : Nat} {old : Nat} {s : State} : Kept 7864360 s (State.histTake i tier d old s) := by
  unfold State.histTake
  repeat' first
    | (intro)
    | with_reducible assumption
    | with_reducible exact Kept.refl _ _
    | exact Eq.refl _
    | split
    | (with_reducible apply Kept.step State.histTurn_kept)
    | (with_reducible apply Kept.step (State.onLdg_kept ?_))
    | (with_reducible refine Kept.snd (by with_reducible assumption) ?_)
    | (with_reducible refine Kept.fst (by with_reducible assumption) ?_)

theorem State.histUpdate_kept {i : Nat} {d : Nat} {old : Nat} {s : State} : Kept 7864366 s (State.histUpdate i d old s) := by
  have hz : True := trivial
  unfold State.histUpdate
  repeat' first
    | (intro)
    | with_reducible assumption
    | with_reducible exact Kept.refl _ _
    | exact Eq.refl _
    | (extract_lets +onlyGivenNames x
       first
       | (have hx : Kept 7864366 s x := ?_
          clear_value x
          rotate_left
          subst x
          rotate_left)
       | (have hx : Kept 7864366 s x.2 := ?_
          clear_value x
          rotate_left
          subst x
          rotate_left)
       | (have hx : Kept 7864366 s x.1 := ?_
          clear_value x
          rotate_left
          subst x
          rotate_left)
       | (have hz : ∀ y, Kept 7864366 s y → Kept 7864366 s (x y) := ?_
          clear_value x
          rotate_left
          unfold x
          clear x
          rotate_left)
       | (have hz : ∀ a y, Kept 7864366 s y → Kept 7864366 s (x a y) := ?_
          clear_value x
          rotate_left
          unfold x
          clear x
          rotate_left)
       | (have hz : ∀ a b y, Kept 7864366 s y → Kept 7864366 s (x a b y) := ?_
          clear_value x
          rotate_left
          unfold x
          clear x
          rotate_left)
       | (have hz : ∀ a b c y, Kept 7864366 s y → Kept 7864366 s (x a b c y) := ?_
          clear_value x
          rotate_left
          unfold x
          clear x
          rotate_left)
       | (have hz : ∀ a b c d y, Kept 7864366 s y → Kept 7864366 s (x a b c d y) := ?_
          clear_value x
          rotate_left
          unfold x
          clear x
          rotate_left)
       | (have hz : ∀ a, Kept 7864366 s (x a) := ?_
          clear_value x
          rotate_left
          unfold x
          clear x
          rotate_left)
       | (have hz : ∀ a b, Kept 7864366 s (x a b) := ?_
          clear_value x
          rotate_left
          unfold x
          clear x
          rotate_left)
       | (have hz : ∀ a, Kept 7864366 s (x a).2 := ?_
          clear_value x
          rotate_left
          unfold x
          clear x
          rotate_left)
       | (have hz : ∀ a b c, Kept 7864366 s (x a b c).2 := ?_
          clear_value x
          rotate_left
          unfold x
          clear x
          rotate_left)
       | clear_value x)
    | split
    | (with_reducible apply Kept.step State.histTake_kept)
    | (with_reducible apply Kept.step State.livePut_kept)
    | (with_reducible apply Kept.step State.bump_kept)
    | (with_reducible refine Kept.fold ?_ ?_)
    | (with_reducible refine Kept.foldSnd ?_ ?_)
    | (with_reducible refine Kept.foldFst ?_ ?_)
    | (with_reducible refine Kept.snd (by with_reducible assumption) ?_)
    | (with_reducible refine Kept.fst (by with_reducible assumption) ?_)
    | (with_reducible apply hz)
    | (with_reducible refine Kept.call (by with_reducible assumption) ?_)
    | (with_reducible refine Kept.call1 (by with_reducible assumption) ?_)

end Sys2Proof.Machine
end

