-- ==== Sys2Proof/Laws/KeptCondOps.lean ====
section
/-! SUPPORT. What the operations of Machine/CondOps.lean leave alone. -/

set_option linter.tactic.unusedName false

namespace Sys2Proof.Machine

set_option Elab.async false

theorem State.setWlink_kept {o : Nat} {r : Rec 8} {s : State} : Kept 512 s (State.setWlink o r s) := by
  unfold State.setWlink
  repeat' first
    | (intro)
    | with_reducible assumption
    | with_reducible exact Kept.refl _ _
    | exact Eq.refl _
    | (with_reducible apply Kept.step State.onAlm_kept)

theorem State.setWhead_kept {k : Nat} {o : Nat} {s : State} : Kept 512 s (State.setWhead k o s) := by
  unfold State.setWhead
  repeat' first
    | (intro)
    | with_reducible assumption
    | with_reducible exact Kept.refl _ _
    | exact Eq.refl _
    | (with_reducible apply Kept.step State.onAlm_kept)

theorem State.wheelPut_kept {o : Nat} {fire : Nat} {s : State} : Kept 512 s (State.wheelPut o fire s) := by
  unfold State.wheelPut
  repeat' first
    | (intro)
    | with_reducible assumption
    | with_reducible exact Kept.refl _ _
    | exact Eq.refl _
    | split
    | (with_reducible apply Kept.step State.setWhead_kept)
    | (with_reducible apply Kept.step State.setWlink_kept)
    | (with_reducible refine Kept.snd (by with_reducible assumption) ?_)
    | (with_reducible refine Kept.fst (by with_reducible assumption) ?_)

theorem State.wheelCut_kept {o : Nat} {fire : Nat} {s : State} : Kept 512 s (State.wheelCut o fire s) := by
  unfold State.wheelCut
  repeat' first
    | (intro)
    | with_reducible assumption
    | with_reducible exact Kept.refl _ _
    | exact Eq.refl _
    | (extract_lets +onlyGivenNames x
       first
       | (have hx : Kept 512 s x := ?_
          clear_value x
          rotate_left
          subst x
          rotate_left)
       | clear_value x)
    | split
    | (with_reducible apply Kept.step State.setWhead_kept)
    | (with_reducible apply Kept.step State.setWlink_kept)
    | (with_reducible refine Kept.snd (by with_reducible assumption) ?_)
    | (with_reducible refine Kept.fst (by with_reducible assumption) ?_)

theorem State.spillJudge_kept {s : State} : Kept 4194310 s (State.spillJudge s) := by
  unfold State.spillJudge
  repeat' first
    | (intro)
    | with_reducible assumption
    | with_reducible exact Kept.refl _ _
    | exact Eq.refl _
    | split
    | (with_reducible apply Kept.step State.wf_kept)
    | (with_reducible refine Kept.snd (by with_reducible assumption) ?_)
    | (with_reducible refine Kept.fst (by with_reducible assumption) ?_)

theorem State.timerStart_kept {owner : Nat} {t0 : Nat} {d : Nat} {s : State} : Kept 6816302 s (State.timerStart owner t0 d s).2 := by
  unfold State.timerStart
  repeat' first
    | (intro)
    | with_reducible assumption
    | with_reducible exact Kept.refl _ _
    | exact Eq.refl _
    | (extract_lets +onlyGivenNames x
       first
       | (have hx : Kept 6816302 s x := ?_
          clear_value x
          rotate_left
          subst x
          rotate_left)
       | clear_value x)
    | split
    | (with_reducible apply Kept.step State.wheelPut_kept)
    | (with_reducible apply Kept.step State.raise_kept)
    | (with_reducible apply Kept.step State.bump_kept)
    | (with_reducible apply Kept.step State.wf_kept)
    | (with_reducible apply Kept.step State.onAlm_kept)
    | (with_reducible refine Kept.snd (by with_reducible assumption) ?_)
    | (with_reducible refine Kept.fst (by with_reducible assumption) ?_)

theorem State.timerStop_kept {owner : Nat} {id : Nat} {coarse : Bool} {s : State} : Kept 4194822 s (State.timerStop owner id coarse s) := by
  unfold State.timerStop
  repeat' first
    | (intro)
    | with_reducible assumption
    | with_reducible exact Kept.refl _ _
    | exact Eq.refl _
    | split
    | (with_reducible apply Kept.step State.spillJudge_kept)
    | (with_reducible apply Kept.step State.wheelCut_kept)
    | (with_reducible apply Kept.step State.drop_kept)
    | (with_reducible apply Kept.step State.wf_kept)
    | (with_reducible apply Kept.step State.onAlm_kept)
    | (with_reducible refine Kept.snd (by with_reducible assumption) ?_)
    | (with_reducible refine Kept.fst (by with_reducible assumption) ?_)

theorem State.delayStop_kept {c : Nat} {s : State} : Kept 4194822 s (State.delayStop c s) := by
  unfold State.delayStop
  repeat' first
    | (intro)
    | with_reducible assumption
    | with_reducible exact Kept.refl _ _
    | exact Eq.refl _
    | (extract_lets +onlyGivenNames x
       first
       | (have hx : Kept 4194822 s x := ?_
          clear_value x
          rotate_left
          subst x
          rotate_left)
       | clear_value x)
    | split
    | (with_reducible apply Kept.step State.timerStop_kept)
    | (with_reducible apply Kept.step State.wheelCut_kept)
    | (with_reducible apply Kept.step State.setCond_kept)
    | (with_reducible apply Kept.step State.onAlm_kept)
    | (with_reducible refine Kept.snd (by with_reducible assumption) ?_)
    | (with_reducible refine Kept.fst (by with_reducible assumption) ?_)

theorem State.delayStart_kept {c : Nat} {kind : Nat} {t0 : Nat} {d : Nat} {s : State} : Kept 6816302 s (State.delayStart c kind t0 d s) := by
  unfold State.delayStart
  repeat' first
    | (intro)
    | with_reducible assumption
    | with_reducible exact Kept.refl _ _
    | exact Eq.refl _
    | (with_reducible apply Kept.step State.delayStop_kept)
    | (with_reducible apply Kept.step State.timerStart_kept)
    | (with_reducible apply Kept.step State.modCond_kept)

theorem State.activate_kept {i : Nat} {c : Nat} {s : State} : Kept 4194822 s (State.activate i c s) := by
  unfold State.activate
  repeat' first
    | (intro)
    | with_reducible assumption
    | with_reducible exact Kept.refl _ _
    | exact Eq.refl _
    | (extract_lets +onlyGivenNames x
       first
       | (have hx : Kept 4194822 s x := ?_
          clear_value x
          rotate_left
          subst x
          rotate_left)
       | clear_value x)
    | split
    | (with_reducible apply Kept.step State.modCs_kept)
    | (with_reducible apply Kept.step State.modCondX_kept)
    | (with_reducible apply Kept.step State.dirtyMod_kept)
    | (with_reducible apply Kept.step State.onAlm_kept)
    | (with_reducible refine Kept.snd (by with_reducible assumption) ?_)
    | (with_reducible refine Kept.fst (by with_reducible assumption) ?_)

theorem State.return__kept {c : Nat} {s : State} : Kept 4194822 s (State.return_ c s) := by
  unfold State.return_
  repeat' first
    | (intro)
    | with_reducible assumption
    | with_reducible exact Kept.refl _ _
    | exact Eq.refl _
    | (extract_lets +onlyGivenNames x
       first
       | (have hx : Kept 4194822 s x := ?_
          clear_value x
          rotate_left
          subst x
          rotate_left)
       | clear_value x)
    | split
    | (with_reducible apply Kept.step State.setCs_kept)
    | (with_reducible apply Kept.step State.bump_kept)
    | (with_reducible refine Kept.snd (by with_reducible assumption) ?_)
    | (with_reducible refine Kept.fst (by with_reducible assumption) ?_)

theorem State.startOn_kept {i : Nat} {c : Nat} {t0 : Nat} {s : State} : Kept 6816302 s (State.startOn i c t0 s) := by
  unfold State.startOn
  repeat' first
    | (intro)
    | with_reducible assumption
    | with_reducible exact Kept.refl _ _
    | exact Eq.refl _
    | (extract_lets +onlyGivenNames x
       first
       | (have hx : Kept 6816302 s x := ?_
          clear_value x
          rotate_left
          subst x
          rotate_left)
       | clear_value x)
    | split
    | (with_reducible apply Kept.step State.activate_kept)
    | (with_reducible apply Kept.step State.delayStart_kept)
    | (with_reducible refine Kept.snd (by with_reducible assumption) ?_)
    | (with_reducible refine Kept.fst (by with_reducible assumption) ?_)

theorem State.startOff_kept {c : Nat} {t0 : Nat} {s : State} : Kept 6816302 s (State.startOff c t0 s) := by
  unfold State.startOff
  repeat' first
    | (intro)
    | with_reducible assumption
    | with_reducible exact Kept.refl _ _
    | exact Eq.refl _
    | (extract_lets +onlyGivenNames x
       first
       | (have hx : Kept 6816302 s x := ?_
          clear_value x
          rotate_left
          subst x
          rotate_left)
       | clear_value x)
    | split
    | (with_reducible apply Kept.step State.return__kept)
    | (with_reducible apply Kept.step State.delayStart_kept)
    | (with_reducible refine Kept.snd (by with_reducible assumption) ?_)
    | (with_reducible refine Kept.fst (by with_reducible assumption) ?_)

theorem State.drive_kept {i : Nat} {c : Nat} {t0 : Nat} {side : Side} {resumed : Bool} {s : State} : Kept 6816302 s (State.drive i c t0 side resumed s) := by
  unfold State.drive
  repeat' first
    | (intro)
    | with_reducible assumption
    | with_reducible exact Kept.refl _ _
    | exact Eq.refl _
    | (extract_lets +onlyGivenNames x
       first
       | (have hx : Kept 6816302 s x := ?_
          clear_value x
          rotate_left
          subst x
          rotate_left)
       | clear_value x)
    | split
    | (with_reducible apply Kept.step State.startOff_kept)
    | (with_reducible apply Kept.step State.startOn_kept)
    | (with_reducible apply Kept.step State.delayStop_kept)
    | (with_reducible apply Kept.step State.setCs_kept)
    | (with_reducible apply Kept.step State.bump_kept)
    | (with_reducible refine Kept.snd (by with_reducible assumption) ?_)
    | (with_reducible refine Kept.fst (by with_reducible assumption) ?_)

theorem State.evalCond_kept {i : Nat} {slot : Nat} {c : Nat} {fresh : Bool} {t0 : Nat} {s : State} : Kept 6816302 s (State.evalCond i slot c fresh t0 s) := by
  unfold State.evalCond
  repeat' first
    | (intro)
    | with_reducible assumption
    | with_reducible exact Kept.refl _ _
    | exact Eq.refl _
    | (extract_lets +onlyGivenNames x
       first
       | (have hx : Kept 6816302 s x := ?_
          clear_value x
          rotate_left
          subst x
          rotate_left)
       | clear_value x)
    | split
    | (with_reducible apply Kept.step State.drive_kept)
    | (with_reducible apply Kept.step State.delayStop_kept)
    | (with_reducible apply Kept.step State.setCs_kept)
    | (with_reducible apply Kept.step State.raise_kept)
    | (with_reducible apply Kept.step State.onAlm_kept)
    | (with_reducible refine Kept.snd (by with_reducible assumption) ?_)
    | (with_reducible refine Kept.fst (by with_reducible assumption) ?_)

theorem State.setPrio_kept {c : Nat} {n : Nat} {s : State} : Kept 4194822 s (State.setPrio c n s) := by
  unfold State.setPrio
  repeat' first
    | (intro)
    | with_reducible assumption
    | with_reducible exact Kept.refl _ _
    | exact Eq.refl _
    | (extract_lets +onlyGivenNames x
       first
       | (have hx : Kept 4194822 s x := ?_
          clear_value x
          rotate_left
          subst x
          rotate_left)
       | clear_value x)
    | split
    | (with_reducible apply Kept.step State.modCs_kept)
    | (with_reducible apply Kept.step State.setCond_kept)
    | (with_reducible refine Kept.snd (by with_reducible assumption) ?_)
    | (with_reducible refine Kept.fst (by with_reducible assumption) ?_)

theorem State.syncCond_kept {i : Nat} {slot : Nat} {c : Nat} {s : State} : Kept 4194822 s (State.syncCond i slot c s) := by
  unfold State.syncCond
  repeat' first
    | (intro)
    | with_reducible assumption
    | with_reducible exact Kept.refl _ _
    | exact Eq.refl _
    | (with_reducible apply Kept.step State.setPrio_kept)
    | (with_reducible apply Kept.step State.setCondX_kept)
    | (with_reducible apply Kept.step State.setCond_kept)

theorem State.syncProfile_kept {i : Nat} {s : State} : Kept 4194822 s (State.syncProfile i s) := by
  unfold State.syncProfile
  repeat' first
    | (intro)
    | with_reducible assumption
    | with_reducible exact Kept.refl _ _
    | exact Eq.refl _
    | split
    | (with_reducible apply Kept.step State.syncCond_kept)
    | (with_reducible refine Kept.fold ?_ ?_)
    | (with_reducible refine Kept.foldSnd ?_ ?_)
    | (with_reducible refine Kept.foldFst ?_ ?_)
    | (with_reducible refine Kept.snd (by with_reducible assumption) ?_)
    | (with_reducible refine Kept.fst (by with_reducible assumption) ?_)

theorem State.setMark_kept {v : Nat} {s : State} : Kept 4325382 s (State.setMark v s) := by
  unfold State.setMark
  repeat' first
    | (intro)
    | with_reducible assumption
    | with_reducible exact Kept.refl _ _
    | exact Eq.refl _
    | (with_reducible apply Kept.step State.wf_kept)
    | (with_reducible apply Kept.step State.onImg_kept)

theorem State.takeSeq_kept {s : State} : Kept 4588038 s (State.takeSeq s).2 := by
  unfold State.takeSeq
  repeat' first
    | (intro)
    | with_reducible assumption
    | with_reducible exact Kept.refl _ _
    | exact Eq.refl _
    | (extract_lets +onlyGivenNames x
       first
       | (have hx : Kept 4588038 s x := ?_
          clear_value x
          rotate_left
          subst x
          rotate_left)
       | clear_value x)
    | split
    | (with_reducible apply Kept.step State.setMark_kept)
    | (with_reducible apply Kept.step State.wf_kept)
    | (with_reducible apply Kept.step State.onPwr_kept)
    | (with_reducible apply Kept.step State.onAlm_kept)
    | (with_reducible refine Kept.snd (by with_reducible assumption) ?_)
    | (with_reducible refine Kept.fst (by with_reducible assumption) ?_)

theorem State.toSectors_kept {c : Chg} {s : State} : Kept 263168 s (State.toSectors c s) := by
  unfold State.toSectors
  repeat' first
    | (intro)
    | with_reducible assumption
    | with_reducible exact Kept.refl _ _
    | exact Eq.refl _
    | (extract_lets +onlyGivenNames x
       first
       | (have hx : Kept 263168 s x := ?_
          clear_value x
          rotate_left
          subst x
          rotate_left)
       | clear_value x)
    | split
    | (with_reducible apply Kept.step State.onPwr_kept)
    | (with_reducible apply Kept.step State.onSec_kept)
    | (with_reducible refine Kept.snd (by with_reducible assumption) ?_)
    | (with_reducible refine Kept.fst (by with_reducible assumption) ?_)

theorem State.emit_kept {i : Nat} {slot : Nat} {c : Nat} {old : CS} {v : CS} {t : Nat} {s : State} : Kept 4589318 s (State.emit i slot c old v t s) := by
  unfold State.emit
  repeat' first
    | (intro)
    | with_reducible assumption
    | with_reducible exact Kept.refl _ _
    | exact Eq.refl _
    | split
    | (with_reducible apply Kept.step State.toSectors_kept)
    | (with_reducible apply Kept.step State.takeSeq_kept)
    | (with_reducible apply Kept.step State.modCond_kept)
    | (with_reducible apply Kept.step State.modPt_kept)
    | (with_reducible apply Kept.step State.onAlm_kept)
    | (with_reducible refine Kept.snd (by with_reducible assumption) ?_)
    | (with_reducible refine Kept.fst (by with_reducible assumption) ?_)

theorem State.condReload_kept {i : Nat} {c : Nat} {img : Bool} {w : Nat} {s : State} : Kept 6816302 s (State.condReload i c img w s) := by
  unfold State.condReload
  repeat' first
    | (intro)
    | with_reducible assumption
    | with_reducible exact Kept.refl _ _
    | exact Eq.refl _
    | (extract_lets +onlyGivenNames x
       first
       | (have hx : Kept 6816302 s x := ?_
          clear_value x
          rotate_left
          subst x
          rotate_left)
       | clear_value x)
    | split
    | (with_reducible apply Kept.step State.delayStop_kept)
    | (with_reducible apply Kept.step State.modCs_kept)
    | (with_reducible apply Kept.step State.modCond_kept)
    | (with_reducible apply Kept.step State.twinEvent_kept)
    | (with_reducible apply Kept.step State.bump_kept)
    | (with_reducible apply Kept.step State.onAlm_kept)
    | (with_reducible refine Kept.snd (by with_reducible assumption) ?_)
    | (with_reducible refine Kept.fst (by with_reducible assumption) ?_)

theorem State.condLost_kept {i : Nat} {c : Nat} {r : Rec 64} {s : State} : Kept 6816302 s (State.condLost i c r s) := by
  unfold State.condLost
  repeat' first
    | (intro)
    | with_reducible assumption
    | with_reducible exact Kept.refl _ _
    | exact Eq.refl _
    | (with_reducible apply Kept.step State.delayStop_kept)
    | (with_reducible apply Kept.step State.setCs_kept)
    | (with_reducible apply Kept.step State.twinEvent_kept)
    | (with_reducible apply Kept.step State.bump_kept)
    | (with_reducible apply Kept.step State.onAlm_kept)

theorem State.condCheck_kept {i : Nat} {img : Bool} {c : Nat} {r : Rec 64} {s : State} : Kept 6816302 s (State.condCheck i img c r s) := by
  unfold State.condCheck
  repeat' first
    | (intro)
    | with_reducible assumption
    | with_reducible exact Kept.refl _ _
    | exact Eq.refl _
    | split
    | (with_reducible apply Kept.step State.condLost_kept)
    | (with_reducible apply Kept.step State.condReload_kept)
    | (with_reducible apply Kept.step State.modCond_kept)
    | (with_reducible refine Kept.snd (by with_reducible assumption) ?_)
    | (with_reducible refine Kept.fst (by with_reducible assumption) ?_)

theorem State.condsCheck_kept {i : Nat} {s : State} : Kept 6816302 s (State.condsCheck i s) := by
  unfold State.condsCheck
  repeat' first
    | (intro)
    | with_reducible assumption
    | with_reducible exact Kept.refl _ _
    | exact Eq.refl _
    | (with_reducible apply Kept.step State.condCheck_kept)
    | (with_reducible refine Kept.fold ?_ ?_)
    | (with_reducible refine Kept.foldSnd ?_ ?_)
    | (with_reducible refine Kept.foldFst ?_ ?_)

theorem State.pass_kept {i : Nat} {slot : Nat} {c : Nat} {old : CS} {prio : Nat} {t : Nat} {s : State} : Kept 4589318 s (State.pass i slot c old prio t s) := by
  unfold State.pass
  repeat' first
    | (intro)
    | with_reducible assumption
    | with_reducible exact Kept.refl _ _
    | exact Eq.refl _
    | (extract_lets +onlyGivenNames x
       first
       | (have hx : Kept 4589318 s x := ?_
          clear_value x
          rotate_left
          subst x
          rotate_left)
       | clear_value x)
    | split
    | (with_reducible apply Kept.step State.emit_kept)
    | (with_reducible refine Kept.snd (by with_reducible assumption) ?_)
    | (with_reducible refine Kept.fst (by with_reducible assumption) ?_)

theorem State.input_kept {m : Nat} {s0 : State} {i : Nat} {t : Nat} {body : State → State} {s : State} (h0 : Kept m s0 s) (hm : 7210798 ||| m = m) (hf : ∀ (x0 : State), Kept m s0 x0 → Kept m s0 (body x0)) : Kept m s0 (State.input i t body s) := by
  unfold State.input
  repeat' first
    | (intro)
    | with_reducible assumption
    | with_reducible exact Kept.refl _ _
    | exact Eq.refl _
    | (with_reducible refine Kept.ofId ?_)
    | split
    | exact lor_sub (by rfl) hm
    | (with_reducible apply Kept.step State.pass_kept)
    | (with_reducible apply Kept.step State.condsCheck_kept)
    | (with_reducible apply Kept.step State.mirrorBits_kept)
    | (with_reducible apply Kept.step State.requal_kept)
    | (with_reducible apply hf)
    | (with_reducible refine Kept.fold ?_ ?_)
    | (with_reducible refine Kept.foldSnd ?_ ?_)
    | (with_reducible refine Kept.foldFst ?_ ?_)
    | (with_reducible refine Kept.snd (by with_reducible assumption) ?_)
    | (with_reducible refine Kept.fst (by with_reducible assumption) ?_)

theorem State.condGuard_kept {i : Nat} {t : Nat} {s : State} : Kept 7210798 s (State.condGuard i t s) := by
  unfold State.condGuard
  repeat' first
    | (intro)
    | with_reducible assumption
    | with_reducible exact Kept.refl _ _
    | exact Eq.refl _
    | (with_reducible refine Kept.ofId ?_)
    | split
    | (with_reducible apply State.input_kept)
    | (with_reducible refine Kept.snd (by with_reducible assumption) ?_)
    | (with_reducible refine Kept.fst (by with_reducible assumption) ?_)

theorem State.delayFire_kept {i : Nat} {c : Nat} {s : State} : Kept 7210798 s (State.delayFire i c s) := by
  unfold State.delayFire
  repeat' first
    | (intro)
    | with_reducible assumption
    | with_reducible exact Kept.refl _ _
    | exact Eq.refl _
    | (with_reducible refine Kept.ofId ?_)
    | (extract_lets +onlyGivenNames x
       first
       | (have hx : Kept 7210798 s x := ?_
          clear_value x
          rotate_left
          subst x
          rotate_left)
       | clear_value x)
    | split
    | (with_reducible apply State.input_kept)
    | (with_reducible apply Kept.step State.return__kept)
    | (with_reducible apply Kept.step State.activate_kept)
    | (with_reducible apply Kept.step State.delayStop_kept)
    | (with_reducible refine Kept.snd (by with_reducible assumption) ?_)
    | (with_reducible refine Kept.fst (by with_reducible assumption) ?_)

theorem State.evalPoint_kept {i : Nat} {fresh : Bool} {t : Nat} {t0 : Nat} {s : State} : Kept 7210798 s (State.evalPoint i fresh t t0 s) := by
  unfold State.evalPoint
  repeat' first
    | (intro)
    | with_reducible assumption
    | with_reducible exact Kept.refl _ _
    | exact Eq.refl _
    | (with_reducible refine Kept.ofId ?_)
    | (with_reducible apply State.input_kept)
    | (with_reducible apply Kept.step State.syncProfile_kept)
    | (with_reducible apply Kept.step State.evalCond_kept)
    | (with_reducible refine Kept.fold ?_ ?_)
    | (with_reducible refine Kept.foldSnd ?_ ?_)
    | (with_reducible refine Kept.foldFst ?_ ?_)

theorem State.replEntry_kept {i : Nat} {dst : Nat} {pick : Nat → Bool} {s : State} : Kept 640 s (State.replEntry i dst pick s) := by
  unfold State.replEntry
  repeat' first
    | (intro)
    | with_reducible assumption
    | with_reducible exact Kept.refl _ _
    | exact Eq.refl _
    | (with_reducible apply Kept.step State.onAlm_kept)
    | (with_reducible apply Kept.step State.onFab_kept)
    | (with_reducible refine Kept.fold ?_ ?_)
    | (with_reducible refine Kept.foldSnd ?_ ?_)
    | (with_reducible refine Kept.foldFst ?_ ?_)
    | (with_reducible refine Kept.foldr ?_ ?_)

theorem State.replState_kept {i : Nat} {s : State} : Kept 640 s (State.replState i s) := by
  unfold State.replState
  repeat' first
    | (intro)
    | with_reducible assumption
    | with_reducible exact Kept.refl _ _
    | exact Eq.refl _
    | split
    | (with_reducible apply Kept.step State.replEntry_kept)
    | (with_reducible refine Kept.snd (by with_reducible assumption) ?_)
    | (with_reducible refine Kept.fst (by with_reducible assumption) ?_)

end Sys2Proof.Machine
end

