-- ==== Sys2Proof/Laws/KeptLioOps.lean ====
section
/-! SUPPORT. What the operations of Machine/LioOps.lean leave alone. -/

set_option linter.tactic.unusedName false

namespace Sys2Proof.Machine

set_option Elab.async false

theorem State.lioEvent_kept {code : Nat} {ch : Nat} {args : List Nat} {s : State} : Kept 6823976 s (State.lioEvent code ch args s) := by
  unfold State.lioEvent
  repeat' first
    | (intro)
    | with_reducible assumption
    | with_reducible exact Kept.refl _ _
    | exact Eq.refl _
    | (extract_lets +onlyGivenNames x
       first
       | (have hx : Kept 6823976 s x := ?_
          clear_value x
          rotate_left
          subst x
          rotate_left)
       | clear_value x)
    | split
    | (with_reducible apply Kept.step State.raise_kept)
    | (with_reducible apply Kept.step State.onLio_kept)
    | (with_reducible refine Kept.snd (by with_reducible assumption) ?_)
    | (with_reducible refine Kept.fst (by with_reducible assumption) ?_)

theorem State.setDac_kept {n : Nat} {code : Nat} {s : State} : Kept 8192 s (State.setDac n code s) := by
  unfold State.setDac
  repeat' first
    | (intro)
    | with_reducible assumption
    | with_reducible exact Kept.refl _ _
    | exact Eq.refl _
    | (with_reducible apply Kept.step State.onLio_kept)

theorem State.aoApply_kept {n : Nat} {f : Int × Nat} {s : State} : Kept 4202502 s (State.aoApply n f s) := by
  unfold State.aoApply
  repeat' first
    | (intro)
    | with_reducible assumption
    | with_reducible exact Kept.refl _ _
    | exact Eq.refl _
    | (with_reducible apply Kept.step State.setDac_kept)
    | (with_reducible apply Kept.step State.wf_kept)

theorem State.modAix_kept {n : Nat} {f : AiX → AiX} {s : State} : Kept 8192 s (State.modAix n f s) := by
  unfold State.modAix
  repeat' first
    | (intro)
    | with_reducible assumption
    | with_reducible exact Kept.refl _ _
    | exact Eq.refl _
    | (with_reducible apply Kept.step State.onLio_kept)

theorem State.aiDerive_kept {n : Nat} {s : State} : Kept 4194310 s (State.aiDerive n s) := by
  have hz : True := trivial
  unfold State.aiDerive
  repeat' first
    | (intro)
    | with_reducible assumption
    | with_reducible exact Kept.refl _ _
    | exact Eq.refl _
    | (extract_lets +onlyGivenNames x
       first
       | (have hx : Kept 4194310 s x := ?_
          clear_value x
          rotate_left
          subst x
          rotate_left)
       | (have hx : Kept 4194310 s x.2 := ?_
          clear_value x
          rotate_left
          subst x
          rotate_left)
       | (have hx : Kept 4194310 s x.1 := ?_
          clear_value x
          rotate_left
          subst x
          rotate_left)
       | (have hz : ∀ y, Kept 4194310 s y → Kept 4194310 s (x y) := ?_
          clear_value x
          rotate_left
          unfold x
          clear x
          rotate_left)
       | (have hz : ∀ a y, Kept 4194310 s y → Kept 4194310 s (x a y) := ?_
          clear_value x
          rotate_left
          unfold x
          clear x
          rotate_left)
       | (have hz : ∀ a b y, Kept 4194310 s y → Kept 4194310 s (x a b y) := ?_
          clear_value x
          rotate_left
          unfold x
          clear x
          rotate_left)
       | (have hz : ∀ a b c y, Kept 4194310 s y → Kept 4194310 s (x a b c y) := ?_
          clear_value x
          rotate_left
          unfold x
          clear x
          rotate_left)
       | (have hz : ∀ a b c d y, Kept 4194310 s y → Kept 4194310 s (x a b c d y) := ?_
          clear_value x
          rotate_left
          unfold x
          clear x
          rotate_left)
       | (have hz : ∀ a, Kept 4194310 s (x a) := ?_
          clear_value x
          rotate_left
          unfold x
          clear x
          rotate_left)
       | (have hz : ∀ a b, Kept 4194310 s (x a b) := ?_
          clear_value x
          rotate_left
          unfold x
          clear x
          rotate_left)
       | (have hz : ∀ a, Kept 4194310 s (x a).2 := ?_
          clear_value x
          rotate_left
          unfold x
          clear x
          rotate_left)
       | (have hz : ∀ a b c, Kept 4194310 s (x a b c).2 := ?_
          clear_value x
          rotate_left
          unfold x
          clear x
          rotate_left)
       | clear_value x)
    | split
    | (with_reducible apply Kept.step State.wf_kept)
    | (with_reducible refine Kept.snd (by with_reducible assumption) ?_)
    | (with_reducible refine Kept.fst (by with_reducible assumption) ?_)
    | (with_reducible apply hz)
    | (with_reducible refine Kept.call (by with_reducible assumption) ?_)
    | (with_reducible refine Kept.call1 (by with_reducible assumption) ?_)

theorem State.aiConfig_kept {m : Nat} {s0 : State} {n : Nat} {f : State → State} {s : State} (h0 : Kept m s0 s) (hm : 4202502 ||| m = m) (hf : ∀ (x0 : State), Kept m s0 x0 → Kept m s0 (f x0)) : Kept m s0 (State.aiConfig n f s) := by
  unfold State.aiConfig
  repeat' first
    | (intro)
    | with_reducible assumption
    | with_reducible exact Kept.refl _ _
    | exact Eq.refl _
    | (with_reducible refine Kept.ofId ?_)
    | (extract_lets +onlyGivenNames x
       first
       | (have hx : Kept m s0 x := ?_
          clear_value x
          rotate_left
          subst x
          rotate_left)
       | clear_value x)
    | split
    | exact lor_sub (by rfl) hm
    | (with_reducible apply Kept.step State.aiDerive_kept)
    | (with_reducible apply Kept.step State.modAix_kept)
    | (with_reducible apply hf)
    | (with_reducible refine Kept.snd (by with_reducible assumption) ?_)
    | (with_reducible refine Kept.fst (by with_reducible assumption) ?_)

theorem State.aiFollow_kept {s : State} : Kept 4194310 s (State.aiFollow s) := by
  unfold State.aiFollow
  repeat' first
    | (intro)
    | with_reducible assumption
    | with_reducible exact Kept.refl _ _
    | exact Eq.refl _
    | split
    | (with_reducible apply Kept.step State.wf_kept)
    | (with_reducible refine Kept.fold ?_ ?_)
    | (with_reducible refine Kept.foldSnd ?_ ?_)
    | (with_reducible refine Kept.foldFst ?_ ?_)
    | (with_reducible refine Kept.snd (by with_reducible assumption) ?_)
    | (with_reducible refine Kept.fst (by with_reducible assumption) ?_)

theorem State.rbCheck_kept {ch : Nat} {s : State} : Kept 4202502 s (State.rbCheck ch s) := by
  unfold State.rbCheck
  repeat' first
    | (intro)
    | with_reducible assumption
    | with_reducible exact Kept.refl _ _
    | exact Eq.refl _
    | split
    | (with_reducible apply Kept.step State.wf_kept)
    | (with_reducible apply Kept.step State.onLio_kept)
    | (with_reducible refine Kept.snd (by with_reducible assumption) ?_)
    | (with_reducible refine Kept.fst (by with_reducible assumption) ?_)

theorem State.setCmd_kept {ch : Nat} {on : Bool} {s : State} : Kept 4202502 s (State.setCmd ch on s) := by
  unfold State.setCmd
  repeat' first
    | (intro)
    | with_reducible assumption
    | with_reducible exact Kept.refl _ _
    | exact Eq.refl _
    | (with_reducible apply Kept.step State.rbCheck_kept)
    | (with_reducible apply Kept.step State.wf_kept)

theorem State.doSwitch_kept {ch : Nat} {on : Bool} {s : State} : Kept 4202502 s (State.doSwitch ch on s) := by
  unfold State.doSwitch
  repeat' first
    | (intro)
    | with_reducible assumption
    | with_reducible exact Kept.refl _ _
    | exact Eq.refl _
    | (extract_lets +onlyGivenNames x
       first
       | (have hx : Kept 4202502 s x := ?_
          clear_value x
          rotate_left
          subst x
          rotate_left)
       | clear_value x)
    | split
    | (with_reducible apply Kept.step State.wf_kept)
    | (with_reducible apply Kept.step State.onLio_kept)
    | (with_reducible refine Kept.snd (by with_reducible assumption) ?_)
    | (with_reducible refine Kept.fst (by with_reducible assumption) ?_)

theorem State.grpJoin_kept {ch : Nat} {s : State} : Kept 4202502 s (State.grpJoin ch s) := by
  unfold State.grpJoin
  repeat' first
    | (intro)
    | with_reducible assumption
    | with_reducible exact Kept.refl _ _
    | exact Eq.refl _
    | (with_reducible apply Kept.step State.wf_kept)
    | (with_reducible apply Kept.step State.onLio_kept)

theorem State.grpLeave_kept {ch : Nat} {s : State} : Kept 4202502 s (State.grpLeave ch s) := by
  unfold State.grpLeave
  repeat' first
    | (intro)
    | with_reducible assumption
    | with_reducible exact Kept.refl _ _
    | exact Eq.refl _
    | (with_reducible apply Kept.step State.wf_kept)
    | (with_reducible apply Kept.step State.onLio_kept)

theorem State.turnOn_kept {ch : Nat} {s : State} : Kept 6823982 s (State.turnOn ch s) := by
  unfold State.turnOn
  repeat' first
    | (intro)
    | with_reducible assumption
    | with_reducible exact Kept.refl _ _
    | exact Eq.refl _
    | (extract_lets +onlyGivenNames x
       first
       | (have hx : Kept 6823982 s x := ?_
          clear_value x
          rotate_left
          subst x
          rotate_left)
       | clear_value x)
    | split
    | (with_reducible apply Kept.step State.grpLeave_kept)
    | (with_reducible apply Kept.step State.grpJoin_kept)
    | (with_reducible apply Kept.step State.doSwitch_kept)
    | (with_reducible apply Kept.step State.lioEvent_kept)
    | (with_reducible apply Kept.step State.bump_kept)
    | (with_reducible refine Kept.snd (by with_reducible assumption) ?_)
    | (with_reducible refine Kept.fst (by with_reducible assumption) ?_)

theorem State.turnOff_kept {ch : Nat} {s : State} : Kept 4202502 s (State.turnOff ch s) := by
  unfold State.turnOff
  repeat' first
    | (intro)
    | with_reducible assumption
    | with_reducible exact Kept.refl _ _
    | exact Eq.refl _
    | split
    | (with_reducible apply Kept.step State.grpLeave_kept)
    | (with_reducible apply Kept.step State.doSwitch_kept)
    | (with_reducible refine Kept.snd (by with_reducible assumption) ?_)
    | (with_reducible refine Kept.fst (by with_reducible assumption) ?_)

theorem State.doCommand_kept {ch : Nat} {on : Bool} {s : State} : Kept 6823982 s (State.doCommand ch on s) := by
  unfold State.doCommand
  repeat' first
    | (intro)
    | with_reducible assumption
    | with_reducible exact Kept.refl _ _
    | exact Eq.refl _
    | split
    | (with_reducible apply Kept.step State.turnOff_kept)
    | (with_reducible apply Kept.step State.turnOn_kept)
    | (with_reducible apply Kept.step State.setCmd_kept)
    | (with_reducible apply Kept.step State.wf_kept)
    | (with_reducible refine Kept.snd (by with_reducible assumption) ?_)
    | (with_reducible refine Kept.fst (by with_reducible assumption) ?_)

theorem State.setPulse_kept {k : Nat} {p : Pulse} {s : State} : Kept 4202502 s (State.setPulse k p s) := by
  unfold State.setPulse
  repeat' first
    | (intro)
    | with_reducible assumption
    | with_reducible exact Kept.refl _ _
    | exact Eq.refl _
    | (with_reducible apply Kept.step State.wf_kept)
    | (with_reducible apply Kept.step State.onLio_kept)

theorem State.pulseCut_kept {k : Nat} {s : State} : Kept 4202502 s (State.pulseCut k s) := by
  unfold State.pulseCut
  repeat' first
    | (intro)
    | with_reducible assumption
    | with_reducible exact Kept.refl _ _
    | exact Eq.refl _
    | (extract_lets +onlyGivenNames x
       first
       | (have hx : Kept 4202502 s x := ?_
          clear_value x
          rotate_left
          subst x
          rotate_left)
       | clear_value x)
    | split
    | (with_reducible apply Kept.step State.setPulse_kept)
    | (with_reducible apply Kept.step State.turnOff_kept)
    | (with_reducible apply Kept.step State.setCmd_kept)
    | (with_reducible refine Kept.snd (by with_reducible assumption) ?_)
    | (with_reducible refine Kept.fst (by with_reducible assumption) ?_)

theorem State.pulseBegin_kept {k : Nat} {s : State} : Kept 6823982 s (State.pulseBegin k s) := by
  unfold State.pulseBegin
  repeat' first
    | (intro)
    | with_reducible assumption
    | with_reducible exact Kept.refl _ _
    | exact Eq.refl _
    | (extract_lets +onlyGivenNames x
       first
       | (have hx : Kept 6823982 s x := ?_
          clear_value x
          rotate_left
          subst x
          rotate_left)
       | clear_value x)
    | split
    | (with_reducible apply Kept.step State.setPulse_kept)
    | (with_reducible apply Kept.step State.turnOn_kept)
    | (with_reducible apply Kept.step State.setCmd_kept)
    | (with_reducible refine Kept.snd (by with_reducible assumption) ?_)
    | (with_reducible refine Kept.fst (by with_reducible assumption) ?_)

theorem State.pulseSettle_kept {k : Nat} {s : State} : Kept 6823982 s (State.pulseSettle k s) := by
  unfold State.pulseSettle
  repeat' first
    | (intro)
    | with_reducible assumption
    | with_reducible exact Kept.refl _ _
    | exact Eq.refl _
    | (extract_lets +onlyGivenNames x
       first
       | (have hx : Kept 6823982 s x := ?_
          clear_value x
          rotate_left
          subst x
          rotate_left)
       | clear_value x)
    | split
    | (with_reducible apply Kept.step State.pulseBegin_kept)
    | (with_reducible apply Kept.step State.pulseCut_kept)
    | (with_reducible refine Kept.snd (by with_reducible assumption) ?_)
    | (with_reducible refine Kept.fst (by with_reducible assumption) ?_)

theorem State.pulseRequest_kept {k : Nat} {d : Nat} {r : Nat} {s : State} : Kept 6823982 s (State.pulseRequest k d r s) := by
  unfold State.pulseRequest
  repeat' first
    | (intro)
    | with_reducible assumption
    | with_reducible exact Kept.refl _ _
    | exact Eq.refl _
    | (extract_lets +onlyGivenNames x
       first
       | (have hx : Kept 6823982 s x := ?_
          clear_value x
          rotate_left
          subst x
          rotate_left)
       | clear_value x)
    | split
    | (with_reducible apply Kept.step State.pulseSettle_kept)
    | (with_reducible apply Kept.step State.pulseBegin_kept)
    | (with_reducible apply Kept.step State.pulseCut_kept)
    | (with_reducible apply Kept.step State.setPulse_kept)
    | (with_reducible apply Kept.step State.bump_kept)
    | (with_reducible refine Kept.snd (by with_reducible assumption) ?_)
    | (with_reducible refine Kept.fst (by with_reducible assumption) ?_)

theorem State.pulseValue_kept {k : Nat} {v : Nat} {f : Int × Nat} {s : State} : Kept 6823982 s (State.pulseValue k v f s) := by
  have hz : True := trivial
  unfold State.pulseValue
  repeat' first
    | (intro)
    | with_reducible assumption
    | with_reducible exact Kept.refl _ _
    | exact Eq.refl _
    | (extract_lets +onlyGivenNames x
       first
       | (have hx : Kept 6823982 s x := ?_
          clear_value x
          rotate_left
          subst x
          rotate_left)
       | (have hz : ∀ y, Kept 6823982 s y → Kept 6823982 s (x y) := ?_
          clear_value x
          rotate_left
          unfold x
          clear x
          rotate_left)
       | (have hz : ∀ a y, Kept 6823982 s y → Kept 6823982 s (x a y) := ?_
          clear_value x
          rotate_left
          unfold x
          clear x
          rotate_left)
       | (have hz : ∀ a b y, Kept 6823982 s y → Kept 6823982 s (x a b y) := ?_
          clear_value x
          rotate_left
          unfold x
          clear x
          rotate_left)
       | (have hz : ∀ a b c y, Kept 6823982 s y → Kept 6823982 s (x a b c y) := ?_
          clear_value x
          rotate_left
          unfold x
          clear x
          rotate_left)
       | clear_value x)
    | split
    | (with_reducible apply Kept.step State.pulseRequest_kept)
    | (with_reducible apply Kept.step State.setPulse_kept)
    | (with_reducible apply Kept.step State.wf_kept)
    | (with_reducible refine Kept.snd (by with_reducible assumption) ?_)
    | (with_reducible refine Kept.fst (by with_reducible assumption) ?_)
    | (with_reducible apply hz)
    | (with_reducible refine Kept.call (by with_reducible assumption) ?_)
    | (with_reducible refine Kept.call1 (by with_reducible assumption) ?_)

theorem State.stageTakes_kept {m : Nat} {s0 : State} {o : Nat} {v : Nat} {f : State → State} {s : State} (h0 : Kept m s0 s) (hm : 6823982 ||| m = m) (hf : ∀ (x0 : State), Kept m s0 x0 → Kept m s0 (f x0)) : Kept m s0 (State.stageTakes o v f s) := by
  unfold State.stageTakes
  repeat' first
    | (intro)
    | with_reducible assumption
    | with_reducible exact Kept.refl _ _
    | exact Eq.refl _
    | (with_reducible refine Kept.ofId ?_)
    | (extract_lets +onlyGivenNames x
       first
       | (have hx : Kept m s0 x := ?_
          clear_value x
          rotate_left
          subst x
          rotate_left)
       | clear_value x)
    | split
    | exact lor_sub (by rfl) hm
    | (with_reducible apply Kept.step State.twinEvent_kept)
    | (with_reducible apply Kept.step State.bump_kept)
    | (with_reducible apply Kept.step State.onLio_kept)
    | (with_reducible apply hf)
    | (with_reducible refine Kept.snd (by with_reducible assumption) ?_)
    | (with_reducible refine Kept.fst (by with_reducible assumption) ?_)

theorem State.outStage_kept {side : Nat} {p : Rec 128} {v : Nat} {s : State} : Kept 6823982 s (State.outStage side p v s) := by
  unfold State.outStage
  repeat' first
    | (intro)
    | with_reducible assumption
    | with_reducible exact Kept.refl _ _
    | exact Eq.refl _
    | (with_reducible refine Kept.ofId ?_)
    | (extract_lets +onlyGivenNames x
       first
       | (have hx : Kept 6823982 s x := ?_
          clear_value x
          rotate_left
          subst x
          rotate_left)
       | clear_value x)
    | split
    | (with_reducible apply State.stageTakes_kept)
    | (with_reducible apply Kept.step State.pulseValue_kept)
    | (with_reducible apply Kept.step State.doCommand_kept)
    | (with_reducible apply Kept.step State.aoApply_kept)
    | (with_reducible refine Kept.snd (by with_reducible assumption) ?_)
    | (with_reducible refine Kept.fst (by with_reducible assumption) ?_)

theorem State.ruleDrive_kept {k : Nat} {ch : Nat} {v : Nat} {s : State} : Kept 6823982 s (State.ruleDrive k ch v s) := by
  unfold State.ruleDrive
  repeat' first
    | (intro)
    | with_reducible assumption
    | with_reducible exact Kept.refl _ _
    | exact Eq.refl _
    | (with_reducible refine Kept.ofId ?_)
    | split
    | (with_reducible apply State.stageTakes_kept)
    | (with_reducible apply Kept.step State.doCommand_kept)
    | (with_reducible apply Kept.step State.setDac_kept)
    | (with_reducible apply Kept.step State.wf_kept)
    | (with_reducible refine Kept.snd (by with_reducible assumption) ?_)
    | (with_reducible refine Kept.fst (by with_reducible assumption) ?_)

theorem State.lrules_kept {s : State} : Kept 6823982 s (State.lrules s) := by
  unfold State.lrules
  repeat' first
    | (intro)
    | with_reducible assumption
    | with_reducible exact Kept.refl _ _
    | exact Eq.refl _
    | (extract_lets +onlyGivenNames x
       first
       | (have hx : Kept 6823982 s x := ?_
          clear_value x
          rotate_left
          subst x
          rotate_left)
       | clear_value x)
    | split
    | (with_reducible apply Kept.step State.ruleDrive_kept)
    | (with_reducible refine Kept.fold ?_ ?_)
    | (with_reducible refine Kept.foldSnd ?_ ?_)
    | (with_reducible refine Kept.foldFst ?_ ?_)
    | (with_reducible refine Kept.snd (by with_reducible assumption) ?_)
    | (with_reducible refine Kept.fst (by with_reducible assumption) ?_)

theorem State.ruleGauge_kept {s : State} : Kept 4194310 s (State.ruleGauge s) := by
  unfold State.ruleGauge
  repeat' first
    | (intro)
    | with_reducible assumption
    | with_reducible exact Kept.refl _ _
    | exact Eq.refl _
    | (with_reducible apply Kept.step State.wf_kept)

end Sys2Proof.Machine
end

