-- ==== Sys2Proof/Laws/KeptHostOps.lean ====
section
/-! SUPPORT. What the operations of Machine/HostOps.lean leave alone. -/

set_option linter.tactic.unusedName false

namespace Sys2Proof.Machine

set_option Elab.async false

theorem State.outBack_kept0 {r : Nat} {b : OutBuf} {s : State} : Kept 14680072 s (State.outBack r b s) := by
  unfold State.outBack
  repeat' first
    | (intro)
    | with_reducible assumption
    | with_reducible exact Kept.refl _ _
    | exact Eq.refl _
    | (extract_lets +onlyGivenNames x
       first
       | (have hx : Kept 14680072 s x := ?_
          clear_value x
          rotate_left
          subst x
          rotate_left)
       | clear_value x)
    | split
    | (with_reducible apply Kept.step State.levelA_kept)
    | (with_reducible apply Kept.step State.signal_kept)
    | (with_reducible apply Kept.step State.modRing_kept)
    | (with_reducible apply Kept.step State.hostPut_kept)
    | (with_reducible apply Kept.step (State.onHif_keptAt ?_))
    | (with_reducible refine Kept.snd (by with_reducible assumption) ?_)
    | (with_reducible refine Kept.fst (by with_reducible assumption) ?_)

theorem State.outBack_out {r : Nat} {b : OutBuf} {s : State} : Out s (State.outBack r b s) := by
  unfold State.outBack
  dsimp only
  refine State.levelA_kept.out_.trans ?_
  generalize s.levelA = s
  split
  · exact Out.refl s
  · rename_i h
    rw [Bool.not_eq_true', Bool.not_eq_false] at h
    have w := isRing_valid h
    refine Out.trans ?_ State.signal_kept.out_
    have h1 : Out s (s.hostPut (fget Ring.BASE (s.ring r) + (b.slot % ringSize (s.ring r)) * 32 + 16) 16
        (b.used % 2 ^ 21 + (fget Ring.LOST (s.ring r)) * 2 ^ 32 + (b.items % 2 ^ 16) * 2 ^ 64 + phaseOf (s.ring r) b.slot * 2 ^ 127)) :=
      Out.hostPut fun a ha hb => Or.inl ⟨_, ring_listed w.1,
        show ringHolds (s.ring r) a from slot_holds b.slot w.1 (Or.inr (Or.inr w.2)) (by omega) (by omega)⟩
    refine (h1.trans (Out.modRing (r := r) (samePlace_fput Ring.LOST 0 _ (by decide)))).trans ?_
    refine Out.fewer rfl (fun _ h => h) (fun _ h => h) fun e he => ?_
    dsimp only at he
    rcases mem_tset he with he | ⟨rfl, -⟩
    · exact Or.inr he
    · exact Or.inl rfl

theorem State.outBack_kept {r : Nat} {b : OutBuf} {s : State} : Kept 6291464 s (State.outBack r b s) :=
  State.outBack_kept0.withOut State.outBack_out rfl

theorem State.outDrop_kept0 {r : Nat} {s : State} : Kept 8388616 s (State.outDrop r s) := by
  unfold State.outDrop
  repeat' first
    | (intro)
    | with_reducible assumption
    | with_reducible exact Kept.refl _ _
    | exact Eq.refl _
    | (with_reducible apply Kept.step State.modRing_kept)

theorem State.outDrop_out {r : Nat} {s : State} : Out s (State.outDrop r s) :=
  Out.setRing (samePlace_fput Ring.LOST _ _ (by decide))

theorem State.outDrop_kept {r : Nat} {s : State} : Kept 8 s (State.outDrop r s) :=
  State.outDrop_kept0.withOut State.outDrop_out rfl

theorem State.outItemN_kept0 {a0 : Nat} {a1 : Nat} {a2 : Nat} {a3 : Nat} {a4 : State} : Kept 15204408 a4 (State.outItemN a0 a1 a2 a3 a4) := by
  induction a0 generalizing a1 a2 a3 a4 with
  | zero =>
    unfold State.outItemN
    repeat' first
      | (intro)
      | with_reducible assumption
      | with_reducible exact Kept.refl _ _
      | exact Eq.refl _
      | (extract_lets +onlyGivenNames x
         first
         | (have hx : Kept 15204408 a4 x := ?_
            clear_value x
            rotate_left
            subst x
            rotate_left)
         | clear_value x)
      | split
      | (with_reducible apply Kept.step State.outDrop_kept)
      | (with_reducible apply Kept.step State.outBack_kept)
      | (with_reducible apply Kept.step State.denied_kept)
      | (with_reducible apply Kept.step State.hostPut_kept)
      | (with_reducible apply Kept.step (State.onHif_keptAt ?_))
      | (with_reducible apply Kept.step ih)
      | (with_reducible refine Kept.snd (by with_reducible assumption) ?_)
      | (with_reducible refine Kept.fst (by with_reducible assumption) ?_)

  | succ n ih =>
    unfold State.outItemN
    repeat' first
      | (intro)
      | with_reducible assumption
      | with_reducible exact Kept.refl _ _
      | exact Eq.refl _
      | (extract_lets +onlyGivenNames x
         first
         | (have hx : Kept 15204408 a4 x := ?_
            clear_value x
            rotate_left
            subst x
            rotate_left)
         | clear_value x)
      | split
      | (with_reducible apply Kept.step State.outDrop_kept)
      | (with_reducible apply Kept.step State.outBack_kept)
      | (with_reducible apply Kept.step State.denied_kept)
      | (with_reducible apply Kept.step State.hostPut_kept)
      | (with_reducible apply Kept.step (State.onHif_keptAt ?_))
      | (with_reducible apply Kept.step ih)
      | (with_reducible refine Kept.snd (by with_reducible assumption) ?_)
      | (with_reducible refine Kept.fst (by with_reducible assumption) ?_)

theorem State.outItemN_out {fuel r v n : Nat} {s : State} : Out s (State.outItemN fuel r v n s) := by
  induction fuel generalizing s with
  | zero => exact State.outDrop_out
  | succ fuel ih =>
    unfold State.outItemN
    dsimp only
    split
    · exact State.outDrop_out
    · split
      · rename_i b e
        have hb : (r, some b) ∈ s.hif.outBuf := e ▸ tget_mem (d := none) (by rw [e]; exact Option.some_ne_none b)
        split
        · rename_i hu
          refine Out.trans (t := s.hostPut (b.addr + b.used) ((4 + n + 7) / 8 * 8) (n % 2 ^ 32 + (v % 2 ^ (8 * n)) * 2 ^ 32))
            (Out.hostPut fun a ha hc => Or.inr (Or.inr (Or.inr ⟨_, hb, b, rfl, by omega, by omega⟩))) ?_
          refine Out.places ?_ ?_ ?_ ?_ ?_ <;> dsimp only [State.onHif, State.hostPut]
          · exact fun _ h => h
          · intro x hx
            rcases mem_tset hx with hx | ⟨rfl, -⟩
            · exact Or.inl hx
            · right
              rintro _ ⟨⟩ a h1 h2
              exact Or.inr (Or.inr (Or.inr ⟨_, hb, b, rfl, h1, h2⟩))
        · split
          · exact State.outDrop_out
          · exact State.outBack_out.trans ih
      · split
        · exact State.outDrop_out
        · rename_i p e
          have hp : p ∈ s.hif.posted := List.mem_of_find?_eq_some e
          have h1 : Out s (s.onHif fun h => { h with posted := h.posted.erase p }) :=
            Out.fewer rfl (fun _ h => h) (fun _ h => List.mem_of_mem_erase h) fun _ h => Or.inr h
          split
          · exact ((h1.trans State.denied_kept.out_).trans State.outBack_out).trans ih
          · refine Out.trans ?_ ih
            refine Out.places ?_ ?_ ?_ ?_ ?_ <;> dsimp only [State.onHif]
            · exact fun _ h => List.mem_of_mem_erase h
            · intro x hx
              rcases mem_tset hx with hx | ⟨rfl, -⟩
              · exact Or.inl hx
              · right
                rintro _ ⟨⟩ a h1 h2
                exact Or.inr (Or.inr (Or.inl ⟨p, hp, h1, h2⟩))

theorem State.outItemN_kept {a0 : Nat} {a1 : Nat} {a2 : Nat} {a3 : Nat} {a4 : State} : Kept 6815800 a4 (State.outItemN a0 a1 a2 a3 a4) :=
  State.outItemN_kept0.withOut State.outItemN_out rfl

theorem State.outItem_kept {r : Nat} {v : Nat} {n : Nat} {s : State} : Kept 6815800 s (State.outItem r v n s) := by
  unfold State.outItem
  repeat' first
    | (intro)
    | with_reducible assumption
    | with_reducible exact Kept.refl _ _
    | exact Eq.refl _
    | (with_reducible apply Kept.step State.outItemN_kept)
    | (with_reducible apply Kept.step State.levelA_kept)

theorem State.outSlot_kept {src : Nat} {def_ : Nat} {v : Nat} {n : Nat} {s : State} : Kept 6815800 s (State.outSlot src def_ v n s) := by
  unfold State.outSlot
  repeat' first
    | (intro)
    | with_reducible assumption
    | with_reducible exact Kept.refl _ _
    | exact Eq.refl _
    | (with_reducible apply Kept.step State.outItem_kept)
    | (with_reducible refine Kept.fold ?_ ?_)
    | (with_reducible refine Kept.foldSnd ?_ ?_)
    | (with_reducible refine Kept.foldFst ?_ ?_)

theorem State.unmapRing_kept {r : Nat} {s : State} : Kept 4194304 s (State.unmapRing r s) := by
  unfold State.unmapRing
  repeat' first
    | (intro)
    | with_reducible assumption
    | with_reducible exact Kept.refl _ _
    | exact Eq.refl _
    | (extract_lets +onlyGivenNames x
       first
       | (have hx : Kept 4194304 s x := ?_
          clear_value x
          rotate_left
          subst x
          rotate_left)
       | clear_value x)
    | split
    | (with_reducible apply Kept.step (State.wf_closing ?_))
    | exact closingReg_high (Nat.le_trans (by decide) (Nat.le_add_right _ _))
    | (with_reducible refine Kept.fold ?_ ?_)
    | (with_reducible refine Kept.foldSnd ?_ ?_)
    | (with_reducible refine Kept.foldFst ?_ ?_)
    | (with_reducible refine Kept.snd (by with_reducible assumption) ?_)
    | (with_reducible refine Kept.fst (by with_reducible assumption) ?_)

theorem State.ringGone_kept0 {r : Nat} {s : State} : Kept 12582920 s (State.ringGone r s) := by
  unfold State.ringGone
  repeat' first
    | (intro)
    | with_reducible assumption
    | with_reducible exact Kept.refl _ _
    | exact Eq.refl _
    | (extract_lets +onlyGivenNames x
       first
       | (have hx : Kept 12582920 s x := ?_
          clear_value x
          rotate_left
          subst x
          rotate_left)
       | clear_value x)
    | split
    | (with_reducible apply Kept.step State.unmapRing_kept)
    | (with_reducible apply Kept.step State.setRing_kept)
    | (with_reducible apply Kept.step (State.drop_closing ?_))
    | (with_reducible apply Kept.step (State.wf_closing ?_))
    | (with_reducible apply Kept.step (State.onHif_keptAt ?_))
    | exact closingReg_high (Nat.le_trans (by decide) (Nat.le_add_right _ _))
    | (with_reducible refine Kept.snd (by with_reducible assumption) ?_)
    | (with_reducible refine Kept.fst (by with_reducible assumption) ?_)

theorem ringClear_out (r : Nat) (z : State) : Out z (z.onHif fun h => { h with
      backlog := h.backlog.filter fun e => e.1 != r, held := h.held.filter fun e => e.1 != r
      lostSeq := tset (0, 0) h.lostSeq r (0, 0), coalAt := tset 0 h.coalAt r 0, outPend := tset 0 h.outPend r 0
      posted := h.posted.filter fun p => p.1 != r, outBuf := tset none h.outBuf r none, cache := h.cache.filter fun k => k != r }) := by
  refine Out.fewer rfl (fun _ h => h) (fun e he => ?_) fun e he => ?_
  · dsimp only at he
    exact (List.mem_filter.1 he).1
  · dsimp only at he
    rcases mem_tset he with he | ⟨rfl, -⟩
    · exact Or.inr he
    · exact Or.inl rfl

theorem State.ringGone_out {r : Nat} {s : State} : Out s (State.ringGone r s) := by
  unfold State.ringGone
  dsimp only
  split
  · exact Out.refl s
  · refine Out.trans ?_ (State.wf_kept (f := Reg.HIF_BACKLOG_USED.COUNT)).out_
    refine Out.trans ?_ (ringClear_out r _)
    · have z (u : State) : Out u (u.setRing r 0) := by
        refine Out.fewer rfl (fun e he => ?_) (fun _ h => h) fun _ h => Or.inr h
        dsimp only at he
        exact (mem_tset he).elim id fun h => absurd rfl (And.right h)
      have d (u : State) : Out u ((u.drop (Reg.HIF_FN.FN_RINGS (fget Ring.FUNC (s.ring r)))).setRing r 0) :=
        (State.drop_kept (f := Reg.HIF_FN.FN_RINGS _)).out_.trans (z _)
      split
      · refine Out.trans ?_ (State.drop_kept (f := Reg.HIF_PIN_USED.COUNT)).out_
        refine Out.trans ?_ (d _)
        split
        · exact State.unmapRing_kept.out_
        · exact Out.refl s
      · refine Out.trans ?_ (d _)
        split
        · exact State.unmapRing_kept.out_
        · exact Out.refl s

theorem State.ringGone_kept {r : Nat} {s : State} : Kept 4194312 s (State.ringGone r s) :=
  State.ringGone_kept0.withOut State.ringGone_out rfl

theorem State.deletesDone_kept {s : State} : Kept 6291464 s (State.deletesDone s) := by
  unfold State.deletesDone
  repeat' first
    | (intro)
    | with_reducible assumption
    | with_reducible exact Kept.refl _ _
    | exact Eq.refl _
    | split
    | (with_reducible apply Kept.step State.ringGone_kept)
    | (with_reducible apply Kept.step State.finishCmd_kept)
    | (with_reducible apply Kept.step (State.onHif_kept' ?_))
    | (with_reducible refine Kept.fold ?_ ?_)
    | (with_reducible refine Kept.foldSnd ?_ ?_)
    | (with_reducible refine Kept.foldFst ?_ ?_)
    | (with_reducible refine Kept.snd (by with_reducible assumption) ?_)
    | (with_reducible refine Kept.fst (by with_reducible assumption) ?_)

end Sys2Proof.Machine
end

