-- ==== Sys2Proof/Laws/KeptLedger.lean ====
section
/-! SUPPORT. What the operations of Machine/Ledger.lean leave alone. -/

set_option linter.tactic.unusedName false

namespace Sys2Proof.Machine

set_option Elab.async false

theorem State.setVol_kept {v : Nat} {x : Option Vol} {s : State} : Kept 64 s (State.setVol v x s) := by
  unfold State.setVol
  repeat' first
    | (intro)
    | with_reducible assumption
    | with_reducible exact Kept.refl _ _
    | exact Eq.refl _
    | (with_reducible apply Kept.step State.onHst_kept)

theorem State.modVol_kept {v : Nat} {f : Vol → Vol} {s : State} : Kept 64 s (State.modVol v f s) := by
  unfold State.modVol
  repeat' first
    | (intro)
    | with_reducible assumption
    | with_reducible exact Kept.refl _ _
    | exact Eq.refl _
    | (with_reducible apply Kept.step State.setVol_kept)

theorem State.rotate_kept {s : State} : Kept 6815784 s (State.rotate s) := by
  unfold State.rotate
  repeat' first
    | (intro)
    | with_reducible assumption
    | with_reducible exact Kept.refl _ _
    | exact Eq.refl _
    | (extract_lets +onlyGivenNames x
       first
       | (have hx : Kept 6815784 s x := ?_
          clear_value x
          rotate_left
          subst x
          rotate_left)
       | clear_value x)
    | split
    | (with_reducible apply Kept.step State.dirtyMod_kept)
    | (with_reducible apply Kept.step State.raise_kept)
    | (with_reducible apply Kept.step (State.wf_closing ?_))
    | (with_reducible apply Kept.step (State.onLdg_kept ?_))
    | exact closingReg_high (Nat.le_trans (by decide) (Nat.le_add_right _ _))
    | (with_reducible refine Kept.snd (by with_reducible assumption) ?_)
    | (with_reducible refine Kept.fst (by with_reducible assumption) ?_)

theorem State.nvAdd_kept {c : NvCmd} {s : State} : Kept 64 s (State.nvAdd c s) := by
  unfold State.nvAdd
  repeat' first
    | (intro)
    | with_reducible assumption
    | with_reducible exact Kept.refl _ _
    | exact Eq.refl _
    | (with_reducible apply Kept.step State.onHst_kept)

theorem State.volEmit_kept {v : Nat} {fl : Nat} {fro : Nat} {s : State} : Kept 64 s (State.volEmit v fl fro s) := by
  unfold State.volEmit
  repeat' first
    | (intro)
    | with_reducible assumption
    | with_reducible exact Kept.refl _ _
    | exact Eq.refl _
    | split
    | (with_reducible apply Kept.step State.nvAdd_kept)
    | (with_reducible apply Kept.step State.modVol_kept)
    | (with_reducible refine Kept.fold ?_ ?_)
    | (with_reducible refine Kept.foldSnd ?_ ?_)
    | (with_reducible refine Kept.foldFst ?_ ?_)
    | (with_reducible refine Kept.snd (by with_reducible assumption) ?_)
    | (with_reducible refine Kept.fst (by with_reducible assumption) ?_)

theorem State.volBegin_kept {v : Nat} {s : State} : Kept 64 s (State.volBegin v s) := by
  unfold State.volBegin
  repeat' first
    | (intro)
    | with_reducible assumption
    | with_reducible exact Kept.refl _ _
    | exact Eq.refl _
    | (with_reducible apply Kept.step State.modVol_kept)

theorem State.volClose_kept {v : Nat} {s : State} : Kept 64 s (State.volClose v s) := by
  unfold State.volClose
  repeat' first
    | (intro)
    | with_reducible assumption
    | with_reducible exact Kept.refl _ _
    | exact Eq.refl _
    | split
    | (with_reducible apply Kept.step State.nvAdd_kept)
    | (with_reducible apply Kept.step State.modVol_kept)
    | (with_reducible refine Kept.fold ?_ ?_)
    | (with_reducible refine Kept.foldSnd ?_ ?_)
    | (with_reducible refine Kept.foldFst ?_ ?_)
    | (with_reducible refine Kept.snd (by with_reducible assumption) ?_)
    | (with_reducible refine Kept.fst (by with_reducible assumption) ?_)

theorem State.volSlots_kept {v : Nat} {fl : Nat} {a2 : Nat} {a3 : List (LRec × Nat)} {a4 : State} : Kept 64 a4 (State.volSlots v fl a2 a3 a4).1 := by
  induction a3 generalizing a2 a4 with
  | nil =>
    unfold State.volSlots
    repeat' first
      | (intro)
      | with_reducible assumption
      | with_reducible exact Kept.refl _ _
      | exact Eq.refl _
      | (extract_lets +onlyGivenNames x
         first
         | (have hx : Kept 64 a4 x := ?_
            clear_value x
            rotate_left
            subst x
            rotate_left)
         | clear_value x)
      | split
      | (with_reducible apply Kept.step State.volClose_kept)
      | (with_reducible apply Kept.step State.volBegin_kept)
      | (with_reducible apply Kept.step State.volEmit_kept)
      | (with_reducible apply Kept.step State.modVol_kept)
      | (with_reducible apply Kept.step ih)
      | (with_reducible refine Kept.snd (by with_reducible assumption) ?_)
      | (with_reducible refine Kept.fst (by with_reducible assumption) ?_)

  | cons e es ih =>
    unfold State.volSlots
    repeat' first
      | (intro)
      | with_reducible assumption
      | with_reducible exact Kept.refl _ _
      | exact Eq.refl _
      | (extract_lets +onlyGivenNames x
         first
         | (have hx : Kept 64 a4 x := ?_
            clear_value x
            rotate_left
            subst x
            rotate_left)
         | clear_value x)
      | split
      | (with_reducible apply Kept.step State.volClose_kept)
      | (with_reducible apply Kept.step State.volBegin_kept)
      | (with_reducible apply Kept.step State.volEmit_kept)
      | (with_reducible apply Kept.step State.modVol_kept)
      | (with_reducible apply Kept.step ih)
      | (with_reducible refine Kept.snd (by with_reducible assumption) ?_)
      | (with_reducible refine Kept.fst (by with_reducible assumption) ?_)

theorem State.volFlush_kept {v : Nat} {fl : Nat} {rs : List (LRec × Nat)} {s : State} : Kept 64 s (State.volFlush v fl rs s).1 := by
  unfold State.volFlush
  repeat' first
    | (intro)
    | with_reducible assumption
    | with_reducible exact Kept.refl _ _
    | exact Eq.refl _
    | (with_reducible apply Kept.step State.volSlots_kept)

theorem State.dropCheck_kept {s : State} : Kept 4194304 s (State.dropCheck s) := by
  unfold State.dropCheck
  repeat' first
    | (intro)
    | with_reducible assumption
    | with_reducible exact Kept.refl _ _
    | exact Eq.refl _
    | split
    | (with_reducible apply Kept.step (State.wf_closing ?_))
    | exact closingReg_high (Nat.le_trans (by decide) (Nat.le_add_right _ _))
    | (with_reducible refine Kept.snd (by with_reducible assumption) ?_)
    | (with_reducible refine Kept.fst (by with_reducible assumption) ?_)

theorem State.flushWritten_kept {fl : Nat} {s : State} : Kept 6291496 s (State.flushWritten fl s) := by
  unfold State.flushWritten
  repeat' first
    | (intro)
    | with_reducible assumption
    | with_reducible exact Kept.refl _ _
    | exact Eq.refl _
    | split
    | (with_reducible apply Kept.step State.dropCheck_kept)
    | (with_reducible apply Kept.step State.bufGauge_kept)
    | (with_reducible apply Kept.step State.finishCmd_kept)
    | (with_reducible apply Kept.step (State.onLdg_kept ?_))
    | (with_reducible refine Kept.fold ?_ ?_)
    | (with_reducible refine Kept.foldSnd ?_ ?_)
    | (with_reducible refine Kept.foldFst ?_ ?_)
    | (with_reducible refine Kept.snd (by with_reducible assumption) ?_)
    | (with_reducible refine Kept.fst (by with_reducible assumption) ?_)

theorem State.slotsOut_kept {l : List (LRec × Nat)} {s : State} : Kept 6815800 s (State.slotsOut l s) := by
  unfold State.slotsOut
  repeat' first
    | (intro)
    | with_reducible assumption
    | with_reducible exact Kept.refl _ _
    | exact Eq.refl _
    | (with_reducible apply Kept.step State.outSlot_kept)
    | (with_reducible refine Kept.fold ?_ ?_)
    | (with_reducible refine Kept.foldSnd ?_ ?_)
    | (with_reducible refine Kept.foldFst ?_ ?_)

theorem State.flushTo_kept {v : Nat} {s : State} : Kept 6815864 s (State.flushTo v s) := by
  unfold State.flushTo
  repeat' first
    | (intro)
    | with_reducible assumption
    | with_reducible exact Kept.refl _ _
    | exact Eq.refl _
    | (with_reducible apply Kept.step State.slotsOut_kept)
    | (with_reducible apply Kept.step State.flushWritten_kept)
    | (with_reducible apply Kept.step State.volFlush_kept)
    | (with_reducible apply Kept.step (State.bump_closing ?_))
    | (with_reducible apply Kept.step (State.wf_closing ?_))
    | (with_reducible apply Kept.step (State.onLdg_kept ?_))
    | exact closingReg_high (Nat.le_trans (by decide) (Nat.le_add_right _ _))

theorem State.spoolFlush_kept {s : State} : Kept 6815800 s (State.spoolFlush s) := by
  unfold State.spoolFlush
  repeat' first
    | (intro)
    | with_reducible assumption
    | with_reducible exact Kept.refl _ _
    | exact Eq.refl _
    | split
    | (with_reducible apply Kept.step State.slotsOut_kept)
    | (with_reducible apply Kept.step State.flushWritten_kept)
    | (with_reducible apply Kept.step State.raise_kept)
    | (with_reducible apply Kept.step State.spoolTake_kept)
    | (with_reducible apply Kept.step State.bufGauge_kept)
    | (with_reducible apply Kept.step (State.bump_closing ?_))
    | (with_reducible apply Kept.step (State.wf_closing ?_))
    | (with_reducible apply Kept.step (State.onLdg_kept ?_))
    | exact closingReg_high (Nat.le_trans (by decide) (Nat.le_add_right _ _))
    | (with_reducible refine Kept.fold ?_ ?_)
    | (with_reducible refine Kept.foldSnd ?_ ?_)
    | (with_reducible refine Kept.foldFst ?_ ?_)
    | (with_reducible refine Kept.snd (by with_reducible assumption) ?_)
    | (with_reducible refine Kept.fst (by with_reducible assumption) ?_)

theorem State.ledgerFlush_kept {s : State} : Kept 6815864 s (State.ledgerFlush s) := by
  unfold State.ledgerFlush
  repeat' first
    | (intro)
    | with_reducible assumption
    | with_reducible exact Kept.refl _ _
    | exact Eq.refl _
    | (extract_lets +onlyGivenNames x
       first
       | (have hx : Kept 6815864 s x := ?_
          clear_value x
          rotate_left
          subst x
          rotate_left)
       | clear_value x)
    | split
    | (with_reducible apply Kept.step State.spoolFlush_kept)
    | (with_reducible apply Kept.step State.flushTo_kept)
    | (with_reducible apply Kept.step State.rotate_kept)
    | (with_reducible apply Kept.step (State.onLdg_kept ?_))
    | (with_reducible refine Kept.snd (by with_reducible assumption) ?_)
    | (with_reducible refine Kept.fst (by with_reducible assumption) ?_)

theorem State.settle_kept {s : State} : Kept 7864440 s (State.settle s) := by
  unfold State.settle
  repeat' first
    | (intro)
    | with_reducible assumption
    | with_reducible exact Kept.refl _ _
    | exact Eq.refl _
    | (extract_lets +onlyGivenNames x
       first
       | (have hx : Kept 7864440 s x := ?_
          clear_value x
          rotate_left
          subst x
          rotate_left)
       | clear_value x)
    | split
    | (with_reducible apply Kept.step State.ledgerFlush_kept)
    | (with_reducible apply Kept.step State.deletesDone_kept)
    | (with_reducible apply Kept.step State.liveDue_kept)
    | (with_reducible refine Kept.snd (by with_reducible assumption) ?_)
    | (with_reducible refine Kept.fst (by with_reducible assumption) ?_)

theorem State.done_kept {s : State} : KeptO 7864440 s (State.done s) := by
  unfold State.done
  repeat' first
    | (intro)
    | with_reducible assumption
    | with_reducible exact Kept.refl _ _
    | exact Eq.refl _
    | (with_reducible refine KeptO.next ?_)
    | (with_reducible apply Kept.step State.settle_kept)

theorem State.flushBack_kept {fls : List Nat} {s : State} : Kept 32 s (State.flushBack fls s) := by
  unfold State.flushBack
  repeat' first
    | (intro)
    | with_reducible assumption
    | with_reducible exact Kept.refl _ _
    | exact Eq.refl _
    | (extract_lets +onlyGivenNames x
       first
       | (have hx : Kept 32 s x := ?_
          clear_value x
          rotate_left
          subst x
          rotate_left)
       | clear_value x)
    | split
    | (with_reducible apply Kept.step (State.onLdg_kept ?_))
    | (with_reducible refine Kept.snd (by with_reducible assumption) ?_)
    | (with_reducible refine Kept.fst (by with_reducible assumption) ?_)

theorem State.tripTrigger_kept {t : Nat} {s : State} : Kept 6815790 s (State.tripTrigger t s) := by
  unfold State.tripTrigger
  repeat' first
    | (intro)
    | with_reducible assumption
    | with_reducible exact Kept.refl _ _
    | exact Eq.refl _
    | split
    | (with_reducible apply Kept.step State.raise_kept)
    | (with_reducible apply Kept.step State.tripTake_kept)
    | (with_reducible apply Kept.step State.wf_kept)
    | (with_reducible apply Kept.step (State.onLdg_kept ?_))
    | (with_reducible refine Kept.fold ?_ ?_)
    | (with_reducible refine Kept.foldSnd ?_ ?_)
    | (with_reducible refine Kept.foldFst ?_ ?_)
    | (with_reducible refine Kept.snd (by with_reducible assumption) ?_)
    | (with_reducible refine Kept.fst (by with_reducible assumption) ?_)

theorem ldgFlushBody_kept {c : Cmd} {s : State} : Kept 6815864 s (ldgFlushBody c s).2 := by
  unfold ldgFlushBody
  repeat' first
    | (intro)
    | with_reducible assumption
    | with_reducible exact Kept.refl _ _
    | exact Eq.refl _
    | (extract_lets +onlyGivenNames x
       first
       | (have hx : Kept 6815864 s x := ?_
          clear_value x
          rotate_left
          subst x
          rotate_left)
       | clear_value x)
    | split
    | (with_reducible apply Kept.step State.ledgerFlush_kept)
    | (with_reducible apply Kept.step (State.onLdg_kept ?_))
    | (with_reducible refine Kept.snd (by with_reducible assumption) ?_)
    | (with_reducible refine Kept.fst (by with_reducible assumption) ?_)

theorem bodyLdgFlush_kept {c : Cmd} {a1 : State} : Kept 6815864 a1 (bodyLdgFlush c a1).2 := by
  unfold bodyLdgFlush
  repeat' first
    | (intro)
    | with_reducible assumption
    | with_reducible exact Kept.refl _ _
    | exact Eq.refl _
    | (with_reducible apply Kept.step ldgFlushBody_kept)

theorem execLdgFlush_kept {t : Nat} {c : Cmd} {s : State} : KeptO 7865727 s (execLdgFlush t c s) := by
  unfold execLdgFlush
  repeat' first
    | (intro)
    | with_reducible assumption
    | with_reducible exact Kept.refl _ _
    | exact Eq.refl _
    | (with_reducible refine Kept.ofId ?_)
    | (with_reducible refine KeptO.next ?_)
    | (with_reducible apply Kept.step bodyLdgFlush_kept)
    | (with_reducible apply KeptO.lift State.done_kept)
    | (with_reducible apply State.command_kept)

theorem bodyLdgTripStop_kept {_c : Cmd} {a1 : State} : Kept 4194310 a1 (bodyLdgTripStop _c a1).2 := by
  unfold bodyLdgTripStop
  repeat' first
    | (intro)
    | with_reducible assumption
    | with_reducible exact Kept.refl _ _
    | exact Eq.refl _
    | (with_reducible refine Kept.ofId ?_)
    | (with_reducible apply okWith_kept)
    | (with_reducible apply Kept.step State.wf_kept)

theorem execLdgTripStop_kept {t : Nat} {c : Cmd} {s : State} : KeptO 7865727 s (execLdgTripStop t c s) := by
  unfold execLdgTripStop
  repeat' first
    | (intro)
    | with_reducible assumption
    | with_reducible exact Kept.refl _ _
    | exact Eq.refl _
    | (with_reducible refine Kept.ofId ?_)
    | (with_reducible refine KeptO.next ?_)
    | (with_reducible apply Kept.step bodyLdgTripStop_kept)
    | (with_reducible apply KeptO.lift State.done_kept)
    | (with_reducible apply State.command_kept)

theorem bodyLdgTripTrigger_kept {_c : Cmd} {a1 : State} : Kept 6815790 a1 (bodyLdgTripTrigger _c a1).2 := by
  unfold bodyLdgTripTrigger
  repeat' first
    | (intro)
    | with_reducible assumption
    | with_reducible exact Kept.refl _ _
    | exact Eq.refl _
    | (with_reducible apply Kept.step State.tripTrigger_kept)

theorem execLdgTripTrigger_kept {t : Nat} {c : Cmd} {s : State} : KeptO 7865727 s (execLdgTripTrigger t c s) := by
  unfold execLdgTripTrigger
  repeat' first
    | (intro)
    | with_reducible assumption
    | with_reducible exact Kept.refl _ _
    | exact Eq.refl _
    | (with_reducible refine Kept.ofId ?_)
    | (with_reducible refine KeptO.next ?_)
    | (with_reducible apply Kept.step bodyLdgTripTrigger_kept)
    | (with_reducible apply KeptO.lift State.done_kept)
    | (with_reducible apply State.command_kept)

theorem bodyLdgTripRead_kept {c : Cmd} {a1 : State} : Kept 14680072 a1 (bodyLdgTripRead c a1).2 := by
  unfold bodyLdgTripRead
  repeat' first
    | (intro)
    | with_reducible assumption
    | with_reducible exact Kept.refl _ _
    | exact Eq.refl _
    | (with_reducible apply Kept.step State.bufPut_kept)

theorem execLdgTripRead_kept {t : Nat} {c : Cmd} {s : State} : KeptO 16254335 s (execLdgTripRead t c s) := by
  unfold execLdgTripRead
  repeat' first
    | (intro)
    | with_reducible assumption
    | with_reducible exact Kept.refl _ _
    | exact Eq.refl _
    | (with_reducible refine Kept.ofId ?_)
    | (with_reducible refine KeptO.next ?_)
    | (with_reducible apply Kept.step bodyLdgTripRead_kept)
    | (with_reducible apply KeptO.lift State.done_kept)
    | (with_reducible apply State.command_kept)

theorem execLedgerAgeFlush_kept {t : Nat} {s : State} : KeptO 7865721 s (execLedgerAgeFlush t s) := by
  unfold execLedgerAgeFlush
  repeat' first
    | (intro)
    | with_reducible assumption
    | with_reducible exact Kept.refl _ _
    | exact Eq.refl _
    | (extract_lets +onlyGivenNames x
       first
       | (have hx : Kept 7865721 s x := ?_
          clear_value x
          rotate_left
          subst x
          rotate_left)
       | clear_value x)
    | split
    | (with_reducible refine KeptO.next ?_)
    | (with_reducible apply KeptO.lift State.done_kept)
    | (with_reducible apply Kept.step State.ledgerFlush_kept)
    | (with_reducible apply Kept.step State.at__kept)
    | (with_reducible refine Kept.snd (by with_reducible assumption) ?_)
    | (with_reducible refine Kept.fst (by with_reducible assumption) ?_)

theorem execLshipLedgerPass_kept {t : Nat} {s : State} : KeptO 7865721 s (execLshipLedgerPass t s) := by
  unfold execLshipLedgerPass
  repeat' first
    | (intro)
    | with_reducible assumption
    | with_reducible exact Kept.refl _ _
    | exact Eq.refl _
    | (extract_lets +onlyGivenNames x
       first
       | (have hx : Kept 7865721 s x := ?_
          clear_value x
          rotate_left
          subst x
          rotate_left)
       | clear_value x)
    | split
    | (with_reducible refine KeptO.next ?_)
    | (with_reducible apply KeptO.lift State.done_kept)
    | (with_reducible apply Kept.step State.lshipFlush_kept)
    | (with_reducible apply Kept.step State.raise_kept)
    | (with_reducible apply Kept.step State.bufTake_kept)
    | (with_reducible apply Kept.step State.at__kept)
    | (with_reducible apply Kept.step (State.onLdg_kept ?_))
    | (with_reducible refine Kept.fold ?_ ?_)
    | (with_reducible refine Kept.foldSnd ?_ ?_)
    | (with_reducible refine Kept.foldFst ?_ ?_)
    | (with_reducible refine Kept.snd (by with_reducible assumption) ?_)
    | (with_reducible refine Kept.fst (by with_reducible assumption) ?_)

theorem execSpoolReplay_kept {t : Nat} {s : State} : KeptO 7865727 s (execSpoolReplay t s) := by
  unfold execSpoolReplay
  repeat' first
    | (intro)
    | with_reducible assumption
    | with_reducible exact Kept.refl _ _
    | exact Eq.refl _
    | (extract_lets +onlyGivenNames x
       first
       | (have hx : Kept 7865727 s x := ?_
          clear_value x
          rotate_left
          subst x
          rotate_left)
       | clear_value x)
    | split
    | (with_reducible refine KeptO.next ?_)
    | (with_reducible apply KeptO.lift State.done_kept)
    | (with_reducible apply Kept.step State.volFlush_kept)
    | (with_reducible apply Kept.step State.at__kept)
    | (with_reducible apply Kept.step State.wf_kept)
    | (with_reducible apply Kept.step (State.onLdg_kept ?_))
    | (with_reducible refine Kept.snd (by with_reducible assumption) ?_)
    | (with_reducible refine Kept.fst (by with_reducible assumption) ?_)

end Sys2Proof.Machine
end

