-- ==== Sys2Proof/Laws/Command.lean ====
section
/-! SUPPORT. How a host command runs: the checks, then its effect on the state at its instant, then the completion and the closing
pass; and what these leave alone. -/

namespace Sys2Proof.Machine

/-- Checks that pass change nothing. -/
theorem preCheck_passed {sp : Spec} {c : Cmd} {s : State} (h : (s.preCheck sp c).1 = none) : (s.preCheck sp c).2 = s := by
  revert h
  unfold State.preCheck
  extract_lets fn sec
  split
  · intro h
    cases h
  · extract_lets blk twinAt
    repeat' split
    all_goals (intro h; first | rfl | cases h)

theorem preCheck_eq {sp : Spec} {c : Cmd} {s : State} (h : (s.preCheck sp c).1 = none) : s.preCheck sp c = (none, s) :=
  Prod.ext h (preCheck_passed h)

/-- An accepted command whose effect answers a reply. -/
theorem command_completes {t : Nat} {sp : State → Spec} {c : Cmd} {s v : State} {i : Infl} {r : Reply}
    {body : State → Option Reply × State} (a : Accepted t sp c s i) (b : body (s.at_ t) = (some r, v)) :
    s.command t sp c body = v.reply i r := by
  unfold State.command
  simp only [a.1, preCheck_eq a.2, b]

/-- An accepted command that stays in flight. -/
theorem command_stays {t : Nat} {sp : State → Spec} {c : Cmd} {s v : State} {i : Infl}
    {body : State → Option Reply × State} (a : Accepted t sp c s i) (b : body (s.at_ t) = (none, v)) :
    s.command t sp c body = v.holdCmd i := by
  unfold State.command
  simp only [a.1, preCheck_eq a.2, b]

/-- A command that a check refuses. -/
theorem command_refused {t : Nat} {sp : State → Spec} {c : Cmd} {s u : State} {i : Infl} {r : Reply}
    {body : State → Option Reply × State} (d : (s.at_ t).dispatchable (sp (s.at_ t)) c = some i)
    (p : (s.at_ t).preCheck (sp (s.at_ t)) c = (some r, u)) : s.command t sp c body = u.reply i r := by
  unfold State.command
  simp only [d, p]

/-- A command that is not the next of its ring. -/
theorem command_idle {t : Nat} {sp : State → Spec} {c : Cmd} {s : State} {body : State → Option Reply × State}
    (d : (s.at_ t).dispatchable (sp (s.at_ t)) c = none) : s.command t sp c body = s := by
  unfold State.command
  simp only [d]

theorem inTurn_done (t i : Nat) (s : State) (f : State → State) :
    (s.inTurn t i f).done = if s.pointWaits i = true then s.done else (f (s.turn t i)).done := by
  unfold State.inTurn State.pointWaits
  split <;> rfl

theorem if_done (b : Bool) (s u : State) : (if b = true then s else u).done = if b = true then s.done else u.done := by
  split <;> rfl

/-- Every row that serves a host descriptor runs it as `State.command` says, after what is due before it, unless its block does not serve
it yet. -/
theorem exec_hostCmd {i : Instr} {h : HostCmd} (e : hostCmd i = some h) (s : State) :
    exec i s = if h.waits s = true then s.done else ((h.pre s).command h.t h.spec h.c h.body).done := by
  cases i
  case pntConfig | pntConfigExpert | pntDelete | pntForce | pntUnforce | pntSimStart | pntSimValue | pntSimEnd |
    pntOutput | pntReset | pntVoteBind | almAck | almShelve | almUnshelve | almOos | almReturn | almAdaptHold =>
    cases e
    exact inTurn_done _ _ _ _
  case updateBegin | updateData | updateEnd | updateActivate | updateCancel =>
    cases e
    exact if_done _ _ _
  all_goals
    cases e
    try rfl

/-- A command that its checks accept after what is due before it, and whose effect answers a reply, completes with it. -/
theorem completes_turn {i : Instr} {h : HostCmd} (e : hostCmd i = some h) {s v : State} {x : Infl} {r : Reply}
    (w : h.waits s = false) (a : Accepted h.t h.spec h.c (h.pre s) x) (b : h.body ((h.pre s).at_ h.t) = (some r, v)) :
    Completes (exec i s) x r v := by
  rw [exec_hostCmd e, w, command_completes a b]
  rfl

/-- The same of a command whose effect stays in flight. -/
theorem stays_turn {i : Instr} {h : HostCmd} (e : hostCmd i = some h) {s v : State} {x : Infl}
    (w : h.waits s = false) (a : Accepted h.t h.spec h.c (h.pre s) x) (b : h.body ((h.pre s).at_ h.t) = (none, v)) :
    StaysInFlight (exec i s) x v := by
  rw [exec_hostCmd e, w, command_stays a b]
  rfl

/-- `completes_turn` for the commands that nothing comes before. -/
theorem completes_of {i : Instr} {h : HostCmd} (e : hostCmd i = some h) {s v : State} {x : Infl} {r : Reply}
    (w : h.waits s = false) (a : Accepted h.t h.spec h.c s x) (b : h.body (s.at_ h.t) = (some r, v)) (p : h.pre s = s := by rfl) :
    Completes (exec i s) x r v :=
  completes_turn e w (p.symm ▸ a) (p.symm ▸ b)

/-- `stays_turn` for the commands that nothing comes before. -/
theorem stays_of {i : Instr} {h : HostCmd} (e : hostCmd i = some h) {s v : State} {x : Infl}
    (w : h.waits s = false) (a : Accepted h.t h.spec h.c s x) (b : h.body (s.at_ h.t) = (none, v)) (p : h.pre s = s := by rfl) :
    StaysInFlight (exec i s) x v :=
  stays_turn e w (p.symm ▸ a) (p.symm ▸ b)

end Sys2Proof.Machine
end

