-- ==== Sys2Proof/Laws/KeptFabOps.lean ====
section
/-! SUPPORT. What the operations of Machine/FabOps.lean leave alone. -/

set_option linter.tactic.unusedName false

namespace Sys2Proof.Machine

set_option Elab.async false

theorem State.setPort_kept {n : Nat} {p : PortQ} {s : State} : Kept 128 s (State.setPort n p s) := by
  unfold State.setPort
  repeat' first
    | (intro)
    | with_reducible assumption
    | with_reducible exact Kept.refl _ _
    | exact Eq.refl _
    | (with_reducible apply Kept.step State.onFab_kept)

theorem State.modPort_kept {n : Nat} {g : PortQ → PortQ} {s : State} : Kept 128 s (State.modPort n g s) := by
  unfold State.modPort
  repeat' first
    | (intro)
    | with_reducible assumption
    | with_reducible exact Kept.refl _ _
    | exact Eq.refl _
    | (with_reducible apply Kept.step State.setPort_kept)

theorem State.raiseSlow_kept {k : Nat} {code : Nat} {obj : Nat} {args : List Nat} {s : State} : Kept 6815912 s (State.raiseSlow k code obj args s) := by
  unfold State.raiseSlow
  repeat' first
    | (intro)
    | with_reducible assumption
    | with_reducible exact Kept.refl _ _
    | exact Eq.refl _
    | (extract_lets +onlyGivenNames x
       first
       | (have hx : Kept 6815912 s x := ?_
          clear_value x
          rotate_left
          subst x
          rotate_left)
       | clear_value x)
    | split
    | (with_reducible apply Kept.step State.raise_kept)
    | (with_reducible apply Kept.step State.onFab_kept)
    | (with_reducible refine Kept.snd (by with_reducible assumption) ?_)
    | (with_reducible refine Kept.fst (by with_reducible assumption) ?_)

theorem State.spendHere_kept {ps : Nat} {f : Frame} {s : State} : Kept 6815918 s (State.spendHere ps f s).2 := by
  unfold State.spendHere
  repeat' first
    | (intro)
    | with_reducible assumption
    | with_reducible exact Kept.refl _ _
    | exact Eq.refl _
    | split
    | (with_reducible apply Kept.step State.raiseSlow_kept)
    | (with_reducible apply Kept.step State.bump_kept)
    | (with_reducible refine Kept.snd (by with_reducible assumption) ?_)
    | (with_reducible refine Kept.fst (by with_reducible assumption) ?_)

theorem State.routeDrop_kept {f : Frame} {down : Bool} {s : State} : Kept 6815918 s (State.routeDrop f down s) := by
  unfold State.routeDrop
  repeat' first
    | (intro)
    | with_reducible assumption
    | with_reducible exact Kept.refl _ _
    | exact Eq.refl _
    | (with_reducible apply Kept.step State.raiseSlow_kept)
    | (with_reducible apply Kept.step State.bump_kept)

theorem State.enqueue_kept {p : Nat} {q : QFr} {s : State} : Kept 128 s (State.enqueue p q s) := by
  unfold State.enqueue
  repeat' first
    | (intro)
    | with_reducible assumption
    | with_reducible exact Kept.refl _ _
    | exact Eq.refl _
    | (with_reducible apply Kept.step State.modPort_kept)

theorem State.freeCoins_kept {p : Nat} {c : Nat} {n : Nat} {s : State} : Kept 128 s (State.freeCoins p c n s) := by
  unfold State.freeCoins
  repeat' first
    | (intro)
    | with_reducible assumption
    | with_reducible exact Kept.refl _ _
    | exact Eq.refl _
    | (with_reducible apply Kept.step State.modPort_kept)

theorem State.released_kept {q : QFr} {s : State} : Kept 4194438 s (State.released q s) := by
  unfold State.released
  repeat' first
    | (intro)
    | with_reducible assumption
    | with_reducible exact Kept.refl _ _
    | exact Eq.refl _
    | split
    | (with_reducible apply Kept.step State.freeCoins_kept)
    | (with_reducible apply Kept.step State.wf_kept)
    | (with_reducible refine Kept.snd (by with_reducible assumption) ?_)
    | (with_reducible refine Kept.fst (by with_reducible assumption) ?_)

theorem State.forward_kept {q : QFr} {wait : Bool} {s : State} : Kept 6815918 s (State.forward q wait s).2 := by
  unfold State.forward
  repeat' first
    | (intro)
    | with_reducible assumption
    | with_reducible exact Kept.refl _ _
    | exact Eq.refl _
    | split
    | (with_reducible apply Kept.step State.released_kept)
    | (with_reducible apply Kept.step State.enqueue_kept)
    | (with_reducible apply Kept.step State.routeDrop_kept)
    | (with_reducible apply Kept.step State.onFab_kept)
    | (with_reducible refine Kept.snd (by with_reducible assumption) ?_)
    | (with_reducible refine Kept.fst (by with_reducible assumption) ?_)

theorem State.sendOut_kept {ports : List Nat} {q : QFr} {s : State} : Kept 4194438 s (State.sendOut ports q s) := by
  unfold State.sendOut
  repeat' first
    | (intro)
    | with_reducible assumption
    | with_reducible exact Kept.refl _ _
    | exact Eq.refl _
    | (with_reducible apply Kept.step State.released_kept)
    | (with_reducible apply Kept.step State.enqueue_kept)
    | (with_reducible refine Kept.fold ?_ ?_)
    | (with_reducible refine Kept.foldSnd ?_ ?_)
    | (with_reducible refine Kept.foldFst ?_ ?_)

theorem State.flood_kept {q : QFr} {s : State} : Kept 4194438 s (State.flood q s) := by
  unfold State.flood
  repeat' first
    | (intro)
    | with_reducible assumption
    | with_reducible exact Kept.refl _ _
    | exact Eq.refl _
    | (with_reducible apply Kept.step State.sendOut_kept)

theorem State.launch_kept {o : Orig} {s : State} : Kept 6815918 s (State.launch o s).2 := by
  have hz : True := trivial
  unfold State.launch
  repeat' first
    | (intro)
    | with_reducible assumption
    | with_reducible exact Kept.refl _ _
    | exact Eq.refl _
    | (extract_lets +onlyGivenNames x
       first
       | (have hx : Kept 6815918 s x := ?_
          clear_value x
          rotate_left
          subst x
          rotate_left)
       | (have hz : ∀ y, Kept 6815918 s y → Kept 6815918 s (x y) := ?_
          clear_value x
          rotate_left
          unfold x
          clear x
          rotate_left)
       | (have hz : ∀ a y, Kept 6815918 s y → Kept 6815918 s (x a y) := ?_
          clear_value x
          rotate_left
          unfold x
          clear x
          rotate_left)
       | (have hz : ∀ a b y, Kept 6815918 s y → Kept 6815918 s (x a b y) := ?_
          clear_value x
          rotate_left
          unfold x
          clear x
          rotate_left)
       | (have hz : ∀ a b c y, Kept 6815918 s y → Kept 6815918 s (x a b c y) := ?_
          clear_value x
          rotate_left
          unfold x
          clear x
          rotate_left)
       | clear_value x)
    | split
    | (with_reducible apply Kept.step State.flood_kept)
    | (with_reducible apply Kept.step State.forward_kept)
    | (with_reducible apply Kept.step State.enqueue_kept)
    | (with_reducible apply Kept.step State.drop_kept)
    | (with_reducible apply Kept.step State.onFab_kept)
    | (with_reducible refine Kept.snd (by with_reducible assumption) ?_)
    | (with_reducible refine Kept.fst (by with_reducible assumption) ?_)
    | (with_reducible apply hz)
    | (with_reducible refine Kept.call (by with_reducible assumption) ?_)
    | (with_reducible refine Kept.call1 (by with_reducible assumption) ?_)

theorem State.originate_kept {o : Orig} {s : State} : Kept 6815918 s (State.originate o s).2 := by
  unfold State.originate
  repeat' first
    | (intro)
    | with_reducible assumption
    | with_reducible exact Kept.refl _ _
    | exact Eq.refl _
    | (extract_lets +onlyGivenNames x
       first
       | (have hx : Kept 6815918 s x := ?_
          clear_value x
          rotate_left
          subst x
          rotate_left)
       | clear_value x)
    | split
    | (with_reducible apply Kept.step State.launch_kept)
    | (with_reducible apply Kept.step State.bump_kept)
    | (with_reducible apply Kept.step State.onFab_kept)
    | (with_reducible refine Kept.snd (by with_reducible assumption) ?_)
    | (with_reducible refine Kept.fst (by with_reducible assumption) ?_)

theorem State.send_kept {o : Orig} {s : State} : Kept 6815918 s (State.send o s) := by
  unfold State.send
  repeat' first
    | (intro)
    | with_reducible assumption
    | with_reducible exact Kept.refl _ _
    | exact Eq.refl _
    | (with_reducible apply Kept.step State.originate_kept)

theorem State.control_kept {ptype : Nat} {dst : Option Nat} {payload : Nat} {s : State} : Kept 6815918 s (State.control ptype dst payload s) := by
  unfold State.control
  repeat' first
    | (intro)
    | with_reducible assumption
    | with_reducible exact Kept.refl _ _
    | exact Eq.refl _
    | (with_reducible apply Kept.step State.send_kept)

theorem State.handover_kept {dst : Nat} {op : Nat} {home : Nat} {final : Nat} {owning : Bool} {s : State} : Kept 6815918 s (State.handover dst op home final owning s) := by
  unfold State.handover
  repeat' first
    | (intro)
    | with_reducible assumption
    | with_reducible exact Kept.refl _ _
    | exact Eq.refl _
    | (with_reducible apply Kept.step State.control_kept)

theorem State.announce_kept {dst : Option Nat} {announcer : Nat} {home : Nat} {withdraw : Bool} {s : State} : Kept 6815918 s (State.announce dst announcer home withdraw s) := by
  unfold State.announce
  repeat' first
    | (intro)
    | with_reducible assumption
    | with_reducible exact Kept.refl _ _
    | exact Eq.refl _
    | (with_reducible apply Kept.step State.control_kept)

end Sys2Proof.Machine
end

