-- ==== Sys2Proof/Laws/KeptCmwOps.lean ====
section
/-! SUPPORT. What the operations of Machine/CmwOps.lean leave alone. -/

set_option linter.tactic.unusedName false

namespace Sys2Proof.Machine

set_option Elab.async false

theorem State.setChan_kept {c : Nat} {r : Rec 64} {s : State} : Kept 2048 s (State.setChan c r s) := by
  unfold State.setChan
  repeat' first
    | (intro)
    | with_reducible assumption
    | with_reducible exact Kept.refl _ _
    | exact Eq.refl _
    | (with_reducible apply Kept.step State.onCmw_kept)

theorem State.modChan_kept {c : Nat} {f : Rec 64 → Rec 64} {s : State} : Kept 2048 s (State.modChan c f s) := by
  unfold State.modChan
  repeat' first
    | (intro)
    | with_reducible assumption
    | with_reducible exact Kept.refl _ _
    | exact Eq.refl _
    | (with_reducible apply Kept.step State.setChan_kept)

theorem State.setChx_kept {c : Nat} {r : ChX} {s : State} : Kept 2048 s (State.setChx c r s) := by
  unfold State.setChx
  repeat' first
    | (intro)
    | with_reducible assumption
    | with_reducible exact Kept.refl _ _
    | exact Eq.refl _
    | (with_reducible apply Kept.step State.onCmw_kept)

theorem State.modChx_kept {c : Nat} {f : ChX → ChX} {s : State} : Kept 2048 s (State.modChx c f s) := by
  unfold State.modChx
  repeat' first
    | (intro)
    | with_reducible assumption
    | with_reducible exact Kept.refl _ _
    | exact Eq.refl _
    | (with_reducible apply Kept.step State.setChx_kept)

theorem State.setDef_kept {d : Nat} {r : Rec 256} {s : State} : Kept 2048 s (State.setDef d r s) := by
  unfold State.setDef
  repeat' first
    | (intro)
    | with_reducible assumption
    | with_reducible exact Kept.refl _ _
    | exact Eq.refl _
    | (with_reducible apply Kept.step State.onCmw_kept)

theorem State.setBase_kept {n : Nat} {r : Rec 4096} {s : State} : Kept 2048 s (State.setBase n r s) := by
  unfold State.setBase
  repeat' first
    | (intro)
    | with_reducible assumption
    | with_reducible exact Kept.refl _ _
    | exact Eq.refl _
    | (with_reducible apply Kept.step State.onCmw_kept)

theorem State.framesTime_kept {a0 : Nat} {a1 : Nat} {a2 : State} : Kept 2048 a2 (State.framesTime a0 a1 a2) := by
  induction a0 generalizing a1 a2 with
  | zero =>
    unfold State.framesTime
    repeat' first
      | (intro)
      | with_reducible assumption
      | with_reducible exact Kept.refl _ _
      | exact Eq.refl _
      | (extract_lets +onlyGivenNames x
         first
         | (have hx : Kept 2048 a2 x := ?_
            clear_value x
            rotate_left
            subst x
            rotate_left)
         | clear_value x)
      | split
      | (with_reducible apply Kept.step State.setChx_kept)
      | (with_reducible apply Kept.step State.onCmw_kept)
      | (with_reducible apply Kept.step ih)
      | (with_reducible refine Kept.snd (by with_reducible assumption) ?_)
      | (with_reducible refine Kept.fst (by with_reducible assumption) ?_)

  | succ n ih =>
    unfold State.framesTime
    repeat' first
      | (intro)
      | with_reducible assumption
      | with_reducible exact Kept.refl _ _
      | exact Eq.refl _
      | (extract_lets +onlyGivenNames x
         first
         | (have hx : Kept 2048 a2 x := ?_
            clear_value x
            rotate_left
            subst x
            rotate_left)
         | clear_value x)
      | split
      | (with_reducible apply Kept.step State.setChx_kept)
      | (with_reducible apply Kept.step State.onCmw_kept)
      | (with_reducible apply Kept.step ih)
      | (with_reducible refine Kept.snd (by with_reducible assumption) ?_)
      | (with_reducible refine Kept.fst (by with_reducible assumption) ?_)

theorem State.framesOrder_kept {a0 : Nat} {a1 : Nat} {a2 : State} : Kept 4196358 a2 (State.framesOrder a0 a1 a2) := by
  induction a0 generalizing a1 a2 with
  | zero =>
    unfold State.framesOrder
    repeat' first
      | (intro)
      | with_reducible assumption
      | with_reducible exact Kept.refl _ _
      | exact Eq.refl _
      | (extract_lets +onlyGivenNames x
         first
         | (have hx : Kept 4196358 a2 x := ?_
            clear_value x
            rotate_left
            subst x
            rotate_left)
         | clear_value x)
      | split
      | (with_reducible apply Kept.step State.setChx_kept)
      | (with_reducible apply Kept.step State.modChan_kept)
      | (with_reducible apply Kept.step State.bump_kept)
      | (with_reducible apply Kept.step State.onCmw_kept)
      | (with_reducible apply Kept.step ih)
      | (with_reducible refine Kept.snd (by with_reducible assumption) ?_)
      | (with_reducible refine Kept.fst (by with_reducible assumption) ?_)

  | succ n ih =>
    unfold State.framesOrder
    repeat' first
      | (intro)
      | with_reducible assumption
      | with_reducible exact Kept.refl _ _
      | exact Eq.refl _
      | (extract_lets +onlyGivenNames x
         first
         | (have hx : Kept 4196358 a2 x := ?_
            clear_value x
            rotate_left
            subst x
            rotate_left)
         | clear_value x)
      | split
      | (with_reducible apply Kept.step State.setChx_kept)
      | (with_reducible apply Kept.step State.modChan_kept)
      | (with_reducible apply Kept.step State.bump_kept)
      | (with_reducible apply Kept.step State.onCmw_kept)
      | (with_reducible apply Kept.step ih)
      | (with_reducible refine Kept.snd (by with_reducible assumption) ?_)
      | (with_reducible refine Kept.fst (by with_reducible assumption) ?_)

theorem State.fftWake_kept {s : State} : Kept 4194310 s (State.fftWake s) := by
  unfold State.fftWake
  repeat' first
    | (intro)
    | with_reducible assumption
    | with_reducible exact Kept.refl _ _
    | exact Eq.refl _
    | (with_reducible apply Kept.step State.wf_kept)

theorem State.framesNow_kept {ch : Nat} {s : State} : Kept 4196358 s (State.framesNow ch s) := by
  unfold State.framesNow
  repeat' first
    | (intro)
    | with_reducible assumption
    | with_reducible exact Kept.refl _ _
    | exact Eq.refl _
    | (extract_lets +onlyGivenNames x
       first
       | (have hx : Kept 4196358 s x := ?_
          clear_value x
          rotate_left
          subst x
          rotate_left)
       | clear_value x)
    | split
    | (with_reducible apply Kept.step State.fftWake_kept)
    | (with_reducible apply Kept.step State.framesOrder_kept)
    | (with_reducible apply Kept.step State.framesTime_kept)
    | (with_reducible refine Kept.snd (by with_reducible assumption) ?_)
    | (with_reducible refine Kept.fst (by with_reducible assumption) ?_)

theorem State.capWrite_kept {d : Nat} {v : Nat} {r : LRec} {s : State} : Kept 6817912 s (State.capWrite d v r s).2 := by
  unfold State.capWrite
  repeat' first
    | (intro)
    | with_reducible assumption
    | with_reducible exact Kept.refl _ _
    | exact Eq.refl _
    | (extract_lets +onlyGivenNames x
       first
       | (have hx : Kept 6817912 s x := ?_
          clear_value x
          rotate_left
          subst x
          rotate_left)
       | clear_value x)
    | split
    | (with_reducible apply Kept.step State.volFlush_kept)
    | (with_reducible apply Kept.step State.outSlot_kept)
    | (with_reducible apply Kept.step State.onCmw_kept)
    | (with_reducible refine Kept.snd (by with_reducible assumption) ?_)
    | (with_reducible refine Kept.fst (by with_reducible assumption) ?_)

theorem State.setCapture_kept {c : Capt} {s : State} : Kept 2048 s (State.setCapture c s) := by
  unfold State.setCapture
  repeat' first
    | (intro)
    | with_reducible assumption
    | with_reducible exact Kept.refl _ _
    | exact Eq.refl _
    | (with_reducible apply Kept.step State.onCmw_kept)

theorem State.capOver_kept {d : Nat} {st : Nat} {failed : Option Nat} {s : State} : Kept 6817902 s (State.capOver d st failed s) := by
  unfold State.capOver
  repeat' first
    | (intro)
    | with_reducible assumption
    | with_reducible exact Kept.refl _ _
    | exact Eq.refl _
    | split
    | (with_reducible apply Kept.step State.modVol_kept)
    | (with_reducible apply Kept.step State.raise_kept)
    | (with_reducible apply Kept.step State.wf_kept)
    | (with_reducible apply Kept.step State.onCmw_kept)
    | (with_reducible refine Kept.snd (by with_reducible assumption) ?_)
    | (with_reducible refine Kept.fst (by with_reducible assumption) ?_)

theorem State.capEnd_kept {d : Nat} {st : Nat} {failed : Option Nat} {s : State} : Kept 6817918 s (State.capEnd d st failed s) := by
  unfold State.capEnd
  repeat' first
    | (intro)
    | with_reducible assumption
    | with_reducible exact Kept.refl _ _
    | exact Eq.refl _
    | split
    | (with_reducible apply Kept.step State.capOver_kept)
    | (with_reducible apply Kept.step State.capWrite_kept)
    | (with_reducible refine Kept.foldr ?_ ?_)
    | (with_reducible refine Kept.snd (by with_reducible assumption) ?_)
    | (with_reducible refine Kept.fst (by with_reducible assumption) ?_)

theorem State.capData_kept {d : Nat} {ch : Nat} {fmt : Nat} {bytes : Nat} {rate : Nat} {a5 : Nat} {a6 : Seg} {a7 : State} : Kept 6817912 a7 (State.capData d ch fmt bytes rate a5 a6 a7).2 := by
  induction a5 generalizing a6 a7 with
  | zero =>
    unfold State.capData
    repeat' first
      | (intro)
      | with_reducible assumption
      | with_reducible exact Kept.refl _ _
      | exact Eq.refl _
      | (extract_lets +onlyGivenNames x
         first
         | (have hx : Kept 6817912 a7 x := ?_
            clear_value x
            rotate_left
            subst x
            rotate_left)
         | clear_value x)
      | split
      | (with_reducible apply Kept.step State.capWrite_kept)
      | (with_reducible apply Kept.step ih)
      | (with_reducible refine Kept.snd (by with_reducible assumption) ?_)
      | (with_reducible refine Kept.fst (by with_reducible assumption) ?_)

  | succ n ih =>
    unfold State.capData
    repeat' first
      | (intro)
      | with_reducible assumption
      | with_reducible exact Kept.refl _ _
      | exact Eq.refl _
      | (extract_lets +onlyGivenNames x
         first
         | (have hx : Kept 6817912 a7 x := ?_
            clear_value x
            rotate_left
            subst x
            rotate_left)
         | clear_value x)
      | split
      | (with_reducible apply Kept.step State.capWrite_kept)
      | (with_reducible apply Kept.step ih)
      | (with_reducible refine Kept.snd (by with_reducible assumption) ?_)
      | (with_reducible refine Kept.fst (by with_reducible assumption) ?_)

theorem State.capCopy_kept {d : Nat} {ch : Nat} {g : Seg} {s : State} : Kept 6817918 s (State.capCopy d ch g s) := by
  unfold State.capCopy
  repeat' first
    | (intro)
    | with_reducible assumption
    | with_reducible exact Kept.refl _ _
    | exact Eq.refl _
    | (extract_lets +onlyGivenNames x
       first
       | (have hx : Kept 6817918 s x := ?_
          clear_value x
          rotate_left
          subst x
          rotate_left)
       | clear_value x)
    | split
    | (with_reducible apply Kept.step State.capData_kept)
    | (with_reducible apply Kept.step State.capEnd_kept)
    | (with_reducible apply Kept.step State.setCapture_kept)
    | (with_reducible refine Kept.snd (by with_reducible assumption) ?_)
    | (with_reducible refine Kept.fst (by with_reducible assumption) ?_)

theorem State.capSync_kept {d : Nat} {ch : Nat} {s : State} : Kept 6817918 s (State.capSync d ch s) := by
  unfold State.capSync
  repeat' first
    | (intro)
    | with_reducible assumption
    | with_reducible exact Kept.refl _ _
    | exact Eq.refl _
    | split
    | (with_reducible apply Kept.step State.capCopy_kept)
    | (with_reducible apply Kept.step State.setCapture_kept)
    | (with_reducible refine Kept.fold ?_ ?_)
    | (with_reducible refine Kept.foldSnd ?_ ?_)
    | (with_reducible refine Kept.foldFst ?_ ?_)
    | (with_reducible refine Kept.snd (by with_reducible assumption) ?_)
    | (with_reducible refine Kept.fst (by with_reducible assumption) ?_)

theorem State.capMay_kept {d : Nat} {ch : Nat} {s : State} : Kept 7866494 s (State.capMay d ch s) := by
  unfold State.capMay
  repeat' first
    | (intro)
    | with_reducible assumption
    | with_reducible exact Kept.refl _ _
    | exact Eq.refl _
    | split
    | (with_reducible apply Kept.step State.capSync_kept)
    | (with_reducible apply Kept.step State.fresh_kept)
    | (with_reducible refine Kept.snd (by with_reducible assumption) ?_)
    | (with_reducible refine Kept.fst (by with_reducible assumption) ?_)

theorem State.capLose_kept {ch : Nat} {upto : Nat} {s : State} : Kept 6817918 s (State.capLose ch upto s) := by
  unfold State.capLose
  repeat' first
    | (intro)
    | with_reducible assumption
    | with_reducible exact Kept.refl _ _
    | exact Eq.refl _
    | (extract_lets +onlyGivenNames x
       first
       | (have hx : Kept 6817918 s x := ?_
          clear_value x
          rotate_left
          subst x
          rotate_left)
       | clear_value x)
    | split
    | (with_reducible apply Kept.step State.capEnd_kept)
    | (with_reducible apply Kept.step State.setCapture_kept)
    | (with_reducible apply Kept.step State.bump_kept)
    | (with_reducible refine Kept.fold ?_ ?_)
    | (with_reducible refine Kept.foldSnd ?_ ?_)
    | (with_reducible refine Kept.foldFst ?_ ?_)
    | (with_reducible refine Kept.snd (by with_reducible assumption) ?_)
    | (with_reducible refine Kept.fst (by with_reducible assumption) ?_)

theorem State.capTrigger_kept {d : Nat} {t : Nat} {trig : Nat} {seq : Nat} {s : State} : Kept 7866494 s (State.capTrigger d t trig seq s) := by
  unfold State.capTrigger
  repeat' first
    | (intro)
    | with_reducible assumption
    | with_reducible exact Kept.refl _ _
    | exact Eq.refl _
    | (extract_lets +onlyGivenNames x
       first
       | (have hx : Kept 7866494 s x := ?_
          clear_value x
          rotate_left
          subst x
          rotate_left)
       | clear_value x)
    | split
    | (with_reducible apply Kept.step State.capMay_kept)
    | (with_reducible apply Kept.step State.capEnd_kept)
    | (with_reducible apply Kept.step State.setCapture_kept)
    | (with_reducible apply Kept.step State.capWrite_kept)
    | (with_reducible apply Kept.step State.setDef_kept)
    | (with_reducible apply Kept.step State.modVol_kept)
    | (with_reducible apply Kept.step State.raise_kept)
    | (with_reducible apply Kept.step State.bump_kept)
    | (with_reducible apply Kept.step State.wf_kept)
    | (with_reducible apply Kept.step State.onCmw_kept)
    | (with_reducible refine Kept.fold ?_ ?_)
    | (with_reducible refine Kept.foldSnd ?_ ?_)
    | (with_reducible refine Kept.foldFst ?_ ?_)
    | (with_reducible refine Kept.foldr ?_ ?_)
    | (with_reducible refine Kept.snd (by with_reducible assumption) ?_)
    | (with_reducible refine Kept.fst (by with_reducible assumption) ?_)

theorem State.ringEmpty_kept {ch : Nat} {s : State} : Kept 6817918 s (State.ringEmpty ch s) := by
  unfold State.ringEmpty
  repeat' first
    | (intro)
    | with_reducible assumption
    | with_reducible exact Kept.refl _ _
    | exact Eq.refl _
    | (with_reducible apply Kept.step State.capLose_kept)
    | (with_reducible apply Kept.step State.modChx_kept)
    | (with_reducible apply Kept.step State.onCmw_kept)

theorem State.chanRestart_kept {ch : Nat} {s : State} : Kept 6817918 s (State.chanRestart ch s) := by
  unfold State.chanRestart
  repeat' first
    | (intro)
    | with_reducible assumption
    | with_reducible exact Kept.refl _ _
    | exact Eq.refl _
    | (with_reducible apply Kept.step State.capEnd_kept)
    | (with_reducible apply Kept.step State.setBase_kept)
    | (with_reducible apply Kept.step State.modChx_kept)
    | (with_reducible refine Kept.fold ?_ ?_)
    | (with_reducible refine Kept.foldSnd ?_ ?_)
    | (with_reducible refine Kept.foldFst ?_ ?_)

theorem State.chanGap_kept {ch : Nat} {resync : Bool} {n : Nat} {s : State} : Kept 6817838 s (State.chanGap ch resync n s) := by
  unfold State.chanGap
  repeat' first
    | (intro)
    | with_reducible assumption
    | with_reducible exact Kept.refl _ _
    | exact Eq.refl _
    | (extract_lets +onlyGivenNames x
       first
       | (have hx : Kept 6817838 s x := ?_
          clear_value x
          rotate_left
          subst x
          rotate_left)
       | clear_value x)
    | split
    | (with_reducible apply Kept.step State.setChx_kept)
    | (with_reducible apply Kept.step State.modChan_kept)
    | (with_reducible apply Kept.step State.raise_kept)
    | (with_reducible apply Kept.step State.bump_kept)
    | (with_reducible refine Kept.snd (by with_reducible assumption) ?_)
    | (with_reducible refine Kept.fst (by with_reducible assumption) ?_)

theorem State.append_kept {ch : Nat} {g : Seg} {s : State} : Kept 7866494 s (State.append ch g s) := by
  unfold State.append
  repeat' first
    | (intro)
    | with_reducible assumption
    | with_reducible exact Kept.refl _ _
    | exact Eq.refl _
    | (with_reducible apply Kept.step State.capLose_kept)
    | (with_reducible apply Kept.step State.capMay_kept)
    | (with_reducible apply Kept.step State.setChx_kept)
    | (with_reducible refine Kept.fold ?_ ?_)
    | (with_reducible refine Kept.foldSnd ?_ ?_)
    | (with_reducible refine Kept.foldFst ?_ ?_)

theorem State.placeBlock_kept {b : CBlk} {s : State} : Kept 7866494 s (State.placeBlock b s) := by
  unfold State.placeBlock
  repeat' first
    | (intro)
    | with_reducible assumption
    | with_reducible exact Kept.refl _ _
    | exact Eq.refl _
    | (extract_lets +onlyGivenNames x
       first
       | (have hx : Kept 7866494 s x := ?_
          clear_value x
          rotate_left
          subst x
          rotate_left)
       | clear_value x)
    | split
    | (with_reducible apply Kept.step State.append_kept)
    | (with_reducible apply Kept.step State.chanGap_kept)
    | (with_reducible apply Kept.step State.ringEmpty_kept)
    | (with_reducible apply Kept.step State.framesNow_kept)
    | (with_reducible apply Kept.step State.modChx_kept)
    | (with_reducible apply Kept.step State.modChan_kept)
    | (with_reducible apply Kept.step State.bump_kept)
    | (with_reducible refine Kept.snd (by with_reducible assumption) ?_)
    | (with_reducible refine Kept.fst (by with_reducible assumption) ?_)

theorem State.chanStop_kept {ch : Nat} {s : State} : Kept 6817832 s (State.chanStop ch s) := by
  unfold State.chanStop
  repeat' first
    | (intro)
    | with_reducible assumption
    | with_reducible exact Kept.refl _ _
    | exact Eq.refl _
    | (extract_lets +onlyGivenNames x
       first
       | (have hx : Kept 6817832 s x := ?_
          clear_value x
          rotate_left
          subst x
          rotate_left)
       | clear_value x)
    | split
    | (with_reducible apply Kept.step State.modChx_kept)
    | (with_reducible apply Kept.step State.setChan_kept)
    | (with_reducible apply Kept.step State.raise_kept)
    | (with_reducible refine Kept.snd (by with_reducible assumption) ?_)
    | (with_reducible refine Kept.fst (by with_reducible assumption) ?_)

theorem State.chanAdvance_kept {ch : Nat} {t : Nat} {v : Nat} {lowest : Int × Nat} {speed : Nat → Int × Nat} {inc : Nat} {at_ : Nat → Nat} {s : State} : Kept 6817838 s (State.chanAdvance ch t v lowest speed inc at_ s) := by
  unfold State.chanAdvance
  repeat' first
    | (intro)
    | with_reducible assumption
    | with_reducible exact Kept.refl _ _
    | exact Eq.refl _
    | (extract_lets +onlyGivenNames x
       first
       | (have hx : Kept 6817838 s x := ?_
          clear_value x
          rotate_left
          subst x
          rotate_left)
       | clear_value x)
    | split
    | (with_reducible apply Kept.step State.chanStop_kept)
    | (with_reducible apply Kept.step State.framesNow_kept)
    | (with_reducible apply Kept.step State.modChx_kept)
    | (with_reducible apply Kept.step State.modChan_kept)
    | (with_reducible refine Kept.snd (by with_reducible assumption) ?_)
    | (with_reducible refine Kept.fst (by with_reducible assumption) ?_)

theorem State.tachPulse_kept {dio : Nat} {t : Nat} {s : State} : Kept 6817838 s (State.tachPulse dio t s) := by
  unfold State.tachPulse
  repeat' first
    | (intro)
    | with_reducible assumption
    | with_reducible exact Kept.refl _ _
    | exact Eq.refl _
    | (extract_lets +onlyGivenNames x
       first
       | (have hx : Kept 6817838 s x := ?_
          clear_value x
          rotate_left
          subst x
          rotate_left)
       | clear_value x)
    | split
    | (with_reducible apply Kept.step State.chanAdvance_kept)
    | (with_reducible apply Kept.step State.setChx_kept)
    | (with_reducible refine Kept.fold ?_ ?_)
    | (with_reducible refine Kept.foldSnd ?_ ?_)
    | (with_reducible refine Kept.foldFst ?_ ?_)
    | (with_reducible refine Kept.snd (by with_reducible assumption) ?_)
    | (with_reducible refine Kept.fst (by with_reducible assumption) ?_)

theorem State.speedPoint_kept {i : Nat} {s : State} : Kept 6817838 s (State.speedPoint i s) := by
  unfold State.speedPoint
  repeat' first
    | (intro)
    | with_reducible assumption
    | with_reducible exact Kept.refl _ _
    | exact Eq.refl _
    | (extract_lets +onlyGivenNames x
       first
       | (have hx : Kept 6817838 s x := ?_
          clear_value x
          rotate_left
          subst x
          rotate_left)
       | clear_value x)
    | split
    | (with_reducible apply Kept.step State.chanAdvance_kept)
    | (with_reducible apply Kept.step State.chanStop_kept)
    | (with_reducible apply Kept.step State.modChx_kept)
    | (with_reducible apply Kept.step State.setChx_kept)
    | (with_reducible refine Kept.fold ?_ ?_)
    | (with_reducible refine Kept.foldSnd ?_ ?_)
    | (with_reducible refine Kept.foldFst ?_ ?_)
    | (with_reducible refine Kept.snd (by with_reducible assumption) ?_)
    | (with_reducible refine Kept.fst (by with_reducible assumption) ?_)

theorem State.featureOut_kept {f : CFrame} {point : Nat} {v : Nat} {s : State} : Kept 256 s (State.featureOut f point v s) := by
  unfold State.featureOut
  repeat' first
    | (intro)
    | with_reducible assumption
    | with_reducible exact Kept.refl _ _
    | exact Eq.refl _
    | (with_reducible apply Kept.step State.toTile_kept)

theorem State.baselineTake_kept {f : CFrame} {bnd : Rec 16} {v : Nat} {s : State} : Kept 6818088 s (State.baselineTake f bnd v s) := by
  unfold State.baselineTake
  repeat' first
    | (intro)
    | with_reducible assumption
    | with_reducible exact Kept.refl _ _
    | exact Eq.refl _
    | (extract_lets +onlyGivenNames x
       first
       | (have hx : Kept 6818088 s x := ?_
          clear_value x
          rotate_left
          subst x
          rotate_left)
       | clear_value x)
    | split
    | (with_reducible apply Kept.step State.featureOut_kept)
    | (with_reducible apply Kept.step State.setBase_kept)
    | (with_reducible apply Kept.step State.raise_kept)
    | (with_reducible apply Kept.step State.onCmw_kept)
    | (with_reducible refine Kept.snd (by with_reducible assumption) ?_)
    | (with_reducible refine Kept.fst (by with_reducible assumption) ?_)

theorem State.frameFeatures_kept {f : CFrame} {s : State} : Kept 6818088 s (State.frameFeatures f s) := by
  unfold State.frameFeatures
  repeat' first
    | (intro)
    | with_reducible assumption
    | with_reducible exact Kept.refl _ _
    | exact Eq.refl _
    | split
    | (with_reducible apply Kept.step State.baselineTake_kept)
    | (with_reducible apply Kept.step State.featureOut_kept)
    | (with_reducible apply Kept.step State.modChan_kept)
    | (with_reducible refine Kept.fold ?_ ?_)
    | (with_reducible refine Kept.foldSnd ?_ ?_)
    | (with_reducible refine Kept.foldFst ?_ ?_)
    | (with_reducible refine Kept.snd (by with_reducible assumption) ?_)
    | (with_reducible refine Kept.fst (by with_reducible assumption) ?_)

end Sys2Proof.Machine
end

