-- ==== Sys2Proof/Laws/KeptPntOps.lean ====
section
/-! SUPPORT. What the operations of Machine/PntOps.lean leave alone. -/

set_option linter.tactic.unusedName false

namespace Sys2Proof.Machine

set_option Elab.async false

theorem State.storeFloat_kept {i : Nat} {v : Nat} {s : State} : Kept 4194566 s (State.storeFloat i v s) := by
  unfold State.storeFloat
  repeat' first
    | (intro)
    | with_reducible assumption
    | with_reducible exact Kept.refl _ _
    | exact Eq.refl _
    | split
    | (with_reducible apply Kept.step State.modPx_kept)
    | (with_reducible apply Kept.step State.modPt_kept)
    | (with_reducible apply Kept.step State.bump_kept)
    | (with_reducible refine Kept.snd (by with_reducible assumption) ?_)
    | (with_reducible refine Kept.fst (by with_reducible assumption) ?_)

theorem State.countTake_kept {i : Nat} {c : Nat} {tOld : Nat} {tNew : Nat} {first : Bool} {s : State} : Kept 4194566 s (State.countTake i c tOld tNew first s).2 := by
  unfold State.countTake
  repeat' first
    | (intro)
    | with_reducible assumption
    | with_reducible exact Kept.refl _ _
    | exact Eq.refl _
    | (extract_lets +onlyGivenNames x
       first
       | (have hx : Kept 4194566 s x := ?_
          clear_value x
          rotate_left
          subst x
          rotate_left)
       | clear_value x)
    | split
    | (with_reducible apply Kept.step State.modPx_kept)
    | (with_reducible apply Kept.step State.modPt_kept)
    | (with_reducible apply Kept.step State.bump_kept)
    | (with_reducible refine Kept.snd (by with_reducible assumption) ?_)
    | (with_reducible refine Kept.fst (by with_reducible assumption) ?_)

theorem State.receive_kept {i : Nat} {v : Nat} {tOld : Nat} {tNew : Nat} {first : Bool} {s : State} : Kept 4194566 s (State.receive i v tOld tNew first s).2 := by
  unfold State.receive
  repeat' first
    | (intro)
    | with_reducible assumption
    | with_reducible exact Kept.refl _ _
    | exact Eq.refl _
    | (extract_lets +onlyGivenNames x
       first
       | (have hx : Kept 4194566 s x := ?_
          clear_value x
          rotate_left
          subst x
          rotate_left)
       | clear_value x)
    | split
    | (with_reducible apply Kept.step State.countTake_kept)
    | (with_reducible apply Kept.step State.storeFloat_kept)
    | (with_reducible apply Kept.step State.modPt_kept)
    | (with_reducible apply Kept.step State.bump_kept)
    | (with_reducible refine Kept.snd (by with_reducible assumption) ?_)
    | (with_reducible refine Kept.fst (by with_reducible assumption) ?_)

theorem State.stampPt_kept {i : Nat} {tRx : Nat} {tSrc : Nat} {src : Nat} {s : State} : Kept 4194566 s (State.stampPt i tRx tSrc src s) := by
  unfold State.stampPt
  repeat' first
    | (intro)
    | with_reducible assumption
    | with_reducible exact Kept.refl _ _
    | exact Eq.refl _
    | split
    | (with_reducible apply Kept.step State.modPt_kept)
    | (with_reducible apply Kept.step State.bump_kept)
    | (with_reducible refine Kept.snd (by with_reducible assumption) ?_)
    | (with_reducible refine Kept.fst (by with_reducible assumption) ?_)

theorem State.applyResult_kept {i : Nat} {v : Option Nat} {fault : Bool} {inh : Nat} {tSrc : Nat} {s : State} : Kept 8261550 s (State.applyResult i v fault inh tSrc s) := by
  unfold State.applyResult
  repeat' first
    | (intro)
    | with_reducible assumption
    | with_reducible exact Kept.refl _ _
    | exact Eq.refl _
    | split
    | (with_reducible apply Kept.step State.stampPt_kept)
    | (with_reducible apply Kept.step State.storeFloat_kept)
    | (with_reducible apply Kept.step State.speedPoint_kept)
    | (with_reducible apply Kept.step State.replState_kept)
    | (with_reducible apply Kept.step State.evalPoint_kept)
    | (with_reducible apply Kept.step State.histUpdate_kept)
    | (with_reducible apply Kept.step State.requal_kept)
    | (with_reducible apply Kept.step State.modPx_kept)
    | (with_reducible refine Kept.snd (by with_reducible assumption) ?_)
    | (with_reducible refine Kept.fst (by with_reducible assumption) ?_)

theorem State.voteEval_kept {vi : Nat} {tSrc : Nat} {s : State} : Kept 8261550 s (State.voteEval vi tSrc s) := by
  unfold State.voteEval
  repeat' first
    | (intro)
    | with_reducible assumption
    | with_reducible exact Kept.refl _ _
    | exact Eq.refl _
    | split
    | (with_reducible apply Kept.step State.applyResult_kept)
    | (with_reducible apply Kept.step State.setPx_kept)
    | (with_reducible apply Kept.step State.raise_kept)
    | (with_reducible apply Kept.step State.bump_kept)
    | (with_reducible refine Kept.snd (by with_reducible assumption) ?_)
    | (with_reducible refine Kept.fst (by with_reducible assumption) ?_)

theorem State.toVote_kept {i : Nat} {tSrc : Nat} {s : State} : Kept 8261550 s (State.toVote i tSrc s) := by
  unfold State.toVote
  repeat' first
    | (intro)
    | with_reducible assumption
    | with_reducible exact Kept.refl _ _
    | exact Eq.refl _
    | split
    | (with_reducible apply Kept.step State.voteEval_kept)
    | (with_reducible refine Kept.snd (by with_reducible assumption) ?_)
    | (with_reducible refine Kept.fst (by with_reducible assumption) ?_)

theorem State.passOn_kept {dst : Nat} {u : Upd} {s : State} : Kept 6815918 s (State.passOn dst u s) := by
  unfold State.passOn
  repeat' first
    | (intro)
    | with_reducible assumption
    | with_reducible exact Kept.refl _ _
    | exact Eq.refl _
    | (with_reducible apply Kept.step State.send_kept)

theorem State.arrive_kept {u : Upd} {s : State} : Kept 4194566 s (State.arrive u s) := by
  unfold State.arrive
  repeat' first
    | (intro)
    | with_reducible assumption
    | with_reducible exact Kept.refl _ _
    | exact Eq.refl _
    | split
    | (with_reducible apply Kept.step State.stampPt_kept)
    | (with_reducible apply Kept.step State.modPx_kept)
    | (with_reducible refine Kept.snd (by with_reducible assumption) ?_)
    | (with_reducible refine Kept.fst (by with_reducible assumption) ?_)

theorem State.outPass_kept {i : Nat} {tSrc : Nat} {t0 : Nat} {s : State} : Kept 7218990 s (State.outPass i tSrc t0 s) := by
  unfold State.outPass
  repeat' first
    | (intro)
    | with_reducible assumption
    | with_reducible exact Kept.refl _ _
    | exact Eq.refl _
    | (extract_lets +onlyGivenNames x
       first
       | (have hx : Kept 7218990 s x := ?_
          clear_value x
          rotate_left
          subst x
          rotate_left)
       | clear_value x)
    | split
    | (with_reducible apply Kept.step State.outStage_kept)
    | (with_reducible apply Kept.step State.evalPoint_kept)
    | (with_reducible apply Kept.step State.requal_kept)
    | (with_reducible refine Kept.snd (by with_reducible assumption) ?_)
    | (with_reducible refine Kept.fst (by with_reducible assumption) ?_)

theorem State.applyUpdate_kept {u : Upd} {s : State} : Kept 8269742 s (State.applyUpdate u s) := by
  unfold State.applyUpdate
  repeat' first
    | (intro)
    | with_reducible assumption
    | with_reducible exact Kept.refl _ _
    | exact Eq.refl _
    | split
    | (with_reducible apply Kept.step State.outPass_kept)
    | (with_reducible apply Kept.step State.arrive_kept)
    | (with_reducible apply Kept.step State.toVote_kept)
    | (with_reducible apply Kept.step State.receive_kept)
    | (with_reducible apply Kept.step State.speedPoint_kept)
    | (with_reducible apply Kept.step State.replState_kept)
    | (with_reducible apply Kept.step State.evalPoint_kept)
    | (with_reducible apply Kept.step State.histUpdate_kept)
    | (with_reducible apply Kept.step State.requal_kept)
    | (with_reducible apply Kept.step State.modPx_kept)
    | (with_reducible refine Kept.snd (by with_reducible assumption) ?_)
    | (with_reducible refine Kept.fst (by with_reducible assumption) ?_)

theorem State.storeShadow_kept {u : Upd} {s : State} : Kept 4194566 s (State.storeShadow u s) := by
  unfold State.storeShadow
  repeat' first
    | (intro)
    | with_reducible assumption
    | with_reducible exact Kept.refl _ _
    | exact Eq.refl _
    | (with_reducible apply Kept.step State.arrive_kept)
    | (with_reducible apply Kept.step State.receive_kept)
    | (with_reducible apply Kept.step State.requal_kept)

theorem State.takeUpdate_kept {u : Upd} {s : State} : Kept 8269742 s (State.takeUpdate u s) := by
  unfold State.takeUpdate
  repeat' first
    | (intro)
    | with_reducible assumption
    | with_reducible exact Kept.refl _ _
    | exact Eq.refl _
    | (extract_lets +onlyGivenNames x
       first
       | (have hx : Kept 8269742 s x := ?_
          clear_value x
          rotate_left
          subst x
          rotate_left)
       | clear_value x)
    | split
    | (with_reducible apply Kept.step State.storeShadow_kept)
    | (with_reducible apply Kept.step State.applyUpdate_kept)
    | (with_reducible apply Kept.step State.passOn_kept)
    | (with_reducible apply Kept.step State.twinEvent_kept)
    | (with_reducible apply Kept.step State.bump_kept)
    | (with_reducible apply Kept.step State.onFab_kept)
    | (with_reducible refine Kept.snd (by with_reducible assumption) ?_)
    | (with_reducible refine Kept.fst (by with_reducible assumption) ?_)

theorem State.formTick_kept {i : Nat} {inp : List Nat × Nat} {tick : Nat} {s : State} : Kept 8261550 s (State.formTick i inp tick s) := by
  unfold State.formTick
  repeat' first
    | (intro)
    | with_reducible assumption
    | with_reducible exact Kept.refl _ _
    | exact Eq.refl _
    | split
    | (with_reducible apply Kept.step State.applyResult_kept)
    | (with_reducible apply Kept.step State.modPx_kept)
    | (with_reducible apply Kept.step State.modPt_kept)
    | (with_reducible refine Kept.snd (by with_reducible assumption) ?_)
    | (with_reducible refine Kept.fst (by with_reducible assumption) ?_)

theorem State.staleTick_kept {i : Nat} {tick : Nat} {s : State} : Kept 8261550 s (State.staleTick i tick s) := by
  unfold State.staleTick
  repeat' first
    | (intro)
    | with_reducible assumption
    | with_reducible exact Kept.refl _ _
    | exact Eq.refl _
    | (extract_lets +onlyGivenNames x
       first
       | (have hx : Kept 8261550 s x := ?_
          clear_value x
          rotate_left
          subst x
          rotate_left)
       | clear_value x)
    | split
    | (with_reducible apply Kept.step State.toVote_kept)
    | (with_reducible apply Kept.step State.speedPoint_kept)
    | (with_reducible apply Kept.step State.evalPoint_kept)
    | (with_reducible apply Kept.step State.requal_kept)
    | (with_reducible apply Kept.step State.modPx_kept)
    | (with_reducible apply Kept.step State.modPt_kept)
    | (with_reducible refine Kept.snd (by with_reducible assumption) ?_)
    | (with_reducible refine Kept.fst (by with_reducible assumption) ?_)

theorem State.readbackTick_kept {i : Nat} {tick : Nat} {s : State} : Kept 8261550 s (State.readbackTick i tick s) := by
  unfold State.readbackTick
  repeat' first
    | (intro)
    | with_reducible assumption
    | with_reducible exact Kept.refl _ _
    | exact Eq.refl _
    | (extract_lets +onlyGivenNames x
       first
       | (have hx : Kept 8261550 s x := ?_
          clear_value x
          rotate_left
          subst x
          rotate_left)
       | clear_value x)
    | split
    | (with_reducible apply Kept.step State.toVote_kept)
    | (with_reducible apply Kept.step State.evalPoint_kept)
    | (with_reducible apply Kept.step State.requal_kept)
    | (with_reducible apply Kept.step State.setPx_kept)
    | (with_reducible apply Kept.step State.modPt_kept)
    | (with_reducible apply Kept.step State.raise_kept)
    | (with_reducible apply Kept.step State.bump_kept)
    | (with_reducible refine Kept.snd (by with_reducible assumption) ?_)
    | (with_reducible refine Kept.fst (by with_reducible assumption) ?_)

theorem State.deviationTick_kept {i : Nat} {tick : Nat} {s : State} : Kept 7210798 s (State.deviationTick i tick s) := by
  unfold State.deviationTick
  repeat' first
    | (intro)
    | with_reducible assumption
    | with_reducible exact Kept.refl _ _
    | exact Eq.refl _
    | (with_reducible refine Kept.ofId ?_)
    | split
    | (with_reducible apply State.input_kept)
    | (with_reducible apply Kept.step State.syncProfile_kept)
    | (with_reducible apply Kept.step State.evalCond_kept)
    | (with_reducible refine Kept.snd (by with_reducible assumption) ?_)
    | (with_reducible refine Kept.fst (by with_reducible assumption) ?_)

theorem State.scanTick_kept {k : Nat} {s : State} : Kept 8261550 s (State.scanTick k s) := by
  unfold State.scanTick
  repeat' first
    | (intro)
    | with_reducible assumption
    | with_reducible exact Kept.refl _ _
    | exact Eq.refl _
    | (with_reducible apply Kept.step State.deviationTick_kept)
    | (with_reducible apply Kept.step State.readbackTick_kept)
    | (with_reducible apply Kept.step State.staleTick_kept)
    | (with_reducible apply Kept.step State.formTick_kept)
    | (with_reducible refine Kept.fold ?_ ?_)
    | (with_reducible refine Kept.foldSnd ?_ ?_)
    | (with_reducible refine Kept.foldFst ?_ ?_)

end Sys2Proof.Machine
end

