-- ==== Sys2Proof/Laws/KeptBkpOps.lean ====
section
/-! SUPPORT. What the operations of Machine/BkpOps.lean leave alone. -/

set_option linter.tactic.unusedName false

namespace Sys2Proof.Machine

set_option Elab.async false

theorem State.bkpRaise_kept {code : Nat} {obj : Nat} {args : List Nat} {stamp : Nat} {s : State} : Kept 6881320 s (State.bkpRaise code obj args stamp s) := by
  unfold State.bkpRaise
  repeat' first
    | (intro)
    | with_reducible assumption
    | with_reducible exact Kept.refl _ _
    | exact Eq.refl _
    | split
    | (with_reducible apply Kept.step State.raise_kept)
    | (with_reducible apply Kept.step State.onBkp_kept)
    | (with_reducible refine Kept.snd (by with_reducible assumption) ?_)
    | (with_reducible refine Kept.fst (by with_reducible assumption) ?_)

theorem State.bkpUnlatch_kept {s : State} : Kept 6881320 s (State.bkpUnlatch s) := by
  unfold State.bkpUnlatch
  repeat' first
    | (intro)
    | with_reducible assumption
    | with_reducible exact Kept.refl _ _
    | exact Eq.refl _
    | (with_reducible apply Kept.step State.raiseAt_kept)
    | (with_reducible apply Kept.step State.onBkp_kept)
    | (with_reducible refine Kept.fold ?_ ?_)
    | (with_reducible refine Kept.foldSnd ?_ ?_)
    | (with_reducible refine Kept.foldFst ?_ ?_)

theorem State.pwronAssert_kept {s : State} : Kept 6881326 s (State.pwronAssert s) := by
  unfold State.pwronAssert
  repeat' first
    | (intro)
    | with_reducible assumption
    | with_reducible exact Kept.refl _ _
    | exact Eq.refl _
    | split
    | (with_reducible apply Kept.step State.bkpRaise_kept)
    | (with_reducible apply Kept.step State.wf_kept)
    | (with_reducible apply Kept.step State.onBkp_kept)
    | (with_reducible refine Kept.snd (by with_reducible assumption) ?_)
    | (with_reducible refine Kept.fst (by with_reducible assumption) ?_)

theorem State.pwronAsk_kept {src : Nat} {s : State} : Kept 6881326 s (State.pwronAsk src s) := by
  unfold State.pwronAsk
  repeat' first
    | (intro)
    | with_reducible assumption
    | with_reducible exact Kept.refl _ _
    | exact Eq.refl _
    | (extract_lets +onlyGivenNames x
       first
       | (have hx : Kept 6881326 s x := ?_
          clear_value x
          rotate_left
          subst x
          rotate_left)
       | clear_value x)
    | split
    | (with_reducible apply Kept.step State.pwronAssert_kept)
    | (with_reducible apply Kept.step State.bump_kept)
    | (with_reducible apply Kept.step State.wf_kept)
    | (with_reducible refine Kept.snd (by with_reducible assumption) ?_)
    | (with_reducible refine Kept.fst (by with_reducible assumption) ?_)

theorem State.rtcTo_kept {k : Nat} {s : State} : Kept 1114112 s (State.rtcTo k s) := by
  unfold State.rtcTo
  repeat' first
    | (intro)
    | with_reducible assumption
    | with_reducible exact Kept.refl _ _
    | exact Eq.refl _
    | (extract_lets +onlyGivenNames x
       first
       | (have hx : Kept 1114112 s x := ?_
          clear_value x
          rotate_left
          subst x
          rotate_left)
       | clear_value x)
    | split
    | (with_reducible apply Kept.step State.fresh_kept)
    | (with_reducible apply Kept.step State.onBkp_kept)
    | (with_reducible refine Kept.snd (by with_reducible assumption) ?_)
    | (with_reducible refine Kept.fst (by with_reducible assumption) ?_)

theorem State.rtcNow_kept {s : State} : Kept 1114112 s (State.rtcNow s) := by
  unfold State.rtcNow
  repeat' first
    | (intro)
    | with_reducible assumption
    | with_reducible exact Kept.refl _ _
    | exact Eq.refl _
    | (with_reducible apply Kept.step State.rtcTo_kept)

theorem State.capLatch_kept {k : Nat} {s : State} : Kept 5308422 s (State.capLatch k s) := by
  unfold State.capLatch
  repeat' first
    | (intro)
    | with_reducible assumption
    | with_reducible exact Kept.refl _ _
    | exact Eq.refl _
    | (with_reducible apply Kept.step State.rtcTo_kept)
    | (with_reducible apply Kept.step State.wf_kept)
    | (with_reducible apply Kept.step State.wr_kept)

theorem State.rtcCapture_kept {s : State} : Kept 5308422 s (State.rtcCapture s) := by
  unfold State.rtcCapture
  repeat' first
    | (intro)
    | with_reducible assumption
    | with_reducible exact Kept.refl _ _
    | exact Eq.refl _
    | (with_reducible apply Kept.step State.capLatch_kept)
    | (with_reducible apply Kept.step State.onBkp_kept)

theorem State.alarmCheck_kept {s : State} : Kept 6881326 s (State.alarmCheck s) := by
  unfold State.alarmCheck
  repeat' first
    | (intro)
    | with_reducible assumption
    | with_reducible exact Kept.refl _ _
    | exact Eq.refl _
    | (extract_lets +onlyGivenNames x
       first
       | (have hx : Kept 6881326 s x := ?_
          clear_value x
          rotate_left
          subst x
          rotate_left)
       | clear_value x)
    | split
    | (with_reducible apply Kept.step State.pwronAsk_kept)
    | (with_reducible apply Kept.step State.bkpRaise_kept)
    | (with_reducible apply Kept.step State.wf_kept)
    | (with_reducible apply Kept.step State.onBkp_kept)
    | (with_reducible refine Kept.snd (by with_reducible assumption) ?_)
    | (with_reducible refine Kept.fst (by with_reducible assumption) ?_)

theorem State.rtcMoved_kept {k : Nat} {s : State} : Kept 7929902 s (State.rtcMoved k s) := by
  unfold State.rtcMoved
  repeat' first
    | (intro)
    | with_reducible assumption
    | with_reducible exact Kept.refl _ _
    | exact Eq.refl _
    | split
    | (with_reducible apply Kept.step State.alarmCheck_kept)
    | (with_reducible apply Kept.step State.capLatch_kept)
    | (with_reducible refine Kept.snd (by with_reducible assumption) ?_)
    | (with_reducible refine Kept.fst (by with_reducible assumption) ?_)

theorem State.rtcSet_kept {v : Nat} {auto : Bool} {s : State} : Kept 7929902 s (State.rtcSet v auto s) := by
  unfold State.rtcSet
  repeat' first
    | (intro)
    | with_reducible assumption
    | with_reducible exact Kept.refl _ _
    | exact Eq.refl _
    | (with_reducible apply Kept.step State.rtcMoved_kept)
    | (with_reducible apply Kept.step State.rtcTo_kept)
    | (with_reducible apply Kept.step State.bkpRaise_kept)
    | (with_reducible apply Kept.step State.onBkp_kept)

theorem State.rtcShift_kept {d : Int} {auto : Bool} {s : State} : Kept 7929902 s (State.rtcShift d auto s) := by
  unfold State.rtcShift
  repeat' first
    | (intro)
    | with_reducible assumption
    | with_reducible exact Kept.refl _ _
    | exact Eq.refl _
    | (with_reducible apply Kept.step State.rtcMoved_kept)
    | (with_reducible apply Kept.step State.rtcTo_kept)
    | (with_reducible apply Kept.step State.bkpRaise_kept)
    | (with_reducible apply Kept.step State.onBkp_kept)

theorem State.rtcAuto_kept {s : State} : Kept 7929902 s (State.rtcAuto s) := by
  unfold State.rtcAuto
  repeat' first
    | (intro)
    | with_reducible assumption
    | with_reducible exact Kept.refl _ _
    | exact Eq.refl _
    | (extract_lets +onlyGivenNames x
       first
       | (have hx : Kept 7929902 s x := ?_
          clear_value x
          rotate_left
          subst x
          rotate_left)
       | clear_value x)
    | split
    | (with_reducible apply Kept.step State.rtcShift_kept)
    | (with_reducible apply Kept.step State.rtcSet_kept)
    | (with_reducible apply Kept.step State.rtcNow_kept)
    | (with_reducible refine Kept.snd (by with_reducible assumption) ?_)
    | (with_reducible refine Kept.fst (by with_reducible assumption) ?_)

theorem State.utcFollow_kept {s : State} : Kept 4194310 s (State.utcFollow s) := by
  unfold State.utcFollow
  repeat' first
    | (intro)
    | with_reducible assumption
    | with_reducible exact Kept.refl _ _
    | exact Eq.refl _
    | split
    | (with_reducible apply Kept.step State.wf_kept)
    | (with_reducible refine Kept.snd (by with_reducible assumption) ?_)
    | (with_reducible refine Kept.fst (by with_reducible assumption) ?_)

theorem State.trimBreak_kept {s : State} : Kept 65536 s (State.trimBreak s) := by
  unfold State.trimBreak
  repeat' first
    | (intro)
    | with_reducible assumption
    | with_reducible exact Kept.refl _ _
    | exact Eq.refl _
    | (with_reducible apply Kept.step State.onBkp_kept)

theorem State.wtBreak_kept {s : State} : Kept 65536 s (State.wtBreak s) := by
  unfold State.wtBreak
  repeat' first
    | (intro)
    | with_reducible assumption
    | with_reducible exact Kept.refl _ _
    | exact Eq.refl _
    | (with_reducible apply Kept.step State.onBkp_kept)

theorem State.trimBegin_kept {s : State} : Kept 65536 s (State.trimBegin s) := by
  unfold State.trimBegin
  repeat' first
    | (intro)
    | with_reducible assumption
    | with_reducible exact Kept.refl _ _
    | exact Eq.refl _
    | (with_reducible apply Kept.step State.onBkp_kept)

theorem State.bkpPor_kept {s : State} : Kept 6881326 s (State.bkpPor s) := by
  unfold State.bkpPor
  repeat' first
    | (intro)
    | with_reducible assumption
    | with_reducible exact Kept.refl _ _
    | exact Eq.refl _
    | (with_reducible apply Kept.step State.bkpRaise_kept)
    | (with_reducible apply Kept.step State.wf_kept)
    | (with_reducible apply Kept.step State.onBkp_kept)
    | (with_reducible apply Kept.step (State.onRegsN_kept ?_))
    | exact twf_filter ‹_› _
    | (with_reducible apply Kept.step (State.onRegs_kept ?_))
    | exact twf_filter ‹_› _

end Sys2Proof.Machine
end

