-- ==== Sys2Proof/Laws/KeptBcnOps.lean ====
section
/-! SUPPORT. What the operations of Machine/BcnOps.lean leave alone. -/

set_option linter.tactic.unusedName false

namespace Sys2Proof.Machine

set_option Elab.async false

theorem State.setLost_kept {n : Nat} {b : Bool} {s : State} : Kept 4194310 s (State.setLost n b s) := by
  unfold State.setLost
  repeat' first
    | (intro)
    | with_reducible assumption
    | with_reducible exact Kept.refl _ _
    | exact Eq.refl _
    | (extract_lets +onlyGivenNames x
       first
       | (have hx : Kept 4194310 s x := ?_
          clear_value x
          rotate_left
          subst x
          rotate_left)
       | clear_value x)
    | split
    | (with_reducible apply Kept.step State.wf_kept)
    | (with_reducible refine Kept.snd (by with_reducible assumption) ?_)
    | (with_reducible refine Kept.fst (by with_reducible assumption) ?_)

theorem State.bcnKeep_kept {s : State} : Kept 4194310 s (State.bcnKeep s) := by
  unfold State.bcnKeep
  repeat' first
    | (intro)
    | with_reducible assumption
    | with_reducible exact Kept.refl _ _
    | exact Eq.refl _
    | (with_reducible apply Kept.step State.wf_kept)
    | (with_reducible refine Kept.fold ?_ ?_)
    | (with_reducible refine Kept.foldSnd ?_ ?_)
    | (with_reducible refine Kept.foldFst ?_ ?_)

theorem State.bcnShow_kept {s : State} : Kept 4194310 s (State.bcnShow s) := by
  unfold State.bcnShow
  repeat' first
    | (intro)
    | with_reducible assumption
    | with_reducible exact Kept.refl _ _
    | exact Eq.refl _
    | (with_reducible apply Kept.step State.wf_kept)
    | (with_reducible refine Kept.fold ?_ ?_)
    | (with_reducible refine Kept.foldSnd ?_ ?_)
    | (with_reducible refine Kept.foldFst ?_ ?_)

theorem State.bcnSettle_kept {s : State} : Kept 4194310 s (State.bcnSettle s) := by
  unfold State.bcnSettle
  repeat' first
    | (intro)
    | with_reducible assumption
    | with_reducible exact Kept.refl _ _
    | exact Eq.refl _
    | (extract_lets +onlyGivenNames x
       first
       | (have hx : Kept 4194310 s x := ?_
          clear_value x
          rotate_left
          subst x
          rotate_left)
       | clear_value x)
    | split
    | (with_reducible apply Kept.step State.bcnShow_kept)
    | (with_reducible apply Kept.step State.bcnKeep_kept)
    | (with_reducible refine Kept.snd (by with_reducible assumption) ?_)
    | (with_reducible refine Kept.fst (by with_reducible assumption) ?_)

theorem State.callSend_kept {station : Nat} {payload : Nat} {s : State} : Kept 6815918 s (State.callSend station payload s) := by
  unfold State.callSend
  repeat' first
    | (intro)
    | with_reducible assumption
    | with_reducible exact Kept.refl _ _
    | exact Eq.refl _
    | split
    | (with_reducible apply Kept.step State.send_kept)
    | (with_reducible refine Kept.snd (by with_reducible assumption) ?_)
    | (with_reducible refine Kept.fst (by with_reducible assumption) ?_)

theorem State.callSet_kept {station : Nat} {q : BSeq} {st : Nat} {s : State} : Kept 6848686 s (State.callSet station q st s) := by
  unfold State.callSet
  repeat' first
    | (intro)
    | with_reducible assumption
    | with_reducible exact Kept.refl _ _
    | exact Eq.refl _
    | (with_reducible apply Kept.step State.callSend_kept)
    | (with_reducible apply Kept.step State.onBcn_kept)

theorem State.callAll_kept {q : BSeq} {st : Nat} {s : State} : Kept 6848686 s (State.callAll q st s) := by
  unfold State.callAll
  repeat' first
    | (intro)
    | with_reducible assumption
    | with_reducible exact Kept.refl _ _
    | exact Eq.refl _
    | (with_reducible apply Kept.step State.callSet_kept)
    | (with_reducible refine Kept.fold ?_ ?_)
    | (with_reducible refine Kept.foldSnd ?_ ?_)
    | (with_reducible refine Kept.foldFst ?_ ?_)

theorem State.setSeq_kept {q : BSeq} {s : State} : Kept 32768 s (State.setSeq q s) := by
  unfold State.setSeq
  repeat' first
    | (intro)
    | with_reducible assumption
    | with_reducible exact Kept.refl _ _
    | exact Eq.refl _
    | (with_reducible apply Kept.step State.onBcn_kept)

theorem State.stageStart_kept {q : BSeq} {k : Nat} {s : State} : Kept 6848686 s (State.stageStart q k s) := by
  unfold State.stageStart
  repeat' first
    | (intro)
    | with_reducible assumption
    | with_reducible exact Kept.refl _ _
    | exact Eq.refl _
    | (with_reducible apply Kept.step State.setSeq_kept)
    | (with_reducible apply Kept.step State.callAll_kept)
    | (with_reducible apply Kept.step State.raise_kept)
    | (with_reducible apply Kept.step State.bump_kept)
    | (with_reducible refine Kept.fold ?_ ?_)
    | (with_reducible refine Kept.foldSnd ?_ ?_)
    | (with_reducible refine Kept.foldFst ?_ ?_)

theorem State.seqRun_kept {q : BSeq} {s : State} : Kept 6848686 s (State.seqRun q s) := by
  unfold State.seqRun
  repeat' first
    | (intro)
    | with_reducible assumption
    | with_reducible exact Kept.refl _ _
    | exact Eq.refl _
    | (extract_lets +onlyGivenNames x
       first
       | (have hx : Kept 6848686 s x := ?_
          clear_value x
          rotate_left
          subst x
          rotate_left)
       | clear_value x)
    | split
    | (with_reducible apply Kept.step State.stageStart_kept)
    | (with_reducible apply Kept.step State.setSeq_kept)
    | (with_reducible apply Kept.step State.callAll_kept)
    | (with_reducible apply Kept.step State.onBcn_kept)
    | (with_reducible refine Kept.snd (by with_reducible assumption) ?_)
    | (with_reducible refine Kept.fst (by with_reducible assumption) ?_)

theorem State.grantN_kept {a0 : Nat} {a1 : State} : Kept 6848686 a1 (State.grantN a0 a1) := by
  induction a0 generalizing a1 with
  | zero =>
    unfold State.grantN
    repeat' first
      | (intro)
      | with_reducible assumption
      | with_reducible exact Kept.refl _ _
      | exact Eq.refl _
      | (extract_lets +onlyGivenNames x
         first
         | (have hx : Kept 6848686 a1 x := ?_
            clear_value x
            rotate_left
            subst x
            rotate_left)
         | clear_value x)
      | split
      | (with_reducible apply Kept.step State.seqRun_kept)
      | (with_reducible apply Kept.step ih)
      | (with_reducible refine Kept.fold ?_ ?_)
      | (with_reducible refine Kept.foldSnd ?_ ?_)
      | (with_reducible refine Kept.foldFst ?_ ?_)
      | (with_reducible refine Kept.snd (by with_reducible assumption) ?_)
      | (with_reducible refine Kept.fst (by with_reducible assumption) ?_)

  | succ n ih =>
    unfold State.grantN
    repeat' first
      | (intro)
      | with_reducible assumption
      | with_reducible exact Kept.refl _ _
      | exact Eq.refl _
      | (extract_lets +onlyGivenNames x
         first
         | (have hx : Kept 6848686 a1 x := ?_
            clear_value x
            rotate_left
            subst x
            rotate_left)
         | clear_value x)
      | split
      | (with_reducible apply Kept.step State.seqRun_kept)
      | (with_reducible apply Kept.step ih)
      | (with_reducible refine Kept.fold ?_ ?_)
      | (with_reducible refine Kept.foldSnd ?_ ?_)
      | (with_reducible refine Kept.foldFst ?_ ?_)
      | (with_reducible refine Kept.snd (by with_reducible assumption) ?_)
      | (with_reducible refine Kept.fst (by with_reducible assumption) ?_)

theorem State.ovfCheck_kept {s : State} : Kept 32768 s (State.ovfCheck s) := by
  unfold State.ovfCheck
  repeat' first
    | (intro)
    | with_reducible assumption
    | with_reducible exact Kept.refl _ _
    | exact Eq.refl _
    | split
    | (with_reducible apply Kept.step State.onBcn_kept)
    | (with_reducible refine Kept.snd (by with_reducible assumption) ?_)
    | (with_reducible refine Kept.fst (by with_reducible assumption) ?_)

theorem State.ovfEnter_kept {s : State} : Kept 6848558 s (State.ovfEnter s) := by
  unfold State.ovfEnter
  repeat' first
    | (intro)
    | with_reducible assumption
    | with_reducible exact Kept.refl _ _
    | exact Eq.refl _
    | split
    | (with_reducible apply Kept.step State.raise_kept)
    | (with_reducible apply Kept.step State.bump_kept)
    | (with_reducible apply Kept.step State.onBcn_kept)
    | (with_reducible refine Kept.snd (by with_reducible assumption) ?_)
    | (with_reducible refine Kept.fst (by with_reducible assumption) ?_)

theorem State.bcnRequest_kept {key : Nat} {tmpl : Nat} {s : State} : Kept 6914222 s (State.bcnRequest key tmpl s).2 := by
  unfold State.bcnRequest
  repeat' first
    | (intro)
    | with_reducible assumption
    | with_reducible exact Kept.refl _ _
    | exact Eq.refl _
    | (extract_lets +onlyGivenNames x
       first
       | (have hx : Kept 6914222 s x := ?_
          clear_value x
          rotate_left
          subst x
          rotate_left)
       | clear_value x)
    | split
    | (with_reducible apply Kept.step State.ovfEnter_kept)
    | (with_reducible apply Kept.step State.seqRun_kept)
    | (with_reducible apply Kept.step State.setSeq_kept)
    | (with_reducible apply Kept.step State.callAll_kept)
    | (with_reducible apply Kept.step State.bcnSettle_kept)
    | (with_reducible apply Kept.step State.pwronAsk_kept)
    | (with_reducible apply Kept.step State.raise_kept)
    | (with_reducible apply Kept.step State.bump_kept)
    | (with_reducible apply Kept.step State.onBcn_kept)
    | (with_reducible refine Kept.fold ?_ ?_)
    | (with_reducible refine Kept.foldSnd ?_ ?_)
    | (with_reducible refine Kept.foldFst ?_ ?_)
    | (with_reducible refine Kept.snd (by with_reducible assumption) ?_)
    | (with_reducible refine Kept.fst (by with_reducible assumption) ?_)

theorem State.dmTimer_kept {u : Nat} {sec : Nat} {s : State} : Kept 4227078 s (State.dmTimer u sec s) := by
  unfold State.dmTimer
  repeat' first
    | (intro)
    | with_reducible assumption
    | with_reducible exact Kept.refl _ _
    | exact Eq.refl _
    | (with_reducible apply Kept.step State.wf_kept)
    | (with_reducible apply Kept.step State.onBcn_kept)

theorem State.dmRun_kept {u : Nat} {s : State} : Kept 4227078 s (State.dmRun u s) := by
  unfold State.dmRun
  repeat' first
    | (intro)
    | with_reducible assumption
    | with_reducible exact Kept.refl _ _
    | exact Eq.refl _
    | (with_reducible apply Kept.step State.dmTimer_kept)
    | (with_reducible apply Kept.step State.wf_kept)

theorem State.dmOff_kept {u : Nat} {s : State} : Kept 4227078 s (State.dmOff u s) := by
  unfold State.dmOff
  repeat' first
    | (intro)
    | with_reducible assumption
    | with_reducible exact Kept.refl _ _
    | exact Eq.refl _
    | (with_reducible apply Kept.step State.wf_kept)
    | (with_reducible apply Kept.step State.onBcn_kept)

theorem State.dmInput_kept {u : Nat} {op : Nat} {s : State} : Kept 4227078 s (State.dmInput u op s).2 := by
  unfold State.dmInput
  repeat' first
    | (intro)
    | with_reducible assumption
    | with_reducible exact Kept.refl _ _
    | exact Eq.refl _
    | (extract_lets +onlyGivenNames x
       first
       | (have hx : Kept 4227078 s x := ?_
          clear_value x
          rotate_left
          subst x
          rotate_left)
       | clear_value x)
    | split
    | (with_reducible apply Kept.step State.dmOff_kept)
    | (with_reducible apply Kept.step State.dmRun_kept)
    | (with_reducible refine Kept.snd (by with_reducible assumption) ?_)
    | (with_reducible refine Kept.fst (by with_reducible assumption) ?_)

theorem State.dmAccepts_kept {s : State} : Kept 4227078 s (State.dmAccepts s) := by
  unfold State.dmAccepts
  repeat' first
    | (intro)
    | with_reducible assumption
    | with_reducible exact Kept.refl _ _
    | exact Eq.refl _
    | split
    | (with_reducible apply Kept.step State.dmInput_kept)
    | (with_reducible refine Kept.fold ?_ ?_)
    | (with_reducible refine Kept.foldSnd ?_ ?_)
    | (with_reducible refine Kept.foldFst ?_ ?_)
    | (with_reducible refine Kept.snd (by with_reducible assumption) ?_)
    | (with_reducible refine Kept.fst (by with_reducible assumption) ?_)

theorem State.seqEnd_kept {key : Nat} {src : Nat} {s : State} : Kept 6848686 s (State.seqEnd key src s) := by
  unfold State.seqEnd
  repeat' first
    | (intro)
    | with_reducible assumption
    | with_reducible exact Kept.refl _ _
    | exact Eq.refl _
    | (extract_lets +onlyGivenNames x
       first
       | (have hx : Kept 6848686 s x := ?_
          clear_value x
          rotate_left
          subst x
          rotate_left)
       | clear_value x)
    | split
    | (with_reducible apply Kept.step State.dmOff_kept)
    | (with_reducible apply Kept.step State.callAll_kept)
    | (with_reducible apply Kept.step State.raise_kept)
    | (with_reducible apply Kept.step State.onBcn_kept)
    | (with_reducible refine Kept.snd (by with_reducible assumption) ?_)
    | (with_reducible refine Kept.fst (by with_reducible assumption) ?_)

theorem State.ctrlAccept_kept {keys : List Nat} {src : Nat} {s : State} : Kept 6848686 s (State.ctrlAccept keys src s).2 := by
  unfold State.ctrlAccept
  repeat' first
    | (intro)
    | with_reducible assumption
    | with_reducible exact Kept.refl _ _
    | exact Eq.refl _
    | (with_reducible apply Kept.step State.seqEnd_kept)
    | (with_reducible apply Kept.step State.dmAccepts_kept)
    | (with_reducible apply Kept.step State.ovfCheck_kept)
    | (with_reducible apply Kept.step State.grantN_kept)
    | (with_reducible apply Kept.step State.bcnSettle_kept)
    | (with_reducible refine Kept.fold ?_ ?_)
    | (with_reducible refine Kept.foldSnd ?_ ?_)
    | (with_reducible refine Kept.foldFst ?_ ?_)

theorem State.seqAttend_kept {key : Nat} {station : Nat} {s : State} : Kept 6848686 s (State.seqAttend key station s) := by
  unfold State.seqAttend
  repeat' first
    | (intro)
    | with_reducible assumption
    | with_reducible exact Kept.refl _ _
    | exact Eq.refl _
    | split
    | (with_reducible apply Kept.step State.setSeq_kept)
    | (with_reducible apply Kept.step State.callAll_kept)
    | (with_reducible apply Kept.step State.raise_kept)
    | (with_reducible refine Kept.snd (by with_reducible assumption) ?_)
    | (with_reducible refine Kept.fst (by with_reducible assumption) ?_)

theorem State.bcnWatch_kept {w : Nat} {k : Nat} {mirror : Bool} {s : State} : Kept 6914222 s (State.bcnWatch w k mirror s) := by
  unfold State.bcnWatch
  repeat' first
    | (intro)
    | with_reducible assumption
    | with_reducible exact Kept.refl _ _
    | exact Eq.refl _
    | split
    | (with_reducible apply Kept.step State.bcnRequest_kept)
    | (with_reducible refine Kept.snd (by with_reducible assumption) ?_)
    | (with_reducible refine Kept.fst (by with_reducible assumption) ?_)

end Sys2Proof.Machine
end

