-- ==== Sys2Proof/Laws/KeptLioIn.lean ====
section
/-! SUPPORT. What the operations of Machine/LioIn.lean leave alone. -/

set_option linter.tactic.unusedName false

namespace Sys2Proof.Machine

set_option Elab.async false

theorem State.aiNote_kept {n : Nat} {s : State} : Kept 8192 s (State.aiNote n s) := by
  unfold State.aiNote
  repeat' first
    | (intro)
    | with_reducible assumption
    | with_reducible exact Kept.refl _ _
    | exact Eq.refl _
    | (with_reducible apply Kept.step State.modAix_kept)

theorem State.localUpdate_kept {i : Nat} {v : Nat} {q : Nat} {t : Nat} {s : State} : Kept 262400 s (State.localUpdate i v q t s) := by
  unfold State.localUpdate
  repeat' first
    | (intro)
    | with_reducible assumption
    | with_reducible exact Kept.refl _ _
    | exact Eq.refl _
    | split
    | (with_reducible apply Kept.step State.toTile_kept)
    | (with_reducible apply Kept.step State.onPwr_kept)
    | (with_reducible refine Kept.snd (by with_reducible assumption) ?_)
    | (with_reducible refine Kept.fst (by with_reducible assumption) ?_)

theorem State.localTick_kept {i : Nat} {tick : Nat} {s : State} : Kept 270592 s (State.localTick i tick s) := by
  unfold State.localTick
  repeat' first
    | (intro)
    | with_reducible assumption
    | with_reducible exact Kept.refl _ _
    | exact Eq.refl _
    | (extract_lets +onlyGivenNames x
       first
       | (have hx : Kept 270592 s x := ?_
          clear_value x
          rotate_left
          subst x
          rotate_left)
       | clear_value x)
    | split
    | (with_reducible apply Kept.step State.localUpdate_kept)
    | (with_reducible apply Kept.step State.modAix_kept)
    | (with_reducible refine Kept.snd (by with_reducible assumption) ?_)
    | (with_reducible refine Kept.fst (by with_reducible assumption) ?_)

theorem State.localTicks_kept {pts : List Nat} {k : Nat} {s : State} : Kept 270592 s (State.localTicks pts k s) := by
  unfold State.localTicks
  repeat' first
    | (intro)
    | with_reducible assumption
    | with_reducible exact Kept.refl _ _
    | exact Eq.refl _
    | (with_reducible apply Kept.step State.localTick_kept)
    | (with_reducible refine Kept.fold ?_ ?_)
    | (with_reducible refine Kept.foldSnd ?_ ?_)
    | (with_reducible refine Kept.foldFst ?_ ?_)

theorem State.stageQual_kept {ch : Nat} {s : State} : Kept 8261550 s (State.stageQual ch s) := by
  unfold State.stageQual
  repeat' first
    | (intro)
    | with_reducible assumption
    | with_reducible exact Kept.refl _ _
    | exact Eq.refl _
    | (with_reducible refine Kept.ofId ?_)
    | split
    | (with_reducible apply Kept.step State.toVote_kept)
    | (with_reducible apply Kept.step State.evalPoint_kept)
    | (with_reducible apply Kept.step State.requal_kept)
    | (with_reducible apply State.keep_kept)
    | (with_reducible refine Kept.snd (by with_reducible assumption) ?_)
    | (with_reducible refine Kept.fst (by with_reducible assumption) ?_)

theorem State.aoSafe_kept {n : Nat} {s : State} : Kept 4202502 s (State.aoSafe n s) := by
  unfold State.aoSafe
  repeat' first
    | (intro)
    | with_reducible assumption
    | with_reducible exact Kept.refl _ _
    | exact Eq.refl _
    | split
    | (with_reducible apply Kept.step State.setDac_kept)
    | (with_reducible apply Kept.step State.wf_kept)
    | (with_reducible refine Kept.snd (by with_reducible assumption) ?_)
    | (with_reducible refine Kept.fst (by with_reducible assumption) ?_)

theorem State.pulseSafe_kept {k : Nat} {s : State} : Kept 4202502 s (State.pulseSafe k s) := by
  unfold State.pulseSafe
  repeat' first
    | (intro)
    | with_reducible assumption
    | with_reducible exact Kept.refl _ _
    | exact Eq.refl _
    | (with_reducible apply Kept.step State.pulseCut_kept)
    | (with_reducible apply Kept.step State.setPulse_kept)
    | (with_reducible apply Kept.step State.turnOff_kept)
    | (with_reducible apply Kept.step State.setCmd_kept)
    | (with_reducible apply Kept.step State.wf_kept)

theorem State.dioSafe_kept {ch : Nat} {s : State} : Kept 6823982 s (State.dioSafe ch s) := by
  unfold State.dioSafe
  repeat' first
    | (intro)
    | with_reducible assumption
    | with_reducible exact Kept.refl _ _
    | exact Eq.refl _
    | split
    | (with_reducible apply Kept.step State.pulseSafe_kept)
    | (with_reducible apply Kept.step State.doCommand_kept)
    | (with_reducible apply Kept.step State.wf_kept)
    | (with_reducible refine Kept.snd (by with_reducible assumption) ?_)
    | (with_reducible refine Kept.fst (by with_reducible assumption) ?_)

theorem State.allSafe_kept {s : State} : Kept 6823982 s (State.allSafe s) := by
  unfold State.allSafe
  repeat' first
    | (intro)
    | with_reducible assumption
    | with_reducible exact Kept.refl _ _
    | exact Eq.refl _
    | (with_reducible apply Kept.step State.dioSafe_kept)
    | (with_reducible apply Kept.step State.aoSafe_kept)
    | (with_reducible refine Kept.fold ?_ ?_)
    | (with_reducible refine Kept.foldSnd ?_ ?_)
    | (with_reducible refine Kept.foldFst ?_ ?_)

theorem State.setHart_kept {n : Nat} {x : HartX} {s : State} : Kept 4202502 s (State.setHart n x s) := by
  unfold State.setHart
  repeat' first
    | (intro)
    | with_reducible assumption
    | with_reducible exact Kept.refl _ _
    | exact Eq.refl _
    | (with_reducible apply Kept.step State.wf_kept)
    | (with_reducible apply Kept.step State.onLio_kept)

theorem State.hartSettle_kept {n : Nat} {s : State} : Kept 4202502 s (State.hartSettle n s) := by
  unfold State.hartSettle
  repeat' first
    | (intro)
    | with_reducible assumption
    | with_reducible exact Kept.refl _ _
    | exact Eq.refl _
    | (extract_lets +onlyGivenNames x
       first
       | (have hx : Kept 4202502 s x := ?_
          clear_value x
          rotate_left
          subst x
          rotate_left)
       | clear_value x)
    | split
    | (with_reducible apply Kept.step State.setHart_kept)
    | (with_reducible refine Kept.snd (by with_reducible assumption) ?_)
    | (with_reducible refine Kept.fst (by with_reducible assumption) ?_)

theorem State.hartErr_kept {n : Nat} {what : Nat} {s : State} : Kept 6823982 s (State.hartErr n what s) := by
  unfold State.hartErr
  repeat' first
    | (intro)
    | with_reducible assumption
    | with_reducible exact Kept.refl _ _
    | exact Eq.refl _
    | (with_reducible apply Kept.step State.lioEvent_kept)
    | (with_reducible apply Kept.step State.bump_kept)

theorem State.hartPush_kept {n : Nat} {b : Nat} {s : State} : Kept 6823982 s (State.hartPush n b s) := by
  unfold State.hartPush
  repeat' first
    | (intro)
    | with_reducible assumption
    | with_reducible exact Kept.refl _ _
    | exact Eq.refl _
    | (extract_lets +onlyGivenNames x
       first
       | (have hx : Kept 6823982 s x := ?_
          clear_value x
          rotate_left
          subst x
          rotate_left)
       | clear_value x)
    | split
    | (with_reducible apply Kept.step State.hartErr_kept)
    | (with_reducible apply Kept.step State.hartSettle_kept)
    | (with_reducible apply Kept.step State.setHart_kept)
    | (with_reducible refine Kept.snd (by with_reducible assumption) ?_)
    | (with_reducible refine Kept.fst (by with_reducible assumption) ?_)

theorem State.hartPop_kept {n : Nat} {s : State} : Kept 4202502 s (State.hartPop n s).2 := by
  unfold State.hartPop
  repeat' first
    | (intro)
    | with_reducible assumption
    | with_reducible exact Kept.refl _ _
    | exact Eq.refl _
    | (extract_lets +onlyGivenNames x
       first
       | (have hx : Kept 4202502 s x := ?_
          clear_value x
          rotate_left
          subst x
          rotate_left)
       | clear_value x)
    | split
    | (with_reducible apply Kept.step State.setHart_kept)
    | (with_reducible refine Kept.snd (by with_reducible assumption) ?_)
    | (with_reducible refine Kept.fst (by with_reducible assumption) ?_)

end Sys2Proof.Machine
end

