-- ==== Sys2Proof/Laws/KeptLtnOps.lean ====
section
/-! SUPPORT. What the operations of Machine/LtnOps.lean leave alone. -/

set_option linter.tactic.unusedName false

namespace Sys2Proof.Machine

set_option Elab.async false

theorem State.setFb_kept {n : Nat} {b : Tab Nat} {s : State} : Kept 16384 s (State.setFb n b s) := by
  unfold State.setFb
  repeat' first
    | (intro)
    | with_reducible assumption
    | with_reducible exact Kept.refl _ _
    | exact Eq.refl _
    | (with_reducible apply Kept.step State.onLtn_kept)

theorem State.setCrc_kept {n : Nat} {v : Nat} {s : State} : Kept 4194310 s (State.setCrc n v s) := by
  unfold State.setCrc
  repeat' first
    | (intro)
    | with_reducible assumption
    | with_reducible exact Kept.refl _ _
    | exact Eq.refl _
    | (with_reducible apply Kept.step State.wf_kept)

theorem State.swapAsk_kept {ds : List TileDraw} {s : State} : Kept 16384 s (State.swapAsk ds s) := by
  unfold State.swapAsk
  repeat' first
    | (intro)
    | with_reducible assumption
    | with_reducible exact Kept.refl _ _
    | exact Eq.refl _
    | (with_reducible apply Kept.step State.onLtn_kept)

theorem State.markTiles_kept {ds : List TileDraw} {s : State} : Kept 4194310 s (State.markTiles ds s) := by
  unfold State.markTiles
  repeat' first
    | (intro)
    | with_reducible assumption
    | with_reducible exact Kept.refl _ _
    | exact Eq.refl _
    | (with_reducible apply Kept.step State.wf_kept)
    | (with_reducible refine Kept.fold ?_ ?_)
    | (with_reducible refine Kept.foldSnd ?_ ?_)
    | (with_reducible refine Kept.foldFst ?_ ?_)

theorem State.swapNow_kept {s : State} : Kept 4210694 s (State.swapNow s) := by
  unfold State.swapNow
  repeat' first
    | (intro)
    | with_reducible assumption
    | with_reducible exact Kept.refl _ _
    | exact Eq.refl _
    | split
    | (with_reducible apply Kept.step State.markTiles_kept)
    | (with_reducible apply Kept.step State.wf_kept)
    | (with_reducible apply Kept.step State.onLtn_kept)
    | (with_reducible refine Kept.snd (by with_reducible assumption) ?_)
    | (with_reducible refine Kept.fst (by with_reducible assumption) ?_)

theorem State.composeStart_kept {sst : Nat → Nat} {s : State} : Kept 16384 s (State.composeStart sst s) := by
  unfold State.composeStart
  repeat' first
    | (intro)
    | with_reducible assumption
    | with_reducible exact Kept.refl _ _
    | exact Eq.refl _
    | (with_reducible apply Kept.step State.onLtn_kept)

theorem State.drawInto_kept {n : Nat} {ds : List TileDraw} {s : State} : Kept 4210694 s (State.drawInto n ds s) := by
  unfold State.drawInto
  repeat' first
    | (intro)
    | with_reducible assumption
    | with_reducible exact Kept.refl _ _
    | exact Eq.refl _
    | (with_reducible apply Kept.step State.setCrc_kept)
    | (with_reducible apply Kept.step State.setFb_kept)

theorem State.setSect_kept {n : Nat} {r : Rec 128} {s : State} : Kept 1024 s (State.setSect n r s) := by
  unfold State.setSect
  repeat' first
    | (intro)
    | with_reducible assumption
    | with_reducible exact Kept.refl _ _
    | exact Eq.refl _
    | (with_reducible apply Kept.step State.onSec_kept)

theorem State.composeAsk_kept {s : State} : Kept 16384 s (State.composeAsk s) := by
  unfold State.composeAsk
  repeat' first
    | (intro)
    | with_reducible assumption
    | with_reducible exact Kept.refl _ _
    | exact Eq.refl _
    | split
    | (with_reducible apply Kept.step State.composeStart_kept)
    | (with_reducible apply Kept.step State.onLtn_kept)
    | (with_reducible refine Kept.snd (by with_reducible assumption) ?_)
    | (with_reducible refine Kept.fst (by with_reducible assumption) ?_)

theorem State.ltnSector_kept {n : Nat} {s : State} : Kept 16384 s (State.ltnSector n s) := by
  unfold State.ltnSector
  repeat' first
    | (intro)
    | with_reducible assumption
    | with_reducible exact Kept.refl _ _
    | exact Eq.refl _
    | split
    | (with_reducible apply Kept.step State.composeAsk_kept)
    | (with_reducible refine Kept.snd (by with_reducible assumption) ?_)
    | (with_reducible refine Kept.fst (by with_reducible assumption) ?_)

theorem State.vcomSettle_kept {s : State} : Kept 4194310 s (State.vcomSettle s) := by
  unfold State.vcomSettle
  repeat' first
    | (intro)
    | with_reducible assumption
    | with_reducible exact Kept.refl _ _
    | exact Eq.refl _
    | (with_reducible apply Kept.step State.wf_kept)

theorem State.lightSettle_kept {s : State} : Kept 16384 s (State.lightSettle s) := by
  unfold State.lightSettle
  repeat' first
    | (intro)
    | with_reducible assumption
    | with_reducible exact Kept.refl _ _
    | exact Eq.refl _
    | (with_reducible apply Kept.step State.onLtn_kept)

theorem State.panelState_kept {p : Nat} {s : State} : Kept 4210694 s (State.panelState p s) := by
  unfold State.panelState
  repeat' first
    | (intro)
    | with_reducible assumption
    | with_reducible exact Kept.refl _ _
    | exact Eq.refl _
    | (with_reducible apply Kept.step State.lightSettle_kept)
    | (with_reducible apply Kept.step State.vcomSettle_kept)
    | (with_reducible apply Kept.step State.wf_kept)

theorem State.geomSettle_kept {s : State} : Kept 16384 s (State.geomSettle s) := by
  unfold State.geomSettle
  repeat' first
    | (intro)
    | with_reducible assumption
    | with_reducible exact Kept.refl _ _
    | exact Eq.refl _
    | split
    | (with_reducible apply Kept.step State.onLtn_kept)
    | (with_reducible refine Kept.snd (by with_reducible assumption) ?_)
    | (with_reducible refine Kept.fst (by with_reducible assumption) ?_)

theorem State.panelStart_kept {s : State} : Kept 6832174 s (State.panelStart s) := by
  unfold State.panelStart
  repeat' first
    | (intro)
    | with_reducible assumption
    | with_reducible exact Kept.refl _ _
    | exact Eq.refl _
    | (extract_lets +onlyGivenNames x
       first
       | (have hx : Kept 6832174 s x := ?_
          clear_value x
          rotate_left
          subst x
          rotate_left)
       | clear_value x)
    | split
    | (with_reducible apply Kept.step State.geomSettle_kept)
    | (with_reducible apply Kept.step State.panelState_kept)
    | (with_reducible apply Kept.step State.drawInto_kept)
    | (with_reducible apply Kept.step State.markTiles_kept)
    | (with_reducible apply Kept.step State.setCrc_kept)
    | (with_reducible apply Kept.step State.setFb_kept)
    | (with_reducible apply Kept.step State.raise_kept)
    | (with_reducible apply Kept.step State.wf_kept)
    | (with_reducible apply Kept.step State.onLtn_kept)
    | (with_reducible refine Kept.snd (by with_reducible assumption) ?_)
    | (with_reducible refine Kept.fst (by with_reducible assumption) ?_)

theorem State.statesShown_kept {s : State} : Kept 16384 s (State.statesShown s) := by
  unfold State.statesShown
  repeat' first
    | (intro)
    | with_reducible assumption
    | with_reducible exact Kept.refl _ _
    | exact Eq.refl _
    | split
    | (with_reducible apply Kept.step State.composeAsk_kept)
    | (with_reducible apply Kept.step State.onLtn_kept)
    | (with_reducible refine Kept.snd (by with_reducible assumption) ?_)
    | (with_reducible refine Kept.fst (by with_reducible assumption) ?_)

theorem State.panelStop_kept {s : State} : Kept 4210694 s (State.panelStop s) := by
  unfold State.panelStop
  repeat' first
    | (intro)
    | with_reducible assumption
    | with_reducible exact Kept.refl _ _
    | exact Eq.refl _
    | (extract_lets +onlyGivenNames x
       first
       | (have hx : Kept 4210694 s x := ?_
          clear_value x
          rotate_left
          subst x
          rotate_left)
       | clear_value x)
    | split
    | (with_reducible apply Kept.step State.panelState_kept)
    | (with_reducible apply Kept.step State.onLtn_kept)
    | (with_reducible refine Kept.snd (by with_reducible assumption) ?_)
    | (with_reducible refine Kept.fst (by with_reducible assumption) ?_)

theorem State.panelRetain_kept {s : State} : Kept 4210694 s (State.panelRetain s) := by
  unfold State.panelRetain
  repeat' first
    | (intro)
    | with_reducible assumption
    | with_reducible exact Kept.refl _ _
    | exact Eq.refl _
    | split
    | (with_reducible apply Kept.step State.panelState_kept)
    | (with_reducible apply Kept.step State.onLtn_kept)
    | (with_reducible refine Kept.snd (by with_reducible assumption) ?_)
    | (with_reducible refine Kept.fst (by with_reducible assumption) ?_)

theorem State.allDirty_kept {s : State} : Kept 16384 s (State.allDirty s) := by
  unfold State.allDirty
  repeat' first
    | (intro)
    | with_reducible assumption
    | with_reducible exact Kept.refl _ _
    | exact Eq.refl _
    | (with_reducible apply Kept.step State.onLtn_kept)

theorem State.panelResume_kept {s : State} : Kept 4210694 s (State.panelResume s) := by
  unfold State.panelResume
  repeat' first
    | (intro)
    | with_reducible assumption
    | with_reducible exact Kept.refl _ _
    | exact Eq.refl _
    | split
    | (with_reducible apply Kept.step State.allDirty_kept)
    | (with_reducible apply Kept.step State.panelState_kept)
    | (with_reducible apply Kept.step State.onLtn_kept)
    | (with_reducible refine Kept.snd (by with_reducible assumption) ?_)
    | (with_reducible refine Kept.fst (by with_reducible assumption) ?_)

theorem State.panelLost_kept {s : State} : Kept 4210694 s (State.panelLost s) := by
  unfold State.panelLost
  repeat' first
    | (intro)
    | with_reducible assumption
    | with_reducible exact Kept.refl _ _
    | exact Eq.refl _
    | split
    | (with_reducible apply Kept.step State.panelState_kept)
    | (with_reducible apply Kept.step State.wf_kept)
    | (with_reducible apply Kept.step State.onLtn_kept)
    | (with_reducible refine Kept.snd (by with_reducible assumption) ?_)
    | (with_reducible refine Kept.fst (by with_reducible assumption) ?_)

theorem State.modeEvent_kept {cause : Nat} {s : State} : Kept 6815784 s (State.modeEvent cause s) := by
  unfold State.modeEvent
  repeat' first
    | (intro)
    | with_reducible assumption
    | with_reducible exact Kept.refl _ _
    | exact Eq.refl _
    | (with_reducible apply Kept.step State.raise_kept)

theorem State.fallbackTile_kept {cause : Nat} {s : State} : Kept 6832174 s (State.fallbackTile cause s) := by
  unfold State.fallbackTile
  repeat' first
    | (intro)
    | with_reducible assumption
    | with_reducible exact Kept.refl _ _
    | exact Eq.refl _
    | split
    | (with_reducible apply Kept.step State.modeEvent_kept)
    | (with_reducible apply Kept.step State.composeAsk_kept)
    | (with_reducible apply Kept.step State.dirtyMod_kept)
    | (with_reducible apply Kept.step State.wf_kept)
    | (with_reducible refine Kept.snd (by with_reducible assumption) ?_)
    | (with_reducible refine Kept.fst (by with_reducible assumption) ?_)

end Sys2Proof.Machine
end

