-- ==== Sys2Proof/Laws/KeptSecOps.lean ====
section
/-! SUPPORT. What the operations of Machine/SecOps.lean leave alone. -/

set_option linter.tactic.unusedName false

namespace Sys2Proof.Machine

set_option Elab.async false

theorem State.sectFlags_kept {n : Nat} {s : State} : Kept 1024 s (State.sectFlags n s) := by
  unfold State.sectFlags
  repeat' first
    | (intro)
    | with_reducible assumption
    | with_reducible exact Kept.refl _ _
    | exact Eq.refl _
    | (with_reducible apply Kept.step State.setSect_kept)

theorem State.sectorOut_kept {n : Nat} {seq : Nat} {s : State} : Kept 6832168 s (State.sectorOut n seq s) := by
  unfold State.sectorOut
  repeat' first
    | (intro)
    | with_reducible assumption
    | with_reducible exact Kept.refl _ _
    | exact Eq.refl _
    | split
    | (with_reducible apply Kept.step State.ltnSector_kept)
    | (with_reducible apply Kept.step State.entriesPut_kept)
    | (with_reducible refine Kept.fold ?_ ?_)
    | (with_reducible refine Kept.foldSnd ?_ ?_)
    | (with_reducible refine Kept.foldFst ?_ ?_)
    | (with_reducible refine Kept.snd (by with_reducible assumption) ?_)
    | (with_reducible refine Kept.fst (by with_reducible assumption) ?_)

theorem State.sectorsOut_kept {before : List (Nat × Nat)} {seq : Nat} {s : State} : Kept 6832168 s (State.sectorsOut before seq s) := by
  unfold State.sectorsOut
  repeat' first
    | (intro)
    | with_reducible assumption
    | with_reducible exact Kept.refl _ _
    | exact Eq.refl _
    | split
    | (with_reducible apply Kept.step State.sectorOut_kept)
    | (with_reducible refine Kept.fold ?_ ?_)
    | (with_reducible refine Kept.foldSnd ?_ ?_)
    | (with_reducible refine Kept.foldFst ?_ ?_)
    | (with_reducible refine Kept.snd (by with_reducible assumption) ?_)
    | (with_reducible refine Kept.fst (by with_reducible assumption) ?_)

theorem State.sectorsBy_kept {m : Nat} {s0 : State} {ns : List Nat} {f : State → State} {s : State} (h0 : Kept m s0 s) (hm : 6833192 ||| m = m) (hf : ∀ (x0 : State), Kept m s0 x0 → Kept m s0 (f x0)) : Kept m s0 (State.sectorsBy ns f s) := by
  unfold State.sectorsBy
  repeat' first
    | (intro)
    | with_reducible assumption
    | with_reducible exact Kept.refl _ _
    | exact Eq.refl _
    | (with_reducible refine Kept.ofId ?_)
    | exact lor_sub (by rfl) hm
    | (with_reducible apply Kept.step State.sectorsOut_kept)
    | (with_reducible apply Kept.step State.sectFlags_kept)
    | (with_reducible apply hf)
    | (with_reducible refine Kept.fold ?_ ?_)
    | (with_reducible refine Kept.foldSnd ?_ ?_)
    | (with_reducible refine Kept.foldFst ?_ ?_)

theorem State.modLink_kept {c : Nat} {f : Rec 4 → Rec 4} {s : State} : Kept 1024 s (State.modLink c f s) := by
  unfold State.modLink
  repeat' first
    | (intro)
    | with_reducible assumption
    | with_reducible exact Kept.refl _ _
    | exact Eq.refl _
    | (with_reducible apply Kept.step State.onSec_kept)

theorem State.setMir_kept {n : Nat} {r : Rec 32} {s : State} : Kept 1024 s (State.setMir n r s) := by
  unfold State.setMir
  repeat' first
    | (intro)
    | with_reducible assumption
    | with_reducible exact Kept.refl _ _
    | exact Eq.refl _
    | (with_reducible apply Kept.step State.onSec_kept)

theorem State.setCause_kept {n : Nat} {r : Rec 32} {s : State} : Kept 1024 s (State.setCause n r s) := by
  unfold State.setCause
  repeat' first
    | (intro)
    | with_reducible assumption
    | with_reducible exact Kept.refl _ _
    | exact Eq.refl _
    | (with_reducible apply Kept.step State.onSec_kept)

theorem State.setHeld_kept {key : Nat} {b : Bool} {s : State} : Kept 4195334 s (State.setHeld key b s) := by
  unfold State.setHeld
  repeat' first
    | (intro)
    | with_reducible assumption
    | with_reducible exact Kept.refl _ _
    | exact Eq.refl _
    | split
    | (with_reducible apply Kept.step State.setMir_kept)
    | (with_reducible apply Kept.step State.modLink_kept)
    | (with_reducible apply Kept.step State.gauge_kept)
    | (with_reducible refine Kept.snd (by with_reducible assumption) ?_)
    | (with_reducible refine Kept.fst (by with_reducible assumption) ?_)

theorem State.countMember_kept {up : Bool} {m : Member} {held : Bool} {s : State} : Kept 1024 s (State.countMember up m held s) := by
  unfold State.countMember
  repeat' first
    | (intro)
    | with_reducible assumption
    | with_reducible exact Kept.refl _ _
    | exact Eq.refl _
    | (with_reducible apply Kept.step State.setSect_kept)
    | (with_reducible refine Kept.fold ?_ ?_)
    | (with_reducible refine Kept.foldSnd ?_ ?_)
    | (with_reducible refine Kept.foldFst ?_ ?_)

theorem State.reMember_kept {key : Nat} {m : Option Member} {held : Bool} {s : State} : Kept 4195334 s (State.reMember key m held s) := by
  unfold State.reMember
  repeat' first
    | (intro)
    | with_reducible assumption
    | with_reducible exact Kept.refl _ _
    | exact Eq.refl _
    | split
    | (with_reducible apply Kept.step State.countMember_kept)
    | (with_reducible apply Kept.step State.setHeld_kept)
    | (with_reducible apply Kept.step State.onSec_kept)
    | (with_reducible refine Kept.snd (by with_reducible assumption) ?_)
    | (with_reducible refine Kept.fst (by with_reducible assumption) ?_)

theorem State.foEvent_kept {n : Nat} {s : State} : Kept 6815784 s (State.foEvent n s) := by
  unfold State.foEvent
  repeat' first
    | (intro)
    | with_reducible assumption
    | with_reducible exact Kept.refl _ _
    | exact Eq.refl _
    | (with_reducible apply Kept.step State.raise_kept)

theorem State.firstOut_kept {n : Nat} {c : Chg} {s : State} : Kept 6816808 s (State.firstOut n c s) := by
  unfold State.firstOut
  repeat' first
    | (intro)
    | with_reducible assumption
    | with_reducible exact Kept.refl _ _
    | exact Eq.refl _
    | (extract_lets +onlyGivenNames x
       first
       | (have hx : Kept 6816808 s x := ?_
          clear_value x
          rotate_left
          subst x
          rotate_left)
       | clear_value x)
    | split
    | (with_reducible apply Kept.step State.foEvent_kept)
    | (with_reducible apply Kept.step State.setSect_kept)
    | (with_reducible apply Kept.step State.dirtyMod_kept)
    | (with_reducible refine Kept.snd (by with_reducible assumption) ?_)
    | (with_reducible refine Kept.fst (by with_reducible assumption) ?_)

theorem State.suppMove_kept {c : Nat} {up : Bool} {mark : Nat} {s : State} : Kept 4195334 s (State.suppMove c up mark s) := by
  unfold State.suppMove
  repeat' first
    | (intro)
    | with_reducible assumption
    | with_reducible exact Kept.refl _ _
    | exact Eq.refl _
    | (extract_lets +onlyGivenNames x
       first
       | (have hx : Kept 4195334 s x := ?_
          clear_value x
          rotate_left
          subst x
          rotate_left)
       | clear_value x)
    | split
    | (with_reducible apply Kept.step State.modLink_kept)
    | (with_reducible apply Kept.step State.gauge_kept)
    | (with_reducible apply Kept.step State.onSec_kept)
    | (with_reducible refine Kept.snd (by with_reducible assumption) ?_)
    | (with_reducible refine Kept.fst (by with_reducible assumption) ?_)

theorem State.fanOut_kept {n : Nat} {up : Bool} {mark : Nat} {s : State} : Kept 4195334 s (State.fanOut n up mark s) := by
  unfold State.fanOut
  repeat' first
    | (intro)
    | with_reducible assumption
    | with_reducible exact Kept.refl _ _
    | exact Eq.refl _
    | (with_reducible apply Kept.step State.suppMove_kept)
    | (with_reducible refine Kept.fold ?_ ?_)
    | (with_reducible refine Kept.foldSnd ?_ ?_)
    | (with_reducible refine Kept.foldFst ?_ ?_)

theorem State.causeState_kept {n : Nat} {st : Nat} {s : State} : Kept 1024 s (State.causeState n st s) := by
  unfold State.causeState
  repeat' first
    | (intro)
    | with_reducible assumption
    | with_reducible exact Kept.refl _ _
    | exact Eq.refl _
    | (with_reducible apply Kept.step State.setCause_kept)

theorem State.causeTimer_kept {n : Nat} {t0 : Nat} {d : Nat} {s : State} : Kept 6817326 s (State.causeTimer n t0 d s) := by
  unfold State.causeTimer
  repeat' first
    | (intro)
    | with_reducible assumption
    | with_reducible exact Kept.refl _ _
    | exact Eq.refl _
    | (with_reducible apply Kept.step State.setCause_kept)
    | (with_reducible apply Kept.step State.timerStart_kept)

theorem State.causeCancel_kept {n : Nat} {s : State} : Kept 4195846 s (State.causeCancel n s) := by
  unfold State.causeCancel
  repeat' first
    | (intro)
    | with_reducible assumption
    | with_reducible exact Kept.refl _ _
    | exact Eq.refl _
    | (with_reducible apply Kept.step State.setCause_kept)
    | (with_reducible apply Kept.step State.timerStop_kept)

theorem State.causeTake_kept {n : Nat} {act : Bool} {t : Nat} {mark : Nat} {s : State} : Kept 6817326 s (State.causeTake n act t mark s) := by
  unfold State.causeTake
  repeat' first
    | (intro)
    | with_reducible assumption
    | with_reducible exact Kept.refl _ _
    | exact Eq.refl _
    | (extract_lets +onlyGivenNames x
       first
       | (have hx : Kept 6817326 s x := ?_
          clear_value x
          rotate_left
          subst x
          rotate_left)
       | clear_value x)
    | split
    | (with_reducible apply Kept.step State.causeCancel_kept)
    | (with_reducible apply Kept.step State.causeTimer_kept)
    | (with_reducible apply Kept.step State.causeState_kept)
    | (with_reducible apply Kept.step State.fanOut_kept)
    | (with_reducible apply Kept.step State.setCause_kept)
    | (with_reducible refine Kept.snd (by with_reducible assumption) ?_)
    | (with_reducible refine Kept.fst (by with_reducible assumption) ?_)

theorem State.setFlood_kept {w : Nat} {b : Bool} {s : State} : Kept 4194310 s (State.setFlood w b s) := by
  unfold State.setFlood
  repeat' first
    | (intro)
    | with_reducible assumption
    | with_reducible exact Kept.refl _ _
    | exact Eq.refl _
    | split
    | (with_reducible apply Kept.step State.wf_kept)
    | (with_reducible refine Kept.snd (by with_reducible assumption) ?_)
    | (with_reducible refine Kept.fst (by with_reducible assumption) ?_)

theorem State.floodNote_kept {w : Nat} {a : Nat} {s : State} : Kept 6816814 s (State.floodNote w a s).2 := by
  unfold State.floodNote
  repeat' first
    | (intro)
    | with_reducible assumption
    | with_reducible exact Kept.refl _ _
    | exact Eq.refl _
    | (extract_lets +onlyGivenNames x
       first
       | (have hx : Kept 6816814 s x := ?_
          clear_value x
          rotate_left
          subst x
          rotate_left)
       | clear_value x)
    | split
    | (with_reducible apply Kept.step State.setFlood_kept)
    | (with_reducible apply Kept.step State.raise_kept)
    | (with_reducible apply Kept.step State.bump_kept)
    | (with_reducible apply Kept.step State.wf_kept)
    | (with_reducible apply Kept.step State.onSec_kept)
    | (with_reducible refine Kept.snd (by with_reducible assumption) ?_)
    | (with_reducible refine Kept.fst (by with_reducible assumption) ?_)

theorem State.digestNote_kept {w : Nat} {prio : Nat} {s : State} : Kept 4195334 s (State.digestNote w prio s) := by
  unfold State.digestNote
  repeat' first
    | (intro)
    | with_reducible assumption
    | with_reducible exact Kept.refl _ _
    | exact Eq.refl _
    | (with_reducible apply Kept.step State.bump_kept)
    | (with_reducible apply Kept.step State.onSec_kept)

theorem State.judge_kept {ws : List Nat} {prio : Nat} {a : Nat} {s : State} : Kept 6816814 s (State.judge ws prio a s).2.2 := by
  unfold State.judge
  repeat' first
    | (intro)
    | with_reducible assumption
    | with_reducible exact Kept.refl _ _
    | exact Eq.refl _
    | (with_reducible apply Kept.step State.digestNote_kept)
    | (with_reducible apply Kept.step State.floodNote_kept)
    | (with_reducible refine Kept.fold ?_ ?_)
    | (with_reducible refine Kept.foldSnd ?_ ?_)
    | (with_reducible refine Kept.foldFst ?_ ?_)

theorem State.floodEnd_kept {w : Nat} {t : Nat} {s : State} : Kept 6833198 s (State.floodEnd w t s) := by
  unfold State.floodEnd
  repeat' first
    | (intro)
    | with_reducible assumption
    | with_reducible exact Kept.refl _ _
    | exact Eq.refl _
    | (with_reducible refine Kept.ofId ?_)
    | split
    | (with_reducible apply Kept.step State.setFlood_kept)
    | (with_reducible apply State.sectorsBy_kept)
    | (with_reducible apply Kept.step State.onSec_kept)
    | (with_reducible refine Kept.snd (by with_reducible assumption) ?_)
    | (with_reducible refine Kept.fst (by with_reducible assumption) ?_)

theorem State.floodRelease_kept {f : Flood} {s : State} : Kept 6931630 s (State.floodRelease f s) := by
  unfold State.floodRelease
  repeat' first
    | (intro)
    | with_reducible assumption
    | with_reducible exact Kept.refl _ _
    | exact Eq.refl _
    | (with_reducible refine Kept.ofId ?_)
    | split
    | (with_reducible apply Kept.step State.reMember_kept)
    | (with_reducible apply State.sectorsBy_kept)
    | (with_reducible apply Kept.step State.bcnWatch_kept)
    | (with_reducible apply Kept.step State.raise_kept)
    | (with_reducible apply Kept.step State.wf_kept)
    | (with_reducible apply Kept.step State.onSec_kept)
    | (with_reducible refine Kept.fold ?_ ?_)
    | (with_reducible refine Kept.foldSnd ?_ ?_)
    | (with_reducible refine Kept.foldFst ?_ ?_)
    | (with_reducible refine Kept.snd (by with_reducible assumption) ?_)
    | (with_reducible refine Kept.fst (by with_reducible assumption) ?_)

theorem State.changeOut_kept {c : Chg} {held : Bool} {ws : List Nat} {s : State} : Kept 6815784 s (State.changeOut c held ws s) := by
  unfold State.changeOut
  repeat' first
    | (intro)
    | with_reducible assumption
    | with_reducible exact Kept.refl _ _
    | exact Eq.refl _
    | (with_reducible apply Kept.step State.entriesPut_kept)
    | (with_reducible refine Kept.fold ?_ ?_)
    | (with_reducible refine Kept.foldSnd ?_ ?_)
    | (with_reducible refine Kept.foldFst ?_ ?_)

theorem State.changeRec_kept {c : Chg} {held : Bool} {was : Bool} {s : State} : Kept 6815790 s (State.changeRec c held was s) := by
  unfold State.changeRec
  repeat' first
    | (intro)
    | with_reducible assumption
    | with_reducible exact Kept.refl _ _
    | exact Eq.refl _
    | split
    | (with_reducible apply Kept.step State.ldgTake_kept)
    | (with_reducible apply Kept.step State.bump_kept)
    | (with_reducible apply Kept.step (State.onLdg_kept ?_))
    | (with_reducible refine Kept.snd (by with_reducible assumption) ?_)
    | (with_reducible refine Kept.fst (by with_reducible assumption) ?_)

theorem State.mirrorSend_kept {sub : Sub} {refresh : Bool} {refused : Bool} {seq : Nat} {t : Nat} {s : State} : Kept 6815918 s (State.mirrorSend sub refresh refused seq t s) := by
  unfold State.mirrorSend
  repeat' first
    | (intro)
    | with_reducible assumption
    | with_reducible exact Kept.refl _ _
    | exact Eq.refl _
    | (with_reducible apply Kept.step State.send_kept)
    | (with_reducible apply Kept.step State.onFab_kept)

theorem State.mirrorsOut_kept {c : Chg} {s : State} : Kept 6815918 s (State.mirrorsOut c s) := by
  unfold State.mirrorsOut
  repeat' first
    | (intro)
    | with_reducible assumption
    | with_reducible exact Kept.refl _ _
    | exact Eq.refl _
    | (with_reducible apply Kept.step State.mirrorSend_kept)
    | (with_reducible refine Kept.fold ?_ ?_)
    | (with_reducible refine Kept.foldSnd ?_ ?_)
    | (with_reducible refine Kept.foldFst ?_ ?_)

theorem State.sectorTake_kept {c : Chg} {s : State} : Kept 7991038 s (State.sectorTake c s) := by
  unfold State.sectorTake
  repeat' first
    | (intro)
    | with_reducible assumption
    | with_reducible exact Kept.refl _ _
    | exact Eq.refl _
    | (extract_lets +onlyGivenNames x
       first
       | (have hx : Kept 7991038 s x := ?_
          clear_value x
          rotate_left
          subst x
          rotate_left)
       | clear_value x)
    | split
    | (with_reducible apply Kept.step State.mirrorsOut_kept)
    | (with_reducible apply Kept.step State.changeRec_kept)
    | (with_reducible apply Kept.step State.changeOut_kept)
    | (with_reducible apply Kept.step State.judge_kept)
    | (with_reducible apply Kept.step State.causeTake_kept)
    | (with_reducible apply Kept.step State.firstOut_kept)
    | (with_reducible apply Kept.step State.reMember_kept)
    | (with_reducible apply Kept.step State.sectorsOut_kept)
    | (with_reducible apply Kept.step State.sectFlags_kept)
    | (with_reducible apply Kept.step State.bcnWatch_kept)
    | (with_reducible apply Kept.step State.capTrigger_kept)
    | (with_reducible apply Kept.step State.tripTrigger_kept)
    | (with_reducible apply Kept.step State.lrules_kept)
    | (with_reducible apply Kept.step State.onSec_kept)
    | (with_reducible refine Kept.fold ?_ ?_)
    | (with_reducible refine Kept.foldSnd ?_ ?_)
    | (with_reducible refine Kept.foldFst ?_ ?_)
    | (with_reducible refine Kept.snd (by with_reducible assumption) ?_)
    | (with_reducible refine Kept.fst (by with_reducible assumption) ?_)
    | (with_reducible refine Kept.thd (by with_reducible assumption) ?_)

theorem State.sectorNext_kept {s : State} : Kept 7991038 s (State.sectorNext s) := by
  unfold State.sectorNext
  repeat' first
    | (intro)
    | with_reducible assumption
    | with_reducible exact Kept.refl _ _
    | exact Eq.refl _
    | (extract_lets +onlyGivenNames x
       first
       | (have hx : Kept 7991038 s x := ?_
          clear_value x
          rotate_left
          subst x
          rotate_left)
       | clear_value x)
    | split
    | (with_reducible apply Kept.step State.sectorTake_kept)
    | (with_reducible apply Kept.step State.onSec_kept)
    | (with_reducible refine Kept.snd (by with_reducible assumption) ?_)
    | (with_reducible refine Kept.fst (by with_reducible assumption) ?_)

end Sys2Proof.Machine
end

