-- ==== Sys2Proof/Laws/KeptPntCfg.lean ====
section
/-! SUPPORT. What the operations of Machine/PntCfg.lean leave alone. -/

set_option linter.tactic.unusedName false

namespace Sys2Proof.Machine

set_option Elab.async false

theorem State.moveConds_kept {mv : List (Nat × Nat)} {s : State} : Kept 3616 s (State.moveConds mv s) := by
  unfold State.moveConds
  repeat' first
    | (intro)
    | with_reducible assumption
    | with_reducible exact Kept.refl _ _
    | exact Eq.refl _
    | (extract_lets +onlyGivenNames x
       first
       | (have hx : Kept 3616 s x := ?_
          clear_value x
          rotate_left
          subst x
          rotate_left)
       | clear_value x)
    | split
    | (with_reducible apply Kept.step State.wheelCut_kept)
    | (with_reducible apply Kept.step State.wheelPut_kept)
    | (with_reducible apply Kept.step State.onCmw_kept)
    | (with_reducible apply Kept.step State.onSec_kept)
    | (with_reducible apply Kept.step State.onAlm_kept)
    | (with_reducible apply Kept.step (State.onLdg_kept ?_))
    | (with_reducible refine Kept.fold ?_ ?_)
    | (with_reducible refine Kept.foldSnd ?_ ?_)
    | (with_reducible refine Kept.foldFst ?_ ?_)
    | (with_reducible refine Kept.snd (by with_reducible assumption) ?_)
    | (with_reducible refine Kept.fst (by with_reducible assumption) ?_)

theorem State.sectorsDrain_kept {s : State} : Kept 7991038 s (State.sectorsDrain s) := by
  unfold State.sectorsDrain
  repeat' first
    | (intro)
    | with_reducible assumption
    | with_reducible exact Kept.refl _ _
    | exact Eq.refl _
    | (with_reducible apply Kept.step State.sectorNext_kept)
    | (with_reducible refine Kept.fold ?_ ?_)
    | (with_reducible refine Kept.foldSnd ?_ ?_)
    | (with_reducible refine Kept.foldFst ?_ ?_)

theorem State.slotsOff_kept {i : Nat} {gone : List (Nat × Nat)} {s : State} : Kept 8384510 s (State.slotsOff i gone s) := by
  unfold State.slotsOff
  repeat' first
    | (intro)
    | with_reducible assumption
    | with_reducible exact Kept.refl _ _
    | exact Eq.refl _
    | (with_reducible refine Kept.ofId ?_)
    | split
    | (with_reducible apply Kept.step State.sectorsDrain_kept)
    | (with_reducible apply State.input_kept)
    | (with_reducible apply Kept.step State.delayStop_kept)
    | (with_reducible apply Kept.step State.setCs_kept)
    | (with_reducible apply Kept.step State.modCondX_kept)
    | (with_reducible refine Kept.fold ?_ ?_)
    | (with_reducible refine Kept.foldSnd ?_ ?_)
    | (with_reducible refine Kept.foldFst ?_ ?_)
    | (with_reducible refine Kept.snd (by with_reducible assumption) ?_)
    | (with_reducible refine Kept.fst (by with_reducible assumption) ?_)

theorem State.freeCond_kept {c : Nat} {s : State} : Kept 1536 s (State.freeCond c s) := by
  unfold State.freeCond
  repeat' first
    | (intro)
    | with_reducible assumption
    | with_reducible exact Kept.refl _ _
    | exact Eq.refl _
    | (with_reducible apply Kept.step State.onSec_kept)
    | (with_reducible apply Kept.step State.onAlm_kept)

theorem State.reseat_kept {i : Nat} {s : State} : Kept 6833198 s (State.reseat i s) := by
  unfold State.reseat
  repeat' first
    | (intro)
    | with_reducible assumption
    | with_reducible exact Kept.refl _ _
    | exact Eq.refl _
    | (with_reducible refine Kept.ofId ?_)
    | (extract_lets +onlyGivenNames x
       first
       | (have hx : Kept 6833198 s x := ?_
          clear_value x
          rotate_left
          subst x
          rotate_left)
       | clear_value x)
    | split
    | (with_reducible apply Kept.step State.reMember_kept)
    | (with_reducible apply State.sectorsBy_kept)
    | (with_reducible refine Kept.fold ?_ ?_)
    | (with_reducible refine Kept.foldSnd ?_ ?_)
    | (with_reducible refine Kept.foldFst ?_ ?_)
    | (with_reducible refine Kept.snd (by with_reducible assumption) ?_)
    | (with_reducible refine Kept.fst (by with_reducible assumption) ?_)

theorem State.writeCond_kept {c : Nat} {r : Rec 64} {x : Rec 16} {s : State} : Kept 4194822 s (State.writeCond c r x s) := by
  unfold State.writeCond
  repeat' first
    | (intro)
    | with_reducible assumption
    | with_reducible exact Kept.refl _ _
    | exact Eq.refl _
    | (extract_lets +onlyGivenNames x
       first
       | (have hx : Kept 4194822 s x := ?_
          clear_value x
          rotate_left
          subst x
          rotate_left)
       | clear_value x)
    | split
    | (with_reducible apply Kept.step State.return__kept)
    | (with_reducible apply Kept.step State.modCs_kept)
    | (with_reducible apply Kept.step State.setCs_kept)
    | (with_reducible apply Kept.step State.setCondX_kept)
    | (with_reducible apply Kept.step State.setCond_kept)
    | (with_reducible apply Kept.step State.onAlm_kept)
    | (with_reducible refine Kept.snd (by with_reducible assumption) ?_)
    | (with_reducible refine Kept.fst (by with_reducible assumption) ?_)

theorem State.confirmPt_kept {i : Nat} {s : State} : Kept 4194566 s (State.confirmPt i s) := by
  unfold State.confirmPt
  repeat' first
    | (intro)
    | with_reducible assumption
    | with_reducible exact Kept.refl _ _
    | exact Eq.refl _
    | split
    | (with_reducible apply Kept.step State.modPx_kept)
    | (with_reducible apply Kept.step State.drop_kept)
    | (with_reducible refine Kept.snd (by with_reducible assumption) ?_)
    | (with_reducible refine Kept.fst (by with_reducible assumption) ?_)

theorem State.pointStart_kept {i : Nat} {create : Bool} {home : Nat} {s : State} : Kept 256 s (State.pointStart i create home s) := by
  unfold State.pointStart
  repeat' first
    | (intro)
    | with_reducible assumption
    | with_reducible exact Kept.refl _ _
    | exact Eq.refl _
    | split
    | (with_reducible apply Kept.step State.modPx_kept)
    | (with_reducible apply Kept.step State.setPx_kept)
    | (with_reducible refine Kept.snd (by with_reducible assumption) ?_)
    | (with_reducible refine Kept.fst (by with_reducible assumption) ?_)

theorem State.commitPoint_kept {i : Nat} {base : Nat} {e : PtCfg} {shadow : Bool} {home : Nat} {s : State} : Kept 8384510 s (State.commitPoint i base e shadow home s) := by
  unfold State.commitPoint
  repeat' first
    | (intro)
    | with_reducible assumption
    | with_reducible exact Kept.refl _ _
    | exact Eq.refl _
    | (with_reducible refine Kept.ofId ?_)
    | split
    | (with_reducible apply Kept.step State.pointStart_kept)
    | (with_reducible apply Kept.step State.confirmPt_kept)
    | (with_reducible apply Kept.step State.writeCond_kept)
    | (with_reducible apply Kept.step State.reseat_kept)
    | (with_reducible apply Kept.step State.freeCond_kept)
    | (with_reducible apply Kept.step State.slotsOff_kept)
    | (with_reducible apply Kept.step State.sectorsDrain_kept)
    | (with_reducible apply Kept.step State.moveConds_kept)
    | (with_reducible apply Kept.step State.aiFollow_kept)
    | (with_reducible apply State.input_kept)
    | (with_reducible apply Kept.step State.evalCond_kept)
    | (with_reducible apply Kept.step State.delayStop_kept)
    | (with_reducible apply Kept.step State.histRebind_kept)
    | (with_reducible apply Kept.step State.tileGates_kept)
    | (with_reducible apply Kept.step State.requal_kept)
    | (with_reducible apply Kept.step State.setCond_kept)
    | (with_reducible apply Kept.step State.setPt_kept)
    | (with_reducible apply Kept.step State.wf_kept)
    | (with_reducible apply Kept.step State.onAlm_kept)
    | (with_reducible refine Kept.fold ?_ ?_)
    | (with_reducible refine Kept.foldSnd ?_ ?_)
    | (with_reducible refine Kept.foldFst ?_ ?_)
    | (with_reducible refine Kept.snd (by with_reducible assumption) ?_)
    | (with_reducible refine Kept.fst (by with_reducible assumption) ?_)

theorem State.replConfigTo_kept {dst : Nat} {i : Nat} {delete : Bool} {s : State} : Kept 6815918 s (State.replConfigTo dst i delete s) := by
  unfold State.replConfigTo
  repeat' first
    | (intro)
    | with_reducible assumption
    | with_reducible exact Kept.refl _ _
    | exact Eq.refl _
    | (with_reducible apply Kept.step State.send_kept)
    | (with_reducible refine Kept.foldr ?_ ?_)

theorem State.replConfig_kept {i : Nat} {delete : Bool} {s : State} : Kept 6815918 s (State.replConfig i delete s) := by
  unfold State.replConfig
  repeat' first
    | (intro)
    | with_reducible assumption
    | with_reducible exact Kept.refl _ _
    | exact Eq.refl _
    | split
    | (with_reducible apply Kept.step State.replConfigTo_kept)
    | (with_reducible refine Kept.snd (by with_reducible assumption) ?_)
    | (with_reducible refine Kept.fst (by with_reducible assumption) ?_)

theorem State.dropPoint_kept {i : Nat} {s : State} : Kept 8384510 s (State.dropPoint i s) := by
  unfold State.dropPoint
  repeat' first
    | (intro)
    | with_reducible assumption
    | with_reducible exact Kept.refl _ _
    | exact Eq.refl _
    | (with_reducible apply Kept.step State.confirmPt_kept)
    | (with_reducible apply Kept.step State.freeCond_kept)
    | (with_reducible apply Kept.step State.slotsOff_kept)
    | (with_reducible apply Kept.step State.aiFollow_kept)
    | (with_reducible apply Kept.step State.tileGates_kept)
    | (with_reducible apply Kept.step State.setPx_kept)
    | (with_reducible apply Kept.step State.setPt_kept)
    | (with_reducible apply Kept.step State.wf_kept)
    | (with_reducible apply Kept.step (State.onLdg_kept ?_))
    | (with_reducible refine Kept.fold ?_ ?_)
    | (with_reducible refine Kept.foldSnd ?_ ?_)
    | (with_reducible refine Kept.foldFst ?_ ?_)

end Sys2Proof.Machine
end

