-- ==== Sys2Proof/Laws/KeptPoints.lean ====
section
/-! SUPPORT. What the operations of Machine/Points.lean leave alone. -/

set_option linter.tactic.unusedName false

namespace Sys2Proof.Machine

set_option Elab.async false

theorem State.adapt_kept {i : Nat} {c : Nat} {b : Nat} {s : State} : Kept 7210926 s (State.adapt i c b s) := by
  unfold State.adapt
  repeat' first
    | (intro)
    | with_reducible assumption
    | with_reducible exact Kept.refl _ _
    | exact Eq.refl _
    | (with_reducible refine Kept.ofId ?_)
    | (extract_lets +onlyGivenNames x
       first
       | (have hx : Kept 7210926 s x := ?_
          clear_value x
          rotate_left
          subst x
          rotate_left)
       | clear_value x)
    | split
    | (with_reducible apply Kept.step State.replState_kept)
    | (with_reducible apply Kept.step State.condGuard_kept)
    | (with_reducible apply State.input_kept)
    | (with_reducible apply Kept.step State.drive_kept)
    | (with_reducible apply Kept.step State.setCondX_kept)
    | (with_reducible apply Kept.step State.modCond_kept)
    | (with_reducible apply Kept.step State.dirtyMod_kept)
    | (with_reducible apply Kept.step State.raise_kept)
    | (with_reducible apply Kept.step State.bump_kept)
    | (with_reducible refine Kept.snd (by with_reducible assumption) ?_)
    | (with_reducible refine Kept.fst (by with_reducible assumption) ?_)

theorem State.adaptSweep_kept {tile : Nat} {m : Nat} {s : State} : Kept 7210926 s (State.adaptSweep tile m s) := by
  unfold State.adaptSweep
  repeat' first
    | (intro)
    | with_reducible assumption
    | with_reducible exact Kept.refl _ _
    | exact Eq.refl _
    | (with_reducible apply Kept.step State.adapt_kept)
    | (with_reducible apply Kept.step State.onAlm_kept)
    | (with_reducible refine Kept.fold ?_ ?_)
    | (with_reducible refine Kept.foldSnd ?_ ?_)
    | (with_reducible refine Kept.foldFst ?_ ?_)

theorem State.minuteFirst_kept {tile : Nat} {s : State} : Kept 7210926 s (State.minuteFirst tile s) := by
  unfold State.minuteFirst
  repeat' first
    | (intro)
    | with_reducible assumption
    | with_reducible exact Kept.refl _ _
    | exact Eq.refl _
    | split
    | (with_reducible apply Kept.step State.adaptSweep_kept)
    | (with_reducible refine Kept.snd (by with_reducible assumption) ?_)
    | (with_reducible refine Kept.fst (by with_reducible assumption) ?_)

theorem State.minutesFirst_kept {s : State} : Kept 7210926 s (State.minutesFirst s) := by
  unfold State.minutesFirst
  repeat' first
    | (intro)
    | with_reducible assumption
    | with_reducible exact Kept.refl _ _
    | exact Eq.refl _
    | (with_reducible apply Kept.step State.minuteFirst_kept)
    | (with_reducible refine Kept.fold ?_ ?_)
    | (with_reducible refine Kept.foldSnd ?_ ?_)
    | (with_reducible refine Kept.foldFst ?_ ?_)

theorem State.turn_kept {t : Nat} {i : Nat} {s : State} : Kept 7210927 s (State.turn t i s) := by
  unfold State.turn
  repeat' first
    | (intro)
    | with_reducible assumption
    | with_reducible exact Kept.refl _ _
    | exact Eq.refl _
    | (extract_lets +onlyGivenNames x
       first
       | (have hx : Kept 7210927 s x := ?_
          clear_value x
          rotate_left
          subst x
          rotate_left)
       | clear_value x)
    | split
    | (with_reducible apply Kept.step State.minutesFirst_kept)
    | (with_reducible apply Kept.step State.minuteFirst_kept)
    | (with_reducible apply Kept.step State.at__kept)
    | (with_reducible refine Kept.snd (by with_reducible assumption) ?_)
    | (with_reducible refine Kept.fst (by with_reducible assumption) ?_)

theorem State.inTurn_kept {m : Nat} {s0 : State} {t : Nat} {i : Nat} {s : State} {f : State → State} (h0 : Kept m s0 s) (hm : 7210927 ||| m = m) (hf : ∀ (x0 : State), Kept m s0 x0 → Kept m s0 (f x0)) : Kept m s0 (State.inTurn t i s f) := by
  unfold State.inTurn
  repeat' first
    | (intro)
    | with_reducible assumption
    | with_reducible exact Kept.refl _ _
    | exact Eq.refl _
    | (with_reducible refine Kept.ofId ?_)
    | split
    | exact lor_sub (by rfl) hm
    | (with_reducible apply Kept.step State.turn_kept)
    | (with_reducible apply hf)
    | (with_reducible refine Kept.snd (by with_reducible assumption) ?_)
    | (with_reducible refine Kept.fst (by with_reducible assumption) ?_)

theorem spillWith_kept {m : Nat} {s0 : State} {res : State → Nat} {f : State → State} {s : State} (h0 : Kept m s0 s) (_hm : 0 ||| m = m) (hf : ∀ (x0 : State), Kept m s0 x0 → Kept m s0 (f x0)) : Kept m s0 (spillWith res f s).2 := by
  unfold spillWith
  repeat' first
    | (intro)
    | with_reducible assumption
    | with_reducible exact Kept.refl _ _
    | exact Eq.refl _
    | (with_reducible refine Kept.ofId ?_)
    | exact lor_sub (by rfl) hm
    | (with_reducible apply hf)

theorem configBody_kept {i : Nat} {e : State → PtCfg} {s : State} : Kept 8384510 s (configBody i e s).2 := by
  unfold configBody
  repeat' first
    | (intro)
    | with_reducible assumption
    | with_reducible exact Kept.refl _ _
    | exact Eq.refl _
    | (with_reducible refine Kept.ofId ?_)
    | (extract_lets +onlyGivenNames x
       first
       | (have hx : Kept 8384510 s x := ?_
          clear_value x
          rotate_left
          subst x
          rotate_left)
       | clear_value x)
    | split
    | (with_reducible apply spillWith_kept)
    | (with_reducible apply Kept.step State.replConfig_kept)
    | (with_reducible apply Kept.step State.commitPoint_kept)
    | (with_reducible apply Kept.step State.dirtyHost_kept)
    | (with_reducible refine Kept.snd (by with_reducible assumption) ?_)
    | (with_reducible refine Kept.fst (by with_reducible assumption) ?_)

theorem bodyPntConfig_kept {c : Cmd} {a1 : State} : Kept 8384510 a1 (bodyPntConfig c a1).2 := by
  unfold bodyPntConfig
  repeat' first
    | (intro)
    | with_reducible assumption
    | with_reducible exact Kept.refl _ _
    | exact Eq.refl _
    | (with_reducible apply Kept.step configBody_kept)

theorem execPntConfig_kept {t : Nat} {c : Cmd} {s : State} : KeptO 8384511 s (execPntConfig t c s) := by
  unfold execPntConfig
  repeat' first
    | (intro)
    | with_reducible assumption
    | with_reducible exact Kept.refl _ _
    | exact Eq.refl _
    | (with_reducible refine Kept.ofId ?_)
    | (with_reducible refine KeptO.next ?_)
    | (with_reducible apply Kept.step bodyPntConfig_kept)
    | (with_reducible apply State.inTurn_kept)
    | (with_reducible apply KeptO.lift State.done_kept)
    | (with_reducible apply State.command_kept)

theorem bodyPntConfigExpert_kept {c : Cmd} {a1 : State} : Kept 8384510 a1 (bodyPntConfigExpert c a1).2 := by
  unfold bodyPntConfigExpert
  repeat' first
    | (intro)
    | with_reducible assumption
    | with_reducible exact Kept.refl _ _
    | exact Eq.refl _
    | (with_reducible apply Kept.step configBody_kept)

theorem execPntConfigExpert_kept {t : Nat} {c : Cmd} {s : State} : KeptO 8384511 s (execPntConfigExpert t c s) := by
  unfold execPntConfigExpert
  repeat' first
    | (intro)
    | with_reducible assumption
    | with_reducible exact Kept.refl _ _
    | exact Eq.refl _
    | (with_reducible refine Kept.ofId ?_)
    | (with_reducible refine KeptO.next ?_)
    | (with_reducible apply Kept.step bodyPntConfigExpert_kept)
    | (with_reducible apply State.inTurn_kept)
    | (with_reducible apply KeptO.lift State.done_kept)
    | (with_reducible apply State.command_kept)

theorem bodyPntDelete_kept {c : Cmd} {a1 : State} : Kept 8384510 a1 (bodyPntDelete c a1).2 := by
  unfold bodyPntDelete
  repeat' first
    | (intro)
    | with_reducible assumption
    | with_reducible exact Kept.refl _ _
    | exact Eq.refl _
    | (extract_lets +onlyGivenNames x
       first
       | (have hx : Kept 8384510 a1 x := ?_
          clear_value x
          rotate_left
          subst x
          rotate_left)
       | clear_value x)
    | split
    | (with_reducible apply Kept.step State.dropPoint_kept)
    | (with_reducible apply Kept.step State.replConfig_kept)
    | (with_reducible apply Kept.step State.dirtyHost_kept)
    | (with_reducible refine Kept.snd (by with_reducible assumption) ?_)
    | (with_reducible refine Kept.fst (by with_reducible assumption) ?_)

theorem execPntDelete_kept {t : Nat} {c : Cmd} {s : State} : KeptO 8384511 s (execPntDelete t c s) := by
  unfold execPntDelete
  repeat' first
    | (intro)
    | with_reducible assumption
    | with_reducible exact Kept.refl _ _
    | exact Eq.refl _
    | (with_reducible refine Kept.ofId ?_)
    | (with_reducible refine KeptO.next ?_)
    | (with_reducible apply Kept.step bodyPntDelete_kept)
    | (with_reducible apply State.inTurn_kept)
    | (with_reducible apply KeptO.lift State.done_kept)
    | (with_reducible apply State.command_kept)

theorem bodyPntRead_kept {c : Cmd} {a1 : State} : Kept 15599406 a1 (bodyPntRead c a1).2 := by
  unfold bodyPntRead
  repeat' first
    | (intro)
    | with_reducible assumption
    | with_reducible exact Kept.refl _ _
    | exact Eq.refl _
    | (with_reducible apply Kept.step State.condGuard_kept)
    | (with_reducible apply Kept.step State.bufPut_kept)
    | (with_reducible refine Kept.foldr ?_ ?_)

theorem execPntRead_kept {t : Nat} {c : Cmd} {s : State} : KeptO 16648063 s (execPntRead t c s) := by
  unfold execPntRead
  repeat' first
    | (intro)
    | with_reducible assumption
    | with_reducible exact Kept.refl _ _
    | exact Eq.refl _
    | (with_reducible refine Kept.ofId ?_)
    | (with_reducible refine KeptO.next ?_)
    | (with_reducible apply Kept.step bodyPntRead_kept)
    | (with_reducible apply KeptO.lift State.done_kept)
    | (with_reducible apply State.command_kept)

theorem State.ownChange_kept {i : Nat} {fresh : Bool} {s : State} : Kept 8269742 s (State.ownChange i fresh s) := by
  unfold State.ownChange
  repeat' first
    | (intro)
    | with_reducible assumption
    | with_reducible exact Kept.refl _ _
    | exact Eq.refl _
    | split
    | (with_reducible apply Kept.step State.outPass_kept)
    | (with_reducible apply Kept.step State.toVote_kept)
    | (with_reducible apply Kept.step State.speedPoint_kept)
    | (with_reducible apply Kept.step State.replState_kept)
    | (with_reducible apply Kept.step State.evalPoint_kept)
    | (with_reducible apply Kept.step State.requal_kept)
    | (with_reducible apply Kept.step State.onAlm_kept)
    | (with_reducible refine Kept.snd (by with_reducible assumption) ?_)
    | (with_reducible refine Kept.fst (by with_reducible assumption) ?_)

theorem State.setValue_kept {i : Nat} {v : Nat} {s : State} : Kept 4194566 s (State.setValue i v s) := by
  unfold State.setValue
  repeat' first
    | (intro)
    | with_reducible assumption
    | with_reducible exact Kept.refl _ _
    | exact Eq.refl _
    | split
    | (with_reducible apply Kept.step State.storeFloat_kept)
    | (with_reducible apply Kept.step State.modPt_kept)
    | (with_reducible refine Kept.snd (by with_reducible assumption) ?_)
    | (with_reducible refine Kept.fst (by with_reducible assumption) ?_)

theorem bodyPntForce_kept {c : Cmd} {a1 : State} : Kept 8269742 a1 (bodyPntForce c a1).2 := by
  unfold bodyPntForce
  repeat' first
    | (intro)
    | with_reducible assumption
    | with_reducible exact Kept.refl _ _
    | exact Eq.refl _
    | (with_reducible refine Kept.ofId ?_)
    | (with_reducible apply Kept.step State.setValue_kept)
    | (with_reducible apply Kept.step State.ownChange_kept)
    | (with_reducible apply spillWith_kept)
    | (with_reducible apply Kept.step State.modPx_kept)
    | (with_reducible apply Kept.step State.modPt_kept)

theorem execPntForce_kept {t : Nat} {c : Cmd} {s : State} : KeptO 8269823 s (execPntForce t c s) := by
  unfold execPntForce
  repeat' first
    | (intro)
    | with_reducible assumption
    | with_reducible exact Kept.refl _ _
    | exact Eq.refl _
    | (with_reducible refine Kept.ofId ?_)
    | (with_reducible refine KeptO.next ?_)
    | (with_reducible apply Kept.step bodyPntForce_kept)
    | (with_reducible apply State.inTurn_kept)
    | (with_reducible apply KeptO.lift State.done_kept)
    | (with_reducible apply State.command_kept)

theorem State.unforce_kept {i : Nat} {bit : Nat} {s : State} : Kept 8269742 s (State.unforce i bit s) := by
  unfold State.unforce
  repeat' first
    | (intro)
    | with_reducible assumption
    | with_reducible exact Kept.refl _ _
    | exact Eq.refl _
    | (with_reducible apply Kept.step State.ownChange_kept)
    | (with_reducible apply Kept.step State.modPx_kept)

theorem bodyPntUnforce_kept {c : Cmd} {a1 : State} : Kept 8269742 a1 (bodyPntUnforce c a1).2 := by
  unfold bodyPntUnforce
  repeat' first
    | (intro)
    | with_reducible assumption
    | with_reducible exact Kept.refl _ _
    | exact Eq.refl _
    | (with_reducible refine Kept.ofId ?_)
    | split
    | (with_reducible apply Kept.step State.unforce_kept)
    | (with_reducible apply spillWith_kept)
    | (with_reducible refine Kept.snd (by with_reducible assumption) ?_)
    | (with_reducible refine Kept.fst (by with_reducible assumption) ?_)

theorem execPntUnforce_kept {t : Nat} {c : Cmd} {s : State} : KeptO 8269823 s (execPntUnforce t c s) := by
  unfold execPntUnforce
  repeat' first
    | (intro)
    | with_reducible assumption
    | with_reducible exact Kept.refl _ _
    | exact Eq.refl _
    | (with_reducible refine Kept.ofId ?_)
    | (with_reducible refine KeptO.next ?_)
    | (with_reducible apply Kept.step bodyPntUnforce_kept)
    | (with_reducible apply State.inTurn_kept)
    | (with_reducible apply KeptO.lift State.done_kept)
    | (with_reducible apply State.command_kept)

theorem State.simStore_kept {i : Nat} {v : Nat} {s : State} : Kept 8269742 s (State.simStore i v s) := by
  unfold State.simStore
  repeat' first
    | (intro)
    | with_reducible assumption
    | with_reducible exact Kept.refl _ _
    | exact Eq.refl _
    | split
    | (with_reducible apply Kept.step State.setValue_kept)
    | (with_reducible apply Kept.step State.ownChange_kept)
    | (with_reducible apply Kept.step State.modPx_kept)
    | (with_reducible refine Kept.snd (by with_reducible assumption) ?_)
    | (with_reducible refine Kept.fst (by with_reducible assumption) ?_)

theorem bodyPntSimStart_kept {c : Cmd} {a1 : State} : Kept 8269742 a1 (bodyPntSimStart c a1).2 := by
  unfold bodyPntSimStart
  repeat' first
    | (intro)
    | with_reducible assumption
    | with_reducible exact Kept.refl _ _
    | exact Eq.refl _
    | (with_reducible refine Kept.ofId ?_)
    | split
    | (with_reducible apply Kept.step State.simStore_kept)
    | (with_reducible apply spillWith_kept)
    | (with_reducible refine Kept.snd (by with_reducible assumption) ?_)
    | (with_reducible refine Kept.fst (by with_reducible assumption) ?_)

theorem execPntSimStart_kept {t : Nat} {c : Cmd} {s : State} : KeptO 8269823 s (execPntSimStart t c s) := by
  unfold execPntSimStart
  repeat' first
    | (intro)
    | with_reducible assumption
    | with_reducible exact Kept.refl _ _
    | exact Eq.refl _
    | (with_reducible refine Kept.ofId ?_)
    | (with_reducible refine KeptO.next ?_)
    | (with_reducible apply Kept.step bodyPntSimStart_kept)
    | (with_reducible apply State.inTurn_kept)
    | (with_reducible apply KeptO.lift State.done_kept)
    | (with_reducible apply State.command_kept)

theorem bodyPntSimValue_kept {c : Cmd} {a1 : State} : Kept 8269742 a1 (bodyPntSimValue c a1).2 := by
  unfold bodyPntSimValue
  repeat' first
    | (intro)
    | with_reducible assumption
    | with_reducible exact Kept.refl _ _
    | exact Eq.refl _
    | (with_reducible refine Kept.ofId ?_)
    | (with_reducible apply Kept.step State.simStore_kept)
    | (with_reducible apply spillWith_kept)

theorem execPntSimValue_kept {t : Nat} {c : Cmd} {s : State} : KeptO 8269823 s (execPntSimValue t c s) := by
  unfold execPntSimValue
  repeat' first
    | (intro)
    | with_reducible assumption
    | with_reducible exact Kept.refl _ _
    | exact Eq.refl _
    | (with_reducible refine Kept.ofId ?_)
    | (with_reducible refine KeptO.next ?_)
    | (with_reducible apply Kept.step bodyPntSimValue_kept)
    | (with_reducible apply State.inTurn_kept)
    | (with_reducible apply KeptO.lift State.done_kept)
    | (with_reducible apply State.command_kept)

theorem bodyPntSimEnd_kept {c : Cmd} {a1 : State} : Kept 8269742 a1 (bodyPntSimEnd c a1).2 := by
  unfold bodyPntSimEnd
  repeat' first
    | (intro)
    | with_reducible assumption
    | with_reducible exact Kept.refl _ _
    | exact Eq.refl _
    | (with_reducible refine Kept.ofId ?_)
    | (with_reducible apply Kept.step State.unforce_kept)
    | (with_reducible apply spillWith_kept)

theorem execPntSimEnd_kept {t : Nat} {c : Cmd} {s : State} : KeptO 8269823 s (execPntSimEnd t c s) := by
  unfold execPntSimEnd
  repeat' first
    | (intro)
    | with_reducible assumption
    | with_reducible exact Kept.refl _ _
    | exact Eq.refl _
    | (with_reducible refine Kept.ofId ?_)
    | (with_reducible refine KeptO.next ?_)
    | (with_reducible apply Kept.step bodyPntSimEnd_kept)
    | (with_reducible apply State.inTurn_kept)
    | (with_reducible apply KeptO.lift State.done_kept)
    | (with_reducible apply State.command_kept)

theorem State.loopOut_kept {node : Nat} {idx : Nat} {v : Nat} {t : Nat} {loop : Nat} {s : State} : Kept 6815918 s (State.loopOut node idx v t loop s).2 := by
  unfold State.loopOut
  repeat' first
    | (intro)
    | with_reducible assumption
    | with_reducible exact Kept.refl _ _
    | exact Eq.refl _
    | (with_reducible apply Kept.step State.originate_kept)

theorem bodyPntOutput_kept {c : Cmd} {a1 : State} : Kept 8269742 a1 (bodyPntOutput c a1).2 := by
  unfold bodyPntOutput
  repeat' first
    | (intro)
    | with_reducible assumption
    | with_reducible exact Kept.refl _ _
    | exact Eq.refl _
    | (with_reducible refine Kept.ofId ?_)
    | (extract_lets +onlyGivenNames x
       first
       | (have hx : Kept 8269742 a1 x := ?_
          clear_value x
          rotate_left
          subst x
          rotate_left)
       | clear_value x)
    | split
    | (with_reducible apply Kept.step State.loopOut_kept)
    | (with_reducible apply spillWith_kept)
    | (with_reducible apply Kept.step State.applyUpdate_kept)
    | (with_reducible refine Kept.snd (by with_reducible assumption) ?_)
    | (with_reducible refine Kept.fst (by with_reducible assumption) ?_)

theorem execPntOutput_kept {t : Nat} {c : Cmd} {s : State} : KeptO 8269823 s (execPntOutput t c s) := by
  unfold execPntOutput
  repeat' first
    | (intro)
    | with_reducible assumption
    | with_reducible exact Kept.refl _ _
    | exact Eq.refl _
    | (with_reducible refine Kept.ofId ?_)
    | (with_reducible refine KeptO.next ?_)
    | (with_reducible apply Kept.step bodyPntOutput_kept)
    | (with_reducible apply State.inTurn_kept)
    | (with_reducible apply KeptO.lift State.done_kept)
    | (with_reducible apply State.command_kept)

theorem bodyPntReset_kept {c : Cmd} {a1 : State} : Kept 8261550 a1 (bodyPntReset c a1).2 := by
  unfold bodyPntReset
  repeat' first
    | (intro)
    | with_reducible assumption
    | with_reducible exact Kept.refl _ _
    | exact Eq.refl _
    | (with_reducible refine Kept.ofId ?_)
    | (extract_lets +onlyGivenNames x
       first
       | (have hx : Kept 8261550 a1 x := ?_
          clear_value x
          rotate_left
          subst x
          rotate_left)
       | clear_value x)
    | split
    | (with_reducible apply spillWith_kept)
    | (with_reducible apply Kept.step State.applyResult_kept)
    | (with_reducible apply Kept.step State.modPt_kept)
    | (with_reducible refine Kept.snd (by with_reducible assumption) ?_)
    | (with_reducible refine Kept.fst (by with_reducible assumption) ?_)

theorem execPntReset_kept {t : Nat} {c : Cmd} {s : State} : KeptO 8261631 s (execPntReset t c s) := by
  unfold execPntReset
  repeat' first
    | (intro)
    | with_reducible assumption
    | with_reducible exact Kept.refl _ _
    | exact Eq.refl _
    | (with_reducible refine Kept.ofId ?_)
    | (with_reducible refine KeptO.next ?_)
    | (with_reducible apply Kept.step bodyPntReset_kept)
    | (with_reducible apply State.inTurn_kept)
    | (with_reducible apply KeptO.lift State.done_kept)
    | (with_reducible apply State.command_kept)

theorem State.reseal_kept {i : Nat} {f : Rec 128 → Rec 128} {s : State} : Kept 6816174 s (State.reseal i f s) := by
  unfold State.reseal
  repeat' first
    | (intro)
    | with_reducible assumption
    | with_reducible exact Kept.refl _ _
    | exact Eq.refl _
    | (with_reducible apply Kept.step State.replConfig_kept)
    | (with_reducible apply Kept.step State.modPt_kept)

theorem bodyPntVoteBind_kept {c : Cmd} {a1 : State} : Kept 6947246 a1 (bodyPntVoteBind c a1).2 := by
  unfold bodyPntVoteBind
  repeat' first
    | (intro)
    | with_reducible assumption
    | with_reducible exact Kept.refl _ _
    | exact Eq.refl _
    | split
    | (with_reducible apply Kept.step State.reseal_kept)
    | (with_reducible apply Kept.step State.requal_kept)
    | (with_reducible apply Kept.step State.modPx_kept)
    | (with_reducible apply Kept.step State.dirtyHost_kept)
    | (with_reducible refine Kept.fold ?_ ?_)
    | (with_reducible refine Kept.foldSnd ?_ ?_)
    | (with_reducible refine Kept.foldFst ?_ ?_)
    | (with_reducible refine Kept.snd (by with_reducible assumption) ?_)
    | (with_reducible refine Kept.fst (by with_reducible assumption) ?_)

theorem execPntVoteBind_kept {t : Nat} {c : Cmd} {s : State} : KeptO 8259583 s (execPntVoteBind t c s) := by
  unfold execPntVoteBind
  repeat' first
    | (intro)
    | with_reducible assumption
    | with_reducible exact Kept.refl _ _
    | exact Eq.refl _
    | (with_reducible refine Kept.ofId ?_)
    | (with_reducible refine KeptO.next ?_)
    | (with_reducible apply Kept.step bodyPntVoteBind_kept)
    | (with_reducible apply State.inTurn_kept)
    | (with_reducible apply KeptO.lift State.done_kept)
    | (with_reducible apply State.command_kept)

theorem bodyPntProfileWrite_kept {c : Cmd} {a1 : State} : Kept 4325382 a1 (bodyPntProfileWrite c a1).2 := by
  unfold bodyPntProfileWrite
  repeat' first
    | (intro)
    | with_reducible assumption
    | with_reducible exact Kept.refl _ _
    | exact Eq.refl _
    | (with_reducible refine Kept.ofId ?_)
    | (with_reducible apply Kept.step State.aiFollow_kept)
    | (with_reducible apply okWith_kept)
    | (with_reducible apply Kept.step State.dirtyHost_kept)
    | (with_reducible apply Kept.step State.wr_kept)

theorem execPntProfileWrite_kept {t : Nat} {c : Cmd} {s : State} : KeptO 7996799 s (execPntProfileWrite t c s) := by
  unfold execPntProfileWrite
  repeat' first
    | (intro)
    | with_reducible assumption
    | with_reducible exact Kept.refl _ _
    | exact Eq.refl _
    | (with_reducible refine Kept.ofId ?_)
    | (with_reducible refine KeptO.next ?_)
    | (with_reducible apply Kept.step bodyPntProfileWrite_kept)
    | (with_reducible apply KeptO.lift State.done_kept)
    | (with_reducible apply State.command_kept)

theorem bodyPntProfileRead_kept {c : Cmd} {a1 : State} : Kept 0 a1 (bodyPntProfileRead c a1).2 := by
  unfold bodyPntProfileRead
  repeat' first
    | (intro)
    | with_reducible assumption
    | with_reducible exact Kept.refl _ _
    | exact Eq.refl _

theorem execPntProfileRead_kept {t : Nat} {c : Cmd} {s : State} : KeptO 7865727 s (execPntProfileRead t c s) := by
  unfold execPntProfileRead
  repeat' first
    | (intro)
    | with_reducible assumption
    | with_reducible exact Kept.refl _ _
    | exact Eq.refl _
    | (with_reducible refine Kept.ofId ?_)
    | (with_reducible refine KeptO.next ?_)
    | (with_reducible apply Kept.step bodyPntProfileRead_kept)
    | (with_reducible apply KeptO.lift State.done_kept)
    | (with_reducible apply State.command_kept)

end Sys2Proof.Machine
end

