-- ==== Sys2Proof/Laws/KeptAlarms.lean ====
section
/-! SUPPORT. What the operations of Machine/Alarms.lean leave alone. -/

set_option linter.tactic.unusedName false

namespace Sys2Proof.Machine

set_option Elab.async false

theorem State.inputs_kept {m : Nat} {s0 : State} {l : List (Nat × Nat × Nat)} {f : Nat → Nat → Nat → State → State} {s : State} (h0 : Kept m s0 s) (hm : 7210926 ||| m = m) (hf : ∀ (x0 : Nat) (x1 : Nat) (x2 : Nat) (x3 : State), Kept m s0 x3 → Kept m s0 (f x0 x1 x2 x3)) : Kept m s0 (State.inputs l f s).2 := by
  unfold State.inputs
  repeat' first
    | (intro)
    | with_reducible assumption
    | with_reducible exact Kept.refl _ _
    | exact Eq.refl _
    | (with_reducible refine Kept.ofId ?_)
    | (extract_lets +onlyGivenNames x
       first
       | (have hx : Kept m s0 x := ?_
          clear_value x
          rotate_left
          subst x
          rotate_left)
       | clear_value x)
    | split
    | exact lor_sub (by rfl) hm
    | (with_reducible apply Kept.step State.replState_kept)
    | (with_reducible apply State.input_kept)
    | (with_reducible apply hf)
    | (with_reducible refine Kept.fold ?_ ?_)
    | (with_reducible refine Kept.foldSnd ?_ ?_)
    | (with_reducible refine Kept.foldFst ?_ ?_)
    | (with_reducible refine Kept.snd (by with_reducible assumption) ?_)
    | (with_reducible refine Kept.fst (by with_reducible assumption) ?_)

theorem almBody_kept {m : Nat} {s0 : State} {f : Cmd → Nat → Nat → Nat → State → State} {c : Cmd} {s : State} (h0 : Kept m s0 s) (hm : 7210926 ||| m = m) (hf : ∀ (x0 : Cmd) (x1 : Nat) (x2 : Nat) (x3 : Nat) (x4 : State), Kept m s0 x4 → Kept m s0 (f x0 x1 x2 x3 x4)) : Kept m s0 (almBody f c s).2 := by
  unfold almBody
  repeat' first
    | (intro)
    | with_reducible assumption
    | with_reducible exact Kept.refl _ _
    | exact Eq.refl _
    | (with_reducible refine Kept.ofId ?_)
    | exact lor_sub (by rfl) hm
    | (with_reducible apply State.inputs_kept)
    | (with_reducible apply spillWith_kept)
    | (with_reducible apply hf)

theorem State.ackForward_kept {e : Nat} {s : State} : Kept 6815918 s (State.ackForward e s) := by
  unfold State.ackForward
  repeat' first
    | (intro)
    | with_reducible assumption
    | with_reducible exact Kept.refl _ _
    | exact Eq.refl _
    | (with_reducible apply Kept.step State.send_kept)

theorem bodyAlmAck_kept {c : Cmd} {a1 : State} : Kept 7210926 a1 (bodyAlmAck c a1).2 := by
  unfold bodyAlmAck
  repeat' first
    | (intro)
    | with_reducible assumption
    | with_reducible exact Kept.refl _ _
    | exact Eq.refl _
    | (with_reducible refine Kept.ofId ?_)
    | split
    | (with_reducible apply Kept.step State.ackForward_kept)
    | (with_reducible apply State.inputs_kept)
    | (with_reducible apply Kept.step State.modCs_kept)
    | (with_reducible apply Kept.step State.onSec_kept)
    | (with_reducible refine Kept.fold ?_ ?_)
    | (with_reducible refine Kept.foldSnd ?_ ?_)
    | (with_reducible refine Kept.foldFst ?_ ?_)
    | (with_reducible refine Kept.snd (by with_reducible assumption) ?_)
    | (with_reducible refine Kept.fst (by with_reducible assumption) ?_)

theorem execAlmAck_kept {t : Nat} {c : Cmd} {s : State} : KeptO 8259583 s (execAlmAck t c s) := by
  unfold execAlmAck
  repeat' first
    | (intro)
    | with_reducible assumption
    | with_reducible exact Kept.refl _ _
    | exact Eq.refl _
    | (with_reducible refine Kept.ofId ?_)
    | (with_reducible refine KeptO.next ?_)
    | (with_reducible apply Kept.step bodyAlmAck_kept)
    | (with_reducible apply State.inTurn_kept)
    | (with_reducible apply KeptO.lift State.done_kept)
    | (with_reducible apply State.command_kept)

theorem bodyAlmShelve_kept {c : Cmd} {a1 : State} : Kept 7210926 a1 (bodyAlmShelve c a1).2 := by
  unfold bodyAlmShelve
  repeat' first
    | (intro)
    | with_reducible assumption
    | with_reducible exact Kept.refl _ _
    | exact Eq.refl _
    | (with_reducible refine Kept.ofId ?_)
    | (with_reducible apply almBody_kept)
    | (with_reducible apply Kept.step State.modCs_kept)
    | (with_reducible apply Kept.step State.modCondX_kept)
    | (with_reducible apply Kept.step State.dirtyHost_kept)
    | (with_reducible apply Kept.step State.onAlm_kept)

theorem execAlmShelve_kept {t : Nat} {c : Cmd} {s : State} : KeptO 8259583 s (execAlmShelve t c s) := by
  unfold execAlmShelve
  repeat' first
    | (intro)
    | with_reducible assumption
    | with_reducible exact Kept.refl _ _
    | exact Eq.refl _
    | (with_reducible refine Kept.ofId ?_)
    | (with_reducible refine KeptO.next ?_)
    | (with_reducible apply Kept.step bodyAlmShelve_kept)
    | (with_reducible apply State.inTurn_kept)
    | (with_reducible apply KeptO.lift State.done_kept)
    | (with_reducible apply State.command_kept)

theorem State.unshelve_kept {q : Nat} {s : State} : Kept 4194822 s (State.unshelve q s) := by
  unfold State.unshelve
  repeat' first
    | (intro)
    | with_reducible assumption
    | with_reducible exact Kept.refl _ _
    | exact Eq.refl _
    | (with_reducible apply Kept.step State.modCs_kept)
    | (with_reducible apply Kept.step State.modCondX_kept)

theorem bodyAlmUnshelve_kept {c : Cmd} {a1 : State} : Kept 7210926 a1 (bodyAlmUnshelve c a1).2 := by
  unfold bodyAlmUnshelve
  repeat' first
    | (intro)
    | with_reducible assumption
    | with_reducible exact Kept.refl _ _
    | exact Eq.refl _
    | (with_reducible refine Kept.ofId ?_)
    | (with_reducible apply Kept.step State.unshelve_kept)
    | (with_reducible apply almBody_kept)
    | (with_reducible apply Kept.step State.dirtyHost_kept)

theorem execAlmUnshelve_kept {t : Nat} {c : Cmd} {s : State} : KeptO 8259583 s (execAlmUnshelve t c s) := by
  unfold execAlmUnshelve
  repeat' first
    | (intro)
    | with_reducible assumption
    | with_reducible exact Kept.refl _ _
    | exact Eq.refl _
    | (with_reducible refine Kept.ofId ?_)
    | (with_reducible refine KeptO.next ?_)
    | (with_reducible apply Kept.step bodyAlmUnshelve_kept)
    | (with_reducible apply State.inTurn_kept)
    | (with_reducible apply KeptO.lift State.done_kept)
    | (with_reducible apply State.command_kept)

theorem bodyAlmOos_kept {c : Cmd} {a1 : State} : Kept 7210926 a1 (bodyAlmOos c a1).2 := by
  unfold bodyAlmOos
  repeat' first
    | (intro)
    | with_reducible assumption
    | with_reducible exact Kept.refl _ _
    | exact Eq.refl _
    | (with_reducible refine Kept.ofId ?_)
    | (with_reducible apply almBody_kept)
    | (with_reducible apply Kept.step State.delayStop_kept)
    | (with_reducible apply Kept.step State.modCs_kept)
    | (with_reducible apply Kept.step State.modCondX_kept)
    | (with_reducible apply Kept.step State.dirtyHost_kept)

theorem execAlmOos_kept {t : Nat} {c : Cmd} {s : State} : KeptO 8259583 s (execAlmOos t c s) := by
  unfold execAlmOos
  repeat' first
    | (intro)
    | with_reducible assumption
    | with_reducible exact Kept.refl _ _
    | exact Eq.refl _
    | (with_reducible refine Kept.ofId ?_)
    | (with_reducible refine KeptO.next ?_)
    | (with_reducible apply Kept.step bodyAlmOos_kept)
    | (with_reducible apply State.inTurn_kept)
    | (with_reducible apply KeptO.lift State.done_kept)
    | (with_reducible apply State.command_kept)

theorem State.returnToService_kept {i : Nat} {slot : Nat} {q : Nat} {s : State} : Kept 6816302 s (State.returnToService i slot q s) := by
  have hz : True := trivial
  unfold State.returnToService
  repeat' first
    | (intro)
    | with_reducible assumption
    | with_reducible exact Kept.refl _ _
    | exact Eq.refl _
    | (extract_lets +onlyGivenNames x
       first
       | (have hx : Kept 6816302 s x := ?_
          clear_value x
          rotate_left
          subst x
          rotate_left)
       | (have hz : ∀ y, Kept 6816302 s y → Kept 6816302 s (x y) := ?_
          clear_value x
          rotate_left
          unfold x
          clear x
          rotate_left)
       | (have hz : ∀ a y, Kept 6816302 s y → Kept 6816302 s (x a y) := ?_
          clear_value x
          rotate_left
          unfold x
          clear x
          rotate_left)
       | (have hz : ∀ a b y, Kept 6816302 s y → Kept 6816302 s (x a b y) := ?_
          clear_value x
          rotate_left
          unfold x
          clear x
          rotate_left)
       | (have hz : ∀ a b c y, Kept 6816302 s y → Kept 6816302 s (x a b c y) := ?_
          clear_value x
          rotate_left
          unfold x
          clear x
          rotate_left)
       | clear_value x)
    | split
    | (with_reducible apply Kept.step State.evalCond_kept)
    | (with_reducible apply Kept.step State.setCs_kept)
    | (with_reducible apply Kept.step State.onAlm_kept)
    | (with_reducible refine Kept.snd (by with_reducible assumption) ?_)
    | (with_reducible refine Kept.fst (by with_reducible assumption) ?_)
    | (with_reducible apply hz)
    | (with_reducible refine Kept.call (by with_reducible assumption) ?_)
    | (with_reducible refine Kept.call1 (by with_reducible assumption) ?_)

theorem bodyAlmReturn_kept {c : Cmd} {a1 : State} : Kept 7210926 a1 (bodyAlmReturn c a1).2 := by
  unfold bodyAlmReturn
  repeat' first
    | (intro)
    | with_reducible assumption
    | with_reducible exact Kept.refl _ _
    | exact Eq.refl _
    | (with_reducible refine Kept.ofId ?_)
    | (with_reducible apply Kept.step State.returnToService_kept)
    | (with_reducible apply almBody_kept)

theorem execAlmReturn_kept {t : Nat} {c : Cmd} {s : State} : KeptO 8259583 s (execAlmReturn t c s) := by
  unfold execAlmReturn
  repeat' first
    | (intro)
    | with_reducible assumption
    | with_reducible exact Kept.refl _ _
    | exact Eq.refl _
    | (with_reducible refine Kept.ofId ?_)
    | (with_reducible refine KeptO.next ?_)
    | (with_reducible apply Kept.step bodyAlmReturn_kept)
    | (with_reducible apply State.inTurn_kept)
    | (with_reducible apply KeptO.lift State.done_kept)
    | (with_reducible apply State.command_kept)

theorem bodyAlmCondRead_kept {c : Cmd} {a1 : State} : Kept 15599406 a1 (bodyAlmCondRead c a1).2 := by
  unfold bodyAlmCondRead
  repeat' first
    | (intro)
    | with_reducible assumption
    | with_reducible exact Kept.refl _ _
    | exact Eq.refl _
    | (extract_lets +onlyGivenNames x
       first
       | (have hx : Kept 15599406 a1 x := ?_
          clear_value x
          rotate_left
          subst x
          rotate_left)
       | clear_value x)
    | split
    | (with_reducible apply Kept.step State.condGuard_kept)
    | (with_reducible apply Kept.step State.bufPut_kept)
    | (with_reducible refine Kept.fold ?_ ?_)
    | (with_reducible refine Kept.foldSnd ?_ ?_)
    | (with_reducible refine Kept.foldFst ?_ ?_)
    | (with_reducible refine Kept.snd (by with_reducible assumption) ?_)
    | (with_reducible refine Kept.fst (by with_reducible assumption) ?_)

theorem execAlmCondRead_kept {t : Nat} {c : Cmd} {s : State} : KeptO 16648063 s (execAlmCondRead t c s) := by
  unfold execAlmCondRead
  repeat' first
    | (intro)
    | with_reducible assumption
    | with_reducible exact Kept.refl _ _
    | exact Eq.refl _
    | (with_reducible refine Kept.ofId ?_)
    | (with_reducible refine KeptO.next ?_)
    | (with_reducible apply Kept.step bodyAlmCondRead_kept)
    | (with_reducible apply KeptO.lift State.done_kept)
    | (with_reducible apply State.command_kept)

theorem bodyAlmAdaptHold_kept {c : Cmd} {a1 : State} : Kept 7210926 a1 (bodyAlmAdaptHold c a1).2 := by
  unfold bodyAlmAdaptHold
  repeat' first
    | (intro)
    | with_reducible assumption
    | with_reducible exact Kept.refl _ _
    | exact Eq.refl _
    | (with_reducible refine Kept.ofId ?_)
    | (with_reducible apply almBody_kept)
    | (with_reducible apply Kept.step State.modCond_kept)
    | (with_reducible apply Kept.step State.dirtyHost_kept)

theorem execAlmAdaptHold_kept {t : Nat} {c : Cmd} {s : State} : KeptO 8259583 s (execAlmAdaptHold t c s) := by
  unfold execAlmAdaptHold
  repeat' first
    | (intro)
    | with_reducible assumption
    | with_reducible exact Kept.refl _ _
    | exact Eq.refl _
    | (with_reducible refine Kept.ofId ?_)
    | (with_reducible refine KeptO.next ?_)
    | (with_reducible apply Kept.step bodyAlmAdaptHold_kept)
    | (with_reducible apply State.inTurn_kept)
    | (with_reducible apply KeptO.lift State.done_kept)
    | (with_reducible apply State.command_kept)

theorem State.condRead_kept {i : Nat} {slot : Nat} {mask : Nat} {img : Bool} {s : State} : Kept 6816302 s (State.condRead i slot mask img s) := by
  unfold State.condRead
  repeat' first
    | (intro)
    | with_reducible assumption
    | with_reducible exact Kept.refl _ _
    | exact Eq.refl _
    | (extract_lets +onlyGivenNames x
       first
       | (have hx : Kept 6816302 s x := ?_
          clear_value x
          rotate_left
          subst x
          rotate_left)
       | clear_value x)
    | split
    | (with_reducible apply Kept.step State.condCheck_kept)
    | (with_reducible refine Kept.snd (by with_reducible assumption) ?_)
    | (with_reducible refine Kept.fst (by with_reducible assumption) ?_)

theorem State.condsRead_kept {i : Nat} {t : Nat} {upset : List (Nat × Nat)} {img : Bool} {s : State} : Kept 7210798 s (State.condsRead i t upset img s) := by
  unfold State.condsRead
  repeat' first
    | (intro)
    | with_reducible assumption
    | with_reducible exact Kept.refl _ _
    | exact Eq.refl _
    | (with_reducible refine Kept.ofId ?_)
    | split
    | (with_reducible apply Kept.step State.condRead_kept)
    | (with_reducible apply State.input_kept)
    | (with_reducible refine Kept.fold ?_ ?_)
    | (with_reducible refine Kept.foldSnd ?_ ?_)
    | (with_reducible refine Kept.foldFst ?_ ?_)
    | (with_reducible refine Kept.snd (by with_reducible assumption) ?_)
    | (with_reducible refine Kept.fst (by with_reducible assumption) ?_)

theorem State.tileRoom_kept {s : State} : Kept 384 s (State.tileRoom s) := by
  unfold State.tileRoom
  repeat' first
    | (intro)
    | with_reducible assumption
    | with_reducible exact Kept.refl _ _
    | exact Eq.refl _
    | split
    | (with_reducible apply Kept.step State.freeCoins_kept)
    | (with_reducible apply Kept.step State.onPts_kept)
    | (with_reducible refine Kept.fold ?_ ?_)
    | (with_reducible refine Kept.foldSnd ?_ ?_)
    | (with_reducible refine Kept.foldFst ?_ ?_)
    | (with_reducible refine Kept.snd (by with_reducible assumption) ?_)
    | (with_reducible refine Kept.fst (by with_reducible assumption) ?_)

theorem State.condsWait_kept {cs : List Nat} {on : Bool} {s : State} : Kept 512 s (State.condsWait cs on s) := by
  unfold State.condsWait
  repeat' first
    | (intro)
    | with_reducible assumption
    | with_reducible exact Kept.refl _ _
    | exact Eq.refl _
    | (with_reducible apply Kept.step State.onAlm_kept)
    | (with_reducible refine Kept.fold ?_ ?_)
    | (with_reducible refine Kept.foldSnd ?_ ?_)
    | (with_reducible refine Kept.foldFst ?_ ?_)

theorem execPointUpdateApply_kept {t : Nat} {tile : Nat} {upset : List (Nat × Nat)} {img : Bool} {s : State} : KeptO 8269823 s (execPointUpdateApply t tile upset img s) := by
  have hz : True := trivial
  unfold execPointUpdateApply
  repeat' first
    | (intro)
    | with_reducible assumption
    | with_reducible exact Kept.refl _ _
    | exact Eq.refl _
    | (extract_lets +onlyGivenNames x
       first
       | (have hx : Kept 8269823 s x := ?_
          clear_value x
          rotate_left
          subst x
          rotate_left)
       | (have hz : ∀ y, Kept 8269823 s y → Kept 8269823 s (x y) := ?_
          clear_value x
          rotate_left
          unfold x
          clear x
          rotate_left)
       | (have hz : ∀ a y, Kept 8269823 s y → Kept 8269823 s (x a y) := ?_
          clear_value x
          rotate_left
          unfold x
          clear x
          rotate_left)
       | (have hz : ∀ a b y, Kept 8269823 s y → Kept 8269823 s (x a b y) := ?_
          clear_value x
          rotate_left
          unfold x
          clear x
          rotate_left)
       | (have hz : ∀ a b c y, Kept 8269823 s y → Kept 8269823 s (x a b c y) := ?_
          clear_value x
          rotate_left
          unfold x
          clear x
          rotate_left)
       | clear_value x)
    | split
    | (with_reducible refine KeptO.next ?_)
    | (with_reducible apply Kept.step State.condsWait_kept)
    | (with_reducible apply Kept.step State.tileRoom_kept)
    | (with_reducible apply Kept.step State.condsRead_kept)
    | (with_reducible apply Kept.step State.minuteFirst_kept)
    | (with_reducible apply Kept.step State.takeUpdate_kept)
    | (with_reducible apply KeptO.lift State.done_kept)
    | (with_reducible apply Kept.step State.tilePop_kept)
    | (with_reducible apply Kept.step State.at__kept)
    | (with_reducible refine Kept.snd (by with_reducible assumption) ?_)
    | (with_reducible refine Kept.fst (by with_reducible assumption) ?_)
    | (with_reducible apply hz)
    | (with_reducible refine Kept.call (by with_reducible assumption) ?_)
    | (with_reducible refine Kept.call1 (by with_reducible assumption) ?_)

theorem execScanTick_kept {t : Nat} {s : State} : KeptO 8269823 s (execScanTick t s) := by
  unfold execScanTick
  repeat' first
    | (intro)
    | with_reducible assumption
    | with_reducible exact Kept.refl _ _
    | exact Eq.refl _
    | (extract_lets +onlyGivenNames x
       first
       | (have hx : Kept 8269823 s x := ?_
          clear_value x
          rotate_left
          subst x
          rotate_left)
       | clear_value x)
    | split
    | (with_reducible refine KeptO.next ?_)
    | (with_reducible apply Kept.step State.minutesFirst_kept)
    | (with_reducible apply Kept.step State.localTicks_kept)
    | (with_reducible apply Kept.step State.scanTick_kept)
    | (with_reducible apply KeptO.lift State.done_kept)
    | (with_reducible apply Kept.step State.at__kept)
    | (with_reducible apply Kept.step State.onPts_kept)
    | (with_reducible refine Kept.snd (by with_reducible assumption) ?_)
    | (with_reducible refine Kept.fst (by with_reducible assumption) ?_)

theorem State.delayExpire_kept {c : Nat} {s : State} : Kept 7210926 s (State.delayExpire c s) := by
  unfold State.delayExpire
  repeat' first
    | (intro)
    | with_reducible assumption
    | with_reducible exact Kept.refl _ _
    | exact Eq.refl _
    | (extract_lets +onlyGivenNames x
       first
       | (have hx : Kept 7210926 s x := ?_
          clear_value x
          rotate_left
          subst x
          rotate_left)
       | clear_value x)
    | split
    | (with_reducible apply Kept.step State.replState_kept)
    | (with_reducible apply Kept.step State.delayFire_kept)
    | (with_reducible apply Kept.step State.delayStop_kept)
    | (with_reducible refine Kept.snd (by with_reducible assumption) ?_)
    | (with_reducible refine Kept.fst (by with_reducible assumption) ?_)

theorem execDelayTimerExpire_kept {t : Nat} {tile : Nat} {s : State} : KeptO 8259583 s (execDelayTimerExpire t tile s) := by
  unfold execDelayTimerExpire
  repeat' first
    | (intro)
    | with_reducible assumption
    | with_reducible exact Kept.refl _ _
    | exact Eq.refl _
    | (extract_lets +onlyGivenNames x
       first
       | (have hx : Kept 8259583 s x := ?_
          clear_value x
          rotate_left
          subst x
          rotate_left)
       | clear_value x)
    | split
    | (with_reducible refine KeptO.next ?_)
    | (with_reducible apply Kept.step State.delayExpire_kept)
    | (with_reducible apply Kept.step State.minuteFirst_kept)
    | (with_reducible apply KeptO.lift State.done_kept)
    | (with_reducible apply Kept.step State.at__kept)
    | (with_reducible refine Kept.snd (by with_reducible assumption) ?_)
    | (with_reducible refine Kept.fst (by with_reducible assumption) ?_)

theorem State.causeExpire_kept {n : Nat} {s : State} : Kept 4195846 s (State.causeExpire n s) := by
  unfold State.causeExpire
  repeat' first
    | (intro)
    | with_reducible assumption
    | with_reducible exact Kept.refl _ _
    | exact Eq.refl _
    | (extract_lets +onlyGivenNames x
       first
       | (have hx : Kept 4195846 s x := ?_
          clear_value x
          rotate_left
          subst x
          rotate_left)
       | clear_value x)
    | split
    | (with_reducible apply Kept.step State.causeCancel_kept)
    | (with_reducible apply Kept.step State.causeState_kept)
    | (with_reducible apply Kept.step State.fanOut_kept)
    | (with_reducible refine Kept.snd (by with_reducible assumption) ?_)
    | (with_reducible refine Kept.fst (by with_reducible assumption) ?_)

theorem State.coarseExpire_kept {o : Nat} {tick : Nat} {s : State} : Kept 7210926 s (State.coarseExpire o tick s) := by
  unfold State.coarseExpire
  repeat' first
    | (intro)
    | with_reducible assumption
    | with_reducible exact Kept.refl _ _
    | exact Eq.refl _
    | split
    | (with_reducible apply Kept.step State.causeExpire_kept)
    | (with_reducible apply Kept.step State.delayExpire_kept)
    | (with_reducible apply Kept.step State.minuteFirst_kept)
    | (with_reducible refine Kept.fold ?_ ?_)
    | (with_reducible refine Kept.foldSnd ?_ ?_)
    | (with_reducible refine Kept.foldFst ?_ ?_)
    | (with_reducible refine Kept.snd (by with_reducible assumption) ?_)
    | (with_reducible refine Kept.fst (by with_reducible assumption) ?_)

theorem execCoarseSlotServe_kept {t : Nat} {s : State} : KeptO 8259583 s (execCoarseSlotServe t s) := by
  unfold execCoarseSlotServe
  repeat' first
    | (intro)
    | with_reducible assumption
    | with_reducible exact Kept.refl _ _
    | exact Eq.refl _
    | (extract_lets +onlyGivenNames x
       first
       | (have hx : Kept 8259583 s x := ?_
          clear_value x
          rotate_left
          subst x
          rotate_left)
       | clear_value x)
    | split
    | (with_reducible refine KeptO.next ?_)
    | (with_reducible apply Kept.step State.coarseExpire_kept)
    | (with_reducible apply KeptO.lift State.done_kept)
    | (with_reducible apply Kept.step State.at__kept)
    | (with_reducible refine Kept.fold ?_ ?_)
    | (with_reducible refine Kept.foldSnd ?_ ?_)
    | (with_reducible refine Kept.foldFst ?_ ?_)
    | (with_reducible refine Kept.snd (by with_reducible assumption) ?_)
    | (with_reducible refine Kept.fst (by with_reducible assumption) ?_)

theorem State.shelveCount_kept {sec : Nat} {k : Nat × Nat} {s : State} : Kept 7210926 s (State.shelveCount sec k s) := by
  unfold State.shelveCount
  repeat' first
    | (intro)
    | with_reducible assumption
    | with_reducible exact Kept.refl _ _
    | exact Eq.refl _
    | (with_reducible refine Kept.ofId ?_)
    | (extract_lets +onlyGivenNames x
       first
       | (have hx : Kept 7210926 s x := ?_
          clear_value x
          rotate_left
          subst x
          rotate_left)
       | clear_value x)
    | split
    | (with_reducible apply Kept.step State.unshelve_kept)
    | (with_reducible apply Kept.step State.replState_kept)
    | (with_reducible apply State.input_kept)
    | (with_reducible apply Kept.step State.modCondX_kept)
    | (with_reducible apply Kept.step State.dirtyMod_kept)
    | (with_reducible refine Kept.snd (by with_reducible assumption) ?_)
    | (with_reducible refine Kept.fst (by with_reducible assumption) ?_)

theorem execShelveSweep_kept {t : Nat} {tile : Nat} {s : State} : KeptO 8259583 s (execShelveSweep t tile s) := by
  unfold execShelveSweep
  repeat' first
    | (intro)
    | with_reducible assumption
    | with_reducible exact Kept.refl _ _
    | exact Eq.refl _
    | (extract_lets +onlyGivenNames x
       first
       | (have hx : Kept 8259583 s x := ?_
          clear_value x
          rotate_left
          subst x
          rotate_left)
       | clear_value x)
    | split
    | (with_reducible refine KeptO.next ?_)
    | (with_reducible apply Kept.step State.shelveCount_kept)
    | (with_reducible apply Kept.step State.minuteFirst_kept)
    | (with_reducible apply KeptO.lift State.done_kept)
    | (with_reducible apply Kept.step State.at__kept)
    | (with_reducible apply Kept.step State.onAlm_kept)
    | (with_reducible refine Kept.fold ?_ ?_)
    | (with_reducible refine Kept.foldSnd ?_ ?_)
    | (with_reducible refine Kept.foldFst ?_ ?_)
    | (with_reducible refine Kept.snd (by with_reducible assumption) ?_)
    | (with_reducible refine Kept.fst (by with_reducible assumption) ?_)

theorem execAdaptSweep_kept {t : Nat} {tile : Nat} {s : State} : KeptO 8259583 s (execAdaptSweep t tile s) := by
  unfold execAdaptSweep
  repeat' first
    | (intro)
    | with_reducible assumption
    | with_reducible exact Kept.refl _ _
    | exact Eq.refl _
    | (extract_lets +onlyGivenNames x
       first
       | (have hx : Kept 8259583 s x := ?_
          clear_value x
          rotate_left
          subst x
          rotate_left)
       | clear_value x)
    | split
    | (with_reducible refine KeptO.next ?_)
    | (with_reducible apply Kept.step State.adaptSweep_kept)
    | (with_reducible apply KeptO.lift State.done_kept)
    | (with_reducible apply Kept.step State.at__kept)
    | (with_reducible refine Kept.snd (by with_reducible assumption) ?_)
    | (with_reducible refine Kept.fst (by with_reducible assumption) ?_)

theorem execSuppressionInput_kept {t : Nat} {s : State} : KeptO 8259583 s (execSuppressionInput t s) := by
  unfold execSuppressionInput
  repeat' first
    | (intro)
    | with_reducible assumption
    | with_reducible exact Kept.refl _ _
    | exact Eq.refl _
    | (with_reducible refine Kept.ofId ?_)
    | (extract_lets +onlyGivenNames x
       first
       | (have hx : Kept 8259583 s x := ?_
          clear_value x
          rotate_left
          subst x
          rotate_left)
       | clear_value x)
    | split
    | (with_reducible refine KeptO.next ?_)
    | (with_reducible apply Kept.step State.minuteFirst_kept)
    | (with_reducible apply KeptO.lift State.done_kept)
    | (with_reducible apply Kept.step State.replState_kept)
    | (with_reducible apply State.input_kept)
    | (with_reducible apply Kept.step State.modCs_kept)
    | (with_reducible apply Kept.step State.at__kept)
    | (with_reducible apply Kept.step State.bump_kept)
    | (with_reducible apply Kept.step State.onSec_kept)
    | (with_reducible refine Kept.snd (by with_reducible assumption) ?_)
    | (with_reducible refine Kept.fst (by with_reducible assumption) ?_)

theorem execPointRecordScrub_kept {t : Nat} {i : Nat} {flips : Nat} {img : Bool} {s : State} : KeptO 7865727 s (execPointRecordScrub t i flips img s) := by
  unfold execPointRecordScrub
  repeat' first
    | (intro)
    | with_reducible assumption
    | with_reducible exact Kept.refl _ _
    | exact Eq.refl _
    | (extract_lets +onlyGivenNames x
       first
       | (have hx : Kept 7865727 s x := ?_
          clear_value x
          rotate_left
          subst x
          rotate_left)
       | clear_value x)
    | split
    | (with_reducible refine KeptO.next ?_)
    | (with_reducible apply KeptO.lift State.done_kept)
    | (with_reducible apply Kept.step State.requal_kept)
    | (with_reducible apply Kept.step State.modPx_kept)
    | (with_reducible apply Kept.step State.modPt_kept)
    | (with_reducible apply Kept.step State.raise_kept)
    | (with_reducible apply Kept.step State.at__kept)
    | (with_reducible apply Kept.step State.bump_kept)
    | (with_reducible apply Kept.step State.onPts_kept)
    | (with_reducible refine Kept.snd (by with_reducible assumption) ?_)
    | (with_reducible refine Kept.fst (by with_reducible assumption) ?_)

end Sys2Proof.Machine
end

