-- ==== Sys2Proof/Laws/KeptBackup.lean ====
section
/-! SUPPORT. What the operations of Machine/Backup.lean leave alone. -/

set_option linter.tactic.unusedName false

namespace Sys2Proof.Machine

set_option Elab.async false

theorem execBackupSwitchover_kept {t : Nat} {s : State} : KeptO 7931263 s (execBackupSwitchover t s) := by
  unfold execBackupSwitchover
  repeat' first
    | (intro)
    | with_reducible assumption
    | with_reducible exact Kept.refl _ _
    | exact Eq.refl _
    | (extract_lets +onlyGivenNames x
       first
       | (have hx : Kept 7931263 s x := ?_
          clear_value x
          rotate_left
          subst x
          rotate_left)
       | clear_value x)
    | split
    | (with_reducible refine KeptO.next ?_)
    | (with_reducible apply Kept.step State.rtcNow_kept)
    | (with_reducible apply Kept.step State.bkpRaise_kept)
    | (with_reducible apply KeptO.lift State.done_kept)
    | (with_reducible apply Kept.step State.at__kept)
    | (with_reducible apply Kept.step State.bump_kept)
    | (with_reducible apply Kept.step State.wf_kept)
    | (with_reducible refine Kept.snd (by with_reducible assumption) ?_)
    | (with_reducible refine Kept.fst (by with_reducible assumption) ?_)

theorem execVbakMeasure_kept {t : Nat} {mv : Nat} {s : State} : KeptO 7931263 s (execVbakMeasure t mv s) := by
  unfold execVbakMeasure
  repeat' first
    | (intro)
    | with_reducible assumption
    | with_reducible exact Kept.refl _ _
    | exact Eq.refl _
    | (extract_lets +onlyGivenNames x
       first
       | (have hx : Kept 7931263 s x := ?_
          clear_value x
          rotate_left
          subst x
          rotate_left)
       | clear_value x)
    | split
    | (with_reducible refine KeptO.next ?_)
    | (with_reducible apply Kept.step State.bkpRaise_kept)
    | (with_reducible apply KeptO.lift State.done_kept)
    | (with_reducible apply Kept.step State.at__kept)
    | (with_reducible apply Kept.step State.wf_kept)
    | (with_reducible apply Kept.step State.onBkp_kept)
    | (with_reducible refine Kept.snd (by with_reducible assumption) ?_)
    | (with_reducible refine Kept.fst (by with_reducible assumption) ?_)

theorem execBackupPor_kept {t : Nat} {s : State} : KeptO 7931263 s (execBackupPor t s) := by
  unfold execBackupPor
  repeat' first
    | (intro)
    | with_reducible assumption
    | with_reducible exact Kept.refl _ _
    | exact Eq.refl _
    | (with_reducible refine KeptO.next ?_)
    | (with_reducible apply Kept.step State.bkpPor_kept)
    | (with_reducible apply KeptO.lift State.done_kept)
    | (with_reducible apply Kept.step State.at__kept)

theorem execCrystalFail_kept {t : Nat} {s : State} : KeptO 7931263 s (execCrystalFail t s) := by
  unfold execCrystalFail
  repeat' first
    | (intro)
    | with_reducible assumption
    | with_reducible exact Kept.refl _ _
    | exact Eq.refl _
    | (extract_lets +onlyGivenNames x
       first
       | (have hx : Kept 7931263 s x := ?_
          clear_value x
          rotate_left
          subst x
          rotate_left)
       | clear_value x)
    | split
    | (with_reducible refine KeptO.next ?_)
    | (with_reducible apply Kept.step State.rtcNow_kept)
    | (with_reducible apply Kept.step State.bkpRaise_kept)
    | (with_reducible apply KeptO.lift State.done_kept)
    | (with_reducible apply Kept.step State.at__kept)
    | (with_reducible apply Kept.step State.wf_kept)
    | (with_reducible refine Kept.snd (by with_reducible assumption) ?_)
    | (with_reducible refine Kept.fst (by with_reducible assumption) ?_)

theorem execCrystalReturn_kept {t : Nat} {s : State} : KeptO 7931263 s (execCrystalReturn t s) := by
  unfold execCrystalReturn
  repeat' first
    | (intro)
    | with_reducible assumption
    | with_reducible exact Kept.refl _ _
    | exact Eq.refl _
    | (with_reducible refine KeptO.next ?_)
    | (with_reducible apply Kept.step State.rtcNow_kept)
    | (with_reducible apply KeptO.lift State.done_kept)
    | (with_reducible apply Kept.step State.at__kept)
    | (with_reducible apply Kept.step State.wf_kept)

theorem execTrimWindowEnd_kept {t : Nat} {watch : Bool} {n : Nat} {segs : List Nat} {cut : Bool} {s : State} : KeptO 7931263 s (execTrimWindowEnd t watch n segs cut s) := by
  unfold execTrimWindowEnd
  repeat' first
    | (intro)
    | with_reducible assumption
    | with_reducible exact Kept.refl _ _
    | exact Eq.refl _
    | split
    | (with_reducible refine KeptO.next ?_)
    | (with_reducible apply Kept.step State.trimBegin_kept)
    | (with_reducible apply Kept.step State.rtcAuto_kept)
    | (with_reducible apply Kept.step State.rtcNow_kept)
    | (with_reducible apply Kept.step State.bkpRaise_kept)
    | (with_reducible apply KeptO.lift State.done_kept)
    | (with_reducible apply Kept.step State.at__kept)
    | (with_reducible apply Kept.step State.wf_kept)
    | (with_reducible apply Kept.step State.fresh_kept)
    | (with_reducible refine Kept.snd (by with_reducible assumption) ?_)
    | (with_reducible refine Kept.fst (by with_reducible assumption) ?_)

theorem execCalendarAlarm_kept {t : Nat} {s : State} : KeptO 7931263 s (execCalendarAlarm t s) := by
  unfold execCalendarAlarm
  repeat' first
    | (intro)
    | with_reducible assumption
    | with_reducible exact Kept.refl _ _
    | exact Eq.refl _
    | (with_reducible refine KeptO.next ?_)
    | (with_reducible apply Kept.step State.alarmCheck_kept)
    | (with_reducible apply Kept.step State.rtcNow_kept)
    | (with_reducible apply KeptO.lift State.done_kept)
    | (with_reducible apply Kept.step State.at__kept)

theorem execPwronPulseEnd_kept {t : Nat} {s : State} : KeptO 7931263 s (execPwronPulseEnd t s) := by
  unfold execPwronPulseEnd
  repeat' first
    | (intro)
    | with_reducible assumption
    | with_reducible exact Kept.refl _ _
    | exact Eq.refl _
    | (extract_lets +onlyGivenNames x
       first
       | (have hx : Kept 7931263 s x := ?_
          clear_value x
          rotate_left
          subst x
          rotate_left)
       | clear_value x)
    | split
    | (with_reducible refine KeptO.next ?_)
    | (with_reducible apply KeptO.lift State.done_kept)
    | (with_reducible apply Kept.step State.at__kept)
    | (with_reducible apply Kept.step State.wf_kept)
    | (with_reducible apply Kept.step State.onBkp_kept)
    | (with_reducible refine Kept.snd (by with_reducible assumption) ?_)
    | (with_reducible refine Kept.fst (by with_reducible assumption) ?_)

theorem execPwronHoldoffEnd_kept {t : Nat} {s : State} : KeptO 7931263 s (execPwronHoldoffEnd t s) := by
  unfold execPwronHoldoffEnd
  repeat' first
    | (intro)
    | with_reducible assumption
    | with_reducible exact Kept.refl _ _
    | exact Eq.refl _
    | (extract_lets +onlyGivenNames x
       first
       | (have hx : Kept 7931263 s x := ?_
          clear_value x
          rotate_left
          subst x
          rotate_left)
       | clear_value x)
    | split
    | (with_reducible refine KeptO.next ?_)
    | (with_reducible apply Kept.step State.pwronAssert_kept)
    | (with_reducible apply KeptO.lift State.done_kept)
    | (with_reducible apply Kept.step State.at__kept)
    | (with_reducible apply Kept.step State.wf_kept)
    | (with_reducible apply Kept.step State.onBkp_kept)
    | (with_reducible refine Kept.snd (by with_reducible assumption) ?_)
    | (with_reducible refine Kept.fst (by with_reducible assumption) ?_)

end Sys2Proof.Machine
end

