-- ==== Sys2Proof/Laws/KeptRegOps.lean ====
section
/-! SUPPORT. What the operations of Machine/RegOps.lean leave alone. -/

set_option linter.tactic.unusedName false

namespace Sys2Proof.Machine

set_option Elab.async false

theorem State.wrSoft_kept {off : Nat} {mask : Nat} {v : Nat} {s : State} : Kept 4194310 s (State.wrSoft off mask v s) := by
  unfold State.wrSoft
  repeat' first
    | (intro)
    | with_reducible assumption
    | with_reducible exact Kept.refl _ _
    | exact Eq.refl _
    | (with_reducible apply Kept.step State.wr_kept)

end Sys2Proof.Machine
end

