-- ==== Sys2Proof/Laws/KeptBeacon.lean ====
section
/-! SUPPORT. What the operations of Machine/Beacon.lean leave alone. -/

set_option linter.tactic.unusedName false

namespace Sys2Proof.Machine

set_option Elab.async false

theorem State.dmRemain_kept {s : State} : Kept 4194310 s (State.dmRemain s) := by
  unfold State.dmRemain
  repeat' first
    | (intro)
    | with_reducible assumption
    | with_reducible exact Kept.refl _ _
    | exact Eq.refl _
    | (with_reducible apply Kept.step State.wf_kept)
    | (with_reducible refine Kept.fold ?_ ?_)
    | (with_reducible refine Kept.foldSnd ?_ ?_)
    | (with_reducible refine Kept.foldFst ?_ ?_)

theorem bodyBcnTableWrite_kept {c : Cmd} {a1 : State} : Kept 4325382 a1 (bodyBcnTableWrite c a1).2 := by
  unfold bodyBcnTableWrite
  repeat' first
    | (intro)
    | with_reducible assumption
    | with_reducible exact Kept.refl _ _
    | exact Eq.refl _
    | (with_reducible refine Kept.ofId ?_)
    | (with_reducible apply Kept.step State.wrSoft_kept)
    | (with_reducible apply Kept.step State.bcnSettle_kept)
    | (with_reducible apply okWith_kept)
    | (with_reducible apply Kept.step State.dirtyHost_kept)
    | (with_reducible refine Kept.fold ?_ ?_)
    | (with_reducible refine Kept.foldSnd ?_ ?_)
    | (with_reducible refine Kept.foldFst ?_ ?_)

theorem execBcnTableWrite_kept {t : Nat} {c : Cmd} {s : State} : KeptO 7996799 s (execBcnTableWrite t c s) := by
  unfold execBcnTableWrite
  repeat' first
    | (intro)
    | with_reducible assumption
    | with_reducible exact Kept.refl _ _
    | exact Eq.refl _
    | (with_reducible refine Kept.ofId ?_)
    | (with_reducible refine KeptO.next ?_)
    | (with_reducible apply Kept.step bodyBcnTableWrite_kept)
    | (with_reducible apply KeptO.lift State.done_kept)
    | (with_reducible apply State.command_kept)

theorem bodyBcnTableRead_kept {c : Cmd} {a1 : State} : Kept 14680078 a1 (bodyBcnTableRead c a1).2 := by
  unfold bodyBcnTableRead
  repeat' first
    | (intro)
    | with_reducible assumption
    | with_reducible exact Kept.refl _ _
    | exact Eq.refl _
    | (with_reducible refine Kept.ofId ?_)
    | (with_reducible apply Kept.step State.dmRemain_kept)
    | (with_reducible apply Kept.step State.bufPut_kept)
    | (with_reducible apply okWith_kept)

theorem execBcnTableRead_kept {t : Nat} {c : Cmd} {s : State} : KeptO 16254335 s (execBcnTableRead t c s) := by
  unfold execBcnTableRead
  repeat' first
    | (intro)
    | with_reducible assumption
    | with_reducible exact Kept.refl _ _
    | exact Eq.refl _
    | (with_reducible refine Kept.ofId ?_)
    | (with_reducible refine KeptO.next ?_)
    | (with_reducible apply Kept.step bodyBcnTableRead_kept)
    | (with_reducible apply KeptO.lift State.done_kept)
    | (with_reducible apply State.command_kept)

theorem State.acceptKey_kept {key : Nat} {src : Nat} {s : State} : Kept 6848686 s (State.acceptKey key src s).2 := by
  unfold State.acceptKey
  repeat' first
    | (intro)
    | with_reducible assumption
    | with_reducible exact Kept.refl _ _
    | exact Eq.refl _
    | split
    | (with_reducible apply Kept.step State.ctrlAccept_kept)
    | (with_reducible refine Kept.snd (by with_reducible assumption) ?_)
    | (with_reducible refine Kept.fst (by with_reducible assumption) ?_)

theorem State.acceptAll_kept {src : Nat} {s : State} : Kept 6848686 s (State.acceptAll src s).2 := by
  unfold State.acceptAll
  repeat' first
    | (intro)
    | with_reducible assumption
    | with_reducible exact Kept.refl _ _
    | exact Eq.refl _
    | (with_reducible apply Kept.step State.ctrlAccept_kept)

theorem bodyBcnAccept_kept {c : Cmd} {a1 : State} : Kept 6848686 a1 (bodyBcnAccept c a1).2 := by
  unfold bodyBcnAccept
  repeat' first
    | (intro)
    | with_reducible assumption
    | with_reducible exact Kept.refl _ _
    | exact Eq.refl _
    | split
    | (with_reducible apply Kept.step State.acceptAll_kept)
    | (with_reducible apply Kept.step State.acceptKey_kept)
    | (with_reducible refine Kept.snd (by with_reducible assumption) ?_)
    | (with_reducible refine Kept.fst (by with_reducible assumption) ?_)

theorem execBcnAccept_kept {t : Nat} {c : Cmd} {s : State} : KeptO 7898623 s (execBcnAccept t c s) := by
  unfold execBcnAccept
  repeat' first
    | (intro)
    | with_reducible assumption
    | with_reducible exact Kept.refl _ _
    | exact Eq.refl _
    | (with_reducible refine Kept.ofId ?_)
    | (with_reducible refine KeptO.next ?_)
    | (with_reducible apply Kept.step bodyBcnAccept_kept)
    | (with_reducible apply KeptO.lift State.done_kept)
    | (with_reducible apply State.command_kept)

theorem bodyBcnDm_kept {c : Cmd} {a1 : State} : Kept 4227078 a1 (bodyBcnDm c a1).2 := by
  unfold bodyBcnDm
  repeat' first
    | (intro)
    | with_reducible assumption
    | with_reducible exact Kept.refl _ _
    | exact Eq.refl _
    | split
    | (with_reducible apply Kept.step State.dmInput_kept)
    | (with_reducible apply Kept.step State.bcnSettle_kept)
    | (with_reducible refine Kept.snd (by with_reducible assumption) ?_)
    | (with_reducible refine Kept.fst (by with_reducible assumption) ?_)

theorem execBcnDm_kept {t : Nat} {c : Cmd} {s : State} : KeptO 7898495 s (execBcnDm t c s) := by
  unfold execBcnDm
  repeat' first
    | (intro)
    | with_reducible assumption
    | with_reducible exact Kept.refl _ _
    | exact Eq.refl _
    | (with_reducible refine Kept.ofId ?_)
    | (with_reducible refine KeptO.next ?_)
    | (with_reducible apply Kept.step bodyBcnDm_kept)
    | (with_reducible apply KeptO.lift State.done_kept)
    | (with_reducible apply State.command_kept)

theorem bodyBcnUms_kept {c : Cmd} {a1 : State} : Kept 4325382 a1 (bodyBcnUms c a1).2 := by
  unfold bodyBcnUms
  repeat' first
    | (intro)
    | with_reducible assumption
    | with_reducible exact Kept.refl _ _
    | exact Eq.refl _
    | (with_reducible refine Kept.ofId ?_)
    | (with_reducible apply okWith_kept)
    | (with_reducible apply Kept.step State.dirtyHost_kept)
    | (with_reducible apply Kept.step State.wf_kept)

theorem execBcnUms_kept {t : Nat} {c : Cmd} {s : State} : KeptO 7996799 s (execBcnUms t c s) := by
  unfold execBcnUms
  repeat' first
    | (intro)
    | with_reducible assumption
    | with_reducible exact Kept.refl _ _
    | exact Eq.refl _
    | (with_reducible refine Kept.ofId ?_)
    | (with_reducible refine KeptO.next ?_)
    | (with_reducible apply Kept.step bodyBcnUms_kept)
    | (with_reducible apply KeptO.lift State.done_kept)
    | (with_reducible apply State.command_kept)

theorem bodyBcnHostCall_kept {c : Cmd} {a1 : State} : Kept 6914222 a1 (bodyBcnHostCall c a1).2 := by
  unfold bodyBcnHostCall
  repeat' first
    | (intro)
    | with_reducible assumption
    | with_reducible exact Kept.refl _ _
    | exact Eq.refl _
    | (with_reducible apply Kept.step State.bcnRequest_kept)
    | (with_reducible apply Kept.step State.bcnSettle_kept)

theorem execBcnHostCall_kept {t : Nat} {c : Cmd} {s : State} : KeptO 7964159 s (execBcnHostCall t c s) := by
  unfold execBcnHostCall
  repeat' first
    | (intro)
    | with_reducible assumption
    | with_reducible exact Kept.refl _ _
    | exact Eq.refl _
    | (with_reducible refine Kept.ofId ?_)
    | (with_reducible refine KeptO.next ?_)
    | (with_reducible apply Kept.step bodyBcnHostCall_kept)
    | (with_reducible apply KeptO.lift State.done_kept)
    | (with_reducible apply State.command_kept)

theorem State.stageAgain_kept {q : BSeq} {s : State} : Kept 6848686 s (State.stageAgain q s) := by
  unfold State.stageAgain
  repeat' first
    | (intro)
    | with_reducible assumption
    | with_reducible exact Kept.refl _ _
    | exact Eq.refl _
    | (with_reducible apply Kept.step State.setSeq_kept)
    | (with_reducible apply Kept.step State.callAll_kept)

theorem State.escalate_kept {q : BSeq} {s : State} : Kept 6848686 s (State.escalate q s) := by
  unfold State.escalate
  repeat' first
    | (intro)
    | with_reducible assumption
    | with_reducible exact Kept.refl _ _
    | exact Eq.refl _
    | split
    | (with_reducible apply Kept.step State.stageAgain_kept)
    | (with_reducible apply Kept.step State.stageStart_kept)
    | (with_reducible apply Kept.step State.raise_kept)
    | (with_reducible refine Kept.snd (by with_reducible assumption) ?_)
    | (with_reducible refine Kept.fst (by with_reducible assumption) ?_)

theorem execStageTimerExpire_kept {t : Nat} {key : Nat} {s : State} : KeptO 7898623 s (execStageTimerExpire t key s) := by
  unfold execStageTimerExpire
  repeat' first
    | (intro)
    | with_reducible assumption
    | with_reducible exact Kept.refl _ _
    | exact Eq.refl _
    | (extract_lets +onlyGivenNames x
       first
       | (have hx : Kept 7898623 s x := ?_
          clear_value x
          rotate_left
          subst x
          rotate_left)
       | clear_value x)
    | split
    | (with_reducible refine KeptO.next ?_)
    | (with_reducible apply Kept.step State.escalate_kept)
    | (with_reducible apply Kept.step State.bcnSettle_kept)
    | (with_reducible apply KeptO.lift State.done_kept)
    | (with_reducible apply Kept.step State.raise_kept)
    | (with_reducible apply Kept.step State.at__kept)
    | (with_reducible refine Kept.snd (by with_reducible assumption) ?_)
    | (with_reducible refine Kept.fst (by with_reducible assumption) ?_)

theorem execAttendTimerExpire_kept {t : Nat} {key : Nat} {s : State} : KeptO 7898623 s (execAttendTimerExpire t key s) := by
  unfold execAttendTimerExpire
  repeat' first
    | (intro)
    | with_reducible assumption
    | with_reducible exact Kept.refl _ _
    | exact Eq.refl _
    | (extract_lets +onlyGivenNames x
       first
       | (have hx : Kept 7898623 s x := ?_
          clear_value x
          rotate_left
          subst x
          rotate_left)
       | clear_value x)
    | split
    | (with_reducible refine KeptO.next ?_)
    | (with_reducible apply Kept.step State.escalate_kept)
    | (with_reducible apply Kept.step State.bcnSettle_kept)
    | (with_reducible apply KeptO.lift State.done_kept)
    | (with_reducible apply Kept.step State.at__kept)
    | (with_reducible apply Kept.step State.bump_kept)
    | (with_reducible refine Kept.snd (by with_reducible assumption) ?_)
    | (with_reducible refine Kept.fst (by with_reducible assumption) ?_)

theorem execDeadmanTimerExpire_kept {t : Nat} {u : Nat} {s : State} : KeptO 7964159 s (execDeadmanTimerExpire t u s) := by
  unfold execDeadmanTimerExpire
  repeat' first
    | (intro)
    | with_reducible assumption
    | with_reducible exact Kept.refl _ _
    | exact Eq.refl _
    | (extract_lets +onlyGivenNames x
       first
       | (have hx : Kept 7964159 s x := ?_
          clear_value x
          rotate_left
          subst x
          rotate_left)
       | clear_value x)
    | split
    | (with_reducible refine KeptO.next ?_)
    | (with_reducible apply Kept.step State.dmTimer_kept)
    | (with_reducible apply Kept.step State.bcnRequest_kept)
    | (with_reducible apply Kept.step State.bcnSettle_kept)
    | (with_reducible apply KeptO.lift State.done_kept)
    | (with_reducible apply Kept.step State.raise_kept)
    | (with_reducible apply Kept.step State.at__kept)
    | (with_reducible apply Kept.step State.bump_kept)
    | (with_reducible apply Kept.step State.wf_kept)
    | (with_reducible apply Kept.step State.onBcn_kept)
    | (with_reducible refine Kept.snd (by with_reducible assumption) ?_)
    | (with_reducible refine Kept.fst (by with_reducible assumption) ?_)

theorem State.stationLose_kept {n : Nat} {s : State} : Kept 6815790 s (State.stationLose n s) := by
  unfold State.stationLose
  repeat' first
    | (intro)
    | with_reducible assumption
    | with_reducible exact Kept.refl _ _
    | exact Eq.refl _
    | split
    | (with_reducible apply Kept.step State.bcnSettle_kept)
    | (with_reducible apply Kept.step State.setLost_kept)
    | (with_reducible apply Kept.step State.raise_kept)
    | (with_reducible apply Kept.step State.bump_kept)
    | (with_reducible refine Kept.snd (by with_reducible assumption) ?_)
    | (with_reducible refine Kept.fst (by with_reducible assumption) ?_)

theorem State.stationsLost_kept {s : State} : Kept 6815790 s (State.stationsLost s) := by
  unfold State.stationsLost
  repeat' first
    | (intro)
    | with_reducible assumption
    | with_reducible exact Kept.refl _ _
    | exact Eq.refl _
    | (with_reducible apply Kept.step State.stationLose_kept)
    | (with_reducible refine Kept.fold ?_ ?_)
    | (with_reducible refine Kept.foldSnd ?_ ?_)
    | (with_reducible refine Kept.foldFst ?_ ?_)

theorem State.stationBack_kept {n : Nat} {s : State} : Kept 6848686 s (State.stationBack n s) := by
  unfold State.stationBack
  repeat' first
    | (intro)
    | with_reducible assumption
    | with_reducible exact Kept.refl _ _
    | exact Eq.refl _
    | split
    | (with_reducible apply Kept.step State.callSet_kept)
    | (with_reducible apply Kept.step State.bcnSettle_kept)
    | (with_reducible apply Kept.step State.setLost_kept)
    | (with_reducible refine Kept.fold ?_ ?_)
    | (with_reducible refine Kept.foldSnd ?_ ?_)
    | (with_reducible refine Kept.foldFst ?_ ?_)
    | (with_reducible refine Kept.snd (by with_reducible assumption) ?_)
    | (with_reducible refine Kept.fst (by with_reducible assumption) ?_)

theorem State.stationStatus_kept {node : Nat} {fault : Bool} {s : State} : Kept 6848686 s (State.stationStatus node fault s) := by
  unfold State.stationStatus
  repeat' first
    | (intro)
    | with_reducible assumption
    | with_reducible exact Kept.refl _ _
    | exact Eq.refl _
    | (extract_lets +onlyGivenNames x
       first
       | (have hx : Kept 6848686 s x := ?_
          clear_value x
          rotate_left
          subst x
          rotate_left)
       | clear_value x)
    | split
    | (with_reducible apply Kept.step State.stationBack_kept)
    | (with_reducible apply Kept.step State.stationLose_kept)
    | (with_reducible apply Kept.step State.bump_kept)
    | (with_reducible apply Kept.step State.onBcn_kept)
    | (with_reducible refine Kept.fold ?_ ?_)
    | (with_reducible refine Kept.foldSnd ?_ ?_)
    | (with_reducible refine Kept.foldFst ?_ ?_)
    | (with_reducible refine Kept.snd (by with_reducible assumption) ?_)
    | (with_reducible refine Kept.fst (by with_reducible assumption) ?_)

theorem State.stationInput_kept {n : Nat} {evt : Nat} {key : Nat} {s : State} : Kept 6848686 s (State.stationInput n evt key s) := by
  unfold State.stationInput
  repeat' first
    | (intro)
    | with_reducible assumption
    | with_reducible exact Kept.refl _ _
    | exact Eq.refl _
    | (extract_lets +onlyGivenNames x
       first
       | (have hx : Kept 6848686 s x := ?_
          clear_value x
          rotate_left
          subst x
          rotate_left)
       | clear_value x)
    | split
    | (with_reducible apply Kept.step State.acceptAll_kept)
    | (with_reducible apply Kept.step State.acceptKey_kept)
    | (with_reducible apply Kept.step State.seqAttend_kept)
    | (with_reducible apply Kept.step State.dmInput_kept)
    | (with_reducible apply Kept.step State.bcnSettle_kept)
    | (with_reducible refine Kept.fold ?_ ?_)
    | (with_reducible refine Kept.foldSnd ?_ ?_)
    | (with_reducible refine Kept.foldFst ?_ ?_)
    | (with_reducible refine Kept.snd (by with_reducible assumption) ?_)
    | (with_reducible refine Kept.fst (by with_reducible assumption) ?_)

theorem State.stationEvent_kept {node : Nat} {evt : Nat} {key : Nat} {evtSeq : Nat} {s : State} : Kept 6848686 s (State.stationEvent node evt key evtSeq s) := by
  unfold State.stationEvent
  repeat' first
    | (intro)
    | with_reducible assumption
    | with_reducible exact Kept.refl _ _
    | exact Eq.refl _
    | (extract_lets +onlyGivenNames x
       first
       | (have hx : Kept 6848686 s x := ?_
          clear_value x
          rotate_left
          subst x
          rotate_left)
       | clear_value x)
    | split
    | (with_reducible apply Kept.step State.stationInput_kept)
    | (with_reducible apply Kept.step State.bump_kept)
    | (with_reducible apply Kept.step State.onBcn_kept)
    | (with_reducible refine Kept.fold ?_ ?_)
    | (with_reducible refine Kept.foldSnd ?_ ?_)
    | (with_reducible refine Kept.foldFst ?_ ?_)
    | (with_reducible refine Kept.snd (by with_reducible assumption) ?_)
    | (with_reducible refine Kept.fst (by with_reducible assumption) ?_)

theorem execBcnStatus_kept {t : Nat} {node : Nat} {fault : Bool} {s : State} : KeptO 7898623 s (execBcnStatus t node fault s) := by
  unfold execBcnStatus
  repeat' first
    | (intro)
    | with_reducible assumption
    | with_reducible exact Kept.refl _ _
    | exact Eq.refl _
    | split
    | (with_reducible refine KeptO.next ?_)
    | (with_reducible apply Kept.step State.stationStatus_kept)
    | (with_reducible apply KeptO.lift State.done_kept)
    | (with_reducible apply Kept.step State.at__kept)
    | (with_reducible refine Kept.snd (by with_reducible assumption) ?_)
    | (with_reducible refine Kept.fst (by with_reducible assumption) ?_)

theorem execBcnStationEvt_kept {t : Nat} {node : Nat} {evt : Nat} {key : Nat} {evtSeq : Nat} {s : State} : KeptO 7898623 s (execBcnStationEvt t node evt key evtSeq s) := by
  unfold execBcnStationEvt
  repeat' first
    | (intro)
    | with_reducible assumption
    | with_reducible exact Kept.refl _ _
    | exact Eq.refl _
    | split
    | (with_reducible refine KeptO.next ?_)
    | (with_reducible apply Kept.step State.stationEvent_kept)
    | (with_reducible apply KeptO.lift State.done_kept)
    | (with_reducible apply Kept.step State.at__kept)
    | (with_reducible refine Kept.snd (by with_reducible assumption) ?_)
    | (with_reducible refine Kept.fst (by with_reducible assumption) ?_)

theorem execStationLostTimeout_kept {t : Nat} {n : Nat} {s : State} : KeptO 7865727 s (execStationLostTimeout t n s) := by
  unfold execStationLostTimeout
  repeat' first
    | (intro)
    | with_reducible assumption
    | with_reducible exact Kept.refl _ _
    | exact Eq.refl _
    | (extract_lets +onlyGivenNames x
       first
       | (have hx : Kept 7865727 s x := ?_
          clear_value x
          rotate_left
          subst x
          rotate_left)
       | clear_value x)
    | split
    | (with_reducible refine KeptO.next ?_)
    | (with_reducible apply Kept.step State.stationLose_kept)
    | (with_reducible apply KeptO.lift State.done_kept)
    | (with_reducible apply Kept.step State.at__kept)
    | (with_reducible refine Kept.snd (by with_reducible assumption) ?_)
    | (with_reducible refine Kept.fst (by with_reducible assumption) ?_)

theorem execBcnCallRepeat_kept {t : Nat} {station : Nat} {key : Nat} {s : State} : KeptO 7898623 s (execBcnCallRepeat t station key s) := by
  unfold execBcnCallRepeat
  repeat' first
    | (intro)
    | with_reducible assumption
    | with_reducible exact Kept.refl _ _
    | exact Eq.refl _
    | (extract_lets +onlyGivenNames x
       first
       | (have hx : Kept 7898623 s x := ?_
          clear_value x
          rotate_left
          subst x
          rotate_left)
       | clear_value x)
    | split
    | (with_reducible refine KeptO.next ?_)
    | (with_reducible apply Kept.step State.callSend_kept)
    | (with_reducible apply KeptO.lift State.done_kept)
    | (with_reducible apply Kept.step State.at__kept)
    | (with_reducible apply Kept.step State.onBcn_kept)
    | (with_reducible refine Kept.snd (by with_reducible assumption) ?_)
    | (with_reducible refine Kept.fst (by with_reducible assumption) ?_)

theorem State.bcnRestart_kept {s : State} : Kept 6914222 s (State.bcnRestart s) := by
  unfold State.bcnRestart
  repeat' first
    | (intro)
    | with_reducible assumption
    | with_reducible exact Kept.refl _ _
    | exact Eq.refl _
    | (with_reducible apply Kept.step State.dmTimer_kept)
    | (with_reducible apply Kept.step State.bcnRequest_kept)
    | (with_reducible apply Kept.step State.bcnShow_kept)
    | (with_reducible apply Kept.step State.bcnKeep_kept)
    | (with_reducible apply Kept.step State.wf_kept)
    | (with_reducible refine Kept.fold ?_ ?_)
    | (with_reducible refine Kept.foldSnd ?_ ?_)
    | (with_reducible refine Kept.foldFst ?_ ?_)

end Sys2Proof.Machine
end

