-- ==== Sys2Proof/Laws/KeptSectors.lean ====
section
/-! SUPPORT. What the operations of Machine/Sectors.lean leave alone. -/

set_option linter.tactic.unusedName false

namespace Sys2Proof.Machine

set_option Elab.async false

theorem bodySecConfig_kept {c : Cmd} {a1 : State} : Kept 6964264 a1 (bodySecConfig c a1).2 := by
  unfold bodySecConfig
  repeat' first
    | (intro)
    | with_reducible assumption
    | with_reducible exact Kept.refl _ _
    | exact Eq.refl _
    | (with_reducible refine Kept.ofId ?_)
    | (with_reducible apply State.sectorsBy_kept)
    | (with_reducible apply Kept.step State.setSect_kept)
    | (with_reducible apply okWith_kept)
    | (with_reducible apply Kept.step State.dirtyHost_kept)

theorem execSecConfig_kept {t : Nat} {c : Cmd} {s : State} : KeptO 8013183 s (execSecConfig t c s) := by
  unfold execSecConfig
  repeat' first
    | (intro)
    | with_reducible assumption
    | with_reducible exact Kept.refl _ _
    | exact Eq.refl _
    | (with_reducible refine Kept.ofId ?_)
    | (with_reducible refine KeptO.next ?_)
    | (with_reducible apply Kept.step bodySecConfig_kept)
    | (with_reducible apply KeptO.lift State.done_kept)
    | (with_reducible apply State.command_kept)

theorem bodySecRead_kept {c : Cmd} {a1 : State} : Kept 14680072 a1 (bodySecRead c a1).2 := by
  unfold bodySecRead
  repeat' first
    | (intro)
    | with_reducible assumption
    | with_reducible exact Kept.refl _ _
    | exact Eq.refl _
    | (with_reducible refine Kept.ofId ?_)
    | (with_reducible apply Kept.step State.bufPut_kept)
    | (with_reducible apply okWith_kept)

theorem execSecRead_kept {t : Nat} {c : Cmd} {s : State} : KeptO 16254335 s (execSecRead t c s) := by
  unfold execSecRead
  repeat' first
    | (intro)
    | with_reducible assumption
    | with_reducible exact Kept.refl _ _
    | exact Eq.refl _
    | (with_reducible refine Kept.ofId ?_)
    | (with_reducible refine KeptO.next ?_)
    | (with_reducible apply Kept.step bodySecRead_kept)
    | (with_reducible apply KeptO.lift State.done_kept)
    | (with_reducible apply State.command_kept)

theorem State.foReset_kept {n : Nat} {s : State} : Kept 6833192 s (State.foReset n s) := by
  unfold State.foReset
  repeat' first
    | (intro)
    | with_reducible assumption
    | with_reducible exact Kept.refl _ _
    | exact Eq.refl _
    | (with_reducible refine Kept.ofId ?_)
    | (with_reducible apply Kept.step State.foEvent_kept)
    | (with_reducible apply State.sectorsBy_kept)
    | (with_reducible apply Kept.step State.setSect_kept)

theorem bodySecFoReset_kept {c : Cmd} {a1 : State} : Kept 6964264 a1 (bodySecFoReset c a1).2 := by
  unfold bodySecFoReset
  repeat' first
    | (intro)
    | with_reducible assumption
    | with_reducible exact Kept.refl _ _
    | exact Eq.refl _
    | (with_reducible apply Kept.step State.foReset_kept)
    | (with_reducible apply Kept.step State.dirtyHost_kept)
    | (with_reducible refine Kept.fold ?_ ?_)
    | (with_reducible refine Kept.foldSnd ?_ ?_)
    | (with_reducible refine Kept.foldFst ?_ ?_)

theorem execSecFoReset_kept {t : Nat} {c : Cmd} {s : State} : KeptO 8013183 s (execSecFoReset t c s) := by
  unfold execSecFoReset
  repeat' first
    | (intro)
    | with_reducible assumption
    | with_reducible exact Kept.refl _ _
    | exact Eq.refl _
    | (with_reducible refine Kept.ofId ?_)
    | (with_reducible refine KeptO.next ?_)
    | (with_reducible apply Kept.step bodySecFoReset_kept)
    | (with_reducible apply KeptO.lift State.done_kept)
    | (with_reducible apply State.command_kept)

theorem State.edgeGauges_kept {s : State} : Kept 4194310 s (State.edgeGauges s) := by
  unfold State.edgeGauges
  repeat' first
    | (intro)
    | with_reducible assumption
    | with_reducible exact Kept.refl _ _
    | exact Eq.refl _
    | (with_reducible apply Kept.step State.wf_kept)
    | (with_reducible refine Kept.fold ?_ ?_)
    | (with_reducible refine Kept.foldSnd ?_ ?_)
    | (with_reducible refine Kept.foldFst ?_ ?_)

theorem State.setCauseRef_kept {key : Nat} {n : Nat} {s : State} : Kept 1024 s (State.setCauseRef key n s) := by
  unfold State.setCauseRef
  repeat' first
    | (intro)
    | with_reducible assumption
    | with_reducible exact Kept.refl _ _
    | exact Eq.refl _
    | split
    | (with_reducible apply Kept.step State.setMir_kept)
    | (with_reducible apply Kept.step State.modLink_kept)
    | (with_reducible refine Kept.snd (by with_reducible assumption) ?_)
    | (with_reducible refine Kept.fst (by with_reducible assumption) ?_)

theorem State.putEdges_kept {n : Nat} {base : Nat} {cs : List Nat} {s : State} : Kept 1024 s (State.putEdges n base cs s) := by
  unfold State.putEdges
  repeat' first
    | (intro)
    | with_reducible assumption
    | with_reducible exact Kept.refl _ _
    | exact Eq.refl _
    | (with_reducible apply Kept.step State.setCause_kept)
    | (with_reducible apply Kept.step State.onSec_kept)
    | (with_reducible refine Kept.fold ?_ ?_)
    | (with_reducible refine Kept.foldSnd ?_ ?_)
    | (with_reducible refine Kept.foldFst ?_ ?_)

theorem State.dropEdges_kept {n : Nat} {s : State} : Kept 1024 s (State.dropEdges n s) := by
  unfold State.dropEdges
  repeat' first
    | (intro)
    | with_reducible assumption
    | with_reducible exact Kept.refl _ _
    | exact Eq.refl _
    | (with_reducible apply Kept.step State.onSec_kept)
    | (with_reducible refine Kept.fold ?_ ?_)
    | (with_reducible refine Kept.foldSnd ?_ ?_)
    | (with_reducible refine Kept.foldFst ?_ ?_)

theorem State.causeWrite_kept {c : Cmd} {key : Nat} {n : Nat} {base : Nat} {new : Bool} {s : State} : Kept 6817326 s (State.causeWrite c key n base new s) := by
  have hz : True := trivial
  unfold State.causeWrite
  repeat' first
    | (intro)
    | with_reducible assumption
    | with_reducible exact Kept.refl _ _
    | exact Eq.refl _
    | (extract_lets +onlyGivenNames x
       first
       | (have hx : Kept 6817326 s x := ?_
          clear_value x
          rotate_left
          subst x
          rotate_left)
       | (have hz : ∀ y, Kept 6817326 s y → Kept 6817326 s (x y) := ?_
          clear_value x
          rotate_left
          unfold x
          clear x
          rotate_left)
       | (have hz : ∀ a y, Kept 6817326 s y → Kept 6817326 s (x a y) := ?_
          clear_value x
          rotate_left
          unfold x
          clear x
          rotate_left)
       | (have hz : ∀ a b y, Kept 6817326 s y → Kept 6817326 s (x a b y) := ?_
          clear_value x
          rotate_left
          unfold x
          clear x
          rotate_left)
       | (have hz : ∀ a b c y, Kept 6817326 s y → Kept 6817326 s (x a b c y) := ?_
          clear_value x
          rotate_left
          unfold x
          clear x
          rotate_left)
       | clear_value x)
    | split
    | (with_reducible apply Kept.step State.dropEdges_kept)
    | (with_reducible apply Kept.step State.putEdges_kept)
    | (with_reducible apply Kept.step State.setCauseRef_kept)
    | (with_reducible apply Kept.step State.causeTake_kept)
    | (with_reducible apply Kept.step State.suppMove_kept)
    | (with_reducible apply Kept.step State.setCause_kept)
    | (with_reducible refine Kept.fold ?_ ?_)
    | (with_reducible refine Kept.foldSnd ?_ ?_)
    | (with_reducible refine Kept.foldFst ?_ ?_)
    | (with_reducible refine Kept.snd (by with_reducible assumption) ?_)
    | (with_reducible refine Kept.fst (by with_reducible assumption) ?_)
    | (with_reducible apply hz)
    | (with_reducible refine Kept.call (by with_reducible assumption) ?_)
    | (with_reducible refine Kept.call1 (by with_reducible assumption) ?_)

theorem bodySecCauseSet_kept {c : Cmd} {a1 : State} : Kept 6948398 a1 (bodySecCauseSet c a1).2 := by
  unfold bodySecCauseSet
  repeat' first
    | (intro)
    | with_reducible assumption
    | with_reducible exact Kept.refl _ _
    | exact Eq.refl _
    | (extract_lets +onlyGivenNames x
       first
       | (have hx : Kept 6948398 a1 x := ?_
          clear_value x
          rotate_left
          subst x
          rotate_left)
       | clear_value x)
    | split
    | (with_reducible apply Kept.step State.causeWrite_kept)
    | (with_reducible apply Kept.step State.edgeGauges_kept)
    | (with_reducible apply Kept.step State.dirtyHost_kept)
    | (with_reducible apply Kept.step State.wf_kept)
    | (with_reducible refine Kept.snd (by with_reducible assumption) ?_)
    | (with_reducible refine Kept.fst (by with_reducible assumption) ?_)

theorem execSecCauseSet_kept {t : Nat} {c : Cmd} {s : State} : KeptO 7997311 s (execSecCauseSet t c s) := by
  unfold execSecCauseSet
  repeat' first
    | (intro)
    | with_reducible assumption
    | with_reducible exact Kept.refl _ _
    | exact Eq.refl _
    | (with_reducible refine Kept.ofId ?_)
    | (with_reducible refine KeptO.next ?_)
    | (with_reducible apply Kept.step bodySecCauseSet_kept)
    | (with_reducible apply KeptO.lift State.done_kept)
    | (with_reducible apply State.command_kept)

theorem bodySecCauseDelete_kept {c : Cmd} {a1 : State} : Kept 4326918 a1 (bodySecCauseDelete c a1).2 := by
  unfold bodySecCauseDelete
  repeat' first
    | (intro)
    | with_reducible assumption
    | with_reducible exact Kept.refl _ _
    | exact Eq.refl _
    | (with_reducible refine Kept.ofId ?_)
    | split
    | (with_reducible apply Kept.step State.dropEdges_kept)
    | (with_reducible apply Kept.step State.setCauseRef_kept)
    | (with_reducible apply Kept.step State.edgeGauges_kept)
    | (with_reducible apply Kept.step State.causeCancel_kept)
    | (with_reducible apply Kept.step State.fanOut_kept)
    | (with_reducible apply Kept.step State.setCause_kept)
    | (with_reducible apply okWith_kept)
    | (with_reducible apply Kept.step State.dirtyHost_kept)
    | (with_reducible refine Kept.snd (by with_reducible assumption) ?_)
    | (with_reducible refine Kept.fst (by with_reducible assumption) ?_)

theorem execSecCauseDelete_kept {t : Nat} {c : Cmd} {s : State} : KeptO 7997311 s (execSecCauseDelete t c s) := by
  unfold execSecCauseDelete
  repeat' first
    | (intro)
    | with_reducible assumption
    | with_reducible exact Kept.refl _ _
    | exact Eq.refl _
    | (with_reducible refine Kept.ofId ?_)
    | (with_reducible refine KeptO.next ?_)
    | (with_reducible apply Kept.step bodySecCauseDelete_kept)
    | (with_reducible apply KeptO.lift State.done_kept)
    | (with_reducible apply State.command_kept)

theorem bodySecCauseRead_kept {c : Cmd} {a1 : State} : Kept 14680072 a1 (bodySecCauseRead c a1).2 := by
  unfold bodySecCauseRead
  repeat' first
    | (intro)
    | with_reducible assumption
    | with_reducible exact Kept.refl _ _
    | exact Eq.refl _
    | split
    | (with_reducible apply Kept.step State.bufPut_kept)
    | (with_reducible refine Kept.foldr ?_ ?_)
    | (with_reducible refine Kept.snd (by with_reducible assumption) ?_)
    | (with_reducible refine Kept.fst (by with_reducible assumption) ?_)

theorem execSecCauseRead_kept {t : Nat} {c : Cmd} {s : State} : KeptO 16254335 s (execSecCauseRead t c s) := by
  unfold execSecCauseRead
  repeat' first
    | (intro)
    | with_reducible assumption
    | with_reducible exact Kept.refl _ _
    | exact Eq.refl _
    | (with_reducible refine Kept.ofId ?_)
    | (with_reducible refine KeptO.next ?_)
    | (with_reducible apply Kept.step bodySecCauseRead_kept)
    | (with_reducible apply KeptO.lift State.done_kept)
    | (with_reducible apply State.command_kept)

theorem State.suppSwitch_kept {on : Bool} {s : State} : Kept 4195334 s (State.suppSwitch on s) := by
  unfold State.suppSwitch
  repeat' first
    | (intro)
    | with_reducible assumption
    | with_reducible exact Kept.refl _ _
    | exact Eq.refl _
    | split
    | (with_reducible apply Kept.step State.wf_kept)
    | (with_reducible apply Kept.step State.onSec_kept)
    | (with_reducible refine Kept.snd (by with_reducible assumption) ?_)
    | (with_reducible refine Kept.fst (by with_reducible assumption) ?_)

theorem execSectorChangeProcess_kept {t : Nat} {s : State} : KeptO 7991295 s (execSectorChangeProcess t s) := by
  unfold execSectorChangeProcess
  repeat' first
    | (intro)
    | with_reducible assumption
    | with_reducible exact Kept.refl _ _
    | exact Eq.refl _
    | (extract_lets +onlyGivenNames x
       first
       | (have hx : Kept 7991295 s x := ?_
          clear_value x
          rotate_left
          subst x
          rotate_left)
       | clear_value x)
    | split
    | (with_reducible refine KeptO.next ?_)
    | (with_reducible apply Kept.step State.sectorNext_kept)
    | (with_reducible apply Kept.step State.bcnSettle_kept)
    | (with_reducible apply KeptO.lift State.done_kept)
    | (with_reducible apply Kept.step State.at__kept)
    | (with_reducible refine Kept.snd (by with_reducible assumption) ?_)
    | (with_reducible refine Kept.fst (by with_reducible assumption) ?_)

theorem execSettleTimerExpire_kept {t : Nat} {s : State} : KeptO 7866239 s (execSettleTimerExpire t s) := by
  unfold execSettleTimerExpire
  repeat' first
    | (intro)
    | with_reducible assumption
    | with_reducible exact Kept.refl _ _
    | exact Eq.refl _
    | (extract_lets +onlyGivenNames x
       first
       | (have hx : Kept 7866239 s x := ?_
          clear_value x
          rotate_left
          subst x
          rotate_left)
       | clear_value x)
    | split
    | (with_reducible refine KeptO.next ?_)
    | (with_reducible apply Kept.step State.causeExpire_kept)
    | (with_reducible apply KeptO.lift State.done_kept)
    | (with_reducible apply Kept.step State.at__kept)
    | (with_reducible refine Kept.snd (by with_reducible assumption) ?_)
    | (with_reducible refine Kept.fst (by with_reducible assumption) ?_)

theorem execReleaseTimerExpire_kept {t : Nat} {s : State} : KeptO 7866239 s (execReleaseTimerExpire t s) := by
  unfold execReleaseTimerExpire
  repeat' first
    | (intro)
    | with_reducible assumption
    | with_reducible exact Kept.refl _ _
    | exact Eq.refl _
    | (extract_lets +onlyGivenNames x
       first
       | (have hx : Kept 7866239 s x := ?_
          clear_value x
          rotate_left
          subst x
          rotate_left)
       | clear_value x)
    | split
    | (with_reducible refine KeptO.next ?_)
    | (with_reducible apply Kept.step State.causeExpire_kept)
    | (with_reducible apply KeptO.lift State.done_kept)
    | (with_reducible apply Kept.step State.at__kept)
    | (with_reducible refine Kept.snd (by with_reducible assumption) ?_)
    | (with_reducible refine Kept.fst (by with_reducible assumption) ?_)

theorem State.recount_kept {w : Nat} {sec : Nat} {s : State} : Kept 6833198 s (State.recount w sec s) := by
  unfold State.recount
  repeat' first
    | (intro)
    | with_reducible assumption
    | with_reducible exact Kept.refl _ _
    | exact Eq.refl _
    | (extract_lets +onlyGivenNames x
       first
       | (have hx : Kept 6833198 s x := ?_
          clear_value x
          rotate_left
          subst x
          rotate_left)
       | clear_value x)
    | split
    | (with_reducible apply Kept.step State.floodEnd_kept)
    | (with_reducible apply Kept.step State.wf_kept)
    | (with_reducible apply Kept.step State.onSec_kept)
    | (with_reducible refine Kept.snd (by with_reducible assumption) ?_)
    | (with_reducible refine Kept.fst (by with_reducible assumption) ?_)

theorem execFloodRecount_kept {t : Nat} {s : State} : KeptO 7882111 s (execFloodRecount t s) := by
  unfold execFloodRecount
  repeat' first
    | (intro)
    | with_reducible assumption
    | with_reducible exact Kept.refl _ _
    | exact Eq.refl _
    | (extract_lets +onlyGivenNames x
       first
       | (have hx : Kept 7882111 s x := ?_
          clear_value x
          rotate_left
          subst x
          rotate_left)
       | clear_value x)
    | split
    | (with_reducible refine KeptO.next ?_)
    | (with_reducible apply Kept.step State.recount_kept)
    | (with_reducible apply KeptO.lift State.done_kept)
    | (with_reducible apply Kept.step State.at__kept)
    | (with_reducible apply Kept.step State.onSec_kept)
    | (with_reducible refine Kept.fold ?_ ?_)
    | (with_reducible refine Kept.foldSnd ?_ ?_)
    | (with_reducible refine Kept.foldFst ?_ ?_)
    | (with_reducible refine Kept.snd (by with_reducible assumption) ?_)
    | (with_reducible refine Kept.fst (by with_reducible assumption) ?_)

theorem execFloodReleaseDone_kept {t : Nat} {s : State} : KeptO 7980543 s (execFloodReleaseDone t s) := by
  unfold execFloodReleaseDone
  repeat' first
    | (intro)
    | with_reducible assumption
    | with_reducible exact Kept.refl _ _
    | exact Eq.refl _
    | (extract_lets +onlyGivenNames x
       first
       | (have hx : Kept 7980543 s x := ?_
          clear_value x
          rotate_left
          subst x
          rotate_left)
       | clear_value x)
    | split
    | (with_reducible refine KeptO.next ?_)
    | (with_reducible apply Kept.step State.floodRelease_kept)
    | (with_reducible apply Kept.step State.bcnSettle_kept)
    | (with_reducible apply KeptO.lift State.done_kept)
    | (with_reducible apply Kept.step State.at__kept)
    | (with_reducible refine Kept.snd (by with_reducible assumption) ?_)
    | (with_reducible refine Kept.fst (by with_reducible assumption) ?_)

theorem State.floodsOff_kept {ws : List Nat} {s : State} : Kept 6833198 s (State.floodsOff ws s) := by
  unfold State.floodsOff
  repeat' first
    | (intro)
    | with_reducible assumption
    | with_reducible exact Kept.refl _ _
    | exact Eq.refl _
    | (with_reducible apply Kept.step State.floodEnd_kept)
    | (with_reducible refine Kept.fold ?_ ?_)
    | (with_reducible refine Kept.foldSnd ?_ ?_)
    | (with_reducible refine Kept.foldFst ?_ ?_)

theorem State.audit_kept {ns : List Nat} {cs : List Nat} {s : State} : Kept 6833198 s (State.audit ns cs s) := by
  unfold State.audit
  repeat' first
    | (intro)
    | with_reducible assumption
    | with_reducible exact Kept.refl _ _
    | exact Eq.refl _
    | (with_reducible refine Kept.ofId ?_)
    | (extract_lets +onlyGivenNames x
       first
       | (have hx : Kept 6833198 s x := ?_
          clear_value x
          rotate_left
          subst x
          rotate_left)
       | clear_value x)
    | split
    | (with_reducible apply Kept.step State.modLink_kept)
    | (with_reducible apply State.sectorsBy_kept)
    | (with_reducible apply Kept.step State.setSect_kept)
    | (with_reducible apply Kept.step State.gauge_kept)
    | (with_reducible apply Kept.step State.raise_kept)
    | (with_reducible apply Kept.step State.bump_kept)
    | (with_reducible apply Kept.step State.onSec_kept)
    | (with_reducible refine Kept.fold ?_ ?_)
    | (with_reducible refine Kept.foldSnd ?_ ?_)
    | (with_reducible refine Kept.foldFst ?_ ?_)
    | (with_reducible refine Kept.snd (by with_reducible assumption) ?_)
    | (with_reducible refine Kept.fst (by with_reducible assumption) ?_)

theorem execSectorAudit_kept {t : Nat} {flips : List (Nat × Nat)} {supp : List (Nat × Nat)} {s : State} : KeptO 7882111 s (execSectorAudit t flips supp s) := by
  unfold execSectorAudit
  repeat' first
    | (intro)
    | with_reducible assumption
    | with_reducible exact Kept.refl _ _
    | exact Eq.refl _
    | (extract_lets +onlyGivenNames x
       first
       | (have hx : Kept 7882111 s x := ?_
          clear_value x
          rotate_left
          subst x
          rotate_left)
       | clear_value x)
    | split
    | (with_reducible refine KeptO.next ?_)
    | (with_reducible apply Kept.step State.audit_kept)
    | (with_reducible apply Kept.step State.modLink_kept)
    | (with_reducible apply Kept.step State.setSect_kept)
    | (with_reducible apply KeptO.lift State.done_kept)
    | (with_reducible apply Kept.step State.at__kept)
    | (with_reducible apply Kept.step State.onSec_kept)
    | (with_reducible refine Kept.fold ?_ ?_)
    | (with_reducible refine Kept.foldSnd ?_ ?_)
    | (with_reducible refine Kept.foldFst ?_ ?_)
    | (with_reducible refine Kept.snd (by with_reducible assumption) ?_)
    | (with_reducible refine Kept.fst (by with_reducible assumption) ?_)

theorem execEdgeCompactionDone_kept {t : Nat} {s : State} : KeptO 7865727 s (execEdgeCompactionDone t s) := by
  unfold execEdgeCompactionDone
  repeat' first
    | (intro)
    | with_reducible assumption
    | with_reducible exact Kept.refl _ _
    | exact Eq.refl _
    | (extract_lets +onlyGivenNames x
       first
       | (have hx : Kept 7865727 s x := ?_
          clear_value x
          rotate_left
          subst x
          rotate_left)
       | clear_value x)
    | split
    | (with_reducible refine KeptO.next ?_)
    | (with_reducible apply Kept.step State.putEdges_kept)
    | (with_reducible apply Kept.step State.edgeGauges_kept)
    | (with_reducible apply KeptO.lift State.done_kept)
    | (with_reducible apply Kept.step State.at__kept)
    | (with_reducible apply Kept.step State.wf_kept)
    | (with_reducible apply Kept.step State.onSec_kept)
    | (with_reducible refine Kept.fold ?_ ?_)
    | (with_reducible refine Kept.foldSnd ?_ ?_)
    | (with_reducible refine Kept.foldFst ?_ ?_)
    | (with_reducible refine Kept.snd (by with_reducible assumption) ?_)
    | (with_reducible refine Kept.fst (by with_reducible assumption) ?_)

theorem State.subscribe_kept {dst : Nat} {e : Nat} {off : Bool} {s : State} : Kept 6815918 s (State.subscribe dst e off s) := by
  unfold State.subscribe
  repeat' first
    | (intro)
    | with_reducible assumption
    | with_reducible exact Kept.refl _ _
    | exact Eq.refl _
    | (with_reducible apply Kept.step State.send_kept)

theorem bodySecMirrorBind_kept {c : Cmd} {a1 : State} : Kept 6964398 a1 (bodySecMirrorBind c a1).2 := by
  unfold bodySecMirrorBind
  repeat' first
    | (intro)
    | with_reducible assumption
    | with_reducible exact Kept.refl _ _
    | exact Eq.refl _
    | (with_reducible refine Kept.ofId ?_)
    | split
    | (with_reducible apply Kept.step State.subscribe_kept)
    | (with_reducible apply Kept.step State.reMember_kept)
    | (with_reducible apply Kept.step State.setMir_kept)
    | (with_reducible apply State.sectorsBy_kept)
    | (with_reducible apply Kept.step State.dirtyHost_kept)
    | (with_reducible apply Kept.step State.onSec_kept)
    | (with_reducible refine Kept.snd (by with_reducible assumption) ?_)
    | (with_reducible refine Kept.fst (by with_reducible assumption) ?_)

theorem execSecMirrorBind_kept {t : Nat} {c : Cmd} {s : State} : KeptO 8013311 s (execSecMirrorBind t c s) := by
  unfold execSecMirrorBind
  repeat' first
    | (intro)
    | with_reducible assumption
    | with_reducible exact Kept.refl _ _
    | exact Eq.refl _
    | (with_reducible refine Kept.ofId ?_)
    | (with_reducible refine KeptO.next ?_)
    | (with_reducible apply Kept.step bodySecMirrorBind_kept)
    | (with_reducible apply KeptO.lift State.done_kept)
    | (with_reducible apply State.command_kept)

theorem execMirrorTimeout_kept {t : Nat} {e : Nat} {s : State} : KeptO 7865727 s (execMirrorTimeout t e s) := by
  unfold execMirrorTimeout
  repeat' first
    | (intro)
    | with_reducible assumption
    | with_reducible exact Kept.refl _ _
    | exact Eq.refl _
    | (extract_lets +onlyGivenNames x
       first
       | (have hx : Kept 7865727 s x := ?_
          clear_value x
          rotate_left
          subst x
          rotate_left)
       | clear_value x)
    | split
    | (with_reducible refine KeptO.next ?_)
    | (with_reducible apply Kept.step State.setMir_kept)
    | (with_reducible apply KeptO.lift State.done_kept)
    | (with_reducible apply Kept.step State.raise_kept)
    | (with_reducible apply Kept.step State.at__kept)
    | (with_reducible apply Kept.step State.bump_kept)
    | (with_reducible apply Kept.step State.onSec_kept)
    | (with_reducible refine Kept.snd (by with_reducible assumption) ?_)
    | (with_reducible refine Kept.fst (by with_reducible assumption) ?_)

theorem execMirrorHoldExpire_kept {t : Nat} {e : Nat} {s : State} : KeptO 7866239 s (execMirrorHoldExpire t e s) := by
  unfold execMirrorHoldExpire
  repeat' first
    | (intro)
    | with_reducible assumption
    | with_reducible exact Kept.refl _ _
    | exact Eq.refl _
    | (extract_lets +onlyGivenNames x
       first
       | (have hx : Kept 7866239 s x := ?_
          clear_value x
          rotate_left
          subst x
          rotate_left)
       | clear_value x)
    | split
    | (with_reducible refine KeptO.next ?_)
    | (with_reducible apply Kept.step State.causeTake_kept)
    | (with_reducible apply KeptO.lift State.done_kept)
    | (with_reducible apply Kept.step State.at__kept)
    | (with_reducible apply Kept.step State.onSec_kept)
    | (with_reducible refine Kept.snd (by with_reducible assumption) ?_)
    | (with_reducible refine Kept.fst (by with_reducible assumption) ?_)

theorem execMirrorRefreshSend_kept {t : Nat} {n : Nat} {s : State} : KeptO 7865855 s (execMirrorRefreshSend t n s) := by
  unfold execMirrorRefreshSend
  repeat' first
    | (intro)
    | with_reducible assumption
    | with_reducible exact Kept.refl _ _
    | exact Eq.refl _
    | (extract_lets +onlyGivenNames x
       first
       | (have hx : Kept 7865855 s x := ?_
          clear_value x
          rotate_left
          subst x
          rotate_left)
       | clear_value x)
    | split
    | (with_reducible refine KeptO.next ?_)
    | (with_reducible apply Kept.step State.mirrorSend_kept)
    | (with_reducible apply KeptO.lift State.done_kept)
    | (with_reducible apply Kept.step State.at__kept)
    | (with_reducible refine Kept.snd (by with_reducible assumption) ?_)
    | (with_reducible refine Kept.fst (by with_reducible assumption) ?_)

theorem execMirrorAckTimeout_kept {t : Nat} {s : State} : KeptO 7865721 s (execMirrorAckTimeout t s) := by
  unfold execMirrorAckTimeout
  repeat' first
    | (intro)
    | with_reducible assumption
    | with_reducible exact Kept.refl _ _
    | exact Eq.refl _
    | (extract_lets +onlyGivenNames x
       first
       | (have hx : Kept 7865721 s x := ?_
          clear_value x
          rotate_left
          subst x
          rotate_left)
       | clear_value x)
    | split
    | (with_reducible refine KeptO.next ?_)
    | (with_reducible apply KeptO.lift State.done_kept)
    | (with_reducible apply Kept.step State.finishCmd_kept)
    | (with_reducible apply Kept.step State.at__kept)
    | (with_reducible apply Kept.step State.onSec_kept)
    | (with_reducible refine Kept.snd (by with_reducible assumption) ?_)
    | (with_reducible refine Kept.fst (by with_reducible assumption) ?_)

end Sys2Proof.Machine
end

