-- ==== Sys2Proof/Laws/KeptCmw.lean ====
section
/-! SUPPORT. What the operations of Machine/Cmw.lean leave alone. -/

set_option linter.tactic.unusedName false

namespace Sys2Proof.Machine

set_option Elab.async false

theorem State.cmwGauges_kept {s : State} : Kept 4194310 s (State.cmwGauges s) := by
  unfold State.cmwGauges
  repeat' first
    | (intro)
    | with_reducible assumption
    | with_reducible exact Kept.refl _ _
    | exact Eq.refl _
    | (with_reducible apply Kept.step State.wf_kept)
    | (with_reducible refine Kept.fold ?_ ?_)
    | (with_reducible refine Kept.foldSnd ?_ ?_)
    | (with_reducible refine Kept.foldFst ?_ ?_)

theorem State.writeChan_kept {ch : Nat} {r : Rec 64} {s : State} : Kept 6817918 s (State.writeChan ch r s) := by
  unfold State.writeChan
  repeat' first
    | (intro)
    | with_reducible assumption
    | with_reducible exact Kept.refl _ _
    | exact Eq.refl _
    | split
    | (with_reducible apply Kept.step State.cmwGauges_kept)
    | (with_reducible apply Kept.step State.chanRestart_kept)
    | (with_reducible apply Kept.step State.ringEmpty_kept)
    | (with_reducible apply Kept.step State.modChx_kept)
    | (with_reducible apply Kept.step State.modChan_kept)
    | (with_reducible apply Kept.step State.aiFollow_kept)
    | (with_reducible refine Kept.snd (by with_reducible assumption) ?_)
    | (with_reducible refine Kept.fst (by with_reducible assumption) ?_)

theorem bodyCmwChannel_kept {c : Cmd} {a1 : State} : Kept 6948990 a1 (bodyCmwChannel c a1).2 := by
  have hz : True := trivial
  unfold bodyCmwChannel
  repeat' first
    | (intro)
    | with_reducible assumption
    | with_reducible exact Kept.refl _ _
    | exact Eq.refl _
    | (extract_lets +onlyGivenNames x
       first
       | (have hx : Kept 6948990 a1 x := ?_
          clear_value x
          rotate_left
          subst x
          rotate_left)
       | (have hx : Kept 6948990 a1 x.2 := ?_
          clear_value x
          rotate_left
          subst x
          rotate_left)
       | (have hx : Kept 6948990 a1 x.1 := ?_
          clear_value x
          rotate_left
          subst x
          rotate_left)
       | (have hz : ∀ y, Kept 6948990 a1 y → Kept 6948990 a1 (x y) := ?_
          clear_value x
          rotate_left
          unfold x
          clear x
          rotate_left)
       | (have hz : ∀ a y, Kept 6948990 a1 y → Kept 6948990 a1 (x a y) := ?_
          clear_value x
          rotate_left
          unfold x
          clear x
          rotate_left)
       | (have hz : ∀ a b y, Kept 6948990 a1 y → Kept 6948990 a1 (x a b y) := ?_
          clear_value x
          rotate_left
          unfold x
          clear x
          rotate_left)
       | (have hz : ∀ a b c y, Kept 6948990 a1 y → Kept 6948990 a1 (x a b c y) := ?_
          clear_value x
          rotate_left
          unfold x
          clear x
          rotate_left)
       | (have hz : ∀ a b c d y, Kept 6948990 a1 y → Kept 6948990 a1 (x a b c d y) := ?_
          clear_value x
          rotate_left
          unfold x
          clear x
          rotate_left)
       | (have hz : ∀ a, Kept 6948990 a1 (x a) := ?_
          clear_value x
          rotate_left
          unfold x
          clear x
          rotate_left)
       | (have hz : ∀ a b, Kept 6948990 a1 (x a b) := ?_
          clear_value x
          rotate_left
          unfold x
          clear x
          rotate_left)
       | (have hz : ∀ a, Kept 6948990 a1 (x a).2 := ?_
          clear_value x
          rotate_left
          unfold x
          clear x
          rotate_left)
       | (have hz : ∀ a b c, Kept 6948990 a1 (x a b c).2 := ?_
          clear_value x
          rotate_left
          unfold x
          clear x
          rotate_left)
       | clear_value x)
    | split
    | (with_reducible apply Kept.step State.writeChan_kept)
    | (with_reducible apply Kept.step State.dirtyHost_kept)
    | (with_reducible refine Kept.snd (by with_reducible assumption) ?_)
    | (with_reducible refine Kept.fst (by with_reducible assumption) ?_)
    | (with_reducible apply hz)
    | (with_reducible refine Kept.call (by with_reducible assumption) ?_)
    | (with_reducible refine Kept.call1 (by with_reducible assumption) ?_)

theorem execCmwChannel_kept {t : Nat} {c : Cmd} {s : State} : KeptO 7998847 s (execCmwChannel t c s) := by
  unfold execCmwChannel
  repeat' first
    | (intro)
    | with_reducible assumption
    | with_reducible exact Kept.refl _ _
    | exact Eq.refl _
    | (with_reducible refine Kept.ofId ?_)
    | (with_reducible refine KeptO.next ?_)
    | (with_reducible apply Kept.step bodyCmwChannel_kept)
    | (with_reducible apply KeptO.lift State.done_kept)
    | (with_reducible apply State.command_kept)

theorem bodyCmwBand_kept {c : Cmd} {a1 : State} : Kept 6948990 a1 (bodyCmwBand c a1).2 := by
  unfold bodyCmwBand
  repeat' first
    | (intro)
    | with_reducible assumption
    | with_reducible exact Kept.refl _ _
    | exact Eq.refl _
    | (with_reducible refine Kept.ofId ?_)
    | split
    | (with_reducible apply Kept.step State.chanRestart_kept)
    | (with_reducible apply okWith_kept)
    | (with_reducible apply Kept.step State.dirtyHost_kept)
    | (with_reducible apply Kept.step State.onCmw_kept)
    | (with_reducible refine Kept.fold ?_ ?_)
    | (with_reducible refine Kept.foldSnd ?_ ?_)
    | (with_reducible refine Kept.foldFst ?_ ?_)
    | (with_reducible refine Kept.snd (by with_reducible assumption) ?_)
    | (with_reducible refine Kept.fst (by with_reducible assumption) ?_)

theorem execCmwBand_kept {t : Nat} {c : Cmd} {s : State} : KeptO 7998847 s (execCmwBand t c s) := by
  unfold execCmwBand
  repeat' first
    | (intro)
    | with_reducible assumption
    | with_reducible exact Kept.refl _ _
    | exact Eq.refl _
    | (with_reducible refine Kept.ofId ?_)
    | (with_reducible refine KeptO.next ?_)
    | (with_reducible apply Kept.step bodyCmwBand_kept)
    | (with_reducible apply KeptO.lift State.done_kept)
    | (with_reducible apply State.command_kept)

theorem bodyCmwSpeedRef_kept {c : Cmd} {a1 : State} : Kept 4327430 a1 (bodyCmwSpeedRef c a1).2 := by
  unfold bodyCmwSpeedRef
  repeat' first
    | (intro)
    | with_reducible assumption
    | with_reducible exact Kept.refl _ _
    | exact Eq.refl _
    | split
    | (with_reducible apply Kept.step State.cmwGauges_kept)
    | (with_reducible apply Kept.step State.dirtyHost_kept)
    | (with_reducible apply Kept.step State.onCmw_kept)
    | (with_reducible refine Kept.snd (by with_reducible assumption) ?_)
    | (with_reducible refine Kept.fst (by with_reducible assumption) ?_)

theorem execCmwSpeedRef_kept {t : Nat} {c : Cmd} {s : State} : KeptO 7998847 s (execCmwSpeedRef t c s) := by
  unfold execCmwSpeedRef
  repeat' first
    | (intro)
    | with_reducible assumption
    | with_reducible exact Kept.refl _ _
    | exact Eq.refl _
    | (with_reducible refine Kept.ofId ?_)
    | (with_reducible refine KeptO.next ?_)
    | (with_reducible apply Kept.step bodyCmwSpeedRef_kept)
    | (with_reducible apply KeptO.lift State.done_kept)
    | (with_reducible apply State.command_kept)

theorem bodyCmwBind_kept {c : Cmd} {a1 : State} : Kept 4327424 a1 (bodyCmwBind c a1).2 := by
  unfold bodyCmwBind
  repeat' first
    | (intro)
    | with_reducible assumption
    | with_reducible exact Kept.refl _ _
    | exact Eq.refl _
    | (with_reducible refine Kept.ofId ?_)
    | (with_reducible apply okWith_kept)
    | (with_reducible apply Kept.step State.dirtyHost_kept)
    | (with_reducible apply Kept.step State.onCmw_kept)

theorem execCmwBind_kept {t : Nat} {c : Cmd} {s : State} : KeptO 7998847 s (execCmwBind t c s) := by
  unfold execCmwBind
  repeat' first
    | (intro)
    | with_reducible assumption
    | with_reducible exact Kept.refl _ _
    | exact Eq.refl _
    | (with_reducible refine Kept.ofId ?_)
    | (with_reducible refine KeptO.next ?_)
    | (with_reducible apply Kept.step bodyCmwBind_kept)
    | (with_reducible apply KeptO.lift State.done_kept)
    | (with_reducible apply State.command_kept)

theorem bodyCmwBaseline_kept {c : Cmd} {a1 : State} : Kept 14813192 a1 (bodyCmwBaseline c a1).2 := by
  unfold bodyCmwBaseline
  repeat' first
    | (intro)
    | with_reducible assumption
    | with_reducible exact Kept.refl _ _
    | exact Eq.refl _
    | (with_reducible refine Kept.ofId ?_)
    | split
    | (with_reducible apply Kept.step State.setBase_kept)
    | (with_reducible apply Kept.step State.bufPut_kept)
    | (with_reducible apply okWith_kept)
    | (with_reducible apply Kept.step State.dirtyHost_kept)
    | (with_reducible refine Kept.snd (by with_reducible assumption) ?_)
    | (with_reducible refine Kept.fst (by with_reducible assumption) ?_)

theorem execCmwBaseline_kept {t : Nat} {c : Cmd} {s : State} : KeptO 16387455 s (execCmwBaseline t c s) := by
  unfold execCmwBaseline
  repeat' first
    | (intro)
    | with_reducible assumption
    | with_reducible exact Kept.refl _ _
    | exact Eq.refl _
    | (with_reducible refine Kept.ofId ?_)
    | (with_reducible refine KeptO.next ?_)
    | (with_reducible apply Kept.step bodyCmwBaseline_kept)
    | (with_reducible apply KeptO.lift State.done_kept)
    | (with_reducible apply State.command_kept)

theorem State.growRings_kept {defs : Tab (Rec 256)} {a1 : List Nat} {a2 : State} : Kept 6817918 a2 (State.growRings defs a1 a2).2 := by
  induction a1 generalizing a2 with
  | nil =>
    unfold State.growRings
    repeat' first
      | (intro)
      | with_reducible assumption
      | with_reducible exact Kept.refl _ _
      | exact Eq.refl _
      | (extract_lets +onlyGivenNames x
         first
         | (have hx : Kept 6817918 a2 x := ?_
            clear_value x
            rotate_left
            subst x
            rotate_left)
         | clear_value x)
      | split
      | (with_reducible apply Kept.step State.writeChan_kept)
      | (with_reducible apply Kept.step ih)
      | (with_reducible refine Kept.snd (by with_reducible assumption) ?_)
      | (with_reducible refine Kept.fst (by with_reducible assumption) ?_)

  | cons e es ih =>
    unfold State.growRings
    repeat' first
      | (intro)
      | with_reducible assumption
      | with_reducible exact Kept.refl _ _
      | exact Eq.refl _
      | (extract_lets +onlyGivenNames x
         first
         | (have hx : Kept 6817918 a2 x := ?_
            clear_value x
            rotate_left
            subst x
            rotate_left)
         | clear_value x)
      | split
      | (with_reducible apply Kept.step State.writeChan_kept)
      | (with_reducible apply Kept.step ih)
      | (with_reducible refine Kept.snd (by with_reducible assumption) ?_)
      | (with_reducible refine Kept.fst (by with_reducible assumption) ?_)

theorem bodyCmwCaptureDef_kept {c : Cmd} {a1 : State} : Kept 6948990 a1 (bodyCmwCaptureDef c a1).2 := by
  unfold bodyCmwCaptureDef
  repeat' first
    | (intro)
    | with_reducible assumption
    | with_reducible exact Kept.refl _ _
    | exact Eq.refl _
    | (extract_lets +onlyGivenNames x
       first
       | (have hx : Kept 6948990 a1 x := ?_
          clear_value x
          rotate_left
          subst x
          rotate_left)
       | clear_value x)
    | split
    | (with_reducible apply Kept.step State.growRings_kept)
    | (with_reducible apply Kept.step State.setDef_kept)
    | (with_reducible apply Kept.step State.dirtyHost_kept)
    | (with_reducible refine Kept.snd (by with_reducible assumption) ?_)
    | (with_reducible refine Kept.fst (by with_reducible assumption) ?_)

theorem execCmwCaptureDef_kept {t : Nat} {c : Cmd} {s : State} : KeptO 7998847 s (execCmwCaptureDef t c s) := by
  unfold execCmwCaptureDef
  repeat' first
    | (intro)
    | with_reducible assumption
    | with_reducible exact Kept.refl _ _
    | exact Eq.refl _
    | (with_reducible refine Kept.ofId ?_)
    | (with_reducible refine KeptO.next ?_)
    | (with_reducible apply Kept.step bodyCmwCaptureDef_kept)
    | (with_reducible apply KeptO.lift State.done_kept)
    | (with_reducible apply State.command_kept)

theorem bodyCmwCaptureTrig_kept {c : Cmd} {a1 : State} : Kept 7866494 a1 (bodyCmwCaptureTrig c a1).2 := by
  unfold bodyCmwCaptureTrig
  repeat' first
    | (intro)
    | with_reducible assumption
    | with_reducible exact Kept.refl _ _
    | exact Eq.refl _
    | (with_reducible apply Kept.step State.capTrigger_kept)
    | (with_reducible apply Kept.step State.fresh_kept)

theorem execCmwCaptureTrig_kept {t : Nat} {c : Cmd} {s : State} : KeptO 7867775 s (execCmwCaptureTrig t c s) := by
  unfold execCmwCaptureTrig
  repeat' first
    | (intro)
    | with_reducible assumption
    | with_reducible exact Kept.refl _ _
    | exact Eq.refl _
    | (with_reducible refine Kept.ofId ?_)
    | (with_reducible refine KeptO.next ?_)
    | (with_reducible apply Kept.step bodyCmwCaptureTrig_kept)
    | (with_reducible apply KeptO.lift State.done_kept)
    | (with_reducible apply State.command_kept)

theorem bodyCmwCaptureStop_kept {c : Cmd} {a1 : State} : Kept 6817918 a1 (bodyCmwCaptureStop c a1).2 := by
  unfold bodyCmwCaptureStop
  repeat' first
    | (intro)
    | with_reducible assumption
    | with_reducible exact Kept.refl _ _
    | exact Eq.refl _
    | (with_reducible refine Kept.ofId ?_)
    | (with_reducible apply Kept.step State.capSync_kept)
    | (with_reducible apply Kept.step State.capEnd_kept)
    | (with_reducible apply okWith_kept)
    | (with_reducible refine Kept.fold ?_ ?_)
    | (with_reducible refine Kept.foldSnd ?_ ?_)
    | (with_reducible refine Kept.foldFst ?_ ?_)

theorem execCmwCaptureStop_kept {t : Nat} {c : Cmd} {s : State} : KeptO 7867775 s (execCmwCaptureStop t c s) := by
  unfold execCmwCaptureStop
  repeat' first
    | (intro)
    | with_reducible assumption
    | with_reducible exact Kept.refl _ _
    | exact Eq.refl _
    | (with_reducible refine Kept.ofId ?_)
    | (with_reducible refine KeptO.next ?_)
    | (with_reducible apply Kept.step bodyCmwCaptureStop_kept)
    | (with_reducible apply KeptO.lift State.done_kept)
    | (with_reducible apply State.command_kept)

theorem bodyCmwRead_kept {c : Cmd} {a1 : State} : Kept 14680072 a1 (bodyCmwRead c a1).2 := by
  unfold bodyCmwRead
  repeat' first
    | (intro)
    | with_reducible assumption
    | with_reducible exact Kept.refl _ _
    | exact Eq.refl _
    | (with_reducible apply Kept.step State.bufPut_kept)
    | (with_reducible refine Kept.foldr ?_ ?_)

theorem execCmwRead_kept {t : Nat} {c : Cmd} {s : State} : KeptO 16254335 s (execCmwRead t c s) := by
  unfold execCmwRead
  repeat' first
    | (intro)
    | with_reducible assumption
    | with_reducible exact Kept.refl _ _
    | exact Eq.refl _
    | (with_reducible refine Kept.ofId ?_)
    | (with_reducible refine KeptO.next ?_)
    | (with_reducible apply Kept.step bodyCmwRead_kept)
    | (with_reducible apply KeptO.lift State.done_kept)
    | (with_reducible apply State.command_kept)

theorem execCmwBlock_kept {t : Nat} {s : State} : KeptO 7867775 s (execCmwBlock t s) := by
  unfold execCmwBlock
  repeat' first
    | (intro)
    | with_reducible assumption
    | with_reducible exact Kept.refl _ _
    | exact Eq.refl _
    | (extract_lets +onlyGivenNames x
       first
       | (have hx : Kept 7867775 s x := ?_
          clear_value x
          rotate_left
          subst x
          rotate_left)
       | clear_value x)
    | split
    | (with_reducible refine KeptO.next ?_)
    | (with_reducible apply Kept.step State.placeBlock_kept)
    | (with_reducible apply KeptO.lift State.done_kept)
    | (with_reducible apply Kept.step State.at__kept)
    | (with_reducible apply Kept.step State.onCmw_kept)
    | (with_reducible refine Kept.snd (by with_reducible assumption) ?_)
    | (with_reducible refine Kept.fst (by with_reducible assumption) ?_)

theorem execFrameFeatures_kept {t : Nat} {s : State} : KeptO 7867769 s (execFrameFeatures t s) := by
  unfold execFrameFeatures
  repeat' first
    | (intro)
    | with_reducible assumption
    | with_reducible exact Kept.refl _ _
    | exact Eq.refl _
    | (extract_lets +onlyGivenNames x
       first
       | (have hx : Kept 7867769 s x := ?_
          clear_value x
          rotate_left
          subst x
          rotate_left)
       | clear_value x)
    | split
    | (with_reducible refine KeptO.next ?_)
    | (with_reducible apply Kept.step State.frameFeatures_kept)
    | (with_reducible apply KeptO.lift State.done_kept)
    | (with_reducible apply Kept.step State.at__kept)
    | (with_reducible apply Kept.step State.onCmw_kept)
    | (with_reducible refine Kept.snd (by with_reducible assumption) ?_)
    | (with_reducible refine Kept.fst (by with_reducible assumption) ?_)

theorem execTachPulse_kept {t : Nat} {dio : Nat} {s : State} : KeptO 7867775 s (execTachPulse t dio s) := by
  unfold execTachPulse
  repeat' first
    | (intro)
    | with_reducible assumption
    | with_reducible exact Kept.refl _ _
    | exact Eq.refl _
    | (extract_lets +onlyGivenNames x
       first
       | (have hx : Kept 7867775 s x := ?_
          clear_value x
          rotate_left
          subst x
          rotate_left)
       | clear_value x)
    | split
    | (with_reducible refine KeptO.next ?_)
    | (with_reducible apply Kept.step State.tachPulse_kept)
    | (with_reducible apply KeptO.lift State.done_kept)
    | (with_reducible apply Kept.step State.at__kept)
    | (with_reducible apply Kept.step State.onCmw_kept)
    | (with_reducible refine Kept.snd (by with_reducible assumption) ?_)
    | (with_reducible refine Kept.fst (by with_reducible assumption) ?_)

theorem execSpeedStopped_kept {t : Nat} {ch : Nat} {s : State} : KeptO 7867769 s (execSpeedStopped t ch s) := by
  unfold execSpeedStopped
  repeat' first
    | (intro)
    | with_reducible assumption
    | with_reducible exact Kept.refl _ _
    | exact Eq.refl _
    | (extract_lets +onlyGivenNames x
       first
       | (have hx : Kept 7867769 s x := ?_
          clear_value x
          rotate_left
          subst x
          rotate_left)
       | clear_value x)
    | split
    | (with_reducible refine KeptO.next ?_)
    | (with_reducible apply Kept.step State.chanStop_kept)
    | (with_reducible apply KeptO.lift State.done_kept)
    | (with_reducible apply Kept.step State.at__kept)
    | (with_reducible refine Kept.snd (by with_reducible assumption) ?_)
    | (with_reducible refine Kept.fst (by with_reducible assumption) ?_)

theorem execCaptureEnd_kept {t : Nat} {d : Nat} {s : State} : KeptO 7867775 s (execCaptureEnd t d s) := by
  unfold execCaptureEnd
  repeat' first
    | (intro)
    | with_reducible assumption
    | with_reducible exact Kept.refl _ _
    | exact Eq.refl _
    | (extract_lets +onlyGivenNames x
       first
       | (have hx : Kept 7867775 s x := ?_
          clear_value x
          rotate_left
          subst x
          rotate_left)
       | clear_value x)
    | split
    | (with_reducible refine KeptO.next ?_)
    | (with_reducible apply Kept.step State.capSync_kept)
    | (with_reducible apply Kept.step State.capEnd_kept)
    | (with_reducible apply KeptO.lift State.done_kept)
    | (with_reducible apply Kept.step State.at__kept)
    | (with_reducible refine Kept.fold ?_ ?_)
    | (with_reducible refine Kept.foldSnd ?_ ?_)
    | (with_reducible refine Kept.foldFst ?_ ?_)
    | (with_reducible refine Kept.snd (by with_reducible assumption) ?_)
    | (with_reducible refine Kept.fst (by with_reducible assumption) ?_)

theorem execBaselineCheckpoint_kept {t : Nat} {s : State} : KeptO 7867769 s (execBaselineCheckpoint t s) := by
  unfold execBaselineCheckpoint
  repeat' first
    | (intro)
    | with_reducible assumption
    | with_reducible exact Kept.refl _ _
    | exact Eq.refl _
    | (extract_lets +onlyGivenNames x
       first
       | (have hx : Kept 7867769 s x := ?_
          clear_value x
          rotate_left
          subst x
          rotate_left)
       | clear_value x)
    | split
    | (with_reducible refine KeptO.next ?_)
    | (with_reducible apply KeptO.lift State.done_kept)
    | (with_reducible apply Kept.step State.at__kept)
    | (with_reducible apply Kept.step State.onCmw_kept)
    | (with_reducible refine Kept.snd (by with_reducible assumption) ?_)
    | (with_reducible refine Kept.fst (by with_reducible assumption) ?_)

end Sys2Proof.Machine
end

