-- ==== Sys2Proof/Laws/KeptCtlOps.lean ====
section
/-! SUPPORT. What the operations of Machine/CtlOps.lean leave alone. -/

set_option linter.tactic.unusedName false

namespace Sys2Proof.Machine

set_option Elab.async false

theorem State.setLoop_kept {l : Nat} {r : Rec 512} {s : State} : Kept 4096 s (State.setLoop l r s) := by
  unfold State.setLoop
  repeat' first
    | (intro)
    | with_reducible assumption
    | with_reducible exact Kept.refl _ _
    | exact Eq.refl _
    | (with_reducible apply Kept.step State.onCtl_kept)

theorem State.modLoop_kept {l : Nat} {f : Rec 512 → Rec 512} {s : State} : Kept 4096 s (State.modLoop l f s) := by
  unfold State.modLoop
  repeat' first
    | (intro)
    | with_reducible assumption
    | with_reducible exact Kept.refl _ _
    | exact Eq.refl _
    | (with_reducible apply Kept.step State.setLoop_kept)

theorem State.modLoopX_kept {l : Nat} {f : LoopX → LoopX} {s : State} : Kept 4096 s (State.modLoopX l f s) := by
  unfold State.modLoopX
  repeat' first
    | (intro)
    | with_reducible assumption
    | with_reducible exact Kept.refl _ _
    | exact Eq.refl _
    | (with_reducible apply Kept.step State.onCtl_kept)

theorem State.setSup_kept {l : Nat} {r : Rec 64} {s : State} : Kept 4096 s (State.setSup l r s) := by
  unfold State.setSup
  repeat' first
    | (intro)
    | with_reducible assumption
    | with_reducible exact Kept.refl _ _
    | exact Eq.refl _
    | (with_reducible apply Kept.step State.onCtl_kept)

theorem State.ctlGauges_kept {s : State} : Kept 4194310 s (State.ctlGauges s) := by
  unfold State.ctlGauges
  repeat' first
    | (intro)
    | with_reducible assumption
    | with_reducible exact Kept.refl _ _
    | exact Eq.refl _
    | (extract_lets +onlyGivenNames x
       first
       | (have hx : Kept 4194310 s x := ?_
          clear_value x
          rotate_left
          subst x
          rotate_left)
       | clear_value x)
    | split
    | (with_reducible apply Kept.step State.wf_kept)
    | (with_reducible refine Kept.fold ?_ ?_)
    | (with_reducible refine Kept.foldSnd ?_ ?_)
    | (with_reducible refine Kept.foldFst ?_ ?_)
    | (with_reducible refine Kept.snd (by with_reducible assumption) ?_)
    | (with_reducible refine Kept.fst (by with_reducible assumption) ?_)

theorem State.setOwned_kept {i : Nat} {own : Option Nat} {s : State} : Kept 4352 s (State.setOwned i own s) := by
  unfold State.setOwned
  repeat' first
    | (intro)
    | with_reducible assumption
    | with_reducible exact Kept.refl _ _
    | exact Eq.refl _
    | (with_reducible apply Kept.step State.modPt_kept)
    | (with_reducible apply Kept.step State.onCtl_kept)

theorem State.disown_kept {l : Nat} {keep : Option Nat} {s : State} : Kept 4352 s (State.disown l keep s) := by
  unfold State.disown
  repeat' first
    | (intro)
    | with_reducible assumption
    | with_reducible exact Kept.refl _ _
    | exact Eq.refl _
    | (with_reducible apply Kept.step State.setOwned_kept)
    | (with_reducible refine Kept.fold ?_ ?_)
    | (with_reducible refine Kept.foldSnd ?_ ?_)
    | (with_reducible refine Kept.foldFst ?_ ?_)

theorem State.setPresent_kept {l : Nat} {v : Nat} {s : State} : Kept 4198406 s (State.setPresent l v s) := by
  unfold State.setPresent
  repeat' first
    | (intro)
    | with_reducible assumption
    | with_reducible exact Kept.refl _ _
    | exact Eq.refl _
    | (with_reducible apply Kept.step State.modLoop_kept)
    | (with_reducible apply Kept.step State.gauge_kept)

theorem State.tuneEnd_kept {l : Nat} {stat : Nat} {s : State} : Kept 6819886 s (State.tuneEnd l stat s) := by
  unfold State.tuneEnd
  repeat' first
    | (intro)
    | with_reducible assumption
    | with_reducible exact Kept.refl _ _
    | exact Eq.refl _
    | split
    | (with_reducible apply Kept.step State.modLoop_kept)
    | (with_reducible apply Kept.step State.raise_kept)
    | (with_reducible apply Kept.step State.drop_kept)
    | (with_reducible apply Kept.step State.bump_kept)
    | (with_reducible refine Kept.snd (by with_reducible assumption) ?_)
    | (with_reducible refine Kept.fst (by with_reducible assumption) ?_)

theorem State.setMode_kept {l : Nat} {m : Nat} {cause : Nat} {s : State} : Kept 6819886 s (State.setMode l m cause s) := by
  unfold State.setMode
  repeat' first
    | (intro)
    | with_reducible assumption
    | with_reducible exact Kept.refl _ _
    | exact Eq.refl _
    | (extract_lets +onlyGivenNames x
       first
       | (have hx : Kept 6819886 s x := ?_
          clear_value x
          rotate_left
          subst x
          rotate_left)
       | clear_value x)
    | split
    | (with_reducible apply Kept.step State.tuneEnd_kept)
    | (with_reducible apply Kept.step State.modLoop_kept)
    | (with_reducible apply Kept.step State.dirtyMod_kept)
    | (with_reducible apply Kept.step State.raise_kept)
    | (with_reducible refine Kept.snd (by with_reducible assumption) ?_)
    | (with_reducible refine Kept.fst (by with_reducible assumption) ?_)

theorem State.setTransfer_kept {l : Nat} {s : State} : Kept 4096 s (State.setTransfer l s) := by
  unfold State.setTransfer
  repeat' first
    | (intro)
    | with_reducible assumption
    | with_reducible exact Kept.refl _ _
    | exact Eq.refl _
    | (with_reducible apply Kept.step State.modLoop_kept)

theorem State.supReport_kept {l : Nat} {mode : Nat} {act : Nat} {s : State} : Kept 6819880 s (State.supReport l mode act s) := by
  unfold State.supReport
  repeat' first
    | (intro)
    | with_reducible assumption
    | with_reducible exact Kept.refl _ _
    | exact Eq.refl _
    | (with_reducible apply Kept.step State.modLoopX_kept)
    | (with_reducible apply Kept.step State.raise_kept)
    | (with_reducible refine Kept.fold ?_ ?_)
    | (with_reducible refine Kept.foldSnd ?_ ?_)
    | (with_reducible refine Kept.foldFst ?_ ?_)

theorem State.loopClose_kept {l : Nat} {s : State} : Kept 6819886 s (State.loopClose l s) := by
  unfold State.loopClose
  repeat' first
    | (intro)
    | with_reducible assumption
    | with_reducible exact Kept.refl _ _
    | exact Eq.refl _
    | (with_reducible apply Kept.step State.supReport_kept)
    | (with_reducible apply Kept.step State.setPresent_kept)
    | (with_reducible apply Kept.step State.modLoopX_kept)
    | (with_reducible apply Kept.step State.modLoop_kept)

theorem State.retime_kept {l : Nat} {s : State} : Kept 4096 s (State.retime l s) := by
  unfold State.retime
  repeat' first
    | (intro)
    | with_reducible assumption
    | with_reducible exact Kept.refl _ _
    | exact Eq.refl _
    | (extract_lets +onlyGivenNames x
       first
       | (have hx : Kept 4096 s x := ?_
          clear_value x
          rotate_left
          subst x
          rotate_left)
       | clear_value x)
    | split
    | (with_reducible apply Kept.step State.modLoopX_kept)
    | (with_reducible refine Kept.fold ?_ ?_)
    | (with_reducible refine Kept.foldSnd ?_ ?_)
    | (with_reducible refine Kept.foldFst ?_ ?_)
    | (with_reducible refine Kept.snd (by with_reducible assumption) ?_)
    | (with_reducible refine Kept.fst (by with_reducible assumption) ?_)

theorem State.planNext_kept {l : Nat} {nom : Nat} {s : State} : Kept 4096 s (State.planNext l nom s) := by
  unfold State.planNext
  repeat' first
    | (intro)
    | with_reducible assumption
    | with_reducible exact Kept.refl _ _
    | exact Eq.refl _
    | (with_reducible apply Kept.step State.retime_kept)
    | (with_reducible apply Kept.step State.modLoopX_kept)

theorem State.planFrom_kept {l : Nat} {c : Nat} {s : State} : Kept 4096 s (State.planFrom l c s) := by
  unfold State.planFrom
  repeat' first
    | (intro)
    | with_reducible assumption
    | with_reducible exact Kept.refl _ _
    | exact Eq.refl _
    | (with_reducible apply Kept.step State.retime_kept)
    | (with_reducible apply Kept.step State.modLoopX_kept)

theorem State.planFirst_kept {l : Nat} {inst : Nat} {s : State} : Kept 4096 s (State.planFirst l inst s) := by
  unfold State.planFirst
  repeat' first
    | (intro)
    | with_reducible assumption
    | with_reducible exact Kept.refl _ _
    | exact Eq.refl _
    | (with_reducible apply Kept.step State.planFrom_kept)

theorem State.ctlTimeStep_kept {old : Nat} {s : State} : Kept 6819886 s (State.ctlTimeStep old s) := by
  unfold State.ctlTimeStep
  repeat' first
    | (intro)
    | with_reducible assumption
    | with_reducible exact Kept.refl _ _
    | exact Eq.refl _
    | (extract_lets +onlyGivenNames x
       first
       | (have hx : Kept 6819886 s x := ?_
          clear_value x
          rotate_left
          subst x
          rotate_left)
       | clear_value x)
    | split
    | (with_reducible apply Kept.step State.planFirst_kept)
    | (with_reducible apply Kept.step State.tuneEnd_kept)
    | (with_reducible apply Kept.step State.bump_kept)
    | (with_reducible apply Kept.step State.onCtl_kept)
    | (with_reducible refine Kept.fold ?_ ?_)
    | (with_reducible refine Kept.foldSnd ?_ ?_)
    | (with_reducible refine Kept.foldFst ?_ ?_)
    | (with_reducible refine Kept.snd (by with_reducible assumption) ?_)
    | (with_reducible refine Kept.fst (by with_reducible assumption) ?_)

theorem State.supApply_kept {l : Nat} {r : Rec 64} {s : State} : Kept 6819886 s (State.supApply l r s) := by
  unfold State.supApply
  repeat' first
    | (intro)
    | with_reducible assumption
    | with_reducible exact Kept.refl _ _
    | exact Eq.refl _
    | (extract_lets +onlyGivenNames x
       first
       | (have hx : Kept 6819886 s x := ?_
          clear_value x
          rotate_left
          subst x
          rotate_left)
       | clear_value x)
    | split
    | (with_reducible apply Kept.step State.supReport_kept)
    | (with_reducible apply Kept.step State.setTransfer_kept)
    | (with_reducible apply Kept.step State.setPresent_kept)
    | (with_reducible apply Kept.step State.setSup_kept)
    | (with_reducible apply Kept.step State.modLoopX_kept)
    | (with_reducible apply Kept.step State.modLoop_kept)
    | (with_reducible refine Kept.snd (by with_reducible assumption) ?_)
    | (with_reducible refine Kept.fst (by with_reducible assumption) ?_)

theorem State.loopOff_kept {l : Nat} {s : State} : Kept 6820142 s (State.loopOff l s) := by
  unfold State.loopOff
  repeat' first
    | (intro)
    | with_reducible assumption
    | with_reducible exact Kept.refl _ _
    | exact Eq.refl _
    | (with_reducible apply Kept.step State.supReport_kept)
    | (with_reducible apply Kept.step State.tuneEnd_kept)
    | (with_reducible apply Kept.step State.setPresent_kept)
    | (with_reducible apply Kept.step State.disown_kept)
    | (with_reducible apply Kept.step State.modLoopX_kept)

theorem State.loopBegin_kept {l : Nat} {s : State} : Kept 6819886 s (State.loopBegin l s) := by
  unfold State.loopBegin
  repeat' first
    | (intro)
    | with_reducible assumption
    | with_reducible exact Kept.refl _ _
    | exact Eq.refl _
    | (with_reducible apply Kept.step State.supApply_kept)
    | (with_reducible apply Kept.step State.setMode_kept)
    | (with_reducible apply Kept.step State.modLoopX_kept)
    | (with_reducible apply Kept.step State.modLoop_kept)

theorem State.configApply_kept {l : Nat} {h : Rec 256} {s : State} : Kept 6820142 s (State.configApply l h s) := by
  unfold State.configApply
  repeat' first
    | (intro)
    | with_reducible assumption
    | with_reducible exact Kept.refl _ _
    | exact Eq.refl _
    | (extract_lets +onlyGivenNames x
       first
       | (have hx : Kept 6820142 s x := ?_
          clear_value x
          rotate_left
          subst x
          rotate_left)
       | clear_value x)
    | split
    | (with_reducible apply Kept.step State.loopBegin_kept)
    | (with_reducible apply Kept.step State.loopOff_kept)
    | (with_reducible apply Kept.step State.supApply_kept)
    | (with_reducible apply Kept.step State.setTransfer_kept)
    | (with_reducible apply Kept.step State.tuneEnd_kept)
    | (with_reducible apply Kept.step State.ctlGauges_kept)
    | (with_reducible apply Kept.step State.modLoopX_kept)
    | (with_reducible apply Kept.step State.modLoop_kept)
    | (with_reducible refine Kept.fold ?_ ?_)
    | (with_reducible refine Kept.foldSnd ?_ ?_)
    | (with_reducible refine Kept.foldFst ?_ ?_)
    | (with_reducible refine Kept.snd (by with_reducible assumption) ?_)
    | (with_reducible refine Kept.fst (by with_reducible assumption) ?_)

theorem State.modeApply_kept {l : Nat} {m : Nat} {man : Option Nat} {s : State} : Kept 6819886 s (State.modeApply l m man s) := by
  unfold State.modeApply
  repeat' first
    | (intro)
    | with_reducible assumption
    | with_reducible exact Kept.refl _ _
    | exact Eq.refl _
    | (extract_lets +onlyGivenNames x
       first
       | (have hx : Kept 6819886 s x := ?_
          clear_value x
          rotate_left
          subst x
          rotate_left)
       | clear_value x)
    | split
    | (with_reducible apply Kept.step State.loopClose_kept)
    | (with_reducible apply Kept.step State.setTransfer_kept)
    | (with_reducible apply Kept.step State.setMode_kept)
    | (with_reducible apply Kept.step State.modLoop_kept)
    | (with_reducible refine Kept.snd (by with_reducible assumption) ?_)
    | (with_reducible refine Kept.fst (by with_reducible assumption) ?_)

theorem State.tuneApply_kept {l : Nat} {t : TuneRun} {s : State} : Kept 4198406 s (State.tuneApply l t s) := by
  unfold State.tuneApply
  repeat' first
    | (intro)
    | with_reducible assumption
    | with_reducible exact Kept.refl _ _
    | exact Eq.refl _
    | (extract_lets +onlyGivenNames x
       first
       | (have hx : Kept 4198406 s x := ?_
          clear_value x
          rotate_left
          subst x
          rotate_left)
       | clear_value x)
    | split
    | (with_reducible apply Kept.step State.modLoopX_kept)
    | (with_reducible apply Kept.step State.modLoop_kept)
    | (with_reducible apply Kept.step State.bump_kept)
    | (with_reducible refine Kept.snd (by with_reducible assumption) ?_)
    | (with_reducible refine Kept.fst (by with_reducible assumption) ?_)

theorem State.actApply_kept {l : Nat} {a : LAct} {s : State} : Kept 6820142 s (State.actApply l a s) := by
  unfold State.actApply
  repeat' first
    | (intro)
    | with_reducible assumption
    | with_reducible exact Kept.refl _ _
    | exact Eq.refl _
    | split
    | (with_reducible apply Kept.step State.tuneApply_kept)
    | (with_reducible apply Kept.step State.modeApply_kept)
    | (with_reducible apply Kept.step State.configApply_kept)
    | (with_reducible apply Kept.step State.loopOff_kept)
    | (with_reducible apply Kept.step State.supApply_kept)
    | (with_reducible apply Kept.step State.loopClose_kept)
    | (with_reducible apply Kept.step State.setTransfer_kept)
    | (with_reducible apply Kept.step State.tuneEnd_kept)
    | (with_reducible apply Kept.step State.ctlGauges_kept)
    | (with_reducible apply Kept.step State.modLoopX_kept)
    | (with_reducible apply Kept.step State.modLoop_kept)
    | (with_reducible apply Kept.step State.setLoop_kept)
    | (with_reducible apply Kept.step State.onCtl_kept)
    | (with_reducible refine Kept.snd (by with_reducible assumption) ?_)
    | (with_reducible refine Kept.fst (by with_reducible assumption) ?_)

theorem State.loopTake_kept {l : Nat} {a : LAct} {s : State} : Kept 6820142 s (State.loopTake l a s) := by
  unfold State.loopTake
  repeat' first
    | (intro)
    | with_reducible assumption
    | with_reducible exact Kept.refl _ _
    | exact Eq.refl _
    | (extract_lets +onlyGivenNames x
       first
       | (have hx : Kept 6820142 s x := ?_
          clear_value x
          rotate_left
          subst x
          rotate_left)
       | clear_value x)
    | split
    | (with_reducible apply Kept.step State.actApply_kept)
    | (with_reducible apply Kept.step State.planFirst_kept)
    | (with_reducible apply Kept.step State.retime_kept)
    | (with_reducible apply Kept.step State.modLoopX_kept)
    | (with_reducible refine Kept.snd (by with_reducible assumption) ?_)
    | (with_reducible refine Kept.fst (by with_reducible assumption) ?_)

theorem State.loopDrain_kept {l : Nat} {a1 : List LCmd} {a2 : State} : Kept 6820142 a2 (State.loopDrain l a1 a2) := by
  induction a1 generalizing a2 with
  | nil =>
    unfold State.loopDrain
    repeat' first
      | (intro)
      | with_reducible assumption
      | with_reducible exact Kept.refl _ _
      | exact Eq.refl _
      | split
      | (with_reducible apply Kept.step State.actApply_kept)
      | (with_reducible apply Kept.step State.planFirst_kept)
      | (with_reducible apply Kept.step State.retime_kept)
      | (with_reducible apply Kept.step State.modLoopX_kept)
      | (with_reducible apply Kept.step ih)
      | (with_reducible refine Kept.snd (by with_reducible assumption) ?_)
      | (with_reducible refine Kept.fst (by with_reducible assumption) ?_)

  | cons e es ih =>
    unfold State.loopDrain
    repeat' first
      | (intro)
      | with_reducible assumption
      | with_reducible exact Kept.refl _ _
      | exact Eq.refl _
      | split
      | (with_reducible apply Kept.step State.actApply_kept)
      | (with_reducible apply Kept.step State.planFirst_kept)
      | (with_reducible apply Kept.step State.retime_kept)
      | (with_reducible apply Kept.step State.modLoopX_kept)
      | (with_reducible apply Kept.step ih)
      | (with_reducible refine Kept.snd (by with_reducible assumption) ?_)
      | (with_reducible refine Kept.fst (by with_reducible assumption) ?_)

theorem State.loopCmds_kept {l : Nat} {inst : Nat} {s : State} : Kept 6820142 s (State.loopCmds l inst s) := by
  unfold State.loopCmds
  repeat' first
    | (intro)
    | with_reducible assumption
    | with_reducible exact Kept.refl _ _
    | exact Eq.refl _
    | (extract_lets +onlyGivenNames x
       first
       | (have hx : Kept 6820142 s x := ?_
          clear_value x
          rotate_left
          subst x
          rotate_left)
       | clear_value x)
    | split
    | (with_reducible apply Kept.step State.loopDrain_kept)
    | (with_reducible apply Kept.step State.actApply_kept)
    | (with_reducible apply Kept.step State.modLoopX_kept)
    | (with_reducible refine Kept.fold ?_ ?_)
    | (with_reducible refine Kept.foldSnd ?_ ?_)
    | (with_reducible refine Kept.foldFst ?_ ?_)
    | (with_reducible refine Kept.snd (by with_reducible assumption) ?_)
    | (with_reducible refine Kept.fst (by with_reducible assumption) ?_)

theorem State.loopTwins_kept {l : Nat} {s : State} : Kept 6819886 s (State.loopTwins l s) := by
  unfold State.loopTwins
  repeat' first
    | (intro)
    | with_reducible assumption
    | with_reducible exact Kept.refl _ _
    | exact Eq.refl _
    | (extract_lets +onlyGivenNames x
       first
       | (have hx : Kept 6819886 s x := ?_
          clear_value x
          rotate_left
          subst x
          rotate_left)
       | clear_value x)
    | split
    | (with_reducible apply Kept.step State.setMode_kept)
    | (with_reducible apply Kept.step State.modLoop_kept)
    | (with_reducible apply Kept.step State.twinEvent_kept)
    | (with_reducible apply Kept.step State.bump_kept)
    | (with_reducible refine Kept.fold ?_ ?_)
    | (with_reducible refine Kept.foldSnd ?_ ?_)
    | (with_reducible refine Kept.foldFst ?_ ?_)
    | (with_reducible refine Kept.snd (by with_reducible assumption) ?_)
    | (with_reducible refine Kept.fst (by with_reducible assumption) ?_)

theorem State.supRise_kept {l : Nat} {bits : Nat} {t : Nat} {s : State} : Kept 4198406 s (State.supRise l bits t s) := by
  have hz : True := trivial
  unfold State.supRise
  repeat' first
    | (intro)
    | with_reducible assumption
    | with_reducible exact Kept.refl _ _
    | exact Eq.refl _
    | (extract_lets +onlyGivenNames x
       first
       | (have hx : Kept 4198406 s x := ?_
          clear_value x
          rotate_left
          subst x
          rotate_left)
       | (have hz : ∀ y, Kept 4198406 s y → Kept 4198406 s (x y) := ?_
          clear_value x
          rotate_left
          unfold x
          clear x
          rotate_left)
       | (have hz : ∀ a y, Kept 4198406 s y → Kept 4198406 s (x a y) := ?_
          clear_value x
          rotate_left
          unfold x
          clear x
          rotate_left)
       | (have hz : ∀ a b y, Kept 4198406 s y → Kept 4198406 s (x a b y) := ?_
          clear_value x
          rotate_left
          unfold x
          clear x
          rotate_left)
       | (have hz : ∀ a b c y, Kept 4198406 s y → Kept 4198406 s (x a b c y) := ?_
          clear_value x
          rotate_left
          unfold x
          clear x
          rotate_left)
       | clear_value x)
    | split
    | (with_reducible apply Kept.step State.modLoopX_kept)
    | (with_reducible apply Kept.step State.modLoop_kept)
    | (with_reducible apply Kept.step State.bump_kept)
    | (with_reducible refine Kept.snd (by with_reducible assumption) ?_)
    | (with_reducible refine Kept.fst (by with_reducible assumption) ?_)
    | (with_reducible apply hz)
    | (with_reducible refine Kept.call (by with_reducible assumption) ?_)
    | (with_reducible refine Kept.call1 (by with_reducible assumption) ?_)

theorem State.supAct_kept {l : Nat} {wt : Nat} {s : State} : Kept 6819886 s (State.supAct l wt s).2 := by
  unfold State.supAct
  repeat' first
    | (intro)
    | with_reducible assumption
    | with_reducible exact Kept.refl _ _
    | exact Eq.refl _
    | (extract_lets +onlyGivenNames x
       first
       | (have hx : Kept 6819886 s x := ?_
          clear_value x
          rotate_left
          subst x
          rotate_left)
       | clear_value x)
    | split
    | (with_reducible apply Kept.step State.setMode_kept)
    | (with_reducible apply Kept.step State.modLoop_kept)
    | (with_reducible refine Kept.snd (by with_reducible assumption) ?_)
    | (with_reducible refine Kept.fst (by with_reducible assumption) ?_)

theorem State.supStep1_kept {l : Nat} {wt : Nat} {s : State} : Kept 6819886 s (State.supStep1 l wt s) := by
  unfold State.supStep1
  repeat' first
    | (intro)
    | with_reducible assumption
    | with_reducible exact Kept.refl _ _
    | exact Eq.refl _
    | (extract_lets +onlyGivenNames x
       first
       | (have hx : Kept 6819886 s x := ?_
          clear_value x
          rotate_left
          subst x
          rotate_left)
       | clear_value x)
    | split
    | (with_reducible apply Kept.step State.supAct_kept)
    | (with_reducible apply Kept.step State.supRise_kept)
    | (with_reducible apply Kept.step State.loopClose_kept)
    | (with_reducible apply Kept.step State.supReport_kept)
    | (with_reducible apply Kept.step State.setTransfer_kept)
    | (with_reducible apply Kept.step State.setMode_kept)
    | (with_reducible apply Kept.step State.setPresent_kept)
    | (with_reducible apply Kept.step State.modLoopX_kept)
    | (with_reducible apply Kept.step State.modLoop_kept)
    | (with_reducible apply Kept.step State.raise_kept)
    | (with_reducible apply Kept.step State.bump_kept)
    | (with_reducible refine Kept.snd (by with_reducible assumption) ?_)
    | (with_reducible refine Kept.fst (by with_reducible assumption) ?_)

theorem State.supStep6_kept {l : Nat} {mode : Nat} {u : Int} {uPrev : Int} {wt : Nat} {s : State} : Kept 4198406 s (State.supStep6 l mode u uPrev wt s) := by
  unfold State.supStep6
  repeat' first
    | (intro)
    | with_reducible assumption
    | with_reducible exact Kept.refl _ _
    | exact Eq.refl _
    | (extract_lets +onlyGivenNames x
       first
       | (have hx : Kept 4198406 s x := ?_
          clear_value x
          rotate_left
          subst x
          rotate_left)
       | clear_value x)
    | split
    | (with_reducible apply Kept.step State.supRise_kept)
    | (with_reducible apply Kept.step State.setPresent_kept)
    | (with_reducible apply Kept.step State.modLoopX_kept)
    | (with_reducible apply Kept.step State.modLoop_kept)
    | (with_reducible apply Kept.step State.onCtl_kept)
    | (with_reducible refine Kept.snd (by with_reducible assumption) ?_)
    | (with_reducible refine Kept.fst (by with_reducible assumption) ?_)

theorem State.tuneStore_kept {l : Nat} {sample : Rec 16} {commit : Nat} {s : State} : Kept 6819886 s (State.tuneStore l sample commit s) := by
  unfold State.tuneStore
  repeat' first
    | (intro)
    | with_reducible assumption
    | with_reducible exact Kept.refl _ _
    | exact Eq.refl _
    | (extract_lets +onlyGivenNames x
       first
       | (have hx : Kept 6819886 s x := ?_
          clear_value x
          rotate_left
          subst x
          rotate_left)
       | clear_value x)
    | split
    | (with_reducible apply Kept.step State.tuneEnd_kept)
    | (with_reducible apply Kept.step State.modLoopX_kept)
    | (with_reducible apply Kept.step State.modLoop_kept)
    | (with_reducible apply Kept.step State.onCtl_kept)
    | (with_reducible refine Kept.snd (by with_reducible assumption) ?_)
    | (with_reducible refine Kept.fst (by with_reducible assumption) ?_)

theorem State.loopFrame_kept {l : Nat} {node : Nat} {idx : Nat} {v : Nat} {wt : Nat} {inst : Nat} {s : State} : Kept 6815918 s (State.loopFrame l node idx v wt inst s) := by
  unfold State.loopFrame
  repeat' first
    | (intro)
    | with_reducible assumption
    | with_reducible exact Kept.refl _ _
    | exact Eq.refl _
    | split
    | (with_reducible apply Kept.step State.loopOut_kept)
    | (with_reducible apply Kept.step State.setPort_kept)
    | (with_reducible apply Kept.step State.bump_kept)
    | (with_reducible refine Kept.fold ?_ ?_)
    | (with_reducible refine Kept.foldSnd ?_ ?_)
    | (with_reducible refine Kept.foldFst ?_ ?_)
    | (with_reducible refine Kept.snd (by with_reducible assumption) ?_)
    | (with_reducible refine Kept.fst (by with_reducible assumption) ?_)

theorem State.loopEval_kept {l : Nat} {cyc : Nat} {nom : Nat} {s : State} : Kept 6828462 s (State.loopEval l cyc nom s) := by
  unfold State.loopEval
  repeat' first
    | (intro)
    | with_reducible assumption
    | with_reducible exact Kept.refl _ _
    | exact Eq.refl _
    | (extract_lets +onlyGivenNames x
       first
       | (have hx : Kept 6828462 s x := ?_
          clear_value x
          rotate_left
          subst x
          rotate_left)
       | clear_value x)
    | split
    | (with_reducible apply Kept.step State.loopFrame_kept)
    | (with_reducible apply Kept.step State.tuneStore_kept)
    | (with_reducible apply Kept.step State.supStep6_kept)
    | (with_reducible apply Kept.step State.supStep1_kept)
    | (with_reducible apply Kept.step State.loopTwins_kept)
    | (with_reducible apply Kept.step State.loopCmds_kept)
    | (with_reducible apply Kept.step State.planNext_kept)
    | (with_reducible apply Kept.step State.modLoopX_kept)
    | (with_reducible apply Kept.step State.modLoop_kept)
    | (with_reducible apply Kept.step State.setLoop_kept)
    | (with_reducible apply Kept.step State.outStage_kept)
    | (with_reducible apply Kept.step State.toTile_kept)
    | (with_reducible apply Kept.step State.dirtyMod_kept)
    | (with_reducible apply Kept.step State.raise_kept)
    | (with_reducible apply Kept.step State.bump_kept)
    | (with_reducible apply Kept.step State.wf_kept)
    | (with_reducible refine Kept.snd (by with_reducible assumption) ?_)
    | (with_reducible refine Kept.fst (by with_reducible assumption) ?_)

theorem State.holdAll_kept {on : Bool} {s : State} : Kept 6819886 s (State.holdAll on s) := by
  unfold State.holdAll
  repeat' first
    | (intro)
    | with_reducible assumption
    | with_reducible exact Kept.refl _ _
    | exact Eq.refl _
    | (extract_lets +onlyGivenNames x
       first
       | (have hx : Kept 6819886 s x := ?_
          clear_value x
          rotate_left
          subst x
          rotate_left)
       | clear_value x)
    | split
    | (with_reducible apply Kept.step State.setTransfer_kept)
    | (with_reducible apply Kept.step State.tuneEnd_kept)
    | (with_reducible apply Kept.step State.wf_kept)
    | (with_reducible refine Kept.fold ?_ ?_)
    | (with_reducible refine Kept.foldSnd ?_ ?_)
    | (with_reducible refine Kept.foldFst ?_ ?_)
    | (with_reducible refine Kept.snd (by with_reducible assumption) ?_)
    | (with_reducible refine Kept.fst (by with_reducible assumption) ?_)

theorem State.cfgBad_kept {l : Nat} {n : Nat} {v : Nat} {s : State} : Kept 6815790 s (State.cfgBad l n v s) := by
  unfold State.cfgBad
  repeat' first
    | (intro)
    | with_reducible assumption
    | with_reducible exact Kept.refl _ _
    | exact Eq.refl _
    | (with_reducible apply Kept.step State.twinEvent_kept)
    | (with_reducible apply Kept.step State.bump_kept)

theorem State.supRestore_kept {l : Nat} {s : State} : Kept 6819886 s (State.supRestore l s) := by
  unfold State.supRestore
  repeat' first
    | (intro)
    | with_reducible assumption
    | with_reducible exact Kept.refl _ _
    | exact Eq.refl _
    | (extract_lets +onlyGivenNames x
       first
       | (have hx : Kept 6819886 s x := ?_
          clear_value x
          rotate_left
          subst x
          rotate_left)
       | clear_value x)
    | split
    | (with_reducible apply Kept.step State.cfgBad_kept)
    | (with_reducible apply Kept.step State.supApply_kept)
    | (with_reducible apply Kept.step State.modLoopX_kept)
    | (with_reducible apply Kept.step State.modLoop_kept)
    | (with_reducible refine Kept.snd (by with_reducible assumption) ?_)
    | (with_reducible refine Kept.fst (by with_reducible assumption) ?_)

theorem State.loopRestore_kept {l : Nat} {r : Rec 512} {u : Option Int} {s : State} : Kept 6820142 s (State.loopRestore l r u s) := by
  unfold State.loopRestore
  repeat' first
    | (intro)
    | with_reducible assumption
    | with_reducible exact Kept.refl _ _
    | exact Eq.refl _
    | (extract_lets +onlyGivenNames x
       first
       | (have hx : Kept 6820142 s x := ?_
          clear_value x
          rotate_left
          subst x
          rotate_left)
       | clear_value x)
    | split
    | (with_reducible apply Kept.step State.supRestore_kept)
    | (with_reducible apply Kept.step State.cfgBad_kept)
    | (with_reducible apply Kept.step State.planFirst_kept)
    | (with_reducible apply Kept.step State.setOwned_kept)
    | (with_reducible apply Kept.step State.modLoopX_kept)
    | (with_reducible apply Kept.step State.setLoop_kept)
    | (with_reducible apply Kept.step State.raise_kept)
    | (with_reducible refine Kept.snd (by with_reducible assumption) ?_)
    | (with_reducible refine Kept.fst (by with_reducible assumption) ?_)

end Sys2Proof.Machine
end

