-- ==== Sys2Proof/Laws/KeptLinkOps.lean ====
section
/-! SUPPORT. What the operations of Machine/LinkOps.lean leave alone. -/

set_option linter.tactic.unusedName false

namespace Sys2Proof.Machine

set_option Elab.async false

theorem State.dataEnd_kept {ring : Nat} {tag : Nat} {st : Nat} {s : State} : Kept 6291464 s (State.dataEnd ring tag st s) := by
  unfold State.dataEnd
  repeat' first
    | (intro)
    | with_reducible assumption
    | with_reducible exact Kept.refl _ _
    | exact Eq.refl _
    | split
    | (with_reducible apply Kept.step State.complete_kept)
    | (with_reducible refine Kept.snd (by with_reducible assumption) ?_)
    | (with_reducible refine Kept.fst (by with_reducible assumption) ?_)

theorem State.dataDone_kept {q : QFr} {st : Nat} {s : State} : Kept 6291464 s (State.dataDone q st s) := by
  unfold State.dataDone
  repeat' first
    | (intro)
    | with_reducible assumption
    | with_reducible exact Kept.refl _ _
    | exact Eq.refl _
    | split
    | (with_reducible apply Kept.step State.dataEnd_kept)
    | (with_reducible refine Kept.snd (by with_reducible assumption) ?_)
    | (with_reducible refine Kept.fst (by with_reducible assumption) ?_)

theorem State.poolServe_kept {s : State} : Kept 6815918 s (State.poolServe s) := by
  unfold State.poolServe
  repeat' first
    | (intro)
    | with_reducible assumption
    | with_reducible exact Kept.refl _ _
    | exact Eq.refl _
    | split
    | (with_reducible apply Kept.step State.dataEnd_kept)
    | (with_reducible apply Kept.step State.originate_kept)
    | (with_reducible apply Kept.step State.onFab_kept)
    | (with_reducible refine Kept.fold ?_ ?_)
    | (with_reducible refine Kept.foldSnd ?_ ?_)
    | (with_reducible refine Kept.foldFst ?_ ?_)
    | (with_reducible refine Kept.snd (by with_reducible assumption) ?_)
    | (with_reducible refine Kept.fst (by with_reducible assumption) ?_)

theorem State.transmit_kept {p : Nat} {q : QFr} {again : Option Nat} {start : Nat} {s : State} : Kept 6815918 s (State.transmit p q again start s) := by
  unfold State.transmit
  repeat' first
    | (intro)
    | with_reducible assumption
    | with_reducible exact Kept.refl _ _
    | exact Eq.refl _
    | (extract_lets +onlyGivenNames x
       first
       | (have hx : Kept 6815918 s x := ?_
          clear_value x
          rotate_left
          subst x
          rotate_left)
       | clear_value x)
    | split
    | (with_reducible apply Kept.step State.dataDone_kept)
    | (with_reducible apply Kept.step State.released_kept)
    | (with_reducible apply Kept.step State.spendHere_kept)
    | (with_reducible apply Kept.step State.setPort_kept)
    | (with_reducible refine Kept.snd (by with_reducible assumption) ?_)
    | (with_reducible refine Kept.fst (by with_reducible assumption) ?_)

theorem State.arbFollow_kept {p : Nat} {s : State} : Kept 128 s (State.arbFollow p s) := by
  unfold State.arbFollow
  repeat' first
    | (intro)
    | with_reducible assumption
    | with_reducible exact Kept.refl _ _
    | exact Eq.refl _
    | (with_reducible apply Kept.step State.modPort_kept)

theorem State.departLoop_kept {p : Nat} {s : State} {w : State} (hw : State.departLoop p s = some w) : Kept 6815918 s w := by
  unfold State.departLoop at hw
  dsimp only at hw
  repeat' split at hw
  all_goals cases hw
  repeat' first
    | (intro)
    | with_reducible assumption
    | with_reducible exact Kept.refl _ _
    | exact Eq.refl _
    | (with_reducible apply Kept.step State.transmit_kept)
    | (with_reducible apply Kept.step State.enqueue_kept)
    | (with_reducible apply Kept.step State.setPort_kept)

theorem State.egressNext_kept {p : Nat} {s : State} : Kept 6815918 s (State.egressNext p s) := by
  unfold State.egressNext
  repeat' first
    | (intro)
    | with_reducible assumption
    | with_reducible exact Kept.refl _ _
    | exact Eq.refl _
    | (extract_lets +onlyGivenNames x
       first
       | (have hx : Kept 6815918 s x := ?_
          clear_value x
          rotate_left
          subst x
          rotate_left)
       | clear_value x)
    | split
    | (with_reducible apply Kept.step (State.departLoop_kept ‹_›))
    | (with_reducible apply Kept.step State.arbFollow_kept)
    | (with_reducible apply Kept.step State.transmit_kept)
    | (with_reducible apply Kept.step State.modPort_kept)
    | (with_reducible refine Kept.snd (by with_reducible assumption) ?_)
    | (with_reducible refine Kept.fst (by with_reducible assumption) ?_)

theorem State.ringWrap_kept {p : Nat} {wrap : Bool} {s : State} : Kept 6815790 s (State.ringWrap p wrap s) := by
  unfold State.ringWrap
  repeat' first
    | (intro)
    | with_reducible assumption
    | with_reducible exact Kept.refl _ _
    | exact Eq.refl _
    | (extract_lets +onlyGivenNames x
       first
       | (have hx : Kept 6815790 s x := ?_
          clear_value x
          rotate_left
          subst x
          rotate_left)
       | clear_value x)
    | split
    | (with_reducible apply Kept.step State.raise_kept)
    | (with_reducible apply Kept.step State.bump_kept)
    | (with_reducible apply Kept.step State.wf_kept)
    | (with_reducible refine Kept.snd (by with_reducible assumption) ?_)
    | (with_reducible refine Kept.fst (by with_reducible assumption) ?_)

theorem State.reroute_kept {q : QFr} {s : State} : Kept 6815918 s (State.reroute q s) := by
  unfold State.reroute
  repeat' first
    | (intro)
    | with_reducible assumption
    | with_reducible exact Kept.refl _ _
    | exact Eq.refl _
    | split
    | (with_reducible apply Kept.step State.dataDone_kept)
    | (with_reducible apply Kept.step State.forward_kept)
    | (with_reducible apply Kept.step State.released_kept)
    | (with_reducible apply Kept.step State.bump_kept)
    | (with_reducible refine Kept.snd (by with_reducible assumption) ?_)
    | (with_reducible refine Kept.fst (by with_reducible assumption) ?_)

theorem State.uncoin_kept {p : Nat} {s : State} : Kept 128 s (State.uncoin p s) := by
  unfold State.uncoin
  repeat' first
    | (intro)
    | with_reducible assumption
    | with_reducible exact Kept.refl _ _
    | exact Eq.refl _
    | (with_reducible apply Kept.step State.onFab_kept)

theorem State.portState_kept {p : Nat} {st : Nat} {s : State} : Kept 4194310 s (State.portState p st s) := by
  unfold State.portState
  repeat' first
    | (intro)
    | with_reducible assumption
    | with_reducible exact Kept.refl _ _
    | exact Eq.refl _
    | (with_reducible apply Kept.step State.wf_kept)

theorem State.portLeave_kept {p : Nat} {st : Nat} {s : State} : Kept 6815918 s (State.portLeave p st s) := by
  unfold State.portLeave
  repeat' first
    | (intro)
    | with_reducible assumption
    | with_reducible exact Kept.refl _ _
    | exact Eq.refl _
    | (extract_lets +onlyGivenNames x
       first
       | (have hx : Kept 6815918 s x := ?_
          clear_value x
          rotate_left
          subst x
          rotate_left)
       | clear_value x)
    | split
    | (with_reducible apply Kept.step State.portState_kept)
    | (with_reducible apply Kept.step State.uncoin_kept)
    | (with_reducible apply Kept.step State.reroute_kept)
    | (with_reducible apply Kept.step State.ringWrap_kept)
    | (with_reducible apply Kept.step State.setPort_kept)
    | (with_reducible refine Kept.fold ?_ ?_)
    | (with_reducible refine Kept.foldSnd ?_ ?_)
    | (with_reducible refine Kept.foldFst ?_ ?_)
    | (with_reducible refine Kept.snd (by with_reducible assumption) ?_)
    | (with_reducible refine Kept.fst (by with_reducible assumption) ?_)

theorem State.portDown_kept {p : Nat} {s : State} : Kept 7864494 s (State.portDown p s) := by
  unfold State.portDown
  repeat' first
    | (intro)
    | with_reducible assumption
    | with_reducible exact Kept.refl _ _
    | exact Eq.refl _
    | (with_reducible apply Kept.step State.portLeave_kept)
    | (with_reducible apply Kept.step State.raise_kept)
    | (with_reducible apply Kept.step State.fresh_kept)

theorem State.replayFrom_kept {p : Nat} {l : List (Nat × QFr)} {s : State} : Kept 7864494 s (State.replayFrom p l s) := by
  unfold State.replayFrom
  repeat' first
    | (intro)
    | with_reducible assumption
    | with_reducible exact Kept.refl _ _
    | exact Eq.refl _
    | (extract_lets +onlyGivenNames x
       first
       | (have hx : Kept 7864494 s x := ?_
          clear_value x
          rotate_left
          subst x
          rotate_left)
       | clear_value x)
    | split
    | (with_reducible apply Kept.step State.portDown_kept)
    | (with_reducible apply Kept.step State.setPort_kept)
    | (with_reducible apply Kept.step State.raise_kept)
    | (with_reducible apply Kept.step State.bump_kept)
    | (with_reducible refine Kept.snd (by with_reducible assumption) ?_)
    | (with_reducible refine Kept.fst (by with_reducible assumption) ?_)

theorem State.sendWord_kept {p : Nat} {w : Nat} {s : State} : Kept 128 s (State.sendWord p w s) := by
  unfold State.sendWord
  repeat' first
    | (intro)
    | with_reducible assumption
    | with_reducible exact Kept.refl _ _
    | exact Eq.refl _
    | (with_reducible apply Kept.step State.modPort_kept)

theorem State.askAgain_kept {p : Nat} {s : State} : Kept 128 s (State.askAgain p s) := by
  unfold State.askAgain
  repeat' first
    | (intro)
    | with_reducible assumption
    | with_reducible exact Kept.refl _ _
    | exact Eq.refl _
    | (extract_lets +onlyGivenNames x
       first
       | (have hx : Kept 128 s x := ?_
          clear_value x
          rotate_left
          subst x
          rotate_left)
       | clear_value x)
    | split
    | (with_reducible apply Kept.step State.setPort_kept)
    | (with_reducible refine Kept.snd (by with_reducible assumption) ?_)
    | (with_reducible refine Kept.fst (by with_reducible assumption) ?_)

theorem State.wordBad_kept {p : Nat} {s : State} : Kept 4194310 s (State.wordBad p s) := by
  unfold State.wordBad
  repeat' first
    | (intro)
    | with_reducible assumption
    | with_reducible exact Kept.refl _ _
    | exact Eq.refl _
    | (with_reducible apply Kept.step State.bump_kept)

theorem State.oeGates_kept {s : State} : Kept 4194310 s (State.oeGates s) := by
  unfold State.oeGates
  repeat' first
    | (intro)
    | with_reducible assumption
    | with_reducible exact Kept.refl _ _
    | exact Eq.refl _
    | (with_reducible apply Kept.step State.wf_kept)
    | (with_reducible refine Kept.fold ?_ ?_)
    | (with_reducible refine Kept.foldSnd ?_ ?_)
    | (with_reducible refine Kept.foldFst ?_ ?_)

theorem State.portEnable_kept {p : Nat} {s : State} : Kept 4194310 s (State.portEnable p s) := by
  unfold State.portEnable
  repeat' first
    | (intro)
    | with_reducible assumption
    | with_reducible exact Kept.refl _ _
    | exact Eq.refl _
    | split
    | (with_reducible apply Kept.step State.oeGates_kept)
    | (with_reducible apply Kept.step State.portState_kept)
    | (with_reducible apply Kept.step State.drop_kept)
    | (with_reducible apply Kept.step State.wf_kept)
    | (with_reducible refine Kept.snd (by with_reducible assumption) ?_)
    | (with_reducible refine Kept.fst (by with_reducible assumption) ?_)

theorem State.portDisable_kept {p : Nat} {s : State} : Kept 6815918 s (State.portDisable p s) := by
  unfold State.portDisable
  repeat' first
    | (intro)
    | with_reducible assumption
    | with_reducible exact Kept.refl _ _
    | exact Eq.refl _
    | (extract_lets +onlyGivenNames x
       first
       | (have hx : Kept 6815918 s x := ?_
          clear_value x
          rotate_left
          subst x
          rotate_left)
       | clear_value x)
    | split
    | (with_reducible apply Kept.step State.oeGates_kept)
    | (with_reducible apply Kept.step State.portLeave_kept)
    | (with_reducible apply Kept.step State.wf_kept)
    | (with_reducible refine Kept.snd (by with_reducible assumption) ?_)
    | (with_reducible refine Kept.fst (by with_reducible assumption) ?_)

end Sys2Proof.Machine
end

