-- ==== Sys2Proof/Laws/KeptCtl.lean ====
section
/-! SUPPORT. What the operations of Machine/Ctl.lean leave alone. -/

set_option linter.tactic.unusedName false

namespace Sys2Proof.Machine

set_option Elab.async false

theorem bodyCtlLoopConfig_kept {c : Cmd} {a1 : State} : Kept 6951214 a1 (bodyCtlLoopConfig c a1).2 := by
  unfold bodyCtlLoopConfig
  repeat' first
    | (intro)
    | with_reducible assumption
    | with_reducible exact Kept.refl _ _
    | exact Eq.refl _
    | (with_reducible refine Kept.ofId ?_)
    | split
    | (with_reducible apply Kept.step State.loopTake_kept)
    | (with_reducible apply Kept.step State.disown_kept)
    | (with_reducible apply Kept.step State.setOwned_kept)
    | (with_reducible apply okWith_kept)
    | (with_reducible apply Kept.step State.dirtyHost_kept)
    | (with_reducible refine Kept.snd (by with_reducible assumption) ?_)
    | (with_reducible refine Kept.fst (by with_reducible assumption) ?_)

theorem execCtlLoopConfig_kept {t : Nat} {c : Cmd} {s : State} : KeptO 8000895 s (execCtlLoopConfig t c s) := by
  unfold execCtlLoopConfig
  repeat' first
    | (intro)
    | with_reducible assumption
    | with_reducible exact Kept.refl _ _
    | exact Eq.refl _
    | (with_reducible refine Kept.ofId ?_)
    | (with_reducible refine KeptO.next ?_)
    | (with_reducible apply Kept.step bodyCtlLoopConfig_kept)
    | (with_reducible apply KeptO.lift State.done_kept)
    | (with_reducible apply State.command_kept)

theorem bodyCtlSupConfig_kept {c : Cmd} {a1 : State} : Kept 6951214 a1 (bodyCtlSupConfig c a1).2 := by
  unfold bodyCtlSupConfig
  repeat' first
    | (intro)
    | with_reducible assumption
    | with_reducible exact Kept.refl _ _
    | exact Eq.refl _
    | (with_reducible refine Kept.ofId ?_)
    | (with_reducible apply Kept.step State.loopTake_kept)
    | (with_reducible apply okWith_kept)
    | (with_reducible apply Kept.step State.dirtyHost_kept)

theorem execCtlSupConfig_kept {t : Nat} {c : Cmd} {s : State} : KeptO 8000895 s (execCtlSupConfig t c s) := by
  unfold execCtlSupConfig
  repeat' first
    | (intro)
    | with_reducible assumption
    | with_reducible exact Kept.refl _ _
    | exact Eq.refl _
    | (with_reducible refine Kept.ofId ?_)
    | (with_reducible refine KeptO.next ?_)
    | (with_reducible apply Kept.step bodyCtlSupConfig_kept)
    | (with_reducible apply KeptO.lift State.done_kept)
    | (with_reducible apply State.command_kept)

theorem bodyCtlMode_kept {c : Cmd} {a1 : State} : Kept 6951214 a1 (bodyCtlMode c a1).2 := by
  unfold bodyCtlMode
  repeat' first
    | (intro)
    | with_reducible assumption
    | with_reducible exact Kept.refl _ _
    | exact Eq.refl _
    | (with_reducible apply Kept.step State.loopTake_kept)
    | (with_reducible apply Kept.step State.dirtyHost_kept)

theorem execCtlMode_kept {t : Nat} {c : Cmd} {s : State} : KeptO 8000895 s (execCtlMode t c s) := by
  unfold execCtlMode
  repeat' first
    | (intro)
    | with_reducible assumption
    | with_reducible exact Kept.refl _ _
    | exact Eq.refl _
    | (with_reducible refine Kept.ofId ?_)
    | (with_reducible refine KeptO.next ?_)
    | (with_reducible apply Kept.step bodyCtlMode_kept)
    | (with_reducible apply KeptO.lift State.done_kept)
    | (with_reducible apply State.command_kept)

theorem bodyCtlManOut_kept {c : Cmd} {a1 : State} : Kept 6820142 a1 (bodyCtlManOut c a1).2 := by
  unfold bodyCtlManOut
  repeat' first
    | (intro)
    | with_reducible assumption
    | with_reducible exact Kept.refl _ _
    | exact Eq.refl _
    | (extract_lets +onlyGivenNames x
       first
       | (have hx : Kept 6820142 a1 x := ?_
          clear_value x
          rotate_left
          subst x
          rotate_left)
       | clear_value x)
    | split
    | (with_reducible apply Kept.step State.loopTake_kept)
    | (with_reducible refine Kept.snd (by with_reducible assumption) ?_)
    | (with_reducible refine Kept.fst (by with_reducible assumption) ?_)

theorem execCtlManOut_kept {t : Nat} {c : Cmd} {s : State} : KeptO 7869823 s (execCtlManOut t c s) := by
  unfold execCtlManOut
  repeat' first
    | (intro)
    | with_reducible assumption
    | with_reducible exact Kept.refl _ _
    | exact Eq.refl _
    | (with_reducible refine Kept.ofId ?_)
    | (with_reducible refine KeptO.next ?_)
    | (with_reducible apply Kept.step bodyCtlManOut_kept)
    | (with_reducible apply KeptO.lift State.done_kept)
    | (with_reducible apply State.command_kept)

theorem bodyCtlSetpoint_kept {c : Cmd} {a1 : State} : Kept 6951214 a1 (bodyCtlSetpoint c a1).2 := by
  unfold bodyCtlSetpoint
  repeat' first
    | (intro)
    | with_reducible assumption
    | with_reducible exact Kept.refl _ _
    | exact Eq.refl _
    | (extract_lets +onlyGivenNames x
       first
       | (have hx : Kept 6951214 a1 x := ?_
          clear_value x
          rotate_left
          subst x
          rotate_left)
       | clear_value x)
    | split
    | (with_reducible apply Kept.step State.loopTake_kept)
    | (with_reducible apply Kept.step State.dirtyHost_kept)
    | (with_reducible refine Kept.snd (by with_reducible assumption) ?_)
    | (with_reducible refine Kept.fst (by with_reducible assumption) ?_)

theorem execCtlSetpoint_kept {t : Nat} {c : Cmd} {s : State} : KeptO 8000895 s (execCtlSetpoint t c s) := by
  unfold execCtlSetpoint
  repeat' first
    | (intro)
    | with_reducible assumption
    | with_reducible exact Kept.refl _ _
    | exact Eq.refl _
    | (with_reducible refine Kept.ofId ?_)
    | (with_reducible refine KeptO.next ?_)
    | (with_reducible apply Kept.step bodyCtlSetpoint_kept)
    | (with_reducible apply KeptO.lift State.done_kept)
    | (with_reducible apply State.command_kept)

theorem bodyCtlCompTable_kept {c : Cmd} {a1 : State} : Kept 6951214 a1 (bodyCtlCompTable c a1).2 := by
  unfold bodyCtlCompTable
  repeat' first
    | (intro)
    | with_reducible assumption
    | with_reducible exact Kept.refl _ _
    | exact Eq.refl _
    | (with_reducible refine Kept.ofId ?_)
    | (with_reducible apply Kept.step State.loopTake_kept)
    | (with_reducible apply okWith_kept)
    | (with_reducible apply Kept.step State.dirtyHost_kept)

theorem execCtlCompTable_kept {t : Nat} {c : Cmd} {s : State} : KeptO 8000895 s (execCtlCompTable t c s) := by
  unfold execCtlCompTable
  repeat' first
    | (intro)
    | with_reducible assumption
    | with_reducible exact Kept.refl _ _
    | exact Eq.refl _
    | (with_reducible refine Kept.ofId ?_)
    | (with_reducible refine KeptO.next ?_)
    | (with_reducible apply Kept.step bodyCtlCompTable_kept)
    | (with_reducible apply KeptO.lift State.done_kept)
    | (with_reducible apply State.command_kept)

theorem bodyCtlSupReset_kept {c : Cmd} {a1 : State} : Kept 6820142 a1 (bodyCtlSupReset c a1).2 := by
  unfold bodyCtlSupReset
  repeat' first
    | (intro)
    | with_reducible assumption
    | with_reducible exact Kept.refl _ _
    | exact Eq.refl _
    | (with_reducible refine Kept.ofId ?_)
    | (with_reducible apply Kept.step State.loopTake_kept)
    | (with_reducible apply okWith_kept)

theorem execCtlSupReset_kept {t : Nat} {c : Cmd} {s : State} : KeptO 7869823 s (execCtlSupReset t c s) := by
  unfold execCtlSupReset
  repeat' first
    | (intro)
    | with_reducible assumption
    | with_reducible exact Kept.refl _ _
    | exact Eq.refl _
    | (with_reducible refine Kept.ofId ?_)
    | (with_reducible refine KeptO.next ?_)
    | (with_reducible apply Kept.step bodyCtlSupReset_kept)
    | (with_reducible apply KeptO.lift State.done_kept)
    | (with_reducible apply State.command_kept)

theorem bodyCtlTuneStart_kept {c : Cmd} {a1 : State} : Kept 6820142 a1 (bodyCtlTuneStart c a1).2 := by
  unfold bodyCtlTuneStart
  repeat' first
    | (intro)
    | with_reducible assumption
    | with_reducible exact Kept.refl _ _
    | exact Eq.refl _
    | split
    | (with_reducible apply Kept.step State.loopTake_kept)
    | (with_reducible refine Kept.snd (by with_reducible assumption) ?_)
    | (with_reducible refine Kept.fst (by with_reducible assumption) ?_)

theorem execCtlTuneStart_kept {t : Nat} {c : Cmd} {s : State} : KeptO 7869823 s (execCtlTuneStart t c s) := by
  unfold execCtlTuneStart
  repeat' first
    | (intro)
    | with_reducible assumption
    | with_reducible exact Kept.refl _ _
    | exact Eq.refl _
    | (with_reducible refine Kept.ofId ?_)
    | (with_reducible refine KeptO.next ?_)
    | (with_reducible apply Kept.step bodyCtlTuneStart_kept)
    | (with_reducible apply KeptO.lift State.done_kept)
    | (with_reducible apply State.command_kept)

theorem bodyCtlTuneStop_kept {c : Cmd} {a1 : State} : Kept 6820142 a1 (bodyCtlTuneStop c a1).2 := by
  unfold bodyCtlTuneStop
  repeat' first
    | (intro)
    | with_reducible assumption
    | with_reducible exact Kept.refl _ _
    | exact Eq.refl _
    | (with_reducible refine Kept.ofId ?_)
    | (with_reducible apply Kept.step State.loopTake_kept)
    | (with_reducible apply okWith_kept)

theorem execCtlTuneStop_kept {t : Nat} {c : Cmd} {s : State} : KeptO 7869823 s (execCtlTuneStop t c s) := by
  unfold execCtlTuneStop
  repeat' first
    | (intro)
    | with_reducible assumption
    | with_reducible exact Kept.refl _ _
    | exact Eq.refl _
    | (with_reducible refine Kept.ofId ?_)
    | (with_reducible refine KeptO.next ?_)
    | (with_reducible apply Kept.step bodyCtlTuneStop_kept)
    | (with_reducible apply KeptO.lift State.done_kept)
    | (with_reducible apply State.command_kept)

theorem bodyCtlTuneRead_kept {c : Cmd} {a1 : State} : Kept 14680072 a1 (bodyCtlTuneRead c a1).2 := by
  unfold bodyCtlTuneRead
  repeat' first
    | (intro)
    | with_reducible assumption
    | with_reducible exact Kept.refl _ _
    | exact Eq.refl _
    | (with_reducible apply Kept.step State.bufPut_kept)
    | (with_reducible refine Kept.fold ?_ ?_)
    | (with_reducible refine Kept.foldSnd ?_ ?_)
    | (with_reducible refine Kept.foldFst ?_ ?_)

theorem execCtlTuneRead_kept {t : Nat} {c : Cmd} {s : State} : KeptO 16254335 s (execCtlTuneRead t c s) := by
  unfold execCtlTuneRead
  repeat' first
    | (intro)
    | with_reducible assumption
    | with_reducible exact Kept.refl _ _
    | exact Eq.refl _
    | (with_reducible refine Kept.ofId ?_)
    | (with_reducible refine KeptO.next ?_)
    | (with_reducible apply Kept.step bodyCtlTuneRead_kept)
    | (with_reducible apply KeptO.lift State.done_kept)
    | (with_reducible apply State.command_kept)

theorem bodyCtlLoopRead_kept {c : Cmd} {a1 : State} : Kept 14680072 a1 (bodyCtlLoopRead c a1).2 := by
  unfold bodyCtlLoopRead
  repeat' first
    | (intro)
    | with_reducible assumption
    | with_reducible exact Kept.refl _ _
    | exact Eq.refl _
    | (with_reducible refine Kept.ofId ?_)
    | (with_reducible apply Kept.step State.bufPut_kept)
    | (with_reducible apply okWith_kept)

theorem execCtlLoopRead_kept {t : Nat} {c : Cmd} {s : State} : KeptO 16254335 s (execCtlLoopRead t c s) := by
  unfold execCtlLoopRead
  repeat' first
    | (intro)
    | with_reducible assumption
    | with_reducible exact Kept.refl _ _
    | exact Eq.refl _
    | (with_reducible refine Kept.ofId ?_)
    | (with_reducible refine KeptO.next ?_)
    | (with_reducible apply Kept.step bodyCtlLoopRead_kept)
    | (with_reducible apply KeptO.lift State.done_kept)
    | (with_reducible apply State.command_kept)

theorem bodyCtlLoopDelete_kept {c : Cmd} {a1 : State} : Kept 6951214 a1 (bodyCtlLoopDelete c a1).2 := by
  unfold bodyCtlLoopDelete
  repeat' first
    | (intro)
    | with_reducible assumption
    | with_reducible exact Kept.refl _ _
    | exact Eq.refl _
    | split
    | (with_reducible apply Kept.step State.loopTake_kept)
    | (with_reducible apply Kept.step State.disown_kept)
    | (with_reducible apply Kept.step State.dirtyHost_kept)
    | (with_reducible refine Kept.snd (by with_reducible assumption) ?_)
    | (with_reducible refine Kept.fst (by with_reducible assumption) ?_)

theorem execCtlLoopDelete_kept {t : Nat} {c : Cmd} {s : State} : KeptO 8000895 s (execCtlLoopDelete t c s) := by
  unfold execCtlLoopDelete
  repeat' first
    | (intro)
    | with_reducible assumption
    | with_reducible exact Kept.refl _ _
    | exact Eq.refl _
    | (with_reducible refine Kept.ofId ?_)
    | (with_reducible refine KeptO.next ?_)
    | (with_reducible apply Kept.step bodyCtlLoopDelete_kept)
    | (with_reducible apply KeptO.lift State.done_kept)
    | (with_reducible apply State.command_kept)

theorem execLoopEvaluate_kept {t : Nat} {l : Nat} {upset : Nat} {s : State} : KeptO 7878143 s (execLoopEvaluate t l upset s) := by
  unfold execLoopEvaluate
  repeat' first
    | (intro)
    | with_reducible assumption
    | with_reducible exact Kept.refl _ _
    | exact Eq.refl _
    | split
    | (with_reducible refine KeptO.next ?_)
    | (with_reducible apply Kept.step State.loopEval_kept)
    | (with_reducible apply Kept.step State.modLoop_kept)
    | (with_reducible apply KeptO.lift State.done_kept)
    | (with_reducible apply Kept.step State.at__kept)
    | (with_reducible apply Kept.step State.onCtl_kept)
    | (with_reducible refine Kept.snd (by with_reducible assumption) ?_)
    | (with_reducible refine Kept.fst (by with_reducible assumption) ?_)

theorem execLoopFrameDepart_kept {t : Nat} {port : Nat} {s : State} : KeptO 7865855 s (execLoopFrameDepart t port s) := by
  unfold execLoopFrameDepart
  repeat' first
    | (intro)
    | with_reducible assumption
    | with_reducible exact Kept.refl _ _
    | exact Eq.refl _
    | (extract_lets +onlyGivenNames x
       first
       | (have hx : Kept 7865855 s x := ?_
          clear_value x
          rotate_left
          subst x
          rotate_left)
       | clear_value x)
    | split
    | (with_reducible refine KeptO.next ?_)
    | (with_reducible apply Kept.step (State.departLoop_kept ‹_›))
    | (with_reducible apply KeptO.lift State.done_kept)
    | (with_reducible apply Kept.step State.at__kept)
    | (with_reducible refine Kept.snd (by with_reducible assumption) ?_)
    | (with_reducible refine Kept.fst (by with_reducible assumption) ?_)

theorem State.halfReload_kept {l : Nat} {k : Rec 256} {s : State} : Kept 6820142 s (State.halfReload l k s) := by
  unfold State.halfReload
  repeat' first
    | (intro)
    | with_reducible assumption
    | with_reducible exact Kept.refl _ _
    | exact Eq.refl _
    | split
    | (with_reducible apply Kept.step State.configApply_kept)
    | (with_reducible apply Kept.step State.supApply_kept)
    | (with_reducible apply Kept.step State.planFirst_kept)
    | (with_reducible apply Kept.step State.setTransfer_kept)
    | (with_reducible apply Kept.step State.ctlGauges_kept)
    | (with_reducible apply Kept.step State.modLoopX_kept)
    | (with_reducible apply Kept.step State.modLoop_kept)
    | (with_reducible refine Kept.snd (by with_reducible assumption) ?_)
    | (with_reducible refine Kept.fst (by with_reducible assumption) ?_)

theorem State.scrubHalf_kept {l : Nat} {flips : Nat} {img : Bool} {s : State} : Kept 6820142 s (State.scrubHalf l flips img s) := by
  have hz : True := trivial
  unfold State.scrubHalf
  repeat' first
    | (intro)
    | with_reducible assumption
    | with_reducible exact Kept.refl _ _
    | exact Eq.refl _
    | (extract_lets +onlyGivenNames x
       first
       | (have hx : Kept 6820142 s x := ?_
          clear_value x
          rotate_left
          subst x
          rotate_left)
       | (have hz : ∀ y, Kept 6820142 s y → Kept 6820142 s (x y) := ?_
          clear_value x
          rotate_left
          unfold x
          clear x
          rotate_left)
       | (have hz : ∀ a y, Kept 6820142 s y → Kept 6820142 s (x a y) := ?_
          clear_value x
          rotate_left
          unfold x
          clear x
          rotate_left)
       | (have hz : ∀ a b y, Kept 6820142 s y → Kept 6820142 s (x a b y) := ?_
          clear_value x
          rotate_left
          unfold x
          clear x
          rotate_left)
       | (have hz : ∀ a b c y, Kept 6820142 s y → Kept 6820142 s (x a b c y) := ?_
          clear_value x
          rotate_left
          unfold x
          clear x
          rotate_left)
       | clear_value x)
    | split
    | (with_reducible apply Kept.step State.halfReload_kept)
    | (with_reducible apply Kept.step State.cfgBad_kept)
    | (with_reducible apply Kept.step State.modLoopX_kept)
    | (with_reducible apply Kept.step State.modLoop_kept)
    | (with_reducible refine Kept.snd (by with_reducible assumption) ?_)
    | (with_reducible refine Kept.fst (by with_reducible assumption) ?_)
    | (with_reducible apply hz)
    | (with_reducible refine Kept.call (by with_reducible assumption) ?_)
    | (with_reducible refine Kept.call1 (by with_reducible assumption) ?_)

theorem State.scrubSup_kept {l : Nat} {img : Bool} {s : State} : Kept 6819886 s (State.scrubSup l img s) := by
  unfold State.scrubSup
  repeat' first
    | (intro)
    | with_reducible assumption
    | with_reducible exact Kept.refl _ _
    | exact Eq.refl _
    | (extract_lets +onlyGivenNames x
       first
       | (have hx : Kept 6819886 s x := ?_
          clear_value x
          rotate_left
          subst x
          rotate_left)
       | clear_value x)
    | split
    | (with_reducible apply Kept.step State.cfgBad_kept)
    | (with_reducible apply Kept.step State.supApply_kept)
    | (with_reducible apply Kept.step State.modLoopX_kept)
    | (with_reducible refine Kept.snd (by with_reducible assumption) ?_)
    | (with_reducible refine Kept.fst (by with_reducible assumption) ?_)

theorem execLoopConfigScrub_kept {t : Nat} {l : Nat} {flips : Nat} {flipsSup : Nat} {img : Bool} {s : State} : KeptO 7869823 s (execLoopConfigScrub t l flips flipsSup img s) := by
  unfold execLoopConfigScrub
  repeat' first
    | (intro)
    | with_reducible assumption
    | with_reducible exact Kept.refl _ _
    | exact Eq.refl _
    | (extract_lets +onlyGivenNames x
       first
       | (have hx : Kept 7869823 s x := ?_
          clear_value x
          rotate_left
          subst x
          rotate_left)
       | clear_value x)
    | split
    | (with_reducible refine KeptO.next ?_)
    | (with_reducible apply Kept.step State.scrubSup_kept)
    | (with_reducible apply Kept.step State.scrubHalf_kept)
    | (with_reducible apply Kept.step State.setSup_kept)
    | (with_reducible apply Kept.step State.modLoop_kept)
    | (with_reducible apply KeptO.lift State.done_kept)
    | (with_reducible apply Kept.step State.at__kept)
    | (with_reducible apply Kept.step State.onCtl_kept)
    | (with_reducible refine Kept.snd (by with_reducible assumption) ?_)
    | (with_reducible refine Kept.fst (by with_reducible assumption) ?_)

end Sys2Proof.Machine
end

