-- ==== Sys2Proof/Laws/KeptTimeOps.lean ====
section
/-! SUPPORT. What the operations of Machine/TimeOps.lean leave alone. -/

set_option linter.tactic.unusedName false

namespace Sys2Proof.Machine

set_option Elab.async false

theorem State.timeState_kept {st : Nat} {s : State} : Kept 7929902 s (State.timeState st s) := by
  unfold State.timeState
  repeat' first
    | (intro)
    | with_reducible assumption
    | with_reducible exact Kept.refl _ _
    | exact Eq.refl _
    | (extract_lets +onlyGivenNames x
       first
       | (have hx : Kept 7929902 s x := ?_
          clear_value x
          rotate_left
          subst x
          rotate_left)
       | clear_value x)
    | split
    | (with_reducible apply Kept.step State.wtBreak_kept)
    | (with_reducible apply Kept.step State.rtcAuto_kept)
    | (with_reducible apply Kept.step State.raise_kept)
    | (with_reducible apply Kept.step State.wf_kept)
    | (with_reducible refine Kept.snd (by with_reducible assumption) ?_)
    | (with_reducible refine Kept.fst (by with_reducible assumption) ?_)

theorem State.setWt_kept {w : Nat} {rate : Nat} {s : State} : Kept 1 s (State.setWt w rate s) := by
  unfold State.setWt
  repeat' first
    | (intro)
    | with_reducible assumption
    | with_reducible exact Kept.refl _ _
    | exact Eq.refl _
    | (with_reducible apply Kept.step (State.onTim_kept ?_))
    | exact Nat.le_refl _
    | exact Nat.le_max_left _ _

theorem State.timeStep_kept {d : Int} {s : State} : Kept 7934127 s (State.timeStep d s) := by
  unfold State.timeStep
  repeat' first
    | (intro)
    | with_reducible assumption
    | with_reducible exact Kept.refl _ _
    | exact Eq.refl _
    | (with_reducible apply Kept.step State.setWt_kept)
    | (with_reducible apply Kept.step State.timeState_kept)
    | (with_reducible apply Kept.step State.ctlTimeStep_kept)
    | (with_reducible apply Kept.step State.wtBreak_kept)
    | (with_reducible apply Kept.step State.raise_kept)
    | (with_reducible apply Kept.step State.bump_kept)
    | (with_reducible apply Kept.step State.onFab_kept)

theorem State.timeOffset_kept {d : Int} {s : State} : Kept 7934127 s (State.timeOffset d s) := by
  unfold State.timeOffset
  repeat' first
    | (intro)
    | with_reducible assumption
    | with_reducible exact Kept.refl _ _
    | exact Eq.refl _
    | (extract_lets +onlyGivenNames x
       first
       | (have hx : Kept 7934127 s x := ?_
          clear_value x
          rotate_left
          subst x
          rotate_left)
       | clear_value x)
    | split
    | (with_reducible apply Kept.step State.timeStep_kept)
    | (with_reducible apply Kept.step State.setWt_kept)
    | (with_reducible apply Kept.step State.timeState_kept)
    | (with_reducible apply Kept.step State.wf_kept)
    | (with_reducible apply Kept.step State.fresh_kept)
    | (with_reducible apply Kept.step State.onFab_kept)
    | (with_reducible refine Kept.snd (by with_reducible assumption) ?_)
    | (with_reducible refine Kept.fst (by with_reducible assumption) ?_)

theorem State.takeUtc_kept {ofs : Nat} {valid : Nat} {l61 : Nat} {l59 : Nat} {s : State} : Kept 4194310 s (State.takeUtc ofs valid l61 l59 s) := by
  unfold State.takeUtc
  repeat' first
    | (intro)
    | with_reducible assumption
    | with_reducible exact Kept.refl _ _
    | exact Eq.refl _
    | (with_reducible apply Kept.step State.utcFollow_kept)
    | (with_reducible apply Kept.step State.wf_kept)

theorem State.takeSync_kept {q : QFr} {p : Nat} {r : Nat} {s : State} : Kept 7934127 s (State.takeSync q p r s) := by
  have hz : True := trivial
  unfold State.takeSync
  repeat' first
    | (intro)
    | with_reducible assumption
    | with_reducible exact Kept.refl _ _
    | exact Eq.refl _
    | (extract_lets +onlyGivenNames x
       first
       | (have hx : Kept 7934127 s x := ?_
          clear_value x
          rotate_left
          subst x
          rotate_left)
       | (have hz : ∀ y, Kept 7934127 s y → Kept 7934127 s (x y) := ?_
          clear_value x
          rotate_left
          unfold x
          clear x
          rotate_left)
       | (have hz : ∀ a y, Kept 7934127 s y → Kept 7934127 s (x a y) := ?_
          clear_value x
          rotate_left
          unfold x
          clear x
          rotate_left)
       | (have hz : ∀ a b y, Kept 7934127 s y → Kept 7934127 s (x a b y) := ?_
          clear_value x
          rotate_left
          unfold x
          clear x
          rotate_left)
       | (have hz : ∀ a b c y, Kept 7934127 s y → Kept 7934127 s (x a b c y) := ?_
          clear_value x
          rotate_left
          unfold x
          clear x
          rotate_left)
       | clear_value x)
    | split
    | (with_reducible apply Kept.step State.takeUtc_kept)
    | (with_reducible apply Kept.step State.timeOffset_kept)
    | (with_reducible apply Kept.step State.sendOut_kept)
    | (with_reducible apply Kept.step State.released_kept)
    | (with_reducible apply Kept.step State.wf_kept)
    | (with_reducible apply Kept.step State.onFab_kept)
    | (with_reducible refine Kept.snd (by with_reducible assumption) ?_)
    | (with_reducible refine Kept.fst (by with_reducible assumption) ?_)
    | (with_reducible apply hz)
    | (with_reducible refine Kept.call (by with_reducible assumption) ?_)
    | (with_reducible refine Kept.call1 (by with_reducible assumption) ?_)

end Sys2Proof.Machine
end

