-- ==== Sys2Proof/Laws/KeptTopoOps.lean ====
section
/-! SUPPORT. What the operations of Machine/TopoOps.lean leave alone. -/

set_option linter.tactic.unusedName false

namespace Sys2Proof.Machine

set_option Elab.async false

theorem State.modShadow_kept {k : Nat} {f : Shadow → Shadow} {s : State} : Kept 128 s (State.modShadow k f s) := by
  unfold State.modShadow
  repeat' first
    | (intro)
    | with_reducible assumption
    | with_reducible exact Kept.refl _ _
    | exact Eq.refl _
    | (with_reducible apply Kept.step State.onFab_kept)

theorem State.shadowFor_kept {h : Nat} {s : State} : Kept 4194438 s (State.shadowFor h s).2 := by
  unfold State.shadowFor
  repeat' first
    | (intro)
    | with_reducible assumption
    | with_reducible exact Kept.refl _ _
    | exact Eq.refl _
    | split
    | (with_reducible apply Kept.step State.modShadow_kept)
    | (with_reducible apply Kept.step State.wf_kept)
    | (with_reducible refine Kept.snd (by with_reducible assumption) ?_)
    | (with_reducible refine Kept.fst (by with_reducible assumption) ?_)

theorem State.shadowEnd_kept {k : Nat} {s : State} : Kept 4194438 s (State.shadowEnd k s) := by
  unfold State.shadowEnd
  repeat' first
    | (intro)
    | with_reducible assumption
    | with_reducible exact Kept.refl _ _
    | exact Eq.refl _
    | split
    | (with_reducible apply Kept.step State.wf_kept)
    | (with_reducible apply Kept.step State.onFab_kept)
    | (with_reducible refine Kept.snd (by with_reducible assumption) ?_)
    | (with_reducible refine Kept.fst (by with_reducible assumption) ?_)

theorem State.unalias_kept {h : Nat} {s : State} : Kept 128 s (State.unalias h s) := by
  unfold State.unalias
  repeat' first
    | (intro)
    | with_reducible assumption
    | with_reducible exact Kept.refl _ _
    | exact Eq.refl _
    | (with_reducible apply Kept.step State.onFab_kept)

theorem State.installAlias_kept {h : Nat} {who : Nat} {s : State} : Kept 6815918 s (State.installAlias h who s) := by
  unfold State.installAlias
  repeat' first
    | (intro)
    | with_reducible assumption
    | with_reducible exact Kept.refl _ _
    | exact Eq.refl _
    | split
    | (with_reducible apply Kept.step State.raise_kept)
    | (with_reducible apply Kept.step State.bump_kept)
    | (with_reducible apply Kept.step State.onFab_kept)
    | (with_reducible refine Kept.snd (by with_reducible assumption) ?_)
    | (with_reducible refine Kept.fst (by with_reducible assumption) ?_)

theorem State.controlOn_kept {p : Nat} {ptype : Nat} {payload : Nat} {s : State} : Kept 6815918 s (State.controlOn p ptype payload s) := by
  unfold State.controlOn
  repeat' first
    | (intro)
    | with_reducible assumption
    | with_reducible exact Kept.refl _ _
    | exact Eq.refl _
    | split
    | (with_reducible apply Kept.step State.send_kept)
    | (with_reducible refine Kept.snd (by with_reducible assumption) ?_)
    | (with_reducible refine Kept.fst (by with_reducible assumption) ?_)

theorem State.aliasesTo_kept {p : Nat} {s : State} : Kept 6815918 s (State.aliasesTo p s) := by
  unfold State.aliasesTo
  repeat' first
    | (intro)
    | with_reducible assumption
    | with_reducible exact Kept.refl _ _
    | exact Eq.refl _
    | (with_reducible apply Kept.step State.controlOn_kept)
    | (with_reducible refine Kept.fold ?_ ?_)
    | (with_reducible refine Kept.foldSnd ?_ ?_)
    | (with_reducible refine Kept.foldFst ?_ ?_)
    | (with_reducible refine Kept.foldr ?_ ?_)

theorem State.replSend_kept {s : State} : Kept 6815918 s (State.replSend s) := by
  unfold State.replSend
  repeat' first
    | (intro)
    | with_reducible assumption
    | with_reducible exact Kept.refl _ _
    | exact Eq.refl _
    | split
    | (with_reducible apply Kept.step State.send_kept)
    | (with_reducible apply Kept.step State.onFab_kept)
    | (with_reducible refine Kept.fold ?_ ?_)
    | (with_reducible refine Kept.foldSnd ?_ ?_)
    | (with_reducible refine Kept.foldFst ?_ ?_)
    | (with_reducible refine Kept.snd (by with_reducible assumption) ?_)
    | (with_reducible refine Kept.fst (by with_reducible assumption) ?_)

theorem State.replFlush_kept {s : State} : Kept 6815918 s (State.replFlush s) := by
  unfold State.replFlush
  repeat' first
    | (intro)
    | with_reducible assumption
    | with_reducible exact Kept.refl _ _
    | exact Eq.refl _
    | (with_reducible apply Kept.step State.replSend_kept)
    | (with_reducible refine Kept.fold ?_ ?_)
    | (with_reducible refine Kept.foldSnd ?_ ?_)
    | (with_reducible refine Kept.foldFst ?_ ?_)

theorem State.toShadow_kept {l : List Nat} {s : State} : Kept 6833966 s (State.toShadow l s) := by
  unfold State.toShadow
  repeat' first
    | (intro)
    | with_reducible assumption
    | with_reducible exact Kept.refl _ _
    | exact Eq.refl _
    | (with_reducible refine Kept.ofId ?_)
    | (with_reducible apply Kept.step State.reMember_kept)
    | (with_reducible apply State.sectorsBy_kept)
    | (with_reducible apply Kept.step State.delayStop_kept)
    | (with_reducible apply Kept.step State.modPt_kept)
    | (with_reducible apply Kept.step State.onSec_kept)
    | (with_reducible refine Kept.fold ?_ ?_)
    | (with_reducible refine Kept.foldSnd ?_ ?_)
    | (with_reducible refine Kept.foldFst ?_ ?_)

theorem State.readapt_kept {i : Nat} {s : State} : Kept 512 s (State.readapt i s) := by
  unfold State.readapt
  repeat' first
    | (intro)
    | with_reducible assumption
    | with_reducible exact Kept.refl _ _
    | exact Eq.refl _
    | split
    | (with_reducible apply Kept.step State.setCondX_kept)
    | (with_reducible apply Kept.step State.setCond_kept)
    | (with_reducible refine Kept.fold ?_ ?_)
    | (with_reducible refine Kept.foldSnd ?_ ?_)
    | (with_reducible refine Kept.foldFst ?_ ?_)
    | (with_reducible refine Kept.snd (by with_reducible assumption) ?_)
    | (with_reducible refine Kept.fst (by with_reducible assumption) ?_)

theorem State.takeoverDelays_kept {i : Nat} {s : State} : Kept 7210798 s (State.takeoverDelays i s) := by
  unfold State.takeoverDelays
  repeat' first
    | (intro)
    | with_reducible assumption
    | with_reducible exact Kept.refl _ _
    | exact Eq.refl _
    | (with_reducible refine Kept.ofId ?_)
    | (extract_lets +onlyGivenNames x
       first
       | (have hx : Kept 7210798 s x := ?_
          clear_value x
          rotate_left
          subst x
          rotate_left)
       | clear_value x)
    | split
    | (with_reducible apply State.input_kept)
    | (with_reducible apply Kept.step State.startOff_kept)
    | (with_reducible apply Kept.step State.startOn_kept)
    | (with_reducible apply Kept.step State.delayStop_kept)
    | (with_reducible refine Kept.fold ?_ ?_)
    | (with_reducible refine Kept.foldSnd ?_ ?_)
    | (with_reducible refine Kept.foldFst ?_ ?_)
    | (with_reducible refine Kept.snd (by with_reducible assumption) ?_)
    | (with_reducible refine Kept.fst (by with_reducible assumption) ?_)

theorem State.seatPoint_kept {i : Nat} {s : State} : Kept 6833198 s (State.seatPoint i s) := by
  unfold State.seatPoint
  repeat' first
    | (intro)
    | with_reducible assumption
    | with_reducible exact Kept.refl _ _
    | exact Eq.refl _
    | (with_reducible refine Kept.ofId ?_)
    | (with_reducible apply Kept.step State.reMember_kept)
    | (with_reducible apply State.sectorsBy_kept)
    | (with_reducible refine Kept.fold ?_ ?_)
    | (with_reducible refine Kept.foldSnd ?_ ?_)
    | (with_reducible refine Kept.foldFst ?_ ?_)

theorem State.takeoverPts_kept {l : List Nat} {held : List Upd} {s : State} : Kept 8286126 s (State.takeoverPts l held s) := by
  unfold State.takeoverPts
  repeat' first
    | (intro)
    | with_reducible assumption
    | with_reducible exact Kept.refl _ _
    | exact Eq.refl _
    | split
    | (with_reducible apply Kept.step State.seatPoint_kept)
    | (with_reducible apply Kept.step State.takeoverDelays_kept)
    | (with_reducible apply Kept.step State.readapt_kept)
    | (with_reducible apply Kept.step State.applyUpdate_kept)
    | (with_reducible apply Kept.step State.modPt_kept)
    | (with_reducible refine Kept.fold ?_ ?_)
    | (with_reducible refine Kept.foldSnd ?_ ?_)
    | (with_reducible refine Kept.foldFst ?_ ?_)
    | (with_reducible refine Kept.snd (by with_reducible assumption) ?_)
    | (with_reducible refine Kept.fst (by with_reducible assumption) ?_)

theorem State.startTaking_kept {k : Nat} {final : Option Nat} {s : State} : Kept 4194438 s (State.startTaking k final s) := by
  unfold State.startTaking
  repeat' first
    | (intro)
    | with_reducible assumption
    | with_reducible exact Kept.refl _ _
    | exact Eq.refl _
    | (with_reducible apply Kept.step State.modShadow_kept)
    | (with_reducible apply Kept.step State.wf_kept)

theorem State.takeover_kept {k : Nat} {s : State} : Kept 8286126 s (State.takeover k s) := by
  unfold State.takeover
  repeat' first
    | (intro)
    | with_reducible assumption
    | with_reducible exact Kept.refl _ _
    | exact Eq.refl _
    | (extract_lets +onlyGivenNames x
       first
       | (have hx : Kept 8286126 s x := ?_
          clear_value x
          rotate_left
          subst x
          rotate_left)
       | clear_value x)
    | split
    | (with_reducible apply Kept.step State.takeoverPts_kept)
    | (with_reducible apply Kept.step State.installAlias_kept)
    | (with_reducible apply Kept.step State.modShadow_kept)
    | (with_reducible apply Kept.step State.announce_kept)
    | (with_reducible apply Kept.step State.handover_kept)
    | (with_reducible apply Kept.step State.raise_kept)
    | (with_reducible apply Kept.step State.bump_kept)
    | (with_reducible apply Kept.step State.wf_kept)
    | (with_reducible refine Kept.snd (by with_reducible assumption) ?_)
    | (with_reducible refine Kept.fst (by with_reducible assumption) ?_)

theorem State.takeBack_kept {s : State} : Kept 8286126 s (State.takeBack s) := by
  unfold State.takeBack
  repeat' first
    | (intro)
    | with_reducible assumption
    | with_reducible exact Kept.refl _ _
    | exact Eq.refl _
    | split
    | (with_reducible apply Kept.step State.takeoverPts_kept)
    | (with_reducible apply Kept.step State.handover_kept)
    | (with_reducible apply Kept.step State.raise_kept)
    | (with_reducible apply Kept.step State.bump_kept)
    | (with_reducible apply Kept.step State.wf_kept)
    | (with_reducible apply Kept.step State.onFab_kept)
    | (with_reducible refine Kept.snd (by with_reducible assumption) ?_)
    | (with_reducible refine Kept.fst (by with_reducible assumption) ?_)

theorem State.leaveFrame_kept {reason : Nat} {s : State} : Kept 6815918 s (State.leaveFrame reason s) := by
  unfold State.leaveFrame
  repeat' first
    | (intro)
    | with_reducible assumption
    | with_reducible exact Kept.refl _ _
    | exact Eq.refl _
    | (with_reducible apply Kept.step State.control_kept)

theorem State.startLeave_kept {reason : Nat} {s : State} : Kept 6815918 s (State.startLeave reason s) := by
  unfold State.startLeave
  repeat' first
    | (intro)
    | with_reducible assumption
    | with_reducible exact Kept.refl _ _
    | exact Eq.refl _
    | (with_reducible apply Kept.step State.leaveFrame_kept)
    | (with_reducible apply Kept.step State.replFlush_kept)
    | (with_reducible apply Kept.step State.wf_kept)
    | (with_reducible apply Kept.step State.onFab_kept)

theorem State.homeLost_kept {who : Nat} {s : State} : Kept 6833966 s (State.homeLost who s) := by
  unfold State.homeLost
  repeat' first
    | (intro)
    | with_reducible assumption
    | with_reducible exact Kept.refl _ _
    | exact Eq.refl _
    | (with_reducible apply Kept.step State.toShadow_kept)
    | (with_reducible apply Kept.step State.raise_kept)
    | (with_reducible apply Kept.step State.wf_kept)

theorem State.homeTaken_kept {who : Nat} {s : State} : Kept 6834094 s (State.homeTaken who s) := by
  unfold State.homeTaken
  repeat' first
    | (intro)
    | with_reducible assumption
    | with_reducible exact Kept.refl _ _
    | exact Eq.refl _
    | split
    | (with_reducible apply Kept.step State.homeLost_kept)
    | (with_reducible apply Kept.step State.handover_kept)
    | (with_reducible refine Kept.snd (by with_reducible assumption) ?_)
    | (with_reducible refine Kept.fst (by with_reducible assumption) ?_)

theorem State.homeChoice_kept {s : State} : Kept 8286126 s (State.homeChoice s) := by
  unfold State.homeChoice
  repeat' first
    | (intro)
    | with_reducible assumption
    | with_reducible exact Kept.refl _ _
    | exact Eq.refl _
    | split
    | (with_reducible apply Kept.step State.homeTaken_kept)
    | (with_reducible apply Kept.step State.takeUpdate_kept)
    | (with_reducible apply Kept.step State.onFab_kept)
    | (with_reducible refine Kept.fold ?_ ?_)
    | (with_reducible refine Kept.foldSnd ?_ ?_)
    | (with_reducible refine Kept.foldFst ?_ ?_)
    | (with_reducible refine Kept.snd (by with_reducible assumption) ?_)
    | (with_reducible refine Kept.fst (by with_reducible assumption) ?_)

theorem State.startReturn_kept {k : Nat} {ring : Nat} {tag : Nat} {s : State} : Kept 6815918 s (State.startReturn k ring tag s) := by
  unfold State.startReturn
  repeat' first
    | (intro)
    | with_reducible assumption
    | with_reducible exact Kept.refl _ _
    | exact Eq.refl _
    | (with_reducible apply Kept.step State.replFlush_kept)
    | (with_reducible apply Kept.step State.modShadow_kept)
    | (with_reducible apply Kept.step State.handover_kept)
    | (with_reducible apply Kept.step State.wf_kept)

theorem State.returned_kept {k : Nat} {s : State} : Kept 6834094 s (State.returned k s) := by
  unfold State.returned
  repeat' first
    | (intro)
    | with_reducible assumption
    | with_reducible exact Kept.refl _ _
    | exact Eq.refl _
    | (extract_lets +onlyGivenNames x
       first
       | (have hx : Kept 6834094 s x := ?_
          clear_value x
          rotate_left
          subst x
          rotate_left)
       | clear_value x)
    | split
    | (with_reducible apply Kept.step State.toShadow_kept)
    | (with_reducible apply Kept.step State.unalias_kept)
    | (with_reducible apply Kept.step State.modShadow_kept)
    | (with_reducible apply Kept.step State.passOn_kept)
    | (with_reducible apply Kept.step State.announce_kept)
    | (with_reducible apply Kept.step State.finishCmd_kept)
    | (with_reducible apply Kept.step State.wf_kept)
    | (with_reducible refine Kept.fold ?_ ?_)
    | (with_reducible refine Kept.foldSnd ?_ ?_)
    | (with_reducible refine Kept.foldFst ?_ ?_)
    | (with_reducible refine Kept.snd (by with_reducible assumption) ?_)
    | (with_reducible refine Kept.fst (by with_reducible assumption) ?_)

theorem State.returnFails_kept {k : Nat} {s : State} : Kept 8269742 s (State.returnFails k s) := by
  unfold State.returnFails
  repeat' first
    | (intro)
    | with_reducible assumption
    | with_reducible exact Kept.refl _ _
    | exact Eq.refl _
    | (extract_lets +onlyGivenNames x
       first
       | (have hx : Kept 8269742 s x := ?_
          clear_value x
          rotate_left
          subst x
          rotate_left)
       | clear_value x)
    | split
    | (with_reducible apply Kept.step State.modShadow_kept)
    | (with_reducible apply Kept.step State.takeUpdate_kept)
    | (with_reducible apply Kept.step State.raise_kept)
    | (with_reducible apply Kept.step State.finishCmd_kept)
    | (with_reducible apply Kept.step State.wf_kept)
    | (with_reducible refine Kept.fold ?_ ?_)
    | (with_reducible refine Kept.foldSnd ?_ ?_)
    | (with_reducible refine Kept.foldFst ?_ ?_)
    | (with_reducible refine Kept.snd (by with_reducible assumption) ?_)
    | (with_reducible refine Kept.fst (by with_reducible assumption) ?_)

theorem State.startResync_kept {k : Nat} {s : State} : Kept 6816430 s (State.startResync k s) := by
  unfold State.startResync
  repeat' first
    | (intro)
    | with_reducible assumption
    | with_reducible exact Kept.refl _ _
    | exact Eq.refl _
    | (with_reducible apply Kept.step State.replFlush_kept)
    | (with_reducible apply Kept.step State.modShadow_kept)
    | (with_reducible apply Kept.step State.replConfigTo_kept)
    | (with_reducible apply Kept.step State.replEntry_kept)
    | (with_reducible refine Kept.fold ?_ ?_)
    | (with_reducible refine Kept.foldSnd ?_ ?_)
    | (with_reducible refine Kept.foldFst ?_ ?_)

theorem State.endResync_kept {k : Nat} {s : State} : Kept 6815918 s (State.endResync k s) := by
  unfold State.endResync
  repeat' first
    | (intro)
    | with_reducible assumption
    | with_reducible exact Kept.refl _ _
    | exact Eq.refl _
    | (extract_lets +onlyGivenNames x
       first
       | (have hx : Kept 6815918 s x := ?_
          clear_value x
          rotate_left
          subst x
          rotate_left)
       | clear_value x)
    | split
    | (with_reducible apply Kept.step State.startReturn_kept)
    | (with_reducible apply Kept.step State.modShadow_kept)
    | (with_reducible apply Kept.step State.handover_kept)
    | (with_reducible refine Kept.snd (by with_reducible assumption) ?_)
    | (with_reducible refine Kept.fst (by with_reducible assumption) ?_)

theorem State.autoBack_kept {was0 : Bool} {s : State} : Kept 6815918 s (State.autoBack was0 s) := by
  unfold State.autoBack
  repeat' first
    | (intro)
    | with_reducible assumption
    | with_reducible exact Kept.refl _ _
    | exact Eq.refl _
    | split
    | (with_reducible apply Kept.step State.startReturn_kept)
    | (with_reducible refine Kept.fold ?_ ?_)
    | (with_reducible refine Kept.foldSnd ?_ ?_)
    | (with_reducible refine Kept.foldFst ?_ ?_)
    | (with_reducible refine Kept.snd (by with_reducible assumption) ?_)
    | (with_reducible refine Kept.fst (by with_reducible assumption) ?_)

theorem State.takeLeave_kept {f : Frame} {s : State} : Kept 4194438 s (State.takeLeave f s) := by
  unfold State.takeLeave
  repeat' first
    | (intro)
    | with_reducible assumption
    | with_reducible exact Kept.refl _ _
    | exact Eq.refl _
    | split
    | (with_reducible apply Kept.step State.startTaking_kept)
    | (with_reducible refine Kept.snd (by with_reducible assumption) ?_)
    | (with_reducible refine Kept.fst (by with_reducible assumption) ?_)

theorem State.takeRoute1_kept {who : Nat} {h : Nat} {withdraw : Bool} {s : State} : Kept 6834094 s (State.takeRoute1 who h withdraw s) := by
  unfold State.takeRoute1
  repeat' first
    | (intro)
    | with_reducible assumption
    | with_reducible exact Kept.refl _ _
    | exact Eq.refl _
    | (extract_lets +onlyGivenNames x
       first
       | (have hx : Kept 6834094 s x := ?_
          clear_value x
          rotate_left
          subst x
          rotate_left)
       | clear_value x)
    | split
    | (with_reducible apply Kept.step State.homeTaken_kept)
    | (with_reducible apply Kept.step State.installAlias_kept)
    | (with_reducible apply Kept.step State.unalias_kept)
    | (with_reducible refine Kept.snd (by with_reducible assumption) ?_)
    | (with_reducible refine Kept.fst (by with_reducible assumption) ?_)

theorem State.takeRoute_kept {f : Frame} {s : State} : Kept 6834094 s (State.takeRoute f s) := by
  unfold State.takeRoute
  repeat' first
    | (intro)
    | with_reducible assumption
    | with_reducible exact Kept.refl _ _
    | exact Eq.refl _
    | (with_reducible apply Kept.step State.takeRoute1_kept)
    | (with_reducible refine Kept.fold ?_ ?_)
    | (with_reducible refine Kept.foldSnd ?_ ?_)
    | (with_reducible refine Kept.foldFst ?_ ?_)

theorem State.takeHandover_kept {f : Frame} {s : State} : Kept 6834094 s (State.takeHandover f s) := by
  unfold State.takeHandover
  repeat' first
    | (intro)
    | with_reducible assumption
    | with_reducible exact Kept.refl _ _
    | exact Eq.refl _
    | (extract_lets +onlyGivenNames x
       first
       | (have hx : Kept 6834094 s x := ?_
          clear_value x
          rotate_left
          subst x
          rotate_left)
       | clear_value x)
    | split
    | (with_reducible apply Kept.step State.startResync_kept)
    | (with_reducible apply Kept.step State.returned_kept)
    | (with_reducible apply Kept.step State.homeTaken_kept)
    | (with_reducible apply Kept.step State.homeLost_kept)
    | (with_reducible apply Kept.step State.startTaking_kept)
    | (with_reducible apply Kept.step State.modShadow_kept)
    | (with_reducible apply Kept.step State.wf_kept)
    | (with_reducible apply Kept.step State.onFab_kept)
    | (with_reducible refine Kept.snd (by with_reducible assumption) ?_)
    | (with_reducible refine Kept.fst (by with_reducible assumption) ?_)

theorem State.joinFollow_kept {s : State} : Kept 4194310 s (State.joinFollow s) := by
  unfold State.joinFollow
  repeat' first
    | (intro)
    | with_reducible assumption
    | with_reducible exact Kept.refl _ _
    | exact Eq.refl _
    | (with_reducible apply Kept.step State.wf_kept)

theorem State.epochAct_kept {e : Nat} {issuer : Nat} {s : State} : Kept 6815918 s (State.epochAct e issuer s) := by
  unfold State.epochAct
  repeat' first
    | (intro)
    | with_reducible assumption
    | with_reducible exact Kept.refl _ _
    | exact Eq.refl _
    | (extract_lets +onlyGivenNames x
       first
       | (have hx : Kept 6815918 s x := ?_
          clear_value x
          rotate_left
          subst x
          rotate_left)
       | clear_value x)
    | split
    | (with_reducible apply Kept.step State.joinFollow_kept)
    | (with_reducible apply Kept.step State.dirtyMod_kept)
    | (with_reducible apply Kept.step State.raise_kept)
    | (with_reducible apply Kept.step State.bump_kept)
    | (with_reducible apply Kept.step State.wf_kept)
    | (with_reducible apply Kept.step State.onFab_kept)
    | (with_reducible refine Kept.snd (by with_reducible assumption) ?_)
    | (with_reducible refine Kept.fst (by with_reducible assumption) ?_)

theorem State.epochTake_kept {e : Nat} {issuer : Nat} {tSwitch : Nat} {s : State} : Kept 6815918 s (State.epochTake e issuer tSwitch s) := by
  unfold State.epochTake
  repeat' first
    | (intro)
    | with_reducible assumption
    | with_reducible exact Kept.refl _ _
    | exact Eq.refl _
    | split
    | (with_reducible apply Kept.step State.epochAct_kept)
    | (with_reducible apply Kept.step State.bump_kept)
    | (with_reducible apply Kept.step State.onFab_kept)
    | (with_reducible refine Kept.snd (by with_reducible assumption) ?_)
    | (with_reducible refine Kept.fst (by with_reducible assumption) ?_)

theorem State.putQuench_kept {k : Nat} {target : Nat} {mask : Nat} {dur : Nat} {id : Nat} {issuer : Nat} {valid : Bool} {s : State} : Kept 4194438 s (State.putQuench k target mask dur id issuer valid s) := by
  unfold State.putQuench
  repeat' first
    | (intro)
    | with_reducible assumption
    | with_reducible exact Kept.refl _ _
    | exact Eq.refl _
    | (with_reducible apply Kept.step State.wf_kept)
    | (with_reducible apply Kept.step State.onFab_kept)

theorem State.quenchTake_kept {target : Nat} {mask : Nat} {dur : Nat} {id : Nat} {issuer : Nat} {s : State} : Kept 6815918 s (State.quenchTake target mask dur id issuer s) := by
  have hz : True := trivial
  unfold State.quenchTake
  repeat' first
    | (intro)
    | with_reducible assumption
    | with_reducible exact Kept.refl _ _
    | exact Eq.refl _
    | (extract_lets +onlyGivenNames x
       first
       | (have hx : Kept 6815918 s x := ?_
          clear_value x
          rotate_left
          subst x
          rotate_left)
       | (have hz : ∀ y, Kept 6815918 s y → Kept 6815918 s (x y) := ?_
          clear_value x
          rotate_left
          unfold x
          clear x
          rotate_left)
       | (have hz : ∀ a y, Kept 6815918 s y → Kept 6815918 s (x a y) := ?_
          clear_value x
          rotate_left
          unfold x
          clear x
          rotate_left)
       | (have hz : ∀ a b y, Kept 6815918 s y → Kept 6815918 s (x a b y) := ?_
          clear_value x
          rotate_left
          unfold x
          clear x
          rotate_left)
       | (have hz : ∀ a b c y, Kept 6815918 s y → Kept 6815918 s (x a b c y) := ?_
          clear_value x
          rotate_left
          unfold x
          clear x
          rotate_left)
       | clear_value x)
    | split
    | (with_reducible apply Kept.step State.putQuench_kept)
    | (with_reducible apply Kept.step State.raise_kept)
    | (with_reducible apply Kept.step State.bump_kept)
    | (with_reducible refine Kept.fold ?_ ?_)
    | (with_reducible refine Kept.foldSnd ?_ ?_)
    | (with_reducible refine Kept.foldFst ?_ ?_)
    | (with_reducible refine Kept.snd (by with_reducible assumption) ?_)
    | (with_reducible refine Kept.fst (by with_reducible assumption) ?_)
    | (with_reducible apply hz)
    | (with_reducible refine Kept.call (by with_reducible assumption) ?_)
    | (with_reducible refine Kept.call1 (by with_reducible assumption) ?_)

theorem State.takeQuench_kept {f : Frame} {s : State} : Kept 6815918 s (State.takeQuench f s) := by
  unfold State.takeQuench
  repeat' first
    | (intro)
    | with_reducible assumption
    | with_reducible exact Kept.refl _ _
    | exact Eq.refl _
    | (with_reducible apply Kept.step State.quenchTake_kept)

theorem State.replReject_kept {tag : Nat} {h : Nat} {s : State} : Kept 6815790 s (State.replReject tag h s) := by
  unfold State.replReject
  repeat' first
    | (intro)
    | with_reducible assumption
    | with_reducible exact Kept.refl _ _
    | exact Eq.refl _
    | (with_reducible apply Kept.step State.raise_kept)
    | (with_reducible apply Kept.step State.bump_kept)

theorem State.replTwin_kept {tag : Nat} {b : Nat × Nat} {s : State} : Kept 6815790 s (State.replTwin tag b s) := by
  unfold State.replTwin
  repeat' first
    | (intro)
    | with_reducible assumption
    | with_reducible exact Kept.refl _ _
    | exact Eq.refl _
    | (with_reducible apply Kept.step State.twinEvent_kept)
    | (with_reducible apply Kept.step State.bump_kept)

theorem State.replConfigTake_kept {src : Nat} {tag : Nat} {del : Bool} {cfg : Nat} {recs : Nat} {nc : Nat} {s : State} : Kept 8384510 s (State.replConfigTake src tag del cfg recs nc s) := by
  unfold State.replConfigTake
  repeat' first
    | (intro)
    | with_reducible assumption
    | with_reducible exact Kept.refl _ _
    | exact Eq.refl _
    | (extract_lets +onlyGivenNames x
       first
       | (have hx : Kept 8384510 s x := ?_
          clear_value x
          rotate_left
          subst x
          rotate_left)
       | clear_value x)
    | split
    | (with_reducible apply Kept.step State.replTwin_kept)
    | (with_reducible apply Kept.step State.replReject_kept)
    | (with_reducible apply Kept.step State.shadowEnd_kept)
    | (with_reducible apply Kept.step State.shadowFor_kept)
    | (with_reducible apply Kept.step State.dropPoint_kept)
    | (with_reducible apply Kept.step State.commitPoint_kept)
    | (with_reducible apply Kept.step State.modPt_kept)
    | (with_reducible apply Kept.step State.dirtyMod_kept)
    | (with_reducible refine Kept.snd (by with_reducible assumption) ?_)
    | (with_reducible refine Kept.fst (by with_reducible assumption) ?_)

theorem State.replStateTake_kept {e : Nat} {nc : Nat} {s : State} : Kept 6816558 s (State.replStateTake e nc s) := by
  unfold State.replStateTake
  repeat' first
    | (intro)
    | with_reducible assumption
    | with_reducible exact Kept.refl _ _
    | exact Eq.refl _
    | (extract_lets +onlyGivenNames x
       first
       | (have hx : Kept 6816558 s x := ?_
          clear_value x
          rotate_left
          subst x
          rotate_left)
       | clear_value x)
    | split
    | (with_reducible apply Kept.step State.replTwin_kept)
    | (with_reducible apply Kept.step State.mirrorBits_kept)
    | (with_reducible apply Kept.step State.modCondX_kept)
    | (with_reducible apply Kept.step State.setCond_kept)
    | (with_reducible apply Kept.step State.modPx_kept)
    | (with_reducible apply Kept.step State.modPt_kept)
    | (with_reducible apply Kept.step State.bump_kept)
    | (with_reducible refine Kept.fold ?_ ?_)
    | (with_reducible refine Kept.foldSnd ?_ ?_)
    | (with_reducible refine Kept.foldFst ?_ ?_)
    | (with_reducible refine Kept.snd (by with_reducible assumption) ?_)
    | (with_reducible refine Kept.fst (by with_reducible assumption) ?_)

theorem State.replStored_kept {src : Nat} {seq : Nat} {s : State} : Kept 128 s (State.replStored src seq s) := by
  unfold State.replStored
  repeat' first
    | (intro)
    | with_reducible assumption
    | with_reducible exact Kept.refl _ _
    | exact Eq.refl _
    | split
    | (with_reducible apply Kept.step State.modShadow_kept)
    | (with_reducible apply Kept.step State.onFab_kept)
    | (with_reducible refine Kept.snd (by with_reducible assumption) ?_)
    | (with_reducible refine Kept.fst (by with_reducible assumption) ?_)

theorem State.mirrorTake_kept {m : Nat} {s0 : State} {late : Bool} {e : Nat} {sub : Nat → Nat → State → State} {s : State} (h0 : Kept m s0 s) (hm : 7079470 ||| m = m) (hf : ∀ (x0 : Nat) (x1 : Nat) (x2 : State), Kept m s0 x2 → Kept m s0 (sub x0 x1 x2)) : Kept m s0 (State.mirrorTake late e sub s) := by
  unfold State.mirrorTake
  repeat' first
    | (intro)
    | with_reducible assumption
    | with_reducible exact Kept.refl _ _
    | exact Eq.refl _
    | (with_reducible refine Kept.ofId ?_)
    | (extract_lets +onlyGivenNames x
       first
       | (have hx : Kept m s0 x := ?_
          clear_value x
          rotate_left
          subst x
          rotate_left)
       | clear_value x)
    | split
    | exact lor_sub (by rfl) hm
    | (with_reducible apply Kept.step State.causeTake_kept)
    | (with_reducible apply Kept.step State.setMir_kept)
    | (with_reducible apply Kept.step State.toSectors_kept)
    | (with_reducible apply Kept.step State.finishCmd_kept)
    | (with_reducible apply Kept.step State.onSec_kept)
    | (with_reducible apply hf)
    | (with_reducible refine Kept.snd (by with_reducible assumption) ?_)
    | (with_reducible refine Kept.fst (by with_reducible assumption) ?_)

theorem State.subscribeTake_kept {src : Nat} {e : Nat} {s : State} : Kept 6815918 s (State.subscribeTake src e s) := by
  unfold State.subscribeTake
  repeat' first
    | (intro)
    | with_reducible assumption
    | with_reducible exact Kept.refl _ _
    | exact Eq.refl _
    | (extract_lets +onlyGivenNames x
       first
       | (have hx : Kept 6815918 s x := ?_
          clear_value x
          rotate_left
          subst x
          rotate_left)
       | clear_value x)
    | split
    | (with_reducible apply Kept.step State.mirrorSend_kept)
    | (with_reducible apply Kept.step State.onFab_kept)
    | (with_reducible refine Kept.snd (by with_reducible assumption) ?_)
    | (with_reducible refine Kept.fst (by with_reducible assumption) ?_)

end Sys2Proof.Machine
end

