-- ==== Sys2Proof/Laws/KeptFrameOps.lean ====
section
/-! SUPPORT. What the operations of Machine/FrameOps.lean leave alone. -/

set_option linter.tactic.unusedName false

namespace Sys2Proof.Machine

set_option Elab.async false

theorem State.winTake_kept {f : Frame} {s : State} : Kept 128 s (State.winTake f s) := by
  unfold State.winTake
  repeat' first
    | (intro)
    | with_reducible assumption
    | with_reducible exact Kept.refl _ _
    | exact Eq.refl _
    | (with_reducible apply Kept.step State.onFab_kept)

theorem State.onNamed_kept {m : Nat} {s0 : State} {tag : Nat} {f : Nat → State → State} {s : State} (h0 : Kept m s0 s) (hm : 4194310 ||| m = m) (hf : ∀ (x0 : Nat) (x1 : State), Kept m s0 x1 → Kept m s0 (f x0 x1)) : Kept m s0 (State.onNamed tag f s) := by
  unfold State.onNamed
  repeat' first
    | (intro)
    | with_reducible assumption
    | with_reducible exact Kept.refl _ _
    | exact Eq.refl _
    | (with_reducible refine Kept.ofId ?_)
    | split
    | exact lor_sub (by rfl) hm
    | (with_reducible apply Kept.step State.bump_kept)
    | (with_reducible apply hf)
    | (with_reducible refine Kept.snd (by with_reducible assumption) ?_)
    | (with_reducible refine Kept.fst (by with_reducible assumption) ?_)

theorem State.pairMark_kept {f : Frame} {agree : Bool} {s : State} : Kept 256 s (State.pairMark f agree s) := by
  unfold State.pairMark
  repeat' first
    | (intro)
    | with_reducible assumption
    | with_reducible exact Kept.refl _ _
    | exact Eq.refl _
    | (with_reducible apply Kept.step State.requal_kept)
    | (with_reducible apply Kept.step State.modPx_kept)
    | (with_reducible refine Kept.fold ?_ ?_)
    | (with_reducible refine Kept.foldSnd ?_ ?_)
    | (with_reducible refine Kept.foldFst ?_ ?_)

theorem State.disagree_kept {f : Frame} {s : State} : Kept 6815790 s (State.disagree f s) := by
  unfold State.disagree
  repeat' first
    | (intro)
    | with_reducible assumption
    | with_reducible exact Kept.refl _ _
    | exact Eq.refl _
    | (with_reducible apply Kept.step State.raise_kept)
    | (with_reducible apply Kept.step State.bump_kept)

theorem State.ackTake_kept {tag : Nat} {slot : Nat} {s : State} : Kept 7210926 s (State.ackTake tag slot s) := by
  unfold State.ackTake
  repeat' first
    | (intro)
    | with_reducible assumption
    | with_reducible exact Kept.refl _ _
    | exact Eq.refl _
    | (with_reducible refine Kept.ofId ?_)
    | split
    | (with_reducible apply State.onNamed_kept)
    | (with_reducible apply State.inputs_kept)
    | (with_reducible apply Kept.step State.modCs_kept)
    | (with_reducible refine Kept.snd (by with_reducible assumption) ?_)
    | (with_reducible refine Kept.fst (by with_reducible assumption) ?_)

theorem State.subscribeTag_kept {tag src e : Nat} {s : State} : Kept 6815918 s (State.subscribeTag tag src e s) := by
  unfold State.subscribeTag
  repeat' first
    | (intro)
    | with_reducible assumption
    | with_reducible exact Kept.refl _ _
    | exact Eq.refl _
    | split
    | (with_reducible apply State.onNamed_kept)
    | (with_reducible apply Kept.step State.subscribeTake_kept)

theorem State.ptypeBad_kept {s : State} : Kept 4194310 s (State.ptypeBad s) := by
  unfold State.ptypeBad
  repeat' first
    | (intro)
    | with_reducible assumption
    | with_reducible exact Kept.refl _ _
    | exact Eq.refl _
    | (with_reducible apply Kept.step State.bump_kept)

theorem State.eachEntry_kept {m : Nat} {s0 : State} {l : Option (List Nat)} {g : Nat → State → State} {s : State} (h0 : Kept m s0 s) (hm : 4194310 ||| m = m) (hf : ∀ (x0 : Nat) (x1 : State), Kept m s0 x1 → Kept m s0 (g x0 x1)) : Kept m s0 (State.eachEntry l g s) := by
  unfold State.eachEntry
  repeat' first
    | (intro)
    | with_reducible assumption
    | with_reducible exact Kept.refl _ _
    | exact Eq.refl _
    | (with_reducible refine Kept.ofId ?_)
    | split
    | exact lor_sub (by rfl) hm
    | (with_reducible apply Kept.step State.ptypeBad_kept)
    | (with_reducible apply hf)
    | (with_reducible refine Kept.fold ?_ ?_)
    | (with_reducible refine Kept.foldSnd ?_ ?_)
    | (with_reducible refine Kept.foldFst ?_ ?_)
    | (with_reducible refine Kept.snd (by with_reducible assumption) ?_)
    | (with_reducible refine Kept.fst (by with_reducible assumption) ?_)

theorem State.takePayload_kept {f : Frame} {pair : Nat} {alias_ : Bool} {s : State} : Kept 8384510 s (State.takePayload f pair alias_ s) := by
  unfold State.takePayload
  repeat' first
    | (intro)
    | with_reducible assumption
    | with_reducible exact Kept.refl _ _
    | exact Eq.refl _
    | (with_reducible refine Kept.ofId ?_)
    | (extract_lets +onlyGivenNames x
       first
       | (have hx : Kept 8384510 s x := ?_
          clear_value x
          rotate_left
          subst x
          rotate_left)
       | clear_value x)
    | split
    | (with_reducible apply State.eachEntry_kept)
    | (with_reducible apply Kept.step State.ptypeBad_kept)
    | (with_reducible apply Kept.step State.ackTake_kept)
    | (with_reducible apply State.onNamed_kept)
    | (with_reducible apply Kept.step State.subscribeTag_kept)
    | (with_reducible apply State.mirrorTake_kept)
    | (with_reducible apply Kept.step State.replStored_kept)
    | (with_reducible apply Kept.step State.replStateTake_kept)
    | (with_reducible apply Kept.step State.replConfigTake_kept)
    | (with_reducible apply Kept.step State.takeQuench_kept)
    | (with_reducible apply Kept.step State.epochTake_kept)
    | (with_reducible apply Kept.step State.takeHandover_kept)
    | (with_reducible apply Kept.step State.takeRoute_kept)
    | (with_reducible apply Kept.step State.takeLeave_kept)
    | (with_reducible apply Kept.step State.subscribe_kept)
    | (with_reducible apply Kept.step State.stationEvent_kept)
    | (with_reducible apply Kept.step State.stationStatus_kept)
    | (with_reducible apply Kept.step State.outItem_kept)
    | (with_reducible apply Kept.step State.toTile_kept)
    | (with_reducible apply Kept.step State.bump_kept)
    | (with_reducible apply Kept.step State.onCmw_kept)
    | (with_reducible refine Kept.fold ?_ ?_)
    | (with_reducible refine Kept.foldSnd ?_ ?_)
    | (with_reducible refine Kept.foldFst ?_ ?_)
    | (with_reducible refine Kept.snd (by with_reducible assumption) ?_)
    | (with_reducible refine Kept.fst (by with_reducible assumption) ?_)

theorem State.taken_kept {q : QFr} {s : State} : Kept 4194694 s (State.taken q s) := by
  unfold State.taken
  repeat' first
    | (intro)
    | with_reducible assumption
    | with_reducible exact Kept.refl _ _
    | exact Eq.refl _
    | (extract_lets +onlyGivenNames x
       first
       | (have hx : Kept 4194694 s x := ?_
          clear_value x
          rotate_left
          subst x
          rotate_left)
       | clear_value x)
    | split
    | (with_reducible apply Kept.step State.released_kept)
    | (with_reducible apply Kept.step State.onPts_kept)
    | (with_reducible refine Kept.snd (by with_reducible assumption) ?_)
    | (with_reducible refine Kept.fst (by with_reducible assumption) ?_)

theorem State.deliverNow_kept {q : QFr} {pair : Nat} {s : State} : Kept 8384510 s (State.deliverNow q pair s) := by
  unfold State.deliverNow
  repeat' first
    | (intro)
    | with_reducible assumption
    | with_reducible exact Kept.refl _ _
    | exact Eq.refl _
    | (with_reducible apply Kept.step State.taken_kept)
    | (with_reducible apply Kept.step State.takePayload_kept)
    | (with_reducible apply Kept.step State.winTake_kept)

theorem State.dropPair_kept {f : Frame} {s : State} : Kept 128 s (State.dropPair f s) := by
  unfold State.dropPair
  repeat' first
    | (intro)
    | with_reducible assumption
    | with_reducible exact Kept.refl _ _
    | exact Eq.refl _
    | (with_reducible apply Kept.step State.onFab_kept)

theorem State.addPair_kept {q : QFr} {st : Nat} {s : State} : Kept 128 s (State.addPair q st s) := by
  unfold State.addPair
  repeat' first
    | (intro)
    | with_reducible assumption
    | with_reducible exact Kept.refl _ _
    | exact Eq.refl _
    | (with_reducible apply Kept.step State.onFab_kept)

theorem State.dupDrop_kept {q : QFr} {s : State} : Kept 4194438 s (State.dupDrop q s) := by
  unfold State.dupDrop
  repeat' first
    | (intro)
    | with_reducible assumption
    | with_reducible exact Kept.refl _ _
    | exact Eq.refl _
    | (with_reducible apply Kept.step State.released_kept)
    | (with_reducible apply Kept.step State.bump_kept)

theorem State.deliverDual_kept {q : QFr} {s : State} : Kept 8384510 s (State.deliverDual q s) := by
  unfold State.deliverDual
  repeat' first
    | (intro)
    | with_reducible assumption
    | with_reducible exact Kept.refl _ _
    | exact Eq.refl _
    | (extract_lets +onlyGivenNames x
       first
       | (have hx : Kept 8384510 s x := ?_
          clear_value x
          rotate_left
          subst x
          rotate_left)
       | clear_value x)
    | split
    | (with_reducible apply Kept.step State.dupDrop_kept)
    | (with_reducible apply Kept.step State.addPair_kept)
    | (with_reducible apply Kept.step State.dropPair_kept)
    | (with_reducible apply Kept.step State.deliverNow_kept)
    | (with_reducible apply Kept.step State.disagree_kept)
    | (with_reducible apply Kept.step State.pairMark_kept)
    | (with_reducible apply Kept.step State.released_kept)
    | (with_reducible apply Kept.step State.bump_kept)
    | (with_reducible refine Kept.snd (by with_reducible assumption) ?_)
    | (with_reducible refine Kept.fst (by with_reducible assumption) ?_)

theorem State.deliverSeq_kept {q : QFr} {s : State} : Kept 8384510 s (State.deliverSeq q s) := by
  unfold State.deliverSeq
  repeat' first
    | (intro)
    | with_reducible assumption
    | with_reducible exact Kept.refl _ _
    | exact Eq.refl _
    | (extract_lets +onlyGivenNames x
       first
       | (have hx : Kept 8384510 s x := ?_
          clear_value x
          rotate_left
          subst x
          rotate_left)
       | clear_value x)
    | split
    | (with_reducible apply Kept.step State.deliverDual_kept)
    | (with_reducible apply Kept.step State.dupDrop_kept)
    | (with_reducible apply Kept.step State.deliverNow_kept)
    | (with_reducible apply Kept.step State.released_kept)
    | (with_reducible apply Kept.step State.bump_kept)
    | (with_reducible refine Kept.snd (by with_reducible assumption) ?_)
    | (with_reducible refine Kept.fst (by with_reducible assumption) ?_)

theorem State.deliver_kept {q : QFr} {s : State} : Kept 8384510 s (State.deliver q s) := by
  unfold State.deliver
  repeat' first
    | (intro)
    | with_reducible assumption
    | with_reducible exact Kept.refl _ _
    | exact Eq.refl _
    | split
    | (with_reducible apply Kept.step State.deliverSeq_kept)
    | (with_reducible apply Kept.step State.ptypeBad_kept)
    | (with_reducible apply Kept.step State.released_kept)
    | (with_reducible apply Kept.step State.spendHere_kept)
    | (with_reducible refine Kept.snd (by with_reducible assumption) ?_)
    | (with_reducible refine Kept.fst (by with_reducible assumption) ?_)

theorem State.deliverBcast_kept {q : QFr} {s : State} : Kept 8384510 s (State.deliverBcast q s) := by
  unfold State.deliverBcast
  repeat' first
    | (intro)
    | with_reducible assumption
    | with_reducible exact Kept.refl _ _
    | exact Eq.refl _
    | (extract_lets +onlyGivenNames x
       first
       | (have hx : Kept 8384510 s x := ?_
          clear_value x
          rotate_left
          subst x
          rotate_left)
       | clear_value x)
    | split
    | (with_reducible apply Kept.step State.takePayload_kept)
    | (with_reducible apply Kept.step State.ptypeBad_kept)
    | (with_reducible apply Kept.step State.winTake_kept)
    | (with_reducible apply Kept.step State.flood_kept)
    | (with_reducible apply Kept.step State.released_kept)
    | (with_reducible apply Kept.step State.raiseSlow_kept)
    | (with_reducible apply Kept.step State.bump_kept)
    | (with_reducible refine Kept.snd (by with_reducible assumption) ?_)
    | (with_reducible refine Kept.fst (by with_reducible assumption) ?_)

end Sys2Proof.Machine
end

