-- ==== Sys2Proof/Laws/KeptEth.lean ====
section
/-! SUPPORT. What the operations of Machine/Eth.lean leave alone. -/

set_option linter.tactic.unusedName false

namespace Sys2Proof.Machine

set_option Elab.async false

theorem State.ethDrop_kept {s : State} : Kept 4194310 s (State.ethDrop s) := by
  unfold State.ethDrop
  repeat' first
    | (intro)
    | with_reducible assumption
    | with_reducible exact Kept.refl _ _
    | exact Eq.refl _
    | (with_reducible apply Kept.step State.bump_kept)

theorem State.ethSend_kept {p : Nat} {kind : Nat} {v : Nat} {s : State} : Kept 128 s (State.ethSend p kind v s) := by
  unfold State.ethSend
  repeat' first
    | (intro)
    | with_reducible assumption
    | with_reducible exact Kept.refl _ _
    | exact Eq.refl _
    | (with_reducible apply Kept.step State.onFab_kept)

theorem State.updDatagram_kept {v : Nat} {len : Nat} {s : State} : Kept 4194566 s (State.updDatagram v len s) := by
  unfold State.updDatagram
  repeat' first
    | (intro)
    | with_reducible assumption
    | with_reducible exact Kept.refl _ _
    | exact Eq.refl _
    | (with_reducible refine Kept.ofId ?_)
    | (extract_lets +onlyGivenNames x
       first
       | (have hx : Kept 4194566 s x := ?_
          clear_value x
          rotate_left
          subst x
          rotate_left)
       | clear_value x)
    | split
    | (with_reducible apply Kept.step State.ethDrop_kept)
    | (with_reducible apply Kept.step State.ptypeBad_kept)
    | (with_reducible apply State.onNamed_kept)
    | (with_reducible apply Kept.step State.toTile_kept)
    | (with_reducible refine Kept.fold ?_ ?_)
    | (with_reducible refine Kept.foldSnd ?_ ?_)
    | (with_reducible refine Kept.foldFst ?_ ?_)
    | (with_reducible refine Kept.snd (by with_reducible assumption) ?_)
    | (with_reducible refine Kept.fst (by with_reducible assumption) ?_)

theorem State.parseDatagram_kept {n : Nat} {v : Nat} {len : Nat} {s : State} : Kept 4194566 s (State.parseDatagram n v len s) := by
  unfold State.parseDatagram
  repeat' first
    | (intro)
    | with_reducible assumption
    | with_reducible exact Kept.refl _ _
    | exact Eq.refl _
    | (extract_lets +onlyGivenNames x
       first
       | (have hx : Kept 4194566 s x := ?_
          clear_value x
          rotate_left
          subst x
          rotate_left)
       | clear_value x)
    | split
    | (with_reducible apply Kept.step State.toTile_kept)
    | (with_reducible apply Kept.step State.bump_kept)
    | (with_reducible refine Kept.fold ?_ ?_)
    | (with_reducible refine Kept.foldSnd ?_ ?_)
    | (with_reducible refine Kept.foldFst ?_ ?_)
    | (with_reducible refine Kept.snd (by with_reducible assumption) ?_)
    | (with_reducible refine Kept.fst (by with_reducible assumption) ?_)

theorem State.svPut_kept {n : Nat} {e : SvElem} {t : Nat} {s : State} : Kept 2304 s (State.svPut n e t s) := by
  unfold State.svPut
  repeat' first
    | (intro)
    | with_reducible assumption
    | with_reducible exact Kept.refl _ _
    | exact Eq.refl _
    | split
    | (with_reducible apply Kept.step State.toTile_kept)
    | (with_reducible apply Kept.step State.onCmw_kept)
    | (with_reducible refine Kept.snd (by with_reducible assumption) ?_)
    | (with_reducible refine Kept.fst (by with_reducible assumption) ?_)

theorem State.svTake_kept {appid : Nat} {a : Asdu} {s : State} : Kept 4196614 s (State.svTake appid a s) := by
  unfold State.svTake
  repeat' first
    | (intro)
    | with_reducible assumption
    | with_reducible exact Kept.refl _ _
    | exact Eq.refl _
    | split
    | (with_reducible apply Kept.step State.svPut_kept)
    | (with_reducible apply Kept.step State.ethDrop_kept)
    | (with_reducible refine Kept.fold ?_ ?_)
    | (with_reducible refine Kept.foldSnd ?_ ?_)
    | (with_reducible refine Kept.foldFst ?_ ?_)
    | (with_reducible refine Kept.snd (by with_reducible assumption) ?_)
    | (with_reducible refine Kept.fst (by with_reducible assumption) ?_)

theorem State.ptpSynced_kept {p : Nat} {seq : Nat} {t1 : Nat} {t2 : Nat} {s : State} : Kept 7934127 s (State.ptpSynced p seq t1 t2 s) := by
  unfold State.ptpSynced
  repeat' first
    | (intro)
    | with_reducible assumption
    | with_reducible exact Kept.refl _ _
    | exact Eq.refl _
    | (extract_lets +onlyGivenNames x
       first
       | (have hx : Kept 7934127 s x := ?_
          clear_value x
          rotate_left
          subst x
          rotate_left)
       | clear_value x)
    | split
    | (with_reducible apply Kept.step State.ethSend_kept)
    | (with_reducible apply Kept.step State.timeOffset_kept)
    | (with_reducible apply Kept.step State.onFab_kept)
    | (with_reducible refine Kept.snd (by with_reducible assumption) ?_)
    | (with_reducible refine Kept.fst (by with_reducible assumption) ?_)

theorem State.ptpSlave_kept {p : Nat} {m : PtpMsg} {s : State} : Kept 7934127 s (State.ptpSlave p m s) := by
  unfold State.ptpSlave
  repeat' first
    | (intro)
    | with_reducible assumption
    | with_reducible exact Kept.refl _ _
    | exact Eq.refl _
    | (extract_lets +onlyGivenNames x
       first
       | (have hx : Kept 7934127 s x := ?_
          clear_value x
          rotate_left
          subst x
          rotate_left)
       | clear_value x)
    | split
    | (with_reducible apply Kept.step State.ptpSynced_kept)
    | (with_reducible apply Kept.step State.takeUtc_kept)
    | (with_reducible apply Kept.step State.onFab_kept)
    | (with_reducible refine Kept.snd (by with_reducible assumption) ?_)
    | (with_reducible refine Kept.fst (by with_reducible assumption) ?_)

theorem State.takePtp_kept {p : Nat} {m : PtpMsg} {s : State} : Kept 7934127 s (State.takePtp p m s) := by
  unfold State.takePtp
  repeat' first
    | (intro)
    | with_reducible assumption
    | with_reducible exact Kept.refl _ _
    | exact Eq.refl _
    | split
    | (with_reducible apply Kept.step State.ptpSlave_kept)
    | (with_reducible apply Kept.step State.ethSend_kept)
    | (with_reducible refine Kept.snd (by with_reducible assumption) ?_)
    | (with_reducible refine Kept.fst (by with_reducible assumption) ?_)

theorem State.ethTake_kept {p : Nat} {f : EthFrame} {s : State} : Kept 7936431 s (State.ethTake p f s) := by
  unfold State.ethTake
  repeat' first
    | (intro)
    | with_reducible assumption
    | with_reducible exact Kept.refl _ _
    | exact Eq.refl _
    | (extract_lets +onlyGivenNames x
       first
       | (have hx : Kept 7936431 s x := ?_
          clear_value x
          rotate_left
          subst x
          rotate_left)
       | clear_value x)
    | split
    | (with_reducible apply Kept.step State.takePtp_kept)
    | (with_reducible apply Kept.step State.svTake_kept)
    | (with_reducible apply Kept.step State.parseDatagram_kept)
    | (with_reducible apply Kept.step State.updDatagram_kept)
    | (with_reducible apply Kept.step State.ethSend_kept)
    | (with_reducible apply Kept.step State.ethDrop_kept)
    | (with_reducible refine Kept.fold ?_ ?_)
    | (with_reducible refine Kept.foldSnd ?_ ?_)
    | (with_reducible refine Kept.foldFst ?_ ?_)
    | (with_reducible refine Kept.snd (by with_reducible assumption) ?_)
    | (with_reducible refine Kept.fst (by with_reducible assumption) ?_)

theorem State.ethHeld_kept {p : Nat} {f : EthFrame} {l : List Nat} {s : State} : Kept 256 s (State.ethHeld p f l s) := by
  unfold State.ethHeld
  repeat' first
    | (intro)
    | with_reducible assumption
    | with_reducible exact Kept.refl _ _
    | exact Eq.refl _
    | (extract_lets +onlyGivenNames x
       first
       | (have hx : Kept 256 s x := ?_
          clear_value x
          rotate_left
          subst x
          rotate_left)
       | (have hx : Kept 256 s x.2 := ?_
          clear_value x
          rotate_left
          subst x
          rotate_left)
       | (have hx : Kept 256 s x.1 := ?_
          clear_value x
          rotate_left
          subst x
          rotate_left)
       | clear_value x)
    | split
    | (with_reducible apply Kept.step State.onPts_kept)
    | (with_reducible refine Kept.snd (by with_reducible assumption) ?_)
    | (with_reducible refine Kept.fst (by with_reducible assumption) ?_)

theorem execEthFrameReceive_kept {t : Nat} {port : Nat} {f : EthFrame} {s : State} : KeptO 7937535 s (execEthFrameReceive t port f s) := by
  unfold execEthFrameReceive
  repeat' first
    | (intro)
    | with_reducible assumption
    | with_reducible exact Kept.refl _ _
    | exact Eq.refl _
    | (extract_lets +onlyGivenNames x
       first
       | (have hx : Kept 7937535 s x := ?_
          clear_value x
          rotate_left
          subst x
          rotate_left)
       | clear_value x)
    | split
    | (with_reducible refine KeptO.next ?_)
    | (with_reducible apply Kept.step State.ethHeld_kept)
    | (with_reducible apply Kept.step State.ethTake_kept)
    | (with_reducible apply Kept.step State.ethDrop_kept)
    | (with_reducible apply KeptO.lift State.done_kept)
    | (with_reducible apply Kept.step State.at__kept)
    | (with_reducible refine Kept.snd (by with_reducible assumption) ?_)
    | (with_reducible refine Kept.fst (by with_reducible assumption) ?_)

theorem execPtpMasterSend_kept {t : Nat} {port : Nat} {s : State} : KeptO 7865849 s (execPtpMasterSend t port s) := by
  unfold execPtpMasterSend
  repeat' first
    | (intro)
    | with_reducible assumption
    | with_reducible exact Kept.refl _ _
    | exact Eq.refl _
    | (extract_lets +onlyGivenNames x
       first
       | (have hx : Kept 7865849 s x := ?_
          clear_value x
          rotate_left
          subst x
          rotate_left)
       | clear_value x)
    | split
    | (with_reducible refine KeptO.next ?_)
    | (with_reducible apply Kept.step State.ethSend_kept)
    | (with_reducible apply KeptO.lift State.done_kept)
    | (with_reducible apply Kept.step State.at__kept)
    | (with_reducible apply Kept.step State.onFab_kept)
    | (with_reducible refine Kept.snd (by with_reducible assumption) ?_)
    | (with_reducible refine Kept.fst (by with_reducible assumption) ?_)

end Sys2Proof.Machine
end

