-- ==== Sys2Proof/Laws/KeptFrames.lean ====
section
/-! SUPPORT. What the operations of Machine/Frames.lean leave alone. -/

set_option linter.tactic.unusedName false

namespace Sys2Proof.Machine

set_option Elab.async false

theorem State.cutThrough_kept {q : QFr} {e : Nat} {s : State} : Kept 7864494 s (State.cutThrough q e s) := by
  unfold State.cutThrough
  repeat' first
    | (intro)
    | with_reducible assumption
    | with_reducible exact Kept.refl _ _
    | exact Eq.refl _
    | (with_reducible apply Kept.step State.transmit_kept)
    | (with_reducible apply Kept.step State.fresh_kept)

theorem State.route_kept {q : QFr} {s : State} : Kept 8388607 s (State.route q s) := by
  unfold State.route
  repeat' first
    | (intro)
    | with_reducible assumption
    | with_reducible exact Kept.refl _ _
    | exact Eq.refl _
    | (extract_lets +onlyGivenNames x
       first
       | (have hx : Kept 8388607 s x := ?_
          clear_value x
          rotate_left
          subst x
          rotate_left)
       | clear_value x)
    | split
    | (with_reducible apply Kept.step State.cutThrough_kept)
    | (with_reducible apply Kept.step State.deliverBcast_kept)
    | (with_reducible apply Kept.step State.deliver_kept)
    | (with_reducible apply Kept.step State.takeSync_kept)
    | (with_reducible apply Kept.step State.forward_kept)
    | (with_reducible apply Kept.step State.released_kept)
    | (with_reducible apply Kept.step State.raiseSlow_kept)
    | (with_reducible apply Kept.step State.bump_kept)
    | (with_reducible refine Kept.snd (by with_reducible assumption) ?_)
    | (with_reducible refine Kept.fst (by with_reducible assumption) ?_)

theorem State.receiveFrame_kept {p : Nat} {kind : Nat} {lseq : Nat} {plen : Nat} {f : Frame} {s : State} : Kept 8388607 s (State.receiveFrame p kind lseq plen f s) := by
  have hz : True := trivial
  unfold State.receiveFrame
  repeat' first
    | (intro)
    | with_reducible assumption
    | with_reducible exact Kept.refl _ _
    | exact Eq.refl _
    | (extract_lets +onlyGivenNames x
       first
       | (have hx : Kept 8388607 s x := ?_
          clear_value x
          rotate_left
          subst x
          rotate_left)
       | (have hz : ∀ y, Kept 8388607 s y → Kept 8388607 s (x y) := ?_
          clear_value x
          rotate_left
          unfold x
          clear x
          rotate_left)
       | (have hz : ∀ a y, Kept 8388607 s y → Kept 8388607 s (x a y) := ?_
          clear_value x
          rotate_left
          unfold x
          clear x
          rotate_left)
       | (have hz : ∀ a b y, Kept 8388607 s y → Kept 8388607 s (x a b y) := ?_
          clear_value x
          rotate_left
          unfold x
          clear x
          rotate_left)
       | (have hz : ∀ a b c y, Kept 8388607 s y → Kept 8388607 s (x a b c y) := ?_
          clear_value x
          rotate_left
          unfold x
          clear x
          rotate_left)
       | clear_value x)
    | split
    | (with_reducible apply Kept.step State.route_kept)
    | (with_reducible apply Kept.step State.cutThrough_kept)
    | (with_reducible apply Kept.step State.askAgain_kept)
    | (with_reducible apply Kept.step State.freeCoins_kept)
    | (with_reducible apply Kept.step State.modPort_kept)
    | (with_reducible apply Kept.step State.bump_kept)
    | (with_reducible refine Kept.snd (by with_reducible assumption) ?_)
    | (with_reducible refine Kept.fst (by with_reducible assumption) ?_)
    | (with_reducible apply hz)
    | (with_reducible refine Kept.call (by with_reducible assumption) ?_)
    | (with_reducible refine Kept.call1 (by with_reducible assumption) ?_)

theorem execFrameReceive_kept {t : Nat} {port : Nat} {kind : Nat} {lseq : Nat} {plen : Nat} {f : Frame} {hcrc : Nat} {fcs : Nat} {s : State} : KeptO 8388607 s (execFrameReceive t port kind lseq plen f hcrc fcs s) := by
  unfold execFrameReceive
  repeat' first
    | (intro)
    | with_reducible assumption
    | with_reducible exact Kept.refl _ _
    | exact Eq.refl _
    | (extract_lets +onlyGivenNames x
       first
       | (have hx : Kept 8388607 s x := ?_
          clear_value x
          rotate_left
          subst x
          rotate_left)
       | clear_value x)
    | split
    | (with_reducible refine KeptO.next ?_)
    | (with_reducible apply Kept.step State.receiveFrame_kept)
    | (with_reducible apply KeptO.lift State.done_kept)
    | (with_reducible apply Kept.step State.at__kept)
    | (with_reducible refine Kept.snd (by with_reducible assumption) ?_)
    | (with_reducible refine Kept.fst (by with_reducible assumption) ?_)

theorem execEgressSend_kept {t : Nat} {port : Nat} {s : State} : KeptO 7865855 s (execEgressSend t port s) := by
  unfold execEgressSend
  repeat' first
    | (intro)
    | with_reducible assumption
    | with_reducible exact Kept.refl _ _
    | exact Eq.refl _
    | (extract_lets +onlyGivenNames x
       first
       | (have hx : Kept 7865855 s x := ?_
          clear_value x
          rotate_left
          subst x
          rotate_left)
       | clear_value x)
    | split
    | (with_reducible refine KeptO.next ?_)
    | (with_reducible apply Kept.step State.egressNext_kept)
    | (with_reducible apply Kept.step State.poolServe_kept)
    | (with_reducible apply KeptO.lift State.done_kept)
    | (with_reducible apply Kept.step State.at__kept)
    | (with_reducible refine Kept.snd (by with_reducible assumption) ?_)
    | (with_reducible refine Kept.fst (by with_reducible assumption) ?_)

theorem execPairWaitExpire_kept {t : Nat} {s : State} : KeptO 8384511 s (execPairWaitExpire t s) := by
  unfold execPairWaitExpire
  repeat' first
    | (intro)
    | with_reducible assumption
    | with_reducible exact Kept.refl _ _
    | exact Eq.refl _
    | (extract_lets +onlyGivenNames x
       first
       | (have hx : Kept 8384511 s x := ?_
          clear_value x
          rotate_left
          subst x
          rotate_left)
       | clear_value x)
    | split
    | (with_reducible refine KeptO.next ?_)
    | (with_reducible apply Kept.step State.deliverNow_kept)
    | (with_reducible apply KeptO.lift State.done_kept)
    | (with_reducible apply Kept.step State.at__kept)
    | (with_reducible apply Kept.step State.bump_kept)
    | (with_reducible apply Kept.step State.onFab_kept)
    | (with_reducible refine Kept.snd (by with_reducible assumption) ?_)
    | (with_reducible refine Kept.fst (by with_reducible assumption) ?_)

theorem execRerouteWaitExpire_kept {t : Nat} {s : State} : KeptO 7865855 s (execRerouteWaitExpire t s) := by
  unfold execRerouteWaitExpire
  repeat' first
    | (intro)
    | with_reducible assumption
    | with_reducible exact Kept.refl _ _
    | exact Eq.refl _
    | (extract_lets +onlyGivenNames x
       first
       | (have hx : Kept 7865855 s x := ?_
          clear_value x
          rotate_left
          subst x
          rotate_left)
       | clear_value x)
    | split
    | (with_reducible refine KeptO.next ?_)
    | (with_reducible apply Kept.step State.dataDone_kept)
    | (with_reducible apply Kept.step State.released_kept)
    | (with_reducible apply Kept.step State.raiseSlow_kept)
    | (with_reducible apply KeptO.lift State.done_kept)
    | (with_reducible apply Kept.step State.at__kept)
    | (with_reducible apply Kept.step State.bump_kept)
    | (with_reducible apply Kept.step State.onFab_kept)
    | (with_reducible refine Kept.snd (by with_reducible assumption) ?_)
    | (with_reducible refine Kept.fst (by with_reducible assumption) ?_)

theorem execDataInSend_kept {t : Nat} {ring : Nat} {data : Nat} {dmaErr : Bool} {s : State} : KeptO 7865855 s (execDataInSend t ring data dmaErr s) := by
  unfold execDataInSend
  repeat' first
    | (intro)
    | with_reducible assumption
    | with_reducible exact Kept.refl _ _
    | exact Eq.refl _
    | (extract_lets +onlyGivenNames x
       first
       | (have hx : Kept 7865855 s x := ?_
          clear_value x
          rotate_left
          subst x
          rotate_left)
       | clear_value x)
    | split
    | (with_reducible refine KeptO.next ?_)
    | (with_reducible apply Kept.step State.originate_kept)
    | (with_reducible apply KeptO.lift State.done_kept)
    | (with_reducible apply Kept.step State.denied_kept)
    | (with_reducible apply Kept.step State.complete_kept)
    | (with_reducible apply Kept.step State.at__kept)
    | (with_reducible apply Kept.step State.bump_kept)
    | (with_reducible apply Kept.step (State.onHif_kept' ?_))
    | (with_reducible refine Kept.snd (by with_reducible assumption) ?_)
    | (with_reducible refine Kept.fst (by with_reducible assumption) ?_)

end Sys2Proof.Machine
end

