-- ==== Sys2Proof/Laws/KeptHistorian.lean ====
section
/-! SUPPORT. What the operations of Machine/Historian.lean leave alone. -/

set_option linter.tactic.unusedName false

namespace Sys2Proof.Machine

set_option Elab.async false

theorem State.hstGauges_kept {s : State} : Kept 4194310 s (State.hstGauges s) := by
  unfold State.hstGauges
  repeat' first
    | (intro)
    | with_reducible assumption
    | with_reducible exact Kept.refl _ _
    | exact Eq.refl _
    | (with_reducible apply Kept.step State.wf_kept)
    | (with_reducible refine Kept.fold ?_ ?_)
    | (with_reducible refine Kept.foldSnd ?_ ?_)
    | (with_reducible refine Kept.foldFst ?_ ?_)

theorem State.nvDone_kept {n : Nat} {s : State} : Kept 64 s (State.nvDone n s) := by
  unfold State.nvDone
  repeat' first
    | (intro)
    | with_reducible assumption
    | with_reducible exact Kept.refl _ _
    | exact Eq.refl _
    | split
    | (with_reducible apply Kept.step State.onHst_kept)
    | (with_reducible refine Kept.snd (by with_reducible assumption) ?_)
    | (with_reducible refine Kept.fst (by with_reducible assumption) ?_)

theorem State.nvDrop_kept {p : NvCmd → Bool} {s : State} : Kept 6291560 s (State.nvDrop p s) := by
  unfold State.nvDrop
  repeat' first
    | (intro)
    | with_reducible assumption
    | with_reducible exact Kept.refl _ _
    | exact Eq.refl _
    | (with_reducible apply Kept.step State.flushWritten_kept)
    | (with_reducible apply Kept.step State.onHst_kept)
    | (with_reducible refine Kept.fold ?_ ?_)
    | (with_reducible refine Kept.foldSnd ?_ ?_)
    | (with_reducible refine Kept.foldFst ?_ ?_)

theorem State.readEnd_kept {c : NvCmd} {seg : Option Nat} {s : State} : Kept 15204462 s (State.readEnd c seg s) := by
  unfold State.readEnd
  repeat' first
    | (intro)
    | with_reducible assumption
    | with_reducible exact Kept.refl _ _
    | exact Eq.refl _
    | (extract_lets +onlyGivenNames x
       first
       | (have hx : Kept 15204462 s x := ?_
          clear_value x
          rotate_left
          subst x
          rotate_left)
       | clear_value x)
    | split
    | (with_reducible apply Kept.step State.levelA_kept)
    | (with_reducible apply Kept.step State.raise_kept)
    | (with_reducible apply Kept.step State.finishCmd_kept)
    | (with_reducible apply Kept.step State.hostPut_kept)
    | (with_reducible apply Kept.step State.bump_kept)
    | (with_reducible apply Kept.step State.onHst_kept)
    | (with_reducible refine Kept.snd (by with_reducible assumption) ?_)
    | (with_reducible refine Kept.fst (by with_reducible assumption) ?_)

theorem State.volFull_kept {v : Nat} {s : State} : Kept 6817918 s (State.volFull v s) := by
  unfold State.volFull
  repeat' first
    | (intro)
    | with_reducible assumption
    | with_reducible exact Kept.refl _ _
    | exact Eq.refl _
    | split
    | (with_reducible apply Kept.step State.capEnd_kept)
    | (with_reducible apply Kept.step State.rotate_kept)
    | (with_reducible apply Kept.step State.raise_kept)
    | (with_reducible apply Kept.step State.wf_kept)
    | (with_reducible refine Kept.fold ?_ ?_)
    | (with_reducible refine Kept.foldSnd ?_ ?_)
    | (with_reducible refine Kept.foldFst ?_ ?_)
    | (with_reducible refine Kept.snd (by with_reducible assumption) ?_)
    | (with_reducible refine Kept.fst (by with_reducible assumption) ?_)

theorem State.writePtr_kept {v : Nat} {p : Nat} {s : State} : Kept 6817918 s (State.writePtr v p s) := by
  unfold State.writePtr
  repeat' first
    | (intro)
    | with_reducible assumption
    | with_reducible exact Kept.refl _ _
    | exact Eq.refl _
    | (with_reducible apply Kept.step State.volFull_kept)
    | (with_reducible apply Kept.step State.wf_kept)
    | (with_reducible apply Kept.step State.onHst_kept)

theorem State.mountSegs_kept {v : Nat} {a1 : List (Option Nat × Option Nat)} {a2 : State} : Kept 6817918 a2 (State.mountSegs v a1 a2) := by
  induction a1 generalizing a2 with
  | nil =>
    have hz : True := trivial
    unfold State.mountSegs
    repeat' first
      | (intro)
      | with_reducible assumption
      | with_reducible exact Kept.refl _ _
      | exact Eq.refl _
      | (extract_lets +onlyGivenNames x
         first
         | (have hx : Kept 6817918 a2 x := ?_
            clear_value x
            rotate_left
            subst x
            rotate_left)
         | (have hz : ∀ y, Kept 6817918 a2 y → Kept 6817918 a2 (x y) := ?_
            clear_value x
            rotate_left
            unfold x
            clear x
            rotate_left)
         | (have hz : ∀ a y, Kept 6817918 a2 y → Kept 6817918 a2 (x a y) := ?_
            clear_value x
            rotate_left
            unfold x
            clear x
            rotate_left)
         | (have hz : ∀ a b y, Kept 6817918 a2 y → Kept 6817918 a2 (x a b y) := ?_
            clear_value x
            rotate_left
            unfold x
            clear x
            rotate_left)
         | (have hz : ∀ a b c y, Kept 6817918 a2 y → Kept 6817918 a2 (x a b c y) := ?_
            clear_value x
            rotate_left
            unfold x
            clear x
            rotate_left)
         | clear_value x)
      | split
      | (with_reducible apply Kept.step State.writePtr_kept)
      | (with_reducible apply Kept.step State.nvAdd_kept)
      | (with_reducible apply Kept.step State.bump_kept)
      | (with_reducible apply Kept.step ih)
      | (with_reducible refine Kept.snd (by with_reducible assumption) ?_)
      | (with_reducible refine Kept.fst (by with_reducible assumption) ?_)
      | (with_reducible apply hz)
      | (with_reducible refine Kept.call (by with_reducible assumption) ?_)
      | (with_reducible refine Kept.call1 (by with_reducible assumption) ?_)

  | cons e es ih =>
    have hz : True := trivial
    unfold State.mountSegs
    repeat' first
      | (intro)
      | with_reducible assumption
      | with_reducible exact Kept.refl _ _
      | exact Eq.refl _
      | (extract_lets +onlyGivenNames x
         first
         | (have hx : Kept 6817918 a2 x := ?_
            clear_value x
            rotate_left
            subst x
            rotate_left)
         | (have hz : ∀ y, Kept 6817918 a2 y → Kept 6817918 a2 (x y) := ?_
            clear_value x
            rotate_left
            unfold x
            clear x
            rotate_left)
         | (have hz : ∀ a y, Kept 6817918 a2 y → Kept 6817918 a2 (x a y) := ?_
            clear_value x
            rotate_left
            unfold x
            clear x
            rotate_left)
         | (have hz : ∀ a b y, Kept 6817918 a2 y → Kept 6817918 a2 (x a b y) := ?_
            clear_value x
            rotate_left
            unfold x
            clear x
            rotate_left)
         | (have hz : ∀ a b c y, Kept 6817918 a2 y → Kept 6817918 a2 (x a b c y) := ?_
            clear_value x
            rotate_left
            unfold x
            clear x
            rotate_left)
         | clear_value x)
      | split
      | (with_reducible apply Kept.step State.writePtr_kept)
      | (with_reducible apply Kept.step State.nvAdd_kept)
      | (with_reducible apply Kept.step State.bump_kept)
      | (with_reducible apply Kept.step ih)
      | (with_reducible refine Kept.snd (by with_reducible assumption) ?_)
      | (with_reducible refine Kept.fst (by with_reducible assumption) ?_)
      | (with_reducible apply hz)
      | (with_reducible refine Kept.call (by with_reducible assumption) ?_)
      | (with_reducible refine Kept.call1 (by with_reducible assumption) ?_)

theorem State.hstReady_kept {s : State} : Kept 6815790 s (State.hstReady s) := by
  unfold State.hstReady
  repeat' first
    | (intro)
    | with_reducible assumption
    | with_reducible exact Kept.refl _ _
    | exact Eq.refl _
    | (extract_lets +onlyGivenNames x
       first
       | (have hx : Kept 6815790 s x := ?_
          clear_value x
          rotate_left
          subst x
          rotate_left)
       | clear_value x)
    | split
    | (with_reducible apply Kept.step State.setReady_kept)
    | (with_reducible refine Kept.snd (by with_reducible assumption) ?_)
    | (with_reducible refine Kept.fst (by with_reducible assumption) ?_)

theorem State.remounted_kept {v : Nat} {ok : Bool} {s : State} : Kept 6291528 s (State.remounted v ok s) := by
  unfold State.remounted
  repeat' first
    | (intro)
    | with_reducible assumption
    | with_reducible exact Kept.refl _ _
    | exact Eq.refl _
    | (extract_lets +onlyGivenNames x
       first
       | (have hx : Kept 6291528 s x := ?_
          clear_value x
          rotate_left
          subst x
          rotate_left)
       | clear_value x)
    | split
    | (with_reducible apply Kept.step State.finishCmd_kept)
    | (with_reducible apply Kept.step State.onHst_kept)
    | (with_reducible refine Kept.snd (by with_reducible assumption) ?_)
    | (with_reducible refine Kept.fst (by with_reducible assumption) ?_)

theorem State.copyStep_kept {v : Nat} {s : State} : Kept 64 s (State.copyStep v s) := by
  unfold State.copyStep
  repeat' first
    | (intro)
    | with_reducible assumption
    | with_reducible exact Kept.refl _ _
    | exact Eq.refl _
    | split
    | (with_reducible apply Kept.step State.nvAdd_kept)
    | (with_reducible refine Kept.snd (by with_reducible assumption) ?_)
    | (with_reducible refine Kept.fst (by with_reducible assumption) ?_)

theorem State.copyPut_kept {c : NvCmd} {seg : Nat} {s : State} : Kept 64 s (State.copyPut c seg s) := by
  unfold State.copyPut
  repeat' first
    | (intro)
    | with_reducible assumption
    | with_reducible exact Kept.refl _ _
    | exact Eq.refl _
    | split
    | (with_reducible apply Kept.step State.nvAdd_kept)
    | (with_reducible refine Kept.snd (by with_reducible assumption) ?_)
    | (with_reducible refine Kept.fst (by with_reducible assumption) ?_)

theorem State.deallocate_kept {v : Nat} {s : State} : Kept 64 s (State.deallocate v s) := by
  unfold State.deallocate
  repeat' first
    | (intro)
    | with_reducible assumption
    | with_reducible exact Kept.refl _ _
    | exact Eq.refl _
    | (with_reducible apply Kept.step State.nvAdd_kept)
    | (with_reducible refine Kept.fold ?_ ?_)
    | (with_reducible refine Kept.foldSnd ?_ ?_)
    | (with_reducible refine Kept.foldFst ?_ ?_)

theorem State.mountVol_kept {v : Nat} {segs : List (Option Nat × Option Nat)} {s : State} : Kept 6817918 s (State.mountVol v segs s) := by
  unfold State.mountVol
  repeat' first
    | (intro)
    | with_reducible assumption
    | with_reducible exact Kept.refl _ _
    | exact Eq.refl _
    | split
    | (with_reducible apply Kept.step State.copyStep_kept)
    | (with_reducible apply Kept.step State.remounted_kept)
    | (with_reducible apply Kept.step State.mountSegs_kept)
    | (with_reducible apply Kept.step State.hstGauges_kept)
    | (with_reducible apply Kept.step State.modVol_kept)
    | (with_reducible apply Kept.step State.wf_kept)
    | (with_reducible refine Kept.snd (by with_reducible assumption) ?_)
    | (with_reducible refine Kept.fst (by with_reducible assumption) ?_)

theorem State.volFail_kept {v : Nat} {ctrlr : Nat} {s : State} : Kept 6817918 s (State.volFail v ctrlr s) := by
  unfold State.volFail
  repeat' first
    | (intro)
    | with_reducible assumption
    | with_reducible exact Kept.refl _ _
    | exact Eq.refl _
    | (with_reducible apply Kept.step State.remounted_kept)
    | (with_reducible apply Kept.step State.capEnd_kept)
    | (with_reducible apply Kept.step State.flushBack_kept)
    | (with_reducible apply Kept.step State.rotate_kept)
    | (with_reducible apply Kept.step State.modVol_kept)
    | (with_reducible apply Kept.step State.raise_kept)
    | (with_reducible apply Kept.step State.wf_kept)
    | (with_reducible apply Kept.step State.onHst_kept)
    | (with_reducible refine Kept.fold ?_ ?_)
    | (with_reducible refine Kept.foldSnd ?_ ?_)
    | (with_reducible refine Kept.foldFst ?_ ?_)

theorem State.trailerDone_kept {c : NvCmd} {s : State} : Kept 6817918 s (State.trailerDone c s) := by
  unfold State.trailerDone
  repeat' first
    | (intro)
    | with_reducible assumption
    | with_reducible exact Kept.refl _ _
    | exact Eq.refl _
    | split
    | (with_reducible apply Kept.step State.writePtr_kept)
    | (with_reducible refine Kept.snd (by with_reducible assumption) ?_)
    | (with_reducible refine Kept.fst (by with_reducible assumption) ?_)

theorem State.legLost_kept {v : Nat} {leg : Nat} {ctrlr : Nat} {s : State} : Kept 6817918 s (State.legLost v leg ctrlr s) := by
  unfold State.legLost
  repeat' first
    | (intro)
    | with_reducible assumption
    | with_reducible exact Kept.refl _ _
    | exact Eq.refl _
    | (extract_lets +onlyGivenNames x
       first
       | (have hx : Kept 6817918 s x := ?_
          clear_value x
          rotate_left
          subst x
          rotate_left)
       | clear_value x)
    | split
    | (with_reducible apply Kept.step State.trailerDone_kept)
    | (with_reducible apply Kept.step State.volFail_kept)
    | (with_reducible apply Kept.step State.nvDrop_kept)
    | (with_reducible apply Kept.step State.modVol_kept)
    | (with_reducible apply Kept.step State.raise_kept)
    | (with_reducible apply Kept.step State.bump_kept)
    | (with_reducible apply Kept.step State.wf_kept)
    | (with_reducible refine Kept.fold ?_ ?_)
    | (with_reducible refine Kept.foldSnd ?_ ?_)
    | (with_reducible refine Kept.foldFst ?_ ?_)
    | (with_reducible refine Kept.snd (by with_reducible assumption) ?_)
    | (with_reducible refine Kept.fst (by with_reducible assumption) ?_)

theorem State.readsLost_kept {a0 : Nat} {a1 : Nat} {a2 : State} : Kept 15204462 a2 (State.readsLost a0 a1 a2) := by
  induction a0 generalizing a1 a2 with
  | zero =>
    unfold State.readsLost
    repeat' first
      | (intro)
      | with_reducible assumption
      | with_reducible exact Kept.refl _ _
      | exact Eq.refl _
      | split
      | (with_reducible apply Kept.step State.readEnd_kept)
      | (with_reducible apply Kept.step State.nvDone_kept)
      | (with_reducible apply Kept.step ih)
      | (with_reducible refine Kept.snd (by with_reducible assumption) ?_)
      | (with_reducible refine Kept.fst (by with_reducible assumption) ?_)

  | succ n ih =>
    unfold State.readsLost
    repeat' first
      | (intro)
      | with_reducible assumption
      | with_reducible exact Kept.refl _ _
      | exact Eq.refl _
      | split
      | (with_reducible apply Kept.step State.readEnd_kept)
      | (with_reducible apply Kept.step State.nvDone_kept)
      | (with_reducible apply Kept.step ih)
      | (with_reducible refine Kept.snd (by with_reducible assumption) ?_)
      | (with_reducible refine Kept.fst (by with_reducible assumption) ?_)

theorem State.ctrlrFail_kept {n : Nat} {s : State} : Kept 15206526 s (State.ctrlrFail n s) := by
  unfold State.ctrlrFail
  repeat' first
    | (intro)
    | with_reducible assumption
    | with_reducible exact Kept.refl _ _
    | exact Eq.refl _
    | split
    | (with_reducible apply Kept.step State.readsLost_kept)
    | (with_reducible apply Kept.step State.legLost_kept)
    | (with_reducible apply Kept.step State.hstReady_kept)
    | (with_reducible apply Kept.step State.nvDrop_kept)
    | (with_reducible apply Kept.step State.hstGauges_kept)
    | (with_reducible apply Kept.step State.wf_kept)
    | (with_reducible apply Kept.step State.onHst_kept)
    | (with_reducible refine Kept.fold ?_ ?_)
    | (with_reducible refine Kept.foldSnd ?_ ?_)
    | (with_reducible refine Kept.foldFst ?_ ?_)
    | (with_reducible refine Kept.snd (by with_reducible assumption) ?_)
    | (with_reducible refine Kept.fst (by with_reducible assumption) ?_)

theorem State.cmdFailed_kept {n : Nat} {s : State} : Kept 15206526 s (State.cmdFailed n s) := by
  unfold State.cmdFailed
  repeat' first
    | (intro)
    | with_reducible assumption
    | with_reducible exact Kept.refl _ _
    | exact Eq.refl _
    | (extract_lets +onlyGivenNames x
       first
       | (have hx : Kept 15206526 s x := ?_
          clear_value x
          rotate_left
          subst x
          rotate_left)
       | clear_value x)
    | split
    | (with_reducible apply Kept.step State.ctrlrFail_kept)
    | (with_reducible apply Kept.step State.onHst_kept)
    | (with_reducible refine Kept.snd (by with_reducible assumption) ?_)
    | (with_reducible refine Kept.fst (by with_reducible assumption) ?_)

theorem State.nvFailed_kept {k : Nat} {c : NvCmd} {s : State} : Kept 15206526 s (State.nvFailed k c s) := by
  unfold State.nvFailed
  repeat' first
    | (intro)
    | with_reducible assumption
    | with_reducible exact Kept.refl _ _
    | exact Eq.refl _
    | split
    | (with_reducible apply Kept.step State.cmdFailed_kept)
    | (with_reducible apply Kept.step State.readEnd_kept)
    | (with_reducible apply Kept.step State.nvDone_kept)
    | (with_reducible apply Kept.step State.onHst_kept)
    | (with_reducible refine Kept.snd (by with_reducible assumption) ?_)
    | (with_reducible refine Kept.fst (by with_reducible assumption) ?_)

theorem State.deallocated_kept {v : Nat} {s : State} : Kept 6817918 s (State.deallocated v s) := by
  unfold State.deallocated
  repeat' first
    | (intro)
    | with_reducible assumption
    | with_reducible exact Kept.refl _ _
    | exact Eq.refl _
    | split
    | (with_reducible apply Kept.step State.legLost_kept)
    | (with_reducible apply Kept.step State.modVol_kept)
    | (with_reducible apply Kept.step State.raise_kept)
    | (with_reducible apply Kept.step State.finishCmd_kept)
    | (with_reducible apply Kept.step State.wf_kept)
    | (with_reducible apply Kept.step State.onHst_kept)
    | (with_reducible refine Kept.fold ?_ ?_)
    | (with_reducible refine Kept.foldSnd ?_ ?_)
    | (with_reducible refine Kept.foldFst ?_ ?_)
    | (with_reducible refine Kept.snd (by with_reducible assumption) ?_)
    | (with_reducible refine Kept.fst (by with_reducible assumption) ?_)

theorem State.eraseAgain_kept {n : Nat} {s : State} : Kept 64 s (State.eraseAgain n s) := by
  unfold State.eraseAgain
  repeat' first
    | (intro)
    | with_reducible assumption
    | with_reducible exact Kept.refl _ _
    | exact Eq.refl _
    | split
    | (with_reducible apply Kept.step State.deallocate_kept)
    | (with_reducible refine Kept.fold ?_ ?_)
    | (with_reducible refine Kept.foldSnd ?_ ?_)
    | (with_reducible refine Kept.foldFst ?_ ?_)
    | (with_reducible refine Kept.snd (by with_reducible assumption) ?_)
    | (with_reducible refine Kept.fst (by with_reducible assumption) ?_)

theorem bodyHstVolCreate_kept {c : Cmd} {a1 : State} : Kept 4325446 a1 (bodyHstVolCreate c a1).2 := by
  unfold bodyHstVolCreate
  repeat' first
    | (intro)
    | with_reducible assumption
    | with_reducible exact Kept.refl _ _
    | exact Eq.refl _
    | (with_reducible refine Kept.ofId ?_)
    | (with_reducible apply Kept.step State.deallocate_kept)
    | (with_reducible apply Kept.step State.hstGauges_kept)
    | (with_reducible apply Kept.step State.setVol_kept)
    | (with_reducible apply okWith_kept)
    | (with_reducible apply Kept.step State.dirtyHost_kept)
    | (with_reducible apply Kept.step State.wf_kept)

theorem execHstVolCreate_kept {t : Nat} {c : Cmd} {s : State} : KeptO 7996799 s (execHstVolCreate t c s) := by
  unfold execHstVolCreate
  repeat' first
    | (intro)
    | with_reducible assumption
    | with_reducible exact Kept.refl _ _
    | exact Eq.refl _
    | (with_reducible refine Kept.ofId ?_)
    | (with_reducible refine KeptO.next ?_)
    | (with_reducible apply Kept.step bodyHstVolCreate_kept)
    | (with_reducible apply KeptO.lift State.done_kept)
    | (with_reducible apply State.command_kept)

theorem bodyHstVolErase_kept {c : Cmd} {a1 : State} : Kept 6422638 a1 (bodyHstVolErase c a1).2 := by
  unfold bodyHstVolErase
  repeat' first
    | (intro)
    | with_reducible assumption
    | with_reducible exact Kept.refl _ _
    | exact Eq.refl _
    | (extract_lets +onlyGivenNames x
       first
       | (have hx : Kept 6422638 a1 x := ?_
          clear_value x
          rotate_left
          subst x
          rotate_left)
       | clear_value x)
    | split
    | (with_reducible apply Kept.step State.deallocate_kept)
    | (with_reducible apply Kept.step State.nvDrop_kept)
    | (with_reducible apply Kept.step State.modVol_kept)
    | (with_reducible apply Kept.step State.dirtyHost_kept)
    | (with_reducible apply Kept.step State.wf_kept)
    | (with_reducible apply Kept.step State.onHst_kept)
    | (with_reducible refine Kept.snd (by with_reducible assumption) ?_)
    | (with_reducible refine Kept.fst (by with_reducible assumption) ?_)

theorem execHstVolErase_kept {t : Nat} {c : Cmd} {s : State} : KeptO 7996799 s (execHstVolErase t c s) := by
  unfold execHstVolErase
  repeat' first
    | (intro)
    | with_reducible assumption
    | with_reducible exact Kept.refl _ _
    | exact Eq.refl _
    | (with_reducible refine Kept.ofId ?_)
    | (with_reducible refine KeptO.next ?_)
    | (with_reducible apply Kept.step bodyHstVolErase_kept)
    | (with_reducible apply KeptO.lift State.done_kept)
    | (with_reducible apply State.command_kept)

theorem bodyHstVolDelete_kept {c : Cmd} {a1 : State} : Kept 6422638 a1 (bodyHstVolDelete c a1).2 := by
  unfold bodyHstVolDelete
  repeat' first
    | (intro)
    | with_reducible assumption
    | with_reducible exact Kept.refl _ _
    | exact Eq.refl _
    | (extract_lets +onlyGivenNames x
       first
       | (have hx : Kept 6422638 a1 x := ?_
          clear_value x
          rotate_left
          subst x
          rotate_left)
       | clear_value x)
    | split
    | (with_reducible apply Kept.step State.remounted_kept)
    | (with_reducible apply Kept.step State.nvDrop_kept)
    | (with_reducible apply Kept.step State.hstGauges_kept)
    | (with_reducible apply Kept.step State.setVol_kept)
    | (with_reducible apply Kept.step State.dirtyHost_kept)
    | (with_reducible apply Kept.step State.wr_kept)
    | (with_reducible apply Kept.step State.onHst_kept)
    | (with_reducible refine Kept.snd (by with_reducible assumption) ?_)
    | (with_reducible refine Kept.fst (by with_reducible assumption) ?_)

theorem execHstVolDelete_kept {t : Nat} {c : Cmd} {s : State} : KeptO 7996799 s (execHstVolDelete t c s) := by
  unfold execHstVolDelete
  repeat' first
    | (intro)
    | with_reducible assumption
    | with_reducible exact Kept.refl _ _
    | exact Eq.refl _
    | (with_reducible refine Kept.ofId ?_)
    | (with_reducible refine KeptO.next ?_)
    | (with_reducible apply Kept.step bodyHstVolDelete_kept)
    | (with_reducible apply KeptO.lift State.done_kept)
    | (with_reducible apply State.command_kept)

theorem bodyHstRemount_kept {c : Cmd} {a1 : State} : Kept 64 a1 (bodyHstRemount c a1).2 := by
  unfold bodyHstRemount
  repeat' first
    | (intro)
    | with_reducible assumption
    | with_reducible exact Kept.refl _ _
    | exact Eq.refl _
    | (extract_lets +onlyGivenNames x
       first
       | (have hx : Kept 64 a1 x := ?_
          clear_value x
          rotate_left
          subst x
          rotate_left)
       | clear_value x)
    | split
    | (with_reducible apply Kept.step State.onHst_kept)
    | (with_reducible refine Kept.snd (by with_reducible assumption) ?_)
    | (with_reducible refine Kept.fst (by with_reducible assumption) ?_)

theorem execHstRemount_kept {t : Nat} {c : Cmd} {s : State} : KeptO 7865727 s (execHstRemount t c s) := by
  unfold execHstRemount
  repeat' first
    | (intro)
    | with_reducible assumption
    | with_reducible exact Kept.refl _ _
    | exact Eq.refl _
    | (with_reducible refine Kept.ofId ?_)
    | (with_reducible refine KeptO.next ?_)
    | (with_reducible apply Kept.step bodyHstRemount_kept)
    | (with_reducible apply KeptO.lift State.done_kept)
    | (with_reducible apply State.command_kept)

theorem bodyHstLegReplace_kept {c : Cmd} {a1 : State} : Kept 4325446 a1 (bodyHstLegReplace c a1).2 := by
  unfold bodyHstLegReplace
  repeat' first
    | (intro)
    | with_reducible assumption
    | with_reducible exact Kept.refl _ _
    | exact Eq.refl _
    | (with_reducible refine Kept.ofId ?_)
    | split
    | (with_reducible apply Kept.step State.copyStep_kept)
    | (with_reducible apply Kept.step State.nvAdd_kept)
    | (with_reducible apply Kept.step State.modVol_kept)
    | (with_reducible apply okWith_kept)
    | (with_reducible apply Kept.step State.dirtyHost_kept)
    | (with_reducible apply Kept.step State.wf_kept)
    | (with_reducible refine Kept.snd (by with_reducible assumption) ?_)
    | (with_reducible refine Kept.fst (by with_reducible assumption) ?_)

theorem execHstLegReplace_kept {t : Nat} {c : Cmd} {s : State} : KeptO 7996799 s (execHstLegReplace t c s) := by
  unfold execHstLegReplace
  repeat' first
    | (intro)
    | with_reducible assumption
    | with_reducible exact Kept.refl _ _
    | exact Eq.refl _
    | (with_reducible refine Kept.ofId ?_)
    | (with_reducible refine KeptO.next ?_)
    | (with_reducible apply Kept.step bodyHstLegReplace_kept)
    | (with_reducible apply KeptO.lift State.done_kept)
    | (with_reducible apply State.command_kept)

theorem bodyHstRead_kept {c : Cmd} {a1 : State} : Kept 64 a1 (bodyHstRead c a1).2 := by
  unfold bodyHstRead
  repeat' first
    | (intro)
    | with_reducible assumption
    | with_reducible exact Kept.refl _ _
    | exact Eq.refl _
    | (extract_lets +onlyGivenNames x
       first
       | (have hx : Kept 64 a1 x := ?_
          clear_value x
          rotate_left
          subst x
          rotate_left)
       | clear_value x)
    | split
    | (with_reducible apply Kept.step State.nvAdd_kept)
    | (with_reducible refine Kept.fold ?_ ?_)
    | (with_reducible refine Kept.foldSnd ?_ ?_)
    | (with_reducible refine Kept.foldFst ?_ ?_)
    | (with_reducible refine Kept.snd (by with_reducible assumption) ?_)
    | (with_reducible refine Kept.fst (by with_reducible assumption) ?_)

theorem execHstRead_kept {t : Nat} {c : Cmd} {s : State} : KeptO 7865727 s (execHstRead t c s) := by
  unfold execHstRead
  repeat' first
    | (intro)
    | with_reducible assumption
    | with_reducible exact Kept.refl _ _
    | exact Eq.refl _
    | (with_reducible refine Kept.ofId ?_)
    | (with_reducible refine KeptO.next ?_)
    | (with_reducible apply Kept.step bodyHstRead_kept)
    | (with_reducible apply KeptO.lift State.done_kept)
    | (with_reducible apply State.command_kept)

theorem execNvmeCompletion_kept {t : Nat} {k : Nat} {ok : Bool} {seg : Nat} {s : State} : KeptO 16256383 s (execNvmeCompletion t k ok seg s) := by
  unfold execNvmeCompletion
  repeat' first
    | (intro)
    | with_reducible assumption
    | with_reducible exact Kept.refl _ _
    | exact Eq.refl _
    | (extract_lets +onlyGivenNames x
       first
       | (have hx : Kept 16256383 s x := ?_
          clear_value x
          rotate_left
          subst x
          rotate_left)
       | clear_value x)
    | split
    | (with_reducible refine KeptO.next ?_)
    | (with_reducible apply Kept.step State.deallocated_kept)
    | (with_reducible apply Kept.step State.nvFailed_kept)
    | (with_reducible apply Kept.step State.trailerDone_kept)
    | (with_reducible apply Kept.step State.copyPut_kept)
    | (with_reducible apply Kept.step State.copyStep_kept)
    | (with_reducible apply Kept.step State.readEnd_kept)
    | (with_reducible apply Kept.step State.nvDone_kept)
    | (with_reducible apply KeptO.lift State.done_kept)
    | (with_reducible apply Kept.step State.flushWritten_kept)
    | (with_reducible apply Kept.step State.modVol_kept)
    | (with_reducible apply Kept.step State.at__kept)
    | (with_reducible apply Kept.step State.bump_kept)
    | (with_reducible refine Kept.snd (by with_reducible assumption) ?_)
    | (with_reducible refine Kept.fst (by with_reducible assumption) ?_)

theorem execNvmeTimeout_kept {t : Nat} {k : Nat} {resetBad : Bool} {s : State} : KeptO 16256383 s (execNvmeTimeout t k resetBad s) := by
  unfold execNvmeTimeout
  repeat' first
    | (intro)
    | with_reducible assumption
    | with_reducible exact Kept.refl _ _
    | exact Eq.refl _
    | (extract_lets +onlyGivenNames x
       first
       | (have hx : Kept 16256383 s x := ?_
          clear_value x
          rotate_left
          subst x
          rotate_left)
       | clear_value x)
    | split
    | (with_reducible refine KeptO.next ?_)
    | (with_reducible apply Kept.step State.nvFailed_kept)
    | (with_reducible apply Kept.step State.ctrlrFail_kept)
    | (with_reducible apply KeptO.lift State.done_kept)
    | (with_reducible apply Kept.step State.nvAdd_kept)
    | (with_reducible apply Kept.step State.at__kept)
    | (with_reducible apply Kept.step State.bump_kept)
    | (with_reducible refine Kept.snd (by with_reducible assumption) ?_)
    | (with_reducible refine Kept.fst (by with_reducible assumption) ?_)

theorem execControllerArrival_kept {t : Nat} {serial : Nat} {port : Nat} {bdf : Nat} {vwc : Bool} {ns : List (Nat × Nat × Bool)} {s : State} : KeptO 7865727 s (execControllerArrival t serial port bdf vwc ns s) := by
  unfold execControllerArrival
  repeat' first
    | (intro)
    | with_reducible assumption
    | with_reducible exact Kept.refl _ _
    | exact Eq.refl _
    | (extract_lets +onlyGivenNames x
       first
       | (have hx : Kept 7865727 s x := ?_
          clear_value x
          rotate_left
          subst x
          rotate_left)
       | clear_value x)
    | split
    | (with_reducible refine KeptO.next ?_)
    | (with_reducible apply Kept.step State.eraseAgain_kept)
    | (with_reducible apply Kept.step State.hstGauges_kept)
    | (with_reducible apply KeptO.lift State.done_kept)
    | (with_reducible apply Kept.step State.at__kept)
    | (with_reducible apply Kept.step State.bump_kept)
    | (with_reducible apply Kept.step State.wf_kept)
    | (with_reducible apply Kept.step State.onHst_kept)
    | (with_reducible refine Kept.fold ?_ ?_)
    | (with_reducible refine Kept.foldSnd ?_ ?_)
    | (with_reducible refine Kept.foldFst ?_ ?_)
    | (with_reducible refine Kept.snd (by with_reducible assumption) ?_)
    | (with_reducible refine Kept.fst (by with_reducible assumption) ?_)

theorem execVolumeMount_kept {t : Nat} {v : Nat} {segs : List (Option Nat × Option Nat)} {s : State} : KeptO 7867775 s (execVolumeMount t v segs s) := by
  unfold execVolumeMount
  repeat' first
    | (intro)
    | with_reducible assumption
    | with_reducible exact Kept.refl _ _
    | exact Eq.refl _
    | (extract_lets +onlyGivenNames x
       first
       | (have hx : Kept 7867775 s x := ?_
          clear_value x
          rotate_left
          subst x
          rotate_left)
       | clear_value x)
    | split
    | (with_reducible refine KeptO.next ?_)
    | (with_reducible apply Kept.step State.mountVol_kept)
    | (with_reducible apply Kept.step State.hstReady_kept)
    | (with_reducible apply KeptO.lift State.done_kept)
    | (with_reducible apply Kept.step State.at__kept)
    | (with_reducible refine Kept.snd (by with_reducible assumption) ?_)
    | (with_reducible refine Kept.fst (by with_reducible assumption) ?_)

theorem execDeallocationComplete_kept {t : Nat} {v : Nat} {s : State} : KeptO 7867775 s (execDeallocationComplete t v s) := by
  unfold execDeallocationComplete
  repeat' first
    | (intro)
    | with_reducible assumption
    | with_reducible exact Kept.refl _ _
    | exact Eq.refl _
    | (extract_lets +onlyGivenNames x
       first
       | (have hx : Kept 7867775 s x := ?_
          clear_value x
          rotate_left
          subst x
          rotate_left)
       | clear_value x)
    | split
    | (with_reducible refine KeptO.next ?_)
    | (with_reducible apply Kept.step State.deallocated_kept)
    | (with_reducible apply Kept.step State.nvDrop_kept)
    | (with_reducible apply KeptO.lift State.done_kept)
    | (with_reducible apply Kept.step State.at__kept)
    | (with_reducible refine Kept.snd (by with_reducible assumption) ?_)
    | (with_reducible refine Kept.fst (by with_reducible assumption) ?_)

theorem execLegSyncComplete_kept {t : Nat} {v : Nat} {s : State} : KeptO 7865727 s (execLegSyncComplete t v s) := by
  unfold execLegSyncComplete
  repeat' first
    | (intro)
    | with_reducible assumption
    | with_reducible exact Kept.refl _ _
    | exact Eq.refl _
    | (extract_lets +onlyGivenNames x
       first
       | (have hx : Kept 7865727 s x := ?_
          clear_value x
          rotate_left
          subst x
          rotate_left)
       | clear_value x)
    | split
    | (with_reducible refine KeptO.next ?_)
    | (with_reducible apply KeptO.lift State.done_kept)
    | (with_reducible apply Kept.step State.modVol_kept)
    | (with_reducible apply Kept.step State.at__kept)
    | (with_reducible apply Kept.step State.wf_kept)
    | (with_reducible refine Kept.snd (by with_reducible assumption) ?_)
    | (with_reducible refine Kept.fst (by with_reducible assumption) ?_)

theorem execControllerPathLinkDown_kept {t : Nat} {n : Nat} {s : State} : KeptO 16256383 s (execControllerPathLinkDown t n s) := by
  unfold execControllerPathLinkDown
  repeat' first
    | (intro)
    | with_reducible assumption
    | with_reducible exact Kept.refl _ _
    | exact Eq.refl _
    | (extract_lets +onlyGivenNames x
       first
       | (have hx : Kept 16256383 s x := ?_
          clear_value x
          rotate_left
          subst x
          rotate_left)
       | clear_value x)
    | split
    | (with_reducible refine KeptO.next ?_)
    | (with_reducible apply Kept.step State.ctrlrFail_kept)
    | (with_reducible apply Kept.step State.hstGauges_kept)
    | (with_reducible apply KeptO.lift State.done_kept)
    | (with_reducible apply Kept.step State.at__kept)
    | (with_reducible apply Kept.step State.wf_kept)
    | (with_reducible refine Kept.snd (by with_reducible assumption) ?_)
    | (with_reducible refine Kept.fst (by with_reducible assumption) ?_)

end Sys2Proof.Machine
end

