-- ==== Sys2Proof/Laws/KeptHost.lean ====
section
/-! SUPPORT. What the operations of Machine/Host.lean leave alone. -/

set_option linter.tactic.unusedName false

namespace Sys2Proof.Machine

set_option Elab.async false

theorem bodyNop_kept {_c : Cmd} {a1 : State} : Kept 0 a1 (bodyNop _c a1).2 := by
  unfold bodyNop
  repeat' first
    | (intro)
    | with_reducible assumption
    | with_reducible exact Kept.refl _ _
    | exact Eq.refl _
    | (with_reducible refine Kept.ofId ?_)
    | (with_reducible apply okWith_kept)

theorem execNop_kept {t : Nat} {c : Cmd} {s : State} : KeptO 7865727 s (execNop t c s) := by
  unfold execNop
  repeat' first
    | (intro)
    | with_reducible assumption
    | with_reducible exact Kept.refl _ _
    | exact Eq.refl _
    | (with_reducible refine Kept.ofId ?_)
    | (with_reducible refine KeptO.next ?_)
    | (with_reducible apply Kept.step bodyNop_kept)
    | (with_reducible apply KeptO.lift State.done_kept)
    | (with_reducible apply State.command_kept)

theorem bodyRingCreate_kept {c : Cmd} {a1 : State} : Kept 12582926 a1 (bodyRingCreate c a1).2 := by
  unfold bodyRingCreate
  repeat' first
    | (intro)
    | with_reducible assumption
    | with_reducible exact Kept.refl _ _
    | exact Eq.refl _
    | split
    | (with_reducible apply Kept.step State.setRing_kept)
    | (with_reducible apply Kept.step State.bump_kept)
    | (with_reducible refine Kept.snd (by with_reducible assumption) ?_)
    | (with_reducible refine Kept.fst (by with_reducible assumption) ?_)

theorem execRingCreate_kept {t : Nat} {c : Cmd} {s : State} : KeptO 16254335 s (execRingCreate t c s) := by
  unfold execRingCreate
  repeat' first
    | (intro)
    | with_reducible assumption
    | with_reducible exact Kept.refl _ _
    | exact Eq.refl _
    | (with_reducible refine Kept.ofId ?_)
    | (with_reducible refine KeptO.next ?_)
    | (with_reducible apply Kept.step bodyRingCreate_kept)
    | (with_reducible apply KeptO.lift State.done_kept)
    | (with_reducible apply State.command_kept)

theorem bodyRingDelete_kept {c : Cmd} {a1 : State} : Kept 6291464 a1 (bodyRingDelete c a1).2 := by
  unfold bodyRingDelete
  repeat' first
    | (intro)
    | with_reducible assumption
    | with_reducible exact Kept.refl _ _
    | exact Eq.refl _
    | (extract_lets +onlyGivenNames x
       first
       | (have hx : Kept 6291464 a1 x := ?_
          clear_value x
          rotate_left
          subst x
          rotate_left)
       | clear_value x)
    | split
    | (with_reducible apply Kept.step State.ringGone_kept)
    | (with_reducible apply Kept.step State.outBack_kept)
    | (with_reducible apply Kept.step (State.onHif_kept' ?_))
    | (with_reducible refine Kept.snd (by with_reducible assumption) ?_)
    | (with_reducible refine Kept.fst (by with_reducible assumption) ?_)

theorem execRingDelete_kept {t : Nat} {c : Cmd} {s : State} : KeptO 7865727 s (execRingDelete t c s) := by
  unfold execRingDelete
  repeat' first
    | (intro)
    | with_reducible assumption
    | with_reducible exact Kept.refl _ _
    | exact Eq.refl _
    | (with_reducible refine Kept.ofId ?_)
    | (with_reducible refine KeptO.next ?_)
    | (with_reducible apply Kept.step bodyRingDelete_kept)
    | (with_reducible apply KeptO.lift State.done_kept)
    | (with_reducible apply State.command_kept)

theorem bodyRingTune_kept0 {c : Cmd} {a1 : State} : Kept 12582926 a1 (bodyRingTune c a1).2 := by
  have hz : True := trivial
  unfold bodyRingTune
  repeat' first
    | (intro)
    | with_reducible assumption
    | with_reducible exact Kept.refl _ _
    | exact Eq.refl _
    | (extract_lets +onlyGivenNames x
       first
       | (have hx : Kept 12582926 a1 x := ?_
          clear_value x
          rotate_left
          subst x
          rotate_left)
       | (have hx : Kept 12582926 a1 x.2 := ?_
          clear_value x
          rotate_left
          subst x
          rotate_left)
       | (have hx : Kept 12582926 a1 x.1 := ?_
          clear_value x
          rotate_left
          subst x
          rotate_left)
       | (have hz : ∀ y, Kept 12582926 a1 y → Kept 12582926 a1 (x y) := ?_
          clear_value x
          rotate_left
          unfold x
          clear x
          rotate_left)
       | (have hz : ∀ a y, Kept 12582926 a1 y → Kept 12582926 a1 (x a y) := ?_
          clear_value x
          rotate_left
          unfold x
          clear x
          rotate_left)
       | (have hz : ∀ a b y, Kept 12582926 a1 y → Kept 12582926 a1 (x a b y) := ?_
          clear_value x
          rotate_left
          unfold x
          clear x
          rotate_left)
       | (have hz : ∀ a b c y, Kept 12582926 a1 y → Kept 12582926 a1 (x a b c y) := ?_
          clear_value x
          rotate_left
          unfold x
          clear x
          rotate_left)
       | (have hz : ∀ a b c d y, Kept 12582926 a1 y → Kept 12582926 a1 (x a b c d y) := ?_
          clear_value x
          rotate_left
          unfold x
          clear x
          rotate_left)
       | (have hz : ∀ a, Kept 12582926 a1 (x a) := ?_
          clear_value x
          rotate_left
          unfold x
          clear x
          rotate_left)
       | (have hz : ∀ a b, Kept 12582926 a1 (x a b) := ?_
          clear_value x
          rotate_left
          unfold x
          clear x
          rotate_left)
       | (have hz : ∀ a, Kept 12582926 a1 (x a).2 := ?_
          clear_value x
          rotate_left
          unfold x
          clear x
          rotate_left)
       | (have hz : ∀ a b c, Kept 12582926 a1 (x a b c).2 := ?_
          clear_value x
          rotate_left
          unfold x
          clear x
          rotate_left)
       | clear_value x)
    | split
    | (with_reducible apply Kept.step State.signal_kept)
    | (with_reducible apply Kept.step State.setRing_kept)
    | (with_reducible apply Kept.step State.drop_kept)
    | (with_reducible apply Kept.step State.bump_kept)
    | (with_reducible refine Kept.snd (by with_reducible assumption) ?_)
    | (with_reducible refine Kept.fst (by with_reducible assumption) ?_)
    | (with_reducible apply hz)
    | (with_reducible refine Kept.call (by with_reducible assumption) ?_)
    | (with_reducible refine Kept.call1 (by with_reducible assumption) ?_)

theorem bodyRingTune_out {c : Cmd} {a1 : State} : Out a1 (bodyRingTune c a1).2 := by
  have p : samePlace (ringTuned c (a1.ring (c.f 8 0 16))) (a1.ring (c.f 8 0 16)) := by
    unfold ringTuned
    exact (samePlace_fput _ _ _ (by decide)).trans ((samePlace_fput _ _ _ (by decide)).trans ((samePlace_fput _ _ _ (by decide)).trans
      ((samePlace_fput _ _ _ (by decide)).trans ((samePlace_fput _ _ _ (by decide)).trans ((samePlace_fput _ _ _ (by decide)).trans
        (samePlace_fput _ _ _ (by decide)))))))
  unfold bodyRingTune
  dsimp only
  refine Out.trans ?_ State.signal_kept.out_
  refine (Out.setRing p).trans ?_
  split
  · exact Out.refl _
  · split
    · exact (State.bump_kept (f := Reg.HIF_PIN_USED.COUNT)).out_
    · exact (State.drop_kept (f := Reg.HIF_PIN_USED.COUNT)).out_

theorem bodyRingTune_kept {c : Cmd} {a1 : State} : Kept 4194318 a1 (bodyRingTune c a1).2 :=
  bodyRingTune_kept0.withOut bodyRingTune_out rfl

theorem execRingTune_kept {t : Nat} {c : Cmd} {s : State} : KeptO 7865727 s (execRingTune t c s) := by
  unfold execRingTune
  repeat' first
    | (intro)
    | with_reducible assumption
    | with_reducible exact Kept.refl _ _
    | exact Eq.refl _
    | (with_reducible refine Kept.ofId ?_)
    | (with_reducible refine KeptO.next ?_)
    | (with_reducible apply Kept.step bodyRingTune_kept)
    | (with_reducible apply KeptO.lift State.done_kept)
    | (with_reducible apply State.command_kept)

theorem bodyRingQuery_kept {c : Cmd} {a1 : State} : Kept 14680072 a1 (bodyRingQuery c a1).2 := by
  unfold bodyRingQuery
  repeat' first
    | (intro)
    | with_reducible assumption
    | with_reducible exact Kept.refl _ _
    | exact Eq.refl _
    | (with_reducible refine Kept.ofId ?_)
    | (with_reducible apply Kept.step State.bufPut_kept)
    | (with_reducible apply okWith_kept)

theorem execRingQuery_kept {t : Nat} {c : Cmd} {s : State} : KeptO 16254335 s (execRingQuery t c s) := by
  unfold execRingQuery
  repeat' first
    | (intro)
    | with_reducible assumption
    | with_reducible exact Kept.refl _ _
    | exact Eq.refl _
    | (with_reducible refine Kept.ofId ?_)
    | (with_reducible refine KeptO.next ?_)
    | (with_reducible apply Kept.step bodyRingQuery_kept)
    | (with_reducible apply KeptO.lift State.done_kept)
    | (with_reducible apply State.command_kept)

theorem State.touch_kept {r : Nat} {s : State} : Kept 4194318 s (State.touch r s) := by
  unfold State.touch
  repeat' first
    | (intro)
    | with_reducible assumption
    | with_reducible exact Kept.refl _ _
    | exact Eq.refl _
    | split
    | (with_reducible apply Kept.step State.bump_kept)
    | (with_reducible apply Kept.step (State.onHif_kept' ?_))
    | (with_reducible refine Kept.snd (by with_reducible assumption) ?_)
    | (with_reducible refine Kept.fst (by with_reducible assumption) ?_)

theorem State.arm_kept0 {r : Nat} {s : State} : Kept 8388616 s (State.arm r s) := by
  unfold State.arm
  repeat' first
    | (intro)
    | with_reducible assumption
    | with_reducible exact Kept.refl _ _
    | exact Eq.refl _
    | (with_reducible apply Kept.step State.signal_kept)
    | (with_reducible apply Kept.step State.modRing_kept)
    | (with_reducible apply Kept.step (State.onHif_kept' ?_))

theorem State.arm_out {r : Nat} {s : State} : Out s (State.arm r s) :=
  ((Out.modRing (samePlace_fput Ring.ARMED 1 _ (by decide))).trans (Out.onHif rfl rfl rfl rfl)).trans State.signal_kept.out_

theorem State.arm_kept {r : Nat} {s : State} : Kept 8 s (State.arm r s) :=
  State.arm_kept0.withOut State.arm_out rfl

theorem State.takeCount_kept0 {r : Nat} {v : Nat} {s : State} : Kept 8388616 s (State.takeCount r v s) := by
  unfold State.takeCount
  repeat' first
    | (intro)
    | with_reducible assumption
    | with_reducible exact Kept.refl _ _
    | exact Eq.refl _
    | (extract_lets +onlyGivenNames x
       first
       | (have hx : Kept 8388616 s x := ?_
          clear_value x
          rotate_left
          subst x
          rotate_left)
       | clear_value x)
    | split
    | (with_reducible apply Kept.step State.arm_kept)
    | (with_reducible apply Kept.step State.setRing_kept)
    | (with_reducible refine Kept.snd (by with_reducible assumption) ?_)
    | (with_reducible refine Kept.fst (by with_reducible assumption) ?_)

theorem State.takeCount_out {r : Nat} {v : Nat} {s : State} : Out s (State.takeCount r v s) := by
  unfold State.takeCount
  dsimp only
  split
  · split
    · exact Out.refl s
    · exact (Out.setRing (r := r) (samePlace_fput Ring.CONS v _ (by decide))).trans State.arm_out
  · split
    · exact Out.refl s
    · refine (Out.setRing (r := r) (samePlace_fput Ring.PROD v _ (by decide))).trans ?_
      split
      · exact State.arm_out
      · exact Out.refl _

theorem State.takeCount_kept {r : Nat} {v : Nat} {s : State} : Kept 8 s (State.takeCount r v s) :=
  State.takeCount_kept0.withOut State.takeCount_out rfl

theorem State.stray_kept {fn : Nat} {r : Nat} {s : State} : Kept 6815806 s (State.stray fn r s) := by
  unfold State.stray
  repeat' first
    | (intro)
    | with_reducible assumption
    | with_reducible exact Kept.refl _ _
    | exact Eq.refl _
    | (extract_lets +onlyGivenNames x
       first
       | (have hx : Kept 6815806 s x := ?_
          clear_value x
          rotate_left
          subst x
          rotate_left)
       | clear_value x)
    | split
    | (with_reducible apply Kept.step State.denied_kept)
    | (with_reducible apply Kept.step State.raise_kept)
    | (with_reducible apply Kept.step State.bump_kept)
    | (with_reducible apply Kept.step (State.onHif_kept' ?_))
    | (with_reducible refine Kept.snd (by with_reducible assumption) ?_)
    | (with_reducible refine Kept.fst (by with_reducible assumption) ?_)

theorem State.doorbell_kept {fn : Nat} {off : Nat} {size : Nat} {v : Nat} {s : State} : Kept 6815806 s (State.doorbell fn off size v s) := by
  unfold State.doorbell
  repeat' first
    | (intro)
    | with_reducible assumption
    | with_reducible exact Kept.refl _ _
    | exact Eq.refl _
    | (extract_lets +onlyGivenNames x
       first
       | (have hx : Kept 6815806 s x := ?_
          clear_value x
          rotate_left
          subst x
          rotate_left)
       | clear_value x)
    | split
    | (with_reducible apply Kept.step State.stray_kept)
    | (with_reducible apply Kept.step State.takeCount_kept)
    | (with_reducible apply Kept.step State.arm_kept)
    | (with_reducible apply Kept.step State.touch_kept)
    | (with_reducible apply Kept.step State.bump_kept)
    | (with_reducible refine Kept.snd (by with_reducible assumption) ?_)
    | (with_reducible refine Kept.fst (by with_reducible assumption) ?_)

theorem execDoorbellCountWrite_kept {t : Nat} {fn : Nat} {off : Nat} {size : Nat} {v : Nat} {s : State} : KeptO 7865727 s (execDoorbellCountWrite t fn off size v s) := by
  unfold execDoorbellCountWrite
  repeat' first
    | (intro)
    | with_reducible assumption
    | with_reducible exact Kept.refl _ _
    | exact Eq.refl _
    | split
    | (with_reducible refine KeptO.next ?_)
    | (with_reducible apply Kept.step State.doorbell_kept)
    | (with_reducible apply KeptO.lift State.done_kept)
    | (with_reducible apply Kept.step State.at__kept)
    | (with_reducible refine Kept.snd (by with_reducible assumption) ?_)
    | (with_reducible refine Kept.fst (by with_reducible assumption) ?_)

theorem execDoorbellArmWrite_kept {t : Nat} {fn : Nat} {off : Nat} {size : Nat} {v : Nat} {s : State} : KeptO 7865727 s (execDoorbellArmWrite t fn off size v s) := by
  unfold execDoorbellArmWrite
  repeat' first
    | (intro)
    | with_reducible assumption
    | with_reducible exact Kept.refl _ _
    | exact Eq.refl _
    | split
    | (with_reducible refine KeptO.next ?_)
    | (with_reducible apply Kept.step State.doorbell_kept)
    | (with_reducible apply KeptO.lift State.done_kept)
    | (with_reducible apply Kept.step State.at__kept)
    | (with_reducible refine Kept.snd (by with_reducible assumption) ?_)
    | (with_reducible refine Kept.fst (by with_reducible assumption) ?_)

theorem execDescriptorFetch_kept {t : Nat} {desc : Rec 64} {s : State} : KeptO 16254335 s (execDescriptorFetch t desc s) := by
  unfold execDescriptorFetch
  repeat' first
    | (intro)
    | with_reducible assumption
    | with_reducible exact Kept.refl _ _
    | exact Eq.refl _
    | (extract_lets +onlyGivenNames x
       first
       | (have hx : Kept 16254335 s x := ?_
          clear_value x
          rotate_left
          subst x
          rotate_left)
       | clear_value x)
    | split
    | (with_reducible refine KeptO.next ?_)
    | (with_reducible apply Kept.step State.touch_kept)
    | (with_reducible apply KeptO.lift State.done_kept)
    | (with_reducible apply Kept.step State.sweep_kept)
    | (with_reducible apply Kept.step State.modRing_kept)
    | (with_reducible apply Kept.step State.setRing_kept)
    | (with_reducible apply Kept.step State.at__kept)
    | (with_reducible apply Kept.step State.bump_kept)
    | (with_reducible apply Kept.step (State.onHif_keptAt ?_))
    | (with_reducible refine Kept.snd (by with_reducible assumption) ?_)
    | (with_reducible refine Kept.fst (by with_reducible assumption) ?_)

theorem execCompletionWrite_kept {t : Nat} {r : Nat} {s : State} : KeptO 7865721 s (execCompletionWrite t r s) := by
  unfold execCompletionWrite
  repeat' first
    | (intro)
    | with_reducible assumption
    | with_reducible exact Kept.refl _ _
    | exact Eq.refl _
    | split
    | (with_reducible refine KeptO.next ?_)
    | (with_reducible apply KeptO.lift State.done_kept)
    | (with_reducible apply Kept.step State.unhold_kept)
    | (with_reducible apply Kept.step State.at__kept)
    | (with_reducible refine Kept.snd (by with_reducible assumption) ?_)
    | (with_reducible refine Kept.fst (by with_reducible assumption) ?_)

theorem execEventBacklogDrain_kept {t : Nat} {r : Nat} {s : State} : KeptO 7865721 s (execEventBacklogDrain t r s) := by
  unfold execEventBacklogDrain
  repeat' first
    | (intro)
    | with_reducible assumption
    | with_reducible exact Kept.refl _ _
    | exact Eq.refl _
    | split
    | (with_reducible refine KeptO.next ?_)
    | (with_reducible apply KeptO.lift State.done_kept)
    | (with_reducible apply Kept.step State.drain_kept)
    | (with_reducible apply Kept.step State.at__kept)
    | (with_reducible refine Kept.snd (by with_reducible assumption) ?_)
    | (with_reducible refine Kept.fst (by with_reducible assumption) ?_)

theorem execVectorCoalesceExpire_kept0 {t : Nat} {r : Nat} {s : State} : KeptO 16254329 s (execVectorCoalesceExpire t r s) := by
  unfold execVectorCoalesceExpire
  repeat' first
    | (intro)
    | with_reducible assumption
    | with_reducible exact Kept.refl _ _
    | exact Eq.refl _
    | (extract_lets +onlyGivenNames x
       first
       | (have hx : Kept 16254329 s x := ?_
          clear_value x
          rotate_left
          subst x
          rotate_left)
       | clear_value x)
    | split
    | (with_reducible refine KeptO.next ?_)
    | (with_reducible apply KeptO.lift State.done_kept)
    | (with_reducible apply Kept.step State.sendVec_kept)
    | (with_reducible apply Kept.step State.setRing_kept)
    | (with_reducible apply Kept.step State.at__kept)
    | (with_reducible apply Kept.step (State.onHif_kept' ?_))
    | (with_reducible refine Kept.snd (by with_reducible assumption) ?_)
    | (with_reducible refine Kept.fst (by with_reducible assumption) ?_)

theorem execVectorCoalesceExpire_out {t r : Nat} {s u : State} (e : execVectorCoalesceExpire t r s = .next u) : Out s u := by
  unfold execVectorCoalesceExpire at e
  dsimp only at e
  split at e
  · cases e
    exact Out.refl s
  · cases e
    refine Out.trans ?_ State.settle_kept.out_
    refine Out.trans ?_ State.sendVec_kept.out_
    refine (State.at__kept (t := t)).out_.trans ?_
    exact (Out.setRing (r := r) (samePlace_fput Ring.ARMED 0 ((s.at_ t).ring r) (by decide))).trans (Out.onHif rfl rfl rfl rfl)

theorem execVectorCoalesceExpire_kept {t : Nat} {r : Nat} {s : State} : KeptO 7865721 s (execVectorCoalesceExpire t r s) := by
  obtain ⟨u, e, h⟩ := execVectorCoalesceExpire_kept0
  exact ⟨u, e, h.withOut (execVectorCoalesceExpire_out e) rfl⟩

theorem execMsixUnmask_kept {t : Nat} {fn : Nat} {vec : Nat} {s : State} : KeptO 7865721 s (execMsixUnmask t fn vec s) := by
  unfold execMsixUnmask
  repeat' first
    | (intro)
    | with_reducible assumption
    | with_reducible exact Kept.refl _ _
    | exact Eq.refl _
    | (extract_lets +onlyGivenNames x
       first
       | (have hx : Kept 7865721 s x := ?_
          clear_value x
          rotate_left
          subst x
          rotate_left)
       | clear_value x)
    | split
    | (with_reducible refine KeptO.next ?_)
    | (with_reducible apply KeptO.lift State.done_kept)
    | (with_reducible apply Kept.step State.sendVec_kept)
    | (with_reducible apply Kept.step State.at__kept)
    | (with_reducible apply Kept.step (State.onHif_kept' ?_))
    | (with_reducible refine Kept.snd (by with_reducible assumption) ?_)
    | (with_reducible refine Kept.fst (by with_reducible assumption) ?_)

theorem execDataOutWriteback_kept {t : Nat} {r : Nat} {s : State} : KeptO 7865721 s (execDataOutWriteback t r s) := by
  unfold execDataOutWriteback
  repeat' first
    | (intro)
    | with_reducible assumption
    | with_reducible exact Kept.refl _ _
    | exact Eq.refl _
    | (extract_lets +onlyGivenNames x
       first
       | (have hx : Kept 7865721 s x := ?_
          clear_value x
          rotate_left
          subst x
          rotate_left)
       | clear_value x)
    | split
    | (with_reducible refine KeptO.next ?_)
    | (with_reducible apply KeptO.lift State.done_kept)
    | (with_reducible apply Kept.step State.outBack_kept)
    | (with_reducible apply Kept.step State.at__kept)
    | (with_reducible refine Kept.snd (by with_reducible assumption) ?_)
    | (with_reducible refine Kept.fst (by with_reducible assumption) ?_)

theorem execDmaError_kept0 {t : Nat} {r : Nat} {status : Nat} {s : State} : KeptO 16254335 s (execDmaError t r status s) := by
  unfold execDmaError
  repeat' first
    | (intro)
    | with_reducible assumption
    | with_reducible exact Kept.refl _ _
    | exact Eq.refl _
    | (extract_lets +onlyGivenNames x
       first
       | (have hx : Kept 16254335 s x := ?_
          clear_value x
          rotate_left
          subst x
          rotate_left)
       | clear_value x)
    | split
    | (with_reducible refine KeptO.next ?_)
    | (with_reducible apply KeptO.lift State.done_kept)
    | (with_reducible apply Kept.step State.raise_kept)
    | (with_reducible apply Kept.step State.unflight_kept)
    | (with_reducible apply Kept.step State.setRing_kept)
    | (with_reducible apply Kept.step State.at__kept)
    | (with_reducible apply Kept.step State.bump_kept)
    | (with_reducible apply Kept.step (State.onHif_kept' ?_))
    | (with_reducible refine Kept.fold ?_ ?_)
    | (with_reducible refine Kept.foldSnd ?_ ?_)
    | (with_reducible refine Kept.foldFst ?_ ?_)
    | (with_reducible refine Kept.snd (by with_reducible assumption) ?_)
    | (with_reducible refine Kept.fst (by with_reducible assumption) ?_)

theorem execDmaError_out {t r status : Nat} {s u : State} (e : execDmaError t r status s = .next u) : Out s u := by
  unfold execDmaError at e
  dsimp only at e
  split at e
  · cases e
    exact Out.refl s
  · cases e
    refine Out.trans ?_ State.settle_kept.out_
    refine Out.trans ?_ State.raise_kept.out_
    have h1 : Out s (((s.at_ t).setRing r (fput Ring.FAULT 1 (s.ring r))).bump Reg.HIF_DMA_ERR_CNT.COUNT) := by
      refine Out.trans (State.at__kept (t := t)).out_ (Out.trans (Out.setRing (r := r) ?_) (State.bump_kept (f := Reg.HIF_DMA_ERR_CNT.COUNT)).out_)
      have q : (s.at_ t).ring r = s.ring r := congrArg (fun h : Hif => tget 0 h.rings r) (State.at__kept.hif rfl)
      rw [q]
      exact samePlace_fput _ _ _ (by decide)
    generalize ((s.at_ t).setRing r (fput Ring.FAULT 1 (s.ring r))).bump Reg.HIF_DMA_ERR_CNT.COUNT = y at h1 ⊢
    have h2 : Out s (y.onHif fun h => { h with held := h.held.filter fun e => e.1 != r }) := h1.trans (Out.onHif rfl rfl rfl rfl)
    refine h2.trans ?_
    generalize List.filter _ _ = l
    generalize (y.onHif fun h => { h with held := h.held.filter fun e => e.1 != r }) = z
    induction l generalizing z with
    | nil => exact Out.refl _
    | cons x l ih =>
      refine Out.trans ?_ (ih _)
      dsimp only
      split
      · exact State.unflight_out
      · exact Out.refl _

theorem execDmaError_kept {t : Nat} {r : Nat} {status : Nat} {s : State} : KeptO 7865727 s (execDmaError t r status s) := by
  obtain ⟨u, e, h⟩ := execDmaError_kept0
  exact ⟨u, e, h.withOut (execDmaError_out e) rfl⟩

theorem State.pageOk_kept {req : Nat} {fn : Nat} {off : Nat} {s : State} : Kept 6815800 s (State.pageOk req fn off s).2 := by
  unfold State.pageOk
  repeat' first
    | (intro)
    | with_reducible assumption
    | with_reducible exact Kept.refl _ _
    | exact Eq.refl _
    | split
    | (with_reducible apply Kept.step State.denied_kept)
    | (with_reducible refine Kept.snd (by with_reducible assumption) ?_)
    | (with_reducible refine Kept.fst (by with_reducible assumption) ?_)

theorem State.fnReset_kept0 {kind : Nat} {fn : Nat} {s : State} : Kept 15204414 s (State.fnReset kind fn s) := by
  unfold State.fnReset
  repeat' first
    | (intro)
    | with_reducible assumption
    | with_reducible exact Kept.refl _ _
    | exact Eq.refl _
    | (with_reducible apply Kept.step State.ringGone_kept)
    | (with_reducible apply Kept.step State.raise_kept)
    | (with_reducible apply Kept.step State.drop_kept)
    | (with_reducible apply Kept.step State.bump_kept)
    | (with_reducible apply Kept.step State.wf_kept)
    | (with_reducible apply Kept.step State.onLdg_keptAt)
    | (with_reducible apply Kept.step State.onWld_kept)
    | (with_reducible apply Kept.step (State.onHif_keptAt ?_))
    | (with_reducible refine Kept.fold ?_ ?_)
    | (with_reducible refine Kept.foldSnd ?_ ?_)
    | (with_reducible refine Kept.foldFst ?_ ?_)

theorem fnClear_out (mine : List Nat) (fn : Nat) (z : State) : Out z (z.onHif fun h => { h with
      inflight := h.inflight.filter fun i => !mine.contains i.ring
      held := h.held.filter fun e => !mine.contains (e.2 % 65536)
      deleting := h.deleting.filter fun d => !mine.contains d.1
      outBuf := h.outBuf.filter fun e => !mine.contains e.1
      vecOpen := h.vecOpen.filter fun e => e.1 / 2048 != fn
      vecPend := h.vecPend.filter fun e => e.1 / 2048 != fn
      msixEn := tset 0 h.msixEn fn 0 }) := by
  refine Out.fewer rfl (fun _ h => h) (fun _ h => h) fun e he => Or.inr ?_
  dsimp only at he
  exact (List.mem_filter.1 he).1

theorem ringsGone_out (l : List Nat) : ∀ z : State, Out z (l.foldl (fun s r => s.ringGone r) z) := by
  induction l with
  | nil => exact fun z => Out.refl z
  | cons x l ih => exact fun z => State.ringGone_kept.out_.trans (ih _)

theorem viewGone_out (fn : Nat) (z : State) : Out z (z.onLdg fun l => { l with view := match l.view with
    | some v => if v.1 == fn then none else some v
    | none => none }) := by
  refine Out.lessView fun l f b p h => ?_
  dsimp only at h
  split at h
  · rename_i v e
    split at h
    · cases h
    · rw [e]
      exact h
  · cases h

theorem State.fnReset_out {kind fn : Nat} {s : State} : Out s (State.fnReset kind fn s) := by
  unfold State.fnReset
  dsimp only
  generalize List.map Prod.fst _ = mine
  refine Out.trans ?_ State.raise_kept.out_
  refine Out.trans ?_ (State.onWld_kept).out_
  refine Out.trans ?_ (viewGone_out fn _)
  refine Out.trans ?_ (State.bump_kept (f := Reg.HIF_FN.FN_RESET_CNT fn)).out_
  refine Out.trans ?_ (State.wf_kept (f := Reg.HIF_FN.READY fn)).out_
  refine Out.trans ?_ (State.wf_kept (f := Reg.HIF_FN.ADM_EN fn)).out_
  refine Out.trans ?_ (ringsGone_out mine _)
  refine Out.trans ?_ (State.wf_kept (f := Reg.HIF_FN.FN_INFLIGHT fn)).out_
  refine Out.trans ?_ (State.drop_kept (f := Reg.HIF_INFLIGHT.COUNT)).out_
  exact fnClear_out mine fn s

theorem State.fnReset_kept {kind : Nat} {fn : Nat} {s : State} : Kept 6815806 s (State.fnReset kind fn s) :=
  State.fnReset_kept0.withOut State.fnReset_out rfl

theorem State.fnResets_kept {kind : Nat} {fn : Nat} {s : State} : Kept 6815806 s (State.fnResets kind fn s) := by
  unfold State.fnResets
  repeat' first
    | (intro)
    | with_reducible assumption
    | with_reducible exact Kept.refl _ _
    | exact Eq.refl _
    | (with_reducible apply Kept.step State.fnReset_kept)
    | (with_reducible refine Kept.fold ?_ ?_)
    | (with_reducible refine Kept.foldSnd ?_ ?_)
    | (with_reducible refine Kept.foldFst ?_ ?_)

theorem execFunctionLevelReset_kept {t : Nat} {kind : Nat} {req : Nat} {fn : Nat} {s : State} : KeptO 7865727 s (execFunctionLevelReset t kind req fn s) := by
  unfold execFunctionLevelReset
  repeat' first
    | (intro)
    | with_reducible assumption
    | with_reducible exact Kept.refl _ _
    | exact Eq.refl _
    | (extract_lets +onlyGivenNames x
       first
       | (have hx : Kept 7865727 s x := ?_
          clear_value x
          rotate_left
          subst x
          rotate_left)
       | clear_value x)
    | split
    | (with_reducible refine KeptO.next ?_)
    | (with_reducible apply Kept.step State.fnResets_kept)
    | (with_reducible apply Kept.step State.pageOk_kept)
    | (with_reducible apply KeptO.lift State.done_kept)
    | (with_reducible apply Kept.step State.at__kept)
    | (with_reducible apply Kept.step State.wf_kept)
    | (with_reducible refine Kept.snd (by with_reducible assumption) ?_)
    | (with_reducible refine Kept.fst (by with_reducible assumption) ?_)

theorem State.requench_kept0 {s : State} : Kept 8388616 s (State.requench s) := by
  unfold State.requench
  repeat' first
    | (intro)
    | with_reducible assumption
    | with_reducible exact Kept.refl _ _
    | exact Eq.refl _
    | (with_reducible apply Kept.step State.modRing_kept)
    | (with_reducible refine Kept.fold ?_ ?_)
    | (with_reducible refine Kept.foldSnd ?_ ?_)
    | (with_reducible refine Kept.foldFst ?_ ?_)

theorem State.requench_out {s : State} : Out s (State.requench s) := by
  unfold State.requench
  generalize s.hif.rings = l
  have g : ∀ u : State, Out u (l.foldl (fun s e => s.modRing e.1 (fput Ring.QUENCHED (b2n (s.quenched e.1 (fget Ring.FUNC e.2))))) u) := by
    induction l with
    | nil => exact fun u => Out.refl u
    | cons e l ih => exact fun u => (Out.modRing (samePlace_fput Ring.QUENCHED _ _ (by decide))).trans (ih _)
  exact g s

theorem State.requench_kept {s : State} : Kept 8 s (State.requench s) :=
  State.requench_kept0.withOut State.requench_out rfl

theorem State.fnQuench_kept {fn : Nat} {v : Bool} {s : State} : Kept 4194318 s (State.fnQuench fn v s) := by
  unfold State.fnQuench
  repeat' first
    | (intro)
    | with_reducible assumption
    | with_reducible exact Kept.refl _ _
    | exact Eq.refl _
    | (with_reducible apply Kept.step State.requench_kept)
    | (with_reducible apply Kept.step State.wf_kept)

theorem execFnQuenchWrite_kept {t : Nat} {req : Nat} {fn : Nat} {v : Bool} {s : State} : KeptO 7865727 s (execFnQuenchWrite t req fn v s) := by
  unfold execFnQuenchWrite
  repeat' first
    | (intro)
    | with_reducible assumption
    | with_reducible exact Kept.refl _ _
    | exact Eq.refl _
    | split
    | (with_reducible refine KeptO.next ?_)
    | (with_reducible apply Kept.step State.fnQuench_kept)
    | (with_reducible apply Kept.step State.pageOk_kept)
    | (with_reducible apply KeptO.lift State.done_kept)
    | (with_reducible apply Kept.step State.at__kept)
    | (with_reducible refine Kept.snd (by with_reducible assumption) ?_)
    | (with_reducible refine Kept.fst (by with_reducible assumption) ?_)

theorem State.admEn_kept {fn : Nat} {v : Bool} {s : State} : Kept 15204414 s (State.admEn fn v s) := by
  unfold State.admEn
  repeat' first
    | (intro)
    | with_reducible assumption
    | with_reducible exact Kept.refl _ _
    | exact Eq.refl _
    | (extract_lets +onlyGivenNames x
       first
       | (have hx : Kept 15204414 s x := ?_
          clear_value x
          rotate_left
          subst x
          rotate_left)
       | clear_value x)
    | split
    | (with_reducible apply Kept.step State.ringGone_kept)
    | (with_reducible apply Kept.step State.denied_kept)
    | (with_reducible apply Kept.step State.setRing_kept)
    | (with_reducible apply Kept.step State.drop_kept)
    | (with_reducible apply Kept.step State.bump_kept)
    | (with_reducible apply Kept.step State.wf_kept)
    | (with_reducible apply Kept.step (State.onHif_kept' ?_))
    | (with_reducible refine Kept.snd (by with_reducible assumption) ?_)
    | (with_reducible refine Kept.fst (by with_reducible assumption) ?_)

theorem execAdmEnWrite_kept {t : Nat} {req : Nat} {fn : Nat} {v : Bool} {s : State} : KeptO 16254335 s (execAdmEnWrite t req fn v s) := by
  unfold execAdmEnWrite
  repeat' first
    | (intro)
    | with_reducible assumption
    | with_reducible exact Kept.refl _ _
    | exact Eq.refl _
    | split
    | (with_reducible refine KeptO.next ?_)
    | (with_reducible apply Kept.step State.admEn_kept)
    | (with_reducible apply Kept.step State.pageOk_kept)
    | (with_reducible apply KeptO.lift State.done_kept)
    | (with_reducible apply Kept.step State.at__kept)
    | (with_reducible refine Kept.snd (by with_reducible assumption) ?_)
    | (with_reducible refine Kept.fst (by with_reducible assumption) ?_)

theorem State.hifQuench_kept {v : Nat} {s : State} : Kept 4194318 s (State.hifQuench v s) := by
  unfold State.hifQuench
  repeat' first
    | (intro)
    | with_reducible assumption
    | with_reducible exact Kept.refl _ _
    | exact Eq.refl _
    | split
    | (with_reducible apply Kept.step State.requench_kept)
    | (with_reducible apply Kept.step State.bump_kept)
    | (with_reducible apply Kept.step State.wf_kept)
    | (with_reducible refine Kept.snd (by with_reducible assumption) ?_)
    | (with_reducible refine Kept.fst (by with_reducible assumption) ?_)

theorem execHifQuenchWrite_kept {t : Nat} {req : Nat} {v : Nat} {s : State} : KeptO 7865727 s (execHifQuenchWrite t req v s) := by
  unfold execHifQuenchWrite
  repeat' first
    | (intro)
    | with_reducible assumption
    | with_reducible exact Kept.refl _ _
    | exact Eq.refl _
    | (extract_lets +onlyGivenNames x
       first
       | (have hx : Kept 7865727 s x := ?_
          clear_value x
          rotate_left
          subst x
          rotate_left)
       | clear_value x)
    | split
    | (with_reducible refine KeptO.next ?_)
    | (with_reducible apply Kept.step State.hifQuench_kept)
    | (with_reducible apply KeptO.lift State.done_kept)
    | (with_reducible apply Kept.step State.denied_kept)
    | (with_reducible apply Kept.step State.at__kept)
    | (with_reducible refine Kept.snd (by with_reducible assumption) ?_)
    | (with_reducible refine Kept.fst (by with_reducible assumption) ?_)

theorem State.hifReady_kept {s : State} : Kept 6815790 s (State.hifReady s) := by
  unfold State.hifReady
  repeat' first
    | (intro)
    | with_reducible assumption
    | with_reducible exact Kept.refl _ _
    | exact Eq.refl _
    | split
    | (with_reducible apply Kept.step State.setReady_kept)
    | (with_reducible apply Kept.step State.wf_kept)
    | (with_reducible refine Kept.fold ?_ ?_)

theorem execHostLinkTrained_kept {t : Nat} {gen : Nat} {width : Nat} {flit : Bool} {s : State} : KeptO 7865727 s (execHostLinkTrained t gen width flit s) := by
  unfold execHostLinkTrained
  repeat' first
    | (intro)
    | with_reducible assumption
    | with_reducible exact Kept.refl _ _
    | exact Eq.refl _
    | split
    | (with_reducible refine KeptO.next ?_)
    | (with_reducible apply KeptO.lift State.done_kept)
    | (with_reducible apply Kept.step State.hifReady_kept)
    | (with_reducible apply Kept.step State.at__kept)
    | (with_reducible apply Kept.step State.wf_kept)
    | (with_reducible apply Kept.step (State.onHif_kept' ?_))
    | (with_reducible refine Kept.snd (by with_reducible assumption) ?_)
    | (with_reducible refine Kept.fst (by with_reducible assumption) ?_)

end Sys2Proof.Machine
end

