-- ==== Sys2Proof/Laws/KeptImgOps.lean ====
section
/-! SUPPORT. What the operations of Machine/ImgOps.lean leave alone. -/

set_option linter.tactic.unusedName false

namespace Sys2Proof.Machine

set_option Elab.async false

theorem State.restoreRegs_kept {img : Tab Word} {own : Nat → Bool} {s : State} : Kept 4194310 s (State.restoreRegs img own s) := by
  unfold State.restoreRegs
  repeat' first
    | (intro)
    | with_reducible assumption
    | with_reducible exact Kept.refl _ _
    | exact Eq.refl _
    | (with_reducible apply Kept.step State.wr_kept)
    | (with_reducible refine Kept.fold ?_ ?_)
    | (with_reducible refine Kept.foldSnd ?_ ?_)
    | (with_reducible refine Kept.foldFst ?_ ?_)

theorem State.clearRegs_kept {own : Nat → Bool} {s : State} : Kept 4194310 s (State.clearRegs own s) := by
  unfold State.clearRegs
  repeat' first
    | (intro)
    | with_reducible assumption
    | with_reducible exact Kept.refl _ _
    | exact Eq.refl _
    | (with_reducible apply Kept.step State.wr_kept)
    | (with_reducible refine Kept.fold ?_ ?_)
    | (with_reducible refine Kept.foldSnd ?_ ?_)
    | (with_reducible refine Kept.foldFst ?_ ?_)

theorem State.setSlot_kept {k : Nat} {x : Option Slot} {s : State} : Kept 131072 s (State.setSlot k x s) := by
  unfold State.setSlot
  repeat' first
    | (intro)
    | with_reducible assumption
    | with_reducible exact Kept.refl _ _
    | exact Eq.refl _
    | (with_reducible apply Kept.step State.onImg_kept)

theorem State.writeBlock_kept {b : Nat} {s : State} : Kept 4325382 s (State.writeBlock b s) := by
  unfold State.writeBlock
  repeat' first
    | (intro)
    | with_reducible assumption
    | with_reducible exact Kept.refl _ _
    | exact Eq.refl _
    | (with_reducible apply Kept.step State.setSlot_kept)
    | (with_reducible apply Kept.step State.bump_kept)
    | (with_reducible apply Kept.step State.onImg_kept)

theorem State.writeLoops_kept {s : State} : Kept 131072 s (State.writeLoops s) := by
  unfold State.writeLoops
  repeat' first
    | (intro)
    | with_reducible assumption
    | with_reducible exact Kept.refl _ _
    | exact Eq.refl _
    | (with_reducible apply Kept.step State.setSlot_kept)
    | (with_reducible apply Kept.step State.onImg_kept)

theorem State.targetGauge_kept {s : State} : Kept 4194310 s (State.targetGauge s) := by
  unfold State.targetGauge
  repeat' first
    | (intro)
    | with_reducible assumption
    | with_reducible exact Kept.refl _ _
    | exact Eq.refl _
    | (with_reducible apply Kept.step State.wf_kept)

theorem State.chooseShow_kept {s : State} : Kept 4325382 s (State.chooseShow s) := by
  unfold State.chooseShow
  repeat' first
    | (intro)
    | with_reducible assumption
    | with_reducible exact Kept.refl _ _
    | exact Eq.refl _
    | (with_reducible apply Kept.step State.targetGauge_kept)
    | (with_reducible apply Kept.step State.wf_kept)
    | (with_reducible apply Kept.step State.onImg_kept)

theorem State.choose_kept {s : State} : Kept 4325382 s (State.choose s) := by
  unfold State.choose
  repeat' first
    | (intro)
    | with_reducible assumption
    | with_reducible exact Kept.refl _ _
    | exact Eq.refl _
    | split
    | (with_reducible apply Kept.step State.chooseShow_kept)
    | (with_reducible apply Kept.step State.wf_kept)
    | (with_reducible apply Kept.step State.onImg_kept)
    | (with_reducible refine Kept.snd (by with_reducible assumption) ?_)
    | (with_reducible refine Kept.fst (by with_reducible assumption) ?_)

theorem State.chooseMain_kept {s : State} : Kept 4325382 s (State.chooseMain s) := by
  unfold State.chooseMain
  repeat' first
    | (intro)
    | with_reducible assumption
    | with_reducible exact Kept.refl _ _
    | exact Eq.refl _
    | split
    | (with_reducible apply Kept.step State.choose_kept)
    | (with_reducible apply Kept.step State.chooseShow_kept)
    | (with_reducible refine Kept.snd (by with_reducible assumption) ?_)
    | (with_reducible refine Kept.fst (by with_reducible assumption) ?_)

theorem State.addRec_kept {kind : Nat} {slot : Nat} {issuer : Nat} {gen : Nat} {crc : Nat} {s : State} : Kept 131072 s (State.addRec kind slot issuer gen crc s) := by
  unfold State.addRec
  repeat' first
    | (intro)
    | with_reducible assumption
    | with_reducible exact Kept.refl _ _
    | exact Eq.refl _
    | (with_reducible apply Kept.step State.onImg_kept)

theorem State.commitBegin_kept {issuer : Nat} {ring : Nat} {tag : Nat} {s : State} : Kept 5373958 s (State.commitBegin issuer ring tag s) := by
  unfold State.commitBegin
  repeat' first
    | (intro)
    | with_reducible assumption
    | with_reducible exact Kept.refl _ _
    | exact Eq.refl _
    | (with_reducible apply Kept.step State.addRec_kept)
    | (with_reducible apply Kept.step State.setSlot_kept)
    | (with_reducible apply Kept.step State.wf_kept)
    | (with_reducible apply Kept.step State.fresh_kept)
    | (with_reducible apply Kept.step State.onImg_kept)

theorem State.confirmAll_kept {s : State} : Kept 4194566 s (State.confirmAll s).2 := by
  unfold State.confirmAll
  repeat' first
    | (intro)
    | with_reducible assumption
    | with_reducible exact Kept.refl _ _
    | exact Eq.refl _
    | (with_reducible apply Kept.step State.confirmPt_kept)
    | (with_reducible apply Kept.step State.requal_kept)
    | (with_reducible apply Kept.step State.wf_kept)
    | (with_reducible refine Kept.fold ?_ ?_)
    | (with_reducible refine Kept.foldSnd ?_ ?_)
    | (with_reducible refine Kept.foldFst ?_ ?_)

theorem State.copiesOut_kept {s : State} : Kept 131072 s (State.copiesOut s) := by
  unfold State.copiesOut
  repeat' first
    | (intro)
    | with_reducible assumption
    | with_reducible exact Kept.refl _ _
    | exact Eq.refl _
    | (with_reducible apply Kept.step State.onImg_kept)
    | (with_reducible refine Kept.fold ?_ ?_)
    | (with_reducible refine Kept.foldSnd ?_ ?_)
    | (with_reducible refine Kept.foldFst ?_ ?_)

theorem State.commitEnd_kept {c : Commit} {s : State} : Kept 6422798 s (State.commitEnd c s) := by
  unfold State.commitEnd
  repeat' first
    | (intro)
    | with_reducible assumption
    | with_reducible exact Kept.refl _ _
    | exact Eq.refl _
    | split
    | (with_reducible apply Kept.step State.copiesOut_kept)
    | (with_reducible apply Kept.step State.confirmAll_kept)
    | (with_reducible apply Kept.step State.addRec_kept)
    | (with_reducible apply Kept.step State.targetGauge_kept)
    | (with_reducible apply Kept.step State.setSlot_kept)
    | (with_reducible apply Kept.step State.finishCmd_kept)
    | (with_reducible apply Kept.step State.bump_kept)
    | (with_reducible apply Kept.step State.wf_kept)
    | (with_reducible apply Kept.step State.onImg_kept)
    | (with_reducible refine Kept.fold ?_ ?_)
    | (with_reducible refine Kept.foldSnd ?_ ?_)
    | (with_reducible refine Kept.foldFst ?_ ?_)
    | (with_reducible refine Kept.snd (by with_reducible assumption) ?_)
    | (with_reducible refine Kept.fst (by with_reducible assumption) ?_)

theorem State.commitStop_kept {s : State} : Kept 6422542 s (State.commitStop s) := by
  unfold State.commitStop
  repeat' first
    | (intro)
    | with_reducible assumption
    | with_reducible exact Kept.refl _ _
    | exact Eq.refl _
    | split
    | (with_reducible apply Kept.step State.targetGauge_kept)
    | (with_reducible apply Kept.step State.finishCmd_kept)
    | (with_reducible apply Kept.step State.wf_kept)
    | (with_reducible apply Kept.step State.onImg_kept)
    | (with_reducible refine Kept.snd (by with_reducible assumption) ?_)
    | (with_reducible refine Kept.fst (by with_reducible assumption) ?_)

end Sys2Proof.Machine
end

