-- ==== Sys2Proof/Laws/KeptRestOps.lean ====
section
/-! SUPPORT. What the operations of Machine/RestOps.lean leave alone. -/

set_option linter.tactic.unusedName false

namespace Sys2Proof.Machine

set_option Elab.async false

theorem State.relink_kept {s : State} : Kept 512 s (State.relink s) := by
  unfold State.relink
  repeat' first
    | (intro)
    | with_reducible assumption
    | with_reducible exact Kept.refl _ _
    | exact Eq.refl _
    | (with_reducible apply Kept.step State.wheelPut_kept)
    | (with_reducible refine Kept.fold ?_ ?_)
    | (with_reducible refine Kept.foldSnd ?_ ?_)
    | (with_reducible refine Kept.foldFst ?_ ?_)

theorem State.onlyPts_kept {is_ : List Nat} {s : State} : Kept 768 s (State.onlyPts is_ s) := by
  unfold State.onlyPts
  repeat' first
    | (intro)
    | with_reducible assumption
    | with_reducible exact Kept.refl _ _
    | exact Eq.refl _
    | (with_reducible apply Kept.step State.relink_kept)
    | (with_reducible apply Kept.step State.onAlm_kept)
    | (with_reducible apply Kept.step State.onPts_kept)

theorem State.almGauges_kept {s : State} : Kept 4194310 s (State.almGauges s) := by
  unfold State.almGauges
  repeat' first
    | (intro)
    | with_reducible assumption
    | with_reducible exact Kept.refl _ _
    | exact Eq.refl _
    | (with_reducible apply Kept.step State.wf_kept)
    | (with_reducible refine Kept.fold ?_ ?_)
    | (with_reducible refine Kept.foldSnd ?_ ?_)
    | (with_reducible refine Kept.foldFst ?_ ?_)

theorem State.restoreCond_kept {i : Nat} {c : Nat} {cfg : Rec 64} {x : Rec 16} {kept : Option Nat} {usable : Bool} {s : State} : Kept 512 s (State.restoreCond i c cfg x kept usable s) := by
  unfold State.restoreCond
  repeat' first
    | (intro)
    | with_reducible assumption
    | with_reducible exact Kept.refl _ _
    | exact Eq.refl _
    | (with_reducible apply Kept.step State.setCondX_kept)
    | (with_reducible apply Kept.step State.setCond_kept)
    | (with_reducible apply Kept.step State.onAlm_kept)

theorem State.checkCfg_kept {i : Nat} {cfg : Nat} {s : State} : Kept 6815790 s (State.checkCfg i cfg s).2.2 := by
  unfold State.checkCfg
  repeat' first
    | (intro)
    | with_reducible assumption
    | with_reducible exact Kept.refl _ _
    | exact Eq.refl _
    | split
    | (with_reducible apply Kept.step State.raise_kept)
    | (with_reducible apply Kept.step State.bump_kept)
    | (with_reducible refine Kept.snd (by with_reducible assumption) ?_)
    | (with_reducible refine Kept.fst (by with_reducible assumption) ?_)

theorem State.restorePoint_kept {m : Nat} {s0 : State} {i : Nat} {home : Nat} {cfg : Nat} {run : Option (Rec 32)} {unconf : Bool} {f : Nat → State → State} {s : State} (h0 : Kept m s0 s) (hm : 6816046 ||| m = m) (hf : ∀ (x0 : Nat) (x1 : State), Kept m s0 x1 → Kept m s0 (f x0 x1)) : Kept m s0 (State.restorePoint i home cfg run unconf f s) := by
  unfold State.restorePoint
  repeat' first
    | (intro)
    | with_reducible assumption
    | with_reducible exact Kept.refl _ _
    | exact Eq.refl _
    | (with_reducible refine Kept.ofId ?_)
    | exact lor_sub (by rfl) hm
    | (with_reducible apply Kept.step State.checkCfg_kept)
    | (with_reducible apply Kept.step State.mirrorBits_kept)
    | (with_reducible apply Kept.step State.requal_kept)
    | (with_reducible apply Kept.step State.setPx_kept)
    | (with_reducible apply Kept.step State.setPt_kept)
    | (with_reducible apply hf)
    | (with_reducible refine Kept.fold ?_ ?_)
    | (with_reducible refine Kept.foldSnd ?_ ?_)
    | (with_reducible refine Kept.foldFst ?_ ?_)

theorem State.restoreImgPt_kept {x : Slot} {unconf : Bool} {i : Nat} {cfg : Nat} {s : State} : Kept 6816558 s (State.restoreImgPt x unconf i cfg s) := by
  unfold State.restoreImgPt
  repeat' first
    | (intro)
    | with_reducible assumption
    | with_reducible exact Kept.refl _ _
    | exact Eq.refl _
    | (with_reducible refine Kept.ofId ?_)
    | (with_reducible apply State.restorePoint_kept)
    | (with_reducible apply Kept.step State.restoreCond_kept)

theorem State.restorePts_kept {x : Slot} {s : State} : Kept 6816558 s (State.restorePts x s) := by
  unfold State.restorePts
  repeat' first
    | (intro)
    | with_reducible assumption
    | with_reducible exact Kept.refl _ _
    | exact Eq.refl _
    | split
    | (with_reducible apply Kept.step State.restoreImgPt_kept)
    | (with_reducible apply Kept.step State.almGauges_kept)
    | (with_reducible apply Kept.step State.onlyPts_kept)
    | (with_reducible apply Kept.step State.aiFollow_kept)
    | (with_reducible apply Kept.step State.tileGates_kept)
    | (with_reducible refine Kept.fold ?_ ?_)
    | (with_reducible refine Kept.foldSnd ?_ ?_)
    | (with_reducible refine Kept.foldFst ?_ ?_)
    | (with_reducible refine Kept.snd (by with_reducible assumption) ?_)
    | (with_reducible refine Kept.fst (by with_reducible assumption) ?_)

theorem State.restoreCopies_kept {s : State} : Kept 6816558 s (State.restoreCopies s) := by
  unfold State.restoreCopies
  repeat' first
    | (intro)
    | with_reducible assumption
    | with_reducible exact Kept.refl _ _
    | exact Eq.refl _
    | (with_reducible refine Kept.ofId ?_)
    | (with_reducible apply State.restorePoint_kept)
    | (with_reducible apply Kept.step State.restoreCond_kept)
    | (with_reducible apply Kept.step State.almGauges_kept)
    | (with_reducible apply Kept.step State.onlyPts_kept)
    | (with_reducible apply Kept.step State.aiFollow_kept)
    | (with_reducible refine Kept.fold ?_ ?_)
    | (with_reducible refine Kept.foldSnd ?_ ?_)
    | (with_reducible refine Kept.foldFst ?_ ?_)

theorem State.restoreSecs_kept {x : Slot} {s : State} : Kept 1024 s (State.restoreSecs x s) := by
  unfold State.restoreSecs
  repeat' first
    | (intro)
    | with_reducible assumption
    | with_reducible exact Kept.refl _ _
    | exact Eq.refl _
    | (with_reducible apply Kept.step State.onSec_kept)

theorem State.restoreCmw_kept {x : Slot} {s : State} : Kept 2048 s (State.restoreCmw x s) := by
  unfold State.restoreCmw
  repeat' first
    | (intro)
    | with_reducible assumption
    | with_reducible exact Kept.refl _ _
    | exact Eq.refl _
    | (with_reducible apply Kept.step State.onCmw_kept)
    | (with_reducible refine Kept.fold ?_ ?_)
    | (with_reducible refine Kept.foldSnd ?_ ?_)
    | (with_reducible refine Kept.foldFst ?_ ?_)

theorem State.restoreLoops_kept {x : Slot} {kept : List Nat} {s : State} : Kept 6820142 s (State.restoreLoops x kept s) := by
  unfold State.restoreLoops
  repeat' first
    | (intro)
    | with_reducible assumption
    | with_reducible exact Kept.refl _ _
    | exact Eq.refl _
    | (with_reducible apply Kept.step State.loopRestore_kept)
    | (with_reducible apply Kept.step State.ctlGauges_kept)
    | (with_reducible apply Kept.step State.onCtl_kept)
    | (with_reducible refine Kept.fold ?_ ?_)
    | (with_reducible refine Kept.foldSnd ?_ ?_)
    | (with_reducible refine Kept.foldFst ?_ ?_)

theorem State.rebuildSectors_kept {s : State} : Kept 4195334 s (State.rebuildSectors s) := by
  unfold State.rebuildSectors
  repeat' first
    | (intro)
    | with_reducible assumption
    | with_reducible exact Kept.refl _ _
    | exact Eq.refl _
    | (extract_lets +onlyGivenNames x
       first
       | (have hx : Kept 4195334 s x := ?_
          clear_value x
          rotate_left
          subst x
          rotate_left)
       | clear_value x)
    | split
    | (with_reducible apply Kept.step State.edgeGauges_kept)
    | (with_reducible apply Kept.step State.causeState_kept)
    | (with_reducible apply Kept.step State.fanOut_kept)
    | (with_reducible apply Kept.step State.reMember_kept)
    | (with_reducible apply Kept.step State.sectFlags_kept)
    | (with_reducible apply Kept.step State.setSect_kept)
    | (with_reducible apply Kept.step State.onSec_kept)
    | (with_reducible refine Kept.fold ?_ ?_)
    | (with_reducible refine Kept.foldSnd ?_ ?_)
    | (with_reducible refine Kept.foldFst ?_ ?_)
    | (with_reducible refine Kept.snd (by with_reducible assumption) ?_)
    | (with_reducible refine Kept.fst (by with_reducible assumption) ?_)

theorem State.restoreLship_kept {s : State} : Kept 4210694 s (State.restoreLship s) := by
  unfold State.restoreLship
  repeat' first
    | (intro)
    | with_reducible assumption
    | with_reducible exact Kept.refl _ _
    | exact Eq.refl _
    | (with_reducible apply Kept.step State.restoreRegs_kept)
    | (with_reducible apply Kept.step State.onLtn_kept)

theorem State.restoreAll_kept {s : State} : Kept 6954926 s (State.restoreAll s) := by
  unfold State.restoreAll
  repeat' first
    | (intro)
    | with_reducible assumption
    | with_reducible exact Kept.refl _ _
    | exact Eq.refl _
    | (with_reducible apply Kept.step State.restoreLoops_kept)
    | (with_reducible apply Kept.step State.restoreCmw_kept)
    | (with_reducible apply Kept.step State.restoreSecs_kept)
    | (with_reducible apply Kept.step State.restorePts_kept)
    | (with_reducible apply Kept.step State.targetGauge_kept)
    | (with_reducible apply Kept.step State.restoreRegs_kept)
    | (with_reducible apply Kept.step State.cmwGauges_kept)
    | (with_reducible apply Kept.step State.edgeGauges_kept)
    | (with_reducible apply Kept.step State.setMark_kept)
    | (with_reducible apply Kept.step State.wf_kept)
    | (with_reducible apply Kept.step State.onAlm_kept)
    | (with_reducible apply Kept.step State.onFab_kept)

end Sys2Proof.Machine
end

