-- ==== Sys2Proof/Laws/KeptKprOps.lean ====
section
/-! SUPPORT. What the operations of Machine/KprOps.lean leave alone. -/

set_option linter.tactic.unusedName false

namespace Sys2Proof.Machine

set_option Elab.async false

theorem State.setBank_kept {k : Nat} {b : Bank} {s : State} : Kept 4718598 s (State.setBank k b s) := by
  unfold State.setBank
  repeat' first
    | (intro)
    | with_reducible assumption
    | with_reducible exact Kept.refl _ _
    | exact Eq.refl _
    | (with_reducible apply Kept.step State.wf_kept)
    | (with_reducible apply Kept.step State.onKpr_kept)

theorem State.spoilBank_kept {k : Nat} {s : State} : Kept 4718598 s (State.spoilBank k s) := by
  unfold State.spoilBank
  repeat' first
    | (intro)
    | with_reducible assumption
    | with_reducible exact Kept.refl _ _
    | exact Eq.refl _
    | (with_reducible apply Kept.step State.setBank_kept)

theorem State.setBoot_kept {b : Boot} {s : State} : Kept 4718598 s (State.setBoot b s) := by
  unfold State.setBoot
  repeat' first
    | (intro)
    | with_reducible assumption
    | with_reducible exact Kept.refl _ _
    | exact Eq.refl _
    | (with_reducible apply Kept.step State.wf_kept)
    | (with_reducible apply Kept.step State.onKpr_kept)

theorem State.tracePut_kept {code : Nat} {a : Nat} {b : Nat} {s : State} : Kept 5767174 s (State.tracePut code a b s) := by
  unfold State.tracePut
  repeat' first
    | (intro)
    | with_reducible assumption
    | with_reducible exact Kept.refl _ _
    | exact Eq.refl _
    | split
    | (with_reducible apply Kept.step State.wf_kept)
    | (with_reducible apply Kept.step State.fresh_kept)
    | (with_reducible apply Kept.step State.onKpr_kept)
    | (with_reducible refine Kept.snd (by with_reducible assumption) ?_)
    | (with_reducible refine Kept.fst (by with_reducible assumption) ?_)

theorem State.updGauge_kept {s : State} : Kept 4194310 s (State.updGauge s) := by
  unfold State.updGauge
  repeat' first
    | (intro)
    | with_reducible assumption
    | with_reducible exact Kept.refl _ _
    | exact Eq.refl _
    | split
    | (with_reducible apply Kept.step State.wf_kept)
    | (with_reducible refine Kept.snd (by with_reducible assumption) ?_)
    | (with_reducible refine Kept.fst (by with_reducible assumption) ?_)

theorem State.updClose_kept {s : State} : Kept 4718598 s (State.updClose s) := by
  unfold State.updClose
  repeat' first
    | (intro)
    | with_reducible assumption
    | with_reducible exact Kept.refl _ _
    | exact Eq.refl _
    | split
    | (with_reducible apply Kept.step State.updGauge_kept)
    | (with_reducible apply Kept.step State.spoilBank_kept)
    | (with_reducible apply Kept.step State.onKpr_kept)
    | (with_reducible refine Kept.snd (by with_reducible assumption) ?_)
    | (with_reducible refine Kept.fst (by with_reducible assumption) ?_)

theorem State.updBegin_kept {src : Nat} {bank : Nat} {len : Nat} {s : State} : Kept 6815790 s (State.updBegin src bank len s) := by
  unfold State.updBegin
  repeat' first
    | (intro)
    | with_reducible assumption
    | with_reducible exact Kept.refl _ _
    | exact Eq.refl _
    | split
    | (with_reducible apply Kept.step State.updGauge_kept)
    | (with_reducible apply Kept.step State.setBoot_kept)
    | (with_reducible apply Kept.step State.setBank_kept)
    | (with_reducible apply Kept.step State.raise_kept)
    | (with_reducible apply Kept.step State.onKpr_kept)
    | (with_reducible refine Kept.snd (by with_reducible assumption) ?_)
    | (with_reducible refine Kept.fst (by with_reducible assumption) ?_)

theorem State.updData_kept {n : Nat} {data : Nat} {s : State} : Kept 4718598 s (State.updData n data s) := by
  unfold State.updData
  repeat' first
    | (intro)
    | with_reducible assumption
    | with_reducible exact Kept.refl _ _
    | exact Eq.refl _
    | split
    | (with_reducible apply Kept.step State.updGauge_kept)
    | (with_reducible apply Kept.step State.setBank_kept)
    | (with_reducible apply Kept.step State.onKpr_kept)
    | (with_reducible refine Kept.snd (by with_reducible assumption) ?_)
    | (with_reducible refine Kept.fst (by with_reducible assumption) ?_)

theorem State.updEnd_kept {s : State} : Kept 7864382 s (State.updEnd s).2 := by
  unfold State.updEnd
  repeat' first
    | (intro)
    | with_reducible assumption
    | with_reducible exact Kept.refl _ _
    | exact Eq.refl _
    | split
    | (with_reducible apply Kept.step State.updClose_kept)
    | (with_reducible apply Kept.step State.setBank_kept)
    | (with_reducible apply Kept.step State.raise_kept)
    | (with_reducible apply Kept.step State.wf_kept)
    | (with_reducible apply Kept.step State.fresh_kept)
    | (with_reducible apply Kept.step State.onWld_kept)
    | (with_reducible refine Kept.snd (by with_reducible assumption) ?_)
    | (with_reducible refine Kept.fst (by with_reducible assumption) ?_)

theorem State.keeperReset_kept {cause : Nat} {s : State} : Kept 6946846 s (State.keeperReset cause s) := by
  unfold State.keeperReset
  repeat' first
    | (intro)
    | with_reducible assumption
    | with_reducible exact Kept.refl _ _
    | exact Eq.refl _
    | split
    | (with_reducible apply Kept.step State.updClose_kept)
    | (with_reducible apply Kept.step State.commitStop_kept)
    | (with_reducible apply Kept.step State.bcnSettle_kept)
    | (with_reducible apply Kept.step State.clearReady_kept)
    | (with_reducible apply Kept.step State.finishCmd_kept)
    | (with_reducible apply Kept.step State.wf_kept)
    | (with_reducible apply Kept.step State.onKpr_kept)
    | (with_reducible apply Kept.step State.onWld_kept)
    | (with_reducible refine Kept.snd (by with_reducible assumption) ?_)
    | (with_reducible refine Kept.fst (by with_reducible assumption) ?_)

theorem State.updActivate_kept {bank : Nat} {s : State} : Kept 6946878 s (State.updActivate bank s) := by
  unfold State.updActivate
  repeat' first
    | (intro)
    | with_reducible assumption
    | with_reducible exact Kept.refl _ _
    | exact Eq.refl _
    | (extract_lets +onlyGivenNames x
       first
       | (have hx : Kept 6946878 s x := ?_
          clear_value x
          rotate_left
          subst x
          rotate_left)
       | clear_value x)
    | split
    | (with_reducible apply Kept.step State.keeperReset_kept)
    | (with_reducible apply Kept.step State.setBoot_kept)
    | (with_reducible apply Kept.step State.raise_kept)
    | (with_reducible refine Kept.snd (by with_reducible assumption) ?_)
    | (with_reducible refine Kept.fst (by with_reducible assumption) ?_)

theorem State.updDo_kept {src : Nat} {sub : Nat} {bank : Nat} {arg : Nat} {n : Nat} {data : Nat} {s : State} : Kept 7995454 s (State.updDo src sub bank arg n data s).2 := by
  unfold State.updDo
  repeat' first
    | (intro)
    | with_reducible assumption
    | with_reducible exact Kept.refl _ _
    | exact Eq.refl _
    | split
    | (with_reducible apply Kept.step State.updActivate_kept)
    | (with_reducible apply Kept.step State.updEnd_kept)
    | (with_reducible apply Kept.step State.updData_kept)
    | (with_reducible apply Kept.step State.updBegin_kept)
    | (with_reducible apply Kept.step State.updClose_kept)
    | (with_reducible refine Kept.snd (by with_reducible assumption) ?_)
    | (with_reducible refine Kept.fst (by with_reducible assumption) ?_)

theorem State.bankStart_kept {k : Nat} {s : State} : Kept 4718598 s (State.bankStart k s) := by
  unfold State.bankStart
  repeat' first
    | (intro)
    | with_reducible assumption
    | with_reducible exact Kept.refl _ _
    | exact Eq.refl _
    | (with_reducible apply Kept.step State.wf_kept)
    | (with_reducible apply Kept.step State.onKpr_kept)

theorem State.recover_kept {s : State} : Kept 6815790 s (State.recover s) := by
  unfold State.recover
  repeat' first
    | (intro)
    | with_reducible assumption
    | with_reducible exact Kept.refl _ _
    | exact Eq.refl _
    | (with_reducible apply Kept.step State.bcnSettle_kept)
    | (with_reducible apply Kept.step State.raise_kept)
    | (with_reducible apply Kept.step State.wf_kept)
    | (with_reducible apply Kept.step State.onKpr_kept)

theorem State.romBoot_kept {corrupt : Nat} {s : State} : Kept 6815790 s (State.romBoot corrupt s) := by
  unfold State.romBoot
  repeat' first
    | (intro)
    | with_reducible assumption
    | with_reducible exact Kept.refl _ _
    | exact Eq.refl _
    | (extract_lets +onlyGivenNames x
       first
       | (have hx : Kept 6815790 s x := ?_
          clear_value x
          rotate_left
          subst x
          rotate_left)
       | clear_value x)
    | split
    | (with_reducible apply Kept.step State.recover_kept)
    | (with_reducible apply Kept.step State.bankStart_kept)
    | (with_reducible apply Kept.step State.setBoot_kept)
    | (with_reducible apply Kept.step State.spoilBank_kept)
    | (with_reducible apply Kept.step State.setBank_kept)
    | (with_reducible apply Kept.step State.raise_kept)
    | (with_reducible apply Kept.step State.wf_kept)
    | (with_reducible apply Kept.step State.onKpr_kept)
    | (with_reducible refine Kept.fold ?_ ?_)
    | (with_reducible refine Kept.foldSnd ?_ ?_)
    | (with_reducible refine Kept.foldFst ?_ ?_)
    | (with_reducible refine Kept.snd (by with_reducible assumption) ?_)
    | (with_reducible refine Kept.fst (by with_reducible assumption) ?_)

theorem State.keeperUp_kept {s : State} : Kept 7864366 s (State.keeperUp s) := by
  unfold State.keeperUp
  repeat' first
    | (intro)
    | with_reducible assumption
    | with_reducible exact Kept.refl _ _
    | exact Eq.refl _
    | split
    | (with_reducible apply Kept.step State.tracePut_kept)
    | (with_reducible apply Kept.step State.setReady_kept)
    | (with_reducible apply Kept.step State.raise_kept)
    | (with_reducible apply Kept.step State.wf_kept)
    | (with_reducible apply Kept.step State.onKpr_kept)
    | (with_reducible refine Kept.snd (by with_reducible assumption) ?_)
    | (with_reducible refine Kept.fst (by with_reducible assumption) ?_)

theorem State.logWrite_kept {code : Nat} {t : Nat} {payload : Nat} {s : State} : Kept 5767174 s (State.logWrite code t payload s) := by
  unfold State.logWrite
  repeat' first
    | (intro)
    | with_reducible assumption
    | with_reducible exact Kept.refl _ _
    | exact Eq.refl _
    | (with_reducible apply Kept.step State.tracePut_kept)
    | (with_reducible apply Kept.step State.wf_kept)
    | (with_reducible apply Kept.step State.onKpr_kept)

theorem State.logAll_kept {s : State} : Kept 5767174 s (State.logAll s) := by
  unfold State.logAll
  repeat' first
    | (intro)
    | with_reducible assumption
    | with_reducible exact Kept.refl _ _
    | exact Eq.refl _
    | (with_reducible apply Kept.step State.logWrite_kept)
    | (with_reducible apply Kept.step State.onKpr_kept)
    | (with_reducible refine Kept.fold ?_ ?_)
    | (with_reducible refine Kept.foldSnd ?_ ?_)
    | (with_reducible refine Kept.foldFst ?_ ?_)

theorem State.setSession_kept {p : Nat} {x : Option Session} {s : State} : Kept 4718598 s (State.setSession p x s) := by
  unfold State.setSession
  repeat' first
    | (intro)
    | with_reducible assumption
    | with_reducible exact Kept.refl _ _
    | exact Eq.refl _
    | split
    | (with_reducible apply Kept.step State.wf_kept)
    | (with_reducible apply Kept.step State.onKpr_kept)
    | (with_reducible refine Kept.snd (by with_reducible assumption) ?_)
    | (with_reducible refine Kept.fst (by with_reducible assumption) ?_)

theorem State.sessionEvent_kept {p : Nat} {what : Nat} {secure : Bool} {s : State} : Kept 6815784 s (State.sessionEvent p what secure s) := by
  unfold State.sessionEvent
  repeat' first
    | (intro)
    | with_reducible assumption
    | with_reducible exact Kept.refl _ _
    | exact Eq.refl _
    | split
    | (with_reducible apply Kept.step State.raise_kept)
    | (with_reducible refine Kept.snd (by with_reducible assumption) ?_)
    | (with_reducible refine Kept.fst (by with_reducible assumption) ?_)

theorem State.sessionClose_kept {p : Nat} {s : State} : Kept 6815790 s (State.sessionClose p s) := by
  unfold State.sessionClose
  repeat' first
    | (intro)
    | with_reducible assumption
    | with_reducible exact Kept.refl _ _
    | exact Eq.refl _
    | split
    | (with_reducible apply Kept.step State.sessionEvent_kept)
    | (with_reducible apply Kept.step State.setSession_kept)
    | (with_reducible refine Kept.snd (by with_reducible assumption) ?_)
    | (with_reducible refine Kept.fst (by with_reducible assumption) ?_)

theorem State.portReply_kept {p : Nat} {op : Nat} {st : Nat} {res0 : Nat} {res1 : Nat} {len : Nat} {data : Nat} {s : State} : Kept 524288 s (State.portReply p op st res0 res1 len data s) := by
  unfold State.portReply
  repeat' first
    | (intro)
    | with_reducible assumption
    | with_reducible exact Kept.refl _ _
    | exact Eq.refl _
    | (with_reducible apply Kept.step State.onKpr_kept)

theorem State.mailReply_kept {p : Nat} {r : Reply} {s : State} : Kept 524288 s (State.mailReply p r s) := by
  unfold State.mailReply
  repeat' first
    | (intro)
    | with_reducible assumption
    | with_reducible exact Kept.refl _ _
    | exact Eq.refl _
    | (with_reducible apply Kept.step State.portReply_kept)

theorem State.authFail_kept {p : Nat} {secure : Bool} {s : State} : Kept 6815790 s (State.authFail p secure s) := by
  unfold State.authFail
  repeat' first
    | (intro)
    | with_reducible assumption
    | with_reducible exact Kept.refl _ _
    | exact Eq.refl _
    | (extract_lets +onlyGivenNames x
       first
       | (have hx : Kept 6815790 s x := ?_
          clear_value x
          rotate_left
          subst x
          rotate_left)
       | clear_value x)
    | split
    | (with_reducible apply Kept.step State.portReply_kept)
    | (with_reducible apply Kept.step State.sessionEvent_kept)
    | (with_reducible apply Kept.step State.setSession_kept)
    | (with_reducible apply Kept.step State.bump_kept)
    | (with_reducible apply Kept.step State.onKpr_kept)
    | (with_reducible refine Kept.snd (by with_reducible assumption) ?_)
    | (with_reducible refine Kept.fst (by with_reducible assumption) ?_)

theorem State.sensEvent_kept {n : Nat} {what : Nat} {value : Nat} {s : State} : Kept 6815784 s (State.sensEvent n what value s) := by
  unfold State.sensEvent
  repeat' first
    | (intro)
    | with_reducible assumption
    | with_reducible exact Kept.refl _ _
    | exact Eq.refl _
    | (extract_lets +onlyGivenNames x
       first
       | (have hx : Kept 6815784 s x := ?_
          clear_value x
          rotate_left
          subst x
          rotate_left)
       | clear_value x)
    | split
    | (with_reducible apply Kept.step State.raise_kept)
    | (with_reducible apply Kept.step State.onKpr_kept)
    | (with_reducible refine Kept.snd (by with_reducible assumption) ?_)
    | (with_reducible refine Kept.fst (by with_reducible assumption) ?_)

theorem State.fanDrives_kept {ns : List Nat} {s : State} : Kept 4194310 s (State.fanDrives ns s) := by
  unfold State.fanDrives
  repeat' first
    | (intro)
    | with_reducible assumption
    | with_reducible exact Kept.refl _ _
    | exact Eq.refl _
    | (with_reducible apply Kept.step State.wf_kept)
    | (with_reducible refine Kept.fold ?_ ?_)
    | (with_reducible refine Kept.foldSnd ?_ ?_)
    | (with_reducible refine Kept.foldFst ?_ ?_)

theorem State.fanTo_kept {n : Nat} {st : Nat} {s : State} : Kept 4718598 s (State.fanTo n st s) := by
  unfold State.fanTo
  repeat' first
    | (intro)
    | with_reducible assumption
    | with_reducible exact Kept.refl _ _
    | exact Eq.refl _
    | (with_reducible apply Kept.step State.fanDrives_kept)
    | (with_reducible apply Kept.step State.wf_kept)
    | (with_reducible apply Kept.step State.onKpr_kept)

theorem State.fanStart_kept {n : Nat} {attempt : Nat} {s : State} : Kept 4718598 s (State.fanStart n attempt s) := by
  unfold State.fanStart
  repeat' first
    | (intro)
    | with_reducible assumption
    | with_reducible exact Kept.refl _ _
    | exact Eq.refl _
    | (with_reducible apply Kept.step State.fanTo_kept)
    | (with_reducible apply Kept.step State.wf_kept)

theorem State.fanOff_kept {n : Nat} {s : State} : Kept 4718598 s (State.fanOff n s) := by
  unfold State.fanOff
  repeat' first
    | (intro)
    | with_reducible assumption
    | with_reducible exact Kept.refl _ _
    | exact Eq.refl _
    | (with_reducible apply Kept.step State.fanTo_kept)
    | (with_reducible apply Kept.step State.wf_kept)

theorem State.fansFollow_kept {s : State} : Kept 4718598 s (State.fansFollow s) := by
  unfold State.fansFollow
  repeat' first
    | (intro)
    | with_reducible assumption
    | with_reducible exact Kept.refl _ _
    | exact Eq.refl _
    | (extract_lets +onlyGivenNames x
       first
       | (have hx : Kept 4718598 s x := ?_
          clear_value x
          rotate_left
          subst x
          rotate_left)
       | clear_value x)
    | split
    | (with_reducible apply Kept.step State.fanOff_kept)
    | (with_reducible apply Kept.step State.fanStart_kept)
    | (with_reducible refine Kept.fold ?_ ?_)
    | (with_reducible refine Kept.foldSnd ?_ ?_)
    | (with_reducible refine Kept.foldFst ?_ ?_)
    | (with_reducible refine Kept.snd (by with_reducible assumption) ?_)
    | (with_reducible refine Kept.fst (by with_reducible assumption) ?_)

theorem State.fanRead_kept {n : Nat} {rpm : Nat} {ma : Nat} {s : State} : Kept 4194310 s (State.fanRead n rpm ma s) := by
  unfold State.fanRead
  repeat' first
    | (intro)
    | with_reducible assumption
    | with_reducible exact Kept.refl _ _
    | exact Eq.refl _
    | (with_reducible apply Kept.step State.wf_kept)

end Sys2Proof.Machine
end

