-- ==== Sys2Proof/Laws/KeptPwrOps.lean ====
section
/-! SUPPORT. What the operations of Machine/PwrOps.lean leave alone. -/

set_option linter.tactic.unusedName false

namespace Sys2Proof.Machine

set_option Elab.async false

theorem State.scapClear_kept {s : State} : Kept 4210694 s (State.scapClear s) := by
  unfold State.scapClear
  repeat' first
    | (intro)
    | with_reducible assumption
    | with_reducible exact Kept.refl _ _
    | exact Eq.refl _
    | split
    | (with_reducible apply Kept.step State.panelResume_kept)
    | (with_reducible apply Kept.step State.wf_kept)
    | (with_reducible refine Kept.snd (by with_reducible assumption) ?_)
    | (with_reducible refine Kept.fst (by with_reducible assumption) ?_)

theorem State.scapRead_kept {mv : Nat} {s : State} : Kept 4194310 s (State.scapRead mv s) := by
  unfold State.scapRead
  repeat' first
    | (intro)
    | with_reducible assumption
    | with_reducible exact Kept.refl _ _
    | exact Eq.refl _
    | (with_reducible apply Kept.step State.wf_kept)

theorem State.feedSettle_kept {s : State} : Kept 7102510 s (State.feedSettle s) := by
  unfold State.feedSettle
  repeat' first
    | (intro)
    | with_reducible assumption
    | with_reducible exact Kept.refl _ _
    | exact Eq.refl _
    | (extract_lets +onlyGivenNames x
       first
       | (have hx : Kept 7102510 s x := ?_
          clear_value x
          rotate_left
          subst x
          rotate_left)
       | clear_value x)
    | split
    | (with_reducible apply Kept.step State.scapClear_kept)
    | (with_reducible apply Kept.step State.lrules_kept)
    | (with_reducible apply Kept.step State.raise_kept)
    | (with_reducible apply Kept.step State.wf_kept)
    | (with_reducible apply Kept.step State.onPwr_kept)
    | (with_reducible refine Kept.snd (by with_reducible assumption) ?_)
    | (with_reducible refine Kept.fst (by with_reducible assumption) ?_)

theorem State.keeperShow_kept {s : State} : Kept 16384 s (State.keeperShow s) := by
  unfold State.keeperShow
  repeat' first
    | (intro)
    | with_reducible assumption
    | with_reducible exact Kept.refl _ _
    | exact Eq.refl _
    | (extract_lets +onlyGivenNames x
       first
       | (have hx : Kept 16384 s x := ?_
          clear_value x
          rotate_left
          subst x
          rotate_left)
       | clear_value x)
    | split
    | (with_reducible apply Kept.step State.composeAsk_kept)
    | (with_reducible apply Kept.step State.onLtn_kept)
    | (with_reducible refine Kept.snd (by with_reducible assumption) ?_)
    | (with_reducible refine Kept.fst (by with_reducible assumption) ?_)

theorem State.keeperPass_kept {s : State} : Kept 7200942 s (State.keeperPass s) := by
  unfold State.keeperPass
  repeat' first
    | (intro)
    | with_reducible assumption
    | with_reducible exact Kept.refl _ _
    | exact Eq.refl _
    | (with_reducible refine Kept.ofId ?_)
    | (extract_lets +onlyGivenNames x
       first
       | (have hx : Kept 7200942 s x := ?_
          clear_value x
          rotate_left
          subst x
          rotate_left)
       | clear_value x)
    | split
    | (with_reducible apply Kept.step State.keeperShow_kept)
    | (with_reducible apply Kept.step State.changeRec_kept)
    | (with_reducible apply Kept.step State.bcnWatch_kept)
    | (with_reducible apply Kept.step State.tripTrigger_kept)
    | (with_reducible apply Kept.step State.lrules_kept)
    | (with_reducible apply State.keep_kept)
    | (with_reducible apply Kept.step State.onPwr_kept)
    | (with_reducible refine Kept.fold ?_ ?_)
    | (with_reducible refine Kept.foldSnd ?_ ?_)
    | (with_reducible refine Kept.foldFst ?_ ?_)
    | (with_reducible refine Kept.snd (by with_reducible assumption) ?_)
    | (with_reducible refine Kept.fst (by with_reducible assumption) ?_)

theorem State.lshipBegin_kept {seq : Nat} {s : State} : Kept 7094318 s (State.lshipBegin seq s) := by
  unfold State.lshipBegin
  repeat' first
    | (intro)
    | with_reducible assumption
    | with_reducible exact Kept.refl _ _
    | exact Eq.refl _
    | (with_reducible apply Kept.step State.lightSettle_kept)
    | (with_reducible apply Kept.step State.raise_kept)
    | (with_reducible apply Kept.step State.wf_kept)
    | (with_reducible apply Kept.step State.onPwr_kept)
    | (with_reducible apply Kept.step (State.onLdg_kept ?_))
    | (with_reducible refine Kept.fold ?_ ?_)
    | (with_reducible refine Kept.foldSnd ?_ ?_)
    | (with_reducible refine Kept.foldFst ?_ ?_)

theorem State.logicTo_kept {side : Nat} {s : State} : Kept 6823982 s (State.logicTo side s) := by
  unfold State.logicTo
  repeat' first
    | (intro)
    | with_reducible assumption
    | with_reducible exact Kept.refl _ _
    | exact Eq.refl _
    | split
    | (with_reducible apply Kept.step State.lioEvent_kept)
    | (with_reducible apply Kept.step State.wf_kept)
    | (with_reducible refine Kept.snd (by with_reducible assumption) ?_)
    | (with_reducible refine Kept.fst (by with_reducible assumption) ?_)

theorem State.sourceToKeeper_kept {cause : Nat} {s : State} : Kept 6832174 s (State.sourceToKeeper cause s) := by
  unfold State.sourceToKeeper
  repeat' first
    | (intro)
    | with_reducible assumption
    | with_reducible exact Kept.refl _ _
    | exact Eq.refl _
    | split
    | (with_reducible apply Kept.step State.keeperShow_kept)
    | (with_reducible apply Kept.step State.fallbackTile_kept)
    | (with_reducible apply Kept.step State.wf_kept)
    | (with_reducible refine Kept.snd (by with_reducible assumption) ?_)
    | (with_reducible refine Kept.fst (by with_reducible assumption) ?_)

theorem State.lshipOutputs_kept {s : State} : Kept 6823982 s (State.lshipOutputs s) := by
  unfold State.lshipOutputs
  repeat' first
    | (intro)
    | with_reducible assumption
    | with_reducible exact Kept.refl _ _
    | exact Eq.refl _
    | split
    | (with_reducible apply Kept.step State.dioSafe_kept)
    | (with_reducible apply Kept.step State.aoSafe_kept)
    | (with_reducible apply Kept.step State.pulseCut_kept)
    | (with_reducible refine Kept.fold ?_ ?_)
    | (with_reducible refine Kept.foldSnd ?_ ?_)
    | (with_reducible refine Kept.foldFst ?_ ?_)
    | (with_reducible refine Kept.snd (by with_reducible assumption) ?_)
    | (with_reducible refine Kept.fst (by with_reducible assumption) ?_)

theorem State.ledgerFail_kept {s : State} : Kept 6815854 s (State.ledgerFail s) := by
  unfold State.ledgerFail
  repeat' first
    | (intro)
    | with_reducible assumption
    | with_reducible exact Kept.refl _ _
    | exact Eq.refl _
    | split
    | (with_reducible apply Kept.step State.tripTrigger_kept)
    | (with_reducible apply Kept.step State.bufGauge_kept)
    | (with_reducible apply Kept.step State.onHst_kept)
    | (with_reducible apply Kept.step (State.onLdg_kept ?_))
    | (with_reducible refine Kept.snd (by with_reducible assumption) ?_)
    | (with_reducible refine Kept.fst (by with_reducible assumption) ?_)

theorem State.powerFail_kept {s : State} : Kept 7239918 s (State.powerFail s) := by
  unfold State.powerFail
  repeat' first
    | (intro)
    | with_reducible assumption
    | with_reducible exact Kept.refl _ _
    | exact Eq.refl _
    | split
    | (with_reducible apply Kept.step State.ledgerFail_kept)
    | (with_reducible apply Kept.step State.lshipOutputs_kept)
    | (with_reducible apply Kept.step State.sourceToKeeper_kept)
    | (with_reducible apply Kept.step State.logicTo_kept)
    | (with_reducible apply Kept.step State.lshipBegin_kept)
    | (with_reducible apply Kept.step State.commitStop_kept)
    | (with_reducible apply Kept.step State.startLeave_kept)
    | (with_reducible apply Kept.step State.leaveFrame_kept)
    | (with_reducible apply Kept.step State.replFlush_kept)
    | (with_reducible apply Kept.step State.tuneEnd_kept)
    | (with_reducible apply Kept.step State.stationsLost_kept)
    | (with_reducible apply Kept.step State.capOver_kept)
    | (with_reducible apply Kept.step State.lrules_kept)
    | (with_reducible apply Kept.step State.wf_kept)
    | (with_reducible apply Kept.step State.onPwr_kept)
    | (with_reducible refine Kept.fold ?_ ?_)
    | (with_reducible refine Kept.foldSnd ?_ ?_)
    | (with_reducible refine Kept.foldFst ?_ ?_)
    | (with_reducible refine Kept.snd (by with_reducible assumption) ?_)
    | (with_reducible refine Kept.fst (by with_reducible assumption) ?_)

theorem State.mainStop_kept0 {s : State} : Kept 15671295 s (State.mainStop s) := by
  unfold State.mainStop
  repeat' first
    | (intro)
    | with_reducible assumption
    | with_reducible exact Kept.refl _ _
    | exact Eq.refl _
    | (with_reducible apply Kept.step State.onlyPts_kept)
    | (with_reducible apply Kept.step State.clearRegs_kept)
    | (with_reducible apply Kept.step State.oeGates_kept)
    | (with_reducible apply Kept.step State.stationsLost_kept)
    | (with_reducible apply Kept.step State.wtBreak_kept)
    | (with_reducible apply Kept.step State.tileGates_kept)
    | (with_reducible apply Kept.step State.wf_kept)
    | (with_reducible apply Kept.step State.onPwr_kept)
    | (with_reducible apply Kept.step State.onCmw_kept)
    | (with_reducible apply Kept.step State.onImg_kept)
    | (with_reducible apply Kept.step State.onCtl_kept)
    | (with_reducible apply Kept.step State.onSec_kept)
    | (with_reducible apply Kept.step State.onFab_kept)
    | (with_reducible apply Kept.step State.onHst_kept)
    | (with_reducible apply Kept.step State.onLdg_keptAt)
    | (with_reducible apply Kept.step State.onWld_kept)
    | (with_reducible apply Kept.step (State.onHif_keptAt ?_))
    | (with_reducible apply Kept.step (State.onTim_kept ?_))
    | exact Nat.le_refl _
    | exact Nat.le_max_left _ _

theorem hifStop_out (z : State) : Out z (z.onHif fun h => { Hif.reset with mem := h.mem, vecSent := h.vecSent }) := by
  refine Out.fewer rfl (fun e he => ?_) (fun e he => ?_) fun e he => ?_ <;> exact absurd he List.not_mem_nil

theorem ldgStop_out (f : Ldg → Ldg) (h : ∀ l, (f l).view = none) (z : State) : Out z (z.onLdg f) :=
  Out.lessView fun l _ _ _ e => absurd ((h l).symm.trans e) (by exact Option.some_ne_none _ ∘ Eq.symm)

theorem State.mainStop_out {s : State} : Out s (State.mainStop s) := by
  unfold State.mainStop
  dsimp only
  refine Out.trans ?_ State.stationsLost_kept.out_
  refine Out.trans ?_ (State.wf_kept (f := Reg.PWR_FFT_AWAKE.COUNT)).out_
  refine Out.trans ?_ State.oeGates_kept.out_
  refine Out.trans ?_ State.tileGates_kept.out_
  refine Out.trans ?_ (State.wf_kept (f := Reg.PWR_CLK_STAT.CORE_LOCK)).out_
  refine Out.trans ?_ (State.wf_kept (f := Reg.PWR_CLK_STAT.FREF_OK)).out_
  refine Out.trans ?_ State.onImg_kept.out_
  refine Out.trans ?_ State.onCmw_kept.out_
  refine Out.trans ?_ State.onCtl_kept.out_
  refine Out.trans ?_ State.onSec_kept.out_
  refine Out.trans ?_ State.onFab_kept.out_
  refine Out.trans ?_ State.onHst_kept.out_
  refine Out.trans ?_ (ldgStop_out _ (fun _ => rfl) _)
  refine Out.trans ?_ State.onWld_kept.out_
  refine Out.trans ?_ (hifStop_out _)
  refine Out.trans ?_ State.onlyPts_kept.out_
  refine Out.trans ?_ State.clearRegs_kept.out_
  refine Out.trans ?_ (State.wf_kept (f := Reg.PWR_SUPPLY_STAT.MAIN_STATE)).out_
  refine Out.trans ?_ State.onPwr_kept.out_
  refine Out.trans ?_ State.wtBreak_kept.out_
  exact (State.onTim_kept fun _ => Nat.le_refl _).out_

theorem State.mainStop_kept {s : State} : Kept 7282687 s (State.mainStop s) :=
  State.mainStop_kept0.withOut State.mainStop_out rfl

theorem State.uncleanStop_kept {step : Nat} {s : State} : Kept 7282687 s (State.uncleanStop step s) := by
  unfold State.uncleanStop
  repeat' first
    | (intro)
    | with_reducible assumption
    | with_reducible exact Kept.refl _ _
    | exact Eq.refl _
    | (with_reducible apply Kept.step State.mainStop_kept)
    | (with_reducible apply Kept.step State.raise_kept)
    | (with_reducible apply Kept.step State.onPwr_kept)
    | (with_reducible apply Kept.step (State.onLdg_kept ?_))

theorem State.cleanStop_kept {s : State} : Kept 7282687 s (State.cleanStop s) := by
  unfold State.cleanStop
  repeat' first
    | (intro)
    | with_reducible assumption
    | with_reducible exact Kept.refl _ _
    | exact Eq.refl _
    | (with_reducible apply Kept.step State.mainStop_kept)
    | (with_reducible apply Kept.step State.raise_kept)
    | (with_reducible apply Kept.step State.wf_kept)
    | (with_reducible apply Kept.step State.onPwr_kept)
    | (with_reducible apply Kept.step (State.onLdg_kept ?_))
    | (with_reducible refine Kept.fold ?_ ?_)
    | (with_reducible refine Kept.foldSnd ?_ ?_)
    | (with_reducible refine Kept.foldFst ?_ ?_)

theorem State.lshipStop_kept {s : State} : Kept 7340031 s (State.lshipStop s) := by
  unfold State.lshipStop
  repeat' first
    | (intro)
    | with_reducible assumption
    | with_reducible exact Kept.refl _ _
    | exact Eq.refl _
    | split
    | (with_reducible apply Kept.step State.uncleanStop_kept)
    | (with_reducible apply Kept.step State.updClose_kept)
    | (with_reducible apply Kept.step State.onlyPts_kept)
    | (with_reducible apply Kept.step State.commitStop_kept)
    | (with_reducible apply Kept.step State.clearRegs_kept)
    | (with_reducible apply Kept.step State.panelLost_kept)
    | (with_reducible apply Kept.step State.trimBreak_kept)
    | (with_reducible apply Kept.step State.wf_kept)
    | (with_reducible apply Kept.step State.onKpr_kept)
    | (with_reducible apply Kept.step State.onPwr_kept)
    | (with_reducible apply Kept.step State.onBcn_kept)
    | (with_reducible apply Kept.step State.onLtn_kept)
    | (with_reducible apply Kept.step State.onImg_kept)
    | (with_reducible apply Kept.step State.onLio_kept)
    | (with_reducible apply Kept.step State.onPts_kept)
    | (with_reducible apply Kept.step (State.onLdg_kept ?_))
    | (with_reducible refine Kept.snd (by with_reducible assumption) ?_)
    | (with_reducible refine Kept.fst (by with_reducible assumption) ?_)

theorem State.lshipStart_kept {s : State} : Kept 8381358 s (State.lshipStart s) := by
  unfold State.lshipStart
  repeat' first
    | (intro)
    | with_reducible assumption
    | with_reducible exact Kept.refl _ _
    | exact Eq.refl _
    | split
    | (with_reducible apply Kept.step State.sourceToKeeper_kept)
    | (with_reducible apply Kept.step State.logicTo_kept)
    | (with_reducible apply Kept.step State.lshipBegin_kept)
    | (with_reducible apply Kept.step State.fansFollow_kept)
    | (with_reducible apply Kept.step State.keeperUp_kept)
    | (with_reducible apply Kept.step State.restoreCopies_kept)
    | (with_reducible apply Kept.step State.bcnRestart_kept)
    | (with_reducible apply Kept.step State.statesShown_kept)
    | (with_reducible apply Kept.step State.panelStart_kept)
    | (with_reducible apply Kept.step State.ruleGauge_kept)
    | (with_reducible apply Kept.step State.setMark_kept)
    | (with_reducible apply Kept.step State.tileGates_kept)
    | (with_reducible apply Kept.step State.setReady_kept)
    | (with_reducible apply Kept.step State.wf_kept)
    | (with_reducible refine Kept.snd (by with_reducible assumption) ?_)
    | (with_reducible refine Kept.fst (by with_reducible assumption) ?_)

theorem State.policyApply_kept {s : State} : Kept 5767190 s (State.policyApply s) := by
  unfold State.policyApply
  repeat' first
    | (intro)
    | with_reducible assumption
    | with_reducible exact Kept.refl _ _
    | exact Eq.refl _
    | split
    | (with_reducible apply Kept.step State.clearRegs_kept)
    | (with_reducible apply Kept.step State.wf_kept)
    | (with_reducible apply Kept.step State.fresh_kept)
    | (with_reducible apply Kept.step State.onKpr_kept)
    | (with_reducible apply Kept.step State.onWld_kept)
    | (with_reducible refine Kept.snd (by with_reducible assumption) ?_)
    | (with_reducible refine Kept.fst (by with_reducible assumption) ?_)

end Sys2Proof.Machine
end

