-- ==== Sys2Proof/Laws/KeptStartup.lean ====
section
/-! SUPPORT. What the operations of Machine/Startup.lean leave alone. -/

set_option linter.tactic.unusedName false

namespace Sys2Proof.Machine

set_option Elab.async false

theorem bodySysStatus_kept {_c : Cmd} {a1 : State} : Kept 0 a1 (bodySysStatus _c a1).2 := by
  unfold bodySysStatus
  repeat' first
    | (intro)
    | with_reducible assumption
    | with_reducible exact Kept.refl _ _
    | exact Eq.refl _

theorem execSysStatus_kept {t : Nat} {c : Cmd} {s : State} : KeptO 7865727 s (execSysStatus t c s) := by
  unfold execSysStatus
  repeat' first
    | (intro)
    | with_reducible assumption
    | with_reducible exact Kept.refl _ _
    | exact Eq.refl _
    | (with_reducible refine Kept.ofId ?_)
    | (with_reducible refine KeptO.next ?_)
    | (with_reducible apply Kept.step bodySysStatus_kept)
    | (with_reducible apply KeptO.lift State.done_kept)
    | (with_reducible apply State.command_kept)

theorem bodyCfgCommit_kept {c : Cmd} {a1 : State} : Kept 5373958 a1 (bodyCfgCommit c a1).2 := by
  unfold bodyCfgCommit
  repeat' first
    | (intro)
    | with_reducible assumption
    | with_reducible exact Kept.refl _ _
    | exact Eq.refl _
    | split
    | (with_reducible apply Kept.step State.commitBegin_kept)
    | (with_reducible refine Kept.snd (by with_reducible assumption) ?_)
    | (with_reducible refine Kept.fst (by with_reducible assumption) ?_)

theorem execCfgCommit_kept {t : Nat} {c : Cmd} {s : State} : KeptO 7996799 s (execCfgCommit t c s) := by
  unfold execCfgCommit
  repeat' first
    | (intro)
    | with_reducible assumption
    | with_reducible exact Kept.refl _ _
    | exact Eq.refl _
    | (with_reducible refine Kept.ofId ?_)
    | (with_reducible refine KeptO.next ?_)
    | (with_reducible apply Kept.step bodyCfgCommit_kept)
    | (with_reducible apply KeptO.lift State.done_kept)
    | (with_reducible apply State.command_kept)

theorem bodyCfgFactory_kept {_c : Cmd} {a1 : State} : Kept 4325382 a1 (bodyCfgFactory _c a1).2 := by
  unfold bodyCfgFactory
  repeat' first
    | (intro)
    | with_reducible assumption
    | with_reducible exact Kept.refl _ _
    | exact Eq.refl _
    | (with_reducible refine Kept.ofId ?_)
    | (with_reducible apply Kept.step State.addRec_kept)
    | (with_reducible apply okWith_kept)
    | (with_reducible apply Kept.step State.wf_kept)

theorem execCfgFactory_kept {t : Nat} {c : Cmd} {s : State} : KeptO 7996799 s (execCfgFactory t c s) := by
  unfold execCfgFactory
  repeat' first
    | (intro)
    | with_reducible assumption
    | with_reducible exact Kept.refl _ _
    | exact Eq.refl _
    | (with_reducible refine Kept.ofId ?_)
    | (with_reducible refine KeptO.next ?_)
    | (with_reducible apply Kept.step bodyCfgFactory_kept)
    | (with_reducible apply KeptO.lift State.done_kept)
    | (with_reducible apply State.command_kept)

theorem bodyCfgConfirm_kept {_c : Cmd} {a1 : State} : Kept 4325638 a1 (bodyCfgConfirm _c a1).2 := by
  unfold bodyCfgConfirm
  repeat' first
    | (intro)
    | with_reducible assumption
    | with_reducible exact Kept.refl _ _
    | exact Eq.refl _
    | (with_reducible apply Kept.step State.confirmAll_kept)
    | (with_reducible apply Kept.step State.addRec_kept)

theorem execCfgConfirm_kept {t : Nat} {c : Cmd} {s : State} : KeptO 7996799 s (execCfgConfirm t c s) := by
  unfold execCfgConfirm
  repeat' first
    | (intro)
    | with_reducible assumption
    | with_reducible exact Kept.refl _ _
    | exact Eq.refl _
    | (with_reducible refine Kept.ofId ?_)
    | (with_reducible refine KeptO.next ?_)
    | (with_reducible apply Kept.step bodyCfgConfirm_kept)
    | (with_reducible apply KeptO.lift State.done_kept)
    | (with_reducible apply State.command_kept)

theorem execCommitComplete_kept {t : Nat} {s : State} : KeptO 7996799 s (execCommitComplete t s) := by
  unfold execCommitComplete
  repeat' first
    | (intro)
    | with_reducible assumption
    | with_reducible exact Kept.refl _ _
    | exact Eq.refl _
    | (extract_lets +onlyGivenNames x
       first
       | (have hx : Kept 7996799 s x := ?_
          clear_value x
          rotate_left
          subst x
          rotate_left)
       | clear_value x)
    | split
    | (with_reducible refine KeptO.next ?_)
    | (with_reducible apply Kept.step State.commitEnd_kept)
    | (with_reducible apply KeptO.lift State.done_kept)
    | (with_reducible apply Kept.step State.at__kept)
    | (with_reducible refine Kept.snd (by with_reducible assumption) ?_)
    | (with_reducible refine Kept.fst (by with_reducible assumption) ?_)

theorem execAutoCommit_kept {t : Nat} {s : State} : KeptO 7996799 s (execAutoCommit t s) := by
  unfold execAutoCommit
  repeat' first
    | (intro)
    | with_reducible assumption
    | with_reducible exact Kept.refl _ _
    | exact Eq.refl _
    | (extract_lets +onlyGivenNames x
       first
       | (have hx : Kept 7996799 s x := ?_
          clear_value x
          rotate_left
          subst x
          rotate_left)
       | clear_value x)
    | split
    | (with_reducible refine KeptO.next ?_)
    | (with_reducible apply Kept.step State.commitBegin_kept)
    | (with_reducible apply KeptO.lift State.done_kept)
    | (with_reducible apply Kept.step State.at__kept)
    | (with_reducible refine Kept.snd (by with_reducible assumption) ?_)
    | (with_reducible refine Kept.fst (by with_reducible assumption) ?_)

theorem execCheckpointWrite_kept {t : Nat} {b : Nat} {s : State} : KeptO 7996799 s (execCheckpointWrite t b s) := by
  unfold execCheckpointWrite
  repeat' first
    | (intro)
    | with_reducible assumption
    | with_reducible exact Kept.refl _ _
    | exact Eq.refl _
    | (extract_lets +onlyGivenNames x
       first
       | (have hx : Kept 7996799 s x := ?_
          clear_value x
          rotate_left
          subst x
          rotate_left)
       | clear_value x)
    | split
    | (with_reducible refine KeptO.next ?_)
    | (with_reducible apply Kept.step State.writeBlock_kept)
    | (with_reducible apply KeptO.lift State.done_kept)
    | (with_reducible apply Kept.step State.at__kept)
    | (with_reducible refine Kept.snd (by with_reducible assumption) ?_)
    | (with_reducible refine Kept.fst (by with_reducible assumption) ?_)

theorem execLoopBlockWrite_kept {t : Nat} {s : State} : KeptO 7996793 s (execLoopBlockWrite t s) := by
  unfold execLoopBlockWrite
  repeat' first
    | (intro)
    | with_reducible assumption
    | with_reducible exact Kept.refl _ _
    | exact Eq.refl _
    | (extract_lets +onlyGivenNames x
       first
       | (have hx : Kept 7996793 s x := ?_
          clear_value x
          rotate_left
          subst x
          rotate_left)
       | clear_value x)
    | split
    | (with_reducible refine KeptO.next ?_)
    | (with_reducible apply Kept.step State.writeLoops_kept)
    | (with_reducible apply KeptO.lift State.done_kept)
    | (with_reducible apply Kept.step State.at__kept)
    | (with_reducible refine Kept.snd (by with_reducible assumption) ?_)
    | (with_reducible refine Kept.fst (by with_reducible assumption) ?_)

theorem State.lshipPower_kept {src : Nat} {store : Nat} {s : State} : Kept 8192047 s (State.lshipPower src store s) := by
  unfold State.lshipPower
  repeat' first
    | (intro)
    | with_reducible assumption
    | with_reducible exact Kept.refl _ _
    | exact Eq.refl _
    | split
    | (with_reducible apply Kept.step State.scapRead_kept)
    | (with_reducible apply Kept.step State.trimBegin_kept)
    | (with_reducible apply Kept.step State.rtcNow_kept)
    | (with_reducible apply Kept.step State.pwronAsk_kept)
    | (with_reducible apply Kept.step State.wf_kept)
    | (with_reducible apply Kept.step State.onPwr_kept)
    | (with_reducible apply Kept.step (State.onTim_kept ?_))
    | exact Nat.le_refl _
    | exact Nat.le_max_left _ _
    | (with_reducible refine Kept.snd (by with_reducible assumption) ?_)
    | (with_reducible refine Kept.fst (by with_reducible assumption) ?_)

theorem State.lshipImage_kept {s : State} : Kept 7028782 s (State.lshipImage s) := by
  unfold State.lshipImage
  repeat' first
    | (intro)
    | with_reducible assumption
    | with_reducible exact Kept.refl _ _
    | exact Eq.refl _
    | (with_reducible apply Kept.step State.restoreLship_kept)
    | (with_reducible apply Kept.step State.choose_kept)
    | (with_reducible apply Kept.step State.restoreRegs_kept)
    | (with_reducible apply Kept.step State.bkpUnlatch_kept)
    | (with_reducible apply Kept.step State.wf_kept)

theorem execLshipPowerGood_kept {t : Nat} {corrupt : Nat} {src : Nat} {store : Nat} {s : State} : KeptO 8382463 s (execLshipPowerGood t corrupt src store s) := by
  unfold execLshipPowerGood
  repeat' first
    | (intro)
    | with_reducible assumption
    | with_reducible exact Kept.refl _ _
    | exact Eq.refl _
    | (extract_lets +onlyGivenNames x
       first
       | (have hx : Kept 8382463 s x := ?_
          clear_value x
          rotate_left
          subst x
          rotate_left)
       | clear_value x)
    | split
    | (with_reducible refine KeptO.next ?_)
    | (with_reducible apply Kept.step State.lshipImage_kept)
    | (with_reducible apply Kept.step State.lshipPower_kept)
    | (with_reducible apply Kept.step State.lshipStart_kept)
    | (with_reducible apply Kept.step State.romBoot_kept)
    | (with_reducible apply KeptO.lift State.done_kept)
    | (with_reducible apply Kept.step State.at__kept)
    | (with_reducible refine Kept.snd (by with_reducible assumption) ?_)
    | (with_reducible refine Kept.fst (by with_reducible assumption) ?_)

theorem State.areaSpool_kept {s : State} : Kept 6815784 s (State.areaSpool s) := by
  unfold State.areaSpool
  repeat' first
    | (intro)
    | with_reducible assumption
    | with_reducible exact Kept.refl _ _
    | exact Eq.refl _
    | (with_reducible apply Kept.step State.raise_kept)
    | (with_reducible apply Kept.step State.spoolTake_kept)
    | (with_reducible apply Kept.step (State.onLdg_kept ?_))
    | (with_reducible refine Kept.fold ?_ ?_)
    | (with_reducible refine Kept.foldSnd ?_ ?_)
    | (with_reducible refine Kept.foldFst ?_ ?_)

theorem State.restoreMain_kept {s : State} : Kept 6954926 s (State.restoreMain s) := by
  unfold State.restoreMain
  repeat' first
    | (intro)
    | with_reducible assumption
    | with_reducible exact Kept.refl _ _
    | exact Eq.refl _
    | split
    | (with_reducible apply Kept.step State.areaSpool_kept)
    | (with_reducible apply Kept.step State.restoreAll_kept)
    | (with_reducible apply Kept.step State.oeGates_kept)
    | (with_reducible apply Kept.step State.portState_kept)
    | (with_reducible apply Kept.step State.tileGates_kept)
    | (with_reducible apply Kept.step State.wf_kept)
    | (with_reducible apply Kept.step State.onImg_kept)
    | (with_reducible apply Kept.step (State.onLdg_kept ?_))
    | (with_reducible refine Kept.fold ?_ ?_)
    | (with_reducible refine Kept.foldSnd ?_ ?_)
    | (with_reducible refine Kept.foldFst ?_ ?_)
    | (with_reducible refine Kept.snd (by with_reducible assumption) ?_)
    | (with_reducible refine Kept.fst (by with_reducible assumption) ?_)

theorem execRestoreDone_kept {t : Nat} {bad : List Nat} {s : State} : KeptO 8019967 s (execRestoreDone t bad s) := by
  unfold execRestoreDone
  repeat' first
    | (intro)
    | with_reducible assumption
    | with_reducible exact Kept.refl _ _
    | exact Eq.refl _
    | (extract_lets +onlyGivenNames x
       first
       | (have hx : Kept 8019967 s x := ?_
          clear_value x
          rotate_left
          subst x
          rotate_left)
       | clear_value x)
    | split
    | (with_reducible refine KeptO.next ?_)
    | (with_reducible apply Kept.step State.restoreMain_kept)
    | (with_reducible apply Kept.step State.restoreLship_kept)
    | (with_reducible apply Kept.step State.choose_kept)
    | (with_reducible apply Kept.step State.setSlot_kept)
    | (with_reducible apply Kept.step State.restoreRegs_kept)
    | (with_reducible apply KeptO.lift State.done_kept)
    | (with_reducible apply Kept.step State.setReady_kept)
    | (with_reducible apply Kept.step State.at__kept)
    | (with_reducible apply Kept.step State.bump_kept)
    | (with_reducible apply Kept.step State.wf_kept)
    | (with_reducible refine Kept.snd (by with_reducible assumption) ?_)
    | (with_reducible refine Kept.fst (by with_reducible assumption) ?_)

end Sys2Proof.Machine
end

