-- ==== Sys2Proof/Laws/KeptRegRules.lean ====
section
/-! SUPPORT. What the operations of Machine/RegRules.lean leave alone. -/

set_option linter.tactic.unusedName false

namespace Sys2Proof.Machine

set_option Elab.async false

theorem State.writeReject_kept {off : Nat} {s : State} : Kept 6815790 s (State.writeReject off s) := by
  unfold State.writeReject
  repeat' first
    | (intro)
    | with_reducible assumption
    | with_reducible exact Kept.refl _ _
    | exact Eq.refl _
    | split
    | (with_reducible apply Kept.step State.raise_kept)
    | (with_reducible apply Kept.step State.bump_kept)
    | (with_reducible refine Kept.snd (by with_reducible assumption) ?_)
    | (with_reducible refine Kept.fst (by with_reducible assumption) ?_)

theorem State.hregStaged_kept {off : Nat} {w : Nat} {s : State} : Kept 4194310 s (State.hregStaged off w s) := by
  unfold State.hregStaged
  repeat' first
    | (intro)
    | with_reducible assumption
    | with_reducible exact Kept.refl _ _
    | exact Eq.refl _
    | (with_reducible apply Kept.step State.wr_kept)

theorem State.hregApply_kept {off : Nat} {w : Nat} {s : State} : Kept 4194310 s (State.hregApply off w s) := by
  unfold State.hregApply
  extract_lets t n base limit
  split
  · exact Kept.step State.bump_kept (Kept.refl _ _) (Eq.refl _)
  · exact Kept.step State.hregStaged_kept (Kept.refl _ _) (Eq.refl _)

theorem State.lockSeqs_kept {s : State} : Kept 4194326 s (State.lockSeqs s) := by
  unfold State.lockSeqs
  repeat' first
    | (intro)
    | with_reducible assumption
    | with_reducible exact Kept.refl _ _
    | exact Eq.refl _
    | (with_reducible apply Kept.step State.bump_kept)
    | (with_reducible apply Kept.step State.onWld_kept)

theorem State.wldApply_kept {off : Nat} {w : Nat} {s : State} : Kept 4194326 s (State.wldApply off w s) := by
  unfold State.wldApply
  repeat' first
    | (intro)
    | with_reducible assumption
    | with_reducible exact Kept.refl _ _
    | exact Eq.refl _
    | (extract_lets +onlyGivenNames x
       first
       | (have hx : Kept 4194326 s x := ?_
          clear_value x
          rotate_left
          subst x
          rotate_left)
       | clear_value x)
    | split
    | (with_reducible apply Kept.step State.lockSeqs_kept)
    | (with_reducible apply Kept.step State.hregApply_kept)
    | (with_reducible apply Kept.step State.bump_kept)
    | (with_reducible apply Kept.step State.wr_kept)
    | (with_reducible apply Kept.step State.onWld_kept)
    | (with_reducible refine Kept.snd (by with_reducible assumption) ?_)
    | (with_reducible refine Kept.fst (by with_reducible assumption) ?_)

theorem State.secCtrl_kept {m : Nat} {s0 : State} {w : Nat} {put : State → State} {s : State} (h0 : Kept m s0 s) (hm : 6833198 ||| m = m) (hf : ∀ (x0 : State), Kept m s0 x0 → Kept m s0 (put x0)) : Kept m s0 (State.secCtrl w put s) := by
  unfold State.secCtrl
  repeat' first
    | (intro)
    | with_reducible assumption
    | with_reducible exact Kept.refl _ _
    | exact Eq.refl _
    | (with_reducible refine Kept.ofId ?_)
    | split
    | exact lor_sub (by rfl) hm
    | (with_reducible apply Kept.step State.floodsOff_kept)
    | (with_reducible apply Kept.step State.suppSwitch_kept)
    | (with_reducible apply hf)
    | (with_reducible refine Kept.snd (by with_reducible assumption) ?_)
    | (with_reducible refine Kept.fst (by with_reducible assumption) ?_)

theorem State.watchWrite_kept {m : Nat} {s0 : State} {off : Nat} {w : Nat} {put : State → State} {s : State} (h0 : Kept m s0 s) (hm : 6833198 ||| m = m) (hf : ∀ (x0 : State), Kept m s0 x0 → Kept m s0 (put x0)) : Kept m s0 (State.watchWrite off w put s) := by
  unfold State.watchWrite
  repeat' first
    | (intro)
    | with_reducible assumption
    | with_reducible exact Kept.refl _ _
    | exact Eq.refl _
    | (with_reducible refine Kept.ofId ?_)
    | split
    | exact lor_sub (by rfl) hm
    | (with_reducible apply Kept.step State.floodsOff_kept)
    | (with_reducible apply Kept.step State.onSec_kept)
    | (with_reducible apply hf)
    | (with_reducible refine Kept.snd (by with_reducible assumption) ?_)
    | (with_reducible refine Kept.fst (by with_reducible assumption) ?_)

theorem State.portWrite_kept {off : Nat} {w : Nat} {s : State} : Kept 6815918 s (State.portWrite off w s) := by
  unfold State.portWrite
  repeat' first
    | (intro)
    | with_reducible assumption
    | with_reducible exact Kept.refl _ _
    | exact Eq.refl _
    | (extract_lets +onlyGivenNames x
       first
       | (have hx : Kept 6815918 s x := ?_
          clear_value x
          rotate_left
          subst x
          rotate_left)
       | clear_value x)
    | split
    | (with_reducible apply Kept.step State.portDisable_kept)
    | (with_reducible apply Kept.step State.portEnable_kept)
    | (with_reducible apply Kept.step State.wr_kept)
    | (with_reducible refine Kept.snd (by with_reducible assumption) ?_)
    | (with_reducible refine Kept.fst (by with_reducible assumption) ?_)

theorem State.ringWrite_kept {m : Nat} {s0 : State} {k : Nat} {put : State → State} {s : State} (h0 : Kept m s0 s) (hm : 6815790 ||| m = m) (hf : ∀ (x0 : State), Kept m s0 x0 → Kept m s0 (put x0)) : Kept m s0 (State.ringWrite k put s) := by
  unfold State.ringWrite
  repeat' first
    | (intro)
    | with_reducible assumption
    | with_reducible exact Kept.refl _ _
    | exact Eq.refl _
    | (with_reducible refine Kept.ofId ?_)
    | (extract_lets +onlyGivenNames x
       first
       | (have hx : Kept m s0 x := ?_
          clear_value x
          rotate_left
          subst x
          rotate_left)
       | clear_value x)
    | split
    | exact lor_sub (by rfl) hm
    | (with_reducible apply Kept.step State.ringWrap_kept)
    | (with_reducible apply Kept.step State.wf_kept)
    | (with_reducible apply hf)
    | (with_reducible refine Kept.snd (by with_reducible assumption) ?_)
    | (with_reducible refine Kept.fst (by with_reducible assumption) ?_)

theorem State.fabApply_kept {m : Nat} {s0 : State} {off : Nat} {w : Nat} {put : State → State} {s : State} (h0 : Kept m s0 s) (hm : 6815918 ||| m = m) (hf : ∀ (x0 : State), Kept m s0 x0 → Kept m s0 (put x0)) : Kept m s0 (State.fabApply off w put s) := by
  unfold State.fabApply
  repeat' first
    | (intro)
    | with_reducible assumption
    | with_reducible exact Kept.refl _ _
    | exact Eq.refl _
    | (with_reducible refine Kept.ofId ?_)
    | (extract_lets +onlyGivenNames x
       first
       | (have hx : Kept m s0 x := ?_
          clear_value x
          rotate_left
          subst x
          rotate_left)
       | clear_value x)
    | split
    | exact lor_sub (by rfl) hm
    | (with_reducible apply State.ringWrite_kept)
    | (with_reducible apply Kept.step State.portWrite_kept)
    | (with_reducible apply Kept.step State.autoBack_kept)
    | (with_reducible apply Kept.step State.utcFollow_kept)
    | (with_reducible apply hf)
    | (with_reducible refine Kept.snd (by with_reducible assumption) ?_)
    | (with_reducible refine Kept.fst (by with_reducible assumption) ?_)

theorem State.aoWrite_kept {m : Nat} {s0 : State} {n : Nat} {put : State → State} {s : State} (h0 : Kept m s0 s) (hm : 4202502 ||| m = m) (hf : ∀ (x0 : State), Kept m s0 x0 → Kept m s0 (put x0)) : Kept m s0 (State.aoWrite n put s) := by
  unfold State.aoWrite
  repeat' first
    | (intro)
    | with_reducible assumption
    | with_reducible exact Kept.refl _ _
    | exact Eq.refl _
    | (with_reducible refine Kept.ofId ?_)
    | (extract_lets +onlyGivenNames x
       first
       | (have hx : Kept m s0 x := ?_
          clear_value x
          rotate_left
          subst x
          rotate_left)
       | clear_value x)
    | split
    | exact lor_sub (by rfl) hm
    | (with_reducible apply Kept.step State.setDac_kept)
    | (with_reducible apply Kept.step State.wf_kept)
    | (with_reducible apply hf)
    | (with_reducible refine Kept.snd (by with_reducible assumption) ?_)
    | (with_reducible refine Kept.fst (by with_reducible assumption) ?_)

theorem State.dioWrite_kept {m : Nat} {s0 : State} {ch : Nat} {w : Nat} {put : State → State} {s : State} (h0 : Kept m s0 s) (hm : 6823982 ||| m = m) (hf : ∀ (x0 : State), Kept m s0 x0 → Kept m s0 (put x0)) : Kept m s0 (State.dioWrite ch w put s) := by
  unfold State.dioWrite
  repeat' first
    | (intro)
    | with_reducible assumption
    | with_reducible exact Kept.refl _ _
    | exact Eq.refl _
    | (with_reducible refine Kept.ofId ?_)
    | (extract_lets +onlyGivenNames x
       first
       | (have hx : Kept m s0 x := ?_
          clear_value x
          rotate_left
          subst x
          rotate_left)
       | clear_value x)
    | split
    | exact lor_sub (by rfl) hm
    | (with_reducible apply Kept.step State.pulseCut_kept)
    | (with_reducible apply Kept.step State.doCommand_kept)
    | (with_reducible apply hf)
    | (with_reducible refine Kept.snd (by with_reducible assumption) ?_)
    | (with_reducible refine Kept.fst (by with_reducible assumption) ?_)

theorem State.lioApply_kept {m : Nat} {s0 : State} {off : Nat} {w : Nat} {wo : Nat} {put : State → State} {s : State} (h0 : Kept m s0 s) (hm : 6823982 ||| m = m) (hf : ∀ (x0 : State), Kept m s0 x0 → Kept m s0 (put x0)) : Kept m s0 (State.lioApply off w wo put s) := by
  unfold State.lioApply
  repeat' first
    | (intro)
    | with_reducible assumption
    | with_reducible exact Kept.refl _ _
    | exact Eq.refl _
    | (with_reducible refine Kept.ofId ?_)
    | (extract_lets +onlyGivenNames x
       first
       | (have hx : Kept m s0 x := ?_
          clear_value x
          rotate_left
          subst x
          rotate_left)
       | clear_value x)
    | split
    | exact lor_sub (by rfl) hm
    | (with_reducible apply State.dioWrite_kept)
    | (with_reducible apply State.aoWrite_kept)
    | (with_reducible apply Kept.step State.hartPush_kept)
    | (with_reducible apply State.aiConfig_kept)
    | (with_reducible apply Kept.step State.wf_kept)
    | (with_reducible apply hf)
    | (with_reducible refine Kept.snd (by with_reducible assumption) ?_)
    | (with_reducible refine Kept.fst (by with_reducible assumption) ?_)

theorem State.ltnApply_kept {m : Nat} {s0 : State} {off : Nat} {put : State → State} {s : State} (h0 : Kept m s0 s) (hm : 6832174 ||| m = m) (hf : ∀ (x0 : State), Kept m s0 x0 → Kept m s0 (put x0)) : Kept m s0 (State.ltnApply off put s) := by
  unfold State.ltnApply
  repeat' first
    | (intro)
    | with_reducible assumption
    | with_reducible exact Kept.refl _ _
    | exact Eq.refl _
    | (with_reducible refine Kept.ofId ?_)
    | (extract_lets +onlyGivenNames x
       first
       | (have hx : Kept m s0 x := ?_
          clear_value x
          rotate_left
          subst x
          rotate_left)
       | clear_value x)
    | split
    | exact lor_sub (by rfl) hm
    | (with_reducible apply Kept.step State.panelResume_kept)
    | (with_reducible apply Kept.step State.panelRetain_kept)
    | (with_reducible apply Kept.step State.panelStop_kept)
    | (with_reducible apply Kept.step State.panelStart_kept)
    | (with_reducible apply Kept.step State.geomSettle_kept)
    | (with_reducible apply Kept.step State.lightSettle_kept)
    | (with_reducible apply Kept.step State.vcomSettle_kept)
    | (with_reducible apply Kept.step State.composeAsk_kept)
    | (with_reducible apply hf)
    | (with_reducible refine Kept.snd (by with_reducible assumption) ?_)
    | (with_reducible refine Kept.fst (by with_reducible assumption) ?_)

theorem State.pwrApply_kept {m : Nat} {s0 : State} {off : Nat} {put : State → State} {s : State} (h0 : Kept m s0 s) (hm : 6823982 ||| m = m) (hf : ∀ (x0 : State), Kept m s0 x0 → Kept m s0 (put x0)) : Kept m s0 (State.pwrApply off put s) := by
  unfold State.pwrApply
  repeat' first
    | (intro)
    | with_reducible assumption
    | with_reducible exact Kept.refl _ _
    | exact Eq.refl _
    | (with_reducible refine Kept.ofId ?_)
    | (extract_lets +onlyGivenNames x
       first
       | (have hx : Kept m s0 x := ?_
          clear_value x
          rotate_left
          subst x
          rotate_left)
       | clear_value x)
    | split
    | exact lor_sub (by rfl) hm
    | (with_reducible apply Kept.step State.oeGates_kept)
    | (with_reducible apply Kept.step State.ctlGauges_kept)
    | (with_reducible apply Kept.step State.fftWake_kept)
    | (with_reducible apply Kept.step State.ruleGauge_kept)
    | (with_reducible apply Kept.step State.lrules_kept)
    | (with_reducible apply Kept.step State.tileGates_kept)
    | (with_reducible apply hf)
    | (with_reducible refine Kept.snd (by with_reducible assumption) ?_)
    | (with_reducible refine Kept.fst (by with_reducible assumption) ?_)

theorem State.kprApply_kept {m : Nat} {s0 : State} {off : Nat} {w : Nat} {wo : Nat} {put : State → State} {s : State} (h0 : Kept m s0 s) (hm : 6946846 ||| m = m) (hf : ∀ (x0 : State), Kept m s0 x0 → Kept m s0 (put x0)) : Kept m s0 (State.kprApply off w wo put s) := by
  unfold State.kprApply
  repeat' first
    | (intro)
    | with_reducible assumption
    | with_reducible exact Kept.refl _ _
    | exact Eq.refl _
    | (with_reducible refine Kept.ofId ?_)
    | (extract_lets +onlyGivenNames x
       first
       | (have hx : Kept m s0 x := ?_
          clear_value x
          rotate_left
          subst x
          rotate_left)
       | clear_value x)
    | split
    | exact lor_sub (by rfl) hm
    | (with_reducible apply Kept.step State.fansFollow_kept)
    | (with_reducible apply Kept.step State.fanStart_kept)
    | (with_reducible apply Kept.step State.fanDrives_kept)
    | (with_reducible apply Kept.step State.keeperReset_kept)
    | (with_reducible apply Kept.step State.setBoot_kept)
    | (with_reducible apply Kept.step State.bcnSettle_kept)
    | (with_reducible apply Kept.step State.wf_kept)
    | (with_reducible apply hf)
    | (with_reducible refine Kept.snd (by with_reducible assumption) ?_)
    | (with_reducible refine Kept.fst (by with_reducible assumption) ?_)

theorem State.bkpApply_kept {m : Nat} {s0 : State} {o : Nat} {w : Nat} {wo : Nat} {put : State → State} {s : State} (h0 : Kept m s0 s) (hm : 7929902 ||| m = m) (hf : ∀ (x0 : State), Kept m s0 x0 → Kept m s0 (put x0)) : Kept m s0 (State.bkpApply o w wo put s) := by
  unfold State.bkpApply
  repeat' first
    | (intro)
    | with_reducible assumption
    | with_reducible exact Kept.refl _ _
    | exact Eq.refl _
    | (with_reducible refine Kept.ofId ?_)
    | (extract_lets +onlyGivenNames x
       first
       | (have hx : Kept m s0 x := ?_
          clear_value x
          rotate_left
          subst x
          rotate_left)
       | clear_value x)
    | split
    | exact lor_sub (by rfl) hm
    | (with_reducible apply Kept.step State.trimBreak_kept)
    | (with_reducible apply Kept.step State.rtcShift_kept)
    | (with_reducible apply Kept.step State.rtcSet_kept)
    | (with_reducible apply Kept.step State.rtcCapture_kept)
    | (with_reducible apply Kept.step State.rtcNow_kept)
    | (with_reducible apply Kept.step State.wf_kept)
    | (with_reducible apply Kept.step State.onBkp_kept)
    | (with_reducible apply hf)
    | (with_reducible refine Kept.snd (by with_reducible assumption) ?_)
    | (with_reducible refine Kept.fst (by with_reducible assumption) ?_)

theorem State.hifApply_kept {m : Nat} {s0 : State} {off : Nat} {w : Nat} {wo : Nat} {put : State → State} {s : State} (h0 : Kept m s0 s) (hm : 15204414 ||| m = m) (hf : ∀ (x0 : State), Kept m s0 x0 → Kept m s0 (put x0)) : Kept m s0 (State.hifApply off w wo put s) := by
  unfold State.hifApply
  repeat' first
    | (intro)
    | with_reducible assumption
    | with_reducible exact Kept.refl _ _
    | exact Eq.refl _
    | (with_reducible refine Kept.ofId ?_)
    | (extract_lets +onlyGivenNames x
       first
       | (have hx : Kept m s0 x := ?_
          clear_value x
          rotate_left
          subst x
          rotate_left)
       | clear_value x)
    | split
    | exact lor_sub (by rfl) hm
    | (with_reducible apply Kept.step State.hifQuench_kept)
    | (with_reducible apply Kept.step State.admEn_kept)
    | (with_reducible apply Kept.step State.fnQuench_kept)
    | (with_reducible apply Kept.step State.fnResets_kept)
    | (with_reducible apply hf)
    | (with_reducible refine Kept.snd (by with_reducible assumption) ?_)
    | (with_reducible refine Kept.fst (by with_reducible assumption) ?_)

theorem State.regApply_kept {off : Nat} {w : Nat} {wo : Nat} {s : State} : Kept 16479422 s (State.regApply off w wo s) := by
  have hz : True := trivial
  unfold State.regApply
  repeat' first
    | (intro)
    | with_reducible assumption
    | with_reducible exact Kept.refl _ _
    | exact Eq.refl _
    | (with_reducible refine Kept.ofId ?_)
    | (extract_lets +onlyGivenNames x
       first
       | (have hx : Kept 16479422 s x := ?_
          clear_value x
          rotate_left
          subst x
          rotate_left)
       | (have hz : ∀ y, Kept 16479422 s y → Kept 16479422 s (x y) := ?_
          clear_value x
          rotate_left
          unfold x
          clear x
          rotate_left)
       | (have hz : ∀ a y, Kept 16479422 s y → Kept 16479422 s (x a y) := ?_
          clear_value x
          rotate_left
          unfold x
          clear x
          rotate_left)
       | (have hz : ∀ a b y, Kept 16479422 s y → Kept 16479422 s (x a b y) := ?_
          clear_value x
          rotate_left
          unfold x
          clear x
          rotate_left)
       | (have hz : ∀ a b c y, Kept 16479422 s y → Kept 16479422 s (x a b c y) := ?_
          clear_value x
          rotate_left
          unfold x
          clear x
          rotate_left)
       | clear_value x)
    | split
    | (with_reducible apply State.hifApply_kept)
    | (with_reducible apply State.bkpApply_kept)
    | (with_reducible apply State.kprApply_kept)
    | (with_reducible apply State.pwrApply_kept)
    | (with_reducible apply State.ltnApply_kept)
    | (with_reducible apply State.lioApply_kept)
    | (with_reducible apply State.fabApply_kept)
    | (with_reducible apply State.watchWrite_kept)
    | (with_reducible apply State.secCtrl_kept)
    | (with_reducible apply Kept.step State.wldApply_kept)
    | (with_reducible apply Kept.step State.holdAll_kept)
    | (with_reducible apply Kept.step State.bcnSettle_kept)
    | (with_reducible apply Kept.step State.aiFollow_kept)
    | (with_reducible apply Kept.step State.spillJudge_kept)
    | (with_reducible apply Kept.step State.dirtyHost_kept)
    | (with_reducible apply Kept.step State.reburst_kept)
    | (with_reducible apply Kept.step State.wr_kept)
    | (with_reducible refine Kept.snd (by with_reducible assumption) ?_)
    | (with_reducible refine Kept.fst (by with_reducible assumption) ?_)
    | (with_reducible apply hz)
    | (with_reducible refine Kept.call (by with_reducible assumption) ?_)
    | (with_reducible refine Kept.call1 (by with_reducible assumption) ?_)

end Sys2Proof.Machine
end

