-- ==== Sys2Proof/Laws/KeptRegisters.lean ====
section
/-! SUPPORT. What the operations of Machine/Registers.lean leave alone. -/

set_option linter.tactic.unusedName false

namespace Sys2Proof.Machine

set_option Elab.async false

theorem State.regOpen_kept {req : Nat} {off : Nat} {s : State} : Kept 6815800 s (State.regOpen req off s).2 := by
  unfold State.regOpen
  repeat' first
    | (intro)
    | with_reducible assumption
    | with_reducible exact Kept.refl _ _
    | exact Eq.refl _
    | split
    | (with_reducible apply Kept.step State.pageOk_kept)
    | (with_reducible apply Kept.step State.denied_kept)
    | (with_reducible refine Kept.snd (by with_reducible assumption) ?_)
    | (with_reducible refine Kept.fst (by with_reducible assumption) ?_)

theorem State.loadSample_kept {s : State} : Kept 5242886 s (State.loadSample s) := by
  unfold State.loadSample
  repeat' first
    | (intro)
    | with_reducible assumption
    | with_reducible exact Kept.refl _ _
    | exact Eq.refl _
    | (with_reducible apply Kept.step State.wf_kept)
    | (with_reducible apply Kept.step State.fresh_kept)

theorem State.regFresh_kept {off : Nat} {s : State} : Kept 5251078 s (State.regFresh off s) := by
  unfold State.regFresh
  repeat' first
    | (intro)
    | with_reducible assumption
    | with_reducible exact Kept.refl _ _
    | exact Eq.refl _
    | split
    | (with_reducible apply Kept.step State.loadSample_kept)
    | (with_reducible apply Kept.step State.dmRemain_kept)
    | (with_reducible apply Kept.step State.hartSettle_kept)
    | (with_reducible apply Kept.step State.wf_kept)
    | (with_reducible refine Kept.snd (by with_reducible assumption) ?_)
    | (with_reducible refine Kept.fst (by with_reducible assumption) ?_)

theorem State.regTake_kept {off : Nat} {quiet : Bool} {s : State} : Kept 5251078 s (State.regTake off quiet s).2 := by
  unfold State.regTake
  repeat' first
    | (intro)
    | with_reducible assumption
    | with_reducible exact Kept.refl _ _
    | exact Eq.refl _
    | (extract_lets +onlyGivenNames x
       first
       | (have hx : Kept 5251078 s x := ?_
          clear_value x
          rotate_left
          subst x
          rotate_left)
       | clear_value x)
    | split
    | (with_reducible apply Kept.step State.regFresh_kept)
    | (with_reducible apply Kept.step State.hartPop_kept)
    | (with_reducible apply Kept.step State.wf_kept)
    | (with_reducible apply Kept.step State.wr_kept)
    | (with_reducible refine Kept.snd (by with_reducible assumption) ?_)
    | (with_reducible refine Kept.fst (by with_reducible assumption) ?_)

theorem State.regRead1_kept {req : Nat} {off : Nat} {quiet : Bool} {s : State} : Kept 7872574 s (State.regRead1 req off quiet s).2 := by
  unfold State.regRead1
  repeat' first
    | (intro)
    | with_reducible assumption
    | with_reducible exact Kept.refl _ _
    | exact Eq.refl _
    | (extract_lets +onlyGivenNames x
       first
       | (have hx : Kept 7872574 s x := ?_
          clear_value x
          rotate_left
          subst x
          rotate_left)
       | clear_value x)
    | split
    | (with_reducible apply Kept.step State.regTake_kept)
    | (with_reducible apply Kept.step State.regOpen_kept)
    | (with_reducible apply Kept.step State.denied_kept)
    | (with_reducible refine Kept.fold ?_ ?_)
    | (with_reducible refine Kept.foldSnd ?_ ?_)
    | (with_reducible refine Kept.foldFst ?_ ?_)
    | (with_reducible refine Kept.snd (by with_reducible assumption) ?_)
    | (with_reducible refine Kept.fst (by with_reducible assumption) ?_)

theorem State.regRead_kept {req : Nat} {off : Nat} {size : Nat} {quiet : Bool} {s : State} : Kept 7872574 s (State.regRead req off size quiet s) := by
  unfold State.regRead
  repeat' first
    | (intro)
    | with_reducible assumption
    | with_reducible exact Kept.refl _ _
    | exact Eq.refl _
    | split
    | (with_reducible apply Kept.step State.regRead1_kept)
    | (with_reducible apply Kept.step (State.onHif_kept' ?_))
    | (with_reducible refine Kept.fold ?_ ?_)
    | (with_reducible refine Kept.foldSnd ?_ ?_)
    | (with_reducible refine Kept.foldFst ?_ ?_)
    | (with_reducible refine Kept.snd (by with_reducible assumption) ?_)
    | (with_reducible refine Kept.fst (by with_reducible assumption) ?_)

theorem State.regCommit_kept {req : Nat} {off : Nat} {v : Nat} {s : State} : Kept 16479422 s (State.regCommit req off v s) := by
  unfold State.regCommit
  repeat' first
    | (intro)
    | with_reducible assumption
    | with_reducible exact Kept.refl _ _
    | exact Eq.refl _
    | (extract_lets +onlyGivenNames x
       first
       | (have hx : Kept 16479422 s x := ?_
          clear_value x
          rotate_left
          subst x
          rotate_left)
       | clear_value x)
    | split
    | (with_reducible apply Kept.step State.regApply_kept)
    | (with_reducible apply Kept.step State.writeReject_kept)
    | (with_reducible apply Kept.step State.denied_kept)
    | (with_reducible apply Kept.step State.wr_kept)
    | (with_reducible refine Kept.snd (by with_reducible assumption) ?_)
    | (with_reducible refine Kept.fst (by with_reducible assumption) ?_)

theorem State.setTwSeq_kept {req : Nat} {q : TwSeq} {s : State} : Kept 16 s (State.setTwSeq req q s) := by
  unfold State.setTwSeq
  repeat' first
    | (intro)
    | with_reducible assumption
    | with_reducible exact Kept.refl _ _
    | exact Eq.refl _
    | (with_reducible apply Kept.step State.onWld_kept)

theorem State.seqShut_kept {req : Nat} {s : State} : Kept 16 s (State.seqShut req s) := by
  unfold State.seqShut
  repeat' first
    | (intro)
    | with_reducible assumption
    | with_reducible exact Kept.refl _ _
    | exact Eq.refl _
    | (with_reducible apply Kept.step State.setTwSeq_kept)

theorem State.pairFail_kept {q : TwSeq} {second : Nat} {s : State} : Kept 6815790 s (State.pairFail q second s) := by
  unfold State.pairFail
  repeat' first
    | (intro)
    | with_reducible assumption
    | with_reducible exact Kept.refl _ _
    | exact Eq.refl _
    | (with_reducible apply Kept.step State.twinEvent_kept)
    | (with_reducible apply Kept.step State.bump_kept)

theorem State.seqExpire_kept {req : Nat} {s : State} : Kept 6815806 s (State.seqExpire req s) := by
  unfold State.seqExpire
  repeat' first
    | (intro)
    | with_reducible assumption
    | with_reducible exact Kept.refl _ _
    | exact Eq.refl _
    | (extract_lets +onlyGivenNames x
       first
       | (have hx : Kept 6815806 s x := ?_
          clear_value x
          rotate_left
          subst x
          rotate_left)
       | clear_value x)
    | split
    | (with_reducible apply Kept.step State.seqShut_kept)
    | (with_reducible apply Kept.step State.twinEvent_kept)
    | (with_reducible apply Kept.step State.raise_kept)
    | (with_reducible apply Kept.step State.bump_kept)
    | (with_reducible refine Kept.snd (by with_reducible assumption) ?_)
    | (with_reducible refine Kept.fst (by with_reducible assumption) ?_)

theorem State.seqWrite_kept {req : Nat} {off : Nat} {v : Nat} {s : State} : Kept 16479422 s (State.seqWrite req off v s) := by
  unfold State.seqWrite
  repeat' first
    | (intro)
    | with_reducible assumption
    | with_reducible exact Kept.refl _ _
    | exact Eq.refl _
    | (extract_lets +onlyGivenNames x
       first
       | (have hx : Kept 16479422 s x := ?_
          clear_value x
          rotate_left
          subst x
          rotate_left)
       | clear_value x)
    | split
    | (with_reducible apply Kept.step State.seqExpire_kept)
    | (with_reducible apply Kept.step State.pairFail_kept)
    | (with_reducible apply Kept.step State.seqShut_kept)
    | (with_reducible apply Kept.step State.setTwSeq_kept)
    | (with_reducible apply Kept.step State.regCommit_kept)
    | (with_reducible refine Kept.snd (by with_reducible assumption) ?_)
    | (with_reducible refine Kept.fst (by with_reducible assumption) ?_)

theorem State.regWrite1_kept {req : Nat} {off : Nat} {v : Nat} {s : State} : Kept 16479422 s (State.regWrite1 req off v s) := by
  unfold State.regWrite1
  repeat' first
    | (intro)
    | with_reducible assumption
    | with_reducible exact Kept.refl _ _
    | exact Eq.refl _
    | (extract_lets +onlyGivenNames x
       first
       | (have hx : Kept 16479422 s x := ?_
          clear_value x
          rotate_left
          subst x
          rotate_left)
       | clear_value x)
    | split
    | (with_reducible apply Kept.step State.seqWrite_kept)
    | (with_reducible apply Kept.step State.regCommit_kept)
    | (with_reducible apply Kept.step State.regOpen_kept)
    | (with_reducible apply Kept.step State.bump_kept)
    | (with_reducible refine Kept.snd (by with_reducible assumption) ?_)
    | (with_reducible refine Kept.fst (by with_reducible assumption) ?_)

theorem State.regWrite_kept {req : Nat} {off : Nat} {size : Nat} {v : Nat} {s : State} : Kept 16479422 s (State.regWrite req off size v s) := by
  unfold State.regWrite
  repeat' first
    | (intro)
    | with_reducible assumption
    | with_reducible exact Kept.refl _ _
    | exact Eq.refl _
    | split
    | (with_reducible apply Kept.step State.regWrite1_kept)
    | (with_reducible refine Kept.fold ?_ ?_)
    | (with_reducible refine Kept.foldSnd ?_ ?_)
    | (with_reducible refine Kept.foldFst ?_ ?_)
    | (with_reducible refine Kept.snd (by with_reducible assumption) ?_)
    | (with_reducible refine Kept.fst (by with_reducible assumption) ?_)

theorem State.secondWord_kept {req : Nat} {off : Nat} {v : Nat} {s : State} : Kept 16479422 s (State.secondWord req off v s) := by
  unfold State.secondWord
  repeat' first
    | (intro)
    | with_reducible assumption
    | with_reducible exact Kept.refl _ _
    | exact Eq.refl _
    | split
    | (with_reducible apply Kept.step State.regWrite_kept)
    | (with_reducible refine Kept.snd (by with_reducible assumption) ?_)
    | (with_reducible refine Kept.fst (by with_reducible assumption) ?_)

theorem execTwinWriteOpen_kept {t : Nat} {req : Nat} {off : Nat} {v : Nat} {s : State} : KeptO 16479743 s (execTwinWriteOpen t req off v s) := by
  unfold execTwinWriteOpen
  repeat' first
    | (intro)
    | with_reducible assumption
    | with_reducible exact Kept.refl _ _
    | exact Eq.refl _
    | (extract_lets +onlyGivenNames x
       first
       | (have hx : Kept 16479743 s x := ?_
          clear_value x
          rotate_left
          subst x
          rotate_left)
       | clear_value x)
    | split
    | (with_reducible refine KeptO.next ?_)
    | (with_reducible apply Kept.step State.regWrite_kept)
    | (with_reducible apply KeptO.lift State.done_kept)
    | (with_reducible apply Kept.step State.at__kept)
    | (with_reducible refine Kept.snd (by with_reducible assumption) ?_)
    | (with_reducible refine Kept.fst (by with_reducible assumption) ?_)

theorem execTwinWriteClose_kept {t : Nat} {req : Nat} {off : Nat} {v : Nat} {s : State} : KeptO 16479743 s (execTwinWriteClose t req off v s) := by
  unfold execTwinWriteClose
  repeat' first
    | (intro)
    | with_reducible assumption
    | with_reducible exact Kept.refl _ _
    | exact Eq.refl _
    | (with_reducible refine KeptO.next ?_)
    | (with_reducible apply Kept.step State.secondWord_kept)
    | (with_reducible apply KeptO.lift State.done_kept)
    | (with_reducible apply Kept.step State.at__kept)

theorem execTwinWriteTimeout_kept {t : Nat} {req : Nat} {s : State} : KeptO 7865727 s (execTwinWriteTimeout t req s) := by
  unfold execTwinWriteTimeout
  repeat' first
    | (intro)
    | with_reducible assumption
    | with_reducible exact Kept.refl _ _
    | exact Eq.refl _
    | split
    | (with_reducible refine KeptO.next ?_)
    | (with_reducible apply Kept.step State.seqExpire_kept)
    | (with_reducible apply KeptO.lift State.done_kept)
    | (with_reducible apply Kept.step State.at__kept)
    | (with_reducible refine Kept.snd (by with_reducible assumption) ?_)
    | (with_reducible refine Kept.fst (by with_reducible assumption) ?_)

theorem execWldLockSet_kept {t : Nat} {req : Nat} {v : Nat} {s : State} : KeptO 16479743 s (execWldLockSet t req v s) := by
  unfold execWldLockSet
  repeat' first
    | (intro)
    | with_reducible assumption
    | with_reducible exact Kept.refl _ _
    | exact Eq.refl _
    | (with_reducible refine KeptO.next ?_)
    | (with_reducible apply Kept.step State.secondWord_kept)
    | (with_reducible apply KeptO.lift State.done_kept)
    | (with_reducible apply Kept.step State.at__kept)

theorem execWldWorldChange_kept {t : Nat} {req : Nat} {k : Nat} {v : Nat} {s : State} : KeptO 16479743 s (execWldWorldChange t req k v s) := by
  unfold execWldWorldChange
  repeat' first
    | (intro)
    | with_reducible assumption
    | with_reducible exact Kept.refl _ _
    | exact Eq.refl _
    | (with_reducible refine KeptO.next ?_)
    | (with_reducible apply Kept.step State.secondWord_kept)
    | (with_reducible apply KeptO.lift State.done_kept)
    | (with_reducible apply Kept.step State.at__kept)

theorem execWldHregApply_kept {t : Nat} {req : Nat} {n : Nat} {v : Nat} {s : State} : KeptO 16479743 s (execWldHregApply t req n v s) := by
  unfold execWldHregApply
  repeat' first
    | (intro)
    | with_reducible assumption
    | with_reducible exact Kept.refl _ _
    | exact Eq.refl _
    | split
    | (with_reducible refine KeptO.next ?_)
    | (with_reducible apply Kept.step State.secondWord_kept)
    | (with_reducible apply KeptO.lift State.done_kept)
    | (with_reducible apply Kept.step State.at__kept)
    | (with_reducible refine Kept.snd (by with_reducible assumption) ?_)
    | (with_reducible refine Kept.fst (by with_reducible assumption) ?_)

theorem execRegisterWrite_kept {t : Nat} {req : Nat} {off : Nat} {size : Nat} {v : Nat} {s : State} : KeptO 16479743 s (execRegisterWrite t req off size v s) := by
  unfold execRegisterWrite
  repeat' first
    | (intro)
    | with_reducible assumption
    | with_reducible exact Kept.refl _ _
    | exact Eq.refl _
    | (with_reducible refine KeptO.next ?_)
    | (with_reducible apply Kept.step State.regWrite_kept)
    | (with_reducible apply KeptO.lift State.done_kept)
    | (with_reducible apply Kept.step State.at__kept)

theorem execRcFieldRead_kept {t : Nat} {req : Nat} {off : Nat} {size : Nat} {quiet : Bool} {s : State} : KeptO 7873919 s (execRcFieldRead t req off size quiet s) := by
  unfold execRcFieldRead
  repeat' first
    | (intro)
    | with_reducible assumption
    | with_reducible exact Kept.refl _ _
    | exact Eq.refl _
    | (with_reducible refine KeptO.next ?_)
    | (with_reducible apply Kept.step State.regRead_kept)
    | (with_reducible apply KeptO.lift State.done_kept)
    | (with_reducible apply Kept.step State.at__kept)

theorem execAlmSeqLoRead_kept {t : Nat} {req : Nat} {quiet : Bool} {s : State} : KeptO 7873919 s (execAlmSeqLoRead t req quiet s) := by
  unfold execAlmSeqLoRead
  repeat' first
    | (intro)
    | with_reducible assumption
    | with_reducible exact Kept.refl _ _
    | exact Eq.refl _
    | (with_reducible refine KeptO.next ?_)
    | (with_reducible apply Kept.step State.regRead_kept)
    | (with_reducible apply KeptO.lift State.done_kept)
    | (with_reducible apply Kept.step State.at__kept)

theorem execAlmSpillExitWrite_kept {t : Nat} {req : Nat} {v : Nat} {s : State} : KeptO 16479743 s (execAlmSpillExitWrite t req v s) := by
  unfold execAlmSpillExitWrite
  repeat' first
    | (intro)
    | with_reducible assumption
    | with_reducible exact Kept.refl _ _
    | exact Eq.refl _
    | (with_reducible refine KeptO.next ?_)
    | (with_reducible apply Kept.step State.regWrite_kept)
    | (with_reducible apply KeptO.lift State.done_kept)
    | (with_reducible apply Kept.step State.at__kept)

theorem execSuppEnChange_kept {t : Nat} {req : Nat} {v : Nat} {s : State} : KeptO 16479743 s (execSuppEnChange t req v s) := by
  unfold execSuppEnChange
  repeat' first
    | (intro)
    | with_reducible assumption
    | with_reducible exact Kept.refl _ _
    | exact Eq.refl _
    | (with_reducible refine KeptO.next ?_)
    | (with_reducible apply Kept.step State.regWrite_kept)
    | (with_reducible apply Kept.step State.bcnSettle_kept)
    | (with_reducible apply KeptO.lift State.done_kept)
    | (with_reducible apply Kept.step State.at__kept)

theorem execFloodEnClear_kept {t : Nat} {req : Nat} {w : Option Nat} {v : Nat} {s : State} : KeptO 16479743 s (execFloodEnClear t req w v s) := by
  unfold execFloodEnClear
  repeat' first
    | (intro)
    | with_reducible assumption
    | with_reducible exact Kept.refl _ _
    | exact Eq.refl _
    | split
    | (with_reducible refine KeptO.next ?_)
    | (with_reducible apply Kept.step State.regWrite_kept)
    | (with_reducible apply Kept.step State.bcnSettle_kept)
    | (with_reducible apply KeptO.lift State.done_kept)
    | (with_reducible apply Kept.step State.at__kept)
    | (with_reducible refine Kept.snd (by with_reducible assumption) ?_)
    | (with_reducible refine Kept.fst (by with_reducible assumption) ?_)

theorem execHoldAllSet_kept {t : Nat} {req : Nat} {v : Nat} {s : State} : KeptO 16479743 s (execHoldAllSet t req v s) := by
  unfold execHoldAllSet
  repeat' first
    | (intro)
    | with_reducible assumption
    | with_reducible exact Kept.refl _ _
    | exact Eq.refl _
    | (with_reducible refine KeptO.next ?_)
    | (with_reducible apply Kept.step State.secondWord_kept)
    | (with_reducible apply KeptO.lift State.done_kept)
    | (with_reducible apply Kept.step State.at__kept)

theorem execPanelEnWrite_kept {t : Nat} {req : Nat} {v : Nat} {s : State} : KeptO 16479743 s (execPanelEnWrite t req v s) := by
  unfold execPanelEnWrite
  repeat' first
    | (intro)
    | with_reducible assumption
    | with_reducible exact Kept.refl _ _
    | exact Eq.refl _
    | (with_reducible refine KeptO.next ?_)
    | (with_reducible apply Kept.step State.regWrite_kept)
    | (with_reducible apply KeptO.lift State.done_kept)
    | (with_reducible apply Kept.step State.at__kept)

theorem execRetainWrite_kept {t : Nat} {req : Nat} {v : Nat} {s : State} : KeptO 16479743 s (execRetainWrite t req v s) := by
  unfold execRetainWrite
  repeat' first
    | (intro)
    | with_reducible assumption
    | with_reducible exact Kept.refl _ _
    | exact Eq.refl _
    | (with_reducible refine KeptO.next ?_)
    | (with_reducible apply Kept.step State.regWrite_kept)
    | (with_reducible apply KeptO.lift State.done_kept)
    | (with_reducible apply Kept.step State.at__kept)

theorem execHartTxWrite_kept {t : Nat} {req : Nat} {n : Nat} {v : Nat} {s : State} : KeptO 16479743 s (execHartTxWrite t req n v s) := by
  unfold execHartTxWrite
  repeat' first
    | (intro)
    | with_reducible assumption
    | with_reducible exact Kept.refl _ _
    | exact Eq.refl _
    | split
    | (with_reducible refine KeptO.next ?_)
    | (with_reducible apply Kept.step State.regWrite_kept)
    | (with_reducible apply KeptO.lift State.done_kept)
    | (with_reducible apply Kept.step State.at__kept)
    | (with_reducible refine Kept.snd (by with_reducible assumption) ?_)
    | (with_reducible refine Kept.fst (by with_reducible assumption) ?_)

theorem execHartRxRead_kept {t : Nat} {req : Nat} {n : Nat} {quiet : Bool} {s : State} : KeptO 7873919 s (execHartRxRead t req n quiet s) := by
  unfold execHartRxRead
  repeat' first
    | (intro)
    | with_reducible assumption
    | with_reducible exact Kept.refl _ _
    | exact Eq.refl _
    | split
    | (with_reducible refine KeptO.next ?_)
    | (with_reducible apply Kept.step State.regRead_kept)
    | (with_reducible apply KeptO.lift State.done_kept)
    | (with_reducible apply Kept.step State.at__kept)
    | (with_reducible refine Kept.snd (by with_reducible assumption) ?_)
    | (with_reducible refine Kept.fst (by with_reducible assumption) ?_)

theorem execKprRestart_kept {t : Nat} {req : Nat} {v : Nat} {s : State} : KeptO 16479743 s (execKprRestart t req v s) := by
  unfold execKprRestart
  repeat' first
    | (intro)
    | with_reducible assumption
    | with_reducible exact Kept.refl _ _
    | exact Eq.refl _
    | (with_reducible refine KeptO.next ?_)
    | (with_reducible apply Kept.step State.secondWord_kept)
    | (with_reducible apply KeptO.lift State.done_kept)
    | (with_reducible apply Kept.step State.at__kept)

theorem execFanRestart_kept {t : Nat} {req : Nat} {n : Nat} {v : Nat} {s : State} : KeptO 16479743 s (execFanRestart t req n v s) := by
  unfold execFanRestart
  repeat' first
    | (intro)
    | with_reducible assumption
    | with_reducible exact Kept.refl _ _
    | exact Eq.refl _
    | split
    | (with_reducible refine KeptO.next ?_)
    | (with_reducible apply Kept.step State.regWrite_kept)
    | (with_reducible apply KeptO.lift State.done_kept)
    | (with_reducible apply Kept.step State.at__kept)
    | (with_reducible refine Kept.snd (by with_reducible assumption) ?_)
    | (with_reducible refine Kept.fst (by with_reducible assumption) ?_)

theorem execRtcCapture_kept {t : Nat} {req : Nat} {v : Nat} {s : State} : KeptO 16479743 s (execRtcCapture t req v s) := by
  unfold execRtcCapture
  repeat' first
    | (intro)
    | with_reducible assumption
    | with_reducible exact Kept.refl _ _
    | exact Eq.refl _
    | (with_reducible refine KeptO.next ?_)
    | (with_reducible apply Kept.step State.regWrite_kept)
    | (with_reducible apply KeptO.lift State.done_kept)
    | (with_reducible apply Kept.step State.at__kept)

theorem execRtcSet_kept {t : Nat} {req : Nat} {v : Nat} {s : State} : KeptO 16479743 s (execRtcSet t req v s) := by
  unfold execRtcSet
  repeat' first
    | (intro)
    | with_reducible assumption
    | with_reducible exact Kept.refl _ _
    | exact Eq.refl _
    | (with_reducible refine KeptO.next ?_)
    | (with_reducible apply Kept.step State.secondWord_kept)
    | (with_reducible apply KeptO.lift State.done_kept)
    | (with_reducible apply Kept.step State.at__kept)

theorem execRtcShift_kept {t : Nat} {req : Nat} {v : Nat} {s : State} : KeptO 16479743 s (execRtcShift t req v s) := by
  unfold execRtcShift
  repeat' first
    | (intro)
    | with_reducible assumption
    | with_reducible exact Kept.refl _ _
    | exact Eq.refl _
    | (with_reducible refine KeptO.next ?_)
    | (with_reducible apply Kept.step State.secondWord_kept)
    | (with_reducible apply KeptO.lift State.done_kept)
    | (with_reducible apply Kept.step State.at__kept)

theorem execPwronRelease_kept {t : Nat} {req : Nat} {v : Nat} {s : State} : KeptO 16479743 s (execPwronRelease t req v s) := by
  unfold execPwronRelease
  repeat' first
    | (intro)
    | with_reducible assumption
    | with_reducible exact Kept.refl _ _
    | exact Eq.refl _
    | (with_reducible refine KeptO.next ?_)
    | (with_reducible apply Kept.step State.regWrite_kept)
    | (with_reducible apply KeptO.lift State.done_kept)
    | (with_reducible apply Kept.step State.at__kept)

theorem State.heldTwin_kept {off : Nat} {a : Nat} {b : Nat} {img : Bool} {s : State} : Kept 6815790 s (State.heldTwin off a b img s) := by
  unfold State.heldTwin
  repeat' first
    | (intro)
    | with_reducible assumption
    | with_reducible exact Kept.refl _ _
    | exact Eq.refl _
    | (extract_lets +onlyGivenNames x
       first
       | (have hx : Kept 6815790 s x := ?_
          clear_value x
          rotate_left
          subst x
          rotate_left)
       | clear_value x)
    | split
    | (with_reducible apply Kept.step State.twinEvent_kept)
    | (with_reducible apply Kept.step State.bump_kept)
    | (with_reducible apply Kept.step State.wr_kept)
    | (with_reducible refine Kept.snd (by with_reducible assumption) ?_)
    | (with_reducible refine Kept.fst (by with_reducible assumption) ?_)

theorem execHeldTwinScrub_kept {t : Nat} {upset : List (Nat × Nat × Nat)} {img : Bool} {s : State} : KeptO 7865727 s (execHeldTwinScrub t upset img s) := by
  unfold execHeldTwinScrub
  repeat' first
    | (intro)
    | with_reducible assumption
    | with_reducible exact Kept.refl _ _
    | exact Eq.refl _
    | (with_reducible refine KeptO.next ?_)
    | (with_reducible apply Kept.step State.heldTwin_kept)
    | (with_reducible apply KeptO.lift State.done_kept)
    | (with_reducible apply Kept.step State.at__kept)
    | (with_reducible refine Kept.fold ?_ ?_)
    | (with_reducible refine Kept.foldSnd ?_ ?_)
    | (with_reducible refine Kept.foldFst ?_ ?_)

end Sys2Proof.Machine
end

