-- ==== Sys2Proof/Laws/Exec.lean ====
section
/-! SUPPORT. Every command answers a next state, and what that state keeps. -/

namespace Sys2Proof.Machine

set_option Elab.async false

/-- The groups of the state that a command may change, as `Kept` numbers them. -/
def touches : Instr → Nat
  | .nop _ _ => 7865727
  | .ringCreate _ _ => 16254335
  | .ringDelete _ _ => 7865727
  | .ringTune _ _ => 7865727
  | .ringQuery _ _ => 16254335
  | .sysStatus _ _ => 7865727
  | .cfgCommit _ _ => 7996799
  | .cfgFactory _ _ => 7996799
  | .cfgConfirm _ _ => 7996799
  | .pntConfig _ _ => 8384511
  | .pntConfigExpert _ _ => 8384511
  | .pntDelete _ _ => 8384511
  | .pntRead _ _ => 16648063
  | .pntForce _ _ => 8269823
  | .pntUnforce _ _ => 8269823
  | .pntSimStart _ _ => 8269823
  | .pntSimValue _ _ => 8269823
  | .pntSimEnd _ _ => 8269823
  | .pntOutput _ _ => 8269823
  | .pntReset _ _ => 8261631
  | .pntVoteBind _ _ => 8259583
  | .pntProfileWrite _ _ => 7996799
  | .pntProfileRead _ _ => 7865727
  | .almAck _ _ => 8259583
  | .almShelve _ _ => 8259583
  | .almUnshelve _ _ => 8259583
  | .almOos _ _ => 8259583
  | .almReturn _ _ => 8259583
  | .almCondRead _ _ => 16648063
  | .almAdaptHold _ _ => 8259583
  | .secConfig _ _ => 8013183
  | .secRead _ _ => 16254335
  | .secFoReset _ _ => 8013183
  | .secCauseSet _ _ => 7997311
  | .secCauseDelete _ _ => 7997311
  | .secCauseRead _ _ => 16254335
  | .secMirrorBind _ _ => 8013311
  | .cmwChannel _ _ => 7998847
  | .cmwBand _ _ => 7998847
  | .cmwSpeedRef _ _ => 7998847
  | .cmwBind _ _ => 7998847
  | .cmwBaseline _ _ => 16387455
  | .cmwCaptureDef _ _ => 7998847
  | .cmwCaptureTrig _ _ => 7867775
  | .cmwCaptureStop _ _ => 7867775
  | .cmwRead _ _ => 16254335
  | .ctlLoopConfig _ _ => 8000895
  | .ctlSupConfig _ _ => 8000895
  | .ctlMode _ _ => 8000895
  | .ctlManOut _ _ => 7869823
  | .ctlSetpoint _ _ => 8000895
  | .ctlCompTable _ _ => 8000895
  | .ctlSupReset _ _ => 7869823
  | .ctlTuneStart _ _ => 7869823
  | .ctlTuneStop _ _ => 7869823
  | .ctlTuneRead _ _ => 16254335
  | .ctlLoopRead _ _ => 16254335
  | .ctlLoopDelete _ _ => 8000895
  | .bcnTableWrite _ _ => 7996799
  | .bcnTableRead _ _ => 16254335
  | .bcnAccept _ _ => 7898623
  | .bcnDm _ _ => 7898495
  | .bcnUms _ _ => 7996799
  | .bcnHostCall _ _ => 7964159
  | .ldgBinset _ _ => 7865727
  | .ldgView _ _ => 16254335
  | .ldgFlush _ _ => 7865727
  | .ldgSnapshot _ _ => 16254335
  | .ldgTripArm _ _ => 7865727
  | .ldgTripStop _ _ => 7865727
  | .ldgTripTrigger _ _ => 7865727
  | .ldgTripRead _ _ => 16254335
  | .hstVolCreate _ _ => 7996799
  | .hstVolErase _ _ => 7996799
  | .hstVolDelete _ _ => 7996799
  | .hstRemount _ _ => 7865727
  | .hstLegReplace _ _ => 7996799
  | .hstRead _ _ => 7865727
  | .ltnTile _ _ => 8013183
  | .ltnFrameWrite _ _ => 7882111
  | .ltnShow _ _ => 8013183
  | .fabRouteWrite _ _ => 7865855
  | .fabRouteRead _ _ => 16254335
  | .fabRouteCommit _ _ => 7865727
  | .fabEpoch _ _ => 7865855
  | .fabQuench _ _ => 7865855
  | .fabLeave _ _ => 7865855
  | .fabHandback _ _ => 7865855
  | .fabPortCtrl _ _ => 7996927
  | .fabSv _ _ => 7996799
  | .updateBegin _ _ => 7996799
  | .updateData _ _ => 7996799
  | .updateEnd _ _ => 7996799
  | .updateActivate _ _ => 7996799
  | .logRead _ _ => 16254335
  | .sensorRead _ _ => 16254335
  | .updateCancel _ _ => 7996799
  | .mgmtHello _ _ _ => 7865727
  | .mgmtAuth _ _ _ _ _ => 7865727
  | .mgmtMailbox _ _ _ _ _ _ _ _ => 7996799
  | .mgmtClose _ _ _ => 7865727
  | .mgmtSessionIdle _ _ => 7865727
  | .mgmtLockoutEnd _ _ => 7865721
  | .debugHalt _ => 7865727
  | .debugRun _ _ => 7996799
  | .debugSessionExpire _ => 7865727
  | .doorbellCountWrite _ _ _ _ _ => 7865727
  | .doorbellArmWrite _ _ _ _ _ => 7865727
  | .descriptorFetch _ _ => 16254335
  | .completionWrite _ _ => 7865721
  | .eventBacklogDrain _ _ => 7865721
  | .vectorCoalesceExpire _ _ => 7865721
  | .msixUnmask _ _ _ => 7865721
  | .dataInSend _ _ _ _ => 7865855
  | .dataOutWriteback _ _ => 7865721
  | .dmaError _ _ _ => 7865727
  | .functionLevelReset _ _ _ _ => 7865727
  | .fnQuenchWrite _ _ _ _ => 7865727
  | .admEnWrite _ _ _ _ => 16254335
  | .hifQuenchWrite _ _ _ => 7865727
  | .twinWriteOpen _ _ _ _ => 16479743
  | .twinWriteClose _ _ _ _ => 16479743
  | .twinWriteTimeout _ _ => 7865727
  | .wldLockSet _ _ _ => 16479743
  | .wldWorldChange _ _ _ _ => 16479743
  | .wldHregApply _ _ _ _ => 16479743
  | .registerWrite _ _ _ _ _ => 16479743
  | .rcFieldRead _ _ _ _ _ => 7873919
  | .almSeqLoRead _ _ _ => 7873919
  | .almSpillExitWrite _ _ _ => 16479743
  | .suppEnChange _ _ _ => 16479743
  | .floodEnClear _ _ _ _ => 16479743
  | .holdAllSet _ _ _ => 16479743
  | .panelEnWrite _ _ _ => 16479743
  | .retainWrite _ _ _ => 16479743
  | .hartTxWrite _ _ _ _ => 16479743
  | .hartRxRead _ _ _ _ => 7873919
  | .kprRestart _ _ _ => 16479743
  | .fanRestart _ _ _ _ => 16479743
  | .rtcCapture _ _ _ => 16479743
  | .rtcSet _ _ _ => 16479743
  | .rtcShift _ _ _ => 16479743
  | .pwronRelease _ _ _ => 16479743
  | .pointUpdateApply _ _ _ _ => 8269823
  | .scanTick _ => 8269823
  | .delayTimerExpire _ _ => 8259583
  | .coarseSlotServe _ => 8259583
  | .shelveSweep _ _ => 8259583
  | .adaptSweep _ _ => 8259583
  | .suppressionInput _ => 8259583
  | .pointRecordScrub _ _ _ _ => 7865727
  | .heldTwinScrub _ _ _ => 7865727
  | .sectorChangeProcess _ => 7991295
  | .settleTimerExpire _ => 7866239
  | .releaseTimerExpire _ => 7866239
  | .floodRecount _ => 7882111
  | .floodReleaseDone _ => 7980543
  | .sectorAudit _ _ _ => 7882111
  | .edgeCompactionDone _ => 7865727
  | .mirrorTimeout _ _ => 7865727
  | .mirrorHoldExpire _ _ => 7866239
  | .mirrorRefreshSend _ _ => 7865855
  | .mirrorAckTimeout _ => 7865721
  | .cmwBlock _ => 7867775
  | .frameFeatures _ => 7867769
  | .tachPulse _ _ => 7867775
  | .speedStopped _ _ => 7867769
  | .captureEnd _ _ => 7867775
  | .baselineCheckpoint _ => 7867769
  | .loopEvaluate _ _ _ => 7878143
  | .loopFrameDepart _ _ => 7865855
  | .stageTimerExpire _ _ => 7898623
  | .attendTimerExpire _ _ => 7898623
  | .deadmanTimerExpire _ _ => 7964159
  | .stationLostTimeout _ _ => 7865727
  | .bcnCallRepeat _ _ _ => 7898623
  | .bcnStatus _ _ _ => 7898623
  | .bcnStationEvt _ _ _ _ _ => 7898623
  | .histBoundary _ => 8127865
  | .ledgerAgeFlush _ => 7865721
  | .lshipLedgerPass _ => 7865721
  | .spoolReplay _ => 7865727
  | .nvmeCompletion _ _ _ _ => 16256383
  | .nvmeTimeout _ _ _ => 16256383
  | .controllerArrival _ _ _ _ _ _ => 7865727
  | .volumeMount _ _ _ => 7867775
  | .deallocationComplete _ _ => 7867775
  | .legSyncComplete _ _ => 7865727
  | .frameReceive _ _ _ _ _ _ _ _ => 8388607
  | .egressSend _ _ => 7865855
  | .pairWaitExpire _ => 8384511
  | .rerouteWaitExpire _ => 7865855
  | .credit _ _ _ _ => 7865855
  | .retryTimerExpire _ _ => 7865855
  | .creditSend _ _ => 7865849
  | .dreq _ _ _ _ => 7865855
  | .dreqSend _ _ => 7865849
  | .dresp _ _ _ _ => 7865855
  | .init _ _ _ _ => 7865855
  | .initSend _ _ => 7865849
  | .initTimeout _ _ => 7865855
  | .linkTrained _ _ => 7865855
  | .portLinkDown _ _ => 7865855
  | .contactLoss _ _ => 7865855
  | .takeover _ _ => 8286207
  | .handbackTimeout _ _ => 8269823
  | .heartbeatSend _ => 7865855
  | .aliasLearnTimeout _ => 8286207
  | .replFrameSend _ => 7865855
  | .epochSwitch _ => 7865855
  | .quenchLapse _ _ => 7865855
  | .timeSyncSend _ => 7865855
  | .timeHoldover _ => 7931391
  | .rootRtcCompare _ => 7935487
  | .ethFrameReceive _ _ _ => 7937535
  | .ptpMasterSend _ _ => 7865849
  | .aiConversion _ _ _ _ _ => 7875967
  | .leadPhase _ _ _ => 7873919
  | .aiOvervoltage _ _ _ => 7873919
  | .dioEdgeAccept _ _ => 8302591
  | .doOverload _ _ => 8269823
  | .doOverloadRetry _ _ _ => 8269823
  | .doReadbackMismatch _ _ => 8269823
  | .aoSupervision _ _ _ _ _ _ => 8269823
  | .hartTransmitStart _ _ => 7873919
  | .hartByteReceive _ _ _ _ => 7873919
  | .outputTwinCheck _ _ => 7873919
  | .lioSafeEnter _ => 7873919
  | .lioSafeExit _ => 7873919
  | .pulseEnd _ _ => 7873919
  | .lioPulseDrop _ _ => 7873919
  | .demagEnd _ _ => 7873919
  | .tileComposeDone _ => 7882111
  | .lightPhaseEdge _ => 7882105
  | .panelSweepCheck _ _ => 7882111
  | .panelStartDone _ => 7882111
  | .panelStopDone _ => 7882111
  | .ltnBiasFault _ _ => 7882111
  | .chargePumpRestart _ => 7882111
  | .frameCopyWrite _ => 7882105
  | .pwrFailWarn _ _ _ _ => 8355839
  | .pwrMainReturn _ _ _ => 8388607
  | .emerChange _ _ _ _ => 8388607
  | .fieldChange _ _ _ => 7865727
  | .pwrScapLow _ _ => 7882111
  | .pwrLshipFail _ _ => 8275327
  | .lightshipStop _ => 8388607
  | .scapFull _ => 8144255
  | .lrefLoss _ => 7865727
  | .lshipHandback _ => 8250879
  | .logicSideReturn _ => 7878015
  | .lshipEvaluate _ => 8384511
  | .thermalTrip _ _ _ _ => 8289791
  | .thermalClear _ _ _ => 8127871
  | .keeperReset _ => 7996799
  | .keeperWatchdog _ => 7996799
  | .lockstepFault _ _ => 7996799
  | .eccError _ => 7996799
  | .maskRomBoot _ _ => 7865727
  | .trialEnd _ => 7865727
  | .updateIdleTimeout _ => 7865727
  | .norWindowExpire _ _ => 7865727
  | .sensorLimit _ _ _ _ => 7865727
  | .fanStartJudge _ _ _ _ => 7865727
  | .fanRetryWaitEnd _ _ => 7865727
  | .fanStallDetect _ _ _ _ => 7865727
  | .fanTachRecover _ _ _ _ => 7865727
  | .fanCurveUpdate _ => 7865727
  | .keeperLogWrite _ => 7865727
  | .storeBlockRetire _ _ _ _ => 8015231
  | .backupSwitchover _ => 7931263
  | .vbakMeasure _ _ => 7931263
  | .backupPor _ => 7931263
  | .crystalFail _ => 7931263
  | .trimWindowEnd _ _ _ _ _ => 7931263
  | .calendarAlarm _ => 7931263
  | .pwronPulseEnd _ => 7931263
  | .pwronHoldoffEnd _ => 7931263
  | .lshipPowerGood _ _ _ _ => 8382463
  | .restoreDone _ _ => 8019967
  | .autoCommit _ => 7996799
  | .checkpointWrite _ _ => 7996799
  | .loopBlockWrite _ => 7996793
  | .loopConfigScrub _ _ _ _ _ => 7869823
  | .resyncComplete _ _ => 7865855
  | .controllerPathLinkDown _ _ => 16256383
  | .utcDayEndLeap _ => 7865727
  | .lrefReturn _ => 7865727
  | .crystalReturn _ => 7931263
  | .scapChargeRestart _ _ => 8144255
  | .commitComplete _ => 7996799
  | .keeperReady _ _ => 8382463
  | .hostLinkTrained _ _ _ _ => 7865727
  | .panelTemperatureChange _ _ _ => 7882111
  | .panelLineSent _ => 7882111
  | .hartRxGap _ _ => 7873919
  | .hartTransmitEnd _ _ => 7873919
  | .mgmtArpIcmpEcho _ _ _ _ _ => 7865721
  | .sounderFoldback _ => 7865721
  | .sounderFoldbackEnd _ => 7865721
  | .fftUnitGate _ => 7865727
  | .uncleanStop _ _ => 8331263

/-- Every command answers a next state, and leaves alone what it does not touch. -/
theorem exec_kept (i : Instr) (s : State) : KeptO (touches i) s (exec i s) := by
  cases i
  case nop => exact execNop_kept
  case ringCreate => exact execRingCreate_kept
  case ringDelete => exact execRingDelete_kept
  case ringTune => exact execRingTune_kept
  case ringQuery => exact execRingQuery_kept
  case sysStatus => exact execSysStatus_kept
  case cfgCommit => exact execCfgCommit_kept
  case cfgFactory => exact execCfgFactory_kept
  case cfgConfirm => exact execCfgConfirm_kept
  case pntConfig => exact execPntConfig_kept
  case pntConfigExpert => exact execPntConfigExpert_kept
  case pntDelete => exact execPntDelete_kept
  case pntRead => exact execPntRead_kept
  case pntForce => exact execPntForce_kept
  case pntUnforce => exact execPntUnforce_kept
  case pntSimStart => exact execPntSimStart_kept
  case pntSimValue => exact execPntSimValue_kept
  case pntSimEnd => exact execPntSimEnd_kept
  case pntOutput => exact execPntOutput_kept
  case pntReset => exact execPntReset_kept
  case pntVoteBind => exact execPntVoteBind_kept
  case pntProfileWrite => exact execPntProfileWrite_kept
  case pntProfileRead => exact execPntProfileRead_kept
  case almAck => exact execAlmAck_kept
  case almShelve => exact execAlmShelve_kept
  case almUnshelve => exact execAlmUnshelve_kept
  case almOos => exact execAlmOos_kept
  case almReturn => exact execAlmReturn_kept
  case almCondRead => exact execAlmCondRead_kept
  case almAdaptHold => exact execAlmAdaptHold_kept
  case secConfig => exact execSecConfig_kept
  case secRead => exact execSecRead_kept
  case secFoReset => exact execSecFoReset_kept
  case secCauseSet => exact execSecCauseSet_kept
  case secCauseDelete => exact execSecCauseDelete_kept
  case secCauseRead => exact execSecCauseRead_kept
  case secMirrorBind => exact execSecMirrorBind_kept
  case cmwChannel => exact execCmwChannel_kept
  case cmwBand => exact execCmwBand_kept
  case cmwSpeedRef => exact execCmwSpeedRef_kept
  case cmwBind => exact execCmwBind_kept
  case cmwBaseline => exact execCmwBaseline_kept
  case cmwCaptureDef => exact execCmwCaptureDef_kept
  case cmwCaptureTrig => exact execCmwCaptureTrig_kept
  case cmwCaptureStop => exact execCmwCaptureStop_kept
  case cmwRead => exact execCmwRead_kept
  case ctlLoopConfig => exact execCtlLoopConfig_kept
  case ctlSupConfig => exact execCtlSupConfig_kept
  case ctlMode => exact execCtlMode_kept
  case ctlManOut => exact execCtlManOut_kept
  case ctlSetpoint => exact execCtlSetpoint_kept
  case ctlCompTable => exact execCtlCompTable_kept
  case ctlSupReset => exact execCtlSupReset_kept
  case ctlTuneStart => exact execCtlTuneStart_kept
  case ctlTuneStop => exact execCtlTuneStop_kept
  case ctlTuneRead => exact execCtlTuneRead_kept
  case ctlLoopRead => exact execCtlLoopRead_kept
  case ctlLoopDelete => exact execCtlLoopDelete_kept
  case bcnTableWrite => exact execBcnTableWrite_kept
  case bcnTableRead => exact execBcnTableRead_kept
  case bcnAccept => exact execBcnAccept_kept
  case bcnDm => exact execBcnDm_kept
  case bcnUms => exact execBcnUms_kept
  case bcnHostCall => exact execBcnHostCall_kept
  case ldgBinset => exact execLdgBinset_kept
  case ldgView => exact execLdgView_kept
  case ldgFlush => exact execLdgFlush_kept
  case ldgSnapshot => exact execLdgSnapshot_kept
  case ldgTripArm => exact execLdgTripArm_kept
  case ldgTripStop => exact execLdgTripStop_kept
  case ldgTripTrigger => exact execLdgTripTrigger_kept
  case ldgTripRead => exact execLdgTripRead_kept
  case hstVolCreate => exact execHstVolCreate_kept
  case hstVolErase => exact execHstVolErase_kept
  case hstVolDelete => exact execHstVolDelete_kept
  case hstRemount => exact execHstRemount_kept
  case hstLegReplace => exact execHstLegReplace_kept
  case hstRead => exact execHstRead_kept
  case ltnTile => exact execLtnTile_kept
  case ltnFrameWrite => exact execLtnFrameWrite_kept
  case ltnShow => exact execLtnShow_kept
  case fabRouteWrite => exact execFabRouteWrite_kept
  case fabRouteRead => exact execFabRouteRead_kept
  case fabRouteCommit => exact execFabRouteCommit_kept
  case fabEpoch => exact execFabEpoch_kept
  case fabQuench => exact execFabQuench_kept
  case fabLeave => exact execFabLeave_kept
  case fabHandback => exact execFabHandback_kept
  case fabPortCtrl => exact execFabPortCtrl_kept
  case fabSv => exact execFabSv_kept
  case updateBegin => exact execUpdateBegin_kept
  case updateData => exact execUpdateData_kept
  case updateEnd => exact execUpdateEnd_kept
  case updateActivate => exact execUpdateActivate_kept
  case logRead => exact execLogRead_kept
  case sensorRead => exact execSensorRead_kept
  case updateCancel => exact execUpdateCancel_kept
  case mgmtHello => exact execMgmtHello_kept
  case mgmtAuth => exact execMgmtAuth_kept
  case mgmtMailbox => exact execMgmtMailbox_kept
  case mgmtClose => exact execMgmtClose_kept
  case mgmtSessionIdle => exact execMgmtSessionIdle_kept
  case mgmtLockoutEnd => exact execMgmtLockoutEnd_kept
  case debugHalt => exact execDebugHalt_kept
  case debugRun => exact execDebugRun_kept
  case debugSessionExpire => exact execDebugSessionExpire_kept
  case doorbellCountWrite => exact execDoorbellCountWrite_kept
  case doorbellArmWrite => exact execDoorbellArmWrite_kept
  case descriptorFetch => exact execDescriptorFetch_kept
  case completionWrite => exact execCompletionWrite_kept
  case eventBacklogDrain => exact execEventBacklogDrain_kept
  case vectorCoalesceExpire => exact execVectorCoalesceExpire_kept
  case msixUnmask => exact execMsixUnmask_kept
  case dataInSend => exact execDataInSend_kept
  case dataOutWriteback => exact execDataOutWriteback_kept
  case dmaError => exact execDmaError_kept
  case functionLevelReset => exact execFunctionLevelReset_kept
  case fnQuenchWrite => exact execFnQuenchWrite_kept
  case admEnWrite => exact execAdmEnWrite_kept
  case hifQuenchWrite => exact execHifQuenchWrite_kept
  case twinWriteOpen => exact execTwinWriteOpen_kept
  case twinWriteClose => exact execTwinWriteClose_kept
  case twinWriteTimeout => exact execTwinWriteTimeout_kept
  case wldLockSet => exact execWldLockSet_kept
  case wldWorldChange => exact execWldWorldChange_kept
  case wldHregApply => exact execWldHregApply_kept
  case registerWrite => exact execRegisterWrite_kept
  case rcFieldRead => exact execRcFieldRead_kept
  case almSeqLoRead => exact execAlmSeqLoRead_kept
  case almSpillExitWrite => exact execAlmSpillExitWrite_kept
  case suppEnChange => exact execSuppEnChange_kept
  case floodEnClear => exact execFloodEnClear_kept
  case holdAllSet => exact execHoldAllSet_kept
  case panelEnWrite => exact execPanelEnWrite_kept
  case retainWrite => exact execRetainWrite_kept
  case hartTxWrite => exact execHartTxWrite_kept
  case hartRxRead => exact execHartRxRead_kept
  case kprRestart => exact execKprRestart_kept
  case fanRestart => exact execFanRestart_kept
  case rtcCapture => exact execRtcCapture_kept
  case rtcSet => exact execRtcSet_kept
  case rtcShift => exact execRtcShift_kept
  case pwronRelease => exact execPwronRelease_kept
  case pointUpdateApply => exact execPointUpdateApply_kept
  case scanTick => exact execScanTick_kept
  case delayTimerExpire => exact execDelayTimerExpire_kept
  case coarseSlotServe => exact execCoarseSlotServe_kept
  case shelveSweep => exact execShelveSweep_kept
  case adaptSweep => exact execAdaptSweep_kept
  case suppressionInput => exact execSuppressionInput_kept
  case pointRecordScrub => exact execPointRecordScrub_kept
  case heldTwinScrub => exact execHeldTwinScrub_kept
  case sectorChangeProcess => exact execSectorChangeProcess_kept
  case settleTimerExpire => exact execSettleTimerExpire_kept
  case releaseTimerExpire => exact execReleaseTimerExpire_kept
  case floodRecount => exact execFloodRecount_kept
  case floodReleaseDone => exact execFloodReleaseDone_kept
  case sectorAudit => exact execSectorAudit_kept
  case edgeCompactionDone => exact execEdgeCompactionDone_kept
  case mirrorTimeout => exact execMirrorTimeout_kept
  case mirrorHoldExpire => exact execMirrorHoldExpire_kept
  case mirrorRefreshSend => exact execMirrorRefreshSend_kept
  case mirrorAckTimeout => exact execMirrorAckTimeout_kept
  case cmwBlock => exact execCmwBlock_kept
  case frameFeatures => exact execFrameFeatures_kept
  case tachPulse => exact execTachPulse_kept
  case speedStopped => exact execSpeedStopped_kept
  case captureEnd => exact execCaptureEnd_kept
  case baselineCheckpoint => exact execBaselineCheckpoint_kept
  case loopEvaluate => exact execLoopEvaluate_kept
  case loopFrameDepart => exact execLoopFrameDepart_kept
  case stageTimerExpire => exact execStageTimerExpire_kept
  case attendTimerExpire => exact execAttendTimerExpire_kept
  case deadmanTimerExpire => exact execDeadmanTimerExpire_kept
  case stationLostTimeout => exact execStationLostTimeout_kept
  case bcnCallRepeat => exact execBcnCallRepeat_kept
  case bcnStatus => exact execBcnStatus_kept
  case bcnStationEvt => exact execBcnStationEvt_kept
  case histBoundary => exact execHistBoundary_kept
  case ledgerAgeFlush => exact execLedgerAgeFlush_kept
  case lshipLedgerPass => exact execLshipLedgerPass_kept
  case spoolReplay => exact execSpoolReplay_kept
  case nvmeCompletion => exact execNvmeCompletion_kept
  case nvmeTimeout => exact execNvmeTimeout_kept
  case controllerArrival => exact execControllerArrival_kept
  case volumeMount => exact execVolumeMount_kept
  case deallocationComplete => exact execDeallocationComplete_kept
  case legSyncComplete => exact execLegSyncComplete_kept
  case frameReceive => exact execFrameReceive_kept
  case egressSend => exact execEgressSend_kept
  case pairWaitExpire => exact execPairWaitExpire_kept
  case rerouteWaitExpire => exact execRerouteWaitExpire_kept
  case credit => exact execCredit_kept
  case retryTimerExpire => exact execRetryTimerExpire_kept
  case creditSend => exact execCreditSend_kept
  case dreq => exact execDreq_kept
  case dreqSend => exact execDreqSend_kept
  case dresp => exact execDresp_kept
  case init => exact execInit_kept
  case initSend => exact execInitSend_kept
  case initTimeout => exact execInitTimeout_kept
  case linkTrained => exact execLinkTrained_kept
  case portLinkDown => exact execPortLinkDown_kept
  case contactLoss => exact execContactLoss_kept
  case takeover => exact execTakeover_kept
  case handbackTimeout => exact execHandbackTimeout_kept
  case heartbeatSend => exact execHeartbeatSend_kept
  case aliasLearnTimeout => exact execAliasLearnTimeout_kept
  case replFrameSend => exact execReplFrameSend_kept
  case epochSwitch => exact execEpochSwitch_kept
  case quenchLapse => exact execQuenchLapse_kept
  case timeSyncSend => exact execTimeSyncSend_kept
  case timeHoldover => exact execTimeHoldover_kept
  case rootRtcCompare => exact execRootRtcCompare_kept
  case ethFrameReceive => exact execEthFrameReceive_kept
  case ptpMasterSend => exact execPtpMasterSend_kept
  case aiConversion => exact execAiConversion_kept
  case leadPhase => exact execLeadPhase_kept
  case aiOvervoltage => exact execAiOvervoltage_kept
  case dioEdgeAccept => exact execDioEdgeAccept_kept
  case doOverload => exact execDoOverload_kept
  case doOverloadRetry => exact execDoOverloadRetry_kept
  case doReadbackMismatch => exact execDoReadbackMismatch_kept
  case aoSupervision => exact execAoSupervision_kept
  case hartTransmitStart => exact execHartTransmitStart_kept
  case hartByteReceive => exact execHartByteReceive_kept
  case outputTwinCheck => exact execOutputTwinCheck_kept
  case lioSafeEnter => exact execLioSafeEnter_kept
  case lioSafeExit => exact execLioSafeExit_kept
  case pulseEnd => exact execPulseEnd_kept
  case lioPulseDrop => exact execLioPulseDrop_kept
  case demagEnd => exact execDemagEnd_kept
  case tileComposeDone => exact execTileComposeDone_kept
  case lightPhaseEdge => exact execLightPhaseEdge_kept
  case panelSweepCheck => exact execPanelSweepCheck_kept
  case panelStartDone => exact execPanelStartDone_kept
  case panelStopDone => exact execPanelStopDone_kept
  case ltnBiasFault => exact execLtnBiasFault_kept
  case chargePumpRestart => exact execChargePumpRestart_kept
  case frameCopyWrite => exact execFrameCopyWrite_kept
  case pwrFailWarn => exact execPwrFailWarn_kept
  case pwrMainReturn => exact execPwrMainReturn_kept
  case emerChange => exact execEmerChange_kept
  case fieldChange => exact execFieldChange_kept
  case pwrScapLow => exact execPwrScapLow_kept
  case pwrLshipFail => exact execPwrLshipFail_kept
  case lightshipStop => exact execLightshipStop_kept
  case scapFull => exact execScapFull_kept
  case lrefLoss => exact execLrefLoss_kept
  case lshipHandback => exact execLshipHandback_kept
  case logicSideReturn => exact execLogicSideReturn_kept
  case lshipEvaluate => exact execLshipEvaluate_kept
  case thermalTrip => exact execThermalTrip_kept
  case thermalClear => exact execThermalClear_kept
  case keeperReset => exact execKeeperReset_kept
  case keeperWatchdog => exact execKeeperWatchdog_kept
  case lockstepFault => exact execLockstepFault_kept
  case eccError => exact execEccError_kept
  case maskRomBoot => exact execMaskRomBoot_kept
  case trialEnd => exact execTrialEnd_kept
  case updateIdleTimeout => exact execUpdateIdleTimeout_kept
  case norWindowExpire => exact execNorWindowExpire_kept
  case sensorLimit => exact execSensorLimit_kept
  case fanStartJudge => exact execFanStartJudge_kept
  case fanRetryWaitEnd => exact execFanRetryWaitEnd_kept
  case fanStallDetect => exact execFanStallDetect_kept
  case fanTachRecover => exact execFanTachRecover_kept
  case fanCurveUpdate => exact execFanCurveUpdate_kept
  case keeperLogWrite => exact execKeeperLogWrite_kept
  case storeBlockRetire => exact execStoreBlockRetire_kept
  case backupSwitchover => exact execBackupSwitchover_kept
  case vbakMeasure => exact execVbakMeasure_kept
  case backupPor => exact execBackupPor_kept
  case crystalFail => exact execCrystalFail_kept
  case trimWindowEnd => exact execTrimWindowEnd_kept
  case calendarAlarm => exact execCalendarAlarm_kept
  case pwronPulseEnd => exact execPwronPulseEnd_kept
  case pwronHoldoffEnd => exact execPwronHoldoffEnd_kept
  case lshipPowerGood => exact execLshipPowerGood_kept
  case restoreDone => exact execRestoreDone_kept
  case autoCommit => exact execAutoCommit_kept
  case checkpointWrite => exact execCheckpointWrite_kept
  case loopBlockWrite => exact execLoopBlockWrite_kept
  case loopConfigScrub => exact execLoopConfigScrub_kept
  case resyncComplete => exact execResyncComplete_kept
  case controllerPathLinkDown => exact execControllerPathLinkDown_kept
  case utcDayEndLeap => exact execUtcDayEndLeap_kept
  case lrefReturn => exact execLrefReturn_kept
  case crystalReturn => exact execCrystalReturn_kept
  case scapChargeRestart => exact execScapChargeRestart_kept
  case commitComplete => exact execCommitComplete_kept
  case keeperReady => exact execKeeperReady_kept
  case hostLinkTrained => exact execHostLinkTrained_kept
  case panelTemperatureChange => exact execPanelTemperatureChange_kept
  case panelLineSent => exact execPanelLineSent_kept
  case hartRxGap => exact execHartRxGap_kept
  case hartTransmitEnd => exact execHartTransmitEnd_kept
  case mgmtArpIcmpEcho => exact execMgmtArpIcmpEcho_kept
  case sounderFoldback => exact execSounderFoldback_kept
  case sounderFoldbackEnd => exact execSounderFoldbackEnd_kept
  case fftUnitGate => exact execFftUnitGate_kept
  case uncleanStop => exact execUncleanStop_kept

end Sys2Proof.Machine
end

