-- ==== Sys2Proof/Tests/Slice0.lean ====
section
/-! SUPPORT. The tests of the model: the checks of well-formed commands refuse ill-formed ones, a few single steps whose results the manual
states, and for every statement with hypotheses a named witness that meets them. -/

open Sys2Proof Sys2Proof.Machine
namespace Sys2Proof.Tests

set_option Elab.async false

/-- A module in run: both domains up, every function ready, some time after reset. -/
def base : State :=
  ((({ State.reset with pwr := { Pwr.reset with mainUp := true, lshipUp := true } }).onTim fun m =>
    { m with now := 2 ^ 44, wtAt := 2 ^ 44, wtBase := 2 ^ 60, lwtAt := 2 ^ 44, lwtBase := 2 ^ 60 }).onKpr fun k =>
    { k with chosen := true }).wf Reg.SYS_READY.READY 0x3FFFF

/-- Values at bit offsets; a word and its twin at a byte offset. -/
def put (l : List (Nat × Nat)) : Nat := l.foldl (fun a e => a + e.2 * 2 ^ e.1) 0
def tw (off v : Nat) : List (Nat × Nat) := [(8 * off, v), (8 * off + 32, twinOf v)]
/-- A command of PF0's admin ring: opcode, operands by bit offset, its buffer's length and contents. -/
def cmd (op : Nat) (l : List (Nat × Nat) := []) (len : Nat := 0) (inp : List (Nat × Nat) := []) : Cmd :=
  ⟨0, BitVec.ofNat 512 (op + 7 * 2 ^ 16 + put l + len * 2 ^ 448), put inp, false⟩

/-- Its entry among the commands in flight, and a state in which it stands there alone. -/
def entry (c : Cmd) : Infl := ⟨c.ring, c.desc, false, 1, false⟩
def given (c : Cmd) (s : State) : State := s.onHif fun h => { h with inflight := [entry c] }

/-- The command is accepted in `s`. -/
def Takes (sp : Cmd → State → Spec) (c : Cmd) (s : State) : Prop := Accepted 0 (sp c) c (given c s) (entry c)
/-- The command of point `k` is accepted in `s` once the sweep that is due has been done. -/
def Turns (sp : Cmd → State → Spec) (c : Cmd) (k : Nat) (s : State) : Prop :=
  (given c s).pointWaits k = false ∧ Accepted 0 (sp c) c ((given c s).turn 0 k) (entry c)
/-- `s` with ring `r` of the given context; with point `k` of the given record. -/
def ringIn (r : Nat) (l : List (Fld × Nat)) (s : State) : State := s.setRing r (BitVec.ofNat 512 (pack l))
def ptIn (k : Nat) (l : List (Fld × Nat)) (s : State) : State :=
  s.setPt k (l.foldl (fun r e => fput e.1 e.2 r) (s.pt k))
def ring200 (typ : Nat) : State := ringIn 200 [(Ring.TYPE, typ), (Ring.VALID, 1), (Ring.LOG2N, 6), (Ring.WEIGHT, 1)] base
/-- Point 0 of a kind, from 0 to 1. -/
def an (k : Nat) (l : List (Fld × Nat) := []) : State := ptIn 0 ([(Pt.KIND, k), (Pt.EU_HI, 0x3F800000)] ++ l) base
/-- Point 0 with condition records 0 and 1, the first of the given fields. -/
def co (l : List (Fld × Nat) := []) (k : Nat := 0) : State :=
  ((an k [(Pt.COND_MASK, 3)]).onAlm fun x => { x with owner := [(0, 1), (1, 1)] }).modCond 0 fun r => l.foldl (fun r e => fput e.1 e.2 r) r
/-- Mirror entry 5 names point 1 of node 9. -/
def mir (l : List (Fld × Nat) := []) (s : State := base) : State :=
  s.setMir 5 ((l ++ [(Mir.VALID, 1), (Mir.TAG, mkTag 9 1)]).foldl (fun r e => fput e.1 e.2 r) 0)
/-- A timer of owner `o` and kind `n` is due. -/
def dueS (o n : Nat) (s : State) : State := s.onAlm fun x => { x with due := [(o, n, 1)] }
/-- `s` with one field of a block's state changed. -/
def secS (f : Sec → Sec) (s : State := base) : State := s.onSec f
def mk {n : Nat} (l : List (Fld × Nat)) : BitVec n := l.foldl (fun r e => fput e.1 e.2 r) 0
def portS (st : Nat) (md : Nat := 0) (f : PortQ → PortQ := id) : State :=
  ((base.wf (Reg.FAB_PORT.STATE 127) st).wf (Reg.FAB_PORT.MODE 127) md).setPort 127 (f PortQ.idle)
def fr0 : Frame := ⟨9, 0, 2, 0x20, 0, true, false, false, false, false, 0, 0, 64, 0, 0, 0⟩
def q0 : QFr := ⟨fr0, 131, 0, 0, 0, 0, false, true⟩
/-- The main domain is on or off. -/
def main (b : Bool) (s : State := base) : State := { s with pwr := { s.pwr with mainUp := b } }

/-! Ill-formed commands are refused (Instr.wf). -/

def eth0 : EthFrame := { len := 64, fcsOk := true, dst := 0, vid := none, body := .other }

theorem test_illFormedRefused0 : ([.mgmtHello 0 3 0, .mgmtAuth 0 3 0 0 0, .mgmtAuth 0 0 0 (2 ^ 1792) 0,
  .mgmtAuth 0 0 0 0 (2 ^ 768), .mgmtMailbox 0 2 0 0 0 0 0 0, .mgmtMailbox 0 0 0 16 0 0 0 0,
  .mgmtMailbox 0 0 0 0 2 0 0 0, .mgmtClose 0 3 0, .mgmtSessionIdle 0 2,
  .mgmtLockoutEnd 0 2, .doorbellCountWrite 0 65 0 0 0, .doorbellCountWrite 0 0 0 9 0,
  .doorbellCountWrite 0 0 0 0 (2 ^ 64), .doorbellArmWrite 0 65 0 0 0, .doorbellArmWrite 0 0 0 9 0,
  .doorbellArmWrite 0 0 0 0 (2 ^ 64), .completionWrite 0 65536, .eventBacklogDrain 0 65536,
  .vectorCoalesceExpire 0 65536, .msixUnmask 0 65 0, .msixUnmask 0 0 2048,
  .dataInSend 0 65536 0 false, .dataOutWriteback 0 65536, .dmaError 0 65536 0,
  .dmaError 0 0 16, .functionLevelReset 0 3 0 0, .functionLevelReset 0 0 68 0,
  .functionLevelReset 0 0 0 65, .fnQuenchWrite 0 68 0 false, .fnQuenchWrite 0 0 65 false,
  .admEnWrite 0 68 0 false, .admEnWrite 0 0 65 false, .hifQuenchWrite 0 68 0,
  .hifQuenchWrite 0 0 (2 ^ 32), .twinWriteOpen 0 68 0 0, .twinWriteOpen 0 0 0 (2 ^ 32),
  .twinWriteClose 0 68 0 0, .twinWriteClose 0 0 0 (2 ^ 32), .twinWriteTimeout 0 68,
  .wldLockSet 0 68 0, .wldLockSet 0 0 (2 ^ 32), .wldWorldChange 0 68 0 0] : List Instr).all (fun i => !i.wf) = true := by decide +kernel

theorem test_illFormedRefused1 : ([.wldWorldChange 0 0 4 0, .wldWorldChange 0 0 0 (2 ^ 32), .wldHregApply 0 68 0 0,
  .wldHregApply 0 0 256 0, .wldHregApply 0 0 0 (2 ^ 32), .registerWrite 0 68 0 0 0,
  .registerWrite 0 0 0 9 0, .registerWrite 0 0 0 0 (2 ^ 64), .rcFieldRead 0 68 0 0 false,
  .rcFieldRead 0 0 0 9 false, .almSeqLoRead 0 68 false, .almSpillExitWrite 0 68 0,
  .almSpillExitWrite 0 0 (2 ^ 32), .suppEnChange 0 68 0, .suppEnChange 0 0 (2 ^ 32),
  .floodEnClear 0 68 none 0, .floodEnClear 0 0 none (2 ^ 32), .floodEnClear 0 0 (some 256) 0,
  .holdAllSet 0 68 0, .holdAllSet 0 0 (2 ^ 32), .panelEnWrite 0 68 0,
  .panelEnWrite 0 0 (2 ^ 32), .retainWrite 0 68 0, .retainWrite 0 0 (2 ^ 32),
  .hartTxWrite 0 68 0 0, .hartTxWrite 0 0 16 0, .hartTxWrite 0 0 0 (2 ^ 32),
  .hartRxRead 0 68 0 false, .hartRxRead 0 0 16 false, .kprRestart 0 68 0,
  .kprRestart 0 0 (2 ^ 32), .fanRestart 0 68 0 0, .fanRestart 0 0 4 0,
  .fanRestart 0 0 0 (2 ^ 32), .rtcCapture 0 68 0, .rtcCapture 0 0 (2 ^ 32),
  .rtcSet 0 68 0, .rtcSet 0 0 (2 ^ 32), .rtcShift 0 68 0,
  .rtcShift 0 0 (2 ^ 32), .pwronRelease 0 68 0, .pwronRelease 0 0 (2 ^ 32)] : List Instr).all (fun i => !i.wf) = true := by decide +kernel

theorem test_illFormedRefused2 : ([.pointUpdateApply 0 64 [] false, .delayTimerExpire 0 64, .shelveSweep 0 64,
  .adaptSweep 0 64, .pointRecordScrub 0 5242880 0 false, .pointRecordScrub 0 0 (2 ^ 1024) false,
  .mirrorTimeout 0 67108864, .mirrorHoldExpire 0 67108864, .mirrorRefreshSend 0 65536,
  .tachPulse 0 48, .speedStopped 0 16384, .captureEnd 0 1024,
  .loopEvaluate 0 4096 0, .loopFrameDepart 0 128, .stageTimerExpire 0 1320,
  .attendTimerExpire 0 1320, .deadmanTimerExpire 0 8, .stationLostTimeout 0 64,
  .bcnCallRepeat 0 64 0, .bcnCallRepeat 0 0 1320, .bcnStatus 0 16777216 false,
  .bcnStationEvt 0 16777216 0 0 0, .bcnStationEvt 0 0 256 0 0, .bcnStationEvt 0 0 0 1320 0,
  .controllerArrival 0 0 128 0 false [], .controllerArrival 0 0 0 65536 false [], .volumeMount 0 1024 [],
  .deallocationComplete 0 1024, .legSyncComplete 0 1024, .frameReceive 0 128 0 0 0 fr0 0 0,
  .frameReceive 0 0 256 0 0 fr0 0 0, .frameReceive 0 0 0 65536 0 fr0 0 0, .frameReceive 0 0 0 0 65536 fr0 0 0,
  .frameReceive 0 0 0 0 0 fr0 65536 0, .frameReceive 0 0 0 0 0 fr0 0 (2 ^ 32), .frameReceive 0 0 0 0 0 { fr0 with cls := 8 } 0 0,
  .egressSend 0 128, .credit 0 128 0 0, .credit 0 0 (2 ^ 224) 0,
  .credit 0 0 0 (2 ^ 32), .retryTimerExpire 0 128, .creditSend 0 128] : List Instr).all (fun i => !i.wf) = true := by decide +kernel

theorem test_illFormedRefused3 : ([.dreq 0 128 0 0, .dreq 0 0 (2 ^ 224) 0, .dreq 0 0 0 (2 ^ 32),
  .dreqSend 0 128, .dresp 0 128 0 0, .dresp 0 0 (2 ^ 224) 0,
  .dresp 0 0 0 (2 ^ 32), .init 0 128 0 0, .init 0 0 (2 ^ 224) 0,
  .init 0 0 0 (2 ^ 32), .initSend 0 128, .initTimeout 0 128,
  .linkTrained 0 128, .portLinkDown 0 ⟨128, 0⟩, .portLinkDown 0 ⟨0, 3⟩,
  .contactLoss 0 4, .takeover 0 5, .handbackTimeout 0 4,
  .quenchLapse 0 16, .ethFrameReceive 0 128 eth0, .ethFrameReceive 0 0 { eth0 with vid := some 4096 },
  .ptpMasterSend 0 128, .aiConversion 0 32 0 1 none, .aiConversion 0 0 0 0 none,
  .leadPhase 0 32 none, .aiOvervoltage 0 32 false, .dioEdgeAccept 0 [(48, false)],
  .doOverload 0 32, .doOverloadRetry 0 32 false, .doReadbackMismatch 0 32,
  .aoSupervision 0 16 0 0 0 1, .aoSupervision 0 0 0 0 0 0, .hartTransmitStart 0 16,
  .hartByteReceive 0 16 0 false, .hartByteReceive 0 0 256 false, .lioSafeEnter ⟨0, 1⟩,
  .pulseEnd 0 16, .lioPulseDrop 0 16, .demagEnd 0 32,
  .ltnBiasFault 0 131072, .pwrFailWarn 0 4 0 0, .pwrFailWarn 0 0 131072 0] : List Instr).all (fun i => !i.wf) = true := by decide +kernel

theorem test_illFormedRefused4 : ([.pwrFailWarn 0 0 0 65536, .pwrMainReturn 0 131072 0, .pwrMainReturn 0 0 65536,
  .emerChange 0 false 131072 0, .emerChange 0 false 0 65536, .fieldChange 0 false 131072,
  .pwrScapLow 0 131072, .pwrLshipFail 0 131072, .thermalTrip 0 85 0 0,
  .thermalTrip 0 0 (2 ^ 32) 0, .thermalTrip 0 0 0 131072, .thermalClear 0 85 0,
  .thermalClear 0 0 (2 ^ 32), .keeperWatchdog ⟨0, 1⟩, .lockstepFault 0 (2 ^ 32),
  .maskRomBoot 0 4, .norWindowExpire 0 3, .sensorLimit 0 85 0 false,
  .sensorLimit 0 0 (2 ^ 32) false, .fanStartJudge 0 4 0 0, .fanRetryWaitEnd 0 4,
  .fanStallDetect 0 4 0 0, .fanTachRecover 0 4 0 0, .storeBlockRetire 0 0 [] 101,
  .vbakMeasure 0 131072, .trimWindowEnd 0 false 0 [] false, .trimWindowEnd 0 false 0 (List.replicate 100 1) false,
  .lshipPowerGood 0 4 0 0, .lshipPowerGood 0 0 3 0, .lshipPowerGood 0 0 0 65536,
  .checkpointWrite 0 5120, .loopConfigScrub 0 4096 0 0 false, .loopConfigScrub 0 0 (2 ^ 1024) 0 false,
  .loopConfigScrub 0 0 0 (2 ^ 512) false, .resyncComplete 0 4, .controllerPathLinkDown 0 128,
  .scapChargeRestart 0 131072, .hostLinkTrained 0 7 0 false, .hostLinkTrained 0 0 17 false,
  .panelTemperatureChange 0 0 0, .hartRxGap 0 16, .hartTransmitEnd 0 16] : List Instr).all (fun i => !i.wf) = true := by decide +kernel

theorem test_illFormedRefused5 : ([.mgmtArpIcmpEcho 0 2 0 0 0, .mgmtArpIcmpEcho 0 0 2 0 0, .uncleanStop 0 10] : List Instr).all (fun i => !i.wf) = true := by decide +kernel

theorem test_illFormedHostCommands0 (c : Cmd) (h : c.wf = false) : ∀ i ∈ ([.nop 0 c, .ringCreate 0 c, .ringDelete 0 c, .ringTune 0 c, .ringQuery 0 c, .sysStatus 0 c,
  .cfgCommit 0 c, .cfgFactory 0 c, .cfgConfirm 0 c, .pntConfig 0 c, .pntConfigExpert 0 c, .pntDelete 0 c,
  .pntRead 0 c, .pntForce 0 c, .pntUnforce 0 c, .pntSimStart 0 c, .pntSimValue 0 c, .pntSimEnd 0 c,
  .pntOutput 0 c, .pntReset 0 c, .pntVoteBind 0 c, .pntProfileWrite 0 c, .pntProfileRead 0 c, .almAck 0 c,
  .almShelve 0 c, .almUnshelve 0 c, .almOos 0 c, .almReturn 0 c, .almCondRead 0 c, .almAdaptHold 0 c,
  .secConfig 0 c, .secRead 0 c, .secFoReset 0 c, .secCauseSet 0 c, .secCauseDelete 0 c, .secCauseRead 0 c,
  .secMirrorBind 0 c, .cmwChannel 0 c, .cmwBand 0 c, .cmwSpeedRef 0 c, .cmwBind 0 c, .cmwBaseline 0 c] : List Instr), i.wf = false := by
  intro i hi; simp only [List.mem_cons, List.not_mem_nil, or_false] at hi; rcases hi with rfl | rfl | rfl | rfl | rfl | rfl | rfl | rfl | rfl | rfl | rfl | rfl | rfl | rfl | rfl | rfl | rfl | rfl | rfl | rfl | rfl | rfl | rfl | rfl | rfl | rfl | rfl | rfl | rfl | rfl | rfl | rfl | rfl | rfl | rfl | rfl | rfl | rfl | rfl | rfl | rfl | rfl <;> exact h

theorem test_illFormedHostCommands1 (c : Cmd) (h : c.wf = false) : ∀ i ∈ ([.cmwCaptureDef 0 c, .cmwCaptureTrig 0 c, .cmwCaptureStop 0 c, .cmwRead 0 c, .ctlLoopConfig 0 c, .ctlSupConfig 0 c,
  .ctlMode 0 c, .ctlManOut 0 c, .ctlSetpoint 0 c, .ctlCompTable 0 c, .ctlSupReset 0 c, .ctlTuneStart 0 c,
  .ctlTuneStop 0 c, .ctlTuneRead 0 c, .ctlLoopRead 0 c, .ctlLoopDelete 0 c, .bcnTableWrite 0 c, .bcnTableRead 0 c,
  .bcnAccept 0 c, .bcnDm 0 c, .bcnUms 0 c, .bcnHostCall 0 c, .ldgBinset 0 c, .ldgView 0 c,
  .ldgFlush 0 c, .ldgSnapshot 0 c, .ldgTripArm 0 c, .ldgTripStop 0 c, .ldgTripTrigger 0 c, .ldgTripRead 0 c,
  .hstVolCreate 0 c, .hstVolErase 0 c, .hstVolDelete 0 c, .hstRemount 0 c, .hstLegReplace 0 c, .hstRead 0 c,
  .ltnTile 0 c, .ltnFrameWrite 0 c, .ltnShow 0 c, .fabRouteWrite 0 c, .fabRouteRead 0 c, .fabRouteCommit 0 c] : List Instr), i.wf = false := by
  intro i hi; simp only [List.mem_cons, List.not_mem_nil, or_false] at hi; rcases hi with rfl | rfl | rfl | rfl | rfl | rfl | rfl | rfl | rfl | rfl | rfl | rfl | rfl | rfl | rfl | rfl | rfl | rfl | rfl | rfl | rfl | rfl | rfl | rfl | rfl | rfl | rfl | rfl | rfl | rfl | rfl | rfl | rfl | rfl | rfl | rfl | rfl | rfl | rfl | rfl | rfl | rfl <;> exact h

theorem test_illFormedHostCommands2 (c : Cmd) (h : c.wf = false) : ∀ i ∈ ([.fabEpoch 0 c, .fabQuench 0 c, .fabLeave 0 c, .fabHandback 0 c, .fabPortCtrl 0 c, .fabSv 0 c,
  .updateBegin 0 c, .updateData 0 c, .updateEnd 0 c, .updateActivate 0 c, .logRead 0 c, .sensorRead 0 c,
  .updateCancel 0 c] : List Instr), i.wf = false := by
  intro i hi; simp only [List.mem_cons, List.not_mem_nil, or_false] at hi; rcases hi with rfl | rfl | rfl | rfl | rfl | rfl | rfl | rfl | rfl | rfl | rfl | rfl | rfl <;> exact h


/-! Single steps and results that the manual states. -/

theorem test_idle : step State.reset = .next State.reset := rfl

/-- Of two commands waiting a step takes the first. -/
theorem test_firstInFirstOut : (match step { State.reset with pending := [.sensorLimit 5 0 0 false, .scanTick 9] } with
    | .next u => decide (u.pending = [.scanTick 9]) | _ => false) = true := by decide +kernel

/-- No row of the table gives a word (every row's bits are empty). -/
theorem test_noWordSpellsACommand : decodeTableWord 32 0 = none := rfl

/-- R27: a word and its complement are a twin pair; anything else is not. -/
theorem test_twinPair : twinOk 0x12345678 0xEDCBA987 = true ∧ twinOk 0x12345678 0xEDCBA986 = false := by decide

/-- The check value of CRC-32C: of the nine characters 123456789. -/
theorem test_crc : crc32c 0 9 0x393837363534333231 = 0xE3069283 := by decide +kernel

/-- FIPS 180-4's example: SHA-384 of the three characters abc begins with CB 00 75 3F. -/
theorem test_sha : sha384 3 0x636261 % 2 ^ 32 = 0x3F7500CB := by decide +kernel

/-- binary32: 1 + 2 = 3, 1 / 3 rounds to 0x3EAAAAAB, the square root of 2 to 0x3FB504F3. -/
theorem test_float : fadd f32 0x3F800000 0x40000000 = 0x40400000 ∧ fdiv f32 0x3F800000 0x40400000 = 0x3EAAAAAB ∧
    fsqrt f32 0x40000000 = 0x3FB504F3 := by decide +kernel

/-- R141: the factory limit of a shelving is 28,800 s. -/
theorem test_shelveMaxAtReset : State.reset.rf Reg.ALM_SHELVE_MAX.SHELVE_MAX_S = 28800 := by decide +kernel

/-- R249's example: with T[58] = 200 and T[59] = -100 the compensation at 0x3A80 of a COGGING loop is 50. -/
theorem test_cogging : compValue (BitVec.ofNat 4096 (200 * 2 ^ (16 * 58) + (2 ^ 16 - 100) * 2 ^ (16 * 59))) 2 0x3A80 0 = 50 := by
  decide +kernel

/-- R188: the factory descriptor of a channel carries its own check. -/
theorem test_factoryChannelCheck : fget Chan.DESC_CRC Chan.factory = crc32c 0 36 (fget ⟨0, 288⟩ Chan.factory) := by decide +kernel

/-- R227: so does the factory configuration of a loop; its 228 bytes in four parts. -/
def loopCrc (v a c : Nat) : Nat := (List.range' a 57).foldl (fun c k => crcByte c ((v >>> (8 * (0 + k))) % 256)) c
theorem loopCrc_0 : loopCrc Loop.factoryHalf.toNat 0 0xFFFFFFFF = 1608816990 := by decide +kernel
theorem loopCrc_1 : loopCrc Loop.factoryHalf.toNat 57 1608816990 = 1573632973 := by decide +kernel
theorem loopCrc_2 : loopCrc Loop.factoryHalf.toNat 114 1573632973 = 1117411668 := by decide +kernel
theorem loopCrc_3 : loopCrc Loop.factoryHalf.toNat 171 1117411668 = 99352936 := by decide +kernel
theorem loopCrc_range : List.range (0xE4 - 0) = List.range' 0 57 ++ List.range' 57 57 ++ List.range' 114 57 ++ List.range' 171 57 := by decide +kernel
theorem loopCrc_parts (v : Nat) : crc32c 0 0xE4 v = loopCrc v 171 (loopCrc v 114 (loopCrc v 57 (loopCrc v 0 0xFFFFFFFF))) ^^^ 0xFFFFFFFF := by
  unfold crc32c loopCrc
  rw [loopCrc_range, List.foldl_append, List.foldl_append, List.foldl_append]
theorem loopCrc_all : crc32c 0 0xE4 Loop.factoryHalf.toNat = fget Loop.CFG_CRC Loop.factoryHalf := by
  rw [loopCrc_parts, loopCrc_0, loopCrc_1, loopCrc_2, loopCrc_3]
  decide +kernel
theorem test_factoryLoopCheck : Loop.intact Loop.factoryHalf = true := by
  unfold Loop.intact
  rw [loopCrc_all, beq_self_eq_true, Bool.and_true]
  decide +kernel

/-- R392: an ill-formed check field of a frame's header is refused. -/
theorem test_illFormedHeaderCheck : ({ fr0 with hcrc := 65536 } : Frame).wf = false := by decide +kernel

/-- A witness for `Obligations.RingCommandsTakeEffect`. -/
theorem wit_RingCommandsTakeEffect :
    Takes specNop (cmd 0x00) base ∧
    Takes specRingCreate (cmd 0x01 [(64, 200), (96, 1), (112, 6), (120, 1), (256, 1)]) base ∧
    Takes specRingTune (cmd 0x03 [(64, 200), (120, 1), (256, 1)]) (ring200 1) ∧
    Takes specRingQuery (cmd 0x04 [] 64) base ∧
    Takes specRingDelete (cmd 0x02 [(64, 200)]) (ring200 2) ∧
    Takes specRingDelete (cmd 0x02 [(64, 200)]) (ring200 0) := by
  unfold Takes Accepted; decide +kernel

/-- Ring 200 holds one command, ring 201 takes its completions. -/
def fetchS : State := ringIn 201 [(Ring.TYPE, 1), (Ring.VALID, 1), (Ring.LOG2N, 6), (Ring.WEIGHT, 1)]
  (ringIn 200 [(Ring.VALID, 1), (Ring.LOG2N, 6), (Ring.WEIGHT, 1), (Ring.CPL_RING, 201), (Ring.PROD, 1)] base)
def heldS : State := (ring200 1).onHif fun h => { h with held := [(200, 7)], backlog := [(200, [7])] }
def outS : State := (ring200 4).onHif fun h => { h with outBuf := [(200, some ⟨0, 0x1000, 4096, 16, 1, 0⟩)] }
def coalS : State := (ringIn 200 [(Ring.TYPE, 2), (Ring.VALID, 1), (Ring.LOG2N, 6), (Ring.PROD, 1), (Ring.ARMED, 1), (Ring.VEC_EN, 1)]
  base).onHif fun h => { h with coalAt := [(200, 5)] }
/-- A witness for `Obligations.RingTrafficTakesEffect`. -/
theorem wit_RingTrafficTakesEffect :
    ((ring200 1).pwr.mainUp = true ∧ 0xC8000 % 0x1000 = 0 ∧ fbit Ring.VALID (((ring200 1).at_ 0).ring (0xC8000 / 0x1000)) = true ∧
      fget Ring.FUNC (((ring200 1).at_ 0).ring (0xC8000 / 0x1000)) = 0) ∧
    (0xC8004 % 0x1000 = 4 ∧ fbit Ring.VALID (((ring200 1).at_ 0).ring (0xC8004 / 0x1000)) = true ∧
      fget Ring.FUNC (((ring200 1).at_ 0).ring (0xC8004 / 0x1000)) = 0 ∧
      fget Ring.TYPE (((ring200 1).at_ 0).ring (0xC8004 / 0x1000)) ∈ [1, 2, 4]) ∧
    (fetchS.pwr.mainUp = true ∧ fetchS.pwr.failing = false ∧ (fetchS.at_ 0).ready 8 = true ∧
      (fetchS.at_ 0).fetchPick.1 = some 200 ∧ fget Ring.TYPE ((fetchS.at_ 0).ring 200) = 0) ∧
    ((200, 7) ∈ heldS.hif.held ∧ fbit Ring.QUENCHED (heldS.ring 200) = false ∧ (200, [7]) ∈ heldS.hif.backlog) ∧
    (tget 0 (coalS.at_ 0).hif.coalAt 200 ≠ 0 ∧ tget 0 (coalS.at_ 0).hif.coalAt 200 ≤ (coalS.at_ 0).tim.now + 1 ∧
      fbit Ring.ARMED ((coalS.at_ 0).ring 200) = true ∧ fbit Ring.VEC_EN ((coalS.at_ 0).ring 200) = true ∧
      (coalS.at_ 0).pendEntries 200 ≠ 0) ∧
    (3 < base.rf (Reg.HIF_FN.NVEC 0) ∧ tget 0 base.hif.vecPend (vecKey 0 3) = 0) ∧
    (tget none (outS.at_ 0).hif.outBuf 200 = some ⟨0, 0x1000, 4096, 16, 1, 0⟩ ∧ 0 + ofUs 100 ≤ (outS.at_ 0).tim.now ∧ ringRuns ((outS.at_ 0).ring 200) = true) := by
  decide +kernel
/-- An item of ring 200 that waits to be sent. -/
def dataI : Infl := ⟨200, BitVec.ofNat 512 (0x1000 + 64 * 2 ^ 64), true, 1, false⟩
def dataS : State := (ring200 3).onHif fun h => { h with inflight := [dataI] }
/-- A witness for `Obligations.HostLinkRowsTakeEffect`. -/
theorem wit_HostLinkRowsTakeEffect :
    ((dataS.at_ 0).selfQuenched (fget Ring.DCLASS ((dataS.at_ 0).ring 200)) = false ∧
      (dataS.at_ 0).hif.inflight.find? (fun j => j.ring == 200 && j.data && !j.disp) = some dataI ∧
      (dataS.at_ 0).hostDenied (fbit Ring.WORLD ((dataS.at_ 0).ring 200)) (dataI.desc.toNat % 2 ^ 64) ((dataI.desc.toNat >>> 64) % 2 ^ 14)
        = none ∧ (dataI.desc.toNat >>> 64) % 2 ^ 14 = 64 ∧ dataS.pwr.mainUp = true) ∧
    (fbit Ring.VALID ((ring200 1).ring 200) = true ∧ fbit Ring.FAULT ((ring200 1).ring 200) = false) ∧
    (base.pwr.mainUp = true ∧ base.ready 8 = true) ∧
    (2 / 2 % 2 = 1 → fbit Ring.VALID ((ring200 1).ring ((2 + 200 * 65536) / 65536 % 65536)) = true) := by
  decide +kernel

/-- A witness for `Obligations.ConfigurationCommandsTakeEffect`. -/
theorem wit_ConfigurationCommandsTakeEffect :
    Takes specSysStatus (cmd 0x08) base ∧ (Takes specCfgCommit (cmd 0x09) base ∧ (given (cmd 0x09) base).img.run = none) ∧
    Takes specCfgFactory (cmd 0x0A [(64, 0x46414354)]) base ∧
    Takes specCfgConfirm (cmd 0x0B) (base.wf Reg.SYS_RESTORE.RETAIN_DISAGREE 1) := by unfold Takes Accepted; decide +kernel
def commitS : State := (base.wf Reg.SYS_COMMIT_STAT.DIRTY_HOST 1).onImg fun m => { m with dirtyAt := 1 }
def slotS : State := (an 0).onImg fun m => { m with slot0 := some Slot.empty, use := 1 }
def restS : State := (slotS.wf Reg.SYS_READY.READY 0x3FF).onImg fun m => { m with asked := true }
/-- A witness for `Obligations.CommitAndStartRowsTakeEffect`. -/
theorem wit_CommitAndStartRowsTakeEffect :
    ((base.onImg fun m => { m with run := some ⟨0, 0, Slot.empty, true, false, 1, 7⟩ }).img.run = some ⟨0, 0, Slot.empty, true, false, 1, 7⟩ ∧
      base.pwr.mainUp = true ∧ base.pwr.failing = false) ∧
    (0 < (commitS.at_ 0).rf Reg.SYS_CFG.AUTO_S ∧ commitS.img.run = none ∧ (commitS.at_ 0).rb Reg.SYS_RESTORE.RETAIN_DISAGREE = false ∧
      (commitS.at_ 0).ready 10 = true ∧ (commitS.at_ 0).rb Reg.SYS_COMMIT_STAT.DIRTY_HOST = true ∧ (commitS.at_ 0).img.dirtyAt ≠ 0 ∧
      (commitS.at_ 0).img.dirtyAt - 1 + ofS ((commitS.at_ 0).rf Reg.SYS_CFG.AUTO_S) ≤ (commitS.at_ 0).tim.now) ∧
    ((slotS.at_ 0).ready 12 = true ∧ (slotS.at_ 0).img.use ≠ 0 ∧ 0 ∈ (slotS.at_ 0).blocksUsed ∧
      (slotS.at_ 0).ckptDue (tget 0 (slotS.at_ 0).img.ckptAt 0) = true ∧ (slotS.at_ 0).ckptDue (slotS.at_ 0).img.loopAt = true) ∧
    (State.reset.pwr.lshipUp = false ∧ 2 ≤ 2) ∧
    (restS.pwr.mainUp = true ∧ restS.pwr.failing = false ∧ restS.img.asked = true ∧ (restS.at_ 0).ready 10 = false ∧
      (restS.at_ 0).img.use ≠ 0 ∧ (∀ k ∈ [0, 11], k = 0 ∨ 10 < k) ∧ (∃ k ∈ [10], 1 ≤ k ∧ k ≤ 10)) := by
  decide +kernel

def ptBuf (kind : Nat) : List (Nat × Nat) :=
  tw 8 kind ++ [(0x1C * 8, 0x3F800000)] ++ ([0x40, 0x48, 0x50, 0x58, 0x60, 0x68].map fun o => tw o 0).flatten
/-- A witness for `Obligations.PointConfigurationTakesEffect`. -/
theorem wit_PointConfigurationTakesEffect :
    (tagIdx ((cmd 0x10 [] 128 (ptBuf 4)).bw 0) = 0 ∧ Turns specPntConfig (cmd 0x10 [] 128 (ptBuf 4)) 0 base ∧
      fbit Pt.SHADOW ((base.turn 0 0).pt 0) = false ∧ (fget Pt.KIND ((base.turn 0 0).pt 0) == kOutput) = false) ∧
    Turns specPntConfigExpert (cmd 0x11 [] 80 (tw 0x10 8 ++ [(0x2C * 8, 0x3F800000)])) 0 base ∧
    (Turns specPntDelete (cmd 0x12) 0 (an 0) ∧ fget Pt.KIND (((an 0).turn 0 0).pt 0) ≠ kNone ∧
      fbit Pt.SHADOW (((an 0).turn 0 0).pt 0) = false ∧ fget Pt.KIND (((an 0).turn 0 0).pt 0) ≠ kOutput ∧
      (((an 0).turn 0 0).at_ 0).pointNamed 0 = false) ∧
    Takes specPntRead (cmd 0x13 [] 128) (an 0) ∧
    (Turns specPntVoteBind (cmd 0x1B [(128, 0)]) 0 (an 3 [(Pt.FORM, 14)]) ∧ fbit Pt.SHADOW (((an 3 [(Pt.FORM, 14)]).turn 0 0).pt 0) = false) ∧
    Takes specPntProfileWrite (cmd 0x1C ([(128, 127)] ++ tw 0x18 0x10000 ++ tw 0x20 0 ++ tw 0x28 0 ++ tw 0x30 0)) base ∧
    Takes specPntProfileRead (cmd 0x1D [(128, 127)]) base := by
  unfold Takes Turns Accepted; decide +kernel
def own (n : Nat) (s : State) : State := s.modPx 0 fun x => x.setOwn n true
/-- A witness for `Obligations.PointOverridesTakeEffect`. -/
theorem wit_PointOverridesTakeEffect :
    Turns specPntForce (cmd 0x14 (tw 16 0x3F000000)) 0 (an 0) ∧
    (Turns specPntUnforce (cmd 0x15) 0 (own 4 (an 0)) ∧ (((own 4 (an 0)).turn 0 0).px 0).own / 4 % 2 = 1) ∧
    (Turns specPntSimStart (cmd 0x16 (tw 16 1)) 0 (an 1) ∧ (((an 1).turn 0 0).px 0).own / 4 % 2 ≠ 1) ∧
    Turns specPntSimValue (cmd 0x17 (tw 16 1)) 0 (own 8 (an 1)) ∧ Turns specPntSimEnd (cmd 0x18) 0 (own 8 (an 1)) ∧
    (Turns specPntOutput (cmd 0x19 (tw 16 0x3F800000)) 0 (an 4) ∧ fbit Pt.LOOP_OWNED (((an 4).turn 0 0).pt 0) = false) ∧
    Turns specPntReset (cmd 0x1A) 0 (an 3 [(Pt.FORM, 21)]) := by
  unfold Turns Accepted; decide +kernel

/-- A witness for `Obligations.AlarmCommandsTakeEffect`. -/
theorem wit_AlarmCommandsTakeEffect :
    (Turns specAlmAck (cmd 0x20 [(64, 4), (128, 5)]) (2 ^ 23) (mir []) ∧ (cmd 0x20 [(64, 4), (128, 5)]).f 8 2 1 = 1) ∧
    (Turns specAlmAck (cmd 0x20 [(64, 1)]) 0 (co []) ∧ (cmd 0x20 [(64, 1)]).f 8 0 2 = 1) ∧
    Turns specAlmShelve (cmd 0x21 [(224, 1)]) 0 ((co []).wf Reg.ALM_CTRL.SHELVE_CRIT_EN 1) ∧ Turns specAlmUnshelve (cmd 0x22) 0 (co []) ∧
    Turns specAlmOos (cmd 0x23) 0 (co []) ∧ Turns specAlmReturn (cmd 0x24) 0 (co []) ∧
    (Takes specAlmCondRead (cmd 0x25 [] 80) (co []) ∧ (((co []).at_ 0).almTargets (cmd 0x25 [] 80)) = [(0, 0, 0)] ∧
      (((((co []).at_ 0).almTargets (cmd 0x25 [] 80)).foldl (fun v e => v.condGuard e.1 v.wt) ((co []).at_ 0)).almTargets
        (cmd 0x25 [] 80)) = [(0, 0, 0)]) ∧
    Turns specAlmAdaptHold (cmd 0x26 [(224, 1)]) 0 (co []) := by unfold Takes Turns Accepted; decide +kernel
def updS : State := (an 0).onPts fun x => { x with queues := [(0, [⟨0, 0, twinOf 0, false, 0, 0, 0, 0, 0⟩])] }
def supS : State := (co []).onSec fun x => { x with supIn := [(0, true, 0)] }
/-- A witness for `Obligations.TileRowsTakeEffect`. -/
theorem wit_TileRowsTakeEffect :
    (tget [] (updS.at_ 0).pts.queues 0 ≠ [] ∧ (updS.at_ 0).runs 12 = true ∧ (updS.at_ 0).stageFull = false) ∧
    ((base.at_ 0).runs 12 = true ∧ (base.at_ 0).pts.scanAt ≤ ticksBy 1 (base.at_ 0).wt ∧ (base.at_ 0).stageFull = false) ∧
    earliest (((dueS 0 1 (co [])).at_ 0).dueTimers fun o => decide (o < 2 ^ 26) && condTile o == 0)
      = some (0, 1) ∧ (dueS 0 1 (co [])).stageFull = false ∧
    earliest (((dueS 0 1 (co [(Cond.COARSE, 1)])).at_ 0).dueTimers ((dueS 0 1 (co [(Cond.COARSE, 1)])).at_ 0).isCoarse) = some (0, 1) ∧
    (tget 0 (base.at_ 0).alm.secAt 7 ≤ (base.at_ 0).wt / 2 ^ 32 ∧ ((base.at_ 0).minuteDue 7).isSome = true) ∧
    ((supS.at_ 0).sec.supIn = [(0, true, 0)] ∧ tget 0 (supS.at_ 0).alm.owner 0 ≠ 0) ∧
    ((an 0).scrubDue (tget 0 (an 0).pts.scrubAt 0) = true ∧ cfgIntact (fget Pt.CFG ((((an 0).at_ 0).modPt 0 (fun p => fput Pt.CFG (fget Pt.CFG p ^^^ (1 % 2 ^ 512)) p)).pt 0)) = false) := by
  decide +kernel

/-- The condition of point 0 is cause 3. -/
def cauS (l : List (Fld × Nat) := []) : State :=
  (((co []).setCause 3 (([(Cause.VALID, 1), (Cause.EDGE_COUNT, 1)] ++ l).foldl (fun r (e : Fld × Nat) => fput e.1 e.2 r) 0)).onSec fun x =>
    { x with edge := [(0, 1)] }).setCauseRef 0 4
/-- A witness for `Obligations.SectorCommandsTakeEffect`. -/
theorem wit_SectorCommandsTakeEffect :
    Takes specSecConfig (cmd 0x30 [(64, 65535)]) base ∧ Takes specSecRead (cmd 0x31 [] 128) base ∧
    Takes specSecFoReset (cmd 0x32 [(128, 65535), (160, 1)]) base ∧
    (Takes specSecCauseSet (cmd 0x33 [] 16 [(64, 1)]) (cauS []) ∧ (((cauS []).at_ 0).causeNamed (cmd 0x33 [] 16 [(64, 1)])).1 = some 0 ∧
      ((cauS []).at_ 0).causeOf 0 = some 3 ∧ (cmd 0x33 [] 16 [(64, 1)]).bufLen / 16 ≤ fget Cause.EDGE_COUNT (((cauS []).at_ 0).cause 3)) ∧
    (Takes specSecCauseSet (cmd 0x33 [] 16 [(64, 1)]) ((co []).wf Reg.SEC_COMPACT_STAT.COMPACTING 1) ∧
      ((co []).wf Reg.SEC_COMPACT_STAT.COMPACTING 1).causeOf 0 = none ∧
      (((co []).wf Reg.SEC_COMPACT_STAT.COMPACTING 1).causeNamed (cmd 0x33 [] 16 [(64, 1)])).1 = some 0) ∧
    (Takes specSecCauseDelete (cmd 0x34) (cauS []) ∧ fget Cause.CSTATE (((cauS []).at_ 0).cause 3) = 0 ∧
      (((cauS []).at_ 0).causeNamed (cmd 0x34)).1 = some 0) ∧
    (Takes specSecCauseRead (cmd 0x35 [] 48) (cauS []) ∧ (((cauS []).at_ 0).causeNamed (cmd 0x35)).1 = some 0) ∧
    Takes specSecMirrorBind (cmd 0x36 [(64, 5), (128, 1), (168, 9)]) base ∧
    (Takes specSecMirrorBind (cmd 0x36 [(64, 5 + 65536)]) (mir []) ∧ fget Mir.CAUSE_REF (((mir []).at_ 0).mir 5) = 0) := by
  unfold Takes Accepted; decide +kernel
def chg0 : Chg := ⟨false, 0, 0, 0, 0, 0, 1, 0, true, 1, 0, false, 1, 0⟩
def holdS : State := ((mir [(Mir.LOST, 1), (Mir.CAUSE_REF, 4)]).setCause 3 1).onSec fun x => { x with lostAt := [(5, 1)] }
def subS : State := (an 0).onFab fun x => { x with subs := [⟨0, 0, 9, 5, 0⟩] }
/-- A witness for `Obligations.SectorRowsTakeEffect`. -/
theorem wit_SectorRowsTakeEffect :
    ((secS fun x => { x with queue := [chg0] }).at_ 0).sec.queue ≠ [] ∧
    ((dueS (2 ^ 26 + 3) 1 (cauS [(Cause.CSTATE, 1)])).at_ 0).causeDue 1 = some (2 ^ 26 + 3, 1) ∧
    ((dueS (2 ^ 26 + 3) 1 (cauS [(Cause.CSTATE, 3)])).at_ 0).causeDue 3 = some (2 ^ 26 + 3, 1) ∧
    ((base.at_ 0).runs 12 = true ∧ (base.at_ 0).sec.recountAt ≤ (base.at_ 0).wt / 2 ^ 32 ∧ (base.at_ 0).sec.auditAt = 0) ∧
    ((secS fun x => { x with floods := [⟨0, 0, 0, 0, 0, 0, some 5, []⟩] }).at_ 0).sec.floods.find? (fun f => f.ended.isSome) =
      some ⟨0, 0, 0, 0, 0, 0, some 5, []⟩ ∧
    (secS fun x => { x with auditAt := 1 }).sec.auditAt - 1 + ofS 60 ≤ ((secS fun x => { x with auditAt := 1 }).at_ 0).tim.now ∧
    ((base.wf Reg.SEC_COMPACT_STAT.COMPACTING 1).at_ 0).rb Reg.SEC_COMPACT_STAT.COMPACTING = true ∧
    (fbit Mir.VALID (((mir []).at_ 0).mir 5) = true ∧ fbit Mir.LOST (((mir []).at_ 0).mir 5) = false ∧
      fget Mir.T_RX (((mir []).at_ 0).mir 5) + ofMs (((mir []).at_ 0).rf Reg.SEC_MIRROR_TMO.TMO_MS) ≤ ((mir []).at_ 0).wt) ∧
    (tget 0 (holdS.at_ 0).sec.lostAt 5 ≠ 0 ∧ fbit Mir.LOST ((holdS.at_ 0).mir 5) = true ∧
      tget 0 (holdS.at_ 0).sec.lostAt 5 - 1 + ofS ((holdS.at_ 0).rf Reg.SEC_MIRROR_HOLD.HOLD_S) ≤ (holdS.at_ 0).tim.now ∧
      (holdS.at_ 0).causeOf (memberKey true 5) = some 3) ∧
    ((subS.at_ 0).answersSub ⟨0, 0, 9, 5, 0⟩ = true ∧ 0 + ofMs 100 ≤ (subS.at_ 0).tim.now ∧ (subS.at_ 0).fab.subs[0]? = some ⟨0, 0, 9, 5, 0⟩) ∧
    0 + ofMs (((secS fun x => { x with acks := [(5, 0, 7, 0)] }).at_ 0).rf Reg.SEC_MIRROR_TMO.TMO_MS) ≤
      ((secS fun x => { x with acks := [(5, 0, 7, 0)] }).at_ 0).tim.now := by
  decide +kernel

def chOps (en ex : Nat) : List (Nat × Nat) :=
  [(64, 3), (128, en), (129, ex), (160, 100000), (192, 8), (224, 0x3F800000), (352, 1)]
def chS (l : List (Fld × Nat)) (s : State := base) : State := s.onCmw fun w =>
  { w with chan := [(3, mk ([(Chan.RATE_CHZ, 100000), (Chan.LOG2N, 8), (Chan.SCALE, 0x3F800000), (Chan.RING_GRAN, 1)] ++ l))] }
def baseBuf (ex : Nat) : List (Nat × Nat) :=
  [((Base.EXPERT).lo, ex), ((Base.SPD_HI).lo, 0x3F800000), ((Base.LOAD_HI).lo, 0x3F800000), ((Base.READY_N).lo, 1), ((Base.LEARN_N).lo, 1)]
def capS (e : Option Nat) : State := base.onCmw fun w => { w with caps := [⟨0, 1, 0, e, false, [], 0, [], false⟩] }
/-- A witness for `Obligations.WaveformCommandsTakeEffect`. -/
theorem wit_WaveformCommandsTakeEffect :
    (Takes specCmwChannel (cmd 0x40 (chOps 0 0)) base ∧ fbit Chan.EN (chanNamed (cmd 0x40 (chOps 0 0))) = false) ∧
    (Takes specCmwChannel (cmd 0x40 (chOps 1 1)) base ∧ fbit Chan.EXPERT (chanNamed (cmd 0x40 (chOps 1 1))) = true) ∧
    (Takes specCmwChannel (cmd 0x40 (chOps 1 0)) base ∧ fbit Chan.EN (chanNamed (cmd 0x40 (chOps 1 0))) = true ∧
      fbit Chan.EXPERT (chanNamed (cmd 0x40 (chOps 1 0))) = false ∧
      (base.at_ 0).ringFor 3 (granOf (chanNamed (cmd 0x40 (chOps 1 0))) (preMs (base.at_ 0).cmw.defs 3)) = some 0) ∧
    (Takes specCmwBand (cmd 0x41 [(64, 3), (128, 63), (136, 1)] 16 [(0, 0x42C80000), (32, 0x43480000)]) (chS []) ∧
      fbit Chan.EN (((chS []).at_ 0).chan 3) = false) ∧
    (Takes specCmwSpeedRef (cmd 0x42 [(192, 0x3F800000), (224, 0x40000000)]) base ∧ (base.at_ 0).refUsers 0 = []) ∧ Takes specCmwBind (cmd 0x43) base ∧
    Takes specCmwBaseline (cmd 0x44 [(96, 0)] 40 (baseBuf 0)) base ∧ Takes specCmwBaseline (cmd 0x44 [(96, 1)] 4096 (baseBuf 1)) base ∧
    Takes specCmwBaseline (cmd 0x44 [(96, 2)]) base ∧ Takes specCmwBaseline (cmd 0x44 [(96, 3)] 4096) base ∧
    (Takes specCmwCaptureDef (cmd 0x45 [] 256) base ∧ (base.at_ 0).capture 0 = none ∧
      (State.growRings (tset 0 (base.at_ 0).cmw.defs 0 0) [] (base.at_ 0)).1 = none) ∧
    Takes specCmwCaptureTrig (cmd 0x46) base ∧ Takes specCmwCaptureStop (cmd 0x47) (capS none) ∧ Takes specCmwRead (cmd 0x48 [] 64) base := by
  unfold Takes Accepted; decide +kernel
def tachS (f : Tab Nat) : State := (base.wf (Reg.LIO_DIO.MODE 47) 3).onCmw fun w => { w with pulseAt := f }
def stopS : State := (chS [(Chan.EN, 1), (Chan.ORDER_EN, 1)]).onCmw fun w => { w with
  spd := [(0, mk [(Spd.SRC, 1), (Spd.PPR, 1), (Spd.MIN_RPM, 0x3F800000)])] }
/-- A witness for `Obligations.WaveformRowsTakeEffect`. -/
theorem wit_WaveformRowsTakeEffect :
    (((base.onCmw fun w => { w with inq := [⟨3, 0, false, 1, none, 0, 100000, 0, 0, 0, false⟩] }).at_ 0).cmw.inq ≠ [] ∧
      (base.at_ 0).ready 14 = true) ∧
    ((base.onCmw fun w => { w with frames := [⟨3, [0], 0, 0, [], [], 0, 0⟩] }).at_ 0).cmw.frames ≠ [] ∧
    (47 ≤ 47 ∧ ((tachS []).at_ 0).rf (Reg.LIO_DIO.MODE 47) = 3 ∧ tget 0 ((tachS []).at_ 0).cmw.pulseAt 47 = 0) ∧
    (tget 0 ((tachS [(47, 1)]).at_ 0).cmw.pulseAt 47 ≠ 0 ∧ ((tachS [(47, 1)]).at_ 0).rf (Reg.LIO_DIO.MODE 47) = 3 ∧
      tget 0 ((tachS [(47, 1)]).at_ 0).cmw.pulseAt 47 - 1 + max (ofUs (10 * ((tachS [(47, 1)]).at_ 0).rf (Reg.LIO_DIO.DEB 47))) (ofUs 20) ≤
        stamp20 (((tachS [(47, 1)]).at_ 0).ioStamp ((tachS [(47, 1)]).at_ 0).wt)) ∧
    ((stopS.at_ 0).ready 14 = true ∧ fbit Chan.EN ((stopS.at_ 0).chan 3) = true ∧ fbit Chan.ORDER_EN ((stopS.at_ 0).chan 3) = true ∧
      fbit Chan.STOPPED ((stopS.at_ 0).chan 3) = false ∧ fget Spd.SRC (tget 0 (stopS.at_ 0).cmw.spd 0) = 1 ∧
      fget Chan.SPEED_REF ((stopS.at_ 0).chan 3) = 0 ∧
      tget 0 (stopS.at_ 0).cmw.pulseAt 0 - 1 + pulseLimit (tget 0 (stopS.at_ 0).cmw.spd 0) ≤ (stopS.at_ 0).wt) ∧
    (((capS (some 5)).at_ 0).capture 0 = some ⟨0, 1, 0, some 5, false, [], 0, [], false⟩ ∧ 5 ≤ ((capS (some 5)).at_ 0).wt ∧ capChs (((capS (some 5)).at_ 0).capDef 0) = []) ∧
    (base.at_ 0).cmw.ckptAt + (base.at_ 0).rf Reg.CMW_CTRL.CKPT_MIN * 60 * 2 ^ 32 ≤ (base.at_ 0).wt := by
  decide +kernel

def lops (w0 : Nat) : List (Nat × Nat) :=
  tw 0 w0 ++ [(64, 1000), (160, 1), (320, 0x3F800000), (384, 0x3F800000), (432, 0x7FFF), (576, 0x3F800000), (608, 0x3F800000)]
def pts2 : State := ptIn 1 [(Pt.KIND, 4), (Pt.EU_HI, 0x3F800000)] (an 0)
def loopS (l : List (Fld × Nat)) : State := pts2.modLoop 0 fun r =>
  ([(Loop.EN, 1), (Loop.PERIOD, 1000), (Loop.OUT_IDX, 1), (Loop.OUT_HI, 0x7FFF), (Loop.OUT_EU_HI, 0x3F800000)] ++ l).foldl (fun r (e : Fld × Nat) => fput e.1 e.2 r) r
/-- A witness for `Obligations.LoopCommandsTakeEffect`. -/
theorem wit_LoopCommandsTakeEffect :
    Takes specCtlLoopConfig (cmd 0x50 [] 224 (lops 1)) pts2 ∧ Takes specCtlLoopConfig (cmd 0x50 [] 224 (lops 2)) pts2 ∧
    Takes specCtlSupConfig (cmd 0x51 [] 64 (tw 0 0x10100 ++ [(160, 1), (176, 2), (184, 1), (192, 1)])) (loopS []) ∧
    Takes specCtlMode (cmd 0x52 (tw 0x10 5)) (loopS []) ∧
    (Takes specCtlMode (cmd 0x52 ([(96, 1)] ++ tw 0x10 0 ++ tw 0x18 0)) (loopS []) ∧
      (cmd 0x52 ([(96, 1)] ++ tw 0x10 0 ++ tw 0x18 0)).f 0x10 0 3 = mMan ∧ (cmd 0x52 ([(96, 1)] ++ tw 0x10 0 ++ tw 0x18 0)).f 0x0C 0 1 = 1) ∧
    (Takes specCtlManOut (cmd 0x53 (tw 0x18 0x3F800000)) (loopS []) ∧ (((loopS []).at_ 0).loopProj 0).mode = mMan) ∧
    (Takes specCtlSetpoint (cmd 0x54 (tw 0x18 0)) (loopS [(Loop.MODE, 1), (Loop.SP_TRACK, 1)]) ∧
      closedMode (((loopS [(Loop.MODE, 1), (Loop.SP_TRACK, 1)]).at_ 0).loopProj 0).mode = true) ∧
    Takes specCtlCompTable (cmd 0x55 [] 512) (loopS []) ∧ Takes specCtlSupReset (cmd 0x56) (loopS []) := by
  unfold Takes Accepted; decide +kernel
def runS : State := (loopS []).modLoopX 0 fun x => { x with next := 1 }
def depS : State := (base.wf (Reg.FAB_PORT.STATE 127) 3).setPort 127 { PortQ.idle with reserved := [(1, 2, q0)] }
def crcPart (v a c : Nat) : Nat := ((List.range 57).map (a + ·)).foldl (fun c k => crcByte c ((v >>> (8 * (0 + k))) % 256)) c
theorem crc_parts (v c1 c2 c3 c4 : Nat) (h1 : crcPart v 0 0xFFFFFFFF = c1) (h2 : crcPart v 57 c1 = c2) (h3 : crcPart v 114 c2 = c3)
    (h4 : crcPart v 171 c3 = c4) : crc32c 0 0xE4 v = c4 ^^^ 0xFFFFFFFF := by
  unfold crc32c
  rw [show List.range (0xE4 - 0) = (List.range 57).map (0 + ·) ++ ((List.range 57).map (57 + ·) ++ ((List.range 57).map (114 + ·) ++
    (List.range 57).map (171 + ·))) by decide +kernel, List.foldl_append, List.foldl_append, List.foldl_append]
  unfold crcPart at h1 h2 h3 h4
  rw [h1, h2, h3, h4]
/-- A loop's configuration half with its check: PERIOD 1000, all else zero. -/
def halfN : Nat := 1000 * 2 ^ 64 + 0xFFFFFFFF * 2 ^ 32 + 2862465469 * 2 ^ 1824
def half0 : Rec 256 := BitVec.ofNat 2048 halfN
theorem half0_intact : Loop.intact half0 = true := by
  have h := crc_parts halfN 445340845 2795070367 1735177824 1432501826 (by decide +kernel) (by decide +kernel) (by decide +kernel)
    (by decide +kernel)
  have e : half0.toNat = halfN := by decide +kernel
  unfold Loop.intact; rw [e, h]; decide +kernel
def sealS : State := (base.modLoop 0 fun r => fput Loop.HALF halfN r).onCtl fun x => { x with sup := [(0, Sup.seal 0)] }
theorem sealS_half : sealS.half 0 ^^^ BitVec.ofNat 2048 0 = half0 := by decide +kernel
/-- A witness for `Obligations.LoopTuningAndReadsTakeEffect`. -/
theorem wit_LoopTuningAndReadsTakeEffect :
    (Takes specCtlTuneStart (cmd 0x57 [(100, 7), (104, 1), (112, 1), (128, 1), (192, 0x3F800000), (224, 0x3F800000)]) (loopS []) ∧
      (((loopS []).at_ 0).loopProj 0).tuning = false) ∧
    Takes specCtlTuneStop (cmd 0x58) (loopS [(Sup.TUNING, 1)]) ∧
    Takes specCtlTuneRead (cmd 0x59 [(160, 1)] 80) (loopS [(Sup.TUNE_CNT, 1)]) ∧ Takes specCtlLoopRead (cmd 0x5A [] 1600) (loopS []) ∧
    (Takes specCtlLoopDelete (cmd 0x5B) (loopS []) ∧ ((loopS []).at_ 0).innerProj 0 = none) ∧
    ((runS.at_ 0).evalNext = some (0, 0) ∧ (runS.at_ 0).ready 15 = true ∧ 0 ≤ cycOf (runS.at_ 0).wt) ∧
    ((depS.at_ 0).portUp 127 = true ∧ ((depS.at_ 0).port 127).busy ≤ (depS.at_ 0).tim.now ∧ ((depS.at_ 0).departLoop 127).isSome = true) := by unfold Takes Accepted; decide +kernel
/-- A witness for `Obligations.LoopTuningAndReadsTakeEffect`. -/
theorem wit_loopConfigScrub :
    (sealS.at_ 0).scrubDue (tget 0 (sealS.at_ 0).ctl.scrubAt 0) = true ∧
    Loop.intact (sealS.half 0 ^^^ BitVec.ofNat 2048 0) = true ∧
    Loop.intact (sealS.half 0 ^^^ BitVec.ofNat 2048 1) = false ∧ Sup.intact (sealS.sup 0) = true :=
  ⟨by decide +kernel, by rw [sealS_half]; exact half0_intact, by decide +kernel, by decide +kernel⟩

/-- A witness for `Obligations.BeaconCommandsTakeEffect`. -/
theorem wit_BeaconCommandsTakeEffect :
    Takes specBcnTableWrite (cmd 0x60 [(64, 4), (96, 255), (128, 1)] 8) base ∧
    Takes specBcnTableRead (cmd 0x61 [(64, 3), (96, 7), (128, 1)] 16) base ∧
    (Takes specBcnAccept (cmd 0x62 [(64, 1319)]) base ∧ (cmd 0x62 [(64, 1319)]).f 8 16 1 = 0) ∧
    (Takes specBcnAccept (cmd 0x62 [(64, 2047 + 65536)]) base ∧ (cmd 0x62 [(64, 2047 + 65536)]).f 8 16 1 = 1) ∧
    (Takes specBcnDm (cmd 0x63 [(64, 7), (72, 2)]) base ∧ ((base.at_ 0).dmInput 7 2).1 = false) ∧
    Takes specBcnUms (cmd 0x64 [(64, 255), (72, 1)]) base ∧
    Takes specBcnHostCall (cmd 0x65 [(64, 31)]) (base.wf (BStage.DURATION 31 0) 10) := by
  unfold Takes Accepted; decide +kernel
def seqS (last stage : Nat) (att : Bool) : State := base.onBcn fun b => { b with seqs := [{
  key := 1288, tmpl := 0, rank := 1, last := last, attend := 0, alarms := 1, req := 0, run := 0, tStart := 0, pend := false
  unstarted := false, stage := stage, att := att, due := 0, tgts := [], relays := 0, dur := 10, fb := [] }] }
def dmS (st : Nat) : State := (base.wf (Reg.BCN_DM.STATE 7) st).onBcn fun b => { b with dmDue := [(7, 1)] }
def callS (left : Option Nat) : State := base.onBcn fun b => { b with calls := [⟨63, 1288, 0, 0, left⟩] }
/-- A witness for `Obligations.BeaconRowsTakeEffect`. -/
theorem wit_BeaconRowsTakeEffect :
    (((seqS 3 3 false).at_ 0).seqDue 1288 false).any (fun q => decide (q.last ≤ q.stage)) = true ∧
    (((seqS 3 2 false).at_ 0).seqDue 1288 false).any (fun q => decide (q.stage < q.last)) = true ∧
    (((seqS 3 3 true).at_ 0).seqDue 1288 true).isSome = true ∧
    (∀ n ∈ [1, 2], 7 < 8 ∧ tget 0 ((dmS n).at_ 0).bcn.dmDue 7 ≠ 0 ∧ tget 0 ((dmS n).at_ 0).bcn.dmDue 7 < ((dmS n).at_ 0).clock ∧
      ((dmS n).at_ 0).rf (Reg.BCN_DM.STATE 7) = n) ∧
    (base.pwr.mainUp = true ∧ 63 < 64 ∧ ((base.wf Reg.BCN_STATION_LOST_HI.LOST 0).at_ 0).stationLost 63 = false ∧
      tget 0 (base.at_ 0).bcn.heard 63 + ofS 3 ≤ (base.at_ 0).tim.now + 1) ∧
    (∀ x ∈ [none, some 1, some 2], ((callS x).at_ 0).bcn.calls.find? (fun (y : BCall) => y.station == 63 && y.key == 1288) = some ⟨63, 1288, 0, 0, x⟩ ∧
      0 + ofS 1 ≤ ((callS x).at_ 0).tim.now) := by decide +kernel

def rec0 : LRec := ⟨1, 0, 1, false, false, 0, 0, 0⟩
def leg0 : Leg := ⟨0, 1, 0, false⟩
def vol0 : Vol := ⟨leg0, leg0, 0, false, false, 0, 0, 0, 0, 0, 0, 0, 0, 0, 0, true, 0, 0, 0⟩
/-- Controller 0 is up; volume 1023 is OPEN on it. -/
def volS (x : Vol := vol0) (st : Nat := 2) : State :=
  ((((base.wf (Reg.HST_CTRLR.PRESENT 0) 1).wf (Reg.HST_VOL.STATE 1023) st).wf (Reg.HST_VOL.SEG_COUNT 1023) 4).wf Reg.HST_CTRL.EN 1).onHst fun h =>
    { h with vols := [(1023, some x)], nsBlocks := [(1, 2 ^ 30)] }
/-- It takes the Ledger's stream, and a record waits. -/
def ledS : State := (((volS.wf Reg.LDG_CUR.VALID 1).wf Reg.LDG_CUR.VOLUME 1023).wf (Reg.HST_VOL.LEDGER 1023) 1).onLdg fun l => { l with buf := [rec0] }
def ldgS (f : Ldg → Ldg) (s : State := base) : State := s.onLdg f
def binBuf : List (Nat × Nat) := (List.range 15).map fun k => (32 * (k + 1), 0x3F800000 + k)
/-- A witness for `Obligations.LedgerCommandsTakeEffect`. -/
theorem wit_LedgerCommandsTakeEffect :
    Takes specLdgBinset (cmd 0x70 [(64, 65534)] 64 binBuf) base ∧
    (Takes specLdgView (cmd 0x71) base ∧ (base.at_ 0).ldg.view = none) ∧
    (Takes specLdgView (cmd 0x71) ((ldgS fun l => { l with view := some (5, 4096, []) }).setRing 0 (mk [(Ring.FUNC, 1)])) ∧
      ((ldgS fun l => { l with view := some (5, 4096, []) }).setRing 0 (mk [(Ring.FUNC, 1)])).fnOf (cmd 0x71) = 1) ∧
    Takes specLdgView (cmd 0x71 [(64, 1), (128, 4096)] 4) (an 0) ∧
    (Takes specLdgFlush (cmd 0x72) base ∧ base.ldg.buf = []) ∧
    (Takes specLdgFlush (cmd 0x72) ledS ∧ (ledS.at_ 0).ldg.buf ≠ [] ∧
      ((ledS.at_ 0).ledgerFlush.volClosing && !(ledS.at_ 0).ledgerFlush.ldg.buf.isEmpty) = false ∧
      ((ledS.at_ 0).ledgerFlush.hst.nv.any fun d => d.flush == (ledS.at_ 0).ldg.flushNo + 1) = true) ∧
    (Takes specLdgFlush (cmd 0x72) (ldgS fun l => { l with buf := [rec0] }) ∧ ((ldgS fun l => { l with buf := [rec0] }).at_ 0).ldg.buf ≠ [] ∧
      (((ldgS fun l => { l with buf := [rec0] }).at_ 0).ledgerFlush.volClosing &&
        !((ldgS fun l => { l with buf := [rec0] }).at_ 0).ledgerFlush.ldg.buf.isEmpty) = false ∧
      (((ldgS fun l => { l with buf := [rec0] }).at_ 0).ledgerFlush.hst.nv.any fun d =>
        d.flush == ((ldgS fun l => { l with buf := [rec0] }).at_ 0).ldg.flushNo + 1) = false) ∧
    (Takes specLdgSnapshot (cmd 0x73 [] 65536) base ∧ (base.at_ 0).ldg.view = none) ∧
    (Takes specLdgSnapshot (cmd 0x73 [] 65664) ((an 0).onLdg fun l => { l with view := some (0, 4096, [0]) }) ∧
      (((an 0).onLdg fun l => { l with view := some (0, 4096, [0]) }).at_ 0).ldg.view = some (0, 4096, [0])) ∧
    (Takes specLdgTripArm (cmd 0x74 [(64, 3), (72, 31)]) base ∧ (base.at_ 0).rf Reg.LDG_TRIP_STAT.STATE ≠ 2) ∧
    (Takes specLdgTripArm (cmd 0x74 [(64, 3), (72, 31)]) (base.wf Reg.LDG_TRIP_STAT.STATE 2) ∧
      ((base.wf Reg.LDG_TRIP_STAT.STATE 2).at_ 0).rf Reg.LDG_TRIP_STAT.STATE = 2) := by unfold Takes Accepted; decide +kernel
/-- A witness for `Obligations.LedgerCommandsTakeEffect`. -/
theorem wit_ledgerTrip :
    Takes specLdgTripStop (cmd 0x75) (base.wf Reg.LDG_TRIP_STAT.STATE 1) ∧ Takes specLdgTripTrigger (cmd 0x76) (base.wf Reg.LDG_TRIP_STAT.STATE 1) ∧
    Takes specLdgTripRead (cmd 0x77 [(128, 64)] 64) (ldgS fun l => { l with tripRecs := [rec0, rec0] }) := by
  unfold Takes Accepted; decide +kernel
def runsS : State := base.wf Reg.PWR_LSHIP_STAT.LSHIP_OP 0
/-- A witness for `Obligations.LedgerRowsTakeEffect`. -/
theorem wit_LedgerRowsTakeEffect :
    (runsS.pwr.mainUp = true ∧ runsS.pwr.failing = false ∧ (runsS.at_ 0).rb Reg.PWR_LSHIP_STAT.LSHIP_OP = false) ∧
    (State.reset.pwr.mainUp = false ∧ ((State.reset.wf Reg.PWR_LSHIP_STAT.LSHIP_OP 1).at_ 0).rb Reg.PWR_LSHIP_STAT.LSHIP_OP = true) ∧
    (ledS.pwr.mainUp = true ∧ ledS.pwr.failing = false ∧ (ledS.at_ 0).ldg.buf = [rec0] ∧
      rec0.tIn + ofMs ((ledS.at_ 0).rf Reg.LDG_FLUSH_AGE.AGE_MS) ≤ (ledS.at_ 0).wt) ∧
    (base.pwr.lshipUp = true ∧ base.pwr.mainUp = true ∧ (base.at_ 0).ldg.passAt + ofMs 10 ≤ (base.at_ 0).tim.now ∧ (base.at_ 0).ldg.lbuf = []) ∧
    ((ldgS fun l => { l with lbuf := [rec0] }).at_ 0).ldg.lbuf = [rec0] ∧
    (({ base with pwr := { base.pwr with mainUp := false } } : State).pwr.lshipUp = true ∧
      ({ base with pwr := { base.pwr with mainUp := false } } : State).pwr.mainUp = false ∧
      (({ base with pwr := { base.pwr with mainUp := false } } : State).at_ 0).ldg.passAt + ofS 10 ≤
        (({ base with pwr := { base.pwr with mainUp := false } } : State).at_ 0).tim.now) ∧
    (((ledS.onLdg fun l => { l with spool := [rec0] }).at_ 0).ldg.spool ≠ [] ∧
      ((ledS.onLdg fun l => { l with spool := [rec0] }).at_ 0).ledgerVol = some 1023) := by decide +kernel
def openS : State := (volS { vol0 with leg0 := { leg0 with ctrlr := 1 }, leg1 := { leg0 with lost := true } }).wf (Reg.HST_VOL.DEGRADED 1023) 1
def fillS : State := (volS { vol0 with leg0 := { leg0 with ctrlr := 1 }, leg1 := { leg0 with lost := true }, segOpen := true }).wf
  (Reg.HST_VOL.DEGRADED 1023) 1
def newLeg (s : State) : State := (s.modVol 1023 fun x =>
  { x with leg1 := legNamed (cmd 0x7C [(64, 1023 + 65536), (160, 1), (192, 1024)]) 0x10, syncLeg := 2, syncNext := 0, syncEnd := 0 }).wf
    (Reg.HST_VOL.SYNCING 1023) 1
/-- A witness for `Obligations.HistorianCommandsTakeEffect`. -/
theorem wit_HistorianCommandsTakeEffect :
    Takes specHstVolCreate (cmd 0x78 [(64, 1022), (81, 1), (96, 4), (160, 1), (192, 1024)]) volS ∧
    (Takes specHstVolErase (cmd 0x79 [(64, 1023)]) volS ∧ (volS.at_ 0).volInUse 1023 = false) ∧
    (Takes specHstVolErase (cmd 0x79 [(64, 1023)]) (volS { vol0 with capUse := 1 }) ∧
      ((volS { vol0 with capUse := 1 }).at_ 0).volInUse 1023 = true) ∧
    (Takes specHstVolDelete (cmd 0x7A [(64, 1023)]) volS ∧ (volS.at_ 0).rf (Reg.HST_VOL.STATE 1023) ≠ 1 ∧
      ((List.range 16).any fun k => (volS.at_ 0).rb (Reg.LDG_ROT.VALID k) && (volS.at_ 0).rf (Reg.LDG_ROT.VOLUME k) == 1023) = false ∧
      ((volS.at_ 0).cmw.defs.any fun e => fbit Cap.VALID e.2 && fget Cap.VOLUME e.2 == 1023) = false) ∧
    (Takes specHstRemount (cmd 0x7B [(64, 1023)]) (volS { vol0 with mounted := false }) ∧
      ((volS { vol0 with mounted := false }).at_ 0).hst.remount = none ∧ (([1023] : List Nat).filter fun v =>
        !((volS { vol0 with mounted := false }).at_ 0).mounted v && ((volS { vol0 with mounted := false }).at_ 0).mountable v) = [1023]) ∧
    (Takes specHstRemount (cmd 0x7B [(64, 1023)]) volS ∧ (volS.at_ 0).hst.remount = none ∧
      (([1023] : List Nat).filter fun v => !(volS.at_ 0).mounted v && (volS.at_ 0).mountable v) = []) ∧
    (Takes specHstLegReplace (cmd 0x7C [(64, 1023 + 65536), (160, 1), (192, 1024)]) openS ∧ (newLeg (openS.at_ 0)).vol 1023 ≠ none ∧
      ((newLeg (openS.at_ 0)).vol 1023).any (fun x => x.segOpen) = false) ∧
    (Takes specHstLegReplace (cmd 0x7C [(64, 1023 + 65536), (160, 1), (192, 1024)]) fillS ∧
      ((newLeg (fillS.at_ 0)).vol 1023).any (fun x => x.segOpen) = true) ∧
    (Takes specHstRead (cmd 0x7D [(64, 1023)] 4096) (volS.wf (Reg.HST_VOL.WRITE_PTR 1023) 1) ∧
      (((volS.wf (Reg.HST_VOL.WRITE_PTR 1023) 1).at_ 0).volLegs 1023).filter
        (fun p => ((volS.wf (Reg.HST_VOL.WRITE_PTR 1023) 1).at_ 0).ctrlrUp p.2.ctrlr) ≠ []) ∧
    (Takes specHstRead (cmd 0x7D [(64, 1023)] 4096) (((volS.wf (Reg.HST_VOL.WRITE_PTR 1023) 1)).wf (Reg.HST_CTRLR.PRESENT 0) 0) ∧
      ((((volS.wf (Reg.HST_VOL.WRITE_PTR 1023) 1).wf (Reg.HST_CTRLR.PRESENT 0) 0).at_ 0).volLegs 1023).filter
        (fun p => (((volS.wf (Reg.HST_VOL.WRITE_PTR 1023) 1).wf (Reg.HST_CTRLR.PRESENT 0) 0).at_ 0).ctrlrUp p.2.ctrlr) = []) := by
  unfold Takes Accepted; decide +kernel
def nvS (k : NvKind) (fl t : Nat) : State := volS.onHst fun h => { h with nv := [⟨k, 0, 1, 1023, 0, 0, 0, 256, 0, fl, 0, 7, t⟩] }
/-- A witness for `Obligations.HistorianRowsTakeEffect`. -/
theorem wit_HistorianRowsTakeEffect :
    (∀ k ∈ [NvKind.read, .write, .flush, .trailer, .copyRead, .copyWrite, .dealloc, .abort], (((nvS k 1 1).at_ 0).nvAt 0).any (fun c =>
      decide (c.kind = k) && decide (c.t - 1 + ofS 5 ≤ ((nvS k 1 1).at_ 0).tim.now)) = true) ∧
    ((((nvS .dealloc 0 1).at_ 0).nvDone 0).hst.nv.any fun d => d.kind == .dealloc && d.vol == 1023) = false ∧
    (base.pwr.mainUp = true ∧ ((base.onHst fun h => { h with bound := [(127, 99)] }).at_ 0).hst.bound.find? (fun p => p.2 == 99) = some (127, 99) ∧
      ((base.onHst fun h => { h with bound := [(127, 99)] }).at_ 0).ctrlrUp 127 = false) ∧
    (((volS { vol0 with mounted := false }).at_ 0).mountable 1023 = true ∧ ((volS { vol0 with mounted := false }).at_ 0).mounted 1023 = false ∧
      ((volS { vol0 with mounted := false }).at_ 0).rf (Reg.HST_VOL.STATE 1023) ≠ 4) ∧
    (volS.pwr.mainUp = true ∧ ((volS vol0 1).at_ 0).rf (Reg.HST_VOL.STATE 1023) = 1 ∧
      ((volS.wf (Reg.HST_VOL.SYNCING 1023) 1).at_ 0).rb (Reg.HST_VOL.SYNCING 1023) = true ∧
      ((volS.at_ 0).vol 1023).any (fun x => decide (x.syncEnd ≤ x.syncNext)) = true ∧
      (volS.at_ 0).rb (Reg.HST_CTRLR.PRESENT 0) = true) := by decide +kernel

def ltnS (st md : Nat) (f : Ltn → Ltn := id) : State :=
  ((base.wf Reg.LTN_STAT.PSTATE st).wf Reg.LTN_STAT.MODE md).onLtn fun l => f { l with width := 8, height := 2 }
def tileS : State := ((((ltnS 2 1).wf (Reg.LTN_TILE.VALID 255) 1).wf (Reg.LTN_TILE.W 255) 8).wf (Reg.LTN_TILE.H 255) 2).wf (Reg.LTN_STYLE.CHAR 5) 1
/-- A witness for `Obligations.LanternCommandsTakeEffect`. -/
theorem wit_LanternCommandsTakeEffect :
    Takes specLtnTile (cmd 0x80 [(64, 255 + 256), (160, 8 + 2 * 65536)]) (ltnS 2 1) ∧
    (Takes specLtnFrameWrite (cmd 0x81 [(64, 1), (96, 2)] 6) (ltnS 2 1) ∧
      (((ltnS 2 1).at_ 0).rb Reg.LTN_STAT.MODE || ((ltnS 2 1).at_ 0).rf Reg.LTN_STAT.FB_SHOWN == 1) = true) ∧
    (Takes specLtnFrameWrite (cmd 0x81 [(64, 1), (80, 1), (96, 1)] 3) (ltnS 2 0) ∧ ((ltnS 2 0).at_ 0).rb Reg.LTN_STAT.MODE = false ∧
      ((ltnS 2 0).at_ 0).rf Reg.LTN_STAT.FB_SHOWN ≠ 1) ∧
    Takes specLtnShow (cmd 0x82 [(72, 1)]) (ltnS 2 0) ∧ Takes specLtnShow (cmd 0x82 [(128, 2982322595)]) (ltnS 2 0) := by
  unfold Takes Accepted; decide +kernel
def swept (s : State) : State := ((s.at_ 0).setFb 0 ((s.at_ 0).fb 0)).onLtn fun l => { l with checked := true, recSweeps := l.recSweeps + 1 }
/-- A witness for `Obligations.LanternRowsTakeEffect`. -/
theorem wit_LanternRowsTakeEffect :
    (((ltnS 2 1 fun l => { l with drawing := some [] }).at_ 0).ltn.drawing = some [] ∧ ((ltnS 2 1 fun l => { l with drawing := some [] }).at_ 0).ltn.again
      = false) ∧
    ((tileS.at_ 0).composes = true ∧ (tileS.at_ 0).rb Reg.LTN_STAT.MODE = true ∧
      ((List.range (min 2000 (msOf (tileS.at_ 0).clock - (tileS.at_ 0).ltn.phaseAt))).any fun k =>
        (((tileS.at_ 0).tiles.map fun n => (tileS.at_ 0).rf (Reg.LTN_STYLE.CHAR ((tileS.at_ 0).drawOf (tileS.at_ 0).sstate n).cond)).eraseDups).any fun ch =>
          charLit ch (msOf (tileS.at_ 0).clock - k) != charLit ch (msOf (tileS.at_ 0).clock - k - 1)) = true) ∧
    (0 = ((ltnS 2 1).at_ 0).rf Reg.LTN_STAT.FB_SHOWN ∧ ((ltnS 2 1).at_ 0).rf Reg.LTN_STAT.PSTATE = 2 ∧ ((ltnS 2 1).at_ 0).ltn.line = 0 ∧
      ((ltnS 2 1).at_ 0).ltn.checked = false ∧ (swept (ltnS 2 1)).fbCrc 0 ≠ (swept (ltnS 2 1)).crcOf 0 ∧ (swept (ltnS 2 1)).crcRow = 0) ∧
    (swept ((ltnS 2 1).setCrc 0 2982322595)).fbCrc 0 = (swept ((ltnS 2 1).setCrc 0 2982322595)).crcOf 0 ∧
    (((ltnS 2 1).at_ 0).rf Reg.LTN_STAT.PSTATE = 2 ∧ ((ltnS 2 1).at_ 0).rb Reg.LTN_STAT.BIAS_FAULT = false ∧
      firstDirty ((ltnS 2 1).at_ 0).ltn.dirty = none ∧
      (((ltnS 2 1).at_ 0).lineOut 0 (tget 0 (((ltnS 2 1).at_ 0).fb (((ltnS 2 1).at_ 0).rf Reg.LTN_STAT.FB_SHOWN)) 0)).ltn.line + 1
        < ((ltnS 2 1).at_ 0).ltnHeight) ∧
    (((ltnS 2 1 fun l => { l with dirty := [1] }).at_ 0).rf Reg.LTN_STAT.PSTATE = 2 ∧
      ((ltnS 2 1 fun l => { l with dirty := [1] }).at_ 0).rb Reg.LTN_STAT.BIAS_FAULT = false ∧
      firstDirty ((ltnS 2 1 fun l => { l with dirty := [1] }).at_ 0).ltn.dirty = some 1) ∧
    ((ltnS 4 1).at_ 0).rf Reg.LTN_STAT.PSTATE = 4 ∧
    (((ltnS 1 1).at_ 0).rf Reg.LTN_STAT.PSTATE = 1 ∧ ((ltnS 1 1).at_ 0).rb Reg.LTN_STAT.BIAS_FAULT = false ∧ ((ltnS 1 1).at_ 0).ltn.startAt - 1 +
      (ofMs 40 + 2 * ((ltnS 1 1).at_ 0).passTime + (if ((ltnS 1 1).at_ 0).rb Reg.LTN_STAT.UNCLEAN then ofMs 30 else 0)) ≤ ((ltnS 1 1).at_ 0).tim.now) ∧
    (((ltnS 4 1).at_ 0).rf Reg.LTN_STAT.PSTATE = 4 ∧ ((ltnS 4 1).at_ 0).ltn.stopAt - 1 + ((ltnS 4 1).at_ 0).passTime + ofMs 35 ≤ ((ltnS 4 1).at_ 0).tim.now) ∧
    (4499 < 4500 ∧ ((ltnS 2 1).at_ 0).rb Reg.LTN_STAT.BIAS_FAULT = false ∧ (((ltnS 2 1).wf Reg.LTN_STAT.BIAS_FAULT 1).at_ 0).rb Reg.LTN_STAT.BIAS_FAULT = true ∧
      (((ltnS 2 1).wf Reg.LTN_STAT.BIAS_FAULT 1).at_ 0).ltn.biasAt - 1 + ofMs 100 ≤ ((ltnS 2 1).at_ 0).tim.now) ∧
    (((ltnS 2 0 fun l => { l with copyDue := 1 }).at_ 0).ltn.copyDue ≠ 0 ∧ ((ltnS 2 0 fun l => { l with copyDue := 1 }).at_ 0).rb Reg.LTN_STAT.MODE = false ∧
      ((ltnS 2 0 fun l => { l with copyDue := 1 }).at_ 0).ltn.swap = false) ∧
    ((base.at_ 0).pwr.lshipUp = true ∧ (ntcTemp 10000 1).isSome = true ∧ ntcTemp 0 1 = none ∧ (base.at_ 0).rb Reg.LTN_STAT.PTEMP_FAULT = false) := by decide +kernel

def shS : State := (((base.wf (Reg.FAB_SHADOW.VALID 3) 1).wf (Reg.FAB_SHADOW.HOME 3) 9).wf (Reg.FAB_SHADOW.SB_STATE 3) 2).modShadow 3 fun x =>
  { x with resyncDone := true }
/-- A witness for `Obligations.FabricCommandsTakeEffect`. -/
theorem wit_FabricCommandsTakeEffect :
    Takes specFabRouteWrite (cmd 0x90 [(64, 4095), (96, 1)] 8) base ∧
    (Takes specFabRouteRead (cmd 0x91 [(64, 4095), (96, 1), (128, 1)] 8) base ∧ (cmd 0x91 [(64, 4095), (96, 1), (128, 1)] 8).f 0x10 0 1 = 1) ∧
    (Takes specFabRouteRead (cmd 0x91 [(64, 4095), (96, 1)] 8) base ∧ (cmd 0x91 [(64, 4095), (96, 1)] 8).f 0x10 0 1 = 0) ∧
    Takes specFabRouteCommit (cmd 0x92 [(64, 0xFFFFFFFF)]) base ∧
    Takes specFabEpoch (cmd 0x93 [(64, 1), (128, 2 ^ 60 + ofMs 1)]) base ∧ Takes specFabQuench (cmd 0x94 [(64, 0xFF000000 + 9)]) base ∧
    (Takes specFabLeave (cmd 0x95) (base.wf Reg.FAB_OWN_CTRL.STANDBY 9) ∧
      ((base.wf Reg.FAB_OWN_CTRL.STANDBY 9).at_ 0).rf Reg.FAB_OWN_STAT.HOME_STATE = 0) ∧
    (Takes specFabLeave (cmd 0x95) ((base.wf Reg.FAB_OWN_CTRL.STANDBY 9).wf Reg.FAB_OWN_STAT.HOME_STATE 1) ∧
      (((base.wf Reg.FAB_OWN_CTRL.STANDBY 9).wf Reg.FAB_OWN_STAT.HOME_STATE 1).at_ 0).rf Reg.FAB_OWN_STAT.HOME_STATE ≠ 0) ∧
    (Takes specFabHandback (cmd 0x96 [(64, 9)]) shS ∧ (shS.at_ 0).shadowOf 9 = some 3 ∧ (shS.at_ 0).rf (Reg.FAB_SHADOW.SB_STATE 3) = 2 ∧
      ((shS.at_ 0).shadowX 3).resyncDone = true) ∧
    (∀ op ∈ [0, 2], Takes specFabPortCtrl (cmd 0x97 [(64, 127), (72, op)]) (portS 3)) ∧
    Takes specFabSv (cmd 0x98 [(64, 255), (128, 2 ^ 22 + 1), (192, 3)]) (base.onCmw fun w => { w with chan := [(3, 1)] }) := by
  unfold Takes Accepted; decide +kernel
/-- A witness for `Obligations.LinkRowsTakeEffect`. -/
theorem wit_LinkRowsTakeEffect :
    (((portS 3).at_ 0).pwr.mainUp = true ∧ ((portS 3).at_ 0).portUp 127 = true ∧ ((portS 3).at_ 0).rb (Reg.FAB_PORT.MODE 127) = false ∧
      (∀ k ∈ [0, 1, 2, 3], (16 + k) % 16 = k ∧ lwOk (16 + k) (lwCrc (16 + k)) = true ∧ lwOk (16 + k) (lwCrc (16 + k) + 1) = false)) ∧
    ((((portS 3 0 fun x => { x with unack := [(0, q0)] }).at_ 0).port 127).unack ≠ [] ∧
      (((portS 3).at_ 0).port 127).progress + ofPs (2 * ((portS 3).at_ 0).rf (Reg.FAB_PORT.LINK_DELAY 127)) + ofUs 4 ≤ ((portS 3).at_ 0).tim.now) ∧
    ((((portS 3).at_ 0).port 127).creditAt + ofUs 2 ≤ ((portS 3).at_ 0).tim.now ∧ (((portS 3).at_ 0).port 127).dreqAt = 0) ∧
    (127 < 128 ∧ ((portS 2).at_ 0).rb (Reg.FAB_PORT.MODE 127) = false ∧ ((portS 2).at_ 0).rf (Reg.FAB_PORT.STATE 127) = 2 ∧
      (((portS 2).at_ 0).port 127).initSent + ofUs 100 ≤ ((portS 2).at_ 0).tim.now ∧
      (((portS 2).at_ 0).port 127).initAt + ofMs 10 ≤ ((portS 2).at_ 0).tim.now) ∧
    (((portS 3).at_ 0).port 127).heard + ofUs 8 ≤ ((portS 3).at_ 0).tim.now ∧
    (∀ st ∈ [1, 2, 3], ∀ md ∈ [0, 1], ((portS st md).at_ 0).rf (Reg.FAB_PORT.STATE 127) = st ∧
      ((portS st md).at_ 0).rb (Reg.FAB_PORT.MODE 127) = (md == 1)) := by decide +kernel

def pair1 : Pair := ⟨fr0, 0, 127, 1⟩
def pairS : State := base.onFab fun x => { x with pairs := [pair1], waiting := [(q0, 0)] }
def ptpS : State := ((portS 3 1).wf (Reg.FAB_ETH.PTP_ROLE 127) 2).onFab fun x => { x with ptpSyncAt := [(127, 2 ^ 44)] }
def eth9 : EthFrame := ⟨9238, true, 0xFFFFFFFFFFFF, some 0, .other⟩
def heldE : State := (portS 3 1).onPts fun x => { x with owed := [(127, 4000, [0])] }
/-- A witness for `Obligations.FrameRowsTakeEffect`. -/
theorem wit_FrameRowsTakeEffect :
    (base.pwr.mainUp = true ∧ ((portS 3).at_ 0).portUp 127 = true) ∧
    (pairS.at_ 0).fab.pairs.find? (fun p => p.st == 1 && decide (p.at_ + ofUs ((pairS.at_ 0).rf Reg.FAB_RING_CTRL.PAIR_WAIT_US) ≤ (pairS.at_ 0).tim.now))
      = some pair1 ∧
    (pairS.at_ 0).fab.waiting.find? (fun w => decide (w.2 ≤ (pairS.at_ 0).tim.now)) = some (q0, 0) ∧
    (((portS 3 1).at_ 0).pwr.mainUp = true ∧ ((portS 3 1).at_ 0).rb (Reg.FAB_PORT.MODE 127) = true ∧
      ((portS 3 1).at_ 0).rf (Reg.FAB_PORT.STATE 127) = 3 ∧ ((portS 3 1).at_ 0).ethAccepts 127 eth9 = true ∧
      ((portS 3 1).at_ 0).ethFull 127 eth9 = false ∧ ((portS 3 1).at_ 0).ethAccepts 127 { eth9 with len := 9239 } = false) ∧
    ((heldE.at_ 0).ethAccepts 127 eth9 = true ∧ (heldE.at_ 0).ethFull 127 eth9 = true) ∧
    ((ptpS.at_ 0).rf (Reg.FAB_ETH.PTP_ROLE 127) = 2 ∧ tget 0 (ptpS.at_ 0).fab.announceAt 127 = 0 ∧ tget 0 (ptpS.at_ 0).fab.ptpSyncAt 127 ≠ 0 ∧
      (ptpS.at_ 0).rb (Reg.FAB_PORT.MODE 127) = true ∧ (ptpS.at_ 0).rf (Reg.FAB_PORT.STATE 127) = 3) := by decide +kernel
def shadS (st : Nat) : State := (base.wf (Reg.FAB_SHADOW.VALID 3) 1).wf (Reg.FAB_SHADOW.SB_STATE 3) st
def beatS : State := base.wf Reg.FAB_OWN_CTRL.STANDBY 9
def fabS (f : Fab → Fab) (s : State := base) : State := s.onFab f
def leapS : State := (base.wf Reg.FAB_TIME_UTC.LEAP61 1).onTim fun m => { m with wtBase := 86438 * 2 ^ 32 }
def timeS : State := (base.wf Reg.FAB_NODE_ID.NODE 9).wf Reg.FAB_TIME_CTRL.ROOT 1
/-- A witness for `Obligations.OwnershipRowsTakeEffect`. -/
theorem wit_OwnershipRowsTakeEffect :
    (base.pwr.mainUp = true ∧ 3 < 4 ∧ ∀ st ∈ [0, 1, 3], ((shadS st).at_ 0).rb (Reg.FAB_SHADOW.VALID 3) = true ∧ ((shadS st).at_ 0).rf (Reg.FAB_SHADOW.SB_STATE 3) = st ∧
      (((shadS st).at_ 0).shadowX 3).contact + ofMs (((shadS st).at_ 0).rf Reg.FAB_OWN_TIMING.LOSS_MS) ≤ ((shadS st).at_ 0).tim.now ∧
      (((shadS st).at_ 0).shadowX 3).entered + ofMs 100 ≤ ((shadS st).at_ 0).tim.now) ∧
    ((base.wf Reg.FAB_OWN_STAT.HOME_STATE 3).at_ 0).rf Reg.FAB_OWN_STAT.HOME_STATE = 3 ∧
    ((beatS.at_ 0).fab.beatAt + ofMs ((beatS.at_ 0).rf Reg.FAB_OWN_TIMING.HB_MS) ≤ (beatS.at_ 0).tim.now ∧ (beatS.at_ 0).rf Reg.FAB_OWN_CTRL.STANDBY ≠ 0 ∧
      ∀ k, k < 4 → ((beatS.at_ 0).handover 9 0 0 0 true).rb (Reg.FAB_SHADOW.VALID k) = false) ∧
    (((fabS fun x => { x with homeSet := false, firstUp := 1 }).at_ 0).fab.homeSet = false ∧
      1 + ofMs 100 ≤ ((fabS fun x => { x with homeSet := false, firstUp := 1 }).at_ 0).tim.now + 1) ∧
    ((fabS fun x => { x with repl := [(9, 0, 64)] }).at_ 0).fab.repl ≠ [] ∧
    (((fabS fun x => { x with epochs := [(1, 0, 0)] }).at_ 0).fab.epochs = [(1, 0, 0)] ∧ 0 ≤ (base.at_ 0).wt) ∧
    (15 < 16 ∧ ((base.wf (Reg.FAB_QUENCH_STAT.VALID 15) 1).at_ 0).rb (Reg.FAB_QUENCH_STAT.VALID 15) = true ∧
      tget 0 ((base.wf (Reg.FAB_QUENCH_STAT.VALID 15) 1).at_ 0).fab.quenchEnd 15 ≤ (base.at_ 0).tim.now) ∧
    ((timeS.at_ 0).node ≠ 0 ∧ (timeS.at_ 0).rb Reg.FAB_TIME_CTRL.ROOT = true ∧
      (timeS.at_ 0).fab.syncSent + (timeS.at_ 0).syncSpan ≤ (timeS.at_ 0).tim.now ∧ 2 ≤ (timeS.at_ 0).rf Reg.FAB_COIN_FREE.COINS ∧
      (timeS.at_ 0).selfQuenched 3 = false ∧ (((timeS.putQuench 0 9 8 5 1 9 true).at_ 0).selfQuenched 3 = true) ∧
      (timeS.at_ 0).rootRtc = true ∧ (timeS.at_ 0).fab.rtcAt + ofS 1 ≤ (timeS.at_ 0).tim.now) ∧
    (((fabS fun x => { x with syncAt := 1 }).at_ 0).rootRtc = false ∧ max ((fabS fun x => { x with syncAt := 1 }).at_ 0).fab.syncAt
      ((fabS fun x => { x with syncAt := 1 }).at_ 0).fab.sync2At ≠ 0 ∧ 1 + 4 * ((fabS fun x => { x with syncAt := 1 }).at_ 0).syncSpan ≤ (base.at_ 0).tim.now) ∧
    ((leapS.at_ 0).rb Reg.FAB_TIME_UTC.LEAP61 = true ∧
      ((((leapS.at_ 0).wt / 2 ^ 32 : Nat) : Int) - (sext 16 ((leapS.at_ 0).rf Reg.FAB_TIME_UTC.UTC_OFS) + 1)) % 86400 = 0) := by decide +kernel

def aiS (typ : Nat) (f : AiX → AiX := id) (s : State := base) : State := (s.wf (Reg.LIO_AI.TYPE 31) typ).modAix 31 f
def leadS : State := ((aiS 1).wf (Reg.LIO_AI.WIRES 31) 1).wf (Reg.LIO_AI.LEAD_S 31) 60
/-- A witness for `Obligations.LocalInputRowsTakeEffect`. -/
theorem wit_LocalInputRowsTakeEffect :
    (31 ≤ 31 ∧ base.pwr.lshipUp = true ∧ ((aiS 5 fun x => { x with clamp := true }).at_ 0).rf (Reg.LIO_AI.TYPE 31) ≠ 0 ∧
      ((aiS 5 fun x => { x with clamp := true }).at_ 0).rf (Reg.LIO_AI.TYPE 31) ≤ 5 ∧ (((aiS 5 fun x => { x with clamp := true }).at_ 0).aix 31).clamp = true) ∧
    ((((aiS 2 fun x => { x with settle := 1 }).at_ 0).aix 31).clamp = false ∧ (((aiS 2 fun x => { x with settle := 1 }).at_ 0).aix 31).until_ < (base.at_ 0).tim.now ∧
      (((aiS 2 fun x => { x with settle := 1 }).at_ 0).aix 31).settle ≠ 0 ∧ ((aiS 2 fun x => { x with settle := 1 }).at_ 0).rf (Reg.LIO_AI.TYPE 31) = 2) ∧
    (∀ typ ∈ [1, 3, 4, 5], ((aiS typ).at_ 0).rf (Reg.LIO_AI.TYPE 31) = typ ∧ (((aiS typ).at_ 0).aix 31).clamp = false ∧
      (((aiS typ).at_ 0).aix 31).until_ < (base.at_ 0).tim.now ∧ (((aiS typ).at_ 0).aix 31).settle = 0 ∧ (((aiS typ).at_ 0).aix 31).ovc = 0) ∧
    ((leadS.at_ 0).rf (Reg.LIO_AI.TYPE 31) = 1 ∧ (leadS.at_ 0).rf (Reg.LIO_AI.WIRES 31) = 1 ∧ (leadS.at_ 0).rf (Reg.LIO_AI.LEAD_S 31) ≠ 0 ∧
      ((leadS.at_ 0).aix 31).leadAt = 0 ∧ 50000 ≤ 50000) ∧
    ((((aiS 1).at_ 0).aix 31).clamp = false ∧ ((aiS 1).at_ 0).rb (Reg.LIO_AI.OVC 31) = false) ∧
    (47 < 48 ∧ (base.at_ 0).rf (Reg.LIO_DIO.MODE 47) = 0 ∧ (base.at_ 0).rb (Reg.LIO_DIO.LEVEL 47) = !true ∧
      (base.at_ 0).pts.rec_.filter (fun e => fget Pt.KIND e.2 == kDiscrete && fbit Pt.DI_LOCAL e.2) = [] ∧
      ((base.at_ 0).wf (Reg.LIO_DIO.LEVEL 47) (b2n true)).rf (Reg.LIO_DIO.MODE 47) = 0) := by decide +kernel
def lioS (f : Lio → Lio) (s : State := base) : State := s.onLio f
def doS : State := (lioS fun l => { l with sw := [(31, 1)], ovlAt := [(31, 1)], diffAt := [(31, 1)], demagAt := [(31, 2 ^ 44)] }).wf (Reg.LIO_DIO.MODE 31) 1
def aoS (code : Nat) : State := (lioS fun l => if code = 0 then l else { l with aoCode := [(15, code)] }).wf (Reg.LIO_AO.EN 15) 1
def hartS (x : HartX) (cd : Nat := 0) : State := ((lioS fun l => { l with hart := [(15, x)] }).wf (Reg.LIO_AO.HART_EN 15) 1).wf (Reg.LIO_AO.CD 15) cd
def pulS (p : Pulse) : State := lioS fun l => { l with pulses := [(15, p)] }
/-- A witness for `Obligations.LocalOutputRowsTakeEffect`. -/
theorem wit_outputStages :
    ((doS.at_ 0).isDo 31 = true ∧ (doS.at_ 0).swOn 31 = true) ∧
    (((doS.wf (Reg.LIO_DIO.OVL 31) 1).wf (Reg.LIO_DIO.CMD 31) 1).at_ 0).rb (Reg.LIO_DIO.OVL 31) = true ∧
    (tget 0 ((doS.wf (Reg.LIO_DIO.CMD 31) 1).at_ 0).lio.ovlAt 31 - 1 + ofMs 100 ≤ (base.at_ 0).tim.now ∧
      (((doS.wf (Reg.LIO_DIO.CMD 31) 1).at_ 0).wf (Reg.LIO_DIO.OVL 31) 0).rb (Reg.LIO_DIO.CMD 31) = true) ∧
    (tget 0 (doS.at_ 0).lio.diffAt 31 ≠ 0 ∧ (doS.at_ 0).rb (Reg.LIO_DIO.RB_MISMATCH 31) = false ∧
      tget 0 (doS.at_ 0).lio.diffAt 31 - 1 + ofMs ((doS.at_ 0).rf (Reg.LIO_DIO.RB_MS 31)) ≤ (doS.at_ 0).tim.now) ∧
    (((doS.wf (Reg.LIO_DIO.DEMAG 31) 1).at_ 0).rb (Reg.LIO_DIO.DEMAG 31) = true ∧ usOf ((doS.at_ 0).tim.now - tget 0 (doS.at_ 0).lio.demagAt 31) ≤ 400) := by
  decide +kernel
def aoW (code ua mv : Nat) : State := ((((aoS code).at_ 0).wf (Reg.LIO_AO.I_MEAS_UA 15) ua).wf (Reg.LIO_AO.V_SUP_MV 15) (aoSupply false mv)).wf
  (Reg.LIO_AO.V_TERM_MV 15) mv
/-- A witness for `Obligations.LocalOutputRowsTakeEffect`. -/
theorem wit_currentOutputs :
    (15 ≤ 15 ∧ ((aoS 0).at_ 0).pwr.lshipUp = true ∧ ((aoS 0).at_ 0).rb (Reg.LIO_AO.EN 15) = true ∧ ((aoS 0).at_ 0).rb (Reg.LIO_AO.SINK 15) = false ∧
      (aoW 0 0 0).rf (Reg.LIO_AO.OPEN 15) = 0 ∧ (aoW 0 0 0).rf (Reg.LIO_AO.COMPL 15) = 0 ∧ (aoW 0 0 0).rf (Reg.LIO_AO.THERM 15) = 0 ∧
      tget 0 (aoW 0 0 0).lio.aoCode 15 * 24000 = 0 * 65536) ∧
    (1000 * 65536 ≤ tget 0 (aoW 65535 0 26000).lio.aoCode 15 * 24000 ∧ ((aoS 65535).at_ 0).rb (Reg.LIO_AO.EN 15) = true ∧
      ((aoS 65535).at_ 0).rb (Reg.LIO_AO.SINK 15) = false ∧ 26000 ≤ aoSupply false 26000 ∧ (aoW 65535 0 26000).rf (Reg.LIO_AO.OPEN 15) = 0 ∧
      (aoW 65535 0 26000).rf (Reg.LIO_AO.COMPL 15) = 0 ∧ (aoW 65535 0 26000).rf (Reg.LIO_AO.THERM 15) = 0) ∧
    ((base.at_ 0).rb Reg.LIO_STAT.SAFE_ACTIVE = false ∧ 0 + ofMs ((base.at_ 0).rf Reg.LIO_SAFE_CTRL.TMO_MS) ≤ (base.at_ 0).tim.now ∧
      ((base.wf Reg.LIO_STAT.SAFE_ACTIVE 1).at_ 0).rb Reg.LIO_STAT.SAFE_ACTIVE = true) ∧
    (15 < 16 ∧ 1 % 2 ^ 32 ≠ 0) := by decide +kernel
/-- A witness for `Obligations.LocalOutputRowsTakeEffect`. -/
theorem wit_hart :
    (((hartS { HartX.none_ with tx := [256] }).at_ 0).hartOn 15 = true ∧ hartMsg (((hartS { HartX.none_ with tx := [256] }).at_ 0).hart 15).tx ≠ 0 ∧
      (((hartS { HartX.none_ with tx := [256] }).at_ 0).hart 15).started = 0 ∧ ((hartS { HartX.none_ with tx := [256] }).at_ 0).rb (Reg.LIO_AO.CD 15) = false ∧
      (((hartS { HartX.none_ with tx := [256] }).at_ 0).hart 15).carrierAt = 0) ∧
    ((((hartS { HartX.none_ with tx := [256], started := 1 }).at_ 0).hart 15).started ≠ 0 ∧
      ((((hartS { HartX.none_ with tx := [256], started := 1 }).at_ 0).hart 15).sent + 1) * 11 * 2 ^ 32 ≤ ((base.at_ 0).tim.now - (1 - 1)) * 1200) ∧
    (((((hartS HartX.none_).at_ 0).wf (Reg.LIO_AO.CD 15) 1).hart 15).rx.length < 256 ∧
      256 ≤ ((((hartS { HartX.none_ with rx := List.replicate 256 0 }).at_ 0).wf (Reg.LIO_AO.CD 15) 1).hart 15).rx.length) ∧
    (((hartS { HartX.none_ with carrierAt := 1 } 1).at_ 0).rb (Reg.LIO_AO.CD 15) = true ∧ (((hartS { HartX.none_ with carrierAt := 1 } 1).at_ 0).hart 15).rxAt = 0 ∧
      22 * 2 ^ 32 < ((base.at_ 0).tim.now - ((((hartS { HartX.none_ with carrierAt := 1 } 1).at_ 0).hart 15).carrierAt - 1)) * 1200) := by decide +kernel
/-- A witness for `Obligations.LocalOutputRowsTakeEffect`. -/
theorem wit_pulses :
    (15 ≤ 15 ∧ ∀ on ∈ [false, true], (((pulS { Pulse.none_ with dir := 1, on := on }).at_ 0).pulse 15).dir ≠ 0 ∧
      (((pulS { Pulse.none_ with dir := 1, on := on }).at_ 0).pulse 15).on = on ∧
      (((pulS { Pulse.none_ with dir := 1, on := on }).at_ 0).pulse 15).start ≤ (base.at_ 0).tim.now ∧
      (((pulS { Pulse.none_ with dir := 1, on := on }).at_ 0).pulse 15).stop ≤ (base.at_ 0).tim.now) ∧
    ((((pulS { Pulse.none_ with carL := 5 }).at_ 0).pulse 15).carL ≠ 0 ∧ (((pulS { Pulse.none_ with carR := 5 }).at_ 0).pulse 15).carR ≠ 0 ∧
      tick10 (((pulS { Pulse.none_ with carL := 5 }).at_ 0).clock + ((((pulS { Pulse.none_ with carL := 5 }).at_ 0).pulse 15).carryAt +
        ofS (((pulS { Pulse.none_ with carL := 5 }).at_ 0).rf (Reg.LIO_PULSE.HOLD_S 15))) - ((pulS { Pulse.none_ with carL := 5 }).at_ 0).tim.now) ≤
        ((pulS { Pulse.none_ with carL := 5 }).at_ 0).clock) := by decide +kernel

def pwrS (f : Pwr → Pwr) (s : State := base) : State := s.onPwr f
/-- Off, with a usable image; MAIN has been restored. -/
def backS : State := ((main false).wf Reg.PWR_SUPPLY_STAT.MAIN_OK 1).onImg fun m => { m with slot0 := some Slot.empty, chosen := 1 }
def backB : State := (((((((backS.at_ 0).wf Reg.PWR_MAIN_MV.MV 48000).scapRead 16000).wf Reg.PWR_SUPPLY_STAT.MAIN_OK 1).wf Reg.PWR_CLK_STAT.FREF_OK 1).wf
  Reg.PWR_CLK_STAT.CORE_LOCK 1))
def backC : State := (((((((backB.clearRegs mainOwn).onPwr fun p => { p with mainUp := true, failing := false }).onLdg fun l => { l with actTime := [] }).setWt
  backB.lwt (2 ^ 32)).wf Reg.PWR_SUPPLY_STAT.MAIN_STATE 1).raise Ev.PWR_MAIN_RETURN 0 [48000]).feedSettle.fansFollow).chooseMain
/-- A witness for `Obligations.PowerRowsTakeEffect`. -/
theorem wit_supplies :
    (base.pwr.lshipUp = true ∧ base.pwr.failing = false ∧ 3 ≤ 3 ∧ 33999 < 34000 ∧ 62000 < 62001 ∧ base.pwr.mainUp = true ∧
      ((base.wf Reg.PWR_SUPPLY_STAT.MAIN_OK 1).at_ 0).rb Reg.PWR_SUPPLY_STAT.MAIN_OK = true) ∧
    ((pwrS fun p => { p with failing := true }).pwr.failing = true ∧ (pwrS fun p => { p with failing := true }).pwr.lshipUp = true ∧ 7 ≠ 0 ∧ 7 ≤ 7) ∧
    ((backS.at_ 0).pwr.lshipUp = true ∧ (backS.at_ 0).pwr.mainUp = false ∧ (backS.at_ 0).pwr.warned = false ∧ (backS.at_ 0).pwr.goodAt = 0 ∧
      35000 ≤ 48000 ∧ 48000 ≤ 60000 ∧ (backS.at_ 0).rb Reg.KPR_THERM.TRIP = false ∧
      (backS.at_ 0).ready 0 = true ∧ (backS.at_ 0).rb Reg.PWR_SUPPLY_STAT.MAIN_OK = true ∧ backC.img.use ≠ 0 ∧
      (backC.restoreRegs backC.inUse.regs fun o => mainReg o).policyApply.rf (Reg.BKP_REG.WORD 0) ≠ 0x4B524142) ∧
    ((base.at_ 0).rb Reg.PWR_SUPPLY_STAT.EMER_OK ≠ true ∧ ((base.wf Reg.PWR_SUPPLY_STAT.EMER_OK 1).at_ 0).rb Reg.PWR_SUPPLY_STAT.EMER_OK ≠ false ∧
      16500 ≤ 24000 ∧ 24000 ≤ 32000 ∧ 15999 < 16000 ∧
      ((((base.at_ 0).wf Reg.PWR_EMER_MV.MV 24000).scapRead 16000).wf Reg.PWR_SUPPLY_STAT.EMER_OK 1).pwr.warned = false ∧
      (((((pwrS fun p => { p with warned := true }).at_ 0).wf Reg.PWR_EMER_MV.MV 24000).scapRead 16000).wf Reg.PWR_SUPPLY_STAT.EMER_OK 1).pwr.warned = true) ∧
    (19000 ≤ 19000 ∧ 17999 < 18000 ∧ ∀ b ∈ [true, false], ((base.wf Reg.PWR_SUPPLY_STAT.FIELD_OK (b2n !b)).at_ 0).rb Reg.PWR_SUPPLY_STAT.FIELD_OK ≠ b) ∧
    ((main false).pwr.lshipUp = true ∧ ((main false).at_ 0).feedOf = 2 ∧ 9000 ≤ 9000 ∧ 7000 ≤ 7000 ∧ ((main false).at_ 0).rb Reg.PWR_SUPPLY_STAT.SCAP_LOW = false ∧
      (main false).pwr.warned = false) ∧
    ((((main false).wf Reg.PWR_SUPPLY_STAT.EMER_OK 1).at_ 0).feedOf ≠ 2 ∧ 15799 < 15800) := by decide +kernel
/-- A witness for `Obligations.PowerRowsTakeEffect`. -/
theorem wit_clocksAndGates :
    (base.at_ 0).rb Reg.PWR_CLK_STAT.LREF_FALLBACK = false ∧
    (((base.wf Reg.PWR_GATE_CTRL.FFT_GATE_EN 1).wf Reg.PWR_FFT_AWAKE.COUNT 1).at_ 0).rb Reg.PWR_GATE_CTRL.FFT_GATE_EN = true ∧
    (base.at_ 0).cmw.frames.length < (((base.wf Reg.PWR_GATE_CTRL.FFT_GATE_EN 1).wf Reg.PWR_FFT_AWAKE.COUNT 1).at_ 0).rf Reg.PWR_FFT_AWAKE.COUNT := by
  decide +kernel
def hbS : State := (base.wf Reg.SYS_READY.READY 0x407).onPwr fun p => { p with scanAt := 2 ^ 60 }
def lsS (us : List Upd) : State := ((main false).wf Reg.PWR_LSHIP_STAT.LSHIP_OP 1).onPwr fun p => { p with upds := us }
def lsU : Upd := ⟨0, 0, twinOf 0, false, 0, 0, 0, 0, 0⟩
def lsP : State := { lsS [lsU] with pts := ((ptIn 0 [(Pt.KIND, 1), (Pt.DI_LOCAL, 1)] base).pts) }
/-- A witness for `Obligations.PowerRowsTakeEffect`. -/
theorem wit_lightshipOperation :
    (hbS.pwr.mainUp = true ∧ hbS.pwr.failing = false ∧ (hbS.at_ 0).ready 10 = true ∧ (hbS.at_ 0).ready 12 = false ∧
      (hbS.at_ 0).keeperPass.rb Reg.PWR_LSHIP_STAT.LSHIP_OP = false ∧ (hbS.at_ 0).keeperPass.pwr.upds = []) ∧
    (((base.wf Reg.SYS_READY.READY 0x1FFF).at_ 0).ready 12 = true ∧ ((base.wf Reg.SYS_READY.READY 0x1FFF).at_ 0).ready 15 = false ∧
      tkeys ((base.wf Reg.SYS_READY.READY 0x1FFF).at_ 0).ctl.rec_ = [] ∧ (((base.wf Reg.SYS_READY.READY 0x1FFF).at_ 0).setReady 15).ctl.rec_ = []) ∧
    (((lsS [lsU]).at_ 0).rb Reg.PWR_LSHIP_STAT.LSHIP_OP = true ∧ ((lsS [lsU]).at_ 0).keeperRuns = true ∧ ((lsS [lsU]).at_ 0).pwr.upds = [lsU] ∧
      (((lsS [lsU]).at_ 0).onPwr fun p => { p with upds := [] }).keeperHas 0 = false ∧ (lsP.at_ 0).keeperRuns = true ∧
      ((lsP.at_ 0).onPwr fun p => { p with upds := [] }).keeperHas 0 = true) ∧
    (((lsS []).at_ 0).keeperRuns = true ∧ ((lsS []).at_ 0).pwr.upds = [] ∧ ((lsS []).at_ 0).keeperDue = none ∧
      ((lsS []).at_ 0).pwr.scanAt < ticksBy 1 ((lsS []).at_ 0).lwt + 1) := by decide +kernel
def tripW (s : State) : State :=
  ((((s.at_ 0).wf (Reg.KPR_SENS.VALUE 7) 0x42DC0000).wf Reg.KPR_THERM.TRIP 1).bump Reg.KPR_THERM_TRIP_CNT.COUNT).raise Ev.KPR_THERM_TRIP 7 [0x42DC0000]
/-- A witness for `Obligations.PowerRowsTakeEffect`. -/
theorem wit_thermal :
    (7 ≤ 7 ∧ (base.at_ 0).rb Reg.KPR_THERM.TRIP = false ∧ fle f32 0x42DC0000 0x42DC0000 = true ∧
      (tripW (base.wf Reg.PWR_SUPPLY_STAT.MAIN_OK 1)).rb Reg.PWR_SUPPLY_STAT.MAIN_OK = true ∧ (tripW (base.wf Reg.PWR_SUPPLY_STAT.MAIN_OK 1)).pwr.failing = false ∧
      (tripW (main false)).rb Reg.PWR_SUPPLY_STAT.MAIN_OK = false) ∧
    (((base.wf Reg.KPR_THERM.TRIP 1).at_ 0).rb Reg.KPR_THERM.TRIP = true ∧ fle f32 0x42BE0000 0x42BE0000 = true) := by decide +kernel

def kprS (f : Kpr → Kpr) (s : State := base) : State := s.onKpr f
def updS1 : State := kprS fun k => { k with update := some ⟨0, 1, 16, 0, 0⟩ }
def haltS (s : State) : State := s.wf Reg.KPR_DBG_STAT.HALTED 1
def norO : NorOp := ⟨0, 0, 7, 0, 1, 16, 0, 0⟩
/-- A witness for `Obligations.KeeperMailboxTakesEffect`. -/
theorem wit_KeeperMailboxTakesEffect :
    (base.rb Reg.KPR_DBG_STAT.HALTED = false ∧ (base.at_ 0).rb Reg.KPR_DBG_STAT.HALTED = false ∧
      updS1.rb Reg.KPR_DBG_STAT.HALTED = false ∧ (updS1.at_ 0).rb Reg.KPR_DBG_STAT.HALTED = false ∧ Takes (specUpd 0) (cmd 0xA0 [(72, 1), (128, 8388608)]) base ∧
      (base.at_ 0).updRefuse 0 0 1 8388608 0 = none) ∧
    (Takes (specUpd 1) (cmd 0xA0 [(64, 1)] 16) updS1 ∧ (updS1.at_ 0).updRefuse 0 1 0 0 16 = none) ∧
    (Takes (specUpd 2) (cmd 0xA0 [(64, 2)]) updS1 ∧ (updS1.at_ 0).updRefuse 0 2 0 0 0 = none) ∧
    (Takes (specUpd 3) (cmd 0xA0 [(64, 3)]) base ∧ (base.at_ 0).updRefuse 0 3 0 0 0 = none) ∧
    (Takes (specUpd 6) (cmd 0xA0 [(64, 6)]) updS1 ∧ (updS1.at_ 0).updRefuse 0 6 0 0 0 = none) ∧
    (((haltS base).at_ 0).rb Reg.KPR_DBG_STAT.HALTED = true ∧ (haltS base).kpr.nor = none ∧
      Takes (specUpd 0) (cmd 0xA0 [(72, 1), (128, 8388608)]) (haltS base) ∧ ((haltS base).at_ 0).updRefuse 0 0 1 8388608 0 = none) ∧
    (Takes (specUpd 1) (cmd 0xA0 [(64, 1)] 16) (haltS updS1) ∧ ((haltS updS1).at_ 0).updRefuse 0 1 0 0 16 = none) ∧
    Takes specLogRead (cmd 0xA0 [(64, 4)] 64) base ∧ Takes specSensorRead (cmd 0xA0 [(64, 5)] 1360) base ∧
    ((updS1.at_ 0).kpr.update = some ⟨0, 1, 16, 0, 0⟩ ∧ (updS1.at_ 0).keeperRuns = true ∧ 0 + ofS 600 ≤ (updS1.at_ 0).tim.now) ∧
    ((kprS fun k => { k with nor := some norO }).at_ 0).kpr.nor = some norO := by unfold Takes Accepted; decide +kernel
/-- The management ports serve; a session stands on each port. -/
def sesS (auth sec : Bool) : State := ((((main false).wf Reg.KPR_MGMT_CTRL.EN1 1).wf (Reg.KPR_MGMT_IPV4.IPV4 1) 0x0A000001).wf Reg.KPR_DBG_CTRL.DBG_EN 1).onKpr fun k =>
  { k with sessions := [(1, some ⟨5, 0, auth, sec, 0, 0⟩), (2, some ⟨0, 0, auth, sec, 0, 0⟩)] }
/-- A witness for `Obligations.ManagementRowsTakeEffect`. -/
theorem wit_ManagementRowsTakeEffect :
    (((sesS true true).at_ 0).portTakes 1 5 = true ∧ ((sesS true true).at_ 0).portTakes 2 0 = true) ∧
    (((sesS false false).at_ 0).session 1 = some ⟨5, 0, false, false, 0, 0⟩ ∧ ((sesS false false).at_ 0).credOk 1 0 0 0 = false) ∧
    (1 ≤ 1 ∧ 6 ≤ 6 ∧ ((sesS true true).at_ 0).session 1 = some ⟨5, 0, true, true, 0, 0⟩ ∧ ((sesS false false).at_ 0).portTakes 1 5 = true ∧
      (((sesS true true).at_ 0).setSession 1 (some ⟨5, 0, true, true, 0, ((sesS true true).at_ 0).tim.now⟩)).rf Reg.KPR_STAT.STATE ≠ 2) ∧
    (1 < 2 ∧ 0 + ofS 60 ≤ ((sesS true true).at_ 0).tim.now) ∧
    (tget 0 ((kprS fun k => { k with refuse := [(1, 1)] }).at_ 0).kpr.refuse 1 ≠ 0 ∧
      tget 0 ((kprS fun k => { k with refuse := [(1, 1)] }).at_ 0).kpr.refuse 1 ≤ (base.at_ 0).tim.now + 1) ∧
    ((sesS true true).at_ 0).portServes 1 = true ∧
    (((sesS true true).at_ 0).debugSecure = true ∧ ((sesS true true).at_ 0).keeperLive = true ∧ ((sesS true true).at_ 0).rb Reg.KPR_DBG_STAT.HALTED = false) ∧
    (((haltS (sesS true true)).at_ 0).rb Reg.KPR_DBG_STAT.HALTED = true ∧ ((haltS (sesS true true)).at_ 0).debugSecure = true ∧
      ((((haltS (sesS true true)).at_ 0).wf Reg.KPR_DBG_STAT.HALTED 0).raise Ev.KPR_DBG_HALT 0 [1]).kpr.nor = none ∧
      ((((haltS (kprS (fun k => { k with nor := some norO }) (sesS true true))).at_ 0).wf Reg.KPR_DBG_STAT.HALTED 0).raise Ev.KPR_DBG_HALT 0 [1]).kpr.nor
        = some norO) ∧
    (((sesS true true).at_ 0).session 2 = some ⟨0, 0, true, true, 0, 0⟩ ∧ 0 < ((sesS true true).at_ 0).lwt) := by decide +kernel
/-- Whether a signature verifies is left open (log entry 51); for a credential whose two signatures do, `credOk` holds. -/
def credN : Nat := 0x44435250 + 2 ^ 32 + (2 ^ 64 - 1) * 2 ^ 128
/-- A witness for `Obligations.ManagementRowsTakeEffect`. -/
theorem wit_mgmtAuth (sig : Nat) (h1 : sigOk 2 0x80 credN 0x80 = true)
    (h2 : Config.verify (imgBytes credN 0x20 96) (sha384 51 (0 + beBytes 3 ((sesS false false).at_ 0).node * 2 ^ 384)) sig = true) :
    ((sesS false false).at_ 0).portTakes 1 5 = true ∧ ((sesS false false).at_ 0).session 1 = some ⟨5, 0, false, false, 0, 0⟩ ∧
      ((sesS false false).at_ 0).credOk 1 0 credN sig = true := by
  refine ⟨by decide +kernel, by decide +kernel, ?_⟩
  unfold State.credOk; dsimp only
  rw [h1, h2, show (nget Cred.CMAGIC credN == 0x44435250) = true by decide +kernel, show nget Cred.NODE credN = 0 by decide +kernel,
    show nget Cred.NOT_AFTER credN = 2 ^ 64 - 1 by decide +kernel, show nget Cred.KIND credN = 1 by decide +kernel,
    show decide (((sesS false false).at_ 0).lwt ≤ 2 ^ 64 - 1) = true by decide +kernel]
  simp

def kS (f : Kpr → Kpr) (s : State := base) : State := s.onKpr f
def dbgS : State := kS fun k => { k with sessions := [(2, some ⟨0, 0, true, true, 0, 0⟩)] }
def bootB : Boot := ⟨1, 0, true, 128⟩
def senS (run : Bool) (x : Nat) : State := ((((if run then base else base.wf Reg.SYS_READY.READY 0).wf (Reg.KPR_SENS.LIMIT_HI 0) 0x42C80000).wf
  (Reg.KPR_SENS.LIMIT_LO 0) 0).at_ 0).wf (Reg.KPR_SENS.VALUE 0) x
/-- A witness for `Obligations.KeeperRowsTakeEffect`. -/
theorem wit_keeperResets :
    (base.pwr.lshipUp = true ∧ (dbgS.at_ 0).debugSecure = true ∧ (base.at_ 0).keeperLive = true ∧ (base.at_ 0).rb Reg.KPR_DBG_STAT.HALTED = false ∧
      0 + ofMs ((base.at_ 0).rf Reg.KPR_WDOG.TIMEOUT_MS) ≤ (base.at_ 0).tim.now) ∧
    ((kS fun k => { k with chosen := false }).at_ 0).kpr.chosen = false ∧
    (((base.wf Reg.SYS_READY.READY 0).at_ 0).ready 0 = false ∧ ((base.wf Reg.SYS_READY.READY 0).at_ 0).ready 1 = false ∧
      ((base.wf Reg.SYS_READY.READY 2).at_ 0).ready 0 = false ∧ ((base.wf Reg.SYS_READY.READY 2).at_ 0).ready 1 = true ∧
      ((base.wf Reg.SYS_READY.READY 2).at_ 0).keeperLive = true) ∧
    (((kS fun k => { k with boot := some bootB }).at_ 0).kpr.boot = some bootB ∧ bootB.trial = true ∧ (base.at_ 0).keeperRuns = true ∧
      ((kS fun k => { k with boot := some bootB }).at_ 0).kpr.readyAt + ofS 600 ≤ (base.at_ 0).tim.now) := by decide +kernel
/-- A witness for `Obligations.KeeperRowsTakeEffect`. -/
theorem wit_sensors :
    (84 ≤ 84 ∧ (base.at_ 0).sensRead 83 0x42480000 = ((0x42480000, false), base.at_ 0) ∧ ((base.at_ 0).sensRead 84 0x447A0000).1.2 = false ∧
      (senS false 0x42480000).keeperRuns = false ∧ (senS true 0x42480000).keeperRuns = true) ∧
    ((senS true 0x42480000).sensFlags 0 0x42480000 false = (0, 0, 0) ∧ (senS true 0x42480000).rf (Reg.KPR_SENS.LOW 0) = 0 ∧
      ((senS true 0x42480000).wf (Reg.KPR_SENS.LOW 0) 0).rf (Reg.KPR_SENS.HIGH 0) = 0 ∧
      (((senS true 0x42480000).wf (Reg.KPR_SENS.LOW 0) 0).wf (Reg.KPR_SENS.HIGH 0) 0).rf (Reg.KPR_SENS.FAULT 0) = 0) ∧
    ((senS true 0x43160000).sensFlags 0 0x43160000 false = (0, 1, 0) ∧
      ((((senS true 0x43160000).wf (Reg.KPR_SENS.LOW 0) 0).wf (Reg.KPR_SENS.HIGH 0) 1).sensEvent 0 1 0x43160000).rf (Reg.KPR_SENS.FAULT 0) = 0) := by
  decide +kernel
def fanS (st att : Nat) : State := (((((base.wf (Reg.KPR_FAN.STATE 3) st).wf (Reg.KPR_FAN.ATTEMPT 3) att).wf (Reg.KPR_FAN.STALL_RPM 3) 1000).wf
  (Reg.KPR_FAN.I_MIN_MA 3) 100).wf (Reg.KPR_FAN.I_MAX_MA 3) 500)
/-- A witness for `Obligations.KeeperRowsTakeEffect`. -/
theorem wit_fans :
    (3 ≤ 3 ∧ ∀ st ∈ [1, 2, 3, 4], ((fanS st 2).at_ 0).fanState 3 = st ∧ ((fanS st 2).at_ 0).keeperRuns = true ∧
      ((fanS st 2).at_ 0).fanSince 3 + ofS 10 ≤ ((fanS st 2).at_ 0).tim.now) ∧
    (((fanS 1 2).at_ 0).fanSlow 3 1000 = false ∧ ((fanS 1 2).at_ 0).fanSlow 3 999 = true ∧
      (((fanS 1 2).at_ 0).fanRead 3 999 100).rf (Reg.KPR_FAN.ATTEMPT 3) = 2 ∧ (((fanS 1 3).at_ 0).fanRead 3 999 100).rf (Reg.KPR_FAN.ATTEMPT 3) = 3) ∧
    ((((fanS 3 1).at_ 0).fanRead 3 999 501).fanSlow 3 999 = true ∧ (((fanS 3 1).at_ 0).fanRead 3 999 501).fanInBand 3 501 = false ∧
      (((fanS 3 1).at_ 0).fanRead 3 999 500).fanInBand 3 500 = true ∧ (((fanS 3 1).at_ 0).fanRead 3 1000 500).fanSlow 3 1000 = false ∧
      (((fanS 3 1).at_ 0).fanRead 3 1000 501).rb (Reg.KPR_FAN.CUR_WARN 3) = false) := by decide +kernel
/-- A witness for `Obligations.KeeperRowsTakeEffect`. -/
theorem wit_keeperStores :
    ((kS fun k => { k with logPend := [(1, 0, 0)] }).at_ 0).kpr.logPend = [(1, 0, 0)] ∧ storeRegion 0x47FFFFF = some 4 ∧ (base.at_ 0).kpr.foldAt = 0 ∧
    (((kS fun k => { k with foldAt := 1 }).at_ 0).kpr.foldAt ≠ 0 ∧ ((kS fun k => { k with foldAt := 1 }).at_ 0).kpr.foldAt - 1 + ofS 5 ≤ (base.at_ 0).tim.now) := by
  decide +kernel

/-- A write of the host to `off` reaches its register, which takes its words in twin or not. -/
def reaches (off : Nat) (twin : Bool) (a : State) : Bool :=
  match findReg off with
  | none => false
  | some r => a.mayAccess 0 && off % 4 == 0 && decide (off < 0x190000) && a.regServed off && !(r.fields.filter (writable 0 off)).isEmpty &&
      !(a.rb Reg.WLD_LOCK.LOCK && (r.fields.filter (writable 0 off)).all fun f => f.lk) && TwinTaken 0 off r == twin
theorem reaches_writes {off : Nat} {twin : Bool} {a : State} (h : reaches off twin a = true) :
    ∃ r, WriteReaches 0 off off r a ∧ TwinTaken 0 off r = twin := by
  unfold reaches at h
  split at h
  · cases h
  · rename_i r hr
    simp only [Bool.and_eq_true, Bool.not_eq_true', beq_iff_eq, decide_eq_true_eq] at h
    obtain ⟨⟨⟨⟨⟨⟨h1, h2⟩, h3⟩, h4⟩, h5⟩, h6⟩, h7⟩ := h
    refine ⟨r, ⟨h1, h2, rfl, hr, h4, by decide, ?_, h5, h6⟩, h7⟩
    unfold State.regOpen
    rw [if_neg (by simp; omega), if_pos (by rfl)]
/-- The module with the Keeper's registers there. -/
def up : State := base.wf Reg.KPR_STAT.STATE 1
/-- A witness for `Obligations.RegisterAccessesTakeEffect`. -/
theorem wit_RegisterAccessesTakeEffect :
    (∀ off ∈ [0x20004, 0x20008, 0x30000, 0x31000 + 16 * 255, 0xC0000, 0xB0700 + 16 * 15, 0xE2000 + 16 * 3, 0xF0008, 0xF008C],
      ∃ r, WriteReaches 0 off off r (up.at_ 0) ∧ TwinTaken 0 off r = false) ∧
    ((up.at_ 0).mayAccess 0 = true ∧ ∀ off ∈ [0x20048, 0xB0704 + 16 * 15], off % 4 = 0 ∧ regAddr 0 off = some off ∧ (up.at_ 0).regServed off = true ∧
      (findReg off).isSome = true ∧ (up.at_ 0).regOpen 0 off = (true, up.at_ 0) ∧ (up.at_ 0).hidden 0 off = []) ∧
    ((up.at_ 0).mayAccess 1 = true ∧ regAddr 1 0x61004 = some 0x61004 ∧ (up.at_ 0).regServed 0x61004 = true ∧
      (findReg 0x61004).isSome = true ∧ (up.at_ 0).regOpen 1 0x61004 = (true, up.at_ 0) ∧ ((up.at_ 0).hidden 1 0x61004).length = 4) := by
  refine ⟨fun off h => reaches_writes ?_, by decide +kernel, by decide +kernel⟩
  have : ∀ off ∈ [0x20004, 0x20008, 0x30000, 0x31000 + 16 * 255, 0xC0000, 0xB0700 + 16 * 15, 0xE2000 + 16 * 3, 0xF0008, 0xF008C],
    reaches off false (up.at_ 0) = true := by decide +kernel
  exact this off h
def twOpenS (off : Nat) (v : Nat := 1) : State := up.setTwSeq 0 ⟨true, off, v, 2 ^ 44 - 1⟩
/-- A witness for `Obligations.TwinWritesTakeEffect`. -/
theorem wit_TwinWritesTakeEffect :
    ((up.at_ 0).twSeq 0).open_ = false ∧ isTw 0xA0000 = true ∧
    (∃ r, WriteReaches 0 0xA0000 0xA0000 r (up.at_ 0) ∧ TwinTaken 0 0xA0000 r = true) ∧
    (∀ off ∈ [0xA0000, 0xA0008, 0xA000C, 0xA0018, 0xA001C, 0xA1000 + 16 * 255, 0x50000, 0xE0100, 0xF003C, 0xF0040],
      ∃ r, PairCloses 0 off (twinOf 1) r ((twOpenS off).at_ 0)) ∧
    ((∃ r, WriteReaches 0 0xA0000 0xA0000 r ((twOpenS 0xA0000).at_ 0) ∧ TwinTaken 0 0xA0000 r = true) ∧ ((twOpenS 0xA0000).at_ 0).seqAt 0 0xA0000 = true ∧
      twinOk (((twOpenS 0xA0000).at_ 0).twSeq 0).v (1 % 2 ^ 32) = false) ∧
    (1 < 2 ∧ ((up.setTwSeq 1 ⟨true, 0xA0000, 1, 0⟩).at_ 0).twSeq 1 = ⟨true, 0xA0000, 1, 0⟩ ∧ 0 + ofUs 256 < (up.at_ 0).tim.now) ∧
    ((if mainReg 0x11400 then (up.at_ 0).pwr.mainUp else (up.at_ 0).pwr.lshipUp) = true ∧ fieldMask 0x11400 (fun f => f.rest == .twin) ≠ 0 ∧
      (up.at_ 0).img.use = 0 ∧ ((((up.at_ 0).rd 0x11400).toNat ^^^ (1 % 2 ^ 32)) ^^^ (((up.at_ 0).rdN 0x11400).toNat ^^^ (0 % 2 ^ 32))) &&&
        fieldMask 0x11400 (fun f => f.rest == .twin) ≠ fieldMask 0x11400 (fun f => f.rest == .twin)) := by
  refine ⟨by decide +kernel, by decide +kernel, reaches_writes (by decide +kernel), fun off h => ?_,
    ⟨reaches_writes (by decide +kernel), by decide +kernel, by decide +kernel⟩, by decide +kernel, by decide +kernel⟩
  have : ∀ off ∈ [0xA0000, 0xA0008, 0xA000C, 0xA0018, 0xA001C, 0xA1000 + 16 * 255, 0x50000, 0xE0100, 0xF003C, 0xF0040],
    reaches off true ((twOpenS off).at_ 0) = true ∧ ((twOpenS off).at_ 0).seqAt 0 off = true ∧
      twinOk (((twOpenS off).at_ 0).twSeq 0).v (twinOf 1 % 2 ^ 32) = true := by decide +kernel
  obtain ⟨h1, h2, h3⟩ := this off h
  obtain ⟨r, h4, h5⟩ := reaches_writes h1
  exact ⟨r, h4, h5, h2, h3⟩

def bk (l : List (RFld × Nat)) (f : Bkp → Bkp := id) : State := (l.foldl (fun s e => s.wf e.1 e.2) base).onBkp f
/-- The Keeper's rails are down: the backup domain runs from its own cell. -/
def dark : State := { base with pwr := { base.pwr with mainUp := false, lshipUp := false } }
/-- A witness for `Obligations.BackupRowsTakeEffect`. -/
theorem wit_backupSupply :
    (base.at_ 0).pwr.lshipUp = true ∧ base.pwr.lshipUp = true ∧
    (dark.pwr.lshipUp = false ∧ (dark.at_ 0).rb Reg.BKP_STAT.ON_VBAK = false ∧
      (((dark.at_ 0).wf Reg.BKP_STAT.ON_VBAK 1).bump Reg.BKP_SWO_CNT.COUNT).rb Reg.BKP_STAT.SWO = false) ∧
    (∀ mv ∈ [2199, 2200, 2299, 2300],
      (bk [] fun b => { b with vbakLow := 2, vbakHigh := 2 }).pwr.lshipUp = true ∧
      ((bk [] fun b => { b with vbakLow := 2, vbakHigh := 2 }).at_ 0).bkp.vbakNext ≤ ((bk [] fun b => { b with vbakLow := 2, vbakHigh := 2 }).at_ 0).tim.now ∧
      2 ≤ ((bk [] fun b => { b with vbakLow := 2, vbakHigh := 2 }).at_ 0).bkp.vbakLow ∧
      2 ≤ ((bk [] fun b => { b with vbakLow := 2, vbakHigh := 2 }).at_ 0).bkp.vbakHigh ∧
      (((bk [] fun b => { b with vbakLow := 2, vbakHigh := 2 }).at_ 0).wf Reg.BKP_VBAK_MV.MV (min mv 4095)).rb Reg.BKP_STAT.VBAK_LOW = false) ∧
    (base.at_ 0).rtcNow.rb Reg.BKP_STAT.OSC_FAIL = false := by and_intros <;> decide +kernel
/-- A witness for `Obligations.BackupRowsTakeEffect`. -/
theorem wit_trimWindow :
    (((bk [(Reg.BKP_TRIM_CTRL.TRIM_SRC, 1)]).at_ 0).rtcNow.rf Reg.BKP_TRIM_CTRL.TRIM_SRC = 1 ∧
      ((bk [(Reg.BKP_TRIM_CTRL.TRIM_SRC, 1)]).at_ 0).rtcNow.bkp.winWatch = false ∧
      (false || (List.replicate 100 327680).length != 100 || ((bk [(Reg.BKP_TRIM_CTRL.TRIM_SRC, 1)]).at_ 0).rtcNow.bkp.winBad ||
        !((bk [(Reg.BKP_TRIM_CTRL.TRIM_SRC, 1)]).at_ 0).rtcNow.pwr.lshipUp) = false ∧
      ((bk [(Reg.BKP_TRIM_CTRL.TRIM_SRC, 1)]).at_ 0).rtcNow.fresh.2.fresh.2.trimReason false false (trimMeasured 32768000)
        (trimSpread (List.replicate 100 327680)) = 0 ∧
      (trimMeasured 32768000).natAbs ≤ 65535) := by and_intros <;> decide +kernel
/-- A witness for `Obligations.BackupRowsTakeEffect`. -/
theorem wit_powerOnPulse :
    (((bk [] fun b => { b with pulseEnd := 1 }).at_ 0).bkp.pulseEnd ≠ 0 ∧
      ((bk [] fun b => { b with pulseEnd := 1 }).at_ 0).bkp.pulseEnd ≤ ((bk [] fun b => { b with pulseEnd := 1 }).at_ 0).tim.now + 1) ∧
    (∀ p ∈ [0, 1], ((bk [(Reg.BKP_PWRON_STAT.PENDING, p)] fun b => { b with holdEnd := 1 }).at_ 0).bkp.holdEnd ≠ 0 ∧
      ((bk [(Reg.BKP_PWRON_STAT.PENDING, p)] fun b => { b with holdEnd := 1 }).at_ 0).bkp.holdEnd ≤
        ((bk [(Reg.BKP_PWRON_STAT.PENDING, p)] fun b => { b with holdEnd := 1 }).at_ 0).tim.now + 1 ∧
      (((bk [(Reg.BKP_PWRON_STAT.PENDING, p)] fun b => { b with holdEnd := 1 }).at_ 0).onBkp fun b => { b with holdEnd := 0 }).rf
        Reg.BKP_PWRON_STAT.PENDING = p) := by and_intros <;> decide +kernel

def isNext (o : Host.Outcome State Fault Refusal) : Bool := match o with | .next _ => true | _ => false
theorem isNext_next {o : Host.Outcome State Fault Refusal} (h : isNext o = true) : ∃ u, o = .next u := by
  cases o <;> first | exact ⟨_, rfl⟩ | cases h
/-- NOP of the admin ring of PF0, and the module with it in front of its queue. -/
def nop : Instr := .nop 0 (cmd 0)
def waiting (c : Instr) (s : State) : State := { s with pending := [c] }
/-- A witness for `Obligations.StepRunsFrontCommand`, `Obligations.EveryStepTakesOneCommand`, `Obligations.EmptyQueueIdles`, `Obligations.StepKeepsTablesCanonical`. -/
theorem wit_steps : (waiting nop base).pending = nop :: [] ∧ State.reset.pending = [] ∧ Canonical (waiting nop base) ∧
    ∃ u, step (waiting nop base) = .next u :=
  ⟨by decide +kernel, by decide +kernel, by unfold Canonical; decide +kernel, isNext_next (by decide +kernel)⟩
/-- A witness for `Obligations.CommandsLeaveOtherPartsAlone`, `Obligations.CommandsLeaveRegistersAlone`. -/
theorem wit_frames :
    ((∃ u, exec nop (given (cmd 0) base) = .next u) ∧ Part.fabric ∈ leavesAlone nop) ∧
    (leavesRegisters (.vectorCoalesceExpire 0 0) = true ∧ (∃ u, exec (.vectorCoalesceExpire 0 0) base = .next u) ∧ closingReg 0x20004 = false) :=
  ⟨⟨isNext_next (by decide +kernel), by decide +kernel⟩, by decide +kernel, isNext_next (by decide +kernel), by decide +kernel⟩
theorem base_stores_nothing (a : Nat) : ¬ (given (cmd 4 [] 64) base).mayStore a := by
  have h1 : (given (cmd 4 [] 64) base).hif.rings = [] := by decide +kernel
  have h2 : (given (cmd 4 [] 64) base).ldg.view = none := by decide +kernel
  have h3 : (given (cmd 4 [] 64) base).hif.posted = [] := by decide +kernel
  have h4 : (given (cmd 4 [] 64) base).hif.outBuf = [] := by decide +kernel
  unfold State.mayStore
  rw [h1, h2, h3, h4]
  simp
/-- RING_QUERY writes its buffer of 64 bytes at 0 and no other byte. -/
theorem wit_stores :
    (storesInPlace nop = true ∧ (∃ u, exec nop (given (cmd 4 [] 64) base) = .next u) ∧ ¬ (given (cmd 4 [] 64) base).mayStore 5) ∧
    (readsToBuffer (.ringQuery 0 (cmd 4 [] 64)) = true ∧ (∃ h, hostCmd (.ringQuery 0 (cmd 4 [] 64)) = some h ∧ h.c = cmd 4 [] 64 ∧
      (64 < h.c.buf ∨ h.c.buf + h.c.bufLen ≤ 64)) ∧ (∃ u, exec (.ringQuery 0 (cmd 4 [] 64)) (given (cmd 4 [] 64) base) = .next u) ∧
      ¬ (given (cmd 4 [] 64) base).mayStore 64) :=
  ⟨⟨by decide +kernel, isNext_next (by decide +kernel), base_stores_nothing 5⟩, by decide +kernel,
    ⟨_, rfl, rfl, by decide +kernel⟩, isNext_next (by decide +kernel), base_stores_nothing 64⟩
def hostNop : HostCmd := { t := 0, c := cmd 0, spec := specNop (cmd 0), body := bodyNop (cmd 0) }
def hostRead (c : Cmd) : HostCmd := { t := 0, c := c, spec := specPntRead c, body := bodyPntRead c }
def hostConfig (c : Cmd) : HostCmd :=
  { t := 0, c := c, spec := specPntConfig c, body := bodyPntConfig c, waits := State.pointWaits (tagIdx (c.bw 0))
    pre := State.turn 0 (tagIdx (c.bw 0)) }
def queued : State := base.onPts fun p => { p with queues := [(0, [⟨0, 0, 0, true, 0, 0, 0, 0, 0⟩])] }
/-- A witness for `Obligations.CommandOutOfTurnHasNoEffect`. -/
theorem wit_commandsOutOfTurn :
    (hostCmd nop = some hostNop ∧ (base.at_ hostNop.t).dispatchable (hostNop.spec (base.at_ hostNop.t)) hostNop.c = none) ∧
    (hostCmd (.pntConfig 0 (cmd 0x10)) = some (hostConfig (cmd 0x10)) ∧ (hostConfig (cmd 0x10)).waits queued = true) :=
  ⟨⟨rfl, by decide +kernel⟩, rfl, by decide +kernel⟩
/-- A witness for `Obligations.RefusedCommandCompletes`. -/
theorem wit_refusedCommands :
    hostCmd (.pntRead 0 (cmd 0x13)) = some (hostRead (cmd 0x13)) ∧ (hostRead (cmd 0x13)).waits (given (cmd 0x13) base) = false ∧
    ((given (cmd 0x13) base).at_ 0).dispatchable (specPntRead (cmd 0x13) ((given (cmd 0x13) base).at_ 0)) (cmd 0x13) = some (entry (cmd 0x13)) ∧
    (((given (cmd 0x13) base).at_ 0).preCheck (specPntRead (cmd 0x13) ((given (cmd 0x13) base).at_ 0)) (cmd 0x13)).1 = some ⟨5, 0x38, 128⟩ :=
  ⟨rfl, by decide +kernel, by decide +kernel, by decide +kernel⟩
/-- PF1's ring 5. -/
def ring5 : State := ringIn 5 [(Ring.FUNC, 1), (Ring.VALID, 1)] base
def cmd5 (op : Nat) : Cmd := { cmd op with ring := 5 }
def spTwin : Spec := { op := 0x10, twins := [16] }
def spFault : Spec := { op := 0x10, fault := some ⟨5, 8, 0⟩ }
def spNeed (n : Nat) : Spec := { op := 0x10, need := n, bfault := some 4 }
/-- A witness for `Obligations.DescriptorChecksInOrder`. -/
theorem wit_descriptorChecks :
    opInfo 0xFF = none ∧
    (∃ o, opInfo 0x0A = some o ∧ o.adm = true ∧ 130 ≤ 130) ∧
    (∃ o, opInfo 0x09 = some o ∧ (o.adm = true → 5 < 130) ∧ secureFn (fget Ring.FUNC (ring5.ring 5)) = false ∧ o.sec = true) ∧
    (∃ o, opInfo 0x10 = some o ∧ (o.adm = true → 0 < 130) ∧ secureFn (fget Ring.FUNC (base.ring 0)) = true ∧
      (∀ a n, base.hostDenied true a n = none) ∧
      State.reset.ready o.bit = false ∧ base.ready o.bit = true ∧
      spTwin.notReady = false ∧ (spTwin.twins.find? fun k => !twinOk ((cmd 0x10).w k) ((cmd 0x10).w (k + 4))) = some 16 ∧
      spFault.btwins = [] ∧ (∀ k ∈ spFault.twins, twinOk ((cmd 0x10).w k) ((cmd 0x10).w (k + 4)) = true) ∧ spFault.fault = some ⟨5, 8, 0⟩ ∧
      (spNeed 64).fault = none ∧ (cmd 0x10).bufLen < (spNeed 64).need ∧
      (spNeed 0).need ≤ (cmd 0x10).bufLen ∧ (cmd 0x10).dmaErr = false) := by
  have hd : ∀ a n, base.hostDenied true a n = none := by
    intro a n
    have h : base.hregs = [] := by decide +kernel
    unfold State.hostDenied
    rw [h]; rfl
  refine ⟨by decide +kernel, ⟨_, rfl, by decide +kernel, by decide⟩, ⟨_, rfl, by decide +kernel, by decide +kernel, by decide +kernel⟩,
    ⟨_, rfl, by decide +kernel, by decide +kernel, hd, ?_⟩⟩
  and_intros <;> decide +kernel
/-- A witness for `Obligations.NonSecureRequestersAreContained`. -/
theorem wit_nonSecureRequesters :
    (∃ h o, hostCmd (.cfgCommit 0 (cmd5 0x09)) = some h ∧ h.waits (given (cmd5 0x09) ring5) = false ∧
      ((given (cmd5 0x09) ring5).at_ h.t).dispatchable (h.spec ((given (cmd5 0x09) ring5).at_ h.t)) h.c = some (entry (cmd5 0x09)) ∧
      opInfo (h.spec ((given (cmd5 0x09) ring5).at_ h.t)).op = some o ∧ o.sec = true ∧
      secureFn (fget Ring.FUNC ((given (cmd5 0x09) ring5).ring h.c.ring)) = false ∧
      ∃ u, exec (.cfgCommit 0 (cmd5 0x09)) (given (cmd5 0x09) ring5) = .next u) ∧
    (∃ r, secureFn 1 = false ∧ (base.at_ 0).mayAccess 1 = true ∧ regAddr 1 0xA0010 = some 0xA0010 ∧ findReg 0xA0010 = some r ∧
      (base.at_ 0).regServed 0xA0010 = true ∧ ∀ f ∈ r.fields, (base.at_ 0).blockSecure (fieldBlock 0xA0010 f.lo) = true) :=
  ⟨⟨_, _, rfl, by decide +kernel, by decide +kernel, rfl, by decide +kernel, by decide +kernel, isNext_next (by decide +kernel)⟩,
    ⟨_, by decide +kernel, by decide +kernel, rfl, rfl, by decide +kernel, by decide +kernel⟩⟩
/-- A command ring 200 whose completions go to ring 201, of 64 entries at 0x100000. -/
def cplS (l : List (Fld × Nat) := []) : State :=
  ringIn 201 ([(Ring.VALID, 1), (Ring.TYPE, 1), (Ring.BASE, 0x100000), (Ring.LOG2N, 6)] ++ l)
    (ringIn 200 [(Ring.VALID, 1), (Ring.CPL_RING, 201)] base)
/-- A witness for `Obligations.CompletionTakesTheNextSlot`, `Obligations.StoppedRingsTakeNoCompletion`. -/
theorem wit_completions :
    (Canonical (cplS [(Ring.PROD, 63)]) ∧ fget Ring.CPL_RING ((cplS [(Ring.PROD, 63)]).ring 200) = 201 ∧ (201 : Nat) ≠ 200 ∧
      isRing ((cplS [(Ring.PROD, 63)]).ring 201) 1 = true ∧ ringRuns ((cplS [(Ring.PROD, 63)]).ring 201) = true) ∧
    (isRing ((cplS [(Ring.QUENCHED, 1)]).ring 201) 1 = true ∧ fbit Ring.QUENCHED ((cplS [(Ring.QUENCHED, 1)]).ring 201) = true ∧
      fbit Ring.FAULT ((cplS [(Ring.QUENCHED, 1)]).ring 201) = false) ∧
    (isRing ((cplS [(Ring.FAULT, 1)]).ring 201) 1 = true ∧ fbit Ring.FAULT ((cplS [(Ring.FAULT, 1)]).ring 201) = true) := by
  unfold Canonical; and_intros <;> decide +kernel
/-- A witness for `Obligations.WritesReadBack`. -/
theorem wit_writesReadBack :
    Canonical base ∧ (0 : Nat) < 1 ∧ (99 < 100 ∨ 100 + 4 ≤ 99) ∧ Reg.ALM_SHELVE_MAX.SHELVE_MAX_S.lo + Reg.ALM_SHELVE_MAX.SHELVE_MAX_S.w ≤ 32 ∧
    Reg.WLD_LOCK.LOCK.off ≠ Reg.ALM_SHELVE_MAX.SHELVE_MAX_S.off ∧ holdsTwin 0x11400 = true := by
  unfold Canonical; and_intros <;> decide +kernel
/-- A witness for `Obligations.RejectedWritesChangeNothing`. -/
theorem wit_rejectedWrites :
    (Canonical base ∧ ∃ r, findReg 0x20004 = some r ∧ rejectCnt 0x20004 = some Reg.ALM_RANGE_REJECT_CNT.COUNT ∧
      ¬ (0x11400 ≤ 0x20004 ∧ 0x20004 < 0x11800) ∧ (0x20004 : Nat) ≠ 0x40000 ∧ secureFn 0 = true ∧ (∀ d ∈ r.fields, base.keptNow 0 0x20004 d = false) ∧
      regMask r (fun d => writable 0 0x20004 d && (d.acc == .rw || d.acc == .tw)) = 0x1FFFF ∧
      base.regBad 0x20004 (maskInto 0x1FFFF 0 (base.rd 0x20004)).toNat = true ∧
      base.regBad 0x20004 (maskInto 0x1FFFF 86401 (base.rd 0x20004)).toNat = true) ∧
    (∃ r, secureFn 0 = true ∧ ((base.wf Reg.WLD_LOCK.LOCK 1).at_ 0).mayAccess 0 = true ∧ regAddr 0 0x11400 = some 0x11400 ∧
      findReg 0x11400 = some r ∧ 0x11400 >>> 16 ≠ 10 ∧ ((base.wf Reg.WLD_LOCK.LOCK 1).at_ 0).rb Reg.WLD_LOCK.LOCK = true ∧ ∀ f ∈ r.fields, f.lk = true) := by
  refine ⟨⟨by unfold Canonical; and_intros <;> decide +kernel, _, rfl, ?_⟩, ⟨_, ?_, ?_, ?_, rfl, ?_, ?_, ?_⟩⟩
  · and_intros <;> decide +kernel
  all_goals decide +kernel
/-- A witness for `Obligations.ShelveMaxOutOfRangeIsNotApplied`. -/
theorem wit_shelveMax :
    Canonical base ∧ secureFn 0 = true ∧ (∃ r, WriteReaches 0 0x20004 0x20004 r (base.at_ 0)) ∧ (base.at_ 0).ready 10 = true ∧
    0 % 2 ^ 17 = 0 ∧ 86400 < 86401 % 2 ^ 17 :=
  ⟨by unfold Canonical; and_intros <;> decide +kernel, by decide +kernel,
    (reaches_writes (twin := false) (by decide +kernel)).imp fun _ h => h.1, by decide +kernel, by decide, by decide⟩
/-- A witness for `Obligations.ReservedOffsetsReadZero`. -/
theorem wit_reservedOffsets :
    (base.at_ 0).mayAccess 0 = true ∧ ∀ off ∈ [0x200FC, 0x1F0000, 0x0FFFC], off % 4 = 0 ∧ ∀ o, regAddr 0 off = some o → findReg o = none := by
  refine ⟨by decide +kernel, fun off h => ?_⟩
  have : ∀ off ∈ [0x200FC, 0x1F0000, 0x0FFFC], off % 4 = 0 ∧ findReg off = none := by decide +kernel
  refine ⟨(this off h).1, fun o ho => ?_⟩
  cases ho
  exact (this off h).2
/-- A witness for `Obligations.DoorbellReadsShowTheCounts`. -/
theorem wit_doorbells : base.pwr.mainUp = true ∧ ∀ t ∈ [0, 1, 2, 3, 4], fbit Ring.VALID ((ring200 t).ring 200) = true ∧
    fget Ring.FUNC ((ring200 t).ring 200) = 0 ∧ fget Ring.TYPE ((ring200 t).ring 200) = t ∧ (ring200 t).pwr.mainUp = true := by
  and_intros <;> decide +kernel
/-- A bin set whose edge `k` is `k`. -/
def bins : Rec 64 := BitVec.ofNat 512 (put ((List.range 15).map fun k =>
  (32 * (k + 1), [0x3F800000, 0x40000000, 0x40400000, 0x40800000, 0x40A00000, 0x40C00000, 0x40E00000, 0x41000000, 0x41100000, 0x41200000,
    0x41300000, 0x41400000, 0x41500000, 0x41600000, 0x41700000].getD k 0)))
/-- A witness for `Obligations.LedgerBinsFollowTheEdges`. -/
theorem wit_bins :
    (∀ j ≤ 15, ∀ k ≤ 15, 1 ≤ j → j ≤ k → ratLe (edgeOf 0 bins j) (edgeOf 0 bins k) = true) ∧
    ratLe (edgeOf 0 bins 1) (fratio f32 0) = false ∧
    (ratLe (edgeOf 0 bins 1) (fratio f32 0x3F800000) = true ∧ ratLe (edgeOf 0 bins 2) (fratio f32 0x3F800000) = false) ∧
    (ratLe (edgeOf 0 bins 14) (fratio f32 0x41600000) = true ∧ ratLe (edgeOf 0 bins 15) (fratio f32 0x41600000) = false) ∧
    ratLe (edgeOf 0 bins 15) (fratio f32 0x41700000) = true := by and_intros <;> decide +kernel
/-- A witness for `Obligations.SectionOutputRoundsHalvesUp`. -/
theorem wit_sectionOutput : (runSecs none 0 0 0 false 0).y = 0 ∧ -32768 < (runSecs none 0 0 0 false 0).y ∧ (runSecs none 0 0 0 false 0).y < 32767 := by
  and_intros <;> decide +kernel
/-- A witness for `Obligations.UnconfiguredPointsDropUpdates`. -/
theorem wit_unconfiguredPoints :
    tget [] (queued.at_ 0).pts.queues 0 = ⟨0, 0, 0, true, 0, 0, 0, 0, 0⟩ :: [] ∧ (queued.at_ 0).runs 12 = true ∧
    (queued.at_ 0).stageFull = false ∧ (((queued.at_ 0).tilePop 0).minuteFirst 0).kind 0 = kNone ∧ tget [] (queued.at_ 0).pts.waiting 0 = [] ∧
    (((queued.onAlm fun x => { x with minAt := [(0, 2 ^ 64)] }).at_ 0).tilePop 0).minuteDue 0 = none := by and_intros <;> decide +kernel

end Sys2Proof.Tests
end

section
/-! PROOFS. A point without a kind (R35): the record it has after reset, and what an update addressed to it leaves. -/

namespace Sys2Proof.Machine

/-! The factory record. -/

theorem reset_pt (i : Nat) : State.reset.pt i = Pt.factory := rfl

theorem factory_ctrl : fget Pt.CTRL Pt.factory = 7 := by decide +kernel

theorem factory_ctrlN : fget Pt.CTRL_N Pt.factory = 0xFFFFFFF8 := by decide +kernel

theorem factory_kind : fget Pt.KIND Pt.factory = kNone := by decide +kernel

/-- The bytes between CTRL_N and CFG_CRC. -/
theorem factory_config_zero : Pt.factory.toNat / 2 ^ 64 % 2 ^ 416 = 0 := by decide +kernel

theorem factory_cfgCrc : fget Pt.CFG_CRC Pt.factory = crc32c 0 60 (fget Pt.CFG Pt.factory) := by decide +kernel

/-! The point records under the parts of an update's turn. -/

variable (s : State)

theorem State.busyUs_pts (f : RFld) (n : Nat) : (s.busyUs f n).pts = s.pts := State.busyUs_kept.pts rfl

/-- The passing of time moves only the instant since when a tile's queue is full. -/
theorem State.at_pts_rec (t : Nat) : (s.at_ t).pts.rec_ = s.pts.rec_ := by
  simp [State.at_, State.busyUs_pts]

theorem State.tilePop_pts_rec (k : Nat) : (s.tilePop k).pts.rec_ = s.pts.rec_ := by
  unfold State.tilePop
  split <;> rfl

/-- With nothing waiting before a tile's queue, only the first update goes. -/
theorem State.tilePop_queues {k : Nat} {u : Upd} {q : List Upd} (hq : tget [] s.pts.queues k = u :: q)
    (hw : tget [] s.pts.waiting k = []) : (s.tilePop k).pts.queues = tset [] s.pts.queues k q := by
  simp [State.tilePop, hq, hw]

/-- Credit given back belongs to the ports, not to the points. -/
theorem State.tileRoom_pts_rec : s.tileRoom.pts.rec_ = s.pts.rec_ := by
  have coins (l : List (Nat × Nat × List Nat)) : Kept 128 s (l.foldl
      (fun s o => if s.rb (Reg.FAB_PORT.MODE o.1) then s else s.freeCoins o.1 4 o.2.1) s) := by
    refine Kept.fold (fun v o hv => ?_) (Kept.refl _ s)
    split
    · exact hv
    · exact State.freeCoins_kept.step hv rfl
  change (List.foldl _ s _).pts.rec_ = s.pts.rec_
  rw [(coins _).pts rfl]

theorem State.minuteFirst_of_none {tile : Nat} (h : s.minuteDue tile = none) : s.minuteFirst tile = s := by
  simp [State.minuteFirst, h]

/-! The update itself. -/

theorem State.condsLost_nil (i : Nat) : s.condsLost i [] = [] := rfl

theorem State.condsRead_nil (i t : Nat) (img : Bool) : s.condsRead i t [] img = s := rfl

theorem State.condsWait_nil (on : Bool) : s.condsWait [] on = s := rfl

variable {s}

theorem State.takeUpdate_of_none {u : Upd} (h : s.kind u.idx = kNone) :
    s.takeUpdate u = s.bump Reg.PNT_UNCONF_DROP_CNT.COUNT := by
  simp [State.takeUpdate, h]

/-- With the alarm function running and room in the sector stage, a tile takes the first update of its queue, after a sweep that is due
(R31, R128, R176). -/
theorem exec_pointUpdateApply_takes {t tile : Nat} {upset : List (Nat × Nat)} {img : Bool} {b : State} {u : Upd} {q : List Upd}
    (hq : tget [] (s.at_ t).pts.queues tile = u :: q) (hr : (s.at_ t).runs 12 = true) (hf : (s.at_ t).stageFull = false)
    (hb : b = ((s.at_ t).tilePop tile).minuteFirst tile) :
    Ends (exec (.pointUpdateApply t tile upset img) s)
      (((((b.condsRead u.idx u.tSrc upset img).condsWait (b.condsLost u.idx upset) true).takeUpdate u).condsWait
        (b.condsLost u.idx upset) false).tileRoom) := by
  subst hb
  change execPointUpdateApply t tile upset img s = State.done _
  simp [execPointUpdateApply, hq, hr, hf]

/-- An update of a point without a kind, no condition record upset, ends as a count and nothing else of the point's. -/
theorem exec_pointUpdateApply_none {t tile : Nat} {img : Bool} {c : State} {u : Upd} {q : List Upd}
    (hq : tget [] (s.at_ t).pts.queues tile = u :: q) (hr : (s.at_ t).runs 12 = true) (hf : (s.at_ t).stageFull = false)
    (hc : c = ((s.at_ t).tilePop tile).minuteFirst tile) (hk : c.kind u.idx = kNone) :
    Ends (exec (.pointUpdateApply t tile [] img) s) (c.bump Reg.PNT_UNCONF_DROP_CNT.COUNT).tileRoom := by
  have h := exec_pointUpdateApply_takes (upset := []) (img := img) hq hr hf hc
  rwa [State.condsLost_nil, State.condsRead_nil, State.condsWait_nil, State.condsWait_nil, State.takeUpdate_of_none hk] at h

/-- Settles O24: the factory record is one constant, and an update of a NONE point reaches the counter's branch of
`State.takeUpdate`, before anything that writes a record. -/
theorem unconfiguredPointsDropUpdates : Obligations.UnconfiguredPointsDropUpdates := by
  refine ⟨fun i => ?_, fun t tile img s a b c u q ha hq hr hf hb hc hk => ?_⟩
  · rw [State.kind, reset_pt]
    exact ⟨factory_ctrl, factory_ctrlN, factory_kind, factory_config_zero, factory_cfgCrc⟩
  · subst ha hb
    refine ⟨exec_pointUpdateApply_none hq hr hf hc hk, ?_, ?_, fun hw => State.tilePop_queues _ hq hw, fun hm => ?_⟩
    · rw [State.tileRoom_pts_rec, State.bump_pts]
    · rw [State.tilePop_pts_rec, State.at_pts_rec]
    · rw [hc, State.minuteFirst_of_none _ hm]

end Sys2Proof.Machine
end

section
/-! PROOFS. A register write that reaches its register, and its rejection (R26, R27, R583, R585, R791). -/

namespace Sys2Proof.Machine

/-- What a write puts under its mask reads back in every field that the mask covers. -/
theorem bits_maskInto_of_covered {m lo n : Nat} (v : Nat) (w : Word) (hn : lo + n ≤ 32) (hm : ∀ i < n, m.testBit (lo + i) = true) :
    bits (maskInto m v w).toNat lo n = bits v lo n := by
  apply Nat.eq_of_testBit_eq
  intro i
  by_cases hi : i < n
  · have hw : (maskInto m v w).toNat.testBit (lo + i) = v.testBit (lo + i) := by
      have hfull : 0xFFFFFFFF - m % 2 ^ 32 = 2 ^ 32 - (m % 2 ^ 32 + 1) := by omega
      have hold : (0xFFFFFFFF - m % 2 ^ 32).testBit (lo + i) = false := by
        rw [hfull, Nat.testBit_two_pow_sub_succ (Nat.mod_lt _ (by decide)), Nat.testBit_mod_two_pow, hm i hi]
        simp
      have hlt : lo + i < 32 := by omega
      rw [maskInto, BitVec.toNat_ofNat, Nat.testBit_mod_two_pow, Nat.testBit_or, Nat.testBit_and, Nat.testBit_and, hold, hm i hi]
      simp [hlt]
    simp [bits, Nat.testBit_mod_two_pow, Nat.testBit_shiftRight, hw]
  · simp [bits, Nat.testBit_mod_two_pow, hi]

theorem bits_mod_two_pow {v k lo n : Nat} (h : lo + n ≤ k) : bits (v % 2 ^ k) lo n = bits v lo n := by
  apply Nat.eq_of_testBit_eq
  intro i
  simp only [bits, Nat.testBit_mod_two_pow, Nat.testBit_shiftRight]
  by_cases hi : i < n
  · simp [hi, show lo + i < k by omega]
  · simp [hi]

theorem outside_eq_true {lo hi x : Nat} : outside lo hi x = true ↔ x < lo ∨ hi < x := by
  simp [outside]

/-- Below the pages of the functions a write reaches the fields that their access code lets software write (R27). -/
theorem writable_eq {off : Nat} (h : off < 0x190000) (req : Nat) (f : FieldDef) :
    writable req off f = (f.acc == .rw || f.acc == .tw || f.acc == .wo || f.acc == .w1c) := by
  simp [writable, Nat.not_le.mpr h]

/-- The secure world is kept from no field by a block's world (R585). -/
theorem State.keptNs_of_secureFn {req : Nat} (h : secureFn req = true) (s : State) (off : Nat) (f : FieldDef) :
    s.keptNs req off f = false := by
  simp [State.keptNs, h]

/-- With the lock open and the stored configuration there, no field is kept from a write (R583, R791). -/
theorem State.keptNow_of_open {s : State} (hl : s.rb Reg.WLD_LOCK.LOCK = false) (hr : s.ready 10 = true) (req off : Nat) (f : FieldDef) :
    s.keptNow req off f = false := by
  simp [State.keptNow, hl, hr]

/-- A 32-bit write that reaches a register without twin fields is one word for its fields. -/
theorem State.regWrite_of_reaches {a : State} {req off o : Nat} {r : RegDef} (h : WriteReaches req off o r a)
    (ht : TwinTaken req o r = false) (v : Nat) : a.regWrite req off 4 v = a.regCommit req o (v % 2 ^ 32) := by
  obtain ⟨hacc, halign, haddr, hreg, hserved, hreq, hopen, hsome, hlock⟩ := h
  have hone : accesses off 4 = [off] := by simp [accesses, halign]
  have hw (w : Nat) : a.regWrite1 req off w = a.regCommit req o w := by
    rw [TwinTaken] at ht
    simp only [State.regWrite1, haddr, hreg, hserved, beq_false_of_ne hreq, hopen, hsome, hlock, ht, Bool.not_true, Bool.or_false,
      Bool.false_eq_true, if_false]
  simp [State.regWrite, hacc, hone, hw]

theorem exec_registerWrite_of_reaches {t req off o : Nat} {r : RegDef} {s : State} (h : WriteReaches req off o r (s.at_ t))
    (ht : TwinTaken req o r = false) (v : Nat) :
    Ends (exec (.registerWrite t req off 4 v) s) ((s.at_ t).regCommit req o (v % 2 ^ 32)) := by
  change execRegisterWrite t req off 4 v s = State.done _
  rw [execRegisterWrite, State.regWrite_of_reaches h ht]

/-- Where no field is kept from the requester and the word made of the register breaks a rule of its block, the write is not applied. -/
theorem State.regCommit_of_bad {s : State} {req off v m : Nat} {r : RegDef} (hreg : findReg off = some r) (hoff : off ≠ 0x40000)
    (hs : secureFn req = true) (hk : ∀ f ∈ r.fields, s.keptNow req off f = false)
    (hm : regMask r (fun f => writable req off f && (f.acc == .rw || f.acc == .tw)) = m) (h0 : m ≠ 0)
    (hbad : s.regBad off (maskInto m v (s.rd off)).toNat = true) : s.regCommit req off v = s.writeReject off := by
  have hfree : regMask r (fun f => writable req off f && !s.keptNow req off f && (f.acc == .rw || f.acc == .tw)) = m := by
    rw [← hm, regMask, regMask]
    congr 1
    exact List.filter_congr fun f hf => by rw [hk f hf]; simp
  have hdenied : r.fields.filter (fun _ => false) = [] := List.filter_eq_nil_iff.mpr fun _ _ => Bool.false_ne_true
  simp only [State.regCommit, hreg, State.keptNs_of_secureFn hs, Bool.and_false, Bool.false_and, hdenied, Bool.not_false, Bool.and_true,
    beq_false_of_ne hoff, Bool.false_eq_true, if_false, hfree, bne_iff_ne.mpr h0, hbad, Bool.true_or, if_true]

end Sys2Proof.Machine
end

section
/-! PROOFS. ALM_SHELVE_MAX takes no value outside 1 to 86,400 (R141). -/

namespace Sys2Proof.Machine

/-- ALM_SHELVE_MAX is one field of 17 bits, under the lock. -/
theorem findReg_shelveMax : findReg 0x20004 = some ⟨0x20004, 4, 1, [⟨0, 17, .rw, true, .yes, 28800⟩]⟩ := by decide +kernel

/-- The mask of SHELVE_MAX_S. -/
theorem regMask_shelveMax {r : RegDef} (h : findReg 0x20004 = some r) (req : Nat) :
    regMask r (fun f => writable req 0x20004 f && (f.acc == .rw || f.acc == .tw)) = 2 ^ 17 - 1 := by
  cases findReg_shelveMax.symm.trans h
  simp [regMask, writable_eq, FieldDef.mask]

/-- A write reaches ALM_SHELVE_MAX only with the lock open. -/
theorem lock_of_writeReaches_shelveMax {req : Nat} {r : RegDef} {a : State} (h : WriteReaches req 0x20004 0x20004 r a) :
    a.rb Reg.WLD_LOCK.LOCK = false := by
  obtain ⟨-, -, -, hreg, -, -, -, -, hlock⟩ := h
  cases findReg_shelveMax.symm.trans hreg
  simpa [writable_eq] using hlock

theorem twinTaken_shelveMax {r : RegDef} (h : findReg 0x20004 = some r) (req : Nat) : TwinTaken req 0x20004 r = false := by
  cases findReg_shelveMax.symm.trans h
  simp [TwinTaken, writable_eq]

theorem State.regBad_shelveMax {s : State} {w : Nat} (h : bits w 0 17 = 0 ∨ 86400 < bits w 0 17) : s.regBad 0x20004 w = true := by
  have hout : outside 1 86400 (bits w 0 17) = true := outside_eq_true.mpr (by omega)
  simp [State.regBad, hout]

theorem State.writeReject_shelveMax (s : State) : s.writeReject 0x20004 = s.bump Reg.ALM_RANGE_REJECT_CNT.COUNT := by
  simp [State.writeReject, rejectCnt]

/-- The word made of ALM_SHELVE_MAX is out of range where the value written is, whatever the register held. -/
theorem State.regCommit_shelveMax {s : State} {req v : Nat} {r : RegDef} (hreg : findReg 0x20004 = some r) (hs : secureFn req = true)
    (hl : s.rb Reg.WLD_LOCK.LOCK = false) (hr : s.ready 10 = true) (hv : bits v 0 17 = 0 ∨ 86400 < bits v 0 17) :
    s.regCommit req 0x20004 v = s.bump Reg.ALM_RANGE_REJECT_CNT.COUNT := by
  have hnew : bits (maskInto (2 ^ 17 - 1) v (s.rd 0x20004)).toNat 0 17 = bits v 0 17 :=
    bits_maskInto_of_covered v _ (by decide) fun i hi => by rw [Nat.zero_add, Nat.testBit_two_pow_sub_one]; exact decide_eq_true hi
  rw [← State.writeReject_shelveMax]
  refine State.regCommit_of_bad hreg (by decide) hs (fun f _ => State.keptNow_of_open hl hr req _ f) (regMask_shelveMax hreg req)
    (by decide) (State.regBad_shelveMax ?_)
  rwa [hnew]

/-- Settles O18: the word written is out of range whatever the register held, so `State.regCommit` rejects it, and the count of
rejected writes stands in another word. -/
theorem shelveMaxOutOfRangeIsNotApplied : Obligations.ShelveMaxOutOfRangeIsNotApplied := by
  intro t req v s a r ha hc hs hw hr hv
  subst ha
  obtain ⟨-, hwf, -⟩ := hc
  have hreg : findReg 0x20004 = some r := by
    obtain ⟨-, -, -, hreg, -⟩ := hw
    exact hreg
  have hbits : bits (v % 2 ^ 32) 0 17 = v % 2 ^ 17 := bits_mod_two_pow (by decide)
  refine ⟨_, rfl, ?_, ?_, ?_⟩
  · have hend := exec_registerWrite_of_reaches hw (twinTaken_shelveMax hreg req) v
    rwa [State.regCommit_shelveMax hreg hs (lock_of_writeReaches_shelveMax hw) hr (by rwa [hbits])] at hend
  · rw [State.rf_bump_ne (by decide), State.at_rf _ _ (by decide)]
  · rw [State.rf_bump_self (State.at_wf _ _ hwf) _ _ (by decide), State.at_rf _ _ (by decide)]
    rfl

end Sys2Proof.Machine
end

section
/-! PROOFS. WHOLLY_NORMAL of a sector record as the flags are derived (R151). -/

namespace Sys2Proof.Machine

/-- The Bool put into a flag field is the flag read from it. -/
theorem fbit_fput_b2n {n : Nat} {f : Fld} (b : Bool) (r : BitVec n) (hw : 0 < f.w) (h : f.lo + f.w ≤ n) :
    fbit f (fput f (b2n b) r) = b := by
  rw [fbit, fget_fput_self _ _ _ h]
  cases b <;> simp [b2n, Nat.one_mod_two_pow_eq_one.mpr hw]

theorem fbit_fput_ne {n : Nat} (g f : Fld) (v : Nat) (r : BitVec n) (h : g.lo + g.w ≤ f.lo ∨ f.lo + f.w ≤ g.lo) :
    fbit g (fput f v r) = fbit g r := by
  rw [fbit, fbit, fget_fput_ne _ _ _ _ h]

/-- 7 stands for no priority: every priority that `topOf` finds is below 4. -/
theorem topOf_eq_seven_iff {f : Nat → Fld} {r : Rec 128} : topOf f r = 7 ↔ ∀ k, k < 4 → fget (f k) r = 0 := by
  rw [topOf]
  cases hf : (List.range 4).find? fun k => fget (f k) r != 0 with
  | none => simpa using hf
  | some k =>
    have hk : k < 4 := List.mem_range.mp (List.mem_of_find?_eq_some hf)
    have hpos : fget (f k) r ≠ 0 := by simpa using List.find?_some hf
    exact iff_of_false (by simp only [Option.getD_some]; omega) fun h => hpos (h k hk)

/-- WHOLLY_NORMAL is put after every other flag but FO_ARMED, from the counts of the record as it came. -/
theorem fbit_wholly_flags (flood : Bool) (r : Rec 128) : fbit Sect.WHOLLY_NORMAL (Sect.flags flood r) =
    (topOf Sect.ACT r == 7 && topOf Sect.UNACK r == 7 && fget Sect.CNT_HELD r == 0) := by
  simp only [Sect.flags]
  split
  case isTrue => rw [fbit_fput_ne _ Sect.FO_ARMED _ _ (by decide), fbit_fput_b2n _ _ (by decide) (by decide)]
  case isFalse => exact fbit_fput_b2n _ _ (by decide) (by decide)

/-- Settles O23: a sector has no top priority in ACT or UNACK exactly when all four of those counts are zero. -/
theorem whollyNormalFollowsTheCounts : Obligations.WhollyNormalFollowsTheCounts := by
  intro flood r
  simp only [fbit_wholly_flags, Bool.and_eq_true, beq_iff_eq, topOf_eq_seven_iff, forall_and]

end Sys2Proof.Machine
end

section
/-! PROOFS. The output of a section is rounded with halves upward, then saturated (R245). -/

namespace Sys2Proof.Machine

/-! A value limited to a range. -/

theorem clampI_cases (x lo hi : Int) :
    x < lo ∧ clampI x lo hi = lo ∨ hi < x ∧ lo ≤ x ∧ clampI x lo hi = hi ∨ lo ≤ x ∧ x ≤ hi ∧ clampI x lo hi = x := by
  rw [clampI]
  split
  next hlo => exact .inl ⟨hlo, rfl⟩
  next hlo =>
    split
    next hhi => exact .inr (.inl ⟨hhi, Int.not_lt.mp hlo, rfl⟩)
    next hhi => exact .inr (.inr ⟨Int.not_lt.mp hlo, Int.not_lt.mp hhi, rfl⟩)

theorem clampI_bounds {lo hi : Int} (h : lo ≤ hi) (x : Int) : lo ≤ clampI x lo hi ∧ clampI x lo hi ≤ hi := by
  have := clampI_cases x lo hi
  omega

/-- Only the lower limit raises a value. -/
theorem clampI_le_of_lo_lt {x lo hi : Int} (h : lo < clampI x lo hi) : clampI x lo hi ≤ x := by
  have := clampI_cases x lo hi
  omega

/-- Only the upper limit lowers a value. -/
theorem le_clampI_of_lt_hi {x lo hi : Int} (h : clampI x lo hi < hi) : x ≤ clampI x lo hi := by
  have := clampI_cases x lo hi
  omega

/-! One half added, then the floor, in units of 2^-15 (R245). -/

theorem le_add_half_ediv_iff {y acc : Int} : y ≤ (acc + 16384) / 32768 ↔ 32768 * y - 16384 ≤ acc := by
  rw [Int.le_ediv_iff_mul_le (by decide)]
  omega

theorem add_half_ediv_le_iff {y acc : Int} : (acc + 16384) / 32768 ≤ y ↔ acc < 32768 * y + 16384 := by
  rw [← Int.lt_add_one_iff, Int.ediv_lt_iff_lt_mul (by decide)]
  omega

/-- R244: the last section's output, outside a transfer evaluation, is its accumulator rounded and saturated. -/
theorem runSecs_last_y (k : Nat) (x : Int) (any : Bool) (r : Rec 512) :
    (runSecs none 0 k x any r).y =
      q15 ((fgetS (Loop.B0 k) r * x * ((2 ^ fget (Loop.SH k) r : Nat) : Int) + fgetS (Loop.S1 k) r + 16384) / 32768) := rfl

/-- Settles O22: short of the lower limit the output is at most the rounded accumulator, and short of the upper limit at least. -/
theorem sectionOutputRoundsHalvesUp : Obligations.SectionOutputRoundsHalvesUp := by
  intro k x acc y any r hacc hy
  rw [runSecs_last_y, ← hacc, q15] at hy
  subst hy
  obtain ⟨hlo, hhi⟩ := clampI_bounds (lo := -32768) (hi := 32767) (by decide) ((acc + 16384) / 32768)
  exact ⟨hlo, hhi, fun h => le_add_half_ediv_iff.mp (clampI_le_of_lo_lt h),
    fun h => add_half_ediv_le_iff.mp (le_clampI_of_lt_hi h)⟩

end Sys2Proof.Machine
end

section
/-! PROOFS. The bin of an evaluated value (R333): the count of the edges at or below it. -/

namespace Sys2Proof.Machine

/-! Exact ratios with a positive denominator, and their order. -/

theorem fratio_den_pos (k : FFmt) (a : Nat) : 0 < (fratio k a).2 := by
  rw [fratio]
  split
  · split
    · exact Nat.one_pos
    · exact Nat.two_pow_pos _
  · exact Nat.one_pos

theorem ratAdd_den_pos {x y : Int × Nat} (hx : 0 < x.2) (hy : 0 < y.2) : 0 < (ratAdd x y).2 := Nat.mul_pos hx hy

theorem ratSub_den_pos {x y : Int × Nat} (hx : 0 < x.2) (hy : 0 < y.2) : 0 < (ratSub x y).2 := Nat.mul_pos hx hy

theorem edgeOf_den_pos (p : Rec 128) (b : Rec 64) (k : Nat) : 0 < (edgeOf p b k).2 := by
  have hspan : 0 < (ratSub (fratio f32 (fget Pt.EU_HI p)) (fratio f32 (fget Pt.EU_LO p))).2 :=
    ratSub_den_pos (fratio_den_pos _ _) (fratio_den_pos _ _)
  rw [edgeOf]
  split
  · exact ratAdd_den_pos (fratio_den_pos _ _) (Nat.mul_pos (fratio_den_pos _ _) hspan)
  · exact fratio_den_pos _ _

/-- The middle denominator is the one that cancels. -/
theorem ratLe_trans {x y z : Int × Nat} (hy : 0 < y.2) (hxy : ratLe x y = true) (hyz : ratLe y z = true) : ratLe x z = true := by
  simp only [ratLe, decide_eq_true_iff] at hxy hyz ⊢
  refine Int.le_of_mul_le_mul_right ?_ (Int.natCast_pos.mpr hy)
  calc x.1 * z.2 * y.2
      = x.1 * y.2 * z.2 := Int.mul_right_comm _ _ _
    _ ≤ y.1 * x.2 * z.2 := Int.mul_le_mul_of_nonneg_right hxy (Int.natCast_nonneg _)
    _ = y.1 * z.2 * x.2 := Int.mul_right_comm _ _ _
    _ ≤ z.1 * y.2 * x.2 := Int.mul_le_mul_of_nonneg_right hyz (Int.natCast_nonneg _)
    _ = z.1 * x.2 * y.2 := Int.mul_right_comm _ _ _

/-! The bin as a count of edges. -/

theorem length_filter_range_lt : ∀ k ≤ 15, ((List.range 15).filter (· < k)).length = k := by decide

/-- With exactly the edges up to `k` at or below the value, the value falls into bin `k`. -/
theorem binOf_eq_of_ratLe_iff {p : Rec 128} {b : Rec 64} {v k : Nat} (hk : k ≤ 15)
    (h : ∀ i, 1 ≤ i → i ≤ 15 → (ratLe (edgeOf p b i) (fratio f32 v) = true ↔ i ≤ k)) : binOf p b v = k := by
  have hfilter : ((List.range 15).filter fun i => ratLe (edgeOf p b (i + 1)) (fratio f32 v)) = (List.range 15).filter (· < k) :=
    List.filter_congr fun i hi =>
      Bool.eq_iff_iff.mpr ((h (i + 1) (Nat.le_add_left 1 i) (List.mem_range.mp hi)).trans decide_eq_true_iff.symm)
  rw [binOf, hfilter, length_filter_range_lt k hk]

section
variable {p : Rec 128} {b : Rec 64} {v : Nat}
  (hmono : ∀ j k, 1 ≤ j → j ≤ k → k ≤ 15 → ratLe (edgeOf p b j) (edgeOf p b k) = true)
include hmono

/-- With rising edges, a value at or above an edge is at or above every edge before it. -/
theorem ratLe_edgeOf_of_le {j k : Nat} (hj : 1 ≤ j) (hjk : j ≤ k) (hk : k ≤ 15)
    (h : ratLe (edgeOf p b k) (fratio f32 v) = true) : ratLe (edgeOf p b j) (fratio f32 v) = true :=
  ratLe_trans (edgeOf_den_pos p b k) (hmono j k hj hjk hk) h

/-- With rising edges, the edges next to a bin decide it: the lower one where there is one, and the upper one where there is one. -/
theorem binOf_eq_of_between {k : Nat} (hk : k ≤ 15) (hlo : 1 ≤ k → ratLe (edgeOf p b k) (fratio f32 v) = true)
    (hhi : k < 15 → ratLe (edgeOf p b (k + 1)) (fratio f32 v) = false) : binOf p b v = k := by
  refine binOf_eq_of_ratLe_iff hk fun i hi hi15 => ⟨fun hle => ?_, fun hik => ?_⟩
  · refine Nat.le_of_not_lt fun hki => ?_
    have hnext := ratLe_edgeOf_of_le hmono (Nat.le_add_left 1 k) hki hi15 hle
    exact Bool.false_ne_true ((hhi (Nat.lt_of_lt_of_le hki hi15)).symm.trans hnext)
  · exact ratLe_edgeOf_of_le hmono hi hik hk (hlo (Nat.le_trans hi hik))

end

/-- Settles O21: each of the three clauses is the case of the edges next to the bin, bin 0 without a lower and bin 15 without an upper
one. -/
theorem ledgerBinsFollowTheEdges : Obligations.LedgerBinsFollowTheEdges := by
  rintro p b v x rfl hmono
  refine ⟨fun hhi => ?_, fun k hk hk14 hlo hhi => ?_, fun hlo => ?_⟩
  · exact binOf_eq_of_between hmono (Nat.zero_le 15) (fun h => absurd h (by decide)) fun _ => hhi
  · exact binOf_eq_of_between hmono (Nat.le_succ_of_le hk14) (fun _ => hlo) fun _ => hhi
  · exact binOf_eq_of_between hmono (Nat.le_refl 15) (fun _ => hlo) fun h => absurd h (Nat.lt_irrefl 15)

end Sys2Proof.Machine
end

section
/-! PROOFS. What a read of a doorbell page returns (R499). -/

namespace Sys2Proof.Machine

theorem fget_lt_two_pow {n : Nat} (f : Fld) (r : BitVec n) : fget f r < 2 ^ f.w := Nat.mod_lt _ (Nat.two_pow_pos _)

/-- The bits of a number that four one-bit values make up, the first value lowest. -/
theorem four_bits_div_two_pow_mod_two {a b c d : Nat} (ha : a < 2) (hb : b < 2) (hc : c < 2) (hd : d < 2) :
    ∀ k, (a + 2 * b + 4 * c + 8 * d) / 2 ^ k % 2 = if k = 0 then a else if k = 1 then b else if k = 2 then c else if k = 3 then d else 0
  | 0 | 1 | 2 | 3 => by simp; omega
  | k + 4 => by
    have hsum : a + 2 * b + 4 * c + 8 * d < 2 ^ (k + 4) :=
      calc a + 2 * b + 4 * c + 8 * d < 2 ^ 4 := by omega
        _ ≤ 2 ^ (k + 4) := Nat.pow_le_pow_right (by decide) (Nat.le_add_left 4 k)
    simp [Nat.div_eq_of_lt hsum]

/-- Inside the page of a VALID ring of the reading function, the offset in the page selects the word. -/
theorem State.doorbellRead_of_owned {s : State} {fn r o : Nat} (hm : s.pwr.mainUp = true) (hv : fbit Ring.VALID (s.ring r) = true)
    (hf : fget Ring.FUNC (s.ring r) = fn) (ho : o < 0x1000) :
    s.doorbellRead fn (0x1000 * r + o) =
      if o = 0 then
        if fget Ring.TYPE (s.ring r) = 1 ∨ fget Ring.TYPE (s.ring r) = 2 then fget Ring.PROD (s.ring r) else fget Ring.CONS (s.ring r)
      else if o = 4 then
        fget Ring.VALID (s.ring r) + 2 * fget Ring.QUENCHED (s.ring r) + 4 * fget Ring.FAULT (s.ring r) + 8 * fget Ring.ARMED (s.ring r)
      else 0 := by
  have hpage : (0x1000 * r + o) / 0x1000 = r := by omega
  have hoff : (0x1000 * r + o) % 0x1000 = o := by omega
  simp [State.doorbellRead, hpage, hoff, hm, hv, hf]

/-- Settles O20: DB_COUNT and DB_ARM are the words at 0 and 4 of the ring's page, and the four flags of DB_ARM are one-bit fields. -/
theorem doorbellReadsShowTheCounts : Obligations.DoorbellReadsShowTheCounts := by
  rintro s fn r c rfl hm hv hf
  have hcount := State.doorbellRead_of_owned hm hv hf (o := 0) (by decide)
  have harm := State.doorbellRead_of_owned hm hv hf (o := 4) (by decide)
  rw [Nat.add_zero, if_pos rfl] at hcount
  rw [if_neg (by decide), if_pos rfl] at harm
  refine ⟨fun ht => ?_, fun ht => ?_, fun k => ?_⟩
  · rw [hcount, if_neg (by omega)]
  · rw [hcount, if_pos ht]
  · rw [harm]
    exact four_bits_div_two_pow_mod_two (fget_lt_two_pow Ring.VALID _) (fget_lt_two_pow Ring.QUENCHED _)
      (fget_lt_two_pow Ring.FAULT _) (fget_lt_two_pow Ring.ARMED _) k

end Sys2Proof.Machine
end

section
/-! PROOFS. Offsets at which no register lies (R786). -/

namespace Sys2Proof.Machine

/-- An aligned 32-bit access is one access (R787). -/
theorem accesses_word {off : Nat} (h : off % 4 = 0) : accesses off 4 = [off] := by
  simp [accesses, h]

/-- An aligned 32-bit read shows what its one access reads. -/
theorem State.regRead_word {s : State} {req off : Nat} (hm : s.mayAccess req = true) (ha : off % 4 = 0) (quiet : Bool) :
    s.regRead req off 4 quiet =
      (s.regRead1 req off quiet).2.onHif fun h => { h with readOut := tset 0 h.readOut req (s.regRead1 req off quiet).1 } := by
  simp [State.regRead, hm, accesses_word ha]

/-- An aligned 32-bit write is its one access, with the low 32 bits of the value. -/
theorem State.regWrite_word {s : State} {req off : Nat} (hm : s.mayAccess req = true) (ha : off % 4 = 0) (v : Nat) :
    s.regWrite req off 4 v = s.regWrite1 req off (v % 2 ^ 32) := by
  simp [State.regWrite, hm, accesses_word ha]

/-- An access outside the requester's page, or with no register at its address in the map, reads zero and leaves the state: it ends
before `State.regOpen` could count a denial. -/
theorem State.regRead1_reserved {req off : Nat} (h : ∀ o, regAddr req off = some o → findReg o = none) (s : State) (quiet : Bool) :
    s.regRead1 req off quiet = (0, s) := by
  cases haddr : regAddr req off with
  | none => simp [State.regRead1, haddr]
  | some o => simp [State.regRead1, haddr, h o haddr]

theorem State.regWrite1_reserved {req off : Nat} (h : ∀ o, regAddr req off = some o → findReg o = none) (s : State) (v : Nat) :
    s.regWrite1 req off v = s := by
  cases haddr : regAddr req off with
  | none => simp [State.regWrite1, haddr]
  | some o => simp [State.regWrite1, haddr, h o haddr]

/-- Settles O19: each command makes one access, and that access ends where it finds no register. -/
theorem reservedOffsetsReadZero : Obligations.ReservedOffsetsReadZero := by
  rintro t req off v quiet s a rfl hm ha hreserved
  constructor
  · change ((s.at_ t).regRead req off 4 quiet).done = State.done _
    rw [State.regRead_word hm ha, State.regRead1_reserved hreserved]
  · change ((s.at_ t).regWrite req off 4 v).done = State.done _
    rw [State.regWrite_word hm ha, State.regWrite1_reserved hreserved]

end Sys2Proof.Machine
end

section
/-! PROOFS. A step: it runs the command at the front of the queue, takes that command alone, and keeps the canonical tables. -/

namespace Sys2Proof.Machine

theorem step_of_pending {s : State} {c : Instr} {rest : List Instr} (h : s.pending = c :: rest) :
    step s = exec c { s with pending := rest } := by
  rw [step, h]

theorem step_idle {s : State} (h : s.pending = []) : step s = .next s := by
  rw [step, h]

/-- Settles O1: it is the queue's case of `step`. -/
theorem stepRunsFrontCommand : Obligations.StepRunsFrontCommand := fun _ _ _ h => step_of_pending h

/-- Settles O2: it is the empty queue's case of `step`. -/
theorem emptyQueueIdles : Obligations.EmptyQueueIdles := fun _ h => step_idle h

/-- Settles O3: `exec_kept` gives the next state, its queue and its time, for every command. -/
theorem everyStepTakesOneCommand : Obligations.EveryStepTakesOneCommand := by
  intro s c rest h
  obtain ⟨u, hu, hk⟩ := exec_kept c { s with pending := rest }
  exact ⟨u, (step_of_pending h).trans hu, hk.pending, hk.now⟩

theorem Kept.canonical {m : Nat} {s u : State} (h : Kept m s u) (hs : Canonical s) : Canonical u := by
  obtain ⟨hmem, hregs, hregsN⟩ := hs
  exact ⟨h.mem hmem, h.cRegs hregs, h.cRegsN hregsN⟩

/-- The one state that `exec` can answer keeps what `exec_kept` says. -/
theorem kept_of_exec {i : Instr} {s u : State} (h : exec i s = .next u) : Kept (touches i) s u := by
  obtain ⟨v, hv, hk⟩ := exec_kept i s
  cases h.symm.trans hv
  exact hk

/-- Settles O4: after reset none of the three tables lists anything. -/
theorem resetIsCanonical : Obligations.ResetIsCanonical := ⟨rfl, rfl, rfl⟩

/-- Settles O5: a step is a command on the rest of the queue, which has the same tables, and every command keeps them canonical. -/
theorem stepKeepsTablesCanonical : Obligations.StepKeepsTablesCanonical := by
  intro s u hs hu
  cases hq : s.pending with
  | nil =>
    cases (step_idle hq).symm.trans hu
    exact hs
  | cons c rest =>
    have hrest : Canonical { s with pending := rest } := hs
    exact (kept_of_exec ((step_of_pending hq).symm.trans hu)).canonical hrest

end Sys2Proof.Machine
end

section
/-! PROOFS. What each command leaves alone: the table of parts checked against the groups that `exec_kept` says it touches. -/

namespace Sys2Proof.Machine

/-- Where `Kept` numbers the part. -/
def Part.bit : Part → Nat
  | .time => 0
  | .registers => 1
  | .complements => 2
  | .hostInterface => 3
  | .worlds => 4
  | .ledger => 5
  | .historian => 6
  | .fabric => 7
  | .points => 8
  | .alarms => 9
  | .sectors => 10
  | .waveforms => 11
  | .loops => 12
  | .localIo => 13
  | .lantern => 14
  | .beacon => 15
  | .backup => 16
  | .images => 17
  | .power => 18
  | .keeper => 19
  | .freeValues => 20

/-- The groups of `m` are clear of the part; of the register words also the words of the closing pass (bit 22). -/
def Part.clear (m : Nat) (p : Part) : Bool := !m.testBit p.bit && (!(p == .registers || p == .complements) || !m.testBit 22)

theorem Kept.part {m : Nat} {s u : State} (h : Kept m s u) {p : Part} (hp : p.clear m = true) : p.same s u := by
  rw [Part.clear, Bool.and_eq_true, Bool.not_eq_true', Bool.or_eq_true, Bool.not_eq_true', Bool.not_eq_true'] at hp
  obtain ⟨hbit, hclosing⟩ := hp
  cases p
  case registers => exact h.regs hbit (hclosing.resolve_left (by decide))
  case complements => exact h.regsN hbit (hclosing.resolve_left (by decide))
  case time => exact h.tim hbit
  case hostInterface => exact h.hif hbit
  case worlds => exact h.wld hbit
  case ledger => exact h.ldg hbit
  case historian => exact h.hst hbit
  case fabric => exact h.fab hbit
  case points => exact h.pts hbit
  case alarms => exact h.alm hbit
  case sectors => exact h.sec hbit
  case waveforms => exact h.cmw hbit
  case loops => exact h.ctl hbit
  case localIo => exact h.lio hbit
  case lantern => exact h.ltn hbit
  case beacon => exact h.bcn hbit
  case backup => exact h.bkp hbit
  case images => exact h.img hbit
  case power => exact h.pwr hbit
  case keeper => exact h.kpr hbit
  case freeValues => exact h.free hbit

/-- No command touches a part that the table says it leaves alone. -/
theorem leavesAlone_clear (i : Instr) : ((leavesAlone i).all fun p => p.clear (touches i)) = true := by
  cases i <;> dsimp only [leavesAlone, touches] <;> decide

/-- Settles O6: the parts of the table lie outside the groups that the command touches. -/
theorem commandsLeaveOtherPartsAlone : Obligations.CommandsLeaveOtherPartsAlone := by
  intro i s u p hu hp
  exact (kept_of_exec hu).part (List.all_eq_true.mp (leavesAlone_clear i) p hp)

/-- A command of `leavesRegisters` writes words of the closing pass only. -/
theorem leavesRegisters_clear (i : Instr) :
    (!leavesRegisters i || (!(touches i).testBit 1 && !(touches i).testBit 2)) = true := by
  cases i <;> dsimp only [leavesRegisters, touches] <;> decide

/-- Settles O7: of the commands of `leavesRegisters` only the closing pass writes register words. -/
theorem commandsLeaveRegistersAlone : Obligations.CommandsLeaveRegistersAlone := by
  intro i s u hi hu off hoff
  have hclear := leavesRegisters_clear i
  rw [hi, Bool.not_true, Bool.false_or, Bool.and_eq_true, Bool.not_eq_true', Bool.not_eq_true'] at hclear
  obtain ⟨hwords, hcomplements⟩ := hclear
  exact ⟨(kept_of_exec hu).rd hwords off hoff, (kept_of_exec hu).rdN hcomplements off hoff⟩

/-- A command of `storesInPlace` stores only where `State.mayStore` says. -/
theorem storesInPlace_clear (i : Instr) : (!storesInPlace i || !(touches i).testBit 23) = true := by
  cases i <;> dsimp only [storesInPlace, touches] <;> decide

/-- Settles O8: the commands of `storesInPlace` are clear of the group that stands for other places of host memory. -/
theorem hostMemoryIsWrittenInPlace : Obligations.HostMemoryIsWrittenInPlace := by
  intro i s u a hi hu ha
  have hclear := storesInPlace_clear i
  rw [hi, Bool.not_true, Bool.false_or, Bool.not_eq_true'] at hclear
  exact (kept_of_exec hu).out hclear a ha

end Sys2Proof.Machine
end

section
/-! PROOFS. Host memory and register fields read as written (R26, R491, R590). -/

namespace Sys2Proof.Machine

theorem State.hostPut_hostByte {s : State} (h : Memory.wf s.hif.mem = true) (addr v : Nat) {n k : Nat} (hk : k < n) :
    (s.hostPut addr n v).hostByte (addr + k) = BitVec.ofNat 8 (v / 256 ^ k) := memPut_at n addr v s.hif.mem k h hk

theorem State.hostPut_hostByte_outside (s : State) {addr n a : Nat} (v : Nat) (h : a < addr ∨ addr + n ≤ a) :
    (s.hostPut addr n v).hostByte a = s.hostByte a := memPut_ne n addr v s.hif.mem a h

/-- Settles O16: the store of bytes and the writes of a field and of a word, each read back and read elsewhere. -/
theorem writesReadBack : Obligations.WritesReadBack := by
  refine ⟨fun s addr n v k ⟨hmem, _, _⟩ hk => State.hostPut_hostByte hmem addr v hk,
    fun s addr n v a ha => s.hostPut_hostByte_outside v ha, fun s f v ⟨_, hregs, _⟩ hf => State.rf_wf_self hregs f v hf,
    fun s f g v ⟨_, hregs, _⟩ hfg => ?_, fun s off w ⟨_, hregs, hregsN⟩ ht => ?_⟩
  · by_cases hoff : g.off = f.off
    · exact State.rf_wf_other hregs hoff (hfg.resolve_left fun hne => hne hoff) v
    · exact State.rf_wf_ne hoff v
  · rw [State.rdN_wr_self hregsN ht, State.rd_wr_self hregs]

end Sys2Proof.Machine
end

section
/-! PROOFS. Completions (R501, R504, R528, R530): the entry's layout, its slot in the CPL ring, and rings that take none. -/

namespace Sys2Proof.Machine

variable {s : State}

/-! The ring table. -/

theorem State.setRing_ring_ne {j r : Nat} (h : j ≠ r) (c : Rec 64) : (s.setRing r c).ring j = s.ring j :=
  tget_tset_ne _ _ _ h

theorem State.onHif_ring {f : Hif → Hif} (h : (f s.hif).rings = s.hif.rings) (r : Nat) : (s.onHif f).ring r = s.ring r := by
  rw [State.ring, State.onHif_hif, h, State.ring]

theorem State.onHif_inflight {f : Hif → Hif} (h : (f s.hif).inflight = s.hif.inflight) : (s.onHif f).hif.inflight = s.hif.inflight := h

theorem State.setRing_inflight (r : Nat) (c : Rec 64) : (s.setRing r c).hif.inflight = s.hif.inflight := rfl

theorem State.drop_ring (f : RFld) (n r : Nat) : (s.drop f n).ring r = s.ring r := by
  rw [State.ring, State.drop_hif, State.ring]

theorem State.sendVec_ring (fn vec r : Nat) : (s.sendVec fn vec).ring r = s.ring r := by
  unfold State.sendVec
  split <;> exact State.onHif_ring rfl r

theorem State.sendVec_inflight (fn vec : Nat) : (s.sendVec fn vec).hif.inflight = s.hif.inflight := by
  unfold State.sendVec
  split <;> rfl

/-- R523: a signal does nothing, or takes ARMED away from its ring and sends the vector, or starts the coalescing time. -/
theorem State.signal_cases (r : Nat) : s.signal r = s ∨
    s.signal r = ((s.setRing r (fput Ring.ARMED 0 (s.ring r))).sendVec (fget Ring.FUNC (s.ring r))
      (fget Ring.VECTOR (s.ring r))).onHif (fun h => { h with coalAt := tset 0 h.coalAt r 0 }) ∨
    s.signal r = s.onHif fun h => { h with coalAt := tset 0 h.coalAt r (s.tim.now + ofUs (fget Ring.COAL_US (s.ring r)) + 1) } := by
  unfold State.signal
  dsimp only
  split
  · exact .inl rfl
  split
  · exact .inr (.inl rfl)
  split
  · exact .inr (.inr rfl)
  · exact .inl rfl

theorem State.signal_inflight (r : Nat) : (s.signal r).hif.inflight = s.hif.inflight := by
  rcases s.signal_cases r with h | h | h <;> rw [h]
  · rw [State.onHif_inflight rfl, State.sendVec_inflight, State.setRing_inflight]
  · rw [State.onHif_inflight rfl]

/-- A signal counts nothing in its ring. -/
theorem State.signal_prod {r : Nat} (h : fbit Ring.VALID (s.ring r) = true) :
    fget Ring.PROD ((s.signal r).ring r) = fget Ring.PROD (s.ring r) := by
  rcases s.signal_cases r with hr | hr | hr <;> rw [hr]
  · rw [State.onHif_ring rfl, State.sendVec_ring, setRing_ring (samePlace_fput _ _ _ (by decide)) h, fget_fput_ne _ _ _ _ (by decide)]
  · rw [State.onHif_ring rfl]

/-! An entry that leaves flight. -/

theorem State.unflight_mem (i : Infl) : (s.unflight i).hif.mem = s.hif.mem := State.unflight_kept.memory rfl

theorem State.unflight_inflight (i : Infl) : (s.unflight i).hif.inflight = s.hif.inflight.erase i := by
  unfold State.unflight
  dsimp only
  rw [State.drop_hif, State.drop_hif]
  split <;> rfl

theorem State.unflight_ring_ne {i : Infl} {k : Nat} (h : k ≠ i.ring) : (s.unflight i).ring k = s.ring k := by
  unfold State.unflight
  dsimp only
  rw [State.drop_ring, State.drop_ring]
  split
  · rw [State.setRing_ring_ne h, State.onHif_ring rfl]
  · exact State.onHif_ring rfl k

/-! A completion, by the state of its CPL ring. -/

section
variable {k e : Nat} (hr : isRing (s.ring k) 1 = true)
include hr

theorem State.cplPut_of_fault (hf : fbit Ring.FAULT (s.ring k) = true) : s.cplPut k e = s := by
  simp [State.cplPut, hr, hf]

theorem State.cplPut_of_quenched (hq : fbit Ring.QUENCHED (s.ring k) = true) (hf : fbit Ring.FAULT (s.ring k) = false) :
    s.cplPut k e = s.onHif fun h => { h with held := h.held ++ [(k, e)] } := by
  simp [State.cplPut, hr, hf, hq]

theorem State.cplPut_of_runs (hruns : ringRuns (s.ring k) = true) : s.cplPut k e = (s.entryPut k e).signal k := by
  have ⟨hq, hf⟩ : fbit Ring.QUENCHED (s.ring k) = false ∧ fbit Ring.FAULT (s.ring k) = false := by simpa [ringRuns] using hruns
  simp [State.cplPut, hr, hf, hq]

end

/-- Unless its CPL ring is quenched and no more than that, a command leaves flight with its completion. -/
theorem State.complete_unheld {i : Infl} {k : Nat} (hk : k = fget Ring.CPL_RING (s.ring i.ring))
    (h : fbit Ring.QUENCHED (s.ring k) = false ∨ fbit Ring.FAULT (s.ring k) = true) (r : Reply) :
    s.complete i r = (s.cplPut k (cplEntry i.ring i.tag i.head r)).unflight i := by
  subst hk
  rcases h with h | h <;> simp [State.complete, h]

theorem State.complete_held {i : Infl} {k : Nat} (hk : k = fget Ring.CPL_RING (s.ring i.ring)) (hr : isRing (s.ring k) 1 = true)
    (hq : fbit Ring.QUENCHED (s.ring k) = true) (hf : fbit Ring.FAULT (s.ring k) = false) (r : Reply) :
    s.complete i r = (s.onHif fun h => { h with inflight := h.inflight.map fun j => if j == i then { j with disp := true } else j }).onHif
      fun h => { h with held := h.held ++ [(k, cplEntry i.ring i.tag i.head r)] } := by
  subst hk
  simp only [State.complete, hr, hq, hf, Bool.not_false, Bool.and_self, if_true]
  refine State.cplPut_of_quenched ?_ ?_ ?_ <;> rwa [State.onHif_ring rfl]

/-- Settles O15: `State.complete_held` for the quenched ring; a faulted one takes nothing before the entry leaves flight. -/
theorem stoppedRingsTakeNoCompletion : Obligations.StoppedRingsTakeNoCompletion := by
  intro s i r c k hk hc hr
  subst hc
  constructor
  · intro hq hf
    rw [State.complete_held hk hr hq hf]
    exact ⟨rfl, List.length_map _, rfl⟩
  · intro hf
    rw [State.complete_unheld hk (.inr hf), State.cplPut_of_fault hr hf]
    exact ⟨State.unflight_mem i, State.unflight_inflight i⟩

/-! The entry and its slot. -/

/-- The fields of R501 lie side by side. -/
theorem cplEntry_fields (ring tag head st det res : Nat) {e : Nat} (he : e = cplEntry ring tag head ⟨st, det, res⟩) :
    e % 2 ^ 16 = ring % 2 ^ 16 ∧ e / 2 ^ 16 % 2 ^ 16 = tag % 2 ^ 16 ∧ e / 2 ^ 32 % 2 ^ 8 = st % 2 ^ 8 ∧ e / 2 ^ 40 % 2 ^ 8 = 0 ∧
      e / 2 ^ 48 % 2 ^ 16 = det % 2 ^ 16 ∧ e / 2 ^ 64 % 2 ^ 160 = res % 2 ^ 160 ∧ e / 2 ^ 224 % 2 ^ 16 = head % 2 ^ 16 ∧
      e / 2 ^ 240 = 0 := by
  simp only [cplEntry] at he
  omega

theorem State.setRing_mem (r : Nat) (c : Rec 64) : (s.setRing r c).hif.mem = s.hif.mem := rfl

theorem State.hostPut_inflight (addr n v : Nat) : (s.hostPut addr n v).hif.inflight = s.hif.inflight := rfl

/-- Where the next entry of a ring goes (R491). -/
def slotAddr (c : Rec 64) : Nat := fget Ring.BASE c + fget Ring.PROD c % ringSize c * 32

/-- The entry with its PHASE (R501). -/
def phased (c : Rec 64) (e : Nat) : Nat := e % 2 ^ 255 + phaseOf c (fget Ring.PROD c) * 2 ^ 255

theorem State.entryPut_eq (k e : Nat) : s.entryPut k e =
    (s.hostPut (slotAddr (s.ring k)) 32 (phased (s.ring k) e)).setRing k (fput Ring.PROD (fget Ring.PROD (s.ring k) + 1) (s.ring k)) := by
  rw [State.entryPut, slotAddr, phased]

theorem State.entryPut_ring {k : Nat} (h : fbit Ring.VALID (s.ring k) = true) (e : Nat) :
    (s.entryPut k e).ring k = fput Ring.PROD (fget Ring.PROD (s.ring k) + 1) (s.ring k) := by
  rw [State.entryPut_eq, setRing_ring] <;> rw [hostPut_ring]
  · exact samePlace_fput _ _ _ (by decide)
  · exact h

/-- A ring that runs is not quenched. -/
theorem not_quenched_of_runs {r : Rec 64} (h : ringRuns r = true) : fbit Ring.QUENCHED r = false := by
  simp only [ringRuns, Bool.and_eq_true, Bool.not_eq_true'] at h
  exact h.1

/-- A ring that runs takes the completion at its slot, counts it and is signalled, and the command leaves flight. -/
theorem State.complete_mem {i : Infl} {r : Reply} {k : Nat} (hk : k = fget Ring.CPL_RING (s.ring i.ring)) (hr : isRing (s.ring k) 1 = true)
    (hruns : ringRuns (s.ring k) = true) :
    (s.complete i r).hif.mem = (s.hostPut (slotAddr (s.ring k)) 32 (phased (s.ring k) (cplEntry i.ring i.tag i.head r))).hif.mem := by
  rw [State.complete_unheld hk (.inl (not_quenched_of_runs hruns)), State.cplPut_of_runs hr hruns, State.unflight_mem, State.signal_kept.memory rfl,
    State.entryPut_eq, State.setRing_mem]

theorem State.complete_inflight {i : Infl} {r : Reply} {k : Nat} (hk : k = fget Ring.CPL_RING (s.ring i.ring))
    (hr : isRing (s.ring k) 1 = true) (hruns : ringRuns (s.ring k) = true) :
    (s.complete i r).hif.inflight = s.hif.inflight.erase i := by
  rw [State.complete_unheld hk (.inl (not_quenched_of_runs hruns)), State.cplPut_of_runs hr hruns, State.unflight_inflight, State.signal_inflight,
    State.entryPut_eq, State.setRing_inflight, State.hostPut_inflight]

theorem State.complete_prod {i : Infl} {r : Reply} {k : Nat} (hk : k = fget Ring.CPL_RING (s.ring i.ring)) (hne : k ≠ i.ring)
    (hr : isRing (s.ring k) 1 = true) (hruns : ringRuns (s.ring k) = true) :
    fget Ring.PROD ((s.complete i r).ring k) = (fget Ring.PROD (s.ring k) + 1) % 2 ^ 32 := by
  have ⟨hvalid, _⟩ := isRing_valid hr
  have hring := State.entryPut_ring hvalid (cplEntry i.ring i.tag i.head r)
  rw [State.complete_unheld hk (.inl (not_quenched_of_runs hruns)), State.cplPut_of_runs hr hruns, State.unflight_ring_ne hne,
    State.signal_prod, hring]
  · exact fget_fput_self Ring.PROD _ _ (by decide)
  · rwa [hring, fbit_fput_ne _ _ _ _ (by decide)]

/-- Settles O14: the layout is arithmetic on the entry; the rest is one entry put at PROD, a signal, and the command leaving flight. -/
theorem completionTakesTheNextSlot : Obligations.CompletionTakesTheNextSlot := by
  refine ⟨fun ring tag head st det res e he => cplEntry_fields ring tag head st det res he,
    fun s i r c k e a hs hk hc hne hr hruns he ha => ?_⟩
  subst hc he
  obtain ⟨hmem, -, -⟩ := hs
  have haddr : slotAddr (s.ring k) = a := ha.symm
  have hmemory := State.complete_mem (r := r) hk hr hruns
  rw [haddr] at hmemory
  refine ⟨fun n hn => ?_, fun b hb => ?_, State.complete_prod hk hne hr hruns, State.complete_inflight hk hr hruns⟩
  · rw [State.hostByte, hmemory]
    refine (State.hostPut_hostByte hmem _ _ hn).trans ?_
    rw [phased, phaseOf, Nat.shiftRight_eq_div_pow]
  · rw [State.hostByte, hmemory]
    exact s.hostPut_hostByte_outside _ hb

end Sys2Proof.Machine
end

section
/-! PROOFS. Host commands out of their turn and refused ones (R502, R503, R506), and the checks of a descriptor in their order (R503,
R539 to R545, R571). -/

namespace Sys2Proof.Machine

/-- Settles O10: a row whose block does not serve it ends at once, and `State.command` answers its state where no descriptor is ready. -/
theorem commandOutOfTurnHasNoEffect : Obligations.CommandOutOfTurnHasNoEffect := by
  intro i h s a hi ha
  subst ha
  rw [exec_hostCmd hi]
  constructor
  · intro hwaits
    rw [if_pos hwaits]
    rfl
  · intro hwaits hidle
    rw [hwaits, command_idle hidle]
    rfl

/-- Settles O11: `State.command` completes the entry with the reply of the check, on the state that the check leaves. -/
theorem refusedCommandCompletes : Obligations.RefusedCommandCompletes := by
  intro i h s a v x r hi hwaits ha hturn hcheck
  subst ha
  rw [exec_hostCmd hi, hwaits, command_refused hturn hcheck]
  rfl

variable {sp : Spec} {c : Cmd} {s : State} {o : OpInfo}

theorem preCheck_unlisted (h : opInfo sp.op = none) : s.preCheck sp c = (some (Reply.of 4), s) := by
  simp [State.preCheck, h]

theorem preCheck_adminOutside (h : opInfo sp.op = some o) (hadm : o.adm = true) (hring : 130 ≤ c.ring) :
    s.preCheck sp c = (some (Reply.of 4), s) := by
  simp [State.preCheck, h, hadm, Nat.not_lt.mpr hring]

/-- The ring check, as `State.preCheck` makes it, passes. -/
theorem adminInside (hring : o.adm = true → c.ring < 130) : (o.adm && !decide (c.ring < 130)) = false := by
  cases hadm : o.adm with
  | false => rfl
  | true => simp [hring hadm]

/-- R571, R572, R585: a non-secure function is denied a secure command, block or object before any other check of the command. -/
theorem preCheck_worldDenied {fn blk : Nat} (hfn : fn = fget Ring.FUNC (s.ring c.ring)) (h : opInfo sp.op = some o)
    (hblk : blk = sp.blk.getD o.blk) (hring : o.adm = true → c.ring < 130) (hns : secureFn fn = false)
    (hsec : o.sec = true ∨ s.blockSecure blk = true ∨ (sp.secObj = true ∧ s.wld.sClassed = true)) :
    s.preCheck sp c = (some (Reply.of 3), s.denied fn 0 blk (sp.op + c.ring * 2 ^ 16) 0) := by
  subst hfn hblk
  have hdenied : (o.sec || s.blockSecure (sp.blk.getD o.blk) || (sp.secObj && s.wld.sClassed)) = true := by
    simpa [or_assoc] using hsec
  simp only [State.preCheck, h, adminInside hring, hns, hdenied, Bool.true_or, Bool.not_false, Bool.true_and, Bool.false_eq_true, if_false,
    if_true]

section
/-! A secure function, and no range of host memory barred to it. -/

variable (h : opInfo sp.op = some o) (hring : o.adm = true → c.ring < 130) (hs : secureFn (fget Ring.FUNC (s.ring c.ring)) = true)
  (hmem : ∀ a n, s.hostDenied true a n = none)

include hmem in
theorem State.findSome?_hostDenied (l : List (Nat × Nat)) : (l.findSome? fun r => s.hostDenied true r.1 r.2) = none := by
  simp [hmem]

include h hring hs hmem

theorem preCheck_notReady (hr : s.ready o.bit = false ∨ sp.notReady = true) : s.preCheck sp c = (some (Reply.of 1), s) := by
  have hnot : (!s.ready o.bit || sp.notReady) = true := by simpa using hr
  simp only [State.preCheck, h, adminInside hring, hs, State.findSome?_hostDenied hmem, hnot, Bool.not_true, Bool.false_and,
    Bool.false_eq_true, if_false, if_true]

variable (hr : s.ready o.bit = true) (hn : sp.notReady = false)
include hr hn

theorem preCheck_twinMismatch {k : Nat} (hk : (sp.twins.find? fun k => !twinOk (c.w k) (c.w (k + 4))) = some k) :
    s.preCheck sp c =
      (some ⟨2, k, 0⟩, (s.bump sp.cnt).twinEvent sp.obj (sp.blk.getD o.blk) (c.w (k + 4)) (c.w k)) := by
  simp only [State.preCheck, h, adminInside hring, hs, State.findSome?_hostDenied hmem, hr, hn, hk, Bool.not_true, Bool.or_self,
    Bool.false_and, Bool.false_eq_true, if_false]

variable (ht : ∀ k ∈ sp.twins, twinOk (c.w k) (c.w (k + 4)) = true) (hb : sp.btwins = [])
include ht hb

theorem preCheck_fault {r : Reply} (hf : sp.fault = some r) : s.preCheck sp c = (some r, s) := by
  have hk : (sp.twins.find? fun k => !twinOk (c.w k) (c.w (k + 4))) = none := by simpa using ht
  simp only [State.preCheck, h, adminInside hring, hs, State.findSome?_hostDenied hmem, hr, hn, hk, hb, hf, Bool.not_true, Bool.or_self,
    Bool.false_and, Bool.false_eq_true, if_false, List.find?_nil, ite_self]

theorem preCheck_short (hf : sp.fault = none) (hlen : c.bufLen < sp.need) : s.preCheck sp c = (some ⟨5, 0x38, sp.need⟩, s) := by
  have hk : (sp.twins.find? fun k => !twinOk (c.w k) (c.w (k + 4))) = none := by simpa using ht
  simp only [State.preCheck, h, adminInside hring, hs, State.findSome?_hostDenied hmem, hr, hn, hk, hb, hf, hlen, Bool.not_true,
    Bool.or_self, Bool.false_and, Bool.false_eq_true, if_false, List.find?_nil, ite_self, if_true]

/-- After every other check the contents of the buffer, as far as they came from the host. -/
theorem preCheck_contents (hf : sp.fault = none) (hlen : sp.need ≤ c.bufLen) (hdma : sp.need = 0 ∨ c.dmaErr = false) :
    s.preCheck sp c = (sp.bfault.map fun k => ⟨5, 0x30, k⟩, s) := by
  have hk : (sp.twins.find? fun k => !twinOk (c.w k) (c.w (k + 4))) = none := by simpa using ht
  have hread : (sp.need != 0 && c.dmaErr) = false := by
    rcases hdma with h | h <;> simp [h]
  simp only [State.preCheck, h, adminInside hring, hs, State.findSome?_hostDenied hmem, hr, hn, hk, hb, hf, Nat.not_lt.mpr hlen, hread,
    Bool.not_true, Bool.or_self, Bool.false_and, Bool.false_eq_true, if_false, List.find?_nil, ite_self]
  cases sp.bfault <;> rfl

end

/-- Settles O12: each check of `State.preCheck` in turn, under what the earlier ones let pass. -/
theorem descriptorChecksInOrder : Obligations.DescriptorChecksInOrder := by
  intro sp c s fn hfn
  refine ⟨preCheck_unlisted, fun o blk h hblk => ⟨preCheck_adminOutside h, fun hring =>
    ⟨fun hns hsec => preCheck_worldDenied hfn h hblk hring hns hsec, fun hs hmem => ?_⟩⟩⟩
  subst hfn hblk
  refine ⟨preCheck_notReady h hring hs hmem, fun hr hn => ⟨fun k => preCheck_twinMismatch h hring hs hmem hr hn, fun ht hb => ?_⟩⟩
  exact ⟨fun r => preCheck_fault h hring hs hmem hr hn ht hb, preCheck_short h hring hs hmem hr hn ht hb,
    preCheck_contents h hring hs hmem hr hn ht hb⟩

end Sys2Proof.Machine
end

section
/-! PROOFS. What a non-secure requester reaches (R571, R585), and writes that are not applied (R26, R583). -/

namespace Sys2Proof.Machine

variable {s : State}

/-! Register accesses. -/

/-- Below the pages of the functions, a register all of whose fields lie in secure blocks is closed to the non-secure world. -/
theorem State.regOpen_denied {req off : Nat} {r : RegDef} (hoff : off < 0x190000) (hns : secureFn req = false) (hreg : findReg off = some r)
    (hsec : ∀ f ∈ r.fields, s.blockSecure (fieldBlock off f.lo) = true) :
    s.regOpen req off = (false, s.denied req 1 (regBlock off) off 1) := by
  have hall : (r.fields.all fun f => s.blockSecure (fieldBlock off f.lo)) = true := List.all_eq_true.mpr hsec
  simp only [State.regOpen, Nat.not_le.mpr hoff, decide_false, Bool.false_and, Bool.false_eq_true, if_false, hns, hreg, hall, if_true]

/-- There a secure function comes to every register. -/
theorem State.regOpen_secure {req off : Nat} (hoff : off < 0x190000) (hs : secureFn req = true) : s.regOpen req off = (true, s) := by
  simp only [State.regOpen, Nat.not_le.mpr hoff, decide_false, Bool.false_and, Bool.false_eq_true, if_false, hs, if_true]

section
variable {req off : Nat} {r : RegDef} (haddr : regAddr req off = some off) (hreg : findReg off = some r)
include haddr hreg

theorem State.regWrite1_closed {u : State} (hserved : s.regServed off = true) (hreq : req ≠ 66) (hopen : s.regOpen req off = (false, u))
    (v : Nat) : s.regWrite1 req off v = u := by
  simp [State.regWrite1, haddr, hreg, hserved, hreq, hopen]

theorem State.regRead1_closed {u : State} (hserved : s.regServed off = true) (hopen : s.regOpen req off = (false, u)) (quiet : Bool) :
    s.regRead1 req off quiet = (0, u) := by
  simp [State.regRead1, haddr, hreg, hserved, hopen]

/-- R583: outside the world block a write that the lock bars from every field ends there. -/
theorem State.regWrite1_locked (hopen : s.regOpen req off = (true, s)) (hblk : off >>> 16 ≠ 10) (hlock : s.rb Reg.WLD_LOCK.LOCK = true)
    (hlk : ∀ f ∈ r.fields, f.lk = true) (v : Nat) : s.regWrite1 req off v = s := by
  have hbarred : ((r.fields.filter (writable req off)).all fun f => f.lk) = true :=
    List.all_eq_true.mpr fun f hf => hlk f (List.mem_filter.mp hf).1
  simp [State.regWrite1, haddr, hreg, hopen, hlock, hbarred, hblk]

end

/-! Rejected words. -/

theorem State.rd_bump_ne {o : Nat} {f : RFld} (h : o ≠ f.off) : (s.bump f).rd o = s.rd o := State.rd_wr_ne h _

/-- A counter of rejected writes fits its word. -/
theorem rejectCnt_fits {off : Nat} {f : RFld} (h : rejectCnt off = some f) : f.lo + f.w ≤ 32 := by
  unfold rejectCnt at h
  split at h
  case h_14 =>
    split at h
    · cases h
      decide
    · cases h
  all_goals
    cases h
    decide

theorem State.writeReject_of_cnt {off : Nat} {f : RFld} (h : rejectCnt off = some f) (hprofile : ¬ (0x11400 ≤ off ∧ off < 0x11800)) :
    s.writeReject off = s.bump f := by
  have hno : (decide (0x11400 ≤ off) && decide (off < 0x11800)) = false := by simpa using hprofile
  simp only [State.writeReject, h, hno, Bool.false_eq_true, if_false]

/-- Settles O17: a word out of range ends in the block's counter, and a barred write ends before its word is made. -/
theorem rejectedWritesChangeNothing : Obligations.RejectedWritesChangeNothing := by
  constructor
  · intro s req off v w r f hs hreg hcnt hprofile hoff hsec hkept hw h0 hbad
    obtain ⟨-, hwf, -⟩ := hs
    have hcommit : s.regCommit req off v = s.bump f := by
      rw [State.regCommit_of_bad hreg hoff hsec hkept hw h0 hbad, State.writeReject_of_cnt hcnt hprofile]
    rw [hcommit]
    exact ⟨rfl, State.rf_bump_self hwf f 1 (rejectCnt_fits hcnt), fun o ho => State.rd_bump_ne ho⟩
  · intro t req off v s a r ha hsec hacc halign haddr hreg hoff hblk hlock hlk
    subst ha
    change ((s.at_ t).regWrite req off 4 v).done = State.done _
    rw [State.regWrite_word hacc halign,
      State.regWrite1_locked haddr hreg (State.regOpen_secure hoff hsec) hblk hlock hlk]

/-! Host commands. -/

/-- Of a command that its requester's world bars, only the completion, a denial and the closing pass are seen. -/
theorem State.preCheck_barred {sp : Spec} {c : Cmd} {o : OpInfo} (h : opInfo sp.op = some o)
    (hsec : o.sec = true ∨ s.blockSecure (sp.blk.getD o.blk) = true) (hns : secureFn (fget Ring.FUNC (s.ring c.ring)) = false) :
    ∃ r v, s.preCheck sp c = (some r, v) ∧ Kept 6815800 s v := by
  by_cases hadm : o.adm = true ∧ 130 ≤ c.ring
  · exact ⟨_, _, preCheck_adminOutside h hadm.1 hadm.2, Kept.refl _ s⟩
  · have hring : o.adm = true → c.ring < 130 := fun ha => Nat.lt_of_not_le fun hr => hadm ⟨ha, hr⟩
    exact ⟨_, _, preCheck_worldDenied rfl h rfl hring hns (hsec.imp_right .inl), State.denied_kept⟩

theorem kept_of_barred {i : Instr} {h : HostCmd} {u : State} {x : Infl} {o : OpInfo} (hi : hostCmd i = some h) (hw : h.waits s = false)
    (hd : ((h.pre s).at_ h.t).dispatchable (h.spec ((h.pre s).at_ h.t)) h.c = some x)
    (ho : opInfo (h.spec ((h.pre s).at_ h.t)).op = some o)
    (hsec : o.sec = true ∨ ((h.pre s).at_ h.t).blockSecure ((h.spec ((h.pre s).at_ h.t)).blk.getD o.blk) = true)
    (hns : secureFn (fget Ring.FUNC ((h.pre s).ring h.c.ring)) = false) (hu : exec i s = .next u) :
    Kept 7864440 ((h.pre s).at_ h.t) u := by
  obtain ⟨r, v, hcheck, hkept⟩ := State.preCheck_barred ho hsec (c := h.c) (by rwa [State.at_ring])
  have hend : exec i s = .next (v.reply x r).settle := by
    rw [exec_hostCmd hi, hw, command_refused hd hcheck]
    rfl
  cases hend.symm.trans hu
  exact State.settle_kept.step (State.reply_kept.step (hkept.mono rfl) rfl) rfl

/-- Settles O13: a barred command touches none of the parts named, and a closed register only counts the denial. -/
theorem nonSecureRequestersAreContained : Obligations.NonSecureRequestersAreContained := by
  constructor
  · intro i h s b u a x o hb ha hi hw hd ho hsec hns hu
    subst hb ha
    have k := kept_of_barred hi hw hd ho hsec hns hu
    refine ⟨k.pts rfl, k.sec rfl, (k.fab rfl).trans (State.at_fab _ _), (k.alm rfl).trans (State.at_alm _ _),
      (k.cmw rfl).trans (State.at_cmw _ _), (k.ctl rfl).trans (State.at_ctl _ _), (k.lio rfl).trans (State.at_lio _ _),
      (k.ltn rfl).trans (State.at_ltn _ _), (k.bcn rfl).trans (State.at_bcn _ _), (k.bkp rfl).trans (State.at_bkp _ _),
      (k.img rfl).trans (State.at_img _ _), (k.pwr rfl).trans (State.at_pwr _ _), fun off hoff => ?_⟩
    exact (k.rd rfl off hoff).trans (State.at_rd _ _ hoff)
  · intro t req off v s a r ha hns hacc haddr halign hoff hreg hserved hreq hsec
    subst ha
    have hopen := State.regOpen_denied hoff hns hreg hsec
    constructor
    · change ((s.at_ t).regWrite req off 4 v).done = State.done _
      rw [State.regWrite_word hacc halign, State.regWrite1_closed haddr hreg hserved hreq hopen]
    · intro quiet
      change ((s.at_ t).regRead req off 4 quiet).done = State.done _
      rw [State.regRead_word hacc halign, State.regRead1_closed haddr hreg hserved hopen]

end Sys2Proof.Machine
end

section
/-! PROOFS. `completes_of` and its kin with the parts of the command spelled out, as the obligations name them. -/

namespace Sys2Proof.Machine

/-- Nothing comes before the command and nothing holds it back: its effect answers a reply. -/
theorem completes_body {i : Instr} {t : Nat} {c : Cmd} {spec : State → Spec} {body : State → Option Reply × State}
    (e : hostCmd i = some { t := t, c := c, spec := spec, body := body }) {s v : State} {x : Infl} {r : Reply}
    (a : Accepted t spec c s x) (b : body (s.at_ t) = (some r, v)) : Completes (exec i s) x r v :=
  completes_turn e rfl a b

/-- The same of a command whose effect stays in flight. -/
theorem stays_body {i : Instr} {t : Nat} {c : Cmd} {spec : State → Spec} {body : State → Option Reply × State}
    (e : hostCmd i = some { t := t, c := c, spec := spec, body := body }) {s v : State} {x : Infl}
    (a : Accepted t spec c s x) (b : body (s.at_ t) = (none, v)) : StaysInFlight (exec i s) x v :=
  stays_turn e rfl a b

/-- `completes_turn` for the commands of a point's tile, which wait for its queue. -/
theorem completes_point {i : Instr} {t k : Nat} {c : Cmd} {spec : State → Spec} {body : State → Option Reply × State}
    (e : hostCmd i = some { t := t, c := c, spec := spec, body := body, waits := State.pointWaits k, pre := State.turn t k })
    {s v : State} {x : Infl} {r : Reply} (w : s.pointWaits k = false) (a : Accepted t spec c (s.turn t k) x)
    (b : body ((s.turn t k).at_ t) = (some r, v)) : Completes (exec i s) x r v :=
  completes_turn e w a b

end Sys2Proof.Machine
end

section
/-! PROOFS. NOP and the ring commands (R507 to R512). -/

namespace Sys2Proof.Machine

theorem ringCreate_completes {t : Nat} {c : Cmd} {s : State} {i : Infl} (h : Accepted t (specRingCreate c) c s i) :
    ∃ v : State, Completes (exec (.ringCreate t c) s) i ⟨0, 0, c.f 8 0 16⟩ v ∧
      v.hif.rings = tset 0 s.hif.rings (c.f 8 0 16)
        (fput Ring.QUENCHED (b2n ((s.at_ t).quenched (c.f 8 0 16) ((s.at_ t).fnOf c))) (ringOf ((s.at_ t).fnOf c) c)) := by
  refine ⟨_, completes_body (body := bodyRingCreate c) rfl h rfl, ?_⟩
  generalize fput Ring.QUENCHED _ _ = n
  split <;> simp [State.setRing]

theorem ringTuned_fields (c : Cmd) (o : Rec 64) :
    fget Ring.WEIGHT (ringTuned c o) = c.f 0x0C 24 8 ∧ fget Ring.VECTOR (ringTuned c o) = c.f 0x10 16 11 ∧
      fget Ring.COAL_N (ringTuned c o) = c.f 0x20 0 16 ∧ fget Ring.COAL_US (ringTuned c o) = c.f 0x20 16 16 ∧
      fget Ring.BACKLOG_MAX (ringTuned c o) = c.f 0x24 0 21 ∧ fget Ring.BASE (ringTuned c o) = fget Ring.BASE o := by
  unfold ringTuned
  refine ⟨?_, ?_, ?_, ?_, ?_, ?_⟩
  case refine_6 => repeat rw [fget_fput_ne _ _ _ _ (by decide)]
  all_goals
    repeat rw [fget_fput_ne _ _ _ _ (by decide)]
    exact (fget_fput_self _ _ _ (by decide)).trans (Nat.mod_mod _ _)

theorem ringTune_completes {t : Nat} {c : Cmd} {s : State} {i : Infl} (h : Accepted t (specRingTune c) c s i) :
    ∃ w : State, Completes (exec (.ringTune t c) s) i Reply.ok (w.signal (c.f 8 0 16)) ∧
      w.hif.rings = tset 0 s.hif.rings (c.f 8 0 16) (ringTuned c (s.ring (c.f 8 0 16))) := by
  refine ⟨_, completes_body (body := bodyRingTune c) rfl h rfl, ?_⟩
  rw [State.at_ring]
  generalize ringTuned c _ = n
  split
  · simp [State.setRing]
  · split <;> simp [State.setRing]

theorem ringDelete_event {t : Nat} {c : Cmd} {s : State} {i : Infl} (h : Accepted t (specRingDelete c) c s i)
    (hty : fget Ring.TYPE (s.ring (c.f 8 0 16)) = 2) :
    Completes (exec (.ringDelete t c) s) i Reply.ok
      ((match tget none s.hif.outBuf (c.f 8 0 16) with
        | some b => if b.items == 0 || !ringRuns (s.ring (c.f 8 0 16)) then s.at_ t else (s.at_ t).outBack (c.f 8 0 16) b
        | none => s.at_ t).ringGone (c.f 8 0 16)) := by
  refine completes_body (body := bodyRingDelete c) rfl h ?_
  simp [bodyRingDelete, hty] <;> rfl

theorem ringDelete_command {t : Nat} {c : Cmd} {s : State} {i : Infl} (h : Accepted t (specRingDelete c) c s i)
    (hty : fget Ring.TYPE (s.ring (c.f 8 0 16)) = 0) :
    StaysInFlight (exec (.ringDelete t c) s) i
      ((s.at_ t).onHif fun x => { x with deleting := x.deleting ++ [(c.f 8 0 16, c.ring, c.tag)] }) := by
  refine stays_body (body := bodyRingDelete c) rfl h ?_
  simp [bodyRingDelete, hty]

/-- Settles O25: each command's effect, read off at the state of its instant. -/
theorem ringCommandsTakeEffect : Obligations.RingCommandsTakeEffect := by
  refine ⟨fun t c s i h => ?_, fun t c s i h => ringCreate_completes h, fun t c s i h => ?_, fun t c s i h => ?_,
    fun t c s i h hty => ringDelete_event h hty, fun t c s i h hty => ⟨_, ringDelete_command h hty, ?_⟩⟩
  · exact completes_body (body := bodyNop c) rfl h rfl
  · obtain ⟨w, hw, hr⟩ := ringTune_completes h
    exact ⟨w, _, hw, hr, ringTuned_fields c _⟩
  · refine ⟨_, completes_body (body := bodyRingQuery c) rfl h rfl, ?_⟩
    simp [State.bufPut]
  · rw [State.onHif_hif, State.at_hif]

end Sys2Proof.Machine
end

section
/-! PROOFS. Doorbells, descriptor fetches, completions held back, event backlogs, vectors and DATA_OUT buffers (R491 to R530). In each
row `a` is the state of its instant. -/

namespace Sys2Proof.Machine

variable {t : Nat} {s a : State}

theorem doorbellCountWrite_ends {fn off v : Nat} (ha : a = s.at_ t) (hup : s.pwr.mainUp = true) (ho : off % 0x1000 = 0)
    (hv : fbit Ring.VALID (a.ring (off / 0x1000)) = true) (hf : fget Ring.FUNC (a.ring (off / 0x1000)) = fn) :
    Ends (exec (.doorbellCountWrite t fn off 4 v) s) ((a.touch (off / 0x1000)).takeCount (off / 0x1000) (v % 2 ^ 32)) := by
  change execDoorbellCountWrite t fn off 4 v s = State.done _
  simp [execDoorbellCountWrite, State.doorbell, ← ha, hup, ho, hv, hf]

theorem doorbellArmWrite_ends {fn off v : Nat} (ha : a = s.at_ t) (hup : s.pwr.mainUp = true) (ho : off % 0x1000 = 4)
    (hset : v % 2 = 1) (hv : fbit Ring.VALID (a.ring (off / 0x1000)) = true) (hf : fget Ring.FUNC (a.ring (off / 0x1000)) = fn)
    (hty : fget Ring.TYPE (a.ring (off / 0x1000)) ∈ [1, 2, 4]) :
    Ends (exec (.doorbellArmWrite t fn off 4 v) s) ((a.touch (off / 0x1000)).arm (off / 0x1000)) := by
  change execDoorbellArmWrite t fn off 4 v s = State.done _
  simp only [List.mem_cons, List.not_mem_nil, or_false] at hty
  simp [execDoorbellArmWrite, State.doorbell, ← ha, hup, ho, hv, hf, hset, or_assoc, hty]

theorem completionWrite_ends {r e : Nat} (he : (r, e) ∈ s.hif.held) (hq : fbit Ring.QUENCHED (s.ring r) = false) :
    Ends (exec (.completionWrite t r) s) ((s.at_ t).unhold r) := by
  have hany : (s.hif.held.any fun e => e.1 == r && !fbit Ring.QUENCHED (s.ring r)) = true :=
    List.any_eq_true.mpr ⟨_, he, by simp [hq]⟩
  change execCompletionWrite t r s = State.done _
  rw [execCompletionWrite, if_pos hany]

theorem eventBacklogDrain_ends {r : Nat} {l : List Nat} (hl : (r, l) ∈ s.hif.backlog) :
    Ends (exec (.eventBacklogDrain t r) s) ((s.at_ t).drain r) := by
  have hany : (s.hif.backlog.any fun e => e.1 == r) = true := List.any_eq_true.mpr ⟨_, hl, by simp⟩
  change execEventBacklogDrain t r s = State.done _
  rw [execEventBacklogDrain, if_pos hany]

theorem vectorCoalesceExpire_ends {r : Nat} {c : Rec 64} (ha : a = s.at_ t) (hc : c = a.ring r) (hset : tget 0 a.hif.coalAt r ≠ 0)
    (hdue : tget 0 a.hif.coalAt r ≤ a.tim.now + 1) (harm : fbit Ring.ARMED c = true) (hen : fbit Ring.VEC_EN c = true)
    (hp : a.pendEntries r ≠ 0) :
    Ends (exec (.vectorCoalesceExpire t r) s)
      (((a.setRing r (fput Ring.ARMED 0 c)).onHif fun h => { h with coalAt := tset 0 h.coalAt r 0 }).sendVec
        (fget Ring.FUNC c) (fget Ring.VECTOR c)) := by
  change execVectorCoalesceExpire t r s = State.done _
  simp [execVectorCoalesceExpire, ← ha, ← hc, hset, harm, hen, hp, Nat.not_lt.mpr hdue]

/-- Unmasked, a vector that waits is sent and waits no more. -/
theorem msixUnmask_ends {fn vec : Nat} (hfn : fn < 65) (hvec : vec < s.rf (Reg.HIF_FN.NVEC fn))
    (ha : a = (s.at_ t).onHif fun h => { h with vecOpen := tset 0 h.vecOpen (vecKey fn vec) 1, msixEn := tset 0 h.msixEn fn 1 }) :
    Ends (exec (.msixUnmask t fn vec) s) (if tget 0 s.hif.vecPend (vecKey fn vec) = 0 then a else
      (a.onHif fun h => { h with vecPend := tset 0 h.vecPend (vecKey fn vec) 0 }).sendVec fn vec) := by
  have hp : a.hif.vecPend = s.hif.vecPend := by rw [ha, State.onHif_hif, State.at_hif]
  change execMsixUnmask t fn vec s = State.done _
  rw [execMsixUnmask, if_neg (by simp; omega)]
  simp only [← ha, hp, beq_iff_eq]
  split <;> rfl

theorem dataOutWriteback_ends {r : Nat} {b : OutBuf} (ha : a = s.at_ t) (hb : tget none a.hif.outBuf r = some b) (hi : b.items ≠ 0)
    (hdue : b.since + ofUs 100 ≤ a.tim.now) (hr : ringRuns (a.ring r) = true) :
    Ends (exec (.dataOutWriteback t r) s) (a.outBack r b) := by
  change execDataOutWriteback t r s = State.done _
  simp [execDataOutWriteback, ← ha, hb, hi, hr, Nat.not_lt.mpr hdue]

/-- A descriptor of a ring that is not DATA_IN or DATA_OUT goes in flight as it is. -/
theorem descriptorFetch_ends {desc : Rec 64} {v : State} {r c : Nat} {arb : List AClass} (ha : a = s.at_ t) (hup : a.pwr.mainUp = true)
    (hok : a.pwr.failing = false) (hready : a.ready 8 = true) (hp : a.fetchPick = (some r, arb))
    (h3 : fget Ring.TYPE (a.ring r) ≠ 3) (h4 : fget Ring.TYPE (a.ring r) ≠ 4)
    (hc : c = (fget Ring.CONS (a.ring r) + 1) % 2 ^ 32)
    (hv : v = ((((((a.onHif fun h => { h with fetchArb := arb }).touch r).setRing r (fput Ring.CONS c (a.ring r))).onHif fun h =>
        { h with inflight := h.inflight ++ [⟨r, desc, false, c, false⟩] }).modRing r fun x =>
        fput Ring.INFLIGHT (fget Ring.INFLIGHT x + 1) x).bump Reg.HIF_INFLIGHT.COUNT).bump (Reg.HIF_FN.FN_INFLIGHT (fget Ring.FUNC (a.ring r)))) :
    Ends (exec (.descriptorFetch t desc) s) ((v.onHif fun h => { h with fetchArb := arbSync v.fetchIn h.fetchArb }).sweep 256 r) := by
  change execDescriptorFetch t desc s = State.done _
  rw [execDescriptorFetch]
  simp only [← ha, hup, hok, hready, hp, ← hc, beq_eq_false_iff_ne.mpr h3, beq_eq_false_iff_ne.mpr h4, Bool.not_true, Bool.or_false,
    Bool.false_eq_true, if_false, ← hv]

/-- Settles O26: each row under its conditions, `a` being the state of its instant. -/
theorem ringTrafficTakesEffect : Obligations.RingTrafficTakesEffect := by
  refine ⟨fun t fn off v s a ha hup ho hv hf => doorbellCountWrite_ends ha hup ho hv hf,
    fun t fn off v s a ha hup ho hset hv hf hty => doorbellArmWrite_ends ha hup ho hset hv hf hty,
    fun t desc s a r arb c v ha hup hok hready hp h3 h4 hc hv =>
      descriptorFetch_ends ha (by rwa [ha, State.at_pwr]) (by rwa [ha, State.at_pwr]) hready hp h3 h4 hc hv,
    fun t r e s he hq => completionWrite_ends he hq, fun t r l s hl => eventBacklogDrain_ends hl,
    fun t r s a c ha hc hset hdue harm hen hp => ⟨_, ?_, vectorCoalesceExpire_ends ha hc hset hdue harm hen hp⟩,
    fun t fn vec s hfn hvec hp => ⟨_, if_pos hp ▸ msixUnmask_ends hfn hvec rfl, ?_, ?_⟩,
    fun t fn vec s hfn hvec hp => ⟨_, ?_, ?_, if_neg hp ▸ msixUnmask_ends hfn hvec rfl⟩,
    fun t r b s a ha hb hi hdue hr => dataOutWriteback_ends ha hb hi hdue hr⟩
  · generalize fput Ring.ARMED 0 c = n
    rfl
  all_goals simp

end Sys2Proof.Machine
end

section
/-! PROOFS. The configuration commands, commits and checkpoints, the Lightship's start and the restore (R739 to R770). -/

namespace Sys2Proof.Machine

theorem cfgConfirm_completes {t : Nat} {c : Cmd} {s : State} {i : Infl} (h : Accepted t (specCfgConfirm c) c s i) :
    ∃ n v, Completes (exec (.cfgConfirm t c) s) i ⟨0, 0, n⟩ v ∧
      (n, v) = ((s.at_ t).addRec 0 0 2 ((s.slot 0).getD Slot.empty).gen ((s.slot 0).getD Slot.empty).hcrc).confirmAll := by
  refine ⟨_, _, completes_body (body := bodyCfgConfirm c) rfl h rfl, ?_⟩
  simp only [State.slot, State.at_img]
  rfl

/-- Settles O28: each body at the state of the command's instant. -/
theorem configurationCommandsTakeEffect : Obligations.ConfigurationCommandsTakeEffect := by
  refine ⟨fun t c s i h => completes_body (body := bodySysStatus c) rfl h rfl, fun t c s i h hr => ?_,
    fun t c s i h => ⟨_, completes_body (body := bodyCfgFactory c) rfl h rfl, rfl⟩, fun t c s i h => cfgConfirm_completes h⟩
  exact stays_body (body := bodyCfgCommit c) rfl h (by simp [bodyCfgCommit, hr])

variable {t : Nat} {s a : State}

theorem State.lshipPower_lshipUp (src store : Nat) : (s.lshipPower src store).pwr.lshipUp = true := by
  have hask (v : State) (k : Nat) : (v.pwronAsk k).pwr = v.pwr := State.pwronAsk_kept.pwr rfl
  have htrim (v : State) : v.trimBegin.pwr = v.pwr := State.trimBegin_kept.pwr rfl
  have hscap (v : State) (k : Nat) : (v.scapRead k).pwr = v.pwr := State.scapRead_kept.pwr rfl
  simp [State.lshipPower, apply_ite State.pwr, hask, htrim, hscap]

/-- Behind its restored records the restore leaves the images alone. -/
theorem State.restoreMain_img (s : State) : s.restoreMain.img.asked = false ∧ s.restoreMain.img.commitAt = s.tim.now := by
  have hall := State.restoreAll_kept (s := s.onLdg fun l => { l with binSets := [] })
  have htail : Kept (2 ^ 17 - 1 + 2 ^ 18 * 63) ((s.onLdg fun l => { l with binSets := [] }).restoreAll.onImg fun m =>
      { m with asked := false, commitAt := (s.onLdg fun l => { l with binSets := [] }).restoreAll.tim.now }) s.restoreMain := by
    unfold State.restoreMain
    refine State.wf_kept.step (State.oeGates_kept.step (State.tileGates_kept.step ?_ rfl) rfl) rfl
    have hstate : ∀ (l : List Nat) (u v : State), Kept (2 ^ 17 - 1 + 2 ^ 18 * 63) u v →
        Kept (2 ^ 17 - 1 + 2 ^ 18 * 63) u (l.foldl (fun s p => s.portState p 1) v) :=
      fun l u v h => Kept.fold (fun w p hw => State.portState_kept.step hw rfl) h
    split
    · exact State.areaSpool_kept.step (hstate _ _ _ (State.wf_kept.step (Kept.refl _ _) rfl)) rfl
    · exact hstate _ _ _ (State.wf_kept.step (Kept.refl _ _) rfl)
  rw [htail.img rfl]
  refine ⟨rfl, ?_⟩
  rw [State.onImg_img, hall.tim rfl]
  rfl

theorem restoreDone_intact {bad : List Nat} (ha : a = s.at_ t) (hup : s.pwr.mainUp = true) (hok : s.pwr.failing = false)
    (hask : s.img.asked = true) (hready : a.ready 10 = false) (hbad : ∀ k ∈ bad, k = 0 ∨ 10 < k) :
    Ends (exec (.restoreDone t bad) s) ((((a.restoreMain.setReady 9).setReady 10).setReady 11).setReady 13) := by
  have hnone : (bad.filter fun k => decide (1 ≤ k) && decide (k ≤ 10)) = [] := by
    refine List.filter_eq_nil_iff.mpr fun k hk => ?_
    have := hbad k hk
    simp
    omega
  rw [← State.at_pwr s t, ← ha] at hup hok
  rw [← State.at_img s t, ← ha] at hask
  change execRestoreDone t bad s = State.done _
  simp [execRestoreDone, ← ha, hup, hok, hask, hready, hnone]

/-- Settles O29. -/
theorem commitAndStartRowsTakeEffect : Obligations.CommitAndStartRowsTakeEffect := by
  refine ⟨fun t c s hrun hup hok => ?_, fun t s a ha hs hrun hret hready hhost hset hdue => ?_,
    fun t b s a ha hready huse hb hdue => ?_, fun t s a ha hready huse hdue => ?_,
    fun t corrupt src store s a v ha hdown hsrc hv => ⟨State.lshipPower_lshipUp _ _, ?_⟩,
    fun t bad s a ha hup hok hask hready hbad =>
      ⟨(State.restoreMain_img a).1, (State.restoreMain_img a).2, restoreDone_intact ha hup hok hask hready hbad⟩,
    fun t bad s a u v ha hup hok hask hready huse hbad hu hv => ?_⟩
  · change execCommitComplete t s = State.done _
    simp [execCommitComplete, hrun, hup, hok]
  · change execAutoCommit t s = State.done _
    have hr : a.img.run = none := by rwa [ha, State.at_img]
    simp [execAutoCommit, ← ha, hr, hret, hready, hhost, hset, hdue, Nat.pos_iff_ne_zero.mp hs]
  · change execCheckpointWrite t b s = State.done _
    simp [execCheckpointWrite, ← ha, hready, huse, hb, hdue]
  · change execLoopBlockWrite t s = State.done _
    simp [execLoopBlockWrite, ← ha, hready, huse, hdue]
  · change execLshipPowerGood t corrupt src store s = State.done _
    have hd : a.pwr.lshipUp = false := by rwa [ha, State.at_pwr]
    simp [execLshipPowerGood, ← ha, ← hv, hd, Nat.not_lt.mpr hsrc]
  · obtain ⟨k, hk, h1, h10⟩ := hbad
    have hsome : (bad.filter fun k => decide (1 ≤ k) && decide (k ≤ 10)).eraseDups ≠ [] :=
      List.ne_nil_of_mem (List.mem_eraseDups.mpr (List.mem_filter.mpr ⟨hk, by simp [h1, h10]⟩))
    rw [← State.at_pwr s t, ← ha] at hup hok
    rw [← State.at_img s t, ← ha] at hask
    change execRestoreDone t bad s = State.done _
    simp [execRestoreDone, hup, hok, hask, ← ha, hready, huse, ← hu, ← hv, hsome]

end Sys2Proof.Machine
end

section
/-! PROOFS. The commands of a point's value and of alarm conditions (R550 to R553). They run before their point's tile, so `a` is the
state of the instant after what is due there. -/

namespace Sys2Proof.Machine

/-- A command of a point whose effect leaves `v`, with a reply of OK, or of OK with event records spilt (R553). -/
theorem completes_spill {i : Instr} {t k : Nat} {c : Cmd} {spec : State → Spec} {body : State → Option Reply × State}
    (e : hostCmd i = some { t := t, c := c, spec := spec, body := body, waits := State.pointWaits k, pre := State.turn t k })
    {s a v : State} {x : Infl} {before after n : Nat} (ha : a = (s.turn t k).at_ t) (w : s.pointWaits k = false)
    (h : Accepted t spec c (s.turn t k) x) (b : body a = (some ⟨if before < after then 7 else 0, 0, n⟩, v)) :
    ∃ r : Reply, (r.st = 0 ∨ r.st = 7) ∧ r.res = n ∧ Completes (exec i s) x r v := by
  subst ha
  refine ⟨_, ?_, rfl, completes_point e w h b⟩
  dsimp only
  split <;> simp

/-- The same where the result does not matter. -/
theorem completes_spill' {i : Instr} {t k : Nat} {c : Cmd} {spec : State → Spec} {body : State → Option Reply × State}
    (e : hostCmd i = some { t := t, c := c, spec := spec, body := body, waits := State.pointWaits k, pre := State.turn t k })
    {s a v : State} {x : Infl} {before after n : Nat} (ha : a = (s.turn t k).at_ t) (w : s.pointWaits k = false)
    (h : Accepted t spec c (s.turn t k) x) (b : body a = (some ⟨if before < after then 7 else 0, 0, n⟩, v)) :
    ∃ r : Reply, (r.st = 0 ∨ r.st = 7) ∧ Completes (exec i s) x r v := by
  obtain ⟨r, hst, -, hr⟩ := completes_spill e ha w h b
  exact ⟨r, hst, hr⟩

variable {t k : Nat} {c : Cmd} {s a : State} {i : Infl}

theorem pntSimStart_ends (hk : k = tagIdx (c.d 8)) (ha : a = (s.turn t k).at_ t) (w : s.pointWaits k = false)
    (h : Accepted t (specPntSimStart c) c (s.turn t k) i) :
    ∃ r : Reply, if (a.px k).own / 4 % 2 == 1 then r = Reply.of 6 ∧ Completes (exec (.pntSimStart t c) s) i r a else
      (r.st = 0 ∨ r.st = 7) ∧ Completes (exec (.pntSimStart t c) s) i r (a.simStore k (c.w 0x10)) := by
  subst hk
  by_cases hf : ((a.px (tagIdx (c.d 8))).own / 4 % 2 == 1) = true
  · subst ha
    simp only [if_pos hf]
    exact ⟨_, rfl, completes_point (body := bodyPntSimStart c) rfl w h (if_pos hf)⟩
  · simp only [if_neg hf]
    exact completes_spill' (body := bodyPntSimStart c) rfl ha w h (if_neg hf)

theorem pntOutput_ends {v : State} (hk : k = tagIdx (c.d 8)) (ha : a = (s.turn t k).at_ t) (w : s.pointWaits k = false)
    (h : Accepted t (specPntOutput c) c (s.turn t k) i) (hown : fbit Pt.LOOP_OWNED (a.pt k) = false)
    (hv : v = a.applyUpdate ⟨k, c.w 0x10, twinOf (c.w 0x10), false, 0, a.wt, a.node, a.wt, 0⟩) :
    ∃ r : Reply, (r.st = 0 ∨ r.st = 7) ∧ Completes (exec (.pntOutput t c) s) i r (if fget Pt.DEST_TYPE (v.pt k) == 1 then
      (v.loopOut (fget Pt.DEST_NODE (v.pt k)) (fget Pt.DEST_INDEX (v.pt k)) (fget Pt.VALUE (v.pt k)) v.wt 0).2 else v) := by
  subst hk hv
  exact completes_spill' (body := bodyPntOutput c) rfl ha w h (if_neg (ne_true_of_eq_false hown))

/-- Settles O31: all but two of the commands have one effect; PNT_SIM_START and PNT_OUTPUT first look at who owns the point. -/
theorem pointOverridesTakeEffect : Obligations.PointOverridesTakeEffect := by
  refine ⟨fun t c s i k a hk ha w h => ?_, fun t c s i k a hk ha w h => ?_,
    fun t c s i k a hk ha w h => pntSimStart_ends hk ha w h, fun t c s i k a hk ha w h => ?_, fun t c s i k a hk ha w h => ?_,
    fun t c s i k a v hk ha w h hown hv => pntOutput_ends hk ha w h hown hv, fun t c s i k a y v hk ha w h hy hv => ?_⟩
  case refine_5 => subst hk hy hv; exact completes_spill' (body := bodyPntReset c) rfl ha w h rfl
  all_goals subst hk
  · exact completes_spill' (body := bodyPntForce c) rfl ha w h rfl
  · exact completes_spill' (body := bodyPntUnforce c) rfl ha w h rfl
  · exact completes_spill' (body := bodyPntSimValue c) rfl ha w h rfl
  · exact completes_spill' (body := bodyPntSimEnd c) rfl ha w h rfl

theorem almAck_mirror (ha : a = (s.turn t (2 ^ 23)).at_ t) (w : s.pointWaits (2 ^ 23) = false)
    (h : Accepted t (specAlmAck c) c (s.turn t (2 ^ 23)) i) (h0 : c.f 8 0 2 = 0) (h1 : c.f 8 2 1 = 1) :
    StaysInFlight (exec (.almAck t c) s) i ((a.ackForward (c.f 0x10 0 16)).onSec fun x =>
      { x with acks := x.acks ++ [(c.f 0x10 0 16, c.ring, c.tag, a.tim.now)] }) := by
  subst ha
  have hk : (if c.f 8 0 2 < 2 && !(c.f 8 0 2 == 0 && c.f 8 2 1 == 1) then tagIdx (c.d 0x10) else 2 ^ 23) = 2 ^ 23 := by
    simp [h0, h1]
  refine stays_turn rfl (by dsimp only; rw [hk]; exact w) (by dsimp only; rw [hk]; exact h) ?_
  dsimp only
  rw [hk]
  simp [bodyAlmAck, h0, h1]

theorem almAck_conditions {n : Nat} {v : State} (hk : k = if c.f 8 0 2 < 2 then tagIdx (c.d 0x10) else 2 ^ 23)
    (ha : a = (s.turn t k).at_ t) (w : s.pointWaits k = false) (h : Accepted t (specAlmAck c) c (s.turn t k) i)
    (hm : c.f 8 0 2 = 0 → c.f 8 2 1 = 0) (hn : a.inputs (a.almTargets c) (fun _ _ q s => s.modCs q CS.ack) = (n, v)) :
    Completes (exec (.almAck t c) s) i (Reply.with2 ((a.almTargets c).length + (a.ackMirrors c).length) n)
      ((a.ackMirrors c).foldl (fun s e => s.ackForward e) v) := by
  have hno : (c.f 8 0 2 == 0 && c.f 8 2 1 == 1) = false := by
    simp
    omega
  have hk' : (if c.f 8 0 2 < 2 && !(c.f 8 0 2 == 0 && c.f 8 2 1 == 1) then tagIdx (c.d 0x10) else 2 ^ 23) = k := by
    simp [hno, hk]
  subst ha
  refine completes_turn rfl (by dsimp only; rw [hk']; exact w) (by dsimp only; rw [hk']; exact h) ?_
  dsimp only
  rw [hk']
  simp [bodyAlmAck, hno, hn]

theorem almCondRead_completes {b : State} {l q w : Nat} (hb : b = s.at_ t) (ha : a = (b.almTargets c).foldl (fun v e => v.condGuard e.1 v.wt) b)
    (h : Accepted t (specAlmCondRead c) c s i) (hq : a.almTargets c = [(k, l, q)])
    (hw : w = fget Ext.K_ON (a.condX q) + fget Ext.K_HYST (a.condX q) * 2 ^ 8 + fget Ext.QUIET_MIN (a.condX q) * 2 ^ 16) :
    Completes (exec (.almCondRead t c) s) i ⟨0, 0, fget Cond.CSTATE (a.cond q) + fget Cond.ON_DELAY (a.cond q) * 2 ^ 32 +
      fget Cond.HYST (a.cond q) * 2 ^ 64 + w * 2 ^ 96 + q * 2 ^ 128⟩ (if c.bufLen == 0 then a else
        a.bufPut c 80 ((a.cond q).toNat + (a.condX q).toNat * 2 ^ 512)) := by
  refine completes_body (body := bodyAlmCondRead c) rfl h ?_
  simp only [bodyAlmCondRead, ← hb, ← ha, hq, ← hw]

/-- Settles O32: but for ALM_ACK of a mirror and ALM_COND_READ, one effect on every condition that the command names. -/
theorem alarmCommandsTakeEffect : Obligations.AlarmCommandsTakeEffect := by
  refine ⟨fun t c s i a ha w h h0 h1 => almAck_mirror ha w h h0 h1,
    fun t c s i a k n v hk ha w h hm hn => almAck_conditions hk ha w h hm hn, fun t c s i a k hk ha w h => ?_,
    fun t c s i a k hk ha w h => ?_, fun t c s i a k hk ha w h => ?_, fun t c s i a k hk ha w h => ?_,
    fun t c s i b a k l q w hb ha h hq hw => almCondRead_completes hb ha h hq hw, fun t c s i a k hk ha w h => ?_⟩
  all_goals subst hk
  · exact completes_spill (body := bodyAlmShelve c) rfl ha w h rfl
  · exact completes_spill (body := bodyAlmUnshelve c) rfl ha w h rfl
  · exact completes_spill (body := bodyAlmOos c) rfl ha w h rfl
  · exact completes_spill (body := bodyAlmReturn c) rfl ha w h rfl
  · exact completes_spill (body := bodyAlmAdaptHold c) rfl ha w h rfl

end Sys2Proof.Machine
end

section
/-! PROOFS. What tiles, sectors, causes and mirrors do by themselves, and the sector commands (R128 to R246). In each row `a` is the state
of its instant. -/

namespace Sys2Proof.Machine

/-- Settles O33: each row's meaning on the branch that its conditions choose. -/
theorem tileRowsTakeEffect : Obligations.TileRowsTakeEffect := by
  refine ⟨fun t tile upset img s a u q b ha hq hr hf hb => ?_, fun t s a k ha hk hr hd hf => ?_,
    fun t tile s a c d ha he hf => ?_, fun t s a o tick ha he hf => ?_, fun t tile s a k ha hk hr hd hf => ⟨_, rfl, ?_⟩,
    fun t tile s a m ha hm hf => ?_, fun t s a b c on mark q o ha hq hf hb ho hn => ⟨_, rfl, ?_⟩,
    fun t k flips img s b kept hb hd hc hk => ⟨_, rfl, ?_⟩⟩
  · subst ha
    exact exec_pointUpdateApply_takes hq hr hf hb
  · change execScanTick t s = State.done _
    simp [execScanTick, ← ha, ← hk, hr, hf]
    omega
  · change execDelayTimerExpire t tile s = State.done _
    simp only [execDelayTimerExpire, ← ha, he, hf, Bool.false_eq_true, if_false]
  · change execCoarseSlotServe t s = State.done _
    simp [execCoarseSlotServe, ← ha, he, hf]
  · change execShelveSweep t tile s = State.done _
    simp [execShelveSweep, ← ha, ← hk, hr, hf, -Nat.reducePow]
    omega
  · change execAdaptSweep t tile s = State.done _
    simp [execAdaptSweep, ← ha, hm, hf]
  · change execSuppressionInput t s = State.done _
    simp [execSuppressionInput, ← ha, hq, hf, ← hb, ← ho, hn]
  · change execPointRecordScrub t k flips img s = State.done _
    rw [execPointRecordScrub]
    simp only [← hb, hd, Bool.not_true, Bool.false_eq_true, if_false]
    subst hk
    exact (if_neg (ne_true_of_eq_false hc)).trans (if_done _ _ _).symm

end Sys2Proof.Machine
end

section
/-! PROOFS. The sector, cause and mirror commands and what sectors, causes and mirrors do by themselves (R128 to R246). In each row `a`
is the state of its instant. -/

namespace Sys2Proof.Machine

theorem secMirrorBind_ended {t e : Nat} {c : Cmd} {s a : State} {i : Infl} (ha : a = s.at_ t) (he : e = c.f 8 0 16)
    (h : Accepted t (specSecMirrorBind c) c s i) (hoff : c.f 8 16 1 = 1) (href : fget Mir.CAUSE_REF (a.mir e) = 0) :
    ∃ v : State, Completes (exec (.secMirrorBind t c) s) i Reply.ok
      (((v.setMir e 0).onSec fun x => { x with lostAt := tset 0 x.lostAt e 0 }).dirtyHost) := by
  have hb : ∃ v : State, bodySecMirrorBind c a = (some Reply.ok,
      ((v.setMir e 0).onSec fun x => { x with lostAt := tset 0 x.lostAt e 0 }).dirtyHost) := by
    simp only [bodySecMirrorBind, ← he, hoff, href, beq_self_eq_true, bne_self_eq_false, if_true, Bool.false_eq_true, if_false]
    exact ⟨_, rfl⟩
  subst ha
  obtain ⟨v, hv⟩ := hb
  exact ⟨v, completes_body rfl h hv⟩

/-- Settles O34: each body on the branch that the cause named, its run of edges or the binding chooses. -/
theorem sectorCommandsTakeEffect : Obligations.SectorCommandsTakeEffect := by
  refine ⟨fun t c s i n hn h => ?_, fun t c s i h => completes_body (body := bodySecRead c) rfl h rfl,
    fun t c s i l h hl => completes_body (body := bodySecFoReset c) rfl h (by simp only [bodySecFoReset, hl]),
    fun t c s i a key n cnt v ha hcnt h hkey hn hfit hv => completes_body (body := bodySecCauseSet c) rfl h ?_,
    fun t c s i a key ha h hkey hn hcomp => completes_body (body := bodySecCauseSet c) rfl h ?_,
    fun t c s i a key n b d ha h hkey hn hb hd => completes_body (body := bodySecCauseDelete c) rfl h ?_,
    fun t c s i a key n x ha h hkey hn hx => completes_body (body := bodySecCauseRead c) rfl h ?_,
    fun t c s i a e r ha he h hoff hr => completes_body (body := bodySecMirrorBind c) rfl h ?_,
    fun t c s i a e ha he h hoff href => secMirrorBind_ended ha he h hoff href⟩
  · subst hn
    exact completes_body (body := bodySecConfig c) rfl h rfl
  · simp [bodySecCauseSet, ← ha, ← hcnt, hkey, hn, hfit, ← hv]
  · simp [bodySecCauseSet, ← ha, hkey, hn, hcomp]
  · simp only [bodySecCauseDelete, okWith, ← ha, hkey, hn, ← hb, ← hd]
  · simp only [bodySecCauseRead, ← ha, hkey, hn, Option.bind_some, ← hx]
  · simp only [bodySecMirrorBind, ← ha, ← he, hoff, ← hr]
    rfl

/-- Settles O35: each row's meaning on the branch that its conditions choose. -/
theorem sectorRowsTakeEffect : Obligations.SectorRowsTakeEffect := by
  refine ⟨fun t s a ha hq => ?_, fun t s a o d ha hd => ?_, fun t s a o d ha hd => ?_, fun t s a k ha hk hr hd => ?_,
    fun t s a f ha hf => ?_, fun t flips supp s a v ha hr hd hv => ?_, fun t s a ha hc => ?_,
    fun t e s a r v ha hr hvalid hlost hd hv => ?_, fun t e s a n v ha hset hlost hd hn hv => ?_,
    fun t n s a x ha hx hans hd => ?_, fun t s a e r tag at_ l ha hl hd => ?_⟩
  · change execSectorChangeProcess t s = State.done _
    simp [execSectorChangeProcess, ← ha, hq]
  · change execSettleTimerExpire t s = State.done _
    simp only [execSettleTimerExpire, ← ha, hd]
  · change execReleaseTimerExpire t s = State.done _
    simp only [execReleaseTimerExpire, ← ha, hd]
  · change execFloodRecount t s = State.done _
    have hsec : ¬ k + 1 ≤ a.sec.recountAt := Nat.not_le.mpr (Nat.lt_succ_of_le hd)
    simp only [execFloodRecount, ← ha, ← hk, hr, decide_eq_false hsec, Bool.not_true, Bool.or_self, Bool.false_eq_true, if_false] <;> rfl
  · change execFloodReleaseDone t s = State.done _
    simp only [execFloodReleaseDone, ← ha, hf]
  · change execSectorAudit t flips supp s = State.done _
    simp [execSectorAudit, ← ha, hr, ← hv]
    omega
  · change execEdgeCompactionDone t s = State.done _
    simp [execEdgeCompactionDone, ← ha, hc]
  · change execMirrorTimeout t e s = State.done _
    simp [execMirrorTimeout, ← ha, ← hr, hvalid, hlost, Nat.not_lt.mpr hd, ← hv]
  · change execMirrorHoldExpire t e s = State.done _
    have hcause : v.causeOf (memberKey true e) = some n := by
      rw [hv]
      exact hn
    simp [execMirrorHoldExpire, ← ha, hset, hlost, Nat.not_lt.mpr hd, ← hv, hcause]
    rw [hv]
    rfl
  · change execMirrorRefreshSend t n s = State.done _
    simp [execMirrorRefreshSend, ← ha, hx, hans, Nat.not_lt.mpr hd] <;> rfl
  · change execMirrorAckTimeout t s = State.done _
    simp [execMirrorAckTimeout, ← ha, hl, Nat.not_lt.mpr hd]

end Sys2Proof.Machine
end

section
/-! PROOFS. The condition-monitoring commands (R247 to R330). `a` is the state of the command's instant. -/

namespace Sys2Proof.Machine

variable {t ch n b : Nat} {c : Cmd} {s a : State} {i : Infl}

/-- A channel that is off, or that is given its ring, is written as named. -/
theorem cmwChannel_named (ha : a = s.at_ t) (hch : ch = c.f 8 0 16) (h : Accepted t (specCmwChannel c) c s i)
    (hr : fbit Chan.EN (chanNamed c) = false ∨ fbit Chan.EXPERT (chanNamed c) = true) :
    ∃ v : State, Completes (exec (.cmwChannel t c) s) i
      (Reply.with2 (fget Chan.RING_BASE (v.chan ch)) (fget Chan.RING_GRAN (v.chan ch))) v ∧ v = (a.writeChan ch (chanNamed c)).dirtyHost := by
  subst ha hch
  refine ⟨_, completes_body (body := bodyCmwChannel c) rfl h (if_pos ?_), rfl⟩
  rcases hr with hr | hr <;> simp [hr]

/-- Another channel takes the run of buffer found for it. -/
theorem cmwChannel_run (ha : a = s.at_ t) (hch : ch = c.f 8 0 16) (h : Accepted t (specCmwChannel c) c s i)
    (hen : fbit Chan.EN (chanNamed c) = true) (hx : fbit Chan.EXPERT (chanNamed c) = false)
    (hn : n = granOf (chanNamed c) (preMs a.cmw.defs ch)) (hb : a.ringFor ch n = some b) :
    ∃ v : State, Completes (exec (.cmwChannel t c) s) i
      (Reply.with2 (fget Chan.RING_BASE (v.chan ch)) (fget Chan.RING_GRAN (v.chan ch))) v ∧
      v = (a.writeChan ch (fput Chan.RING_BASE b (fput Chan.RING_GRAN n (chanNamed c)))).dirtyHost := by
  refine ⟨_, completes_body (body := bodyCmwChannel c) rfl h ?_, rfl⟩
  simp only [bodyCmwChannel, hen, hx, ← ha, ← hch, ← hn, hb, Bool.not_true, Bool.or_false, Bool.false_eq_true, if_false]

theorem cmwBand_completes (ha : a = s.at_ t) (h : Accepted t (specCmwBand c) c s i) (hen : fbit Chan.EN (a.chan (c.f 8 0 16)) = false) :
    Completes (exec (.cmwBand t c) s) i Reply.ok
      (a.onCmw fun w => { w with band := (List.range (c.f 0x10 8 7)).foldl (fun (m : Tab (Rec 16)) k =>
        tset 0 m (64 * c.f 8 0 16 + c.f 0x10 0 6 + k)
          (((List.range (c.f 0x10 8 7)).map fun k => (BitVec.ofNat 128 (c.inp >>> (128 * k)) : Rec 16)).getD k 0)) w.band }).dirtyHost := by
  refine completes_body (body := bodyCmwBand c) rfl h ?_
  simp only [bodyCmwBand, okWith, ← ha, hen, Bool.false_eq_true, if_false]

/-- Settles O36: each body on the branch that its operands and the state choose. -/
theorem waveformCommandsTakeEffect : Obligations.WaveformCommandsTakeEffect := by
  refine ⟨fun t c s i ch a ha hch h hr => cmwChannel_named ha hch h hr,
    fun t c s i ch a n b ha hch h hen hx hn hb => cmwChannel_run ha hch h hen hx hn hb,
    fun t c s i a ha h hen => ⟨_, cmwBand_completes ha h hen, rfl⟩,
    fun t c s i a e ha he h hfit => ⟨a.onCmw fun w => { w with spd := tset 0 w.spd (c.f 8 0 12) e }, ?_, rfl⟩,
    fun t c s i a e ha he h => ⟨a.onCmw fun w => { w with bnd := tset 0 w.bnd (c.f 8 0 20) (if fbit Bnd.VALID e then e else 0) }, ?_, rfl⟩,
    fun t c s i a o b ha ho hb h hop => completes_body (body := bodyCmwBaseline c) rfl h ?_,
    fun t c s i a ha h hop => completes_body (body := bodyCmwBaseline c) rfl h ?_,
    fun t c s i a ha h hop => completes_body (body := bodyCmwBaseline c) rfl h ?_,
    fun t c s i a ha h hop => completes_body (body := bodyCmwBaseline c) rfl h ?_,
    fun t c s i a d r u ha hd hr h hno hu => completes_body (body := bodyCmwCaptureDef c) rfl h ?_,
    fun t c s i a d ha hd h => ?_, fun t c s i a ha h => ?_, fun t c s i a r x ha hr h hx => ?_⟩
  · refine completes_body (body := bodyCmwSpeedRef c) rfl h ?_
    simp only [bodyCmwSpeedRef, ← ha, ← he, hfit, Bool.false_eq_true, if_false]
  · subst ha he
    exact completes_body (body := bodyCmwBind c) rfl h rfl
  · simp only [bodyCmwBaseline, okWith, hop, ← ha, ← ho, ← hb]
  · simp only [bodyCmwBaseline, okWith, hop, ← ha]
  · simp only [bodyCmwBaseline, okWith, hop, ← ha]
  · simp only [bodyCmwBaseline, okWith, hop, ← ha]
  · simp only [bodyCmwCaptureDef, ← ha, ← hd, hno, ← hr, hu]
    rfl
  · subst ha hd
    exact ⟨_, _, _, completes_body (body := bodyCmwCaptureTrig c) rfl h rfl, rfl⟩
  · subst ha
    exact completes_body (body := bodyCmwCaptureStop c) rfl h rfl
  · subst ha hr hx
    exact completes_body (body := bodyCmwRead c) rfl h rfl

/-- A capture ends once each of its channels that started has passed the end. -/
theorem captureEnd_ends {d e : Nat} {x : Capt} {l : List Nat} (ha : a = s.at_ t) (hx : a.capture d = some x) (he : x.tEnd = some e)
    (hdue : e ≤ a.wt) (hl : l = capChs (a.capDef d)) (hpast : ∀ ch ∈ l, (a.chx ch).started = true → e < fget Chan.T_NEXT (a.chan ch)) :
    Ends (exec (.captureEnd t d) s) ((l.foldl (fun s ch => s.capSync d ch) a).capEnd d 0 none) := by
  have hwait : (l.any fun ch => (a.chx ch).started && decide (fget Chan.T_NEXT (a.chan ch) ≤ e)) = false := by
    refine List.any_eq_false.mpr fun ch hch => ?_
    rw [Bool.and_eq_true, decide_eq_true_eq]
    rintro ⟨hstarted, hle⟩
    exact Nat.not_lt.mpr hle (hpast ch hch hstarted)
  change execCaptureEnd t d s = State.done _
  simp only [execCaptureEnd, ← ha, hx, he, ← hl, hwait, decide_eq_false (Nat.not_lt.mpr hdue), Bool.or_self, Bool.false_eq_true, if_false]

/-- Settles O37: each row's meaning on the branch that its conditions choose. -/
theorem waveformRowsTakeEffect : Obligations.WaveformRowsTakeEffect := by
  refine ⟨fun t s a b l ha hq hr => ⟨_, ?_, rfl⟩, fun t s a f l ha hq hr => ⟨_, ?_, rfl⟩, fun t d s a w ha hw hd hm hgap => ⟨_, rfl, ?_⟩,
    fun t ch s a c e ha hc he hr hen hord hsrc hrun hdue => ?_,
    fun t d s a x e l ha hx he hdue hl hpast => captureEnd_ends ha hx he hdue hl hpast,
    fun t s a ha hr hdue => ⟨a.onCmw fun w => { w with ckpt := w.base, ckptAt := a.wt }, ?_, rfl, rfl, rfl⟩⟩
  · change execCmwBlock t s = State.done _
    simp [execCmwBlock, ← ha, hq, hr]
  · change execFrameFeatures t s = State.done _
    simp [execFrameFeatures, ← ha, hq, hr]
  · change execTachPulse t d s = State.done _
    simp [execTachPulse, ← ha, ← hw, Nat.not_lt.mpr hd, hm]
    omega
  · change execSpeedStopped t ch s = State.done _
    simp only [execSpeedStopped, ← ha, ← hc, ← he, hr, hen, hord, hsrc, hrun, decide_eq_false (Nat.not_lt.mpr hdue),
      beq_self_eq_true, Bool.and_self, Bool.not_true, Bool.or_self, Bool.false_eq_true, if_false]
  · change execBaselineCheckpoint t s = State.done _
    simp only [execBaselineCheckpoint, ← ha, hr, decide_eq_false (Nat.not_lt.mpr hdue), Bool.not_true, Bool.or_self, Bool.false_eq_true,
      if_false]

end Sys2Proof.Machine
end

section
/-! PROOFS. The control commands and what the control engine does by itself (R231 to R289). `a` is the state of the instant. -/

namespace Sys2Proof.Machine

/-- Settles O38: the engine applies each command at the loop's next evaluation, and the body gives it to it. -/
theorem loopCommandsTakeEffect : Obligations.LoopCommandsTakeEffect := by
  refine ⟨fun t c s i l a g h ha hl hg hacc hh => completes_body (body := bodyCtlLoopConfig c) rfl hacc ?_,
    fun t c s i l a ha hl h => completes_body (body := bodyCtlSupConfig c) rfl h ?_,
    fun t c s i l a ha hl h hno => completes_body (body := bodyCtlMode c) rfl h ?_,
    fun t c s i l a ha hl h hm hout => completes_body (body := bodyCtlMode c) rfl h ?_,
    fun t c s i l a ha hl h hman => completes_body (body := bodyCtlManOut c) rfl h ?_,
    fun t c s i l a ha hl h htrack => completes_body (body := bodyCtlSetpoint c) rfl h ?_,
    fun t c s i l a ha hl h => completes_body (body := bodyCtlCompTable c) rfl h ?_,
    fun t c s i l a ha hl h => completes_body (body := bodyCtlSupReset c) rfl h ?_⟩
  · simp only [bodyCtlLoopConfig, okWith, ← ha, ← hl, ← hg, ← hh]
  · simp only [bodyCtlSupConfig, okWith, ← ha, ← hl]
  · have hnone : (c.f 0x10 0 3 == mMan && c.f 0x0C 0 1 == 1) = false := by
      rcases hno with h | h <;> simp [h]
    simp only [bodyCtlMode, ← ha, ← hl, hnone, Bool.false_eq_true, if_false]
  · simp only [bodyCtlMode, ← ha, ← hl, hm, hout, beq_self_eq_true, Bool.and_self, if_true]
  · simp only [bodyCtlManOut, ← ha, ← hl, hman, bne_self_eq_false, Bool.false_eq_true, if_false]
  · have hopen : (fbit Loop.SP_TRACK (a.loopProj l).half && !closedMode (a.loopProj l).mode) = false := by
      rcases htrack with htrack | htrack <;> simp [htrack]
    simp only [bodyCtlSetpoint, ← ha, ← hl, hopen, Bool.false_eq_true, if_false]
  · simp only [bodyCtlCompTable, okWith, ← ha, ← hl]
  · simp only [bodyCtlSupReset, okWith, ← ha, ← hl]

variable {t l : Nat} {s a : State}

/-- The loop that is due is evaluated; its half of the engine has begun its cycle. -/
theorem loopEvaluate_ends {cyc : Nat} (ha : a = s.at_ t) (hn : a.evalNext = some (cyc, l)) (hr : a.ready 15 = true)
    (hc : cyc ≤ cycOf a.wt) :
    ∃ v : State, Ends (exec (.loopEvaluate t l 0) s) (v.loopEval l cyc ((v.loopX l).next - 1)) ∧
      v.ctl.started = tset 0 a.ctl.started (l / 256) (cyc + 1) := by
  refine ⟨(a.modLoop l fun r => fput Loop.TWINS (fget Loop.TWINS r ^^^ 0 % 2 ^ 192) r).onCtl fun c =>
    { c with started := tset 0 c.started (l / 256) (cyc + 1) }, ?_, rfl⟩
  have hgo : (l != l || !a.ready 15 || decide (cycOf a.wt < cyc)) = false := by simp [hr, hc]
  change execLoopEvaluate t l 0 s = State.done _
  simp only [execLoopEvaluate, ← ha, hn, hgo, Bool.false_eq_true, if_false]
  rfl

theorem loopFrameDepart_ends {p : Nat} {u : State} (ha : a = s.at_ t) (hup : a.portUp p = true) (hb : (a.port p).busy ≤ a.tim.now)
    (hd : a.departLoop p = some u) : Ends (exec (.loopFrameDepart t p) s) u := by
  change execLoopFrameDepart t p s = State.done _
  simp only [execLoopFrameDepart, ← ha, hup, hb, hd, decide_true, Bool.and_self, if_true]

theorem loopConfigScrub_ends {fl fs : Nat} {img : Bool} {u v : State} (ha : a = s.at_ t)
    (hu : u = if fs % 2 ^ 512 == 0 then a else a.setSup l (a.sup l ^^^ BitVec.ofNat 512 fs))
    (hd : u.scrubDue (tget 0 u.ctl.scrubAt l) = true)
    (hv : v = u.onCtl fun c => { c with scrubAt := tset 0 c.scrubAt l (u.tim.now + 1) }) :
    Ends (exec (.loopConfigScrub t l fl fs img) s) ((v.scrubHalf l fl img).scrubSup l img) := by
  change execLoopConfigScrub t l fl fs img s = State.done _
  simp only [execLoopConfigScrub, ← ha, ← hu, hd, Bool.not_true, Bool.false_eq_true, if_false, ← hv]

theorem State.scrubHalf_intact {fl : Nat} {h : Rec 256} (hh : h = s.half l ^^^ BitVec.ofNat 2048 fl) (hok : Loop.intact h = true) (img : Bool) :
    s.scrubHalf l fl img = s.modLoop l (fput Loop.HALF h.toNat) := by
  simp only [State.scrubHalf, ← hh, hok, if_true]

/-- Without an image to load again, a loop whose configuration is lost stands still. -/
theorem State.scrubHalf_lost {fl : Nat} {h : Rec 256} (hh : h = s.half l ^^^ BitVec.ofNat 2048 fl) (hbad : Loop.intact h = false) :
    s.scrubHalf l fl false = ((((s.bump Reg.CTL_CFG_CRC_CNT.COUNT).twinEvent l 18 (fget Loop.LCTRL_N h)
      (fget Loop.LCTRL h)).modLoop l (fput Loop.HALF h.toNat)).modLoopX l fun x => { x with lost := true }) := by
  simp only [State.scrubHalf, ← hh, hbad, Bool.false_and, Bool.false_eq_true, if_false]
  rfl

theorem State.scrubSup_intact (h : Sup.intact (s.sup l) = true) (img : Bool) : s.scrubSup l img = s := by
  rw [State.scrubSup, if_pos h]

/-- Settles O39: each body and each row on the branch that its conditions choose. -/
theorem loopTuningAndReadsTakeEffect : Obligations.LoopTuningAndReadsTakeEffect := by
  refine ⟨fun t c s i l a ha hl h hno => completes_body (body := bodyCtlTuneStart c) rfl h ?_,
    fun t c s i l a ha hl h => completes_body (body := bodyCtlTuneStop c) rfl h ?_,
    fun t c s i l a n ha hl hn h => ⟨_, completes_body (body := bodyCtlTuneRead c) rfl h ?_, rfl⟩,
    fun t c s i l a ha hl h => completes_body (body := bodyCtlLoopRead c) rfl h ?_,
    fun t c s i l a ha hl h hno => completes_body (body := bodyCtlLoopDelete c) rfl h ?_,
    fun t l s a cyc ha hn hr hc => loopEvaluate_ends ha hn hr hc, fun t p s a u ha hup hb hd => loopFrameDepart_ends ha hup hb hd,
    fun t l fl fs img s a u v ha hu hd hv => loopConfigScrub_ends ha hu hd hv,
    fun l fl v h hh => ⟨fun img hok => State.scrubHalf_intact hh hok img, fun hbad => State.scrubHalf_lost hh hbad,
      fun img hok => State.scrubSup_intact hok img⟩⟩
  · simp only [bodyCtlTuneStart, ← ha, ← hl, hno, Bool.false_eq_true, if_false]
  · simp only [bodyCtlTuneStop, okWith, ← ha, ← hl]
  · simp only [bodyCtlTuneRead, ← ha, ← hl, ← hn]
  · simp only [bodyCtlLoopRead, okWith, ← ha, ← hl]
  · simp only [bodyCtlLoopDelete, ← ha, ← hl, hno, Option.isSome_none, Bool.false_eq_true, if_false]

end Sys2Proof.Machine
end

section
/-! PROOFS. The Beacon's commands (R290 to R332). `a` is the state of the instant. -/

namespace Sys2Proof.Machine

/-- Settles O40: each body at the command's instant. -/
theorem beaconCommandsTakeEffect : Obligations.BeaconCommandsTakeEffect := by
  refine ⟨fun t c s i h => ⟨_, completes_body (body := bodyBcnTableWrite c) rfl h rfl, rfl⟩,
    fun t c s i h => ⟨_, rfl, completes_body (body := bodyBcnTableRead c) rfl h rfl⟩,
    fun t c s i n v h hone hv => completes_body (body := bodyBcnAccept c) rfl h ?_,
    fun t c s i n v h hall hv => completes_body (body := bodyBcnAccept c) rfl h ?_,
    fun t c s i v h hv => completes_body (body := bodyBcnDm c) rfl h ?_,
    fun t c s i h => completes_body (body := bodyBcnUms c) rfl h rfl,
    fun t c s i b v h hv => completes_body (body := bodyBcnHostCall c) rfl h ?_⟩
  · simp [bodyBcnAccept, hone, hv]
  · simp [bodyBcnAccept, hall, hv]
  · simp only [bodyBcnDm, hv, Bool.false_eq_true, if_false]
  · simp only [bodyBcnHostCall, hv]

/-- Settles O41: each row's meaning on the branch that its conditions choose. -/
theorem beaconRowsTakeEffect : Obligations.BeaconRowsTakeEffect := by
  refine ⟨fun t key s a q ha hq hlast => ?_, fun t key s a q ha hq hbelow => ?_, fun t key s a q ha hq => ?_,
    fun t u s a ha hu hset hdue hst => ⟨_, rfl, ?_⟩, fun t u s a ha hu hset hdue hst => ⟨_, _, rfl, rfl, ?_⟩,
    fun t node fault s hup => ?_, fun t node evt key n s hup => ?_, fun t n s a ha hn hlost hdue => ?_,
    fun t station key s a x v ha hx hdue hleft hv => ?_, fun t station key s a x v k ha hx hdue hleft hk hv => ?_,
    fun t station key s a x v k ha hx hdue hleft hk hv => ?_⟩
  · change execStageTimerExpire t key s = State.done _
    simp only [execStageTimerExpire, ← ha, hq, Nat.not_lt.mpr hlast, if_false]
  · change execStageTimerExpire t key s = State.done _
    simp only [execStageTimerExpire, ← ha, hq, hbelow, if_true]
  · change execAttendTimerExpire t key s = State.done _
    simp only [execAttendTimerExpire, ← ha, hq]
  · change execDeadmanTimerExpire t u s = State.done _
    simp [execDeadmanTimerExpire, ← ha, Nat.not_le.mpr hu, hset, Nat.not_le.mpr hdue, hst]
  · change execDeadmanTimerExpire t u s = State.done _
    simp [execDeadmanTimerExpire, ← ha, Nat.not_le.mpr hu, hset, Nat.not_le.mpr hdue, hst]
  · change execBcnStatus t node fault s = State.done _
    rw [execBcnStatus, if_pos hup]
  · change execBcnStationEvt t node evt key n s = State.done _
    rw [execBcnStationEvt, if_pos hup]
  · change execStationLostTimeout t n s = State.done _
    simp [execStationLostTimeout, ← ha, Nat.not_le.mpr hn, hlost, Nat.not_lt.mpr hdue]
  all_goals
    change execBcnCallRepeat t station key s = State.done _
    simp only [execBcnCallRepeat, ← ha, hx, Nat.not_lt.mpr hdue, if_false, hleft]
  · rw [hv, hleft]
  · simp only [Nat.not_le.mpr hk, if_false]
    rw [hv]
  · simp only [hk, if_true]
    rw [hv]

end Sys2Proof.Machine
end

section
/-! PROOFS. The Ledger's commands and rows (R333 to R369). `a` is the state of the instant. -/

namespace Sys2Proof.Machine

variable {t : Nat} {c : Cmd} {s a : State} {i : Infl}

/-- Another function than the asking one holds the Ledger view (R348). -/
def Ldg.viewElsewhere (fn : Nat) (l : Ldg) : Bool :=
  match l.view with
  | some v => v.1 != fn && fn != 0
  | none => false

theorem bodyLdgView_eq (c : Cmd) (s : State) : bodyLdgView c s =
    if s.ldg.viewElsewhere (s.fnOf c) then (some (Reply.of 6), s)
    else if c.d 0x10 == 0 then (some Reply.ok, s.onLdg fun l => { l with view := none, viewDue := [] })
    else
      let pins := (List.range (min (c.f 8 0 13) 4096)).map fun k => c.bw (4 * k)
      let u := s.onLdg fun l => { l with view := some (s.fnOf c, c.d 0x10, pins), viewGen := [], viewAt := [], viewDue := [] }
      (some Reply.ok, pins.foldl (fun s i => s.livePut i) ((List.range 1024).foldl (fun s k =>
        s.viewPut k (64 * k) 64 56 (tallyBlock k (tget ⟨0, 0, 0, 0⟩ s.ldg.tally k))) u)) := rfl

theorem Ldg.viewElsewhere_free {fn : Nat} {l : Ldg} (h : l.view = none ∨ fn = 0 ∨ ∃ x, l.view = some (fn, x)) :
    l.viewElsewhere fn = false := by
  unfold Ldg.viewElsewhere
  rcases h with h | rfl | ⟨x, h⟩
  · simp only [h]
  · split <;> simp
  · simp only [h, bne_self_eq_false, Bool.false_and]

theorem Ldg.viewElsewhere_held {fn w : Nat} {x : Nat × List Nat} {l : Ldg} (h : l.view = some (w, x)) (hw : w ≠ fn) (hfn : fn ≠ 0) :
    l.viewElsewhere fn = true := by
  simp [Ldg.viewElsewhere, h, hw, hfn]

theorem State.snapLive_nil (v : Nat) (s : State) : s.snapLive [] v = (v, s) := rfl

/-- Settles O42: each body on the branch that the Ledger's state chooses. -/
theorem ledgerCommandsTakeEffect : Obligations.LedgerCommandsTakeEffect := by
  refine ⟨fun t c s i a b ha hb h => completes_body (body := bodyLdgBinset c) rfl h ?_,
    fun t c s i a ha h hfree h0 => completes_body (body := bodyLdgView c) rfl h ?_,
    fun t c s i a w x ha h hheld hw hfn => completes_body (body := bodyLdgView c) rfl h ?_,
    fun t c s i a pins u ha h hfree h0 hp hu => completes_body (body := bodyLdgView c) rfl h ?_,
    fun t c s i h hbuf => completes_body (body := bodyLdgFlush c) rfl h ?_,
    fun t c s i a v ha h hbuf hv hopen hnone => completes_body (body := bodyLdgFlush c) rfl h ?_,
    fun t c s i a v ha h hbuf hv hopen hany => stays_body (body := bodyLdgFlush c) rfl h ?_,
    fun t c s i a ha h hview => completes_body (body := bodyLdgSnapshot c) rfl h ?_,
    fun t c s i a x pins v w ha h hview hsnap => completes_body (body := bodyLdgSnapshot c) rfl h ?_,
    fun t c s i a ha h hst => completes_body (body := bodyLdgTripArm c) rfl h ?_,
    fun t c s i a ha h hst => completes_body (body := bodyLdgTripArm c) rfl h ?_,
    fun t c s i h => completes_body (body := bodyLdgTripStop c) rfl h rfl,
    fun t c s i a ha h => completes_body (body := bodyLdgTripTrigger c) rfl h ?_,
    fun t c s i a n ha hn h => completes_body (body := bodyLdgTripRead c) rfl h ?_⟩
  · simp only [bodyLdgBinset, okWith, ← ha, ← hb]
  · simp only [bodyLdgView_eq, ← ha, Ldg.viewElsewhere_free hfree, h0, beq_self_eq_true, Bool.false_eq_true, if_false, if_true]
  · simp only [bodyLdgView_eq, ← ha, Ldg.viewElsewhere_held hheld hw hfn, if_true]
  · simp only [bodyLdgView_eq, ← ha, Ldg.viewElsewhere_free hfree, beq_eq_false_iff_ne.mpr h0, Bool.false_eq_true, if_false, ← hp, ← hu]
  · simp only [bodyLdgFlush, ldgFlushBody, State.at_ldg, hbuf, List.isEmpty_nil, if_true]
  · simp only [bodyLdgFlush, ldgFlushBody, ← ha, List.isEmpty_eq_false_iff.mpr hbuf, ← hv, hopen, hnone, Bool.false_eq_true, if_false]
  · simp only [bodyLdgFlush, ldgFlushBody, ← ha, List.isEmpty_eq_false_iff.mpr hbuf, ← hv, hopen, hany, Bool.false_eq_true, if_false,
      if_true]
  · simp only [bodyLdgSnapshot, ← ha, hview, State.snapLive_nil, List.length_nil, Nat.mul_zero, Nat.add_zero]
  · simp only [bodyLdgSnapshot, ← ha, hview, ← hsnap]
  · simp only [bodyLdgTripArm, ← ha, beq_eq_false_iff_ne.mpr hst, Bool.false_eq_true, if_false]
  · simp only [bodyLdgTripArm, ← ha, hst, beq_self_eq_true, if_true]
  · simp only [bodyLdgTripTrigger, ← ha]
  · simp only [bodyLdgTripRead, ← ha, ← hn]

theorem lshipLedgerPass_up (ha : a = s.at_ t) (hl : a.pwr.lshipUp = true) (hup : a.pwr.mainUp = true)
    (hdue : a.ldg.passAt + ofMs 10 ≤ a.tim.now) {v : State} {ev : EvList}
    (hv : a.ldg.lbuf.foldl (fun (p : State × EvList) r => ((p.1.bufTake r).1, p.2 ++ (p.1.bufTake r).2))
      (a.onLdg fun x => { x with lbuf := [], passAt := a.tim.now }, []) = (v, ev)) :
    Ends (exec (.lshipLedgerPass t) s) (ev.foldl (fun s e => s.raise e.1 e.2.1 e.2.2) v) := by
  change execLshipLedgerPass t s = State.done _
  simp only [execLshipLedgerPass, ← ha, hl, hup, Nat.not_lt.mpr hdue, hv, Bool.not_true, Bool.false_eq_true, if_false, if_true]

/-- Settles O43: each row's meaning on the branch that its conditions choose. -/
theorem ledgerRowsTakeEffect : Obligations.LedgerRowsTakeEffect := by
  refine ⟨fun t s a ha hup hok hl => ?_, fun t s a ha hup hl => ?_, fun t s a ha hup hok hl => ?_, fun t s a r l ha hb hup hok hage => ?_,
    fun t s a ha hl hup hdue hb => ⟨_, lshipLedgerPass_up ha hl hup hdue (by rw [hb]), rfl, rfl, rfl⟩,
    fun t s a l ha hl hup hdue hb => ⟨_, _, _, rfl, rfl, lshipLedgerPass_up ha hl hup hdue (by rw [hb])⟩,
    fun t s a ha hl hup hdue => ?_, fun t s a n u rest all v ha hs hup hok hvol hall hu hv => ?_⟩
  · change execHistBoundary t s = State.done _
    simp [execHistBoundary, ← ha, hup, hok, hl]
  · change execHistBoundary t s = State.done _
    simp [execHistBoundary, ← ha, hup, hl]
  · change execHistBoundary t s = State.done _
    simp [execHistBoundary, ← ha, hup, hok, hl]
  · change execLedgerAgeFlush t s = State.done _
    simp [execLedgerAgeFlush, ← ha, hb, hup, hok, hage]
  · change execLshipLedgerPass t s = State.done _
    simp [execLshipLedgerPass, ← ha, hl, hup, Nat.not_lt.mpr hdue]
  · change execSpoolReplay t s = State.done _
    simp [execSpoolReplay, ← ha, hs, hup, hok, hvol, ← hall, hu, ← hv]

end Sys2Proof.Machine
end

section
/-! PROOFS. The historian's commands and rows (R370 to R400). `a` is the state of the instant. -/

namespace Sys2Proof.Machine

variable {t n : Nat} {c : Cmd} {s a u : State} {i : Infl}

/-- A new leg: the open segment, where there is one, is written to it before the copy begins. -/
theorem bodyHstLegReplace_eq (hn : n = c.f 8 0 10)
    (hu : u = (a.modVol n fun x => { (if c.f 8 16 1 == 0 then { x with leg0 := legNamed c 0x10, syncLeg := 1 }
      else { x with leg1 := legNamed c 0x10, syncLeg := 2 }) with syncNext := 0, syncEnd := a.rf (Reg.HST_VOL.WRITE_PTR n) }).wf
        (Reg.HST_VOL.SYNCING n) 1) :
    bodyHstLegReplace c a = (some Reply.ok, ((match u.vol n with
      | some x => if x.segOpen then u.nvAdd ⟨.write, (legNamed c 0x10).ctrlr, (legNamed c 0x10).nsid, n, c.f 8 16 1, x.seg,
          (legNamed c 0x10).slba + x.seg * 256, (x.fill + 4095) / 4096, x.body, 0, 0, 0, 0⟩ else u
      | none => u).copyStep n).dirtyHost) := by
  subst hn hu
  rfl

theorem hstLegReplace_completes (ha : a = s.at_ t) (hn : n = c.f 8 0 10) (h : Accepted t (specHstLegReplace c) c s i)
    (hu : u = (a.modVol n fun x => { (if c.f 8 16 1 == 0 then { x with leg0 := legNamed c 0x10, syncLeg := 1 }
      else { x with leg1 := legNamed c 0x10, syncLeg := 2 }) with syncNext := 0, syncEnd := a.rf (Reg.HST_VOL.WRITE_PTR n) }).wf
        (Reg.HST_VOL.SYNCING n) 1) :
    ((u.vol n = none ∨ ∃ x, u.vol n = some x ∧ x.segOpen = false) →
      Completes (exec (.hstLegReplace t c) s) i Reply.ok ((u.copyStep n).dirtyHost)) ∧
    (∀ x l, u.vol n = some x → x.segOpen = true → l = legNamed c 0x10 → Completes (exec (.hstLegReplace t c) s) i Reply.ok (((u.nvAdd
      ⟨.write, l.ctrlr, l.nsid, n, c.f 8 16 1, x.seg, l.slba + x.seg * 256, (x.fill + 4095) / 4096, x.body, 0, 0, 0, 0⟩).copyStep n).dirtyHost)) := by
  have hbody := bodyHstLegReplace_eq hn hu
  subst ha
  refine ⟨fun hclosed => completes_body (body := bodyHstLegReplace c) rfl h ?_, fun x l hx hopen hl =>
    completes_body (body := bodyHstLegReplace c) rfl h ?_⟩
  · rw [hbody]
    rcases hclosed with hno | ⟨x, hx, hx'⟩
    · simp only [hno]
    · simp only [hx, hx', Bool.false_eq_true, if_false]
  · rw [hbody]
    simp only [hx, hopen, hl, if_true]

/-- Settles O44: each body on the branch that the volume's state chooses. -/
theorem historianCommandsTakeEffect : Obligations.HistorianCommandsTakeEffect := by
  refine ⟨fun t c s i a n u ha hn h hu => completes_body (body := bodyHstVolCreate c) rfl h ?_,
    fun t c s i n a u ha hn h huse hu => stays_body (body := bodyHstVolErase c) rfl h ?_,
    fun t c s i n a ha hn h huse => completes_body (body := bodyHstVolErase c) rfl h ?_,
    fun t c s i n a u ha hn h hst huse hrot hcap hu => ⟨_, rfl, completes_body (body := bodyHstVolDelete c) rfl h ?_⟩,
    fun t c s i a l m ha h hr hl hm hne => stays_body (body := bodyHstRemount c) rfl h ?_,
    fun t c s i a l ha h hr hl hnone => completes_body (body := bodyHstRemount c) rfl h ?_,
    fun t c s i a n u ha hn h hu => hstLegReplace_completes ha hn h hu,
    fun t c s i a n l ha hn h hl hne => stays_body (body := bodyHstRead c) rfl h ?_,
    fun t c s i a n ha hn h hnone => completes_body (body := bodyHstRead c) rfl h ?_⟩
  · simp only [bodyHstVolCreate, okWith, ← ha, ← hn, ← hu]
  · simp only [bodyHstVolErase, ← ha, ← hn, huse, Bool.false_eq_true, if_false, ← hu]
  · simp only [bodyHstVolErase, ← ha, ← hn, huse, if_true]
  · simp only [bodyHstVolDelete, ← ha, ← hn, beq_eq_false_iff_ne.mpr hst, huse, hrot, hcap, Bool.or_self, Bool.false_eq_true, if_false,
      ← hu]
  · simp only [bodyHstRemount, ← ha, hr, ← hl, ← hm, Option.isSome_none, List.isEmpty_eq_false_iff.mpr hne, Bool.false_eq_true, if_false]
  · simp only [bodyHstRemount, ← ha, hr, ← hl, hnone, Option.isSome_none, List.isEmpty_nil, Bool.false_eq_true, if_false, if_true]
  · simp only [bodyHstRead, ← ha, ← hn, ← hl, List.isEmpty_eq_false_iff.mpr hne, Bool.false_eq_true, if_false]
  · simp only [bodyHstRead, ← ha, ← hn, hnone, List.isEmpty_nil, if_true]

/-- A command of a drive that went well, by its kind. -/
theorem nvmeCompletion_ends {k seg : Nat} {d : NvCmd} {v : State} (ha : a = s.at_ t) (hk : a.nvAt k = some d)
    (hv : v = match d.kind with
      | .read => (a.nvDone k).readEnd d (some (seg % 2 ^ (8 * 2 ^ 20)))
      | .write | .flush => if d.flush == 0 then a.nvDone k else (a.nvDone k).flushWritten (d.flush - 1)
      | .trailer => (a.nvDone k).trailerDone d
      | .dealloc => if (a.nvDone k).hst.nv.any fun e => e.kind == .dealloc && e.vol == d.vol then a.nvDone k
        else (a.nvDone k).deallocated d.vol
      | .copyRead => (a.nvDone k).copyPut d (seg % 2 ^ (8 * 2 ^ 20))
      | .copyWrite => ((a.nvDone k).modVol d.vol fun x => { x with syncNext := d.seg + 1 }).copyStep d.vol
      | .abort => a.nvDone k) :
    Ends (exec (.nvmeCompletion t k true seg) s) v := by
  change execNvmeCompletion t k true seg s = State.done _
  subst hv
  simp only [execNvmeCompletion, ← ha, hk, Bool.not_true, Bool.false_eq_true, if_false]
  cases d.kind <;> rfl

theorem nvmeTimeout_ends {k : Nat} {bad : Bool} {d : NvCmd} {v : State} (ha : a = s.at_ t) (hk : a.nvAt k = some d)
    (hdue : d.t - 1 + ofS 5 ≤ a.tim.now) (hu : u = (a.bump Reg.HST_TIMEOUT_CNT.COUNT).nvFailed k d)
    (hv : v = if u.ctrlrUp d.ctrlr then u.nvAdd ⟨.abort, d.ctrlr, 0, 1024, 0, 0, 0, 0, 0, 0, 0, 0, 0⟩ else u) :
    Ends (exec (.nvmeTimeout t k bad) s) (if bad then v.ctrlrFail d.ctrlr else v) := by
  change execNvmeTimeout t k bad s = State.done _
  simp only [execNvmeTimeout, ← ha, hk, Nat.not_lt.mpr hdue, if_false, ← hu, ← hv]

/-- A controller that the module knows takes its number again. -/
theorem controllerArrival_ends {serial port bdf : Nat} {vwc : Bool} {v : State} (ha : a = s.at_ t) (hup : a.pwr.mainUp = true)
    (hknown : (a.hst.bound.find? fun p => p.2 == serial) = some (n, serial)) (hdown : a.ctrlrUp n = false)
    (hu : u = a.onHst fun h => { h with nsBlocks := h.nsBlocks.filter fun e => e.1 / 2 ^ 32 != n })
    (hv : v = ((((u.wf (Reg.HST_CTRLR.PRESENT n) 1).wf (Reg.HST_CTRLR.PORT n) port).wf (Reg.HST_CTRLR.VWC n) (b2n vwc)).wf
      (Reg.HST_CTRLR.FAILED n) 0).wf (Reg.HST_CTRLR.BDF n) bdf) :
    Ends (exec (.controllerArrival t serial port bdf vwc []) s) (((v.bump Reg.HST_NS_REJECT_CNT.COUNT 0).hstGauges).eraseAgain n) := by
  change execControllerArrival t serial port bdf vwc [] s = State.done _
  simp only [execControllerArrival, ← ha, hknown, hdown, hup, Bool.not_true, Bool.or_self, Bool.false_eq_true, if_false,
    Option.isSome_some, if_true, List.foldl_nil, List.filter_nil, List.length_nil, ← hu, ← hv]

/-- Settles O45: each row's meaning on the branch that its conditions choose. -/
theorem historianRowsTakeEffect : Obligations.HistorianRowsTakeEffect := by
  refine ⟨fun t k seg s a c ha hk => ?_, fun t k seg s a c ha hk hkind => nvmeCompletion_ends ha hk (by rw [hkind]),
    fun t k seg s a c ha hk hkind => nvmeCompletion_ends ha hk (by rcases hkind with hkind | hkind <;> rw [hkind]),
    fun t k seg s a c ha hk hkind => nvmeCompletion_ends ha hk (by rw [hkind]),
    fun t k seg s a c ha hk hkind => nvmeCompletion_ends ha hk (by rw [hkind]),
    fun t k seg s a c ha hk hkind => nvmeCompletion_ends ha hk (by rw [hkind]),
    fun t k seg s a c u ha hk hkind hu hlast => nvmeCompletion_ends ha hk (by simp only [hkind, ← hu, hlast, Bool.false_eq_true, if_false]),
    fun t k bad s a c u v ha hk hdue hu hv => nvmeTimeout_ends ha hk hdue hu hv,
    fun t serial port bdf vwc s a n u v ha hup hknown hdown hu hv => controllerArrival_ends ha hup hknown hdown hu hv,
    fun t n segs s a ha hup hm hno hst => ?_, fun t n s a ha hup hst => ?_, fun t n s a ha hup hsync hend => ?_,
    fun t n s a ha hup hp => ?_⟩
  · change execNvmeCompletion t k false seg s = State.done _
    simp only [execNvmeCompletion, ← ha, hk, Bool.not_false, if_true]
  · change execVolumeMount t n segs s = State.done _
    simp [execVolumeMount, ← ha, hup, hm, hno, hst]
  · change execDeallocationComplete t n s = State.done _
    simp [execDeallocationComplete, ← ha, hup, hst]
  · change execLegSyncComplete t n s = State.done _
    simp only [execLegSyncComplete, ← ha, hup, hsync]
    cases hx : a.vol n with
    | none => rfl
    | some x => simp [Nat.not_lt.mpr (hend x hx)]
  · change execControllerPathLinkDown t n s = State.done _
    simp [execControllerPathLinkDown, ← ha, hup, hp]

end Sys2Proof.Machine
end

section
/-! PROOFS. The Lantern's commands and rows (R637 to R661). `a` is the state of the instant. -/

namespace Sys2Proof.Machine

variable {t : Nat} {c : Cmd} {s a : State} {i : Infl}

/-- LTN_SHOW: `w` is the state after the mode is set, with its event where it changes. -/
theorem ltnShow_completes {w : State} (ha : a = s.at_ t) (h : Accepted t (specLtnShow c) c s i)
    (hw : w = if a.rf Reg.LTN_STAT.MODE = c.f 8 8 2 then a.wf Reg.LTN_STAT.MODE (c.f 8 8 2)
      else ((a.wf Reg.LTN_STAT.MODE (c.f 8 8 2)).modeEvent 0).dirtyHost) :
    (c.f 8 8 2 = 1 → Completes (exec (.ltnShow t c) s) i Reply.ok w.composeAsk) ∧
    (c.f 8 8 2 = 0 → ∃ u v : State, u = w.setCrc (c.f 8 0 1) (c.w 0x10) ∧ v = u.onLtn (fun l => { l with
        drawing := none, again := false, swap := false, marks := [], copyDue := w.tim.now + 1 }) ∧
      Completes (exec (.ltnShow t c) s) i Reply.ok (if v.rf Reg.LTN_STAT.FB_SHOWN == c.f 8 0 1 then v else v.swapAsk [])) := by
  have hmode : (if a.rf Reg.LTN_STAT.MODE == c.f 8 8 2 then a.wf Reg.LTN_STAT.MODE (c.f 8 8 2)
      else ((a.wf Reg.LTN_STAT.MODE (c.f 8 8 2)).modeEvent 0).dirtyHost) = w := by
    rw [hw]
    simp only [beq_iff_eq]
  refine ⟨fun h1 => completes_body (body := bodyLtnShow c) rfl h ?_, fun h0 => ⟨_, _, rfl, rfl, completes_body (body := bodyLtnShow c) rfl h ?_⟩⟩
  · simp only [bodyLtnShow, okWith, ← ha, hmode]
    rw [h1, if_pos (beq_self_eq_true 1)]
  · simp only [bodyLtnShow, okWith, ← ha, hmode]
    rw [h0, if_neg (by decide)]

/-- Settles O46: each body on the branch that the mode and the buffer shown choose. -/
theorem lanternCommandsTakeEffect : Obligations.LanternCommandsTakeEffect := by
  refine ⟨fun t c s i a n u v ha hn h hu hv => completes_body (body := bodyLtnTile c) rfl h ?_,
    fun t c s i a ha h hbusy => completes_body (body := bodyLtnFrameWrite c) rfl h ?_,
    fun t c s i a ha h hmode hfb => ⟨_, completes_body (body := bodyLtnFrameWrite c) rfl h ?_, rfl⟩,
    fun t c s i a w ha h hw => ltnShow_completes ha h hw⟩
  · simp only [bodyLtnTile, okWith, ← ha, ← hn, ← hu, ← hv]
  · simp only [bodyLtnFrameWrite, ← ha, hbusy, if_true]
  · simp only [bodyLtnFrameWrite, ← ha, hmode, beq_eq_false_iff_ne.mpr hfb, Bool.or_self, Bool.false_eq_true, if_false]

theorem panelSweepCheck_ends {n : Nat} {v : State} (ha : a = s.at_ t) (hn : n = a.rf Reg.LTN_STAT.FB_SHOWN) (hst : a.rf Reg.LTN_STAT.PSTATE = 2)
    (hline : a.ltn.line = 0) (hch : a.ltn.checked = false)
    (hv : v = (a.setFb n (a.fb n)).onLtn fun l => { l with checked := true, recSweeps := l.recSweeps + 1 }) :
    (v.fbCrc n = v.crcOf n → Ends (exec (.panelSweepCheck t []) s) v) ∧
    (v.fbCrc n ≠ v.crcOf n → v.crcRow = 0 → ∃ w : State, w = ((v.bump Reg.LTN_CRC_CNT.COUNT).raise Ev.LTN_CRC_MISMATCH n
        [v.crcOf n, v.fbCrc n, 0]).onLtn (fun l => { l with recRow := 1, recSweeps := 0 }) ∧
      Ends (exec (.panelSweepCheck t []) s) (w.composeStart w.sstate)) := by
  have hgo : (a.rf Reg.LTN_STAT.PSTATE != 2 || a.ltn.line != 0 || a.ltn.checked) = false := by simp [hst, hline, hch]
  refine ⟨fun hcrc => ?_, fun hcrc hrow => ⟨_, rfl, ?_⟩⟩
  all_goals
    change execPanelSweepCheck t [] s = State.done _
    simp only [execPanelSweepCheck, ← ha, hgo, Bool.false_eq_true, if_false, ← hn, List.filter_nil, List.foldl_nil, ← hv]
  · rw [if_pos (beq_iff_eq.mpr hcrc)]
  · rw [if_neg (by simpa using hcrc), hrow]
    rfl

/-- In regular operation a line of the shown frame goes out, the first dirty one where there is one. -/
theorem panelLineSent_ends {v : State} (ha : a = s.at_ t) (hst : a.rf Reg.LTN_STAT.PSTATE = 2) (hok : a.rb Reg.LTN_STAT.BIAS_FAULT = false)
    (hv : v = a.lineOut ((firstDirty a.ltn.dirty).getD a.ltn.line)
      (tget 0 (a.fb (a.rf Reg.LTN_STAT.FB_SHOWN)) ((firstDirty a.ltn.dirty).getD a.ltn.line))) :
    Ends (exec (.panelLineSent t) s) (match firstDirty a.ltn.dirty with
      | some y => v.onLtn fun l => { l with dirty := l.dirty.filter fun z => z != y }
      | none => if v.ltn.line + 1 < v.ltnHeight then v.onLtn fun l => { l with line := l.line + 1 }
        else (v.onLtn fun l => { l with line := 0, checked := false }).bump Reg.LTN_PASS_CNT.COUNT).swapNow := by
  change execPanelLineSent t s = State.done _
  simp [execPanelLineSent, ← ha, hst, hok, ← hv] <;> rfl

/-- Settles O47: each row's meaning on the branch that its conditions choose. -/
theorem lanternRowsTakeEffect : Obligations.LanternRowsTakeEffect := by
  refine ⟨fun t s a ds u v ha hd hu hv => ?_, fun t s a ha hc hm hedge => ⟨_, rfl, ?_⟩,
    fun t s a n v ha hn hst hline hch hv => (panelSweepCheck_ends ha hn hst hline hch hv).1,
    fun t s a n v ha hn hst hline hch hv => (panelSweepCheck_ends ha hn hst hline hch hv).2,
    fun t s a v ha hst hok hd hv hlast => ?_, fun t s a y v ha hst hok hd hv => ?_, fun t s a ha hst => ?_,
    fun t s a ha hst hok hdue => ⟨_, rfl, ?_⟩, fun t s a ha hst hdue => ?_, fun t mv s a u ha hst hmv hok hu => ?_,
    fun t s a ha hbad hdue => ?_, fun t s a n ha hdue hm hswap hn => ?_, fun t ohm den x s a ha hl hx => ⟨_, rfl, ?_⟩,
    fun t ohm den s a ha hl hx hf => ?_⟩
  · change execTileComposeDone t s = State.done _
    simp only [execTileComposeDone, ← ha, hd, ← hu, ← hv]
  · change execLightPhaseEdge t s = State.done _
    simp only [execLightPhaseEdge, ← ha, hc, hm, hedge, Bool.not_true, Bool.or_self, Bool.false_eq_true, if_false]
  · have h := panelLineSent_ends ha hst hok rfl
    simpa only [hd, Option.getD_none, ← hv, hlast, if_true] using h
  · have h := panelLineSent_ends ha hst hok rfl
    simpa only [hd, Option.getD_some, ← hv] using h
  · change execPanelLineSent t s = State.done _
    simp [execPanelLineSent, ← ha, hst]
  · change execPanelStartDone t s = State.done _
    simp [execPanelStartDone, ← ha, hst, hok, Nat.not_lt.mpr hdue]
  · change execPanelStopDone t s = State.done _
    simp [execPanelStopDone, ← ha, hst, Nat.not_lt.mpr hdue]
  · change execLtnBiasFault t mv s = State.done _
    have hp : (a.rf Reg.LTN_STAT.PSTATE == 1 || a.rf Reg.LTN_STAT.PSTATE == 2) = true := by simpa using hst
    simp [execLtnBiasFault, ← ha, hp, Nat.not_le.mpr hmv, hok, ← hu, -Bool.or_eq_true, -beq_iff_eq]
  · change execChargePumpRestart t s = State.done _
    simp [execChargePumpRestart, ← ha, hbad, Nat.not_lt.mpr hdue]
  · change execFrameCopyWrite t s = State.done _
    simp [execFrameCopyWrite, ← ha, hdue, hm, hswap, ← hn]
  · change execPanelTemperatureChange t ohm den s = State.done _
    simp [execPanelTemperatureChange, ← ha, hl, hx]
  · change execPanelTemperatureChange t ohm den s = State.done _
    simp [execPanelTemperatureChange, ← ha, hl, hx, hf]

end Sys2Proof.Machine
end

section
/-! PROOFS. The fabric's commands, link words and the states of a port (R388 to R440). `a` is the state of the instant. -/

namespace Sys2Proof.Machine

variable {t p : Nat} {c : Cmd} {s a : State} {i : Infl}

theorem fabPortCtrl_completes {v w : State} (ha : a = s.at_ t) (hp : p = c.f 8 0 7) (h : Accepted t (specFabPortCtrl c) c s i)
    (hv : v = if c.f 8 8 2 = 0 then a.portDisable p else if c.f 8 8 2 = 1 then a.portEnable p
      else if a.rf (Reg.FAB_PORT.STATE p) = 3 then a.portLeave p 1 else a)
    (hw : w = if v.rb (Reg.FAB_PORT.EN p) = a.rb (Reg.FAB_PORT.EN p) then v else v.dirtyHost) :
    Completes (exec (.fabPortCtrl t c) s) i (Reply.with2 (w.rf (Reg.FAB_PORT.STATE p)) 0) w := by
  have hop : (match c.f 8 8 2 with
      | 0 => a.portDisable p
      | 1 => a.portEnable p
      | _ => if a.rf (Reg.FAB_PORT.STATE p) == 3 then a.portLeave p 1 else a) = v := by
    simp only [hv, beq_iff_eq]
    split
    · next h0 => rw [if_pos h0]
    · next h1 => rw [if_neg (by omega), if_pos h1]
    · next h0 h1 => rw [if_neg h0, if_neg h1]
  refine completes_body (body := bodyFabPortCtrl c) rfl h ?_
  subst hw hop ha hp
  simp only [bodyFabPortCtrl, beq_iff_eq] <;> rfl

/-- Settles O48: each body on the branch that the operands and the port's state choose. -/
theorem fabricCommandsTakeEffect : Obligations.FabricCommandsTakeEffect := by
  refine ⟨fun t c s i a ha h => ⟨_, rfl, completes_body (body := bodyFabRouteWrite c) rfl h ?_⟩,
    fun t c s i a ha h hsh => ⟨_, completes_body (body := bodyFabRouteRead c) rfl h ?_, rfl⟩,
    fun t c s i a ha h hsh => ⟨_, completes_body (body := bodyFabRouteRead c) rfl h ?_, rfl⟩,
    fun t c s i h => completes_body (body := bodyFabRouteCommit c) rfl h rfl,
    fun t c s i a ha h => completes_body (body := bodyFabEpoch c) rfl h ?_,
    fun t c s i a ha h => completes_body (body := bodyFabQuench c) rfl h ?_,
    fun t c s i a ha h hst => completes_body (body := bodyFabLeave c) rfl h ?_,
    fun t c s i a ha h hst => completes_body (body := bodyFabLeave c) rfl h ?_,
    fun t c s i a k ha h hk hsb hre => stays_body (body := bodyFabHandback c) rfl h ?_,
    fun t c s i a p v w ha hp h hv hw => fabPortCtrl_completes ha hp h hv hw,
    fun t c s i o h ho => ⟨_, rfl, ?_⟩⟩
  · simp only [bodyFabRouteWrite, okWith, ← ha]
  · simp only [bodyFabRouteRead, ← ha, hsh, beq_self_eq_true, if_true]
  · simp [bodyFabRouteRead, ← ha, hsh]
  · simp only [bodyFabEpoch, okWith, ← ha]
  · simp only [bodyFabQuench, okWith, ← ha]
  · simp [bodyFabLeave, ← ha, hst]
  · simp [bodyFabLeave, ← ha, hst]
  · simp [bodyFabHandback, ← ha, hk, Option.filter, hsb, hre]
  · subst ho
    exact completes_body (body := bodyFabSv c) rfl h rfl

/-- A link word with a good check reaches its row. -/
theorem State.onWord_taken {typ w crc : Nat} {f : State → State} (ha : a = s.at_ t) (hup : a.pwr.mainUp = true) (hp : p < 128)
    (hm : a.rb (Reg.FAB_PORT.MODE p) = false) (hst : 2 ≤ a.rf (Reg.FAB_PORT.STATE p)) (hok : lwOk w crc = true) (hty : w % 16 = typ)
    {v : State} (hf : f a = v) : Ends (s.onWord t p typ w crc f) v := by
  change s.onWord t p typ w crc f = v.done
  simp [State.onWord, ← ha, hf, hup, Nat.not_le.mpr hp, hm, Nat.not_lt.mpr hst, hok, hty]

/-- A link word with a bad check is counted, whichever it is. -/
theorem State.onWord_bad {typ w crc : Nat} {f : State → State} (ha : a = s.at_ t) (hup : a.pwr.mainUp = true) (hp : p < 128)
    (hm : a.rb (Reg.FAB_PORT.MODE p) = false) (hst : 2 ≤ a.rf (Reg.FAB_PORT.STATE p)) (hbad : lwOk w crc = false) :
    s.onWord t p typ w crc f = (a.wordBad p).done := by
  simp [State.onWord, ← ha, hup, Nat.not_le.mpr hp, hm, Nat.not_lt.mpr hst, hbad]

theorem State.state_of_portUp (h : a.portUp p = true) : 2 ≤ a.rf (Reg.FAB_PORT.STATE p) := by
  simp [State.portUp] at h
  omega

theorem wordBad_ends {w crc : Nat} {j : Instr} (hj : j ∈ [Instr.credit t p w crc, .dreq t p w crc, .dresp t p w crc, .init t p w crc])
    (ha : a = s.at_ t) (hup : a.pwr.mainUp = true) (hp : p < 128) (hm : a.rb (Reg.FAB_PORT.MODE p) = false)
    (hst : 2 ≤ a.rf (Reg.FAB_PORT.STATE p)) (hbad : lwOk w crc = false) : Ends (exec j s) (a.wordBad p) := by
  simp only [List.mem_cons, List.not_mem_nil, or_false] at hj
  rcases hj with rfl | rfl | rfl | rfl <;> exact State.onWord_bad ha hup hp hm hst hbad

/-- Settles O49: each row's meaning on the branch that its conditions choose. -/
theorem linkRowsTakeEffect : Obligations.LinkRowsTakeEffect := by
  refine ⟨fun t p w crc s a ha hup hp hport hm hok hty => ?_, fun t p w crc s a i hi ha hup hp hm hst hbad => wordBad_ends hi ha hup hp hm hst hbad,
    fun t p s a ha hup hport hun hdue => ?_, fun t p s a ha hup hport hdue => ?_, fun t p w crc s a ha hup hp hport hm hok hty => ?_,
    fun t p s a ha hup hport hdue => ?_, fun t p w crc s a ha hup hp hport hm hok hty => ?_,
    fun t p w crc s a ha hup hp hm hst hok hty => ?_, fun t p s a ha hup hp hst hdue => ?_, fun t p s a ha hup hp hst hdue => ?_,
    fun t p s a ha hup hp hst hm => ?_, fun t p s a ha hup hp hst hm => ⟨_, rfl, ?_⟩, fun t p k s a ha hup hp hst hm hk => ?_,
    fun t p k s a ha hup hp hst hm hk => ?_⟩
  · change Ends (execCredit t p w crc s) _
    rw [execCredit]
    exact State.onWord_taken ha hup hp hm (State.state_of_portUp hport) hok hty (if_pos hport)
  · change execRetryTimerExpire t p s = State.done _
    simp [execRetryTimerExpire, ← ha, hup, hport, hun, Nat.not_lt.mpr hdue]
  · change execCreditSend t p s = State.done _
    simp [execCreditSend, ← ha, hup, hport, Nat.not_lt.mpr hdue]
  · change Ends (execDreq t p w crc s) _
    rw [execDreq]
    exact State.onWord_taken ha hup hp hm (State.state_of_portUp hport) hok hty (if_pos hport)
  · have hgo : ((a.port p).dreqAt != 0 && decide (a.tim.now < (a.port p).dreqAt + 2 ^ 28)) = false := by
      rcases hdue with h | h
      · rw [h, bne_self_eq_false, Bool.false_and]
      · rw [decide_eq_false (Nat.not_lt.mpr h), Bool.and_false]
    change execDreqSend t p s = State.done _
    simp only [execDreqSend, ← ha, hup, hport, hgo, Bool.not_true, Bool.or_self, Bool.false_eq_true, if_false]
  · change Ends (execDresp t p w crc s) _
    rw [execDresp]
    exact State.onWord_taken ha hup hp hm (State.state_of_portUp hport) hok hty (if_pos hport)
  · change Ends (execInit t p w crc s) _
    rw [execInit]
    exact State.onWord_taken ha hup hp hm (Nat.le_of_eq hst.symm) hok hty (if_pos (beq_iff_eq.mpr hst))
  · change execInitSend t p s = State.done _
    simp [execInitSend, ← ha, hup, Nat.not_le.mpr hp, hst, Nat.not_lt.mpr hdue]
  · change execInitTimeout t p s = State.done _
    simp [execInitTimeout, ← ha, hup, Nat.not_le.mpr hp, hst, Nat.not_lt.mpr hdue]
  · change execLinkTrained t p s = State.done _
    simp [execLinkTrained, ← ha, hup, Nat.not_le.mpr hp, hst, hm]
  · change execLinkTrained t p s = State.done _
    simp [execLinkTrained, ← ha, hup, Nat.not_le.mpr hp, hst, hm]
  · change execPortLinkDown t ⟨p, k⟩ s = State.done _
    simp [execPortLinkDown, ← ha, hup, Nat.not_le.mpr hp, hst, hm, hk]
  · change execPortLinkDown t ⟨p, k⟩ s = State.done _
    simp [execPortLinkDown, ← ha, hup, Nat.not_le.mpr hp, hst, hm]
    omega

end Sys2Proof.Machine
end

section
/-! PROOFS. Frames received and sent, Ethernet frames, and ownership, epochs, quenches and the fabric's time (R391 to R460). `a` is the
state of the instant. -/

namespace Sys2Proof.Machine

/-- Settles O50: each row's meaning on the branch that its conditions choose. -/
theorem frameRowsTakeEffect : Obligations.FrameRowsTakeEffect := by
  refine ⟨fun t p kind lseq plen f hcrc fcs s a ha hup hport => ?_, fun t p s a ha hup => ?_, fun t s a p ha hp => ⟨_, rfl, ?_⟩,
    fun t s a w ha hw => ⟨_, rfl, ?_⟩, fun t p f s a ha hup hp hm hst hacc hfull => ?_, fun t p f s a ha hup hp hm hst hno => ?_,
    fun t p s a u v ha hup hp hm hst hrole hu hv => ?_⟩
  · change execFrameReceive t p kind lseq plen f hcrc fcs s = State.done _
    simp [execFrameReceive, ← ha, hup, hport]
  · change execEgressSend t p s = State.done _
    simp [execEgressSend, ← ha, hup]
  · change execPairWaitExpire t s = State.done _
    simp only [execPairWaitExpire, ← ha, hp]
  · change execRerouteWaitExpire t s = State.done _
    simp only [execRerouteWaitExpire, ← ha, hw]
  · change execEthFrameReceive t p f s = State.done _
    simp [execEthFrameReceive, ← ha, hup, Nat.not_le.mpr hp, hm, hst, hacc, hfull]
  · have hgo : (a.ethAccepts p f && !a.ethFull p f) = false := by rcases hno with h | h <;> simp [h]
    change execEthFrameReceive t p f s = State.done _
    simp only [execEthFrameReceive, ← ha, hup, hm, hst, decide_eq_false (Nat.not_le.mpr hp), hgo, Bool.not_true, bne_self_eq_false,
      Bool.or_self, Bool.false_eq_true, if_false]
  · change execPtpMasterSend t p s = State.done _
    simp only [execPtpMasterSend, ← ha, hup, hm, hst, hrole, decide_eq_false (Nat.not_le.mpr hp), Bool.not_true, bne_self_eq_false,
      Bool.or_self, Bool.false_eq_true, if_false, Bool.or_eq_true, beq_iff_eq, decide_eq_true_eq, ← hu, ← hv]

variable {t k : Nat} {s a : State}

/-- With no shadow held, a heartbeat goes to the standby alone. -/
theorem heartbeatSend_ends {b w : State} (ha : a = s.at_ t) (hb : b = a.onFab fun f => { f with beatAt := a.tim.now })
    (hup : a.pwr.mainUp = true) (hdue : a.fab.beatAt + ofMs (a.rf Reg.FAB_OWN_TIMING.HB_MS) ≤ a.tim.now)
    (hsb : b.rf Reg.FAB_OWN_CTRL.STANDBY ≠ 0)
    (hw : w = b.handover (b.rf Reg.FAB_OWN_CTRL.STANDBY) 0 b.node 0 (decide (b.rf Reg.FAB_OWN_STAT.HOME_STATE < 2)))
    (hno : ∀ k, k < 4 → w.rb (Reg.FAB_SHADOW.VALID k) = false) : Ends (exec (.heartbeatSend t) s) w := by
  change execHeartbeatSend t s = State.done _
  simp only [execHeartbeatSend, ← ha, hup, decide_eq_false (Nat.not_lt.mpr hdue), Bool.not_true, Bool.or_self, Bool.false_eq_true,
    if_false, ← hb, beq_eq_false_iff_ne.mpr hsb, ← hw]
  simp [List.range_succ, hno]

theorem epochSwitch_ends {e : Nat × Nat × Nat} (ha : a = s.at_ t) (hup : a.pwr.mainUp = true) (he : a.fab.epochs = [e])
    (hdue : e.2.1 ≤ a.wt) : Ends (exec (.epochSwitch t) s) ((a.onFab fun f => { f with epochs := [] }).epochAct e.1 e.2.2) := by
  have herase : (a.onFab fun f => { f with epochs := f.epochs.erase e }) = a.onFab fun f => { f with epochs := [] } := by
    simp [State.onFab, he]
  change execEpochSwitch t s = State.done _
  simp [execEpochSwitch, ← ha, he, hdue, hup, herase]

/-- The state in which the root has numbered and dated its next TIME_SYNC frame. -/
def State.syncNumbered (a : State) : State := a.fresh.2.onFab fun f => { f with
  syncSent := a.tim.now, syncSeq := (a.fab.syncSeq + 1) % 65536, seqOut := tset 0 f.seqOut 3 ((tget 0 a.fab.seqOut 3 + 1) % 2 ^ 32) }

/-- The root's TIME_SYNC frame, or its loss where this node is quenched for the class. -/
theorem timeSyncSend_ends (ha : a = s.at_ t) (hup : a.pwr.mainUp = true) (hn : a.node ≠ 0) (hroot : a.rb Reg.FAB_TIME_CTRL.ROOT = true)
    (hdue : a.fab.syncSent + a.syncSpan ≤ a.tim.now) (hc : 2 ≤ a.rf Reg.FAB_COIN_FREE.COINS) :
    ∃ w v : State, Ends (exec (.timeSyncSend t) s) v ∧ w = a.syncNumbered ∧
      (w.selfQuenched 3 = true → v = w.bump Reg.FAB_QUENCH_DROP_CNT.COUNT) ∧
      (w.selfQuenched 3 = false → ∃ q : QFr, v = (w.drop Reg.FAB_COIN_FREE.COINS (coins q.f)).sendOut w.timeDown q ∧
        q.src = 134 ∧ q.f.cls = 3 ∧ q.f.ptype = 0x30 ∧ q.f.src = w.node ∧ q.f.seq = tget 0 a.fab.seqOut 3 ∧ q.f.len = 64) := by
  have hgo : (!a.pwr.mainUp || a.node == 0 || !a.rb Reg.FAB_TIME_CTRL.ROOT || decide (a.tim.now < a.fab.syncSent + a.syncSpan) ||
      decide (a.rf Reg.FAB_COIN_FREE.COINS < 2)) = false := by
    simp only [hup, hroot, beq_eq_false_iff_ne.mpr hn, decide_eq_false (Nat.not_lt.mpr hdue), decide_eq_false (Nat.not_lt.mpr hc),
      Bool.not_true, Bool.or_self]
  subst ha
  have hrow (v : State) : Ends (exec (.timeSyncSend t) s) v = (execTimeSyncSend t s = v.done) := rfl
  simp only [hrow]
  rw [execTimeSyncSend]
  simp only [hgo, Bool.false_eq_true, if_false]
  by_cases hq : (s.at_ t).syncNumbered.selfQuenched 3 = true
  · exact ⟨_, _, if_pos hq, rfl, fun _ => rfl, fun h => absurd hq (ne_true_of_eq_false h)⟩
  · exact ⟨_, _, if_neg hq, rfl, fun h => absurd h hq, fun _ => ⟨_, rfl, rfl, rfl, rfl, rfl, rfl, rfl⟩⟩

/-- Settles O51: each row's meaning on the branch that its conditions choose. -/
theorem ownershipRowsTakeEffect : Obligations.OwnershipRowsTakeEffect := by
  refine ⟨fun t k s a ha hup hk hv hst hdue => ?_, fun t k s a ha hup hk hv hst => ?_, fun t k s a ha hup hk hst => ?_,
    fun t k s a ha hup hk hst hdue => ?_, fun t s a b w ha hb hup hdue hsb hw hno => heartbeatSend_ends ha hb hup hdue hsb hw hno,
    fun t s a ha hup hset hfirst hdue => ?_, fun t s a ha hup hr => ?_, fun t k s a ha hup hk => ?_,
    fun t s a e ha hup he hdue => epochSwitch_ends ha hup he hdue, fun t k s a ha hup hk hv hdue => ?_,
    fun t s a ha hup hn hroot hdue hc => timeSyncSend_ends ha hup hn hroot hdue hc, fun t s a ha hup hno hset hdue => ?_,
    fun t s a ha hup hroot hdue => ⟨_, rfl, ?_⟩, fun t s a ha hup hleap hday => ?_⟩
  · change execContactLoss t k s = State.done _
    simp [execContactLoss, ← ha, hup, Nat.not_le.mpr hk, hv, hst, Nat.not_lt.mpr hdue]
  · change execTakeover t k s = State.done _
    simp [execTakeover, ← ha, hup, Nat.not_le.mpr hk, hv, hst]
  · change execTakeover t k s = State.done _
    simp [execTakeover, ← ha, hup, hk, hst]
  · change execHandbackTimeout t k s = State.done _
    simp [execHandbackTimeout, ← ha, hup, Nat.not_le.mpr hk, hst, Nat.not_lt.mpr hdue]
  · change execAliasLearnTimeout t s = State.done _
    simp [execAliasLearnTimeout, ← ha, hup, hset, hfirst, Nat.not_lt.mpr hdue]
  · change execReplFrameSend t s = State.done _
    simp [execReplFrameSend, ← ha, hup, hr]
  · change execResyncComplete t k s = State.done _
    simp [execResyncComplete, ← ha, hup, Nat.not_le.mpr hk]
  · change execQuenchLapse t k s = State.done _
    simp [execQuenchLapse, ← ha, hup, Nat.not_le.mpr hk, hv, Nat.not_lt.mpr hdue]
  · change execTimeHoldover t s = State.done _
    simp only [execTimeHoldover, ← ha, hup, hno, beq_eq_false_iff_ne.mpr hset, decide_eq_false (Nat.not_lt.mpr hdue), Bool.not_true,
      Bool.or_self, Bool.false_eq_true, if_false]
  · change execRootRtcCompare t s = State.done _
    simp [execRootRtcCompare, ← ha, hup, hroot, Nat.not_lt.mpr hdue]
  · change execUtcDayEndLeap t s = State.done _
    simp only [execUtcDayEndLeap, ← ha, hup, hleap, if_true, hday, Bool.true_or, Bool.not_true, bne_self_eq_false, Bool.or_self,
      Bool.false_eq_true, if_false]

end Sys2Proof.Machine
end

section
/-! PROOFS. Local inputs (R601 to R621). `a` is the state of the instant. -/

namespace Sys2Proof.Machine

variable {t n : Nat} {s a : State} {num : Int} {den : Nat} {cj : Option Nat}

theorem State.wf_aix (f : RFld) (v k : Nat) : (s.wf f v).aix k = s.aix k := by
  unfold State.aix
  rw [State.wf_lio]

/-- An input in use converts. -/
theorem aiConversion_runs (ha : a = s.at_ t) (hn : n ≤ 31) (hl : s.pwr.lshipUp = true) (h0 : a.rf (Reg.LIO_AI.TYPE n) ≠ 0)
    (h5 : a.rf (Reg.LIO_AI.TYPE n) ≤ 5) :
    (decide (31 < n) || a.rf (Reg.LIO_AI.TYPE n) == 0 || decide (5 < a.rf (Reg.LIO_AI.TYPE n)) || !a.pwr.lshipUp) = false := by
  rw [← State.at_pwr s t, ← ha] at hl
  simp [Nat.not_lt.mpr hn, h0, h5, hl]

theorem aiConversion_clamped (ha : a = s.at_ t) (hn : n ≤ 31) (hl : s.pwr.lshipUp = true) (h0 : a.rf (Reg.LIO_AI.TYPE n) ≠ 0)
    (h5 : a.rf (Reg.LIO_AI.TYPE n) ≤ 5) (hc : (a.aix n).clamp = true) :
    Ends (exec (.aiConversion t n num den cj) s)
      (a.wf (Reg.LIO_AI.CODE n) (ofInt 24 (clampI (roundRat (num * 8388608) (max den 1)) (-8388608) 8388607))) := by
  change execAiConversion t n num den cj s = State.done _
  simp only [execAiConversion, ← ha, aiConversion_runs ha hn hl h0 h5, State.wf_aix, hc, Bool.true_or, Bool.false_eq_true, if_false, if_true]

theorem aiConversion_settling (ha : a = s.at_ t) (hn : n ≤ 31) (hl : s.pwr.lshipUp = true) (h0 : a.rf (Reg.LIO_AI.TYPE n) ≠ 0)
    (h5 : a.rf (Reg.LIO_AI.TYPE n) ≤ 5) (hc : (a.aix n).clamp = false) (hu : (a.aix n).until_ < a.tim.now)
    (hset : (a.aix n).settle ≠ 0 ∨ (a.aix n).ovc ≠ 0) :
    Ends (exec (.aiConversion t n num den cj) s) (((a.wf (Reg.LIO_AI.CODE n) (ofInt 24 (clampI (roundRat (num * 8388608) (max den 1))
      (-8388608) 8388607))).modAix n fun x => { x with settle := x.settle - 1, ovc := x.ovc - 1 }).aiNote n) := by
  have hset' : ((a.aix n).settle != 0 || (a.aix n).ovc != 0) = true := by simpa using hset
  change execAiConversion t n num den cj s = State.done _
  simp only [execAiConversion, ← ha, aiConversion_runs ha hn hl h0 h5, State.wf_aix, hc, hset', State.wf_tim, decide_eq_false (Nat.not_le.mpr hu),
    Bool.or_self, Bool.false_eq_true, if_false, if_true]

/-- The temperature of the cold junction that a conversion takes; the last one known where the channel's source gives none. -/
def State.cjTaken (n : Nat) (cj : Option Nat) (s : State) : Nat :=
  (s.coldJunction n cj).getD (match s.rf (Reg.LIO_AI.CJ_SRC n) with
    | 0 => s.rf (Reg.LIO_CJ.T_CJ (n / 8))
    | 1 => operand (s.pt (s.rf (Reg.LIO_AI.CJ_IDX n)))
    | _ => s.rf (Reg.LIO_AI.CJ_FIXED n))

/-- A conversion of an input that is no thermocouple, its channel settled: the native value, its faults and where it goes. -/
theorem aiConversion_settled {c : Int} {b : State} (ha : a = s.at_ t) (hn : n ≤ 31) (hl : s.pwr.lshipUp = true)
    (hty : a.rf (Reg.LIO_AI.TYPE n) ∈ [1, 3, 4, 5]) (hc : (a.aix n).clamp = false) (hu : (a.aix n).until_ < a.tim.now)
    (hset : (a.aix n).settle = 0) (hovc : (a.aix n).ovc = 0) (hcode : c = clampI (roundRat (num * 8388608) (max den 1)) (-8388608) 8388607)
    (hb : b = (a.wf (Reg.LIO_AI.CODE n) (ofInt 24 c)).burnout n c) : ∃ (tc v : Nat) (above : Bool) (w : State),
      b.fresh.2.nativeOf n (c, 8388608) tc b.fresh.1 = (v, above) ∧
      w = (b.fresh.2.wf (Reg.LIO_AI.NATIVE n) v).wf (Reg.LIO_AI.OVERRANGE n)
        (b2n (above || ((c == -8388608 || c == 8388607) && !b.fresh.2.rb (Reg.LIO_AI.BURNOUT n)))) ∧
      ((w.toWave n v (w.aiFaults n)).rb (Reg.LIO_AI.PNT_EN n) = false →
        Ends (exec (.aiConversion t n num den cj) s) (w.toWave n v (w.aiFaults n))) ∧
      ((w.toWave n v (w.aiFaults n)).rb (Reg.LIO_AI.PNT_EN n) = true →
        ∃ u : State, u = w.toWave n v (w.aiFaults n) ∧ Ends (exec (.aiConversion t n num den cj) s) ((u.modAix n fun x =>
          { x with sum := x.sum + (fratio f32 v).1 * ((2 ^ 149 / (fratio f32 v).2 : Nat) : Int)
                   n := x.n + 1, tLast := u.ioStamp u.clock }).aiNote n)) := by
  simp only [List.mem_cons, List.not_mem_nil, or_false] at hty
  have hgo := aiConversion_runs ha hn hl (by omega) (by omega)
  have h2 : (a.rf (Reg.LIO_AI.TYPE n) == 2) = false := beq_eq_false_iff_ne.mpr (by omega)
  have hset' : ((a.aix n).settle != 0 || (a.aix n).ovc != 0) = false := by simp [hset, hovc]
  have hrow (v : State) : Ends (exec (.aiConversion t n num den cj) s) v = (execAiConversion t n num den cj s = v.done) := rfl
  simp only [hrow]
  rw [execAiConversion]
  simp only [← ha, hgo, State.wf_aix, hc, hset', h2, State.wf_tim, decide_eq_false (Nat.not_le.mpr hu), ← hcode, ← hb,
    Bool.or_self, Bool.false_and, Bool.false_eq_true, if_false]
  refine ⟨b.cjTaken n cj, _, _, _, rfl, rfl, fun hp => ?_, fun hp => ⟨_, rfl, ?_⟩⟩
  · exact if_pos ((Bool.not_eq_true' _).mpr hp)
  · exact if_neg (by rw [Bool.not_eq_true', Bool.not_eq_false]; exact hp)

/-- Settles O52: each row's meaning on the branch that its conditions choose. -/
theorem localInputRowsTakeEffect : Obligations.LocalInputRowsTakeEffect := by
  refine ⟨fun t n num den cj s a ha hn hl h0 h5 hc => aiConversion_clamped ha hn hl h0 h5 hc,
    fun t n num den cj s a ha hn hl h0 h5 hc hu hset => aiConversion_settling ha hn hl h0 h5 hc hu hset,
    fun t n num den cj s a c b ha hn hl hty hc hu hset hovc hcode hb => aiConversion_settled ha hn hl hty hc hu hset hovc hcode hb,
    fun t n m s a ha hn hl hty hw hs hset hm => ⟨_, rfl, ?_⟩, fun t n s a ha hn hl hc ho => ⟨_, rfl, ?_⟩,
    fun t n s a ha hn hl hc => ?_, fun t c l s a ha hcl hl hm hlev hpts hm' => ⟨_, rfl, ?_⟩⟩
  all_goals rw [← State.at_pwr s t, ← ha] at hl
  · change execLeadPhase t n (some m) s = State.done _
    simp [execLeadPhase, ← ha, hl, Nat.not_lt.mpr hn, hty, hw, hs, hset, hm, Option.filter]
  · change execAiOvervoltage t n true s = State.done _
    simp [execAiOvervoltage, ← ha, hl, Nat.not_lt.mpr hn, hc, ho]
  · change execAiOvervoltage t n false s = State.done _
    simp [execAiOvervoltage, ← ha, hl, Nat.not_lt.mpr hn, hc]
  · change execDioEdgeAccept t [(c, l)] s = State.done _
    simp [execDioEdgeAccept, ← ha, hl, hcl, hm, hlev, hpts, hm']

end Sys2Proof.Machine
end

section
/-! PROOFS. Local outputs and HART (R612 to R633). `a` is the state of the instant. -/

namespace Sys2Proof.Machine

variable {t n c : Nat} {s a : State}

/-- The measurements of an output that sources current and has no fault standing. -/
theorem aoSupervision_ends {iUa vTerm den : Nat} {temp : Int} {w : State} (ha : a = s.at_ t) (hn : n ≤ 15) (hl : a.pwr.lshipUp = true)
    (hen : a.rb (Reg.LIO_AO.EN n) = true) (hsink : a.rb (Reg.LIO_AO.SINK n) = false)
    (hw : w = ((a.wf (Reg.LIO_AO.I_MEAS_UA n) iUa).wf (Reg.LIO_AO.V_SUP_MV n) (aoSupply false vTerm)).wf (Reg.LIO_AO.V_TERM_MV n) vTerm)
    (ho : w.rf (Reg.LIO_AO.OPEN n) = 0) (hc : w.rf (Reg.LIO_AO.COMPL n) = 0) (hh : w.rf (Reg.LIO_AO.THERM n) = 0)
    (htemp : temp ≤ 150 * (den : Int)) :
    (tget 0 w.lio.aoCode n * 24000 = iUa * 65536 → Ends (exec (.aoSupervision t n iUa vTerm temp den) s)
      (((w.wf (Reg.LIO_AO.OPEN n) 0).wf (Reg.LIO_AO.COMPL n) 0).wf (Reg.LIO_AO.THERM n) 0)) ∧
    (1000 * 65536 ≤ tget 0 w.lio.aoCode n * 24000 → iUa = 0 → 26000 ≤ aoSupply false vTerm →
      Ends (exec (.aoSupervision t n iUa vTerm temp den) s) ((((((w.wf (Reg.LIO_AO.OPEN n) 1).wf (Reg.LIO_AO.COMPL n) 0).wf (Reg.LIO_AO.THERM n)
        0).bump Reg.LIO_AO_FAULT_CNT.COUNT 1).lioEvent Ev.LIO_AO_FAULT n [1, iUa, vTerm]).stageQual n)) := by
  have hgo : (decide (15 < n) || !a.rb (Reg.LIO_AO.EN n) || !a.pwr.lshipUp) = false := by simp [Nat.not_lt.mpr hn, hen, hl]
  have hwas : ((0 + 2 * 0 + 4 * 0) % 2 == 1) = false := rfl
  refine ⟨fun heq => ?_, fun hcode hi hsup => ?_⟩
  all_goals
    change execAoSupervision t n iUa vTerm temp den s = State.done _
    simp only [execAoSupervision, ← ha, hgo, hsink, ← hw, ho, hc, hh, decide_eq_false (Int.not_lt.mpr htemp), hwas,
      Bool.false_and, Bool.or_false, Bool.false_eq_true, if_false]
  · have hopen : decide (10 * (iUa * 65536) < tget 0 w.lio.aoCode n * 24000) = false := decide_eq_false (by omega)
    have hcompl : decide (iUa * 65536 + 100 * 65536 < tget 0 w.lio.aoCode n * 24000) = false := decide_eq_false (by omega)
    simp only [hopen, hcompl, Bool.and_false, Bool.false_and]
    rfl
  · subst hi
    have hopen : decide (10 * (0 * 65536) < tget 0 w.lio.aoCode n * 24000) = true := decide_eq_true (by omega)
    have hcompl : decide (tget 0 w.lio.aoCode n * 24000 ≤ 10 * (0 * 65536)) = false := decide_eq_false (by omega)
    simp only [hopen, hcompl, decide_eq_true hcode, decide_eq_true hsup, Bool.and_true, Bool.false_and]
    rfl

/-- Settles O53: each row's meaning on the branch that its conditions choose. -/
theorem localOutputRowsTakeEffect : Obligations.LocalOutputRowsTakeEffect := by
  refine ⟨fun t c s a ha hdo hon => ⟨_, rfl, ?_⟩, fun t c s a ha hdo hovl hdue hcmd => ?_, fun t c s a ha hdo hovl hdue => ?_,
    fun t c s a ha hdo hset hno hdue => ⟨_, rfl, ?_⟩,
    fun t n iUa vTerm temp den s a w ha hn hl hen hsink hw ho hc hh htemp => aoSupervision_ends ha hn hl hen hsink hw ho hc hh htemp,
    fun t n s a ha hon hmsg hst hcd hcar => ?_, fun t n s a ha hon hst hdue => ?_, fun t n b s a w ha hw hon hroom => ?_,
    fun t n b s a w ha hw hon hfull => ?_, fun t n s a ha hon hcd hrx hdue => ?_, fun t c x s a ha hl hc hx => ?_,
    fun t c x s a ha hl hc => ?_, fun t last s a ha hl hno hdue => ⟨_, rfl, ?_⟩, fun t s a ha hl hsafe => ⟨_, rfl, ?_⟩,
    fun t k s a ha hl hk hdir hoff hdue => ?_, fun t k s a ha hl hk hdir hon hdue => ?_, fun t k s a ha hl hk hcar hdue => ⟨_, rfl, ?_⟩,
    fun t c s a w ha hw hdo hd hus => ?_⟩
  · change execDoOverload t c s = State.done _
    simp [execDoOverload, ← ha, hdo, hon]
  · change execDoOverloadRetry t c true s = State.done _
    simp [execDoOverloadRetry, ← ha, hdo, hovl, Nat.not_lt.mpr hdue, hcmd]
  · change execDoOverloadRetry t c false s = State.done _
    simp [execDoOverloadRetry, ← ha, hdo, hovl, Nat.not_lt.mpr hdue]
  · change execDoReadbackMismatch t c s = State.done _
    simp [execDoReadbackMismatch, ← ha, hdo, hset, hno, Nat.not_lt.mpr hdue]
  · change execHartTransmitStart t n s = State.done _
    simp [execHartTransmitStart, ← ha, hon, hmsg, hst, hcd, hcar]
  · change execHartTransmitEnd t n s = State.done _
    simp only [execHartTransmitEnd, ← ha, hon, beq_eq_false_iff_ne.mpr hst, decide_eq_false (Nat.not_lt.mpr hdue), Bool.not_true, Bool.or_self,
      Bool.false_eq_true, if_false]
  · change execHartByteReceive t n b false s = State.done _
    simp only [execHartByteReceive, ← ha, hon, ← hw, Bool.not_true, Bool.false_eq_true, if_false, Nat.not_le.mpr hroom]
    rfl
  · change execHartByteReceive t n b false s = State.done _
    simp only [execHartByteReceive, ← ha, hon, ← hw, Bool.not_true, Bool.false_eq_true, if_false, hfull, if_true]
  · change execHartRxGap t n s = State.done _
    simp only [execHartRxGap, ← ha, hon, hcd, hrx, decide_eq_false (Nat.not_le.mpr hdue), Bool.not_true, Bool.or_self, Bool.false_eq_true,
      if_false, beq_self_eq_true, if_true]
  · change execOutputTwinCheck t ⟨[(c, x)], []⟩ s = State.done _
    simp only [execOutputTwinCheck, ← ha, List.foldl_nil]
    rw [List.filter_cons_of_pos (by simp [hc, hx, -Nat.reducePow])]
    simp only [List.filter_nil, List.foldl_cons, List.foldl_nil, decide_eq_true hc, if_true]
    exact if_neg (by rw [Bool.not_eq_true', Bool.not_eq_false]; exact hl)
  · change execOutputTwinCheck t ⟨[], [(c, x)]⟩ s = State.done _
    simp [execOutputTwinCheck, ← ha, hl, hc]
  · change execLioSafeEnter ⟨t, last⟩ s = State.done _
    simp [execLioSafeEnter, ← ha, hl, hno, Nat.not_lt.mpr hdue]
  · change execLioSafeExit t s = State.done _
    simp [execLioSafeExit, ← ha, hl, hsafe]
  · change execPulseEnd t k s = State.done _
    simp [execPulseEnd, ← ha, hl, Nat.not_lt.mpr hk, hdir, hoff, Nat.not_lt.mpr hdue]
  · change execPulseEnd t k s = State.done _
    simp [execPulseEnd, ← ha, hl, Nat.not_lt.mpr hk, hdir, hon, Nat.not_lt.mpr hdue]
  · change execLioPulseDrop t k s = State.done _
    have hsome : ((a.pulse k).carR == 0 && (a.pulse k).carL == 0) = false := by
      rcases hcar with h | h <;> simp [h]
    simp only [execLioPulseDrop, ← ha, hl, decide_eq_false (Nat.not_lt.mpr hk), hsome, decide_eq_false (Nat.not_lt.mpr hdue),
      Bool.not_true, Bool.or_self, Bool.false_eq_true, if_false]
  · change execDemagEnd t c s = State.done _
    simp only [execDemagEnd, ← ha, hdo, hd, ← hw, hus, Bool.not_true, Bool.or_self, Bool.false_eq_true, if_false, if_true]

end Sys2Proof.Machine
end

section
/-! PROOFS. The power unit: supplies, MAIN, the Lightship's handover, clocks, gating and the thermal trip (R667 to R708). `a` is the state
of the instant. -/

namespace Sys2Proof.Machine

variable {t mv store : Nat} {s a : State}

theorem pwrFailWarn_first {cause : Nat} (ha : a = s.at_ t) (hl : s.pwr.lshipUp = true) (hok : s.pwr.failing = false) (hc : cause ≤ 3)
    (hmain : cause < 2 → a.rb Reg.PWR_SUPPLY_STAT.MAIN_OK = true) (hclk : 2 ≤ cause → s.pwr.mainUp = true)
    (hlow : cause = 0 → mv < 34000) (hhigh : cause = 1 → 62000 < mv) :
    Ends (exec (.pwrFailWarn t cause mv store) s) ((a.scapRead store).mainLost cause mv) := by
  rw [← State.at_pwr s t, ← ha] at hl hok hclk
  have hgo : ((decide (cause < 2) && !a.rb Reg.PWR_SUPPLY_STAT.MAIN_OK) || (decide (2 ≤ cause) && !a.pwr.mainUp) ||
      (cause == 0 && decide (34000 ≤ mv)) || (cause == 1 && decide (mv ≤ 62000))) = false := by
    simp only [Bool.or_eq_false_iff, Bool.and_eq_false_imp, decide_eq_true_eq, beq_iff_eq, Bool.not_eq_false', decide_eq_false_iff_not,
      Nat.not_le]
    exact ⟨⟨⟨hmain, hclk⟩, hlow⟩, hhigh⟩
  change execPwrFailWarn t cause mv store s = State.done _
  simp only [execPwrFailWarn, ← ha, hl, hok, decide_eq_false (Nat.not_lt.mpr hc), hgo, Bool.not_true, Bool.or_self, Bool.false_eq_true,
    if_false]

/-- A regular return of MAIN with an image to take, the domain having stopped clean. -/
theorem pwrMainReturn_ends {b c d : State} (ha : a = s.at_ t) (hl : a.pwr.lshipUp = true) (hdown : a.pwr.mainUp = false)
    (hwarn : a.pwr.warned = false) (htrip : a.rb Reg.KPR_THERM.TRIP = false) (hlo : 35000 ≤ mv) (hhi : mv ≤ 60000)
    (hwait : a.pwr.goodAt = 0 ∨ a.pwr.goodAt - 1 + ofMs (a.rf Reg.PWR_CTRL.RESTART_MS) ≤ a.tim.now)
    (hready : a.ready 0 = true) (hhad : a.rb Reg.PWR_SUPPLY_STAT.MAIN_OK = true)
    (hb : b = (((((a.wf Reg.PWR_MAIN_MV.MV mv).scapRead store).wf Reg.PWR_SUPPLY_STAT.MAIN_OK 1).wf Reg.PWR_CLK_STAT.FREF_OK 1).wf
      Reg.PWR_CLK_STAT.CORE_LOCK 1))
    (hc : c = (((((((b.clearRegs mainOwn).onPwr fun p => { p with mainUp := true, failing := false }).onLdg fun l =>
      { l with actTime := [] }).setWt b.lwt (2 ^ 32)).wf Reg.PWR_SUPPLY_STAT.MAIN_STATE 1).raise Ev.PWR_MAIN_RETURN 0
        [mv]).feedSettle.fansFollow).chooseMain)
    (huse : c.img.use ≠ 0) (hd : d = (c.restoreRegs c.inUse.regs fun o => mainReg o).policyApply)
    (hclean : d.rf (Reg.BKP_REG.WORD 0) ≠ 0x4B524142 ∨ d.rb bkpMainClean = true) :
    Ends (exec (.pwrMainReturn t mv store) s)
      (((d.wf bkpMainClean 0).onPwr fun p => { p with step := 0, lost := 0 }).tileGates.oeGates.ctlGauges).fftWake := by
  have hgo : (!a.pwr.lshipUp || a.pwr.mainUp || a.rb Reg.KPR_THERM.TRIP || decide (mv < 35000) || decide (60000 < mv) ||
      (a.pwr.goodAt != 0 && decide (a.tim.now < a.pwr.goodAt - 1 + ofMs (a.rf Reg.PWR_CTRL.RESTART_MS)))) = false := by
    simp only [hl, hdown, htrip, decide_eq_false (Nat.not_lt.mpr hlo), decide_eq_false (Nat.not_lt.mpr hhi), Bool.not_true, Bool.or_self,
      Bool.false_or]
    rcases hwait with h | h
    · rw [h, bne_self_eq_false, Bool.false_and]
    · rw [decide_eq_false (Nat.not_lt.mpr h), Bool.and_false]
  have hclean' : (d.rf (Reg.BKP_REG.WORD 0) == 0x4B524142 && !d.rb bkpMainClean) = false := by
    rcases hclean with h | h
    · rw [beq_eq_false_iff_ne.mpr h, Bool.false_and]
    · rw [h, Bool.not_true, Bool.and_false]
  change execPwrMainReturn t mv store s = State.done _
  simp only [execPwrMainReturn, ← ha, hgo, hwarn, hready, hhad, Bool.not_true, Bool.false_eq_true, if_false, if_true, ← hb, ← hc,
    beq_eq_false_iff_ne.mpr huse, ← hd, hclean']

/-- The thermal trip: MAIN fails where it stands, and stays off where it does not. -/
theorem thermalTrip_ends {n x : Nat} {w : State} (ha : a = s.at_ t) (hl : s.pwr.lshipUp = true) (hn : n ≤ 7)
    (hno : a.rb Reg.KPR_THERM.TRIP = false) (hx : fle f32 0x42DC0000 x = true)
    (hw : w = (((a.wf (Reg.KPR_SENS.VALUE n) x).wf Reg.KPR_THERM.TRIP 1).bump Reg.KPR_THERM_TRIP_CNT.COUNT).raise Ev.KPR_THERM_TRIP n [x]) :
    Ends (exec (.thermalTrip t n x mv) s) (if w.rb Reg.PWR_SUPPLY_STAT.MAIN_OK && !w.pwr.failing then w.mainLost 0 mv
      else ((w.wf Reg.PWR_SUPPLY_STAT.MAIN_OK 0).onPwr fun p => { p with goodAt := w.tim.now + 1 }).feedSettle.fansFollow) := by
  rw [← State.at_pwr s t, ← ha] at hl
  change execThermalTrip t n x mv s = State.done _
  simp only [execThermalTrip, ← ha, hl, decide_eq_false (Nat.not_lt.mpr hn), hno, hx, Bool.not_true, Bool.or_self, Bool.false_eq_true,
    if_false, ← hw]

theorem emerChange_ends {ok : Bool} {w : State} (ha : a = s.at_ t) (hl : s.pwr.lshipUp = true) (hne : a.rb Reg.PWR_SUPPLY_STAT.EMER_OK ≠ ok)
    (hw : w = ((a.wf Reg.PWR_EMER_MV.MV mv).scapRead store).wf Reg.PWR_SUPPLY_STAT.EMER_OK (b2n ok))
    (hseen : (if ok then decide (16500 ≤ mv) && decide (mv ≤ 32000) else decide (mv < 16000) || decide (33000 < mv)) = true) :
    Ends (exec (.emerChange t ok mv store) s) (if ok && (if ok then w else w.raise Ev.PWR_EMER_LOST 0 [mv]).pwr.warned then
      (if ok then w else w.raise Ev.PWR_EMER_LOST 0 [mv]).lshipStop else (if ok then w else w.raise Ev.PWR_EMER_LOST 0 [mv]).feedSettle) := by
  rw [← State.at_pwr s t, ← ha] at hl
  change execEmerChange t ok mv store s = State.done _
  simp only [execEmerChange, ← ha, hl, beq_eq_false_iff_ne.mpr hne, hseen, Bool.not_true, Bool.or_self, Bool.false_eq_true, if_false, ← hw]

theorem fieldChange_ends {ok : Bool} {w : State} (ha : a = s.at_ t) (hl : s.pwr.lshipUp = true) (hne : a.rb Reg.PWR_SUPPLY_STAT.FIELD_OK ≠ ok)
    (hw : w = ((a.wf Reg.PWR_FIELD_MV.MV mv).wf Reg.PWR_SUPPLY_STAT.FIELD_OK (b2n ok)).wf Reg.PWR_SUPPLY_STAT.FIELD_LOW (b2n !ok))
    (hseen : (if ok then decide (19000 ≤ mv) else decide (mv < 18000)) = true) :
    Ends (exec (.fieldChange t ok mv) s) (if ok then w else (w.bump Reg.PWR_FIELD_LOW_CNT.COUNT).raise Ev.PWR_FIELD_LOW 0 [mv]) := by
  rw [← State.at_pwr s t, ← ha] at hl
  change execFieldChange t ok mv s = State.done _
  simp only [execFieldChange, ← ha, hl, beq_eq_false_iff_ne.mpr hne, hseen, Bool.not_true, Bool.or_self, Bool.false_eq_true, if_false, ← hw]

/-- Settles O54: each row's meaning on the branch that its conditions choose. -/
theorem powerRowsTakeEffect : Obligations.PowerRowsTakeEffect := by
  refine ⟨fun t cause mv store s a ha hl hok hc hmain hclk hlow hhigh => pwrFailWarn_first ha hl hok hc hmain hclk hlow hhigh,
    fun t cause mv store s a ha hl hf hc => ?_, fun t k s hf h0 h7 => ?_,
    fun t mv store s a b c d ha hl hdown hwarn htrip hlo hhi hwait hready hhad hb hc huse hd hclean =>
      pwrMainReturn_ends ha hl hdown hwarn htrip hlo hhi hwait hready hhad hb hc huse hd hclean,
    fun t ok mv store s a w ha hl hne hw => ⟨fun hok hwarn hlo hhi => ?_, fun hok hwarn hlo hhi => ?_, fun hok hmv => ?_⟩,
    fun t ok mv s a w ha hl hne hw => ⟨fun hok hmv => ?_, fun hok hmv => ?_⟩,
    fun t mv s a ha hl hfeed hmv hno => ⟨_, rfl, ?_⟩, fun t mv s a ha hl hfeed hmv hno => ⟨_, rfl, ?_⟩, fun t s a ha hl hfeed => ?_,
    fun t s hl => ?_, fun t mv s a ha hl hmv hfeed => ?_, fun t s a ha hl hno => ?_, fun t s hl => ?_, fun t s a ha hup hen hc => ?_,
    fun t s a b ha hup hok h10 h12 hb hop hu => ⟨_, rfl, ?_⟩, fun t s a ha hup hok h12 h15 hk hrec => ?_,
    fun t s a u l ha hop hruns hu => ⟨_, rfl, fun hhas => ?_, fun hhas => ?_⟩, fun t s a k ha hop hruns hu hdue hk hscan => ?_,
    fun t n x mv s a w ha hl hn hno hx hw => ⟨fun hmain hok => ?_, fun hoff => ?_⟩, fun t n x s a ha hl hn htrip hx => ⟨_, rfl, ?_⟩⟩
  · rw [← State.at_pwr s t, ← ha] at hl hf
    change execPwrFailWarn t cause mv store s = State.done _
    simp [execPwrFailWarn, ← ha, hl, Nat.not_lt.mpr hc, hf]
  · change execUncleanStop t k s = State.done _
    simp [execUncleanStop, hf, h0, Nat.not_lt.mpr h7]
  · subst hok
    simpa [hwarn] using emerChange_ends ha hl hne hw (by simp [hlo, hhi])
  · subst hok
    simpa [hwarn] using emerChange_ends ha hl hne hw (by simp [hlo, hhi])
  · subst hok
    exact emerChange_ends ha hl hne hw (by simpa using hmv)
  · subst hok
    exact fieldChange_ends ha hl hne hw (by simp [hmv])
  · subst hok
    exact fieldChange_ends ha hl hne hw (by simp [hmv])
  · rw [← State.at_pwr s t, ← ha] at hl
    change execPwrScapLow t mv s = State.done _
    simp [execPwrScapLow, ← ha, hl, hfeed, Nat.not_lt.mpr hmv, hno]
  · rw [← State.at_pwr s t, ← ha] at hl hno
    change execPwrLshipFail t mv s = State.done _
    simp [execPwrLshipFail, ← ha, hl, hfeed, Nat.not_lt.mpr hmv, hno]
  · rw [← State.at_pwr s t, ← ha] at hl
    change execLightshipStop t s = State.done _
    simp [execLightshipStop, ← ha, hl, hfeed]
  · rw [← State.at_pwr s t] at hl
    change execScapFull t s = State.done _
    simp only [execScapFull, hl, Bool.not_true, Bool.false_eq_true, if_false]
  · rw [← State.at_pwr s t, ← ha] at hl
    change execScapChargeRestart t mv s = State.done _
    simp [execScapChargeRestart, ← ha, hl, hfeed, Nat.not_le.mpr hmv]
  · rw [← State.at_pwr s t, ← ha] at hl
    change execLrefLoss t s = State.done _
    simp [execLrefLoss, ← ha, hl, hno]
  · rw [← State.at_pwr s t] at hl
    change execLrefReturn t s = State.done _
    simp only [execLrefReturn, hl, Bool.not_true, Bool.false_eq_true, if_false]
  · rw [← State.at_pwr s t, ← ha] at hup
    change execFftUnitGate t s = State.done _
    simp [execFftUnitGate, ← ha, hup, hen, Nat.not_le.mpr hc]
  · rw [← State.at_pwr s t, ← ha] at hup hok
    change execLshipHandback t s = State.done _
    simp [execLshipHandback, ← ha, hup, hok, h10, h12, ← hb, hop, hu]
  · rw [← State.at_pwr s t, ← ha] at hup hok
    change execLogicSideReturn t s = State.done _
    simp [execLogicSideReturn, ← ha, hup, hok, h12, h15, hrec]
    rfl
  · change execLshipEvaluate t s = State.done _
    simp [execLshipEvaluate, ← ha, hop, hruns, hu, hhas]
  · change execLshipEvaluate t s = State.done _
    simp [execLshipEvaluate, ← ha, hop, hruns, hu, hhas]
  · subst hk
    change execLshipEvaluate t s = State.done _
    simp only [execLshipEvaluate, ← ha, hop, hruns, hu, hdue, if_neg (Nat.not_le.mpr hscan), Nat.add_sub_cancel, Bool.not_true, Bool.or_self,
      Bool.false_eq_true, if_false]
  · have h := thermalTrip_ends (mv := mv) ha hl hn hno hx hw
    rwa [hmain, hok, if_pos (by decide)] at h
  · have h := thermalTrip_ends (mv := mv) ha hl hn hno hx hw
    rwa [if_neg (by rcases hoff with h | h <;> simp [h])] at h
  · rw [← State.at_pwr s t, ← ha] at hl
    change execThermalClear t n x s = State.done _
    simp [execThermalClear, ← ha, hl, Nat.not_lt.mpr hn, htrip, hx]

end Sys2Proof.Machine
end

section
/-! PROOFS. The Keeper's mailbox (O55). -/

namespace Sys2Proof.Machine

/-- The host command of an update subop: while the Keeper is halted, an operation under way and all but BEGIN and DATA wait. -/
def updHostCmd (t k : Nat) (c : Cmd) : HostCmd :=
  { t := t, c := c, spec := specUpd k c, body := bodyUpd k c,
    waits := fun s => s.rb Reg.KPR_DBG_STAT.HALTED && (1 < k || s.kpr.nor.isSome) }

/-- An update subop that the Keeper takes while it runs is done at once. -/
theorem bodyUpd_running {k : Nat} {c : Cmd} {a : State} (hr : a.rb Reg.KPR_DBG_STAT.HALTED = false)
    (hn : a.updRefuse 0 k (mailBank c) (mailArg c) (if k == 1 then c.bufLen else 0) = none) :
    bodyUpd k c a = (some (a.updDo 0 k (mailBank c) (mailArg c) (if k == 1 then c.bufLen else 0) c.inp).1,
      (a.updDo 0 k (mailBank c) (mailArg c) (if k == 1 then c.bufLen else 0) c.inp).2) := by
  simp only [bodyUpd, hn, hr, Bool.false_eq_true, if_false]

/-- The program or erase that an update subop begins while the Keeper is halted. -/
def updNorOp (k : Nat) (c : Cmd) : NorOp :=
  { src := 0, ring := c.ring, tag := c.tag, sub := k, bank := mailBank c, arg := mailArg c, n := if k = 1 then c.bufLen else 0, data := c.inp }

/-- An update subop that the Keeper takes while it is halted stays in service. -/
theorem bodyUpd_halted {k : Nat} {c : Cmd} {a : State} (hr : a.rb Reg.KPR_DBG_STAT.HALTED = true)
    (hn : a.updRefuse 0 k (mailBank c) (mailArg c) (if k = 1 then c.bufLen else 0) = none) :
    bodyUpd k c a = (none, a.onKpr fun x => { x with nor := some (updNorOp k c) }) := by
  simp only [bodyUpd, beq_iff_eq, hn, hr, if_true, updNorOp]

/-- An update subop in its turn completes with what it does. -/
theorem completes_upd {i : Instr} {t k : Nat} {c : Cmd} (e : hostCmd i = some (updHostCmd t k c)) {s a v : State} {x : Infl} {r : Reply}
    (ha : a = s.at_ t) (hs : s.rb Reg.KPR_DBG_STAT.HALTED = false) (hr : a.rb Reg.KPR_DBG_STAT.HALTED = false)
    (h : Accepted t (specUpd k c) c s x)
    (hn : a.updRefuse 0 k (mailBank c) (mailArg c) (if k == 1 then c.bufLen else 0) = none)
    (hd : a.updDo 0 k (mailBank c) (mailArg c) (if k == 1 then c.bufLen else 0) c.inp = (r, v)) : Completes (exec i s) x r v := by
  refine completes_turn e (by simp only [updHostCmd, hs, Bool.false_and]) h ?_
  change bodyUpd k c (s.at_ t) = _
  rw [← ha, bodyUpd_running hr hn, hd]

/-- A program or erase begun while the Keeper is halted stays in flight. -/
theorem stays_upd {i : Instr} {t k : Nat} {c : Cmd} (e : hostCmd i = some (updHostCmd t k c)) {s a : State} {x : Infl}
    (hk : k ≤ 1) (ha : a = s.at_ t) (hs : s.kpr.nor = none) (hr : a.rb Reg.KPR_DBG_STAT.HALTED = true)
    (h : Accepted t (specUpd k c) c s x)
    (hn : a.updRefuse 0 k (mailBank c) (mailArg c) (if k = 1 then c.bufLen else 0) = none) :
    StaysInFlight (exec i s) x (a.onKpr fun y => { y with nor := some (updNorOp k c) }) := by
  refine stays_turn e (by simp [updHostCmd, hs, Nat.not_lt.mpr hk]) h ?_
  change bodyUpd k c (s.at_ t) = _
  rw [← ha, bodyUpd_halted hr hn]

/-- Settles O55: by the effect of an accepted update subop, while the Keeper runs and while it is halted. -/
theorem keeperMailboxTakesEffect : Obligations.KeeperMailboxTakesEffect := by
  unfold Obligations.KeeperMailboxTakesEffect
  refine ⟨fun t c s i a ha hs hr h hn => completes_upd (k := 0) rfl ha hs hr h hn rfl,
    fun t c s i a ha hs hr h hn => completes_upd (k := 1) rfl ha hs hr h hn rfl,
    fun t c s i a r w ha hs hr h hn hw => completes_upd (k := 2) rfl ha hs hr h hn hw.symm,
    fun t c s i a ha hs hr h hn => completes_upd (k := 3) rfl ha hs hr h hn rfl,
    fun t c s i a ha hs hr h hn => completes_upd (k := 6) rfl ha hs hr h hn rfl,
    fun t c s i a k o hk ha hs hr h hn => ⟨updNorOp k c, rfl, ?_⟩,
    fun t c s i a ha hs h => ?_, fun t c s i a ha hs h => ?_, fun t s a u ha hu hr hd => ?_, fun t k s a o ha ho => ?_⟩
  · simp only [List.mem_cons, Prod.mk.injEq, List.not_mem_nil, or_false] at hk
    obtain ⟨rfl, rfl⟩ | ⟨rfl, rfl⟩ := hk
    · exact stays_upd rfl (by omega) ha hs hr h hn
    · exact stays_upd rfl (by omega) ha hs hr h hn
  · subst ha
    exact completes_turn (i := .logRead t c) rfl hs h rfl
  · subst ha
    exact completes_turn (i := .sensorRead t c) rfl hs h rfl
  · change execUpdateIdleTimeout t s = State.done _
    simp [execUpdateIdleTimeout, ← ha, hu, hr, hd]
  · change execNorWindowExpire t k s = State.done _
    simp [execNorWindowExpire, ← ha, ho]

end Sys2Proof.Machine
end

section
/-! PROOFS. Sessions of the management ports and of the debug port (O56). -/

namespace Sys2Proof.Machine

/-- Settles O56: each row, under its conditions, by its guards. -/
theorem managementRowsTakeEffect : Obligations.ManagementRowsTakeEffect := by
  unfold Obligations.ManagementRowsTakeEffect
  refine ⟨fun t p conn s a x n w ha hp hx hn hw => ?_, fun t p conn cred sig s a x ha hp hx hc => ?_,
    fun t p conn cred sig s a ha hp hx => ?_, fun t p conn sub bank arg n data s a x w ha h1 hb hs hp hx hxa hw hsec hst => ?_,
    fun t p conn sub bank arg n data s a x w ha h1 hb hp hx hxa hw => ?_, fun t p conn s a x ha hx hc => ?_,
    fun t p s a x ha hx hp hd => ?_, fun t p s a ha h0 hd => ?_, fun t p n data s a ha hp hsv => ⟨?_, ?_⟩,
    fun t s a ha hd hl hh => ?_, fun t s a w ha hd hh hw => ⟨fun hn => ?_, fun o ho => ?_, ?_⟩, fun t s a x ha hx hxa hd => ?_⟩
  · subst hx hn hw
    change execMgmtHello t p conn s = State.done _
    simp only [execMgmtHello, ← ha, hp, Bool.not_true, Bool.false_eq_true, if_false, beq_iff_eq]
  · change execMgmtAuth t p conn cred sig s = State.done _
    simp only [execMgmtAuth, ← ha, hp, hx, hc, Bool.not_true, Bool.false_eq_true, if_false]
  · change execMgmtAuth t p conn cred sig s = State.done _
    rcases hx with hx | ⟨x, hx, hc⟩
    · simp only [execMgmtAuth, ← ha, hp, hx, Bool.not_true, Bool.false_eq_true, if_false]
    · simp only [execMgmtAuth, ← ha, hp, hx, hc, Bool.not_true, Bool.not_false, Bool.false_eq_true, if_false, if_true]
  · have hgo : (decide (1 < p) || decide (1 < bank) || !a.portTakes p conn) = false := by
      simp [Nat.not_lt.mpr h1, Nat.not_lt.mpr hb, hp]
    have hworld : (!x.auth || (!x.secure && w.blockSecure (if sub == 4 || sub == 5 then 42 else 43))) = false := by
      rcases hsec with h | h
      · simp [hxa, h]
      · simp [hxa, h, beq_iff_eq]
    have hstate : (w.rf Reg.KPR_STAT.STATE == 2 && (sub == 4 || sub == 5)) = false := by
      rcases hst with h | ⟨h4, h5⟩
      · simp [h]
      · simp [h4, h5]
    change execMgmtMailbox t p conn sub bank arg n data s = State.done _
    simp only [execMgmtMailbox, ← ha, hgo, hx, ← hw, hworld, hstate, Nat.not_lt.mpr hs, Bool.false_eq_true, if_false]
  · have hgo : (decide (1 < p) || decide (1 < bank) || !a.portTakes p conn) = false := by
      simp [Nat.not_lt.mpr h1, Nat.not_lt.mpr hb, hp]
    subst hw
    change execMgmtMailbox t p conn sub bank arg n data s = State.done _
    simp only [execMgmtMailbox, ← ha, hgo, hx, hxa, Bool.not_false, Bool.true_or, Bool.false_eq_true, if_false, if_true]
  · change execMgmtClose t p conn s = State.done _
    simp [execMgmtClose, ← ha, hx, hc]
  · change execMgmtSessionIdle t p s = State.done _
    simp [execMgmtSessionIdle, ← ha, hx, hp, hd]
  · have hgo : (tget 0 a.kpr.refuse p == 0 || decide (a.tim.now < tget 0 a.kpr.refuse p - 1)) = false := by
      rw [beq_eq_false_iff_ne.mpr h0, Bool.false_or]
      exact decide_eq_false (by omega)
    change execMgmtLockoutEnd t p s = State.done _
    simp only [execMgmtLockoutEnd, ← ha, hgo, Bool.false_eq_true, if_false]
  · change execMgmtArpIcmpEcho t p 0 n data s = State.done _
    simp [execMgmtArpIcmpEcho, ← ha, Nat.not_lt.mpr hp, hsv]
  · change execMgmtArpIcmpEcho t p 1 n data s = State.done _
    simp [execMgmtArpIcmpEcho, ← ha, Nat.not_lt.mpr hp, hsv]
  · change execDebugHalt t s = State.done _
    simp [execDebugHalt, ← ha, hd, hl, hh]
  · change execDebugRun t false s = State.done _
    simp only [execDebugRun, ← ha, hd, hh, ← hw, hn, Bool.not_true, Bool.or_self, Bool.false_eq_true, if_false]
  · obtain ⟨r, v, hud⟩ : ∃ r v, w.updDo o.src o.sub o.bank o.arg o.n o.data = (r, v) := ⟨_, _, rfl⟩
    refine ⟨r, v, hud, ?_⟩
    change execDebugRun t false s = State.done _
    simp only [execDebugRun, ← ha, hd, hh, ← hw, ho, hud, Bool.not_true, Bool.or_self, Bool.false_eq_true, if_false]
  · change execDebugRun t true s = State.done _
    simp only [execDebugRun, ← ha, hd, hh, Bool.not_true, Bool.or_self, Bool.false_eq_true, if_false, if_true]
  · change execDebugSessionExpire t s = State.done _
    simp [execDebugSessionExpire, ← ha, hx, hxa, hd]

end Sys2Proof.Machine
end

section
/-! PROOFS. What the Keeper does by itself (O57). -/

namespace Sys2Proof.Machine

/-- One flag of a sensor: written, with an event where it changes. -/
def State.sensFlag (n value : Nat) (s : State) (e : Nat × RFld × Nat) : State :=
  if s.rf e.2.1 == e.2.2 then s.wf e.2.1 e.2.2 else (s.wf e.2.1 e.2.2).sensEvent n (if e.2.2 == 1 then e.1 else 3) value

theorem State.sensFlag_same {n value k : Nat} {f : RFld} {v : Nat} {s : State} (h : s.rf f = v) :
    s.sensFlag n value (k, f, v) = s.wf f v := by
  simp [State.sensFlag, h]

theorem State.sensFlag_rise {n value k : Nat} {f : RFld} {s : State} (h : s.rf f = 0) :
    s.sensFlag n value (k, f, 1) = (s.wf f 1).sensEvent n k value := by
  simp [State.sensFlag, h]

/-- A sensor's sample while the Lightship is up: without the Keeper only the value; else the three flags, in their order. -/
theorem execSensorLimit_eq {t n raw : Nat} {flt out : Bool} {s a b w : State} {x : Nat} (ha : a = s.at_ t) (hl : a.pwr.lshipUp = true)
    (hn : n ≤ 84) (hr : ((x, out), b) = a.sensRead n raw) (hw : w = b.wf (Reg.KPR_SENS.VALUE n) x) :
    (w.keeperRuns = false → execSensorLimit t n raw flt s = w.done) ∧
    (∀ lo hi f, w.keeperRuns = true → w.sensFlags n x (flt || out) = (lo, hi, f) →
      execSensorLimit t n raw flt s = (((w.sensFlag n x (0, Reg.KPR_SENS.LOW n, lo)).sensFlag n x (1, Reg.KPR_SENS.HIGH n, hi)).sensFlag
        n x (2, Reg.KPR_SENS.FAULT n, f)).done) := by
  constructor
  · intro hk
    simp [execSensorLimit, ← ha, hl, Nat.not_lt.mpr hn, ← hr, ← hw, hk]
  · intro lo hi f hk hf
    simp only [execSensorLimit, ← ha, hl, decide_eq_false (Nat.not_lt.mpr hn), ← hr, ← hw, hk, hf, Bool.not_true, Bool.or_self,
      Bool.false_eq_true, if_false]
    rfl

/-- Settles O57: each row, under its conditions, by its guards. -/
theorem keeperRowsTakeEffect : Obligations.KeeperRowsTakeEffect := by
  unfold Obligations.KeeperRowsTakeEffect
  refine ⟨fun t s a ha hl hd => ?_, fun t last s a w ha hl hh hd hw => ?_, fun t pc s a ha hl => ?_, fun t s a ha hl => ?_,
    fun t k s a ha hl hc => ?_, fun t bad s a ha hl h0 => ⟨fun h1 => ?_, fun h1 => ?_⟩, fun t s a b k n ha hb htr hk hd hk' hn => ?_,
    fun t n raw flt s a x out b w ha hl hn hr hw => ?_,
    fun t n rpm ma s a ha hn hst hk hd => ⟨fun hs => ?_, fun hs h3 hat => ?_, fun k hs h3 hat hge => ?_⟩,
    fun t n s a ha hn hst hk hd => ?_,
    fun t n rpm ma s a w ha hn hst hk hd hw => ⟨fun hs hb => ?_, fun d hs hb hd' => ?_, fun hs hb => ?_, fun hs hb hc => ?_⟩,
    fun t n rpm ma s a ha hn hst hs hk hd => ?_, fun t s a ha hk => ?_, fun t s a c i p l ha hp hk => ?_,
    fun t off items pct s a r w ha hl hr hw => ?_, fun t s a ha hl hf => ?_, fun t s a ha hf hd => ?_⟩
  · rw [← State.at_pwr s t, ← ha] at hl
    change execKeeperReset t s = State.done _
    simp [execKeeperReset, ← ha, hl, hd]
  · subst hw
    change execKeeperWatchdog ⟨t, last⟩ s = State.done _
    simp only [execKeeperWatchdog, ← ha, hl, hh, decide_eq_false (Nat.not_lt.mpr hd), Bool.not_true, Bool.false_and, Bool.or_self,
      Bool.false_eq_true, if_false]
  · change execLockstepFault t pc s = State.done _
    simp [execLockstepFault, ← ha, hl]
  · change execEccError t s = State.done _
    simp [execEccError, ← ha, hl]
  · rw [← State.at_pwr s t, ← ha] at hl
    change execMaskRomBoot t k s = State.done _
    simp [execMaskRomBoot, ← ha, hl, hc]
  · change execKeeperReady t bad s = State.done _
    simp [execKeeperReady, ← ha, hl, h0, h1]
  · change execKeeperReady t bad s = State.done _
    simp [execKeeperReady, ← ha, hl, h0, h1]
  · subst hk' hn
    change execTrialEnd t s = State.done _
    simp only [execTrialEnd, ← ha, hb, htr, hk, decide_eq_false (Nat.not_lt.mpr hd), Bool.not_true, Bool.or_self, Bool.false_eq_true,
      if_false]
  · rw [← State.at_pwr s t, ← ha] at hl
    obtain ⟨hoff, hon⟩ := execSensorLimit_eq (flt := flt) ha hl hn hr hw
    refine ⟨fun hk => hoff hk, fun lo hi f hk hf h0 h1 h2 => ?_, fun lo hi f hk hf h0 h1 hhi h2 => ?_⟩
    · change execSensorLimit t n raw flt s = State.done _
      rw [hon lo hi f hk hf, State.sensFlag_same h0, State.sensFlag_same h1, State.sensFlag_same h2]
    · subst hhi
      change execSensorLimit t n raw flt s = State.done _
      rw [hon lo 1 f hk hf, State.sensFlag_same h0, State.sensFlag_rise h1, State.sensFlag_same h2]
  · change execFanStartJudge t n rpm ma s = State.done _
    simp [execFanStartJudge, ← ha, Nat.not_lt.mpr hn, hst, hk, Nat.not_lt.mpr hd, hs]
  · change execFanStartJudge t n rpm ma s = State.done _
    simp [execFanStartJudge, ← ha, Nat.not_lt.mpr hn, hst, hk, Nat.not_lt.mpr hd, hs, Nat.not_lt.mpr h3, hat]
  · change execFanStartJudge t n rpm ma s = State.done _
    simp [execFanStartJudge, ← ha, Nat.not_lt.mpr hn, hst, hk, Nat.not_lt.mpr hd, hs, Nat.not_lt.mpr h3, hat, Nat.not_lt.mpr hge]
  · change execFanRetryWaitEnd t n s = State.done _
    simp [execFanRetryWaitEnd, ← ha, Nat.not_lt.mpr hn, hst, hk, Nat.not_lt.mpr hd]
  · change execFanStallDetect t n rpm ma s = State.done _
    simp [execFanStallDetect, ← ha, Nat.not_lt.mpr hn, hst, hk, Nat.not_lt.mpr hd, ← hw, hs, hb]
  · subst hd'
    change execFanStallDetect t n rpm ma s = State.done _
    simp [execFanStallDetect, ← ha, Nat.not_lt.mpr hn, hst, hk, Nat.not_lt.mpr hd, ← hw, hs, hb]
  · change execFanStallDetect t n rpm ma s = State.done _
    simp [execFanStallDetect, ← ha, Nat.not_lt.mpr hn, hst, hk, Nat.not_lt.mpr hd, ← hw, hs, hb]
  · change execFanStallDetect t n rpm ma s = State.done _
    simp [execFanStallDetect, ← ha, Nat.not_lt.mpr hn, hst, hk, Nat.not_lt.mpr hd, ← hw, hs, hb, hc]
  · change execFanTachRecover t n rpm ma s = State.done _
    simp [execFanTachRecover, ← ha, Nat.not_lt.mpr hn, hst, hs, hk, Nat.not_lt.mpr hd]
  · change execFanCurveUpdate t s = State.done _
    simp [execFanCurveUpdate, ← ha, hk]
  · change execKeeperLogWrite t s = State.done _
    simp [execKeeperLogWrite, ← ha, hp, hk]
  · rw [← State.at_pwr s t, ← ha] at hl
    subst hw
    change execStoreBlockRetire t off items pct s = State.done _
    simp only [execStoreBlockRetire, ← ha, hr, hl, Bool.not_true, Bool.false_eq_true, if_false]
  · rw [← State.at_pwr s t, ← ha] at hl
    change execSounderFoldback t s = State.done _
    simp [execSounderFoldback, ← ha, hl, hf]
  · change execSounderFoldbackEnd t s = State.done _
    simp [execSounderFoldbackEnd, ← ha, hf, Nat.not_lt.mpr hd]

end Sys2Proof.Machine
end

section
/-! PROOFS. Register accesses and twin writes (O58, O59). -/

namespace Sys2Proof.Machine

/-- A 32-bit read of a register that the requester may read: the fields that are not hidden from it, and a denial for those that are. -/
theorem State.regRead1_of_open {a b : State} {req off o x : Nat} {quiet : Bool} (haddr : regAddr req off = some o)
    (hserved : a.regServed o = true) (hreg : (findReg o).isSome = true) (hopen : a.regOpen req o = (true, a))
    (htake : a.regTake o (quiet || decide (66 ≤ req)) = (x, b)) :
    (a.hidden req o = [] → a.regRead1 req off quiet = (x, b)) ∧
    (∀ f l, a.hidden req o = f :: l → a.regRead1 req off quiet =
      (x &&& (2 ^ 32 - 1 - (f :: l).foldl (fun m g => m ||| g.mask) 0), b.denied req 1 (fieldBlock o f.lo) o 1)) := by
  have hgo : (!a.regServed o || (findReg o).isNone) = false := by
    rw [hserved, Option.isNone_eq_false_iff.mpr hreg]
    rfl
  constructor
  · intro h
    simp only [State.regRead1, haddr, hgo, hopen, h, htake, Bool.not_true, Bool.false_eq_true, if_false]
  · intro f l h
    simp only [State.regRead1, haddr, hgo, hopen, h, htake, Bool.not_true, Bool.false_eq_true, if_false] <;> rfl

/-- Settles O58: a write that reaches a register is one word for its fields; a read gives what is not hidden. -/
theorem registerAccessesTakeEffect : Obligations.RegisterAccessesTakeEffect := by
  unfold Obligations.RegisterAccessesTakeEffect
  refine ⟨fun t req off o v s a r ha hw ht => ?_, fun t req v s a r ha hw ht => ?_, fun t req v s a r ha hw ht => ⟨?_, ?_⟩,
    fun t req n v s a r ha hn hw ht => ?_, fun t req v s a r ha hw ht => ⟨?_, ?_⟩, fun t req n v s a r ha hn hw ht => ?_,
    fun t req n v s a r ha hn hw ht => ?_, fun t req v s a r ha hw ht => ?_, fun t req v s a r ha hw ht => ?_,
    fun t req off o quiet s a x b ha hm h4 haddr hs hreg ho hh htake => ?_,
    fun t req off o quiet s a x y b w f l ha hm h4 haddr hs hreg ho hh htake hy hw => ?_⟩
  · subst ha
    exact exec_registerWrite_of_reaches hw ht v
  · change execAlmSpillExitWrite t req v s = State.done _
    rw [execAlmSpillExitWrite, ← ha, State.regWrite_of_reaches hw ht]
  · change execSuppEnChange t req v s = State.done _
    rw [execSuppEnChange, ← ha, State.regWrite_of_reaches hw ht]
  · change execFloodEnClear t req none v s = State.done _
    rw [execFloodEnClear, ← ha, State.regWrite_of_reaches hw ht]
  · change execFloodEnClear t req (some n) v s = State.done _
    simp only [execFloodEnClear, Nat.not_le.mpr hn, ← ha, State.regWrite_of_reaches hw ht, if_false]
  · change execPanelEnWrite t req v s = State.done _
    rw [execPanelEnWrite, ← ha, State.regWrite_of_reaches hw ht]
  · change execRetainWrite t req v s = State.done _
    rw [execRetainWrite, ← ha, State.regWrite_of_reaches hw ht]
  · change execHartTxWrite t req n v s = State.done _
    rw [execHartTxWrite, if_neg (Nat.not_le.mpr hn), ← ha, State.regWrite_of_reaches hw ht]
  · change execFanRestart t req n v s = State.done _
    rw [execFanRestart, if_neg (Nat.not_le.mpr hn), ← ha, State.regWrite_of_reaches hw ht]
  · change execRtcCapture t req v s = State.done _
    rw [execRtcCapture, ← ha, State.regWrite_of_reaches hw ht]
  · change execPwronRelease t req v s = State.done _
    rw [execPwronRelease, ← ha, State.regWrite_of_reaches hw ht]
  · have hread := State.regRead_word hm h4 quiet
    rw [(State.regRead1_of_open haddr hs hreg ho htake).1 hh] at hread
    refine ⟨?_, fun h => ?_, fun n hn h => ?_⟩
    · change execRcFieldRead t req off 4 quiet s = State.done _
      rw [execRcFieldRead, ← ha, hread]
    · subst h
      change execAlmSeqLoRead t req quiet s = State.done _
      rw [execAlmSeqLoRead, ← ha, hread]
    · subst h
      change execHartRxRead t req n quiet s = State.done _
      rw [execHartRxRead, if_neg (Nat.not_le.mpr hn), ← ha, hread]
  · have hread := State.regRead_word hm h4 quiet
    rw [(State.regRead1_of_open haddr hs hreg ho htake).2 f l hh, ← hy, ← hw] at hread
    change execRcFieldRead t req off 4 quiet s = State.done _
    rw [execRcFieldRead, ← ha, hread]

/-- A 32-bit write that reaches a register with twin fields is a word of the requester's sequence. -/
theorem State.regWrite_of_twin {a : State} {req off o : Nat} {r : RegDef} (h : WriteReaches req off o r a)
    (ht : TwinTaken req o r = true) (v : Nat) : a.regWrite req off 4 v = a.seqWrite req o (v % 2 ^ 32) := by
  obtain ⟨hacc, halign, haddr, hreg, hserved, hreq, hopen, hsome, hlock⟩ := h
  rw [State.regWrite_word hacc halign]
  rw [TwinTaken] at ht
  simp only [State.regWrite1, haddr, hreg, hserved, beq_false_of_ne hreq, hopen, hsome, hlock, ht, Bool.not_true, Bool.or_false,
    Bool.false_eq_true, if_false, if_true]

/-- The parts of a sequence that is open at an offset and in time. -/
theorem State.seqAt_iff {a : State} {req off : Nat} :
    a.seqAt req off = true ↔ (a.twSeq req).open_ = true ∧ (a.twSeq req).off = off ∧ a.tim.now ≤ (a.twSeq req).t + ofUs 256 := by
  simp [State.seqAt, and_assoc]

/-- A sequence that is shut or in time does not expire. -/
theorem State.seqExpire_idle {a : State} {req : Nat}
    (h : (a.twSeq req).open_ = false ∨ a.tim.now ≤ (a.twSeq req).t + ofUs 256) : a.seqExpire req = a := by
  rw [State.seqExpire, if_pos (by rcases h with h | h <;> simp [h])]

/-- The first word of a sequence opens it. -/
theorem State.seqWrite_open {a : State} {req off v : Nat} (h : (a.twSeq req).open_ = false) :
    a.seqWrite req off v = a.setTwSeq req ⟨true, off, v, a.tim.now⟩ := by
  simp only [State.seqWrite, State.seqExpire_idle (.inl h), h, Bool.false_and, Bool.false_eq_true, if_false]

/-- The second word of a sequence closes it. -/
theorem State.seqWrite_second {a : State} {req off v : Nat} (h : a.seqAt req off = true) :
    a.seqWrite req off v = if twinOk (a.twSeq req).v v then (a.seqShut req).regCommit req off (a.twSeq req).v
      else (a.seqShut req).pairFail (a.twSeq req) v := by
  obtain ⟨hopen, hoff, htime⟩ := State.seqAt_iff.mp h
  simp only [State.seqWrite, State.seqExpire_idle (.inr htime), hopen, hoff, beq_self_eq_true, Bool.and_self, if_true]

/-- A second word that matches gives the register the first. -/
theorem State.secondWord_closes {a : State} {req off v : Nat} {r : RegDef} (h : PairCloses req off v r a) :
    a.secondWord req off v = (a.seqShut req).regCommit req off (a.twSeq req).v := by
  obtain ⟨hw, ht, hq, hok⟩ := h
  rw [State.secondWord, if_pos hq, State.regWrite_of_twin hw ht, State.seqWrite_second hq, if_pos hok]

/-- A second word that does not match fails the pair. -/
theorem State.secondWord_fails {a : State} {req off v : Nat} {r : RegDef} (hw : WriteReaches req off off r a)
    (ht : TwinTaken req off r = true) (hq : a.seqAt req off = true) (hno : twinOk (a.twSeq req).v (v % 2 ^ 32) = false) :
    a.secondWord req off v = (a.seqShut req).pairFail (a.twSeq req) (v % 2 ^ 32) := by
  rw [State.secondWord, if_pos hq, State.regWrite_of_twin hw ht, State.seqWrite_second hq, hno, if_neg Bool.false_ne_true]

/-- Settles O59: by what the first and the second word of a sequence do. -/
theorem twinWritesTakeEffect : Obligations.TwinWritesTakeEffect := by
  unfold Obligations.TwinWritesTakeEffect
  refine ⟨fun t req off v s a r ha hw ht hq htw => ?_, fun t req off v s a r ha h => ?_, fun t req off v s a r ha hw ht hq hno => ?_,
    fun t req s a ha hreq hq hd => ?_,
    fun t req v s a r ha => ⟨fun h => ?_, fun k off hoff h => ?_, fun n hn h => ?_, fun h => ?_, fun h => ?_, fun h => ?_, fun h => ?_⟩,
    fun t off x y img s a m v n ha hs hm h0 hv hn hbad himg => ?_⟩
  · have hshut : a.seqAt req off = false := by simp [State.seqAt, hq]
    change execTwinWriteOpen t req off v s = State.done _
    simp only [execTwinWriteOpen, ← ha, htw, hshut, Bool.not_true, Bool.or_self, Bool.false_eq_true, if_false,
      State.regWrite_of_twin hw ht, State.seqWrite_open hq]
  · change execTwinWriteClose t req off v s = State.done _
    rw [execTwinWriteClose, ← ha, State.secondWord_closes h]
  · change execTwinWriteClose t req off v s = State.done _
    rw [execTwinWriteClose, ← ha, State.secondWord_fails hw ht hq hno]
  · have hown : (decide (2 ≤ req) && decide (req ≤ 64)) = false := by simp [Nat.not_le.mpr hreq]
    have hkpr : (req == 65) = false := by simp only [beq_eq_false_iff_ne]; omega
    have hlate : (!(a.twSeq req).open_ || decide (a.tim.now ≤ (a.twSeq req).t + ofUs 256)) = false := by
      simp [hq, Nat.not_le.mpr hd]
    change execTwinWriteTimeout t req s = State.done _
    simp only [execTwinWriteTimeout, hown, ← ha, State.seqExpire, hlate, hkpr, Bool.false_and, Bool.false_eq_true, if_false]
  · change execWldLockSet t req v s = State.done _
    rw [execWldLockSet, ← ha, State.secondWord_closes h]
  · subst hoff
    change execWldWorldChange t req k v s = State.done _
    rw [execWldWorldChange, ← ha, State.secondWord_closes h]
  · change execWldHregApply t req n v s = State.done _
    rw [execWldHregApply, if_neg (Nat.not_le.mpr hn), ← ha, State.secondWord_closes h]
  · change execHoldAllSet t req v s = State.done _
    rw [execHoldAllSet, ← ha, State.secondWord_closes h]
  · change execKprRestart t req v s = State.done _
    rw [execKprRestart, ← ha, State.secondWord_closes h]
  · change execRtcSet t req v s = State.done _
    rw [execRtcSet, ← ha, State.secondWord_closes h]
  · change execRtcShift t req v s = State.done _
    rw [execRtcShift, ← ha, State.secondWord_closes h]
  · have hgo : (m == 0 || !(if mainReg off then a.pwr.mainUp else a.pwr.lshipUp) || (v ^^^ n) &&& m == m) = false := by
      simp [h0, hs, hbad]
    have hfac : (img && a.img.use != 0) = false := by
      rcases himg with h | h <;> simp [h]
    change execHeldTwinScrub t [(off, x, y)] img s = State.done _
    simp only [execHeldTwinScrub, List.foldl_cons, List.foldl_nil, ← ha, State.heldTwin, ← hm, ← hv, ← hn, hgo, hfac,
      Bool.false_eq_true, if_false]

end Sys2Proof.Machine
end

section
/-! PROOFS. The backup domain (O60). -/

namespace Sys2Proof.Machine

/-- A measurement of the cell that is due: the third in a row below 2200 mV sets VBAK_LOW, the third from 2300 mV up clears it. -/
theorem execVbakMeasure_eq {t mv lo hi : Nat} {s a w : State} (ha : a = s.at_ t) (hl : a.pwr.lshipUp = true)
    (hd : a.bkp.vbakNext ≤ a.tim.now) (hlo : lo = if mv < 2200 then a.bkp.vbakLow + 1 else 0)
    (hhi : hi = if 2300 ≤ mv then a.bkp.vbakHigh + 1 else 0)
    (hw : w = (a.wf Reg.BKP_VBAK_MV.MV (min mv 4095)).onBkp fun b =>
      { b with vbakLow := lo, vbakHigh := hi, vbakNext := a.tim.now + ofS 60 }) :
    execVbakMeasure t mv s = (if 3 ≤ lo && !w.rb Reg.BKP_STAT.VBAK_LOW then
      (w.wf Reg.BKP_STAT.VBAK_LOW 1).bkpRaise Ev.BKP_VBAK_LOW 0 [mv] 0
      else if 3 ≤ hi then w.wf Reg.BKP_STAT.VBAK_LOW 0 else w).done := by
  subst hw hlo hhi
  have hgo : (!a.pwr.lshipUp || decide (a.tim.now < a.bkp.vbakNext)) = false := by simp [hl, Nat.not_lt.mpr hd]
  simp only [execVbakMeasure, ← ha, hgo, Bool.false_eq_true, if_false]

/-- Settles O60: each row, under its conditions, by its guards. -/
theorem backupRowsTakeEffect : Obligations.BackupRowsTakeEffect := by
  unfold Obligations.BackupRowsTakeEffect
  refine ⟨fun t s a ha hl => ?_, fun t s a b c ha hl hv hb hs hc w hw sec sub hsec hsub => ?_,
    fun t mv s a w ha hl hd hw => ⟨fun hlo hc hn => ?_, fun hhi hc => ?_, fun hlo hhi => ?_⟩, fun t s => rfl, fun t s w hw ho => ?_,
    fun t s => rfl, fun t watch n segs cut s a b m spread src r reason bad ha hsrc hr hbad hb hm hsp hre w hw v hv => ?_, fun t s => rfl,
    fun t s a ha h0 hd => ?_, fun t s a w ha h0 hd hw => ⟨fun hp => ?_, fun hp => ?_⟩⟩
  · rw [← State.at_pwr s t, ← ha] at hl
    change execBackupSwitchover t s = State.done _
    simp only [execBackupSwitchover, ← ha, hl, if_true]
  · rw [← State.at_pwr s t, ← ha] at hl
    change execBackupSwitchover t s = State.done _
    simp only [execBackupSwitchover, ← ha, hl, hv, ← hb, hs, ← hc, ← hw, ← hsec, ← hsub, Bool.not_false, Bool.not_true,
      Bool.false_eq_true, if_false, if_true]
  · rw [← State.at_pwr s t, ← ha] at hl
    refine (execVbakMeasure_eq ha hl hd rfl rfl hw).trans ?_
    rw [if_pos (by simp [hlo, hc, hn])]
    rfl
  · rw [← State.at_pwr s t, ← ha] at hl
    refine (execVbakMeasure_eq ha hl hd rfl rfl hw).trans ?_
    rw [if_neg (by simp [show ¬ mv < 2200 by omega]), if_pos (by simp [hhi, hc])]
    rfl
  · rw [← State.at_pwr s t, ← ha] at hl
    refine (execVbakMeasure_eq ha hl hd rfl rfl hw).trans ?_
    rw [if_neg (by simp [Nat.not_lt.mpr hlo]), if_neg (by simp [Nat.not_le.mpr hhi])]
    rfl
  · change execCrystalFail t s = State.done _
    simp only [execCrystalFail, ← hw, ho, Bool.false_eq_true, if_false]
  · change execTrimWindowEnd t watch n segs cut s = State.done _
    simp only [execTrimWindowEnd, ← ha, ← hsrc, beq_iff_eq, ← hr, ← hbad, ← hb, ← hm, ← hsp, ← hre, ← hw]
    subst hv
    by_cases h0 : src = 0 <;> by_cases h1 : reason = 0 <;> simp [h0, h1]
  · change execPwronPulseEnd t s = State.done _
    simp [execPwronPulseEnd, ← ha, h0, Nat.not_lt.mpr hd]
  · change execPwronHoldoffEnd t s = State.done _
    simp [execPwronHoldoffEnd, ← ha, h0, Nat.not_lt.mpr hd, ← hw, hp]
  · change execPwronHoldoffEnd t s = State.done _
    simp [execPwronHoldoffEnd, ← ha, h0, Nat.not_lt.mpr hd, ← hw, hp]

end Sys2Proof.Machine
end

section
/-! PROOFS. The read commands write their buffer and nothing else outside the given places (O9). -/

namespace Sys2Proof.Machine

/-- Host memory is written only where `State.mayStore` says and in the `n` bytes from `lo` on, and no place is added to it. -/
def OutBut (lo n : Nat) (s u : State) : Prop :=
  ∀ a, ¬ s.mayStore a → (a < lo ∨ lo + n ≤ a) → ¬ u.mayStore a ∧ u.hostByte a = s.hostByte a

section
variable {lo n : Nat} {s t u : State}

theorem Out.outBut (h : Out s u) : OutBut lo n s u := fun a ha _ => h a ha

theorem OutBut.out (h : OutBut lo n s t) (k : Out t u) : OutBut lo n s u := by
  intro a ha hout
  obtain ⟨hplace, hbyte⟩ := h a ha hout
  exact ⟨(k a hplace).1, (k a hplace).2.trans hbyte⟩

theorem Out.trans_outBut (h : Out s t) (k : OutBut lo n t u) : OutBut lo n s u := by
  intro a ha hout
  obtain ⟨hplace, hbyte⟩ := h a ha
  exact ⟨(k a hplace hout).1, (k a hplace hout).2.trans hbyte⟩

/-- A store reaches its own bytes only. -/
theorem State.hostPut_outBut {m : Nat} (v : Nat) (h : m ≤ n) : OutBut lo n s (s.hostPut lo m v) := by
  intro a ha hout
  exact ⟨ha, State.hostPut_hostByte_outside s v (by omega)⟩

end

/-- The data of a read command stay in its buffer. -/
theorem State.bufPut_outBut {c : Cmd} {n v : Nat} {s : State} (h : n ≤ c.bufLen) : OutBut c.buf c.bufLen s (s.bufPut c n v) :=
  (State.levelA_kept.out rfl).trans_outBut (State.hostPut_outBut v h)

/-- A buffer that the checks accept holds the bytes needed (R541). -/
theorem preCheck_need {sp : Spec} {c : Cmd} {s : State} (h : (s.preCheck sp c).1 = none) : sp.need ≤ c.bufLen := by
  refine Nat.le_of_not_lt fun hlt => ?_
  revert h
  unfold State.preCheck
  simp only [hlt, if_true]
  repeat' split
  all_goals exact fun h => nomatch h

/-- A command stores no more than its effect does: the checks and the completion keep to the given places. -/
theorem command_outBut {t lo n : Nat} {sp : State → Spec} {c : Cmd} {body : State → Option Reply × State} {s : State}
    (h : (sp (s.at_ t)).need ≤ c.bufLen → OutBut lo n (s.at_ t) (body (s.at_ t)).2) : OutBut lo n s (s.command t sp c body) := by
  have hat : Out s (s.at_ t) := State.at__kept.out rfl
  cases hd : (s.at_ t).dispatchable (sp (s.at_ t)) c with
  | none =>
    rw [command_idle hd]
    exact (Out.refl s).outBut
  | some x =>
    rcases hp : (s.at_ t).preCheck (sp (s.at_ t)) c with ⟨_ | r, v⟩
    · have hpass : ((s.at_ t).preCheck (sp (s.at_ t)) c).1 = none := by rw [hp]
      have hbody := hat.trans_outBut (h (preCheck_need hpass))
      rcases hb : body (s.at_ t) with ⟨_ | r, w⟩ <;> rw [hb] at hbody
      · rw [command_stays ⟨hd, hpass⟩ hb]
        exact hbody.out (State.holdCmd_kept.out rfl)
      · rw [command_completes ⟨hd, hpass⟩ hb]
        exact hbody.out (State.reply_kept.out rfl)
    · have hv : Out (s.at_ t) v := by simpa only [hp] using (State.preCheck_kept (sp := sp (s.at_ t)) (c := c) (s := s.at_ t)).out rfl
      rw [command_refused hd hp]
      exact ((hat.trans hv).trans (State.reply_kept.out rfl)).outBut

/-! The check of a point's condition records leaves their slots alone. -/

/-- A point without a configuration has no slots. -/
theorem slotList_factory : slotList Pt.factory = [] := by
  have hmask : fget Pt.COND_MASK Pt.factory = 0 := by decide +kernel
  simp [slotList, hmask]

/-- A point whose conditions' mask and base a change leaves alone keeps its slots. -/
theorem State.slotsOf_modPt {s : State} {i : Nat} {f : Rec 128 → Rec 128} (hm : ∀ p, fget Pt.COND_MASK (f p) = fget Pt.COND_MASK p)
    (hb : ∀ p, fget Pt.COND_BASE (f p) = fget Pt.COND_BASE p) (hne : s.slotsOf i ≠ []) : (s.modPt i f).slotsOf i = s.slotsOf i := by
  have hlist (p : Rec 128) : slotList (f p) = slotList p := by rw [slotList, slotList, hm, hb]
  have hmade : f (s.pt i) ≠ Pt.factory := by
    intro h
    apply hne
    rw [State.slotsOf, ← hlist, h, slotList_factory]
  have hpt : (s.modPt i f).pt i = f (s.pt i) := tget_tset_some _ _ _ _ hmade
  rw [State.slotsOf, hpt, hlist, ← State.slotsOf]

/-- What leaves the points alone leaves their slots alone. -/
theorem State.slotsOf_kept {m : Nat} {s u : State} (h : Kept m s u) (hp : m.testBit 8 = false) (i : Nat) : u.slotsOf i = s.slotsOf i := by
  rw [State.slotsOf, State.slotsOf, State.pt, State.pt, h.pts hp]

theorem State.slotsOf_mirrorBits {s : State} {i : Nat} (hne : s.slotsOf i ≠ []) : (s.mirrorBits i).slotsOf i = s.slotsOf i := by
  unfold State.mirrorBits
  exact State.slotsOf_modPt (fun p => by rw [fget_fput_ne _ _ _ _ (by decide), fget_fput_ne _ _ _ _ (by decide)])
    (fun p => by rw [fget_fput_ne _ _ _ _ (by decide), fget_fput_ne _ _ _ _ (by decide)]) hne

theorem State.slotsOf_requal {s : State} {i : Nat} (hne : s.slotsOf i ≠ []) : (s.requal i).slotsOf i = s.slotsOf i :=
  State.slotsOf_modPt (fun _ => fget_fput_ne _ _ _ _ (by decide)) (fun _ => fget_fput_ne _ _ _ _ (by decide)) hne

theorem State.slotsOf_emit {s : State} {i slot c t : Nat} {old v : CS} (hne : s.slotsOf i ≠ []) :
    (s.emit i slot c old v t).slotsOf i = s.slotsOf i := by
  rcases htake : s.takeSeq with ⟨n, u⟩
  have hu : u.slotsOf i = s.slotsOf i := by
    have hkept := State.slotsOf_kept (State.takeSeq_kept (s := s)) rfl i
    rwa [htake] at hkept
  have hstamp : (if v.key == old.key then u else u.modCond c (fput Cond.T_CHANGE t)).slotsOf i = s.slotsOf i := by
    split
    · exact hu
    · exact (State.slotsOf_kept State.modCond_kept rfl i).trans hu
  have hnumber := State.slotsOf_modPt (f := fput Pt.LAST_SEQ n) (fun _ => fget_fput_ne _ _ _ _ (by decide))
    (fun _ => fget_fput_ne _ _ _ _ (by decide)) (by rwa [hstamp])
  simp only [State.emit, htake]
  exact (State.slotsOf_kept State.toSectors_kept rfl i).trans (hnumber.trans hstamp)

theorem State.slotsOf_pass {s : State} {i slot c prio t : Nat} {old : CS} (hne : s.slotsOf i ≠ []) :
    (s.pass i slot c old prio t).slotsOf i = s.slotsOf i := by
  have hfirst : (if s.prio c == prio then s else s.emit i slot c old old t).slotsOf i = s.slotsOf i := by
    split
    · rfl
    · exact State.slotsOf_emit hne
  simp only [State.pass]
  split
  · exact hfirst
  · exact (State.slotsOf_emit (by rwa [hfirst])).trans hfirst

theorem State.slotsOf_input {s : State} {i t : Nat} (hne : s.slotsOf i ≠ []) : (s.input i t id).slotsOf i = s.slotsOf i := by
  have hcheck : (s.condsCheck i).slotsOf i = s.slotsOf i := State.slotsOf_kept State.condsCheck_kept rfl i
  have hbits : (((s.condsCheck i).mirrorBits i).requal i).slotsOf i = s.slotsOf i := by
    have hm := (State.slotsOf_mirrorBits (by rwa [hcheck])).trans hcheck
    exact (State.slotsOf_requal (by rwa [hm])).trans hm
  have hfold (l : List (Nat × Nat × CS × Nat)) : ∀ u : State, u.slotsOf i = s.slotsOf i →
      (l.foldl (fun s k => s.pass i k.1 k.2.1 k.2.2.1 k.2.2.2 t) u).slotsOf i = s.slotsOf i := by
    induction l with
    | nil => exact fun u hu => hu
    | cons k l ih => exact fun u hu => ih _ ((State.slotsOf_pass (by rwa [hu])).trans hu)
  exact hfold _ _ hbits

/-- R89: the check of a point's condition records leaves its slots alone. -/
theorem State.slotsOf_condGuard (s : State) (i t : Nat) : (s.condGuard i t).slotsOf i = s.slotsOf i := by
  unfold State.condGuard
  split
  · rfl
  case isFalse h =>
    refine State.slotsOf_input fun hnil => h ?_
    rw [hnil]
    rfl

/-! The effects of the read commands. -/

section
variable {c : Cmd} {s : State}

theorem bodyPntRead_outBut (h : (specPntRead c s).need ≤ c.bufLen) : OutBut c.buf c.bufLen s (bodyPntRead c s).2 := by
  have hguard : Out s (s.condGuard (tagIdx (c.d 8)) s.wt) := State.condGuard_kept.out rfl
  refine hguard.trans_outBut (State.bufPut_outBut ?_)
  rw [State.slotsOf_condGuard]
  exact h

theorem condGuards_out (l : List (Nat × Nat × Nat)) (s : State) : Out s (l.foldl (fun s k => s.condGuard k.1 s.wt) s) := by
  induction l generalizing s with
  | nil => exact Out.refl s
  | cons k l ih => exact (State.condGuard_kept.out rfl).trans (ih _)

theorem bodyAlmCondRead_outBut (h : (specAlmCondRead c s).need ≤ c.bufLen) : OutBut c.buf c.bufLen s (bodyAlmCondRead c s).2 := by
  have hguard := condGuards_out (s.almTargets c) s
  unfold bodyAlmCondRead
  dsimp only
  split
  · dsimp only
    split
    · exact hguard.outBut
    case isFalse h0 =>
      refine hguard.trans_outBut (State.bufPut_outBut ?_)
      simpa [specAlmCondRead, h0] using h
  · exact hguard.outBut

theorem bodySecCauseRead_outBut (h : (specSecCauseRead c s).need ≤ c.bufLen) : OutBut c.buf c.bufLen s (bodySecCauseRead c s).2 := by
  unfold bodySecCauseRead
  split
  · exact (Out.refl s).outBut
  case h_2 n hn =>
    refine State.bufPut_outBut ?_
    simpa [specSecCauseRead, hn] using h

theorem bodyCmwBaseline_outBut (h : (specCmwBaseline c s).need ≤ c.bufLen) : OutBut c.buf c.bufLen s (bodyCmwBaseline c s).2 := by
  unfold bodyCmwBaseline okWith
  dsimp only
  split
  · exact ((State.setBase_kept.out rfl).trans (State.dirtyHost_kept.out rfl)).outBut
  · exact ((State.setBase_kept.out rfl).trans (State.dirtyHost_kept.out rfl)).outBut
  · exact (State.setBase_kept.out rfl).outBut
  case h_4 h0 h1 h2 =>
    refine State.bufPut_outBut ?_
    have hn : (specCmwBaseline c s).need = 4096 := by
      simp only [specCmwBaseline, beq_eq_false_iff_ne.mpr h0, beq_eq_false_iff_ne.mpr h2, Bool.false_eq_true, if_false]
    rwa [hn] at h

theorem bodyBcnTableRead_outBut (h : (specBcnTableRead c s).need ≤ c.bufLen) : OutBut c.buf c.bufLen s (bodyBcnTableRead c s).2 :=
  (State.dmRemain_kept.out rfl).trans_outBut (State.bufPut_outBut h)

theorem bodyLdgSnapshot_outBut (h : (specLdgSnapshot c s).need ≤ c.bufLen) : OutBut c.buf c.bufLen s (bodyLdgSnapshot c s).2 :=
  (State.snapLive_kept.out rfl).trans_outBut (State.bufPut_outBut h)

end

/-- The effect of a read command, on a state where its buffer is long enough, stores to the buffer only; nothing is due before it. -/
theorem read_outBut {i : Instr} {h : HostCmd} (hi : readsToBuffer i = true) (e : hostCmd i = some h) :
    (∀ s, h.pre s = s) ∧ ∀ s, (h.spec s).need ≤ h.c.bufLen → OutBut h.c.buf h.c.bufLen s (h.body s).2 := by
  cases i
  case pntRead => cases e; exact ⟨fun _ => rfl, fun _ => bodyPntRead_outBut⟩
  case almCondRead => cases e; exact ⟨fun _ => rfl, fun _ => bodyAlmCondRead_outBut⟩
  case secCauseRead => cases e; exact ⟨fun _ => rfl, fun _ => bodySecCauseRead_outBut⟩
  case cmwBaseline => cases e; exact ⟨fun _ => rfl, fun _ => bodyCmwBaseline_outBut⟩
  case bcnTableRead => cases e; exact ⟨fun _ => rfl, fun _ => bodyBcnTableRead_outBut⟩
  case ldgSnapshot => cases e; exact ⟨fun _ => rfl, fun _ => bodyLdgSnapshot_outBut⟩
  case ringQuery | secRead | cmwRead | ctlTuneRead | ctlLoopRead | ldgTripRead | fabRouteRead | logRead | sensorRead =>
    cases e
    exact ⟨fun _ => rfl, fun _ => State.bufPut_outBut⟩
  all_goals cases hi

/-- Settles O9: a read command stores its data to its buffer and its completion to the ring; what stands around them keeps to the given
places. -/
theorem readsWriteTheirBuffer : Obligations.ReadsWriteTheirBuffer := by
  intro i h s u a hi e hu ha hout
  obtain ⟨hpre, hbody⟩ := read_outBut hi e
  have hend : OutBut h.c.buf h.c.bufLen s u := by
    rw [exec_hostCmd e, hpre] at hu
    split at hu
    · cases hu
      exact (State.settle_kept.out rfl).outBut
    · cases hu
      exact (command_outBut (hbody _)).out (State.settle_kept.out rfl)
  exact (hend a ha hout).2

end Sys2Proof.Machine
end
